-- ==== Sys2Proof/Word.lean ====
section
/-!
DEFINITION. The words of the Z96: the 64-bit lane word, the 32-bit register word and syllable, the byte (R6, R8, R107).
-/
namespace Sys2Proof

/-- A lane word: the width of g0 to g63 (R107). -/
abbrev Word := BitVec 64

/-- A register word (R6) or a syllable (R109). -/
abbrev Word32 := BitVec 32

/-- A byte of memory or of a frame. -/
abbrev Byte := BitVec 8

end Sys2Proof
end

