-- ==== Sys2Proof/Machine/Args.lean ====
section
/-!
DEFINITION. The operands of commands: the fields of a lane operation syllable (R109 to R111), who makes a register access,
which output a protection event concerns, and the quantities the dies measure.
-/
namespace Sys2Proof.Machine

/-- The operations of the opcode table (R115). -/
inductive OpKind where
  | nop | add | addi | sub | and | andi | or | ori | xor | xori | shl | shli | shr | shri | sar | sari | mov | li | lih
  | sel | min | max | minu | maxu | abs | clz | popc | sext | adds | subs
  | cmpeq | cmpne | cmplt | cmple | cmpltu | cmpleu | cmpeqi | cmplti | tstb | pand | por | pnot | pget | pset
  | mul | mulhs | mulhu | div | divu | rem | remu
  | ldb | ldbu | ldh | ldhu | ldw | ldwu | ldd | lddx | stb | sth | stw | std | stdx | tas | lr | sc
  | br | brl | bri | bril | endb | wait | dropp | rdcyc | rdlane | trap
  deriving DecidableEq, Repr

/-- The slots of a bundle, A to D (R109). -/
inductive Slot where
  | a | b | c | d
  deriving DecidableEq, Repr

/-- One operation syllable of a physical lane's bundle, with the extension syllables behind it (R109, R111): slot, guard
negate and predicate, bits [17:0], extension payloads, and the stop bit of its last syllable. -/
structure Op where
  lane : Fin 4
  slot : Slot
  neg : Bool
  pred : Fin 8
  opnd : BitVec 18
  ext : List (BitVec 24)
  stop : Bool
  deriving DecidableEq, Repr

/-- An operation syllable with its opcode. -/
structure Syl where
  kind : OpKind
  op : Op
  deriving DecidableEq, Repr

/-- Who makes a register access: the view (R15, R31), the physical lane, and whether plains code makes it (R98). -/
structure By where
  priv : Bool
  lane : Fin 4
  plain : Bool
  deriving DecidableEq, Repr

/-- Why a lane goes out of service (R136). -/
inductive LaneFaultKind where
  | residue | uncorrectable | memory | clock
  deriving DecidableEq, Repr

/-- An output of a power die. -/
inductive OutUnit where
  | lsw (n : Fin 96) | hbr (n : Fin 16) | vd (n : Fin 24) | vb (b : Fin 4) | sink (n : Fin 32) | stage (s : Fin 4)
  | matrix
  deriving DecidableEq, Repr

/-- What the power dies have measured when a col opens, by unit number; missing entries are 0. Fall-back codes and codes
of root-mean-square current of the load switches with the saturation marks (R156, R157), mean and root-mean-square
bridge currents in 5 mA (R218), root-mean-square coil currents in 2 mA and rail currents in 10 mA (R254), stage input
currents in 10 mA and output currents in mA (R281), the reference temperatures of the dies in 1/64 °C (R499), and the
counts between the first and last die applying (R18). [log entry 162 DESIGN CHOICE] -/
structure ColIn where
  ifb : List Nat
  irms : List Nat
  sat : List Bool
  hbAvg : List Int
  hbRms : List Nat
  chopped : List Bool
  vdRms : List Nat
  vbRms : List Nat
  stageIn : List Nat
  stageOut : List Nat
  dieRef : List Int
  spread : Nat
  deriving DecidableEq, Repr

/-- What the ledger engine is delivered besides the channels' currents: root-mean-square stud currents in mA (R188), the
input current of the PKS charger and of the matrix rail in mA (R254, R281), and whether the update ended by C + 400. -/
structure LedgerIn where
  supA : Nat
  supB : Nat
  pks : Nat
  matrix : Nat
  inTime : Bool
  deriving DecidableEq, Repr

/-- What a profile context sees at an engine step (R240, R248): the count of the step, the coil current in mA, and
whether the selected edge of the VP pin or a current dip falls in the step. -/
structure CoilIn where
  now : Nat
  current : Nat
  vpEvent : Bool
  dipEvent : Bool
  deriving DecidableEq, Repr

/-- Trips of a lighting stage (R275). -/
inductive StageTrip where
  | overvoltage | short | leak | thermal
  deriving DecidableEq, Repr

/-- A dictionary frame as it has arrived (R321, R322, R328, R329): the port (0 ETA, 1 ETB, 2 TS, 3 to 10 CAN0 to CAN7), the
transport form (0 UDP, 1 raw Ethernet on TS, 2 CAN), whether its frame check and checksums pass, for CAN whether it is a CAN
FD frame and uses bit-rate switching, the bytes of payload (UDP), behind the subtype (raw) or of data (CAN), and the fields
of the message. -/
structure DictFrame where
  port : Fin 11
  form : Fin 3
  intact : Bool
  fd : Bool
  brs : Bool
  room : Nat
  ver : Byte
  op : Byte
  flags : Byte
  status : Byte
  client : BitVec 16
  bodyLen : BitVec 16
  cseq : BitVec 32
  index : BitVec 16
  sub : Byte
  vtype : Byte
  body : List Byte
  tag : BitVec 64
  deriving DecidableEq, Repr

/-- A frame on a field bus that is no dictionary frame (R334, R341): the port as in R339 (0 to 7 CAN, 8 TS, 9 ETA, 10 ETB, 11
to 22 LIN), a frame the standards' supported parts cover, whether its check passes, 29-bit identifier, identifier or
EtherType, destination is the port's unicast address, and the data. -/
structure BusFrame where
  port : Fin 23
  supported : Bool
  intact : Bool
  ext : Bool
  ident : BitVec 32
  unicast : Bool
  data : List Byte
  deriving DecidableEq, Repr

/-- What a CAN port's wake filter sees (R382): a wake-up pattern, a classical frame, or a frame in error. -/
inductive CanWake where
  | pattern
  | frame (ext : Bool) (ident : BitVec 29) (dlc : BitVec 4) (data : BitVec 64)
  | error
  deriving DecidableEq, Repr

/-- What the key store finds at a start (R419, R420, R425, R428): the PUF root regenerated, the first-boot record good, the
generator's health test passed, and the stored records that fail. -/
structure KeysIn where
  puf : Bool
  first : Bool
  trng : Bool
  bad : List Nat
  deriving DecidableEq, Repr

/-- What a start finds: the key store's checks, places in the journal ring of records that fail in both banks (R363), and the
slow-base count at the first slow tick of an exit from V3 (R291). -/
structure StartIn where
  keys : KeysIn
  bad : List Nat
  slow : Nat
  deriving DecidableEq, Repr

/-- What the frame of a UHF answer carries (R403): the slot of arrival, the count of the last edge of the sync word, the
frame's 22 bytes. -/
structure UhfFrame where
  slot : Fin 16
  edge : Nat
  bytes : List Byte
  deriving DecidableEq, Repr

/-- Events of an aerial (R395). -/
inductive AerialEvent where
  | open' | short | thermal
  deriving DecidableEq, Repr

/-- Diagnostics of the matrix (R280). -/
inductive MatrixDiag where
  | column (c : Fin 16) | line (l : Fin 12) | rail
  deriving DecidableEq, Repr

end Sys2Proof.Machine
end

