-- ==== Sys2Proof/Syntax.lean ====
section
/-!
DEFINITION. The commands of the Z96: one constructor for each row of the spec's table of operations and events, with the
operands the row's rule gives it. A row's rule stands in its docstring.
-/
namespace Sys2Proof

/-- A command: an operation of a lane or engine, a register access, a frame, or an event at a die or pin.
[log entry 164 DESIGN CHOICE] -/
inductive Instr where
  /-- REGISTER_WRITE (R12). A lane or dictionary write to a register field that has no behaviour of its own sets, clears or stages the field under its access code. -/
  | registerWrite (by_ : Machine.By) (off : BitVec 22) (val : Word32)
  /-- READ_CLEAR (R14). A lane read of an RC field returns its value and clears it, merging any hardware update that falls in the same count. -/
  | readClear (by_ : Machine.By) (off : BitVec 22)
  /-- GROUP_FIRST_READ (R292). A read of the first word of a latched group returns it live and loads the lane's latch with the other words of the group. -/
  | groupFirstRead (by_ : Machine.By) (off : BitVec 22)
  /-- PAIR_HIGH_WRITE (R293). A write of the high word of a writable pair commits both words, using the low word held in the holding register. -/
  | pairHighWrite (by_ : Machine.By) (off : BitVec 22) (val : Word32)
  /-- STAGE_CUTOFF (R43). At C − 100 each staged value is frozen as the output set for the coming col, and one-shot request bits read 0. -/
  | stageCutoff
  /-- DIE_LINK_FRAME (R18). A power die receives a die link frame carrying its frozen output set; a frame that fails its CRC is discarded and raises FLT_SYS_DIELINK. -/
  | dieLinkFrame (die : Fin 4) (crcOk : Bool) (inTime : Bool)
  /-- DIE_LINK_LOSS (R19). A power die that has had no valid die link frame for 4 ticks treats itself as under controller reset and holds its channels. -/
  | dieLinkLoss (die : Fin 4)
  /-- COL (R43). At a col the input snapshot latches, the commit strobe leaves, the power dies apply col-mode outputs, and the snapshot area and LAST_COMMIT are written. -/
  | col (m : Machine.ColIn)
  /-- LEDGER_UPDATE (R188). The ledger engine updates every segment temperature and budget from the tick's currents, and then lowers reservations where a budget is exceeded. -/
  | ledgerUpdate (m : Machine.LedgerIn)
  /-- PASS_NOP (R49). A NOP pass issues and does nothing. -/
  | passNop (off : Nat) (lane : Fin 4)
  /-- PASS_CODE (R93). A CODE pass releases a code block on its owning lane, or raises an overrun when the lane is not at its end-of-block wait. -/
  | passCode (off : Nat) (lane : Fin 4) (block : BitVec 16) (entry : BitVec 16)
  /-- PASS_EDGE (R47). An EDGE pass applies the frozen value of one edge-mode channel at the power die 4 counts later. -/
  | passEdge (off : Nat) (lane : Fin 4) (chan : Machine.OutUnit)
  /-- PASS_SAMPLE (R305). A SAMPLE pass starts conversion or sampling of an input group, or is ignored with OVERLAP when the group is busy. -/
  | passSample (off : Nat) (lane : Fin 4) (group : Byte)
  /-- PASS_BUS_TX (R339). A BUS_TX pass hands the frame of a bus transmit entry to its port queue, replacing a previous frame of the entry that is still queued. -/
  | passBusTx (off : Nat) (lane : Fin 4) (entry : BitVec 16)
  /-- PASS_LIN_SLOT (R343). A LIN_SLOT pass starts a commander frame or arms a responder entry on a LIN port. -/
  | passLinSlot (off : Nat) (lane : Fin 4) (entry : BitVec 16) (port : Fin 12)
  /-- PASS_SCAN (R278). A SCAN pass starts a matrix frame or a single line, or is ignored with OVERLAP while one is running. -/
  | passScan (off : Nat) (lane : Fin 4) (line : Option (Fin 12))
  /-- PASS_ACCESS (R398). An ACCESS pass starts a passive-entry round in hardware, or is ignored with OVERLAP. -/
  | passAccess (off : Nat) (lane : Fin 4) (entry : BitVec 16)
  /-- PASS_MARK (R50). A MARK pass checks that the owning lane has finished the named block and raises FLT_TICK_OVERRUN if it has not. -/
  | passMark (off : Nat) (lane : Fin 4) (block : BitVec 16)
  /-- PASS_PLAIN (R127). A PLAIN pass switches the lane to bank P and resumes or starts plains code. -/
  | passPlain (off : Nat) (lane : Fin 4) (len : BitVec 20)
  /-- PLAIN_SUSPEND (R97). At the end of a plain's allowance, or at the col, the plains code is stopped at a bundle boundary and its context is saved. -/
  | plainSuspend (lane : Fin 4)
  /-- LOAD (R59). A write of TICK.CTRL.LOAD in NOPLAN starts loading the committed plan image. -/
  | load (by_ : Machine.By)
  /-- PLAN_LOAD_DONE (R59). The loader finishes its checks, and the sequencer enters ARMED or returns to NOPLAN with FLT_TICK_PLANLOAD. -/
  | planLoadDone
  /-- LANE_FAULT (R136). A residue mismatch, an uncorrectable error or a lane clock fault takes a lane out of service at count D. -/
  | laneFault (lane : Fin 4) (kind : Machine.LaneFaultKind)
  /-- NARROWS_SWITCH (R64). At the first col at least 200 counts after a lane loss, the narrows tables, pass table and fetch remap take effect. -/
  | narrowsSwitch
  /-- HO_ARM (R67). A write of TICK.CTRL.HO_ARM arms a handover at col H, or is refused with HO_REFUSED. -/
  | hoArm (by_ : Machine.By)
  /-- HO_ABORT (R70). A write of TICK.CTRL.HO_ABORT before col H − 1 cancels the armed handover. -/
  | hoAbort (by_ : Machine.By)
  /-- HANDOVER (R68). At col H the plan tables switch to the new plan, and the loader copies code, data and carry state before col H + 1. -/
  | handover
  /-- NOP (R115). Lane operation that does nothing. -/
  | laneNop (op : Machine.Op)
  /-- ADD (R115). Lane operation: rd ← ra + rb modulo 2^64. -/
  | laneAdd (op : Machine.Op)
  /-- ADDI (R115). Lane operation: rd ← ra + immediate. -/
  | laneAddi (op : Machine.Op)
  /-- SUB (R115). Lane operation: rd ← ra − rb modulo 2^64. -/
  | laneSub (op : Machine.Op)
  /-- AND (R115). Lane operation: bitwise AND. -/
  | laneAnd (op : Machine.Op)
  /-- ANDI (R115). Lane operation: bitwise AND with an immediate. -/
  | laneAndi (op : Machine.Op)
  /-- OR (R115). Lane operation: bitwise OR. -/
  | laneOr (op : Machine.Op)
  /-- ORI (R115). Lane operation: bitwise OR with an immediate. -/
  | laneOri (op : Machine.Op)
  /-- XOR (R115). Lane operation: bitwise XOR. -/
  | laneXor (op : Machine.Op)
  /-- XORI (R115). Lane operation: bitwise XOR with an immediate. -/
  | laneXori (op : Machine.Op)
  /-- SHL (R115). Lane operation: shift left by rb[5:0]. -/
  | laneShl (op : Machine.Op)
  /-- SHLI (R115). Lane operation: shift left by SH6. -/
  | laneShli (op : Machine.Op)
  /-- SHR (R115). Lane operation: logical shift right by rb[5:0]. -/
  | laneShr (op : Machine.Op)
  /-- SHRI (R115). Lane operation: logical shift right by SH6. -/
  | laneShri (op : Machine.Op)
  /-- SAR (R115). Lane operation: arithmetic shift right by rb[5:0]. -/
  | laneSar (op : Machine.Op)
  /-- SARI (R115). Lane operation: arithmetic shift right by SH6. -/
  | laneSari (op : Machine.Op)
  /-- MOV (R115). Lane operation: rd ← ra. -/
  | laneMov (op : Machine.Op)
  /-- LI (R111). Lane operation: rd ← a sign-extended immediate, widened by extension syllables. -/
  | laneLi (op : Machine.Op)
  /-- LIH (R115). Lane operation: sets rd[63:52] to IMM12 and keeps the other bits. -/
  | laneLih (op : Machine.Op)
  /-- SEL (R114). Lane operation: selects ra or rb by its guard predicate and always executes. -/
  | laneSel (op : Machine.Op)
  /-- MIN (R115). Lane operation: signed minimum. -/
  | laneMin (op : Machine.Op)
  /-- MAX (R115). Lane operation: signed maximum. -/
  | laneMax (op : Machine.Op)
  /-- MINU (R115). Lane operation: unsigned minimum. -/
  | laneMinu (op : Machine.Op)
  /-- MAXU (R115). Lane operation: unsigned maximum. -/
  | laneMaxu (op : Machine.Op)
  /-- ABS (R115). Lane operation: magnitude of ra, with −2^63 giving 2^63 − 1. -/
  | laneAbs (op : Machine.Op)
  /-- CLZ (R115). Lane operation: counts the leading zero bits of ra. -/
  | laneClz (op : Machine.Op)
  /-- POPC (R115). Lane operation: counts the one bits of ra. -/
  | lanePopc (op : Machine.Op)
  /-- SEXT (R115). Lane operation: sign-extends ra from bit SH6. -/
  | laneSext (op : Machine.Op)
  /-- ADDS (R115). Lane operation: saturating signed add. -/
  | laneAdds (op : Machine.Op)
  /-- SUBS (R115). Lane operation: saturating signed subtract. -/
  | laneSubs (op : Machine.Op)
  /-- CMPEQ (R115). Lane operation: pd ← (ra = rb). -/
  | laneCmpeq (op : Machine.Op)
  /-- CMPNE (R115). Lane operation: pd ← (ra ≠ rb). -/
  | laneCmpne (op : Machine.Op)
  /-- CMPLT (R115). Lane operation: pd ← signed ra < rb. -/
  | laneCmplt (op : Machine.Op)
  /-- CMPLE (R115). Lane operation: pd ← signed ra ≤ rb. -/
  | laneCmple (op : Machine.Op)
  /-- CMPLTU (R115). Lane operation: pd ← unsigned ra < rb. -/
  | laneCmpltu (op : Machine.Op)
  /-- CMPLEU (R115). Lane operation: pd ← unsigned ra ≤ rb. -/
  | laneCmpleu (op : Machine.Op)
  /-- CMPEQI (R115). Lane operation: pd ← (ra = immediate). -/
  | laneCmpeqi (op : Machine.Op)
  /-- CMPLTI (R115). Lane operation: pd ← signed ra < immediate. -/
  | laneCmplti (op : Machine.Op)
  /-- TSTB (R115). Lane operation: pd ← bit IMM6 of ra. -/
  | laneTstb (op : Machine.Op)
  /-- PAND (R115). Lane operation: predicate AND. -/
  | lanePand (op : Machine.Op)
  /-- POR (R115). Lane operation: predicate OR. -/
  | lanePor (op : Machine.Op)
  /-- PNOT (R115). Lane operation: predicate NOT. -/
  | lanePnot (op : Machine.Op)
  /-- PGET (R115). Lane operation: copies p7–p0 into rd[7:0]. -/
  | lanePget (op : Machine.Op)
  /-- PSET (R115). Lane operation: sets p1–p7 from ra[7:1]. -/
  | lanePset (op : Machine.Op)
  /-- MUL (R115). Lane operation: low 64 bits of the product, with latency 3. -/
  | laneMul (op : Machine.Op)
  /-- MULHS (R115). Lane operation: high 64 bits of the signed product. -/
  | laneMulhs (op : Machine.Op)
  /-- MULHU (R115). Lane operation: high 64 bits of the unsigned product. -/
  | laneMulhu (op : Machine.Op)
  /-- DIV (R116). Lane operation: signed quotient with latency 20, with defined edge values for division by zero and overflow. -/
  | laneDiv (op : Machine.Op)
  /-- DIVU (R116). Lane operation: unsigned quotient with latency 20. -/
  | laneDivu (op : Machine.Op)
  /-- REM (R116). Lane operation: signed remainder with latency 20. -/
  | laneRem (op : Machine.Op)
  /-- REMU (R116). Lane operation: unsigned remainder with latency 20. -/
  | laneRemu (op : Machine.Op)
  /-- LDB (R117). Lane operation: loads a sign-extended byte, with timing set by the window. -/
  | laneLdb (op : Machine.Op)
  /-- LDBU (R117). Lane operation: loads a zero-extended byte. -/
  | laneLdbu (op : Machine.Op)
  /-- LDH (R117). Lane operation: loads a sign-extended 16-bit value. -/
  | laneLdh (op : Machine.Op)
  /-- LDHU (R117). Lane operation: loads a zero-extended 16-bit value. -/
  | laneLdhu (op : Machine.Op)
  /-- LDW (R117). Lane operation: loads a sign-extended 32-bit value. -/
  | laneLdw (op : Machine.Op)
  /-- LDWU (R117). Lane operation: loads a zero-extended 32-bit value. -/
  | laneLdwu (op : Machine.Op)
  /-- LDD (R117). Lane operation: loads a 64-bit value. -/
  | laneLdd (op : Machine.Op)
  /-- LDDX (R117). Lane operation: loads a 64-bit value at ra + rb. -/
  | laneLddx (op : Machine.Op)
  /-- STB (R498). Lane operation: stores a byte, as a read-modify-write of the aligned word in SECDED arrays. -/
  | laneStb (op : Machine.Op)
  /-- STH (R498). Lane operation: stores 16 bits. -/
  | laneSth (op : Machine.Op)
  /-- STW (R498). Lane operation: stores 32 bits. -/
  | laneStw (op : Machine.Op)
  /-- STD (R117). Lane operation: stores 64 bits. -/
  | laneStd (op : Machine.Op)
  /-- STDX (R117). Lane operation: stores 64 bits at ra + rb. -/
  | laneStdx (op : Machine.Op)
  /-- TAS (R121). Lane operation: test-and-set of bit 0 of a shared-memory word in one slot. -/
  | laneTas (op : Machine.Op)
  /-- LR (R122). Lane operation: load-reserved, which sets the lane's reservation on the granule. -/
  | laneLr (op : Machine.Op)
  /-- SC (R122). Lane operation: store-conditional, which writes only while the reservation holds, reports success in pd and clears the reservation. -/
  | laneSc (op : Machine.Op)
  /-- BR (R82). Lane operation: relative branch with two delay-slot bundles. -/
  | laneBr (op : Machine.Op)
  /-- BRL (R115). Lane operation: relative branch that writes the return address to g63. -/
  | laneBrl (op : Machine.Op)
  /-- BRI (R115). Lane operation: indirect branch to the address in ra. -/
  | laneBri (op : Machine.Op)
  /-- BRIL (R115). Lane operation: indirect branch that writes the return address to g63. -/
  | laneBril (op : Machine.Op)
  /-- ENDB (R124). Lane operation: ends the block or plain and puts the lane at its end-of-block wait. -/
  | laneEndb (op : Machine.Op)
  /-- WAIT (R125). Lane operation: ends the block and marks the lane as waiting for the valley selected in PWR_MODE. -/
  | laneWait (op : Machine.Op)
  /-- DROPP (R126). Lane operation: puts the lane into unprivileged mode. -/
  | laneDropp (op : Machine.Op)
  /-- RDCYC (R115). Lane operation: reads the lane cycle index within the tick. -/
  | laneRdcyc (op : Machine.Op)
  /-- RDLANE (R115). Lane operation: reads the lane identity bits. -/
  | laneRdlane (op : Machine.Op)
  /-- TRAP (R132). Lane operation: raises a software trap with code IMM12. -/
  | laneTrap (op : Machine.Op)
  /-- INJ_ECC2 (R140). A write of SYS.LANE_INJn.ECC2 arms a double-bit error on the next local data memory write. -/
  | injEcc2 (by_ : Machine.By) (n : Fin 4)
  /-- INJ_ECC1 (R140). A write of SYS.LANE_INJn.ECC1 arms a single-bit error on the next local data memory write. -/
  | injEcc1 (by_ : Machine.By) (n : Fin 4)
  /-- INJ_RESIDUE (R140). A write of SYS.LANE_INJn.RESIDUE arms a residue error on the next residue-checked result. -/
  | injResidue (by_ : Machine.By) (n : Fin 4)
  /-- NAND_HOT (R20). A NAND die above 120 °C stops programming and erasing on both dies, and programming resumes once both are below 115 °C. -/
  | nandHot (t0 : Int) (t1 : Int)
  /-- PULSE_GROUP_PHASE_POINT (R147). A pulse-group or dimming counter reaches a channel's phase point or window end and switches the channel on or off. -/
  | pulseGroupPhasePoint (chan : Machine.OutUnit) (start : Bool)
  /-- DIN_EDGE (R151). A filtered edge on a DIN pin switches the load switch channels that follow it in Z48 pin mode. -/
  | dinEdge (pin : Fin 24) (level : Bool)
  /-- MIRROR_SCAN_CONVERSION (R154). One select code of a mirror scan completes conversion of all eight sense pins, and the offset and calibration checks run. -/
  | mirrorScanConversion (code : Fin 14) (pins : List Nat) (last : Bool)
  /-- FW_TEST (R170). A committed FWTEST = 1 with EN = 0 runs the free-wheel test pulse on a channel. -/
  | fwTest (n : Fin 96)
  /-- FW_TEST_END (R170). The free-wheel test ends and records FW_RESULT and FW_OK. -/
  | fwTestEnd (n : Fin 96) (vmin : Int) (current : Nat)
  /-- LIMIT_TIMEOUT (R161). A channel has limited current for TLIM × 0.4 ms and is switched off protectively. -/
  | limitTimeout (n : Fin 96)
  /-- HARD_SHORT (R161). The switch current passes ISC and the channel is switched off protectively. -/
  | hardShort (n : Fin 96)
  /-- OVER_TEMPERATURE_TRIP (R161). A channel junction reaches 170 °C, or exceeds the die reference by the difference limit, and the channel switches off and sets its thermal latch. -/
  | overTemperatureTrip (n : Fin 96)
  /-- OPEN_LOAD_ON (R163). The current stays below IOL for TOL ms of on-time, which is reported as an open load. -/
  | openLoadOn (n : Fin 96)
  /-- OFF_STATE_DIAG (R163). The output of an off channel lies in the open-load or short-to-battery band for 2 ms, which is reported. -/
  | offStateDiag (n : Fin 96) (vout : Int)
  /-- CLAMP_TRIP (R171). An off edge drives the output below supply − 40 V; FW_OK is cleared and the channel is held off. -/
  | clampTrip (n : Fin 96)
  /-- THERMAL_LATCH_CLEAR (R164). A junction has stayed at or below 150 °C for 1 ms, and its thermal latch clears. -/
  | thermalLatchClear (chan : Machine.OutUnit)
  /-- RETRY_RESTART (R166). Once the latch is clear, the retry delay has passed and retries remain, the power die restarts the channel and decrements RETRY_LEFT. -/
  | retryRestart (n : Fin 96)
  /-- RETRY_REFILL (R167). REFILL × 100 ms of on-time has accumulated, and RETRY_LEFT is refilled to RETRY_MAX. -/
  | retryRefill (n : Fin 96)
  /-- RELOAD (R167). A write of LSW.RETRYn.RELOAD refills RETRY_LEFT and clears LOCKED at the col at which it takes effect. -/
  | reload (n : Fin 96)
  /-- HOLDOVER_EXPIRY (R172). A channel's hold-over timer expires, and the channel takes its configured safe state. -/
  | holdoverExpiry (chan : Machine.OutUnit)
  /-- LSW_FORCE_CLAMP (R179). A gated write of LSW.FORCEn.CLAMP makes the next off edge trip the clamp comparator. -/
  | lswForceClamp (by_ : Machine.By) (n : Fin 96)
  /-- LSW_FORCE_THERM (R179). A gated write of LSW.FORCEn.THERM causes one thermal trip through the real latch. -/
  | lswForceTherm (by_ : Machine.By) (n : Fin 96)
  /-- LSW_FORCE_SHORT (R179). A gated write of LSW.FORCEn.SHORT causes one hard short trip. -/
  | lswForceShort (by_ : Machine.By) (n : Fin 96)
  /-- LSW_FORCE_OPEN (R179). A gated write of LSW.FORCEn.OPEN causes one open-load detection. -/
  | lswForceOpen (by_ : Machine.By) (n : Fin 96)
  /-- LEDGER_ADMIT (R194). A write of ADMIT_REQn with OP admit runs the admission checks, and the answer appears in ADMIT_RESn 8 counts later. -/
  | ledgerAdmit (lane : Fin 4) (ch : BitVec 7) (ist : BitVec 16)
  /-- LEDGER_RELEASE (R196). A write of ADMIT_REQn with OP release frees the channel's reservation at once. -/
  | ledgerRelease (lane : Fin 4) (ch : BitVec 7)
  /-- INRUSH_END (R196). t_i after the switch-on edge, the inrush window closes and the effective limit falls to the steady reservation. -/
  | inrushEnd (ch : Fin 120)
  /-- LEDGER_FORCE_SEGTRIP (R203). A gated write of LEDGER.FORCE.SEGTRIP makes the next update take θ[SEG] as TMAX + 1 K. -/
  | ledgerForceSegtrip (by_ : Machine.By) (seg : Byte)
  /-- REVERSAL_BRAKE_END (R211). REVERSAL brake time has run out, and the bridge starts the latest committed drive mode. -/
  | reversalBrakeEnd (n : Fin 16)
  /-- BRAKE_LIMIT (R212). The brake current reaches its limit, and both low sides open for the rest of the PWM period. -/
  | brakeLimit (n : Fin 16)
  /-- BRIDGE_SHORT (R214). A half-bridge switch exceeds 40 A, and the whole bridge coasts with PROT_OFF. -/
  | bridgeShort (n : Fin 16)
  /-- BRIDGE_OVER_TEMPERATURE (R214). A half-bridge switch junction reaches 170 °C, and the bridge coasts with the thermal latch set. -/
  | bridgeOverTemperature (n : Fin 16)
  /-- STALL (R214). A driven bridge has drawn near its limit with no ripple for TSTALL ms, which is reported and optionally braked. -/
  | stall (n : Fin 16)
  /-- SUPB_OVERVOLTAGE (R214). SUPB rises above 32 V and drive modes run as BRAKE_LOW until SUPB falls below 30 V. -/
  | supbOvervoltage (above : Bool)
  /-- GATE_DRIVER_FAULT (R214). A switch misses its commanded state by 2 µs, and its unit is taken out until a power cycle. -/
  | gateDriverFault (chan : Machine.OutUnit)
  /-- RIPPLE_ACCEPT (R220). The ripple engine accepts a commutation ripple, steps POS and updates PERIOD. -/
  | rippleAccept (n : Fin 16) (count : Nat) (mean : Nat) (ampl : Nat)
  /-- RIPPLE_INSERT (R220). No ripple arrives within RIP_MAX % of PERIOD in a drive mode, so the engine inserts one. -/
  | rippleInsert (n : Fin 16)
  /-- RIPPLE_EXTRAPOLATE (R222). In COAST one PERIOD passes, and the engine adds an estimated count with EST = 1. -/
  | rippleExtrapolate (n : Fin 16)
  /-- RIPPLE_EXTRAP_EXPIRY (R222). EXTRAP runs out in COAST; counting stops, POS_VALID clears and FLT_HBR_RIPPLE is raised. -/
  | rippleExtrapExpiry (n : Fin 16)
  /-- POS_WRITE (R223). A write of HBR.POSn sets the ripple count and sets POS_VALID. -/
  | posWrite (by_ : Machine.By) (n : Fin 16) (val : Word32)
  /-- HBR_FORCE_STALL (R227). A gated write of HBR.FORCEn.STALL causes one stall detection. -/
  | hbrForceStall (by_ : Machine.By) (n : Fin 16)
  /-- HBR_FORCE_THERM (R227). A gated write of HBR.FORCEn.THERM causes one thermal trip. -/
  | hbrForceTherm (by_ : Machine.By) (n : Fin 16)
  /-- HBR_FORCE_SHORT (R227). A gated write of HBR.FORCEn.SHORT causes one short trip. -/
  | hbrForceShort (by_ : Machine.By) (n : Fin 16)
  /-- VALVE_START (R235). A committed START starts a profile, extends a running hold, queues a start or is refused, according to the channel's phase. -/
  | valveStart (n : Fin 24)
  /-- VALVE_OFF (R235). A committed OFF sends a running profile to its RELEASE address or cancels a queued start. -/
  | valveOff (n : Fin 24)
  /-- VALVE_REARM (R253). A committed REARM with clear latches takes the channel out of PROT_OFF. -/
  | valveRearm (n : Fin 24)
  /-- MICROCODE_WRITE (R238). A write of a low half goes to the holding latch, and a write of the high half stores a microcode word, unless the bank is running. -/
  | microcodeWrite (by_ : Machine.By) (bank : Fin 4) (word : BitVec 9) (high : Bool) (val : Word32)
  /-- UC_NOP (R240). Profile engine instruction that does nothing. -/
  | ucNop (n : Fin 24) (x : Machine.CoilIn)
  /-- SETI (R240). Profile engine instruction that sets the regulation target and window. -/
  | ucSeti (n : Fin 24) (x : Machine.CoilIn)
  /-- RAMP (R240). Profile engine instruction that moves the target linearly to I over T µs. -/
  | ucRamp (n : Fin 24) (x : Machine.CoilIn)
  /-- PEAK (R243). Profile engine instruction that claims the bank's peak token and is granted or queued. -/
  | ucPeak (n : Fin 24) (x : Machine.CoilIn)
  /-- HOLD (R240). Profile engine instruction that gives back the token and regulates the hold current until T and D have passed. -/
  | ucHold (n : Fin 24) (x : Machine.CoilIn)
  /-- REL (R240). Profile engine instruction that releases the coil with slow or fast decay until a threshold or timeout. -/
  | ucRel (n : Fin 24) (x : Machine.CoilIn)
  /-- END (R240). Profile engine instruction that ends the profile, returns to IDLE and starts a queued start. -/
  | ucEnd (n : Fin 24) (x : Machine.CoilIn)
  /-- WAITT (R240). Profile engine instruction that waits T µs. -/
  | ucWaitt (n : Fin 24) (x : Machine.CoilIn)
  /-- WAITI (R240). Profile engine instruction that waits for a current condition or branches on timeout. -/
  | ucWaiti (n : Fin 24) (x : Machine.CoilIn)
  /-- WAITP (R248). Profile engine instruction that waits for an armature event and records ARRIVE, or branches on timeout. -/
  | ucWaitp (n : Fin 24) (x : Machine.CoilIn)
  /-- BRDL (R240). Profile engine instruction that branches when the hold deadline has passed. -/
  | ucBrdl (n : Fin 24) (x : Machine.CoilIn)
  /-- JMP (R240). Profile engine instruction that branches unconditionally. -/
  | ucJmp (n : Fin 24) (x : Machine.CoilIn)
  /-- SETN (R240). Profile engine instruction that loads the loop counter. -/
  | ucSetn (n : Fin 24) (x : Machine.CoilIn)
  /-- LOOP (R240). Profile engine instruction that decrements the counter and branches while it is not zero. -/
  | ucLoop (n : Fin 24) (x : Machine.CoilIn)
  /-- MARK (R240). Profile engine instruction that writes PSTATn.MARK and optionally sets EV_MARK. -/
  | ucMark (n : Fin 24) (x : Machine.CoilIn)
  /-- PEAK_CUT (R245). A token holder reaches PKMAX µs, loses the token with PK_CUT set, and the queue head is granted. -/
  | peakCut (n : Fin 24)
  /-- RUNMAX_EXPIRY (R242). A profile still runs RUNMAX ms after its start and is sent to its RELEASE address with RUN_TO set. -/
  | runmaxExpiry (n : Fin 24)
  /-- COIL_MODEL_UPDATE (R249). The 1 ms coil model update computes θ_c and applies the warning derating or the coil limit. -/
  | coilModelUpdate (n : Fin 24) (irms : Nat)
  /-- PKS_CAP_MEASURE (R230). A charge of PKS from below 10 V completes the capacitance measurement and recomputes V_lim. -/
  | pksCapMeasure (cap : Nat)
  /-- PKS_OVERVOLTAGE (R252). PKS exceeds V_lim + 3 V; the charger stops until a power cycle, PKS bleeds and PKS holders are cut. -/
  | pksOvervoltage (vpks : Nat)
  /-- VD_SHORT (R252). A VD current above 10 A switches the low side off and ends the profile. -/
  | vdShort (n : Fin 24)
  /-- OPEN_COIL (R252). The low side is on for 2 ms in PEAK or HOLD with under 50 mA, and the profile ends. -/
  | openCoil (n : Fin 24)
  /-- VD_OVER_TEMPERATURE (R252). A VD junction reaches 170 °C, and the profile ends with the thermal latch set. -/
  | vdOverTemperature (n : Fin 24)
  /-- LONG_CLAMP (R252). A VD pin stays above 70 V for more than 2 ms, which is reported. -/
  | longClamp (n : Fin 24)
  /-- VB_PROTECTION (R252). A VB short or over-temperature opens the bank switch and ends every profile of the bank. -/
  | vbProtection (b : Fin 4) (thermal : Bool)
  /-- VALVE_FORCE_COILHOT (R259). A gated write of VALVE.FORCEn.COILHOT makes the next model update take θ_c as TMAX. -/
  | valveForceCoilhot (by_ : Machine.By) (n : Fin 24)
  /-- VALVE_FORCE_THERM (R259). A gated write of VALVE.FORCEn.THERM causes one thermal trip. -/
  | valveForceTherm (by_ : Machine.By) (n : Fin 24)
  /-- VALVE_FORCE_OPEN (R259). A gated write of VALVE.FORCEn.OPEN causes one open-coil detection. -/
  | valveForceOpen (by_ : Machine.By) (n : Fin 24)
  /-- VALVE_FORCE_SHORT (R259). A gated write of VALVE.FORCEn.SHORT causes one short trip. -/
  | valveForceShort (by_ : Machine.By) (n : Fin 24)
  /-- LED_MODEL_UPDATE (R269). The 1 ms LED model update computes θ_led, the terrace and hot_off, and forms the sink's effective code. -/
  | ledModelUpdate (n : Fin 32) (irms : Nat) (ref : Int)
  /-- HEADROOM_MEASURE (R272). A sink's headroom and forward voltage are measured at the end of an on-window, and the stage target is recomputed. -/
  | headroomMeasure (n : Fin 32) (hr : Nat) (vout : Nat)
  /-- SETPOINT_STEP (R272). Every 10 µs the stage setpoint moves up to 50 mV toward V_target. -/
  | setpointStep (s : Fin 4) (vout : Nat)
  /-- STAGE_READY (R274). A soft-starting stage output comes within 0.5 V of its setpoint, and READY is set. -/
  | stageReady (s : Fin 4) (vout : Nat)
  /-- OPEN_STRING (R275). A sink's headroom stays below 0.2 V with the stage at VMAX for TOPEN ms, and the sink is excluded from tracking. -/
  | openString (n : Fin 32)
  /-- STRING_SHORT (R275). A sink's headroom exceeds HR + VSHT for 1 ms of on-time, which is reported and optionally switches the sink off. -/
  | stringShort (n : Fin 32)
  /-- SINK_OVER_TEMPERATURE (R275). A sink junction reaches 170 °C, and the sink switches off with its latch set. -/
  | sinkOverTemperature (n : Fin 32)
  /-- STAGE_PROTECTION (R275). A stage output overvoltage, output short, leak or over-temperature switches the stage off. -/
  | stageProtection (s : Fin 4) (trip : Machine.StageTrip)
  /-- SINK_REARM (R276). A commit of SINKCTRLn with REARM = 1 ends PROT_OFF or EXCLUDED for a sink. -/
  | sinkRearm (n : Fin 32)
  /-- STAGE_REARM (R276). A commit of STAGECTRLs with REARM = 1 ends the stage's PROT_OFF and soft-starts the stage. -/
  | stageRearm (s : Fin 4)
  /-- MATRIX_REARM (R280). A commit of MXCTRL with REARM = 1 ends the rail's PROT_OFF. -/
  | matrixRearm
  /-- MATRIX_FRAME_END (R278). A matrix frame or single line completes its blanking and on-times, and the matrix goes dark. -/
  | matrixFrameEnd
  /-- MATRIX_DIAG (R280). A column opens, a line switch trips or the matrix rail faults, which is recorded in MXDIAG or MXSTAT. -/
  | matrixDiag (d : Machine.MatrixDiag)
  /-- MATRIX_HOLDOVER_FRAME (R282). During hold-over the scanner repeats the last committed frame at the last interval until MXRAIL.HOLD ends. -/
  | matrixHoldoverFrame
  /-- LIGHT_FORCE_LEAK (R287). A gated write of LIGHT.FORCE.LEAK causes one leak detection on the selected sink's stage. -/
  | lightForceLeak (by_ : Machine.By) (n : Fin 32)
  /-- LIGHT_FORCE_THERM (R287). A gated write of LIGHT.FORCE.THERM causes one sink thermal trip. -/
  | lightForceTherm (by_ : Machine.By) (n : Fin 32)
  /-- LIGHT_FORCE_SHORT (R287). A gated write of LIGHT.FORCE.SHORT causes one string short detection. -/
  | lightForceShort (by_ : Machine.By) (n : Fin 32)
  /-- LIGHT_FORCE_OPEN (R287). A gated write of LIGHT.FORCE.OPEN causes one open-string detection. -/
  | lightForceOpen (by_ : Machine.By) (n : Fin 32)
  /-- TIME_BASE_CARRY (R289). A change of the time base's bits [63:32] writes the time-base word to both MRAM side areas. -/
  | timeBaseCarry
  /-- SLOWRATIO_MEASURE (R291). The once-per-second measurement of the slow base against the time base updates SLOWRATIO, or raises FLT_TIME_SLOWBASE. -/
  | slowratioMeasure (ratio : Nat)
  /-- SYNC_MESSAGE (R290). An 802.1AS sync message updates the offset and rate correction, or steps the time base forward in NOPLAN or ARMED. -/
  | syncMessage (port : Fin 3) (pdelay : Nat) (ns : Nat)
  /-- COMPARE_FIRE (R295). An armed compare channel's value is reached; it sets its event bit and disarms or adds PERIOD. -/
  | compareFire (n : Fin 48)
  /-- COUNTER_STEP (R298). An up/down counter steps on its prescaler or on an accepted external edge, and wraps, turns or matches. -/
  | counterStep (n : Fin 16) (dirHigh : Bool)
  /-- UDCSTART (R298). A write of TIME.UDCSTART sets RUN of the named counters in one count. -/
  | udcstart (by_ : Machine.By) (mask : BitVec 16)
  /-- CAPTURE_EDGE (R300). A capture unit accepts an edge of its source and updates RISE, FALL, PERIOD, HIGH and EDGES. -/
  | captureEdge (n : Fin 32) (count : Nat) (level : Bool)
  /-- SI_LEVEL_CHANGE (R303). A switch input's debounced level changes; the SICHG bit is set and, with CLEAN, a cleaning pulse starts. -/
  | siLevelChange (n : Fin 64) (level : Bool)
  /-- SI_VALLEY_POLL (R304). In V2 or V3 a VWAKE input is wetted and read, and two differing polls make a wake. -/
  | siValleyPoll (n : Fin 64) (level : Bool)
  /-- AI_CONVERSION_DONE (R305). An analog conversion completes and updates AIVAL, and AITEMP in NTC mode. -/
  | aiConversionDone (n : Fin 24) (code : BitVec 12)
  /-- READ (R330). A dictionary READ is checked and answered by the hardware responder or in the plains, or answered SLOW. -/
  | dictRead (f : Machine.DictFrame)
  /-- WRITE (R313). A dictionary WRITE passes the checks of R326 and is journaled, or is answered with its status. -/
  | dictWrite (f : Machine.DictFrame)
  /-- INVOKE (R323). A dictionary INVOKE of a COMMAND entry is checked and journaled like a write; a named-col command is judged under R75. -/
  | dictInvoke (f : Machine.DictFrame)
  /-- DESCRIBE (R323). A dictionary DESCRIBE returns an entry's type, rights, persistence, class and length in the plains. -/
  | dictDescribe (f : Machine.DictFrame)
  /-- BLOB_READ (R324). A dictionary BLOB_READ returns bytes of a blob in the plains, or BLOB_RANGE. -/
  | dictBlobRead (f : Machine.DictFrame)
  /-- J_STATUS (R365). A journal query returning the oldest, next and last-commit numbers, the fill and the last start. -/
  | jStatus (f : Machine.DictFrame)
  /-- J_BY_CSEQ (R365). A journal query returning H and the SEQ in the slot of a client sequence. -/
  | jByCseq (f : Machine.DictFrame)
  /-- J_READ (R365). A journal query returning a command entry and its outcome records. -/
  | jRead (f : Machine.DictFrame)
  /-- J_SCAN (R365). A journal query returning summaries of entries from FROM_SEQ upward. -/
  | jScan (f : Machine.DictFrame)
  /-- J_STARTS (R365). A journal query returning the latest start markers. -/
  | jStarts (f : Machine.DictFrame)
  /-- COMMAND_ACCEPTANCE (R353). The command entry, window slot, H, NEXT_SEQ and write pointer are verified in both banks, the entry takes its SEQ, and the answer is queued. -/
  | commandAcceptance (fail : BitVec 2)
  /-- ANSWER_TRANSMIT (R332). A port sends the frame at the head of its queue once the transport gives it access. -/
  | answerTransmit (port : Fin 11)
  /-- BUS_FRAME_RECEIVE (R341). A received non-dictionary frame is matched against the bus receive table and routed to a mailbox. -/
  | busFrameReceive (f : Machine.BusFrame)
  /-- LIN_HEADER_RECEIVE (R343). A LIN header arrives at a responder port and the armed entry's response starts. -/
  | linHeaderReceive (l : Fin 12) (fid : BitVec 6) (good : Bool)
  /-- NEIGHBOUR_SOLICITATION (R334). A neighbour solicitation or duplicate address detection frame is answered in hardware. -/
  | neighbourSolicitation (port : Fin 3) (target : BitVec 128) (source : BitVec 128) (claim : Bool)
  /-- ECHO_REQUEST (R334). An ICMPv6 echo request is answered in hardware. -/
  | echoRequest (port : Fin 3) (target : BitVec 128) (source : BitVec 128) (data : List Byte)
  /-- LINK_LOSS (R335). ETA or ETB loses its link, which raises FLT_NET_LINK and clears sync lock. -/
  | linkLoss (port : Fin 2)
  /-- PLCA_LOST (R336). A TS follower has seen no beacon for 4 cycles and falls back to CSMA/CD. -/
  | plcaLost
  /-- TRANSMIT_OPPORTUNITY (R336). On a PLCA transmit opportunity the Z96 sends its queue head and up to BURST further frames. -/
  | transmitOpportunity
  /-- CAN_BUS_OFF (R337). A CAN controller enters bus-off; queued frames are dropped and FLT_NET_BUSOFF is raised. -/
  | canBusOff (c : Fin 8)
  /-- BUS_OFF_RECOVERY (R337). With AUTOREC, a bus-off controller rejoins after 128 occurrences of 11 recessive bits. -/
  | busOffRecovery (c : Fin 8)
  /-- CAN_RECOVER (R337). A write of NET.CANCFGc.RECOVER takes the controller out of bus-off. -/
  | canRecover (by_ : Machine.By) (c : Fin 8)
  /-- OUT_POST (R358). A write of JOURNAL.OUT_POSTn posts an outcome for a snapshot SEQ into the outcome queue, or is rejected. -/
  | outPost (by_ : Machine.By) (outcome : Byte) (reason : Byte) (bind : BitVec 16)
  /-- OUTCOME_JOURNALED (R358). A queued outcome record is written and verified in both banks, and settles its entry. -/
  | outcomeJournaled (fail : BitVec 2)
  /-- NAMED_COL_SNAPSHOT (R359). At col N the sequencer takes the named input snapshot and journals APPLIED with its data. -/
  | namedColSnapshot
  /-- BARRIER_REPORT (R359). At col N the barrier report is formed and journaled APPLIED with its data. -/
  | barrierReport
  /-- STAGED_CONTROLLER_RESET (R75). At the named col the output set commits, the command is settled APPLIED and a controller reset begins. -/
  | stagedControllerReset
  /-- DRAIN_CHUNK (R361). A drain chunk of head records is verified on both NAND dies, and the head's free pointer advances. -/
  | drainChunk (fail : BitVec 2)
  /-- PERSISTENT_STORE (R316). An applied write to a PERSISTENT entry is stored in the persistent values partition with its SEQ. -/
  | persistentStore
  /-- JOURNAL_FORCE_BANK1 (R367). A gated write of JOURNAL.FORCE.BANK1 makes the next bank 1 write fail its verify. -/
  | journalForceBank1 (by_ : Machine.By)
  /-- JOURNAL_FORCE_BANK0 (R367). A gated write of JOURNAL.FORCE.BANK0 makes the next bank 0 write fail its verify. -/
  | journalForceBank0 (by_ : Machine.By)
  /-- SLEEP_ARM (R374). A write of POWER.SLEEPCTL.ARM arms a sleep for the watershed col, or is refused with a code. -/
  | sleepArm (by_ : Machine.By)
  /-- WATERSHED (R376). The watershed col passes with no abort, and SLEEP becomes PASSED. -/
  | watershed
  /-- DESCENT_START (R378). After the watershed every lane in service is at WAIT, and the sequencer issues no more passes. -/
  | descentStart
  /-- FORCED_ENTRY (R378). Col WS_COL + DESCENT.COLS is reached without all lanes at WAIT; it becomes the parking col and FLT_POWER_DESCENT is raised. -/
  | forcedEntry
  /-- PARKING_COL (R379). The parking col commits the park command, stops the dictionary and runs the descent to valley entry. -/
  | parkingCol
  /-- VALLEY_ENTRY_COMPLETE (R379). V2 or V3 entry completes with the domains off as the target valley requires. -/
  | valleyEntryComplete
  /-- TC10_TIMEOUT (R379). A T1 port's partner has not completed the TC10 sleep handshake within 16 ms, and the port powers its link down. -/
  | tc10Timeout (port : Fin 2)
  /-- VALLEY_EXIT (R386). The first latched wake in a valley starts the exit sequence up to a new first col. -/
  | valleyExit
  /-- WAKE_LINE_PULSE (R381). The WAKE line stays high for WFILT µs and is accepted as a wake event. -/
  | wakeLinePulse
  /-- WAKE_LINE_STUCK (R381). WAKE stays high longer than WSTUCK ms and is no longer taken as a wake source. -/
  | wakeLineStuck
  /-- CAN_SELECTIVE_WAKE (R382). A wake-up pattern, a matching wake-up frame or an error count of 32 on a CAN port is a wake. -/
  | canSelectiveWake (c : Fin 8) (ev : Machine.CanWake)
  /-- ETHERNET_WAKE (R383). A TC10 wake request, or in V2 a unicast frame, on ETA, ETB or TS is a wake. -/
  | ethernetWake (port : Fin 3) (tc10 : Bool)
  /-- LIN_WAKE (R384). A dominant phase of at least 150 µs on an enabled LIN port is a wake. -/
  | linWake (l : Fin 12)
  /-- SBS_ADDRESS (R385). An SBS address byte that matches is acknowledged, and in a valley it is a wake. -/
  | sbsAddress (addr : BitVec 7) (read : Bool)
  /-- NO_TRAFFIC_EXPIRY (R388). The no-traffic timer runs out after a bus wake, and the power controller arms a sleep itself. -/
  | noTrafficExpiry
  /-- MAXAWAKE_EXPIRY (R389). The maximum-awake timer runs out, and the power controller arms a sleep to V3. -/
  | maxawakeExpiry
  /-- PULSE (R381). A write of POWER.CTRL.PULSE drives one WAKE pulse. -/
  | powerPulse (by_ : Machine.By)
  /-- KEEP (R389). A write of POWER.CTRL.KEEP stops the no-traffic timer and restarts the maximum-awake timer. -/
  | powerKeep (by_ : Machine.By)
  /-- POWER_ABORT (R375). A write of POWER.CTRL.ABORT is a wake event of bit 11. -/
  | powerAbort (by_ : Machine.By)
  /-- LANE_SUPPLY_FAULT (R372). The lane supply leaves its ±5 % window for more than 1 µs, which raises FLT_POWER_VLANE. -/
  | laneSupplyFault (outside : Bool)
  /-- POWER_FORCE_DESCENT (R393). A gated write of POWER.FORCE.DESCENT raises FLT_POWER_DESCENT. -/
  | powerForceDescent (by_ : Machine.By)
  /-- POWER_FORCE_MAXAWAKE (R393). A gated write of POWER.FORCE.MAXAWAKE runs out the maximum-awake timer. -/
  | powerForceMaxawake (by_ : Machine.By)
  /-- POWER_FORCE_FALSEWAKE (R393). A gated write of POWER.FORCE.FALSEWAKE runs out the no-traffic timer. -/
  | powerForceFalsewake (by_ : Machine.By)
  /-- POWER_FORCE_WAKELINE (R393). A gated write of POWER.FORCE.WAKELINE treats WAKE as stuck. -/
  | powerForceWakeline (by_ : Machine.By)
  /-- POWER_FORCE_VLANE (R393). A gated write of POWER.FORCE.VLANE causes one lane supply window fault. -/
  | powerForceVlane (by_ : Machine.By)
  /-- UHF_ANSWER (R406). A frame received in an answer slot is judged, and the verdict, grant or failed attempt is recorded. -/
  | uhfAnswer (f : Machine.UhfFrame)
  /-- ROUND_END (R408). An access round ends; the localising token and zone are chosen, the result is published and the immobiliser window may open. -/
  | roundEnd
  /-- ROUND_ABORT (R400). A write of ACCESS.CTRL.ABORT stops the running round and publishes its result with ABORTED. -/
  | roundAbort (by_ : Machine.By)
  /-- AERIAL_FAULT (R395). An open, short or over-temperature aerial stops its burst, which is reported, and the round goes on without it. -/
  | aerialFault (a : Fin 6) (ev : Machine.AerialEvent)
  /-- LOCKOUT_END (R410). The lockout's end count is reached, and lockout ends and polling resumes. -/
  | lockoutEnd
  /-- LOCKOUT_LEVEL_CLEAR (R411). LOCKCLR hours pass with no failed attempt, and L returns to 0. -/
  | lockoutLevelClear
  /-- IMMO_GO (R414). A write of IMMO_CTRL.GO computes the immobiliser response if the window is open. -/
  | immoGo (by_ : Machine.By)
  /-- IMMO_WINDOW_EXPIRY (R414). The immobiliser window's HOLD runs out and the window closes. -/
  | immoWindowExpiry
  /-- ACCESS_POLL (R416). A valley poll drives a wake carrier and poll telegram on the next aerial and listens for answers. -/
  | accessPoll
  /-- POLL_ANSWER (R416). A poll answer with a correct CRC from an enabled token is a wake on bit 8. -/
  | pollAnswer (bytes : List Byte)
  /-- ACCESS_FORCE_RELAY (R429). A gated write of ACCESS.FORCE.RELAY makes the next VALID answer be judged RELAY. -/
  | accessForceRelay (by_ : Machine.By)
  /-- ACCESS_FORCE_AERIAL (R429). A gated write of ACCESS.FORCE.AERIAL causes one open-aerial event on LF0. -/
  | accessForceAerial (by_ : Machine.By)
  /-- ACCESS_FORCE_FAIL (R429). A gated write of ACCESS.FORCE.FAIL records one failed attempt through R410. -/
  | accessForceFail (by_ : Machine.By)
  /-- IMPORT (R423). Key operation that unwraps XFER under a TRANSPORT slot into the target slot. -/
  | keyImport (by_ : Machine.By) (slot : BitVec 6) (src : BitVec 6)
  /-- GENERATE (R424). Key operation that writes 128 random bits into the target slot. -/
  | keyGenerate (by_ : Machine.By) (slot : BitVec 6) (cls : BitVec 3) (attr : BitVec 2)
  /-- DERIVE (R422). Key operation that derives a key into the target slot by the KDF. -/
  | keyDerive (by_ : Machine.By) (slot : BitVec 6) (src : BitVec 6) (attr : BitVec 2)
  /-- EXPORT (R423). Key operation that wraps a slot into XFER under a TRANSPORT slot. -/
  | keyExport (by_ : Machine.By) (slot : BitVec 6) (src : BitVec 6)
  /-- ERASE (R424). Key operation that sets a slot to EMPTY and keeps its GEN. -/
  | keyErase (by_ : Machine.By) (slot : BitVec 6)
  /-- LOCK (R424). Key operation that sets LOCKED on a slot. -/
  | keyLock (by_ : Machine.By) (slot : BitVec 6)
  /-- RENEW_FB (R420). Key operation that creates a new first-boot root and erases every ACCESS and IMMO slot. -/
  | keyRenewFb (by_ : Machine.By)
  /-- ZEROISE (R426). Key operation, or tamper action, that overwrites every stored slot, the first-boot record and the directories. -/
  | keyZeroise (by_ : Machine.By)
  /-- KEY_OPERATION_DONE (R424). A key operation completes, switches the slot's copy selector atomically and sets DONE or ERR. -/
  | keyOperationDone
  /-- KEY_RECORD_CHECK (R425). The periodic check of every active key record marks any failing record FAILED. -/
  | keyRecordCheck (bad : List Nat)
  /-- TAMPER (R426). A tamper source fires and takes its configured action: log, wake or zeroise. -/
  | tamper (src : Fin 5)
  /-- TRNG_FAIL (R428). The random number generator fails its health test, which raises FLT_KEYS_TRNG. -/
  | trngFail
  /-- CMAC (R427). Crypto request for an AES-CMAC of shared memory under a GENERAL slot. -/
  | crqCmac (by_ : Machine.By) (slot : BitVec 6)
  /-- ENCRYPT (R427). Crypto request for AES-128 encryption of 16 bytes under a GENERAL slot. -/
  | crqEncrypt (by_ : Machine.By) (slot : BitVec 6)
  /-- SHA256 (R427). Crypto request for a SHA-256 of shared memory. -/
  | crqSha256 (by_ : Machine.By)
  /-- ATTEST (R427). Crypto request for the attestation CMAC under slot 2. -/
  | crqAttest (by_ : Machine.By)
  /-- CRQ_DONE (R427). A crypto request completes and its result stands in CRQ_RES. -/
  | crqDone
  /-- KEYS_FORCE_TAMPER (R430). A gated write of KEYS.FORCE.TAMPER causes one TAMP0 event with its configured action. -/
  | keysForceTamper (by_ : Machine.By)
  /-- KEYS_FORCE_SLOTFAIL (R430). A gated write of KEYS.FORCE.SLOTFAIL makes a slot record fail its next check. -/
  | keysForceSlotfail (by_ : Machine.By)
  /-- KEYS_FORCE_TRNG (R430). A gated write of KEYS.FORCE.TRNG causes one health test failure. -/
  | keysForceTrng (by_ : Machine.By)
  /-- BEGIN (R440). Update operation that empties the FIFO, clears PREV_OK and starts erasing the staging slot and staging half. -/
  | updateBegin (by_ : Machine.By)
  /-- ERASE_DONE (R440). Erasure of the staging slot and staging half completes, and the state becomes RECEIVING. -/
  | eraseDone
  /-- VERIFY (R440). Update operation that waits for the FIFO to empty and then runs the image checks. -/
  | updateVerify (by_ : Machine.By)
  /-- VERIFY_DONE (R443). The image checks complete, and the staging half is built and the plan loaded into shadow memory, or the state becomes FAILED. -/
  | verifyDone
  /-- ABORT (R448). Update operation that returns staging to IDLE, or cancels an armed activation before col H − 1. -/
  | updateAbort (by_ : Machine.By)
  /-- RECOVER (R451). Update operation that starts a controller reset into ROM recovery. -/
  | updateRecover (by_ : Machine.By)
  /-- STAGING_PUSH (R441). A write of UPDATE.STGPUSH moves the STGBUF chunk into the FIFO, or refuses it with an ERR. -/
  | stagingPush (by_ : Machine.By)
  /-- CHUNK_WRITE (R442). A chunk from the FIFO is written to both NAND dies, or a failure sets FAILED with ERR 14. -/
  | chunkWrite (fail : BitVec 2)
  /-- ACTIVATION_CONFIRM (R447). At col H + 1 the selector record is rewritten with the switches applied, and ARB is raised. -/
  | activationConfirm
  /-- SBS_STATUS (R453). SBS command that prepares the status response. -/
  | sbsStatus (crcOk : Bool)
  /-- SBS_BEGIN (R453). SBS command that begins staging in recovery. -/
  | sbsBegin (crcOk : Bool)
  /-- SBS_CHUNK (R453). SBS command that writes a chunk of up to 256 bytes to both dies. -/
  | sbsChunk (crcOk : Bool) (off : Word32) (data : List Byte) (fail : BitVec 2)
  /-- SBS_VERIFY (R453). SBS command that verifies the staged image in recovery. -/
  | sbsVerify (crcOk : Bool)
  /-- SBS_ACTIVATE (R452). SBS command that commits a verified image in recovery, raises ARB and resets into a normal start. -/
  | sbsActivate (crcOk : Bool)
  /-- SBS_RECOVER (R451). SBS command that enters ROM recovery while SBSREC is 1. -/
  | sbsRecover (crcOk : Bool) (arg : Word32)
  /-- SBS_READ (R453). An SBS read transaction returns the response to the last accepted request once it is ready. -/
  | sbsRead (at_ : Nat)
  /-- UPDATE_FORCE_SELECTOR (R455). A gated write of UPDATE.FORCE.SELECTOR makes the next selector write fail in both copies. -/
  | updateForceSelector (by_ : Machine.By)
  /-- UPDATE_FORCE_DIGEST (R455). A gated write of UPDATE.FORCE.DIGEST makes the next part digest check fail. -/
  | updateForceDigest (by_ : Machine.By)
  /-- UPDATE_FORCE_STORE (R455). A gated write of UPDATE.FORCE.STORE makes the next chunk write fail on both dies. -/
  | updateForceStore (by_ : Machine.By)
  /-- FAULT_FORCE (R470). A gated write of FAULT.FORCE raises the named source through the collector at a permitted class. -/
  | faultForce (by_ : Machine.By) (src : BitVec 16) (cls : Fin 4) (unit : BitVec 14)
  /-- ACK (R461). A write of FAULT.ACK clears every flag of the named classes, refusing the F2 part under R468. -/
  | faultAck (by_ : Machine.By) (classes : BitVec 4)
  /-- ACKONE (R461). A write of FAULT.ACKONE clears the F0–F2 flags of one source and unit. -/
  | faultAckone (by_ : Machine.By) (src : BitVec 16) (unit : BitVec 14)
  /-- REFCLK_FAULT (R458). The 100 MHz reference departs from the monitor oscillator by more than 2 %, and the F3 reaction follows. -/
  | refclkFault
  /-- TERMINAL_DUMP_DONE (R471). The store controller finishes copying the latest 256 log records to the terminal dump. -/
  | terminalDumpDone
  /-- CLEAR (R473). A write of LOG.CTRL.CLEAR empties the trouble log ring. -/
  | logClear (by_ : Machine.By)
  /-- CLRDUMP (R473). A write of LOG.CTRL.CLRDUMP erases the terminal dump. -/
  | logClrdump (by_ : Machine.By)
  /-- TERMINAL_LATCH_CLEAR (R469). Both supplies have stayed below 2.5 V for 100 ms, and the terminal latch clears. -/
  | terminalLatchClear
  /-- SUPPLY_RISE (R483). The higher supply rises through the D-ALW and D-LOGIC thresholds and starts the power-up sequence. -/
  | supplyRise (supA : Nat) (supB : Nat)
  /-- SUPPLY_FALL (R488). The higher supply falls below 4.40 V, and every domain except the terminal latch goes off. -/
  | supplyFall (supA : Nat) (supB : Nat)
  /-- SUPPLY_UNDERVOLTAGE (R480). A power die's supply crosses 5.5 V falling or 6.0 V rising, and its outputs go off or are driven again. -/
  | supplyUndervoltage (die : Fin 4) (under : Bool)
  /-- PWR_DOMAIN_ON (R482). A D-PWR domain comes on with its outputs off until the next commit strobe, and its models resume or cold-start. -/
  | pwrDomainOn (die : Fin 4) (ref : Int)
  /-- RSTN_LOW (R478). A low level on RSTN of 10 µs or more begins a controller reset. -/
  | rstnLow (low : Bool)
  /-- CONTROLLER_RESET (R37). A controller reset begins; D-LOGIC resets, hold-over starts, bridges brake, and queued frames and rounds are dropped. -/
  | controllerReset
  /-- START (R363). After a reset, power-up or valley exit, the journal start steps, the key roots, the pending activation, the deferred faults, the ledger and the plan load run before the first col. -/
  | start (x : Machine.StartIn)
  /-- ILLEGAL_ENCODING (R109). A bundle whose syllable carries an unassigned opcode or nonzero fields marked zero is suppressed and raises an ENCODING trap. -/
  | illegalEncoding (lane : Fin 4) (words : List Word32)
  /-- UNSUPPORTED_OPERATION (R325). A verified dictionary frame whose VER or OP the Z96 does not support, journal queries 0x15–0x17 included, is answered UNSUPPORTED. -/
  | unsupportedOperation (f : Machine.DictFrame)
  /-- LINK_UP (R386). A 1000BASE-T1 port establishes its link with the partner, setting LINK and letting the time-aware neighbour and dictionary traffic resume. -/
  | linkUp (port : Fin 2)
  /-- PLCA_IN_STEP (R336). A TS follower that fell back to CSMA/CD sees the PLCA beacon again and returns to PLCA transmit opportunities. -/
  | plcaInStep
  /-- TIME_AWARE_NEIGHBOUR_LOSS (R335). The 802.1AS port loses its time-aware neighbour (no sync or peer delay above PDMAX) and clears TIME.SYNC.LOCK within 3 sync intervals. -/
  | timeAwareNeighbourLoss
  /-- TC10_SLEEP_HANDSHAKE (R379). The T1 partner completes the TC10 sleep handshake, and the port enters TC10 sleep. -/
  | tc10SleepHandshake (port : Fin 2)
  /-- WAKE_LINE_RECOVERY (R381). A WAKE line that was stuck high has been low for 1 ms and is taken as a wake source again. -/
  | wakeLineRecovery
  /-- WAKE_PULSE_END (R381). The Z96's own WAKE drive ends after WPULSE × 20 µs, and the receiver's 50 µs ignore window runs out after it. -/
  | wakePulseEnd
  /-- CLEANING_PULSE_END (R302). The 5 ms cleaning pulse of a switch input with CLEAN = 1 ends and its wetting returns to WET. -/
  | cleaningPulseEnd (n : Fin 64)
  /-- LOAD_DUMP (R480). A supply input crosses 28 V, and the PKS charger and lighting stages pause, resuming when it falls below 28 V. -/
  | loadDump (input : Fin 2) (above : Bool)
  /-- CURRENT_LIMIT (R161). A load switch current reaches its effective limit, is held there with IN_LIMIT set and the limit-timeout timer starts, or leaves the limit. -/
  | currentLimit (n : Fin 96) (limiting : Bool)
  /-- PKS_READY (R231). The PKS charger brings PKS within 1 V of V_lim, and PKSSTAT.READY becomes 1. -/
  | pksReady (vpks : Nat)
  /-- TEST_ACCESS_PORT (R477). A TCK edge on the IEEE 1149.1 test access port advances the boundary-scan controller, held in reset while TRSTN is low. -/
  | testAccessPort (tms : Bool) (trstnLow : Bool)
  deriving DecidableEq, Repr

end Sys2Proof
end

