-- ==== Sys2Proof/Decode.lean ====
section
/-!
DEFINITION. Commands by words. The Z96 is a block: it fetches no instruction from a memory, and the table of its commands gives
none of them bits, so no word spells a command. A lane's syllables have words of their own, which Machine/Operands.lean reads.
-/
namespace Sys2Proof

/-- The command that the low `nbits` bits of a word spell by the bits of the opcode table: no row of it has bits. -/
def decodeTableWord (_nbits _w : Nat) : Option Instr := none

end Sys2Proof
end

