-- ==== Sys2Proof/Config.lean ====
section
/-!
DEFINITION. What one part fixes, and the values the spec leaves open: constants without a body, so that no proof can use
a number the spec does not state.
-/
namespace Sys2Proof.Config

/-- A random byte of the generator of R424, by how many random bytes were drawn before it. A free value.
[log entry 9 DESIGN CHOICE] -/
opaque randomByte : Nat → BitVec 8

/-- Byte `o` of the plan-table window outside the calibration copy, for the tables of a plan image and variant; the spec
gives the window's use but no layout (R31, R32). A free value. [log entry 11 DESIGN CHOICE] -/
opaque planWindowByte : List (Nat × BitVec 8) → Bool → Nat → BitVec 8

/-- A value the spec does not state, by how many such values were taken before it. A free value. -/
opaque openValue : Nat → Nat

/-- The budget in mA and the headroom of a segment whose steady rise per A² is 0: the quotient of R188 has no value. A free
value. [log entry 62 DESIGN CHOICE] -/
opaque noHeatBudget : Nat → Nat

/-- Byte `i` of the PUF root that this part regenerates (R419). A free value. [log entry 10 DESIGN CHOICE] -/
opaque pufByte : Nat → BitVec 8

/-- The site code and serial number of UNIT_ID (R421), of which the low 48 bits count. A free value. -/
opaque unitSerial : Nat

/-- Byte `a` of an MRAM bank that has left service (R33, R366). A free value. -/
opaque lostBankByte : Nat → BitVec 8

/-- The length of the blob of an index at a count (R311, R324): the spec gives blobs no content. A free value. -/
opaque blobLength : Nat → Nat → Nat

/-- Byte `i` of the blob of an index at a count: by index, count, `i`. A free value. -/
opaque blobByte : Nat → Nat → Nat → BitVec 8

end Sys2Proof.Config
end

