-- ==== Sys2Proof/Machine/RegFields.lean ====
section
/-!
DEFINITION. The names of the register fields of the spec's register tables (R4, R5): each field is the byte offset of
its register within the 4 MiB register window, the distance between the registers of neighbouring channels, and the
bits it holds. `REG` names a whole register.
-/
namespace Sys2Proof.Machine

/-- A register field: offset of the register of unit 0, stride between units, lowest bit, width (R4, R5, R7). -/
structure Field where
  base : Nat
  stride : Nat
  lo : Nat
  len : Nat
  deriving DecidableEq, Repr

/-- The offset of the field's register for unit `n` (R5). -/
def Field.off (F : Field) (n : Nat) : Nat := F.base + F.stride * n

/-! ### SYS (R2, R141, R142) -/
def Reg.SYS.IDENT.REG : Field := ⟨0x0, 0x0, 0, 32⟩
def Reg.SYS.IDENT.PART : Field := ⟨0x0, 0x0, 16, 16⟩
def Reg.SYS.IDENT.REV : Field := ⟨0x0, 0x0, 8, 8⟩
def Reg.SYS.IDENT.STEP : Field := ⟨0x0, 0x0, 4, 4⟩
def Reg.SYS.FEATURE0.REG : Field := ⟨0x40, 0x0, 0, 32⟩
def Reg.SYS.FEATURE0.EXT_MAX : Field := ⟨0x40, 0x0, 24, 2⟩
def Reg.SYS.FEATURE0.SYL_MAX : Field := ⟨0x40, 0x0, 20, 4⟩
def Reg.SYS.FEATURE0.OPS_MAX : Field := ⟨0x40, 0x0, 17, 3⟩
def Reg.SYS.FEATURE0.PREDS : Field := ⟨0x40, 0x0, 14, 3⟩
def Reg.SYS.FEATURE0.GPRS : Field := ⟨0x40, 0x0, 8, 6⟩
def Reg.SYS.FEATURE0.LANES : Field := ⟨0x40, 0x0, 4, 4⟩
def Reg.SYS.FEATURE0.ISA : Field := ⟨0x40, 0x0, 0, 4⟩
def Reg.SYS.FEATURE1.REG : Field := ⟨0x44, 0x0, 0, 32⟩
def Reg.SYS.FEATURE1.BR_DELAY : Field := ⟨0x44, 0x0, 24, 4⟩
def Reg.SYS.FEATURE1.PLOAD : Field := ⟨0x44, 0x0, 20, 4⟩
def Reg.SYS.FEATURE1.LLOAD : Field := ⟨0x44, 0x0, 16, 4⟩
def Reg.SYS.FEATURE1.DIV : Field := ⟨0x44, 0x0, 8, 8⟩
def Reg.SYS.FEATURE1.MUL : Field := ⟨0x44, 0x0, 4, 4⟩
def Reg.SYS.FEATURE1.ALU : Field := ⟨0x44, 0x0, 0, 4⟩
def Reg.SYS.FEATURE2.REG : Field := ⟨0x48, 0x0, 0, 32⟩
def Reg.SYS.FEATURE2.MRAM : Field := ⟨0x48, 0x0, 24, 8⟩
def Reg.SYS.FEATURE2.WHEEL : Field := ⟨0x48, 0x0, 20, 4⟩
def Reg.SYS.FEATURE2.REG_WR : Field := ⟨0x48, 0x0, 16, 4⟩
def Reg.SYS.FEATURE2.REG_RD : Field := ⟨0x48, 0x0, 12, 4⟩
def Reg.SYS.FEATURE2.SC_FLAG : Field := ⟨0x48, 0x0, 8, 4⟩
def Reg.SYS.FEATURE2.SH_STORE : Field := ⟨0x48, 0x0, 4, 4⟩
def Reg.SYS.FEATURE2.SH_LOAD : Field := ⟨0x48, 0x0, 0, 4⟩
def Reg.SYS.FEATURE3.REG : Field := ⟨0x4C, 0x0, 0, 32⟩
def Reg.SYS.FEATURE3.SHARED : Field := ⟨0x4C, 0x0, 18, 12⟩
def Reg.SYS.FEATURE3.DMEM : Field := ⟨0x4C, 0x0, 9, 9⟩
def Reg.SYS.FEATURE3.IMEM : Field := ⟨0x4C, 0x0, 0, 9⟩
def Reg.SYS.FEATURE4.REG : Field := ⟨0x50, 0x0, 0, 32⟩
def Reg.SYS.FEATURE4.RES_MOD : Field := ⟨0x50, 0x0, 12, 4⟩
def Reg.SYS.FEATURE4.ECC_STAGE : Field := ⟨0x50, 0x0, 8, 4⟩
def Reg.SYS.FEATURE4.SCRUB : Field := ⟨0x50, 0x0, 7, 1⟩
def Reg.SYS.FEATURE4.PAR_LOGIC : Field := ⟨0x50, 0x0, 6, 1⟩
def Reg.SYS.FEATURE4.RES_MULDIV : Field := ⟨0x50, 0x0, 5, 1⟩
def Reg.SYS.FEATURE4.RES_ADD : Field := ⟨0x50, 0x0, 4, 1⟩
def Reg.SYS.FEATURE4.ECC_REGS : Field := ⟨0x50, 0x0, 3, 1⟩
def Reg.SYS.FEATURE4.ECC_PLAN : Field := ⟨0x50, 0x0, 2, 1⟩
def Reg.SYS.FEATURE4.ECC_SHARED : Field := ⟨0x50, 0x0, 1, 1⟩
def Reg.SYS.FEATURE4.ECC_LOCAL : Field := ⟨0x50, 0x0, 0, 1⟩
def Reg.SYS.FEATURE5.REG : Field := ⟨0x54, 0x0, 0, 32⟩
def Reg.SYS.FEATURE5.TAS_BIT0 : Field := ⟨0x54, 0x0, 7, 1⟩
def Reg.SYS.FEATURE5.RESV_END : Field := ⟨0x54, 0x0, 6, 1⟩
def Reg.SYS.FEATURE5.GRANULE : Field := ⟨0x54, 0x0, 2, 4⟩
def Reg.SYS.FEATURE5.LRSC : Field := ⟨0x54, 0x0, 1, 1⟩
def Reg.SYS.FEATURE5.TAS : Field := ⟨0x54, 0x0, 0, 1⟩
def Reg.SYS.FEATURE6.REG : Field := ⟨0x58, 0x0, 0, 32⟩
def Reg.SYS.FEATURE6.TRAP_CAUSES : Field := ⟨0x58, 0x0, 16, 8⟩
def Reg.SYS.FEATURE6.SUSPEND : Field := ⟨0x58, 0x0, 8, 8⟩
def Reg.SYS.FEATURE6.NARROWS_REMAP : Field := ⟨0x58, 0x0, 7, 1⟩
def Reg.SYS.FEATURE6.BANK_P : Field := ⟨0x58, 0x0, 6, 1⟩
def Reg.SYS.FEATURE6.WAIT : Field := ⟨0x58, 0x0, 5, 1⟩
def Reg.SYS.FEATURE6.DROPP : Field := ⟨0x58, 0x0, 4, 1⟩
def Reg.SYS.FEATURE6.INTR : Field := ⟨0x58, 0x0, 3, 1⟩
def Reg.SYS.FEATURE7.REG : Field := ⟨0x5C, 0x0, 0, 32⟩
def Reg.SYS.FEATURE7.K_PL3 : Field := ⟨0x5C, 0x0, 16, 4⟩
def Reg.SYS.FEATURE7.K_PL2 : Field := ⟨0x5C, 0x0, 12, 4⟩
def Reg.SYS.FEATURE7.K_PL1 : Field := ⟨0x5C, 0x0, 8, 4⟩
def Reg.SYS.FEATURE7.K_PL0 : Field := ⟨0x5C, 0x0, 4, 4⟩
def Reg.SYS.FEATURE7.LEVELS : Field := ⟨0x5C, 0x0, 0, 4⟩
def Reg.SYS.LANE_STAT.REG : Field := ⟨0x100, 0x40, 0, 32⟩
def Reg.SYS.LANE_STAT.RESV : Field := ⟨0x100, 0x40, 8, 1⟩
def Reg.SYS.LANE_STAT.IN_WAIT : Field := ⟨0x100, 0x40, 7, 1⟩
def Reg.SYS.LANE_STAT.IN_PLAIN : Field := ⟨0x100, 0x40, 6, 1⟩
def Reg.SYS.LANE_STAT.AT_WAIT : Field := ⟨0x100, 0x40, 5, 1⟩
def Reg.SYS.LANE_STAT.PRIV : Field := ⟨0x100, 0x40, 4, 1⟩
def Reg.SYS.LANE_STAT.IN_SERVICE : Field := ⟨0x100, 0x40, 3, 1⟩
def Reg.SYS.LANE_STAT.VARIANT : Field := ⟨0x100, 0x40, 2, 1⟩
def Reg.SYS.LANE_STAT.LOGICAL : Field := ⟨0x100, 0x40, 0, 2⟩
def Reg.SYS.LANE_TRAP.REG : Field := ⟨0x104, 0x40, 0, 32⟩
def Reg.SYS.LANE_TRAP.VALID : Field := ⟨0x104, 0x40, 31, 1⟩
def Reg.SYS.LANE_TRAP.PLAIN : Field := ⟨0x104, 0x40, 30, 1⟩
def Reg.SYS.LANE_TRAP.COUNT : Field := ⟨0x104, 0x40, 8, 8⟩
def Reg.SYS.LANE_TRAP.CAUSE : Field := ⟨0x104, 0x40, 0, 8⟩
def Reg.SYS.LANE_TPC.REG : Field := ⟨0x108, 0x40, 0, 32⟩
def Reg.SYS.LANE_TPC.ADDR : Field := ⟨0x108, 0x40, 0, 32⟩
def Reg.SYS.LANE_TADDR.REG : Field := ⟨0x10C, 0x40, 0, 32⟩
def Reg.SYS.LANE_TADDR.ADDR : Field := ⟨0x10C, 0x40, 0, 32⟩
def Reg.SYS.LANE_PWIN.REG : Field := ⟨0x110, 0x40, 0, 32⟩
def Reg.SYS.LANE_PWIN.LIMIT : Field := ⟨0x110, 0x40, 16, 9⟩
def Reg.SYS.LANE_PWIN.BASE : Field := ⟨0x110, 0x40, 0, 9⟩
def Reg.SYS.LANE_PSAVE.REG : Field := ⟨0x114, 0x40, 0, 32⟩
def Reg.SYS.LANE_PSAVE.ADDR : Field := ⟨0x114, 0x40, 2, 30⟩
def Reg.SYS.LANE_PSAVE.PRIV : Field := ⟨0x114, 0x40, 1, 1⟩
def Reg.SYS.LANE_PSAVE.VALID : Field := ⟨0x114, 0x40, 0, 1⟩
def Reg.SYS.LANE_ECC.REG : Field := ⟨0x118, 0x40, 0, 32⟩
def Reg.SYS.LANE_ECC.SHARED : Field := ⟨0x118, 0x40, 24, 8⟩
def Reg.SYS.LANE_ECC.REGS : Field := ⟨0x118, 0x40, 16, 8⟩
def Reg.SYS.LANE_ECC.DMEM : Field := ⟨0x118, 0x40, 8, 8⟩
def Reg.SYS.LANE_ECC.IMEM : Field := ⟨0x118, 0x40, 0, 8⟩
def Reg.SYS.LANE_INJ.REG : Field := ⟨0x11C, 0x40, 0, 32⟩
def Reg.SYS.LANE_INJ.ECC2 : Field := ⟨0x11C, 0x40, 2, 1⟩
def Reg.SYS.LANE_INJ.ECC1 : Field := ⟨0x11C, 0x40, 1, 1⟩
def Reg.SYS.LANE_INJ.RESIDUE : Field := ⟨0x11C, 0x40, 0, 1⟩
def Reg.SYS.LANE_PTRAP.REG : Field := ⟨0x120, 0x40, 0, 32⟩
def Reg.SYS.LANE_PTRAP.VALUE : Field := ⟨0x120, 0x40, 0, 32⟩
def Reg.SYS.LANE_PTPC.REG : Field := ⟨0x124, 0x40, 0, 32⟩
def Reg.SYS.LANE_PTPC.VALUE : Field := ⟨0x124, 0x40, 0, 32⟩

/-! ### TICK (R77) -/
def Reg.TICK.STATUS.REG : Field := ⟨0x10000, 0x0, 0, 32⟩
def Reg.TICK.STATUS.LANE_OK : Field := ⟨0x10000, 0x0, 12, 4⟩
def Reg.TICK.STATUS.LOST_LANE : Field := ⟨0x10000, 0x0, 10, 2⟩
def Reg.TICK.STATUS.ALIGNED : Field := ⟨0x10000, 0x0, 9, 1⟩
def Reg.TICK.STATUS.HO_REFUSED : Field := ⟨0x10000, 0x0, 8, 1⟩
def Reg.TICK.STATUS.HO_ARMED : Field := ⟨0x10000, 0x0, 7, 1⟩
def Reg.TICK.STATUS.SNAP_FULL : Field := ⟨0x10000, 0x0, 6, 1⟩
def Reg.TICK.STATUS.BASE_AL : Field := ⟨0x10000, 0x0, 5, 1⟩
def Reg.TICK.STATUS.STATE : Field := ⟨0x10000, 0x0, 0, 3⟩
def Reg.TICK.PERIOD.REG : Field := ⟨0x10004, 0x0, 0, 32⟩
def Reg.TICK.PERIOD.T : Field := ⟨0x10004, 0x0, 0, 19⟩
def Reg.TICK.COL_LO.REG : Field := ⟨0x10008, 0x0, 0, 32⟩
def Reg.TICK.COL_LO.COUNT : Field := ⟨0x10008, 0x0, 0, 32⟩
def Reg.TICK.COL_HI.REG : Field := ⟨0x1000C, 0x0, 0, 32⟩
def Reg.TICK.COL_HI.COUNT : Field := ⟨0x1000C, 0x0, 0, 32⟩
def Reg.TICK.COLNUM_LO.REG : Field := ⟨0x10010, 0x0, 0, 32⟩
def Reg.TICK.COLNUM_LO.NUMBER : Field := ⟨0x10010, 0x0, 0, 32⟩
def Reg.TICK.COLNUM_HI.REG : Field := ⟨0x10014, 0x0, 0, 32⟩
def Reg.TICK.COLNUM_HI.NUMBER : Field := ⟨0x10014, 0x0, 0, 32⟩
def Reg.TICK.PHASE.REG : Field := ⟨0x10018, 0x0, 0, 32⟩
def Reg.TICK.PHASE.P : Field := ⟨0x10018, 0x0, 0, 19⟩
def Reg.TICK.CTRL.REG : Field := ⟨0x10020, 0x0, 0, 32⟩
def Reg.TICK.CTRL.ALIGN : Field := ⟨0x10020, 0x0, 3, 1⟩
def Reg.TICK.CTRL.HO_ABORT : Field := ⟨0x10020, 0x0, 2, 1⟩
def Reg.TICK.CTRL.HO_ARM : Field := ⟨0x10020, 0x0, 1, 1⟩
def Reg.TICK.CTRL.LOAD : Field := ⟨0x10020, 0x0, 0, 1⟩
def Reg.TICK.HO_COL_LO.REG : Field := ⟨0x10028, 0x0, 0, 32⟩
def Reg.TICK.HO_COL_LO.NUMBER : Field := ⟨0x10028, 0x0, 0, 32⟩
def Reg.TICK.HO_COL_HI.REG : Field := ⟨0x1002C, 0x0, 0, 32⟩
def Reg.TICK.HO_COL_HI.NUMBER : Field := ⟨0x1002C, 0x0, 0, 32⟩
def Reg.TICK.OVERRUN.REG : Field := ⟨0x10030, 0x0, 0, 32⟩
def Reg.TICK.OVERRUN.BLOCK : Field := ⟨0x10030, 0x0, 16, 16⟩
def Reg.TICK.OVERRUN.LANE : Field := ⟨0x10030, 0x0, 0, 4⟩
def Reg.TICK.LOADERR.REG : Field := ⟨0x10034, 0x0, 0, 32⟩
def Reg.TICK.LOADERR.TARGET : Field := ⟨0x10034, 0x0, 4, 4⟩
def Reg.TICK.LOADERR.CHECK : Field := ⟨0x10034, 0x0, 0, 4⟩
def Reg.TICK.PLAN_ID_LO.REG : Field := ⟨0x10038, 0x0, 0, 32⟩
def Reg.TICK.PLAN_ID_LO.VALUE : Field := ⟨0x10038, 0x0, 0, 32⟩
def Reg.TICK.PLAN_ID_HI.REG : Field := ⟨0x1003C, 0x0, 0, 32⟩
def Reg.TICK.PLAN_ID_HI.VALUE : Field := ⟨0x1003C, 0x0, 0, 32⟩
def Reg.TICK.PLAN_VER.REG : Field := ⟨0x10040, 0x0, 0, 32⟩
def Reg.TICK.PLAN_VER.VALUE : Field := ⟨0x10040, 0x0, 0, 32⟩
def Reg.TICK.SKEW.REG : Field := ⟨0x10044, 0x0, 0, 32⟩
def Reg.TICK.SKEW.SPREAD : Field := ⟨0x10044, 0x0, 0, 2⟩

/-! ### LSW (chapter 05) -/
def Reg.LSW.CTRL.REG : Field := ⟨0x100000, 0x40, 0, 32⟩
def Reg.LSW.CTRL.PHASE : Field := ⟨0x100000, 0x40, 20, 10⟩
def Reg.LSW.CTRL.DUTY : Field := ⟨0x100000, 0x40, 8, 11⟩
def Reg.LSW.CTRL.GROUP : Field := ⟨0x100000, 0x40, 4, 4⟩
def Reg.LSW.CTRL.FWTEST : Field := ⟨0x100000, 0x40, 1, 1⟩
def Reg.LSW.CTRL.EN : Field := ⟨0x100000, 0x40, 0, 1⟩
def Reg.LSW.CFG.REG : Field := ⟨0x100004, 0x40, 0, 32⟩
def Reg.LSW.CFG.CLASS : Field := ⟨0x100004, 0x40, 18, 2⟩
def Reg.LSW.CFG.FILT : Field := ⟨0x100004, 0x40, 15, 3⟩
def Reg.LSW.CFG.ISRC : Field := ⟨0x100004, 0x40, 13, 2⟩
def Reg.LSW.CFG.OFFDIAG : Field := ⟨0x100004, 0x40, 12, 1⟩
def Reg.LSW.CFG.SAFE : Field := ⟨0x100004, 0x40, 10, 2⟩
def Reg.LSW.CFG.EDGE : Field := ⟨0x100004, 0x40, 9, 1⟩
def Reg.LSW.CFG.INDUCTIVE : Field := ⟨0x100004, 0x40, 8, 1⟩
def Reg.LSW.CFG.DIN_INV : Field := ⟨0x100004, 0x40, 7, 1⟩
def Reg.LSW.CFG.DIN : Field := ⟨0x100004, 0x40, 2, 5⟩
def Reg.LSW.CFG.SRC : Field := ⟨0x100004, 0x40, 0, 2⟩
def Reg.LSW.HOLD.REG : Field := ⟨0x100008, 0x40, 0, 32⟩
def Reg.LSW.HOLD.HOLD : Field := ⟨0x100008, 0x40, 0, 11⟩
def Reg.LSW.ILIM.REG : Field := ⟨0x10000C, 0x40, 0, 32⟩
def Reg.LSW.ILIM.TOL : Field := ⟨0x10000C, 0x40, 24, 8⟩
def Reg.LSW.ILIM.IOL : Field := ⟨0x10000C, 0x40, 16, 8⟩
def Reg.LSW.ILIM.TLIM : Field := ⟨0x10000C, 0x40, 8, 8⟩
def Reg.LSW.ILIM.ILIM : Field := ⟨0x10000C, 0x40, 0, 8⟩
def Reg.LSW.RETRY.REG : Field := ⟨0x100010, 0x40, 0, 32⟩
def Reg.LSW.RETRY.RELOAD : Field := ⟨0x100010, 0x40, 31, 1⟩
def Reg.LSW.RETRY.RETRY_LEFT : Field := ⟨0x100010, 0x40, 24, 4⟩
def Reg.LSW.RETRY.REFILL : Field := ⟨0x100010, 0x40, 16, 8⟩
def Reg.LSW.RETRY.TRETRY : Field := ⟨0x100010, 0x40, 8, 8⟩
def Reg.LSW.RETRY.RETRY_MAX : Field := ⟨0x100010, 0x40, 0, 4⟩
def Reg.LSW.FW.REG : Field := ⟨0x100014, 0x40, 0, 32⟩
def Reg.LSW.FW.FW_BUSY : Field := ⟨0x100014, 0x40, 11, 1⟩
def Reg.LSW.FW.FW_RESULT : Field := ⟨0x100014, 0x40, 9, 2⟩
def Reg.LSW.FW.FW_OK : Field := ⟨0x100014, 0x40, 8, 1⟩
def Reg.LSW.FW.FW_PULSE : Field := ⟨0x100014, 0x40, 0, 8⟩
def Reg.LSW.STAT.REG : Field := ⟨0x100018, 0x40, 0, 32⟩
def Reg.LSW.STAT.EV_HOLDEXP : Field := ⟨0x100018, 0x40, 23, 1⟩
def Reg.LSW.STAT.EV_FWFAIL : Field := ⟨0x100018, 0x40, 22, 1⟩
def Reg.LSW.STAT.EV_STB : Field := ⟨0x100018, 0x40, 21, 1⟩
def Reg.LSW.STAT.EV_OPEN_OFF : Field := ⟨0x100018, 0x40, 20, 1⟩
def Reg.LSW.STAT.EV_OPEN_ON : Field := ⟨0x100018, 0x40, 19, 1⟩
def Reg.LSW.STAT.EV_THERM : Field := ⟨0x100018, 0x40, 18, 1⟩
def Reg.LSW.STAT.EV_LIMTO : Field := ⟨0x100018, 0x40, 17, 1⟩
def Reg.LSW.STAT.EV_SHORT : Field := ⟨0x100018, 0x40, 16, 1⟩
def Reg.LSW.STAT.UV : Field := ⟨0x100018, 0x40, 11, 1⟩
def Reg.LSW.STAT.LEDGER_CAP : Field := ⟨0x100018, 0x40, 10, 1⟩
def Reg.LSW.STAT.PULSE_CLIP : Field := ⟨0x100018, 0x40, 9, 1⟩
def Reg.LSW.STAT.DIN_ACTIVE : Field := ⟨0x100018, 0x40, 8, 1⟩
def Reg.LSW.STAT.FW_BLOCK : Field := ⟨0x100018, 0x40, 7, 1⟩
def Reg.LSW.STAT.SAFE : Field := ⟨0x100018, 0x40, 6, 1⟩
def Reg.LSW.STAT.HOLDOVER : Field := ⟨0x100018, 0x40, 5, 1⟩
def Reg.LSW.STAT.LOCKED : Field := ⟨0x100018, 0x40, 4, 1⟩
def Reg.LSW.STAT.RETRY_PEND : Field := ⟨0x100018, 0x40, 3, 1⟩
def Reg.LSW.STAT.TLATCH : Field := ⟨0x100018, 0x40, 2, 1⟩
def Reg.LSW.STAT.IN_LIMIT : Field := ⟨0x100018, 0x40, 1, 1⟩
def Reg.LSW.STAT.ON : Field := ⟨0x100018, 0x40, 0, 1⟩
def Reg.LSW.IMEAS.REG : Field := ⟨0x10001C, 0x40, 0, 32⟩
def Reg.LSW.IMEAS.SAT : Field := ⟨0x10001C, 0x40, 18, 1⟩
def Reg.LSW.IMEAS.SRC_FB : Field := ⟨0x10001C, 0x40, 17, 1⟩
def Reg.LSW.IMEAS.VALID : Field := ⟨0x10001C, 0x40, 16, 1⟩
def Reg.LSW.IMEAS.I : Field := ⟨0x10001C, 0x40, 0, 16⟩
def Reg.LSW.ISENSE.REG : Field := ⟨0x100020, 0x40, 0, 32⟩
def Reg.LSW.ISENSE.PINFAULT : Field := ⟨0x100020, 0x40, 12, 1⟩
def Reg.LSW.ISENSE.CODE : Field := ⟨0x100020, 0x40, 0, 12⟩
def Reg.LSW.IFB.REG : Field := ⟨0x100024, 0x40, 0, 32⟩
def Reg.LSW.IFB.CODE : Field := ⟨0x100024, 0x40, 0, 12⟩
def Reg.LSW.TJ.REG : Field := ⟨0x100028, 0x40, 0, 32⟩
def Reg.LSW.TJ.VALUE : Field := ⟨0x100028, 0x40, 0, 12⟩
def Reg.LSW.VOUT.REG : Field := ⟨0x10002C, 0x40, 0, 32⟩
def Reg.LSW.VOUT.VALUE : Field := ⟨0x10002C, 0x40, 0, 12⟩
def Reg.LSW.EVCOUNT.REG : Field := ⟨0x100030, 0x40, 0, 32⟩
def Reg.LSW.EVCOUNT.RETRIES : Field := ⟨0x100030, 0x40, 24, 8⟩
def Reg.LSW.EVCOUNT.THERM : Field := ⟨0x100030, 0x40, 16, 8⟩
def Reg.LSW.EVCOUNT.LIMTO : Field := ⟨0x100030, 0x40, 8, 8⟩
def Reg.LSW.EVCOUNT.SHORT : Field := ⟨0x100030, 0x40, 0, 8⟩
def Reg.LSW.FORCE.REG : Field := ⟨0x100034, 0x40, 0, 32⟩
def Reg.LSW.FORCE.CLAMP : Field := ⟨0x100034, 0x40, 3, 1⟩
def Reg.LSW.FORCE.THERM : Field := ⟨0x100034, 0x40, 2, 1⟩
def Reg.LSW.FORCE.SHORT : Field := ⟨0x100034, 0x40, 1, 1⟩
def Reg.LSW.FORCE.OPEN : Field := ⟨0x100034, 0x40, 0, 1⟩
def Reg.LSW.ILIMEFF.REG : Field := ⟨0x100038, 0x40, 0, 32⟩
def Reg.LSW.ILIMEFF.BUDGET_LOW : Field := ⟨0x100038, 0x40, 8, 1⟩
def Reg.LSW.ILIMEFF.EFF : Field := ⟨0x100038, 0x40, 0, 8⟩
def Reg.LSW.IRMS.REG : Field := ⟨0x10003C, 0x40, 0, 32⟩
def Reg.LSW.IRMS.VALID : Field := ⟨0x10003C, 0x40, 12, 1⟩
def Reg.LSW.IRMS.CODE : Field := ⟨0x10003C, 0x40, 0, 12⟩
def Reg.LSW.PGPER.REG : Field := ⟨0x10F000, 0x4, 0, 32⟩
def Reg.LSW.PGPER.PERIOD : Field := ⟨0x10F000, 0x4, 0, 16⟩
def Reg.LSW.SENSECFG.REG : Field := ⟨0x10F040, 0x0, 0, 32⟩
def Reg.LSW.SENSECFG.SETTLE : Field := ⟨0x10F040, 0x0, 16, 8⟩
def Reg.LSW.SENSECFG.SELSRC : Field := ⟨0x10F040, 0x0, 15, 1⟩
def Reg.LSW.SENSECFG.SCANMASK : Field := ⟨0x10F040, 0x0, 0, 14⟩
def Reg.LSW.SENSESTAT.REG : Field := ⟨0x10F044, 0x0, 0, 32⟩
def Reg.LSW.SENSESTAT.OVERLAP : Field := ⟨0x10F044, 0x0, 13, 1⟩
def Reg.LSW.SENSESTAT.SCAN_BUSY : Field := ⟨0x10F044, 0x0, 12, 1⟩
def Reg.LSW.SENSESTAT.SEL : Field := ⟨0x10F044, 0x0, 8, 4⟩
def Reg.LSW.SENSESTAT.PINFAULT : Field := ⟨0x10F044, 0x0, 0, 8⟩
def Reg.LSW.SENSEPIN.REG : Field := ⟨0x10F050, 0x4, 0, 32⟩
def Reg.LSW.SENSEPIN.CAL : Field := ⟨0x10F050, 0x4, 16, 12⟩
def Reg.LSW.SENSEPIN.OFS : Field := ⟨0x10F050, 0x4, 0, 12⟩
def Reg.LSW.DINSTAT.REG : Field := ⟨0x10F070, 0x0, 0, 32⟩
def Reg.LSW.DINSTAT.LEVEL : Field := ⟨0x10F070, 0x0, 0, 24⟩
def Reg.LSW.DINCFG.REG : Field := ⟨0x10F074, 0x0, 0, 32⟩
def Reg.LSW.DINCFG.FILT : Field := ⟨0x10F074, 0x0, 0, 8⟩

/-! ### LEDGER (chapter 06) -/
def Reg.LEDGER.STATUS.REG : Field := ⟨0x120000, 0x0, 0, 32⟩
def Reg.LEDGER.STATUS.SEGTRIPS : Field := ⟨0x120000, 0x0, 16, 16⟩
def Reg.LEDGER.STATUS.SEGS : Field := ⟨0x120000, 0x0, 8, 8⟩
def Reg.LEDGER.STATUS.DEFAULT : Field := ⟨0x120000, 0x0, 2, 1⟩
def Reg.LEDGER.STATUS.COLD : Field := ⟨0x120000, 0x0, 1, 1⟩
def Reg.LEDGER.STATUS.MODEL_OK : Field := ⟨0x120000, 0x0, 0, 1⟩
def Reg.LEDGER.CFG.REG : Field := ⟨0x120004, 0x0, 0, 32⟩
def Reg.LEDGER.CFG.ESTORE : Field := ⟨0x120004, 0x0, 16, 8⟩
def Reg.LEDGER.CFG.VALID_S : Field := ⟨0x120004, 0x0, 0, 16⟩
def Reg.LEDGER.MODEL_ID.REG : Field := ⟨0x120008, 0x0, 0, 32⟩
def Reg.LEDGER.MODEL_ID.VALUE : Field := ⟨0x120008, 0x0, 0, 32⟩
def Reg.LEDGER.AGE.REG : Field := ⟨0x12000C, 0x0, 0, 32⟩
def Reg.LEDGER.AGE.VALUE : Field := ⟨0x12000C, 0x0, 0, 32⟩
def Reg.LEDGER.AMB.REG : Field := ⟨0x120010, 0x4, 0, 32⟩
def Reg.LEDGER.AMB.TEMP : Field := ⟨0x120010, 0x4, 0, 16⟩
def Reg.LEDGER.IN.REG : Field := ⟨0x120020, 0x4, 0, 32⟩
def Reg.LEDGER.IN.I_PEAK : Field := ⟨0x120020, 0x4, 8, 8⟩
def Reg.LEDGER.IN.I_CONT : Field := ⟨0x120020, 0x4, 0, 8⟩
def Reg.LEDGER.INSTAT.REG : Field := ⟨0x120028, 0x4, 0, 32⟩
def Reg.LEDGER.INSTAT.ACCOUNT : Field := ⟨0x120028, 0x4, 16, 16⟩
def Reg.LEDGER.INSTAT.BUDGET : Field := ⟨0x120028, 0x4, 0, 16⟩
def Reg.LEDGER.INMEAS.REG : Field := ⟨0x120030, 0x4, 0, 32⟩
def Reg.LEDGER.INMEAS.RESV : Field := ⟨0x120030, 0x4, 16, 16⟩
def Reg.LEDGER.INMEAS.I : Field := ⟨0x120030, 0x4, 0, 16⟩
def Reg.LEDGER.FORCE.REG : Field := ⟨0x120040, 0x0, 0, 32⟩
def Reg.LEDGER.FORCE.SEG : Field := ⟨0x120040, 0x0, 8, 8⟩
def Reg.LEDGER.FORCE.SEGTRIP : Field := ⟨0x120040, 0x0, 0, 1⟩
def Reg.LEDGER.ADMIT_REQ.REG : Field := ⟨0x120100, 0x10, 0, 32⟩
def Reg.LEDGER.ADMIT_REQ.OP : Field := ⟨0x120100, 0x10, 30, 2⟩
def Reg.LEDGER.ADMIT_REQ.CH : Field := ⟨0x120100, 0x10, 16, 7⟩
def Reg.LEDGER.ADMIT_REQ.I_ST : Field := ⟨0x120100, 0x10, 0, 16⟩
def Reg.LEDGER.ADMIT_RES.REG : Field := ⟨0x120104, 0x10, 0, 32⟩
def Reg.LEDGER.ADMIT_RES.VALID : Field := ⟨0x120104, 0x10, 31, 1⟩
def Reg.LEDGER.ADMIT_RES.RESULT : Field := ⟨0x120104, 0x10, 28, 3⟩
def Reg.LEDGER.ADMIT_RES.REASON : Field := ⟨0x120104, 0x10, 24, 4⟩
def Reg.LEDGER.ADMIT_RES.BIND : Field := ⟨0x120104, 0x10, 16, 8⟩
def Reg.LEDGER.ADMIT_RES.GRANT : Field := ⟨0x120104, 0x10, 0, 16⟩
def Reg.LEDGER.SEG_THETA.REG : Field := ⟨0x121000, 0x10, 0, 32⟩
def Reg.LEDGER.SEG_THETA.THETA : Field := ⟨0x121000, 0x10, 0, 16⟩
def Reg.LEDGER.SEG_I.REG : Field := ⟨0x121004, 0x10, 0, 32⟩
def Reg.LEDGER.SEG_I.I : Field := ⟨0x121004, 0x10, 0, 32⟩
def Reg.LEDGER.SEG_BUD.REG : Field := ⟨0x121008, 0x10, 0, 32⟩
def Reg.LEDGER.SEG_BUD.BUD : Field := ⟨0x121008, 0x10, 0, 32⟩
def Reg.LEDGER.SEG_HEAD.REG : Field := ⟨0x12100C, 0x10, 0, 32⟩
def Reg.LEDGER.SEG_HEAD.HEAD : Field := ⟨0x12100C, 0x10, 0, 32⟩
def Reg.LEDGER.RESV.REG : Field := ⟨0x122000, 0x4, 0, 32⟩
def Reg.LEDGER.RESV.LOWERED : Field := ⟨0x122000, 0x4, 17, 1⟩
def Reg.LEDGER.RESV.INRUSH : Field := ⟨0x122000, 0x4, 16, 1⟩
def Reg.LEDGER.RESV.RESV : Field := ⟨0x122000, 0x4, 0, 16⟩

/-! ### HBR (chapter 07) -/
def Reg.HBR.CTRL.REG : Field := ⟨0x130000, 0x40, 0, 32⟩
def Reg.HBR.CTRL.STOP_EN : Field := ⟨0x130000, 0x40, 27, 1⟩
def Reg.HBR.CTRL.REARM : Field := ⟨0x130000, 0x40, 26, 1⟩
def Reg.HBR.CTRL.MODE : Field := ⟨0x130000, 0x40, 23, 3⟩
def Reg.HBR.CTRL.DUTY : Field := ⟨0x130000, 0x40, 8, 11⟩
def Reg.HBR.CTRL.ICHOP : Field := ⟨0x130000, 0x40, 0, 8⟩
def Reg.HBR.CFG.REG : Field := ⟨0x130004, 0x40, 0, 32⟩
def Reg.HBR.CFG.REVBRAKE : Field := ⟨0x130004, 0x40, 16, 8⟩
def Reg.HBR.CFG.TSTALL : Field := ⟨0x130004, 0x40, 8, 8⟩
def Reg.HBR.CFG.STALL_BRAKE : Field := ⟨0x130004, 0x40, 4, 1⟩
def Reg.HBR.CFG.SAFE : Field := ⟨0x130004, 0x40, 3, 1⟩
def Reg.HBR.CFG.EDGE : Field := ⟨0x130004, 0x40, 2, 1⟩
def Reg.HBR.CFG.SLEW : Field := ⟨0x130004, 0x40, 0, 2⟩
def Reg.HBR.STOPPOS.REG : Field := ⟨0x130008, 0x40, 0, 32⟩
def Reg.HBR.STOPPOS.POS : Field := ⟨0x130008, 0x40, 0, 32⟩
def Reg.HBR.STAT.REG : Field := ⟨0x13000C, 0x40, 0, 32⟩
def Reg.HBR.STAT.EV_STALL : Field := ⟨0x13000C, 0x40, 23, 1⟩
def Reg.HBR.STAT.EV_THERM : Field := ⟨0x13000C, 0x40, 22, 1⟩
def Reg.HBR.STAT.EV_SHORT : Field := ⟨0x13000C, 0x40, 21, 1⟩
def Reg.HBR.STAT.EV_BRKLIM : Field := ⟨0x13000C, 0x40, 20, 1⟩
def Reg.HBR.STAT.EV_OV : Field := ⟨0x13000C, 0x40, 19, 1⟩
def Reg.HBR.STAT.EV_STOP : Field := ⟨0x13000C, 0x40, 18, 1⟩
def Reg.HBR.STAT.APPLIED : Field := ⟨0x13000C, 0x40, 13, 3⟩
def Reg.HBR.STAT.REVERSING : Field := ⟨0x13000C, 0x40, 12, 1⟩
def Reg.HBR.STAT.STOPPED : Field := ⟨0x13000C, 0x40, 11, 1⟩
def Reg.HBR.STAT.LEDGER_CAP : Field := ⟨0x13000C, 0x40, 10, 1⟩
def Reg.HBR.STAT.OV : Field := ⟨0x13000C, 0x40, 9, 1⟩
def Reg.HBR.STAT.UV : Field := ⟨0x13000C, 0x40, 8, 1⟩
def Reg.HBR.STAT.SAFE : Field := ⟨0x13000C, 0x40, 7, 1⟩
def Reg.HBR.STAT.RESETBRAKE : Field := ⟨0x13000C, 0x40, 6, 1⟩
def Reg.HBR.STAT.PROT_OFF : Field := ⟨0x13000C, 0x40, 5, 1⟩
def Reg.HBR.STAT.TLATCH : Field := ⟨0x13000C, 0x40, 4, 1⟩
def Reg.HBR.STAT.IN_CHOP : Field := ⟨0x13000C, 0x40, 3, 1⟩
def Reg.HBR.STAT.IVALID : Field := ⟨0x13000C, 0x40, 2, 1⟩
def Reg.HBR.STAT.PAIRED : Field := ⟨0x13000C, 0x40, 1, 1⟩
def Reg.HBR.STAT.DRIVING : Field := ⟨0x13000C, 0x40, 0, 1⟩
def Reg.HBR.IMEAS.REG : Field := ⟨0x130010, 0x40, 0, 32⟩
def Reg.HBR.IMEAS.IRMS : Field := ⟨0x130010, 0x40, 16, 16⟩
def Reg.HBR.IMEAS.IAVG : Field := ⟨0x130010, 0x40, 0, 16⟩
def Reg.HBR.TJ.REG : Field := ⟨0x130014, 0x40, 0, 32⟩
def Reg.HBR.TJ.VOUT : Field := ⟨0x130014, 0x40, 16, 12⟩
def Reg.HBR.TJ.TJ : Field := ⟨0x130014, 0x40, 0, 12⟩
def Reg.HBR.RIPCFG.REG : Field := ⟨0x130018, 0x40, 0, 32⟩
def Reg.HBR.RIPCFG.EXTRAP : Field := ⟨0x130018, 0x40, 16, 8⟩
def Reg.HBR.RIPCFG.RIP_MAX : Field := ⟨0x130018, 0x40, 8, 8⟩
def Reg.HBR.RIPCFG.RIP_MIN : Field := ⟨0x130018, 0x40, 0, 8⟩
def Reg.HBR.POS.REG : Field := ⟨0x13001C, 0x40, 0, 32⟩
def Reg.HBR.POS.POS : Field := ⟨0x13001C, 0x40, 0, 32⟩
def Reg.HBR.PERIOD.REG : Field := ⟨0x130020, 0x40, 0, 32⟩
def Reg.HBR.PERIOD.COUNTS : Field := ⟨0x130020, 0x40, 0, 32⟩
def Reg.HBR.RIPSTAT.REG : Field := ⟨0x130024, 0x40, 0, 32⟩
def Reg.HBR.RIPSTAT.OVF : Field := ⟨0x130024, 0x40, 31, 1⟩
def Reg.HBR.RIPSTAT.POS_VALID : Field := ⟨0x130024, 0x40, 30, 1⟩
def Reg.HBR.RIPSTAT.EST : Field := ⟨0x130024, 0x40, 29, 1⟩
def Reg.HBR.RIPSTAT.INSERTED : Field := ⟨0x130024, 0x40, 8, 8⟩
def Reg.HBR.RIPSTAT.REJECTED : Field := ⟨0x130024, 0x40, 0, 8⟩
def Reg.HBR.EVCOUNT.REG : Field := ⟨0x130028, 0x40, 0, 32⟩
def Reg.HBR.EVCOUNT.STALL : Field := ⟨0x130028, 0x40, 24, 8⟩
def Reg.HBR.EVCOUNT.THERM : Field := ⟨0x130028, 0x40, 16, 8⟩
def Reg.HBR.EVCOUNT.BRKLIM : Field := ⟨0x130028, 0x40, 8, 8⟩
def Reg.HBR.EVCOUNT.SHORT : Field := ⟨0x130028, 0x40, 0, 8⟩
def Reg.HBR.FORCE.REG : Field := ⟨0x13002C, 0x40, 0, 32⟩
def Reg.HBR.FORCE.STALL : Field := ⟨0x13002C, 0x40, 2, 1⟩
def Reg.HBR.FORCE.THERM : Field := ⟨0x13002C, 0x40, 1, 1⟩
def Reg.HBR.FORCE.SHORT : Field := ⟨0x13002C, 0x40, 0, 1⟩
def Reg.HBR.PAIRCFG.REG : Field := ⟨0x13F000, 0x0, 0, 32⟩
def Reg.HBR.PAIRCFG.PAIR : Field := ⟨0x13F000, 0x0, 0, 8⟩
def Reg.HBR.PWMCFG.REG : Field := ⟨0x13F004, 0x0, 0, 32⟩
def Reg.HBR.PWMCFG.DEAD : Field := ⟨0x13F004, 0x0, 16, 4⟩
def Reg.HBR.PWMCFG.PER : Field := ⟨0x13F004, 0x0, 0, 10⟩

/-! ### VALVE (chapter 08) -/
def Reg.VALVE.CMD.REG : Field := ⟨0x140000, 0x80, 0, 32⟩
def Reg.VALVE.CMD.REARM : Field := ⟨0x140000, 0x80, 30, 1⟩
def Reg.VALVE.CMD.PROF : Field := ⟨0x140000, 0x80, 20, 4⟩
def Reg.VALVE.CMD.OFF : Field := ⟨0x140000, 0x80, 17, 1⟩
def Reg.VALVE.CMD.START : Field := ⟨0x140000, 0x80, 16, 1⟩
def Reg.VALVE.CMD.DUR : Field := ⟨0x140000, 0x80, 0, 16⟩
def Reg.VALVE.CFG.REG : Field := ⟨0x140004, 0x80, 0, 32⟩
def Reg.VALVE.CFG.HOLDOVER : Field := ⟨0x140004, 0x80, 16, 8⟩
def Reg.VALVE.CFG.DERATE : Field := ⟨0x140004, 0x80, 8, 8⟩
def Reg.VALVE.CFG.AMBZ : Field := ⟨0x140004, 0x80, 4, 2⟩
def Reg.VALVE.CFG.SAFE : Field := ⟨0x140004, 0x80, 3, 1⟩
def Reg.VALVE.CFG.EDGE : Field := ⟨0x140004, 0x80, 2, 1⟩
def Reg.VALVE.COIL.REG : Field := ⟨0x140008, 0x80, 0, 32⟩
def Reg.VALVE.COIL.RCOIL : Field := ⟨0x140008, 0x80, 16, 16⟩
def Reg.VALVE.COIL.RTH : Field := ⟨0x140008, 0x80, 0, 16⟩
def Reg.VALVE.COILTH.REG : Field := ⟨0x14000C, 0x80, 0, 32⟩
def Reg.VALVE.COILTH.TAU : Field := ⟨0x14000C, 0x80, 16, 16⟩
def Reg.VALVE.COILTH.TMAX : Field := ⟨0x14000C, 0x80, 8, 8⟩
def Reg.VALVE.COILTH.TWARN : Field := ⟨0x14000C, 0x80, 0, 8⟩
def Reg.VALVE.PSTAT.REG : Field := ⟨0x140010, 0x80, 0, 32⟩
def Reg.VALVE.PSTAT.MARK : Field := ⟨0x140010, 0x80, 24, 8⟩
def Reg.VALVE.PSTAT.PC : Field := ⟨0x140010, 0x80, 15, 9⟩
def Reg.VALVE.PSTAT.PHASE : Field := ⟨0x140010, 0x80, 12, 3⟩
def Reg.VALVE.PSTAT.PROF : Field := ⟨0x140010, 0x80, 8, 4⟩
def Reg.VALVE.PSTAT.QUEUED : Field := ⟨0x140010, 0x80, 7, 1⟩
def Reg.VALVE.PSTAT.PK_CUT : Field := ⟨0x140010, 0x80, 6, 1⟩
def Reg.VALVE.PSTAT.REL_TO : Field := ⟨0x140010, 0x80, 5, 1⟩
def Reg.VALVE.PSTAT.DERATED : Field := ⟨0x140010, 0x80, 4, 1⟩
def Reg.VALVE.PSTAT.COIL_BLOCK : Field := ⟨0x140010, 0x80, 3, 1⟩
def Reg.VALVE.PSTAT.VB_BLOCK : Field := ⟨0x140010, 0x80, 2, 1⟩
def Reg.VALVE.PSTAT.UC_BLOCK : Field := ⟨0x140010, 0x80, 1, 1⟩
def Reg.VALVE.PSTAT.PROT_OFF : Field := ⟨0x140010, 0x80, 0, 1⟩
def Reg.VALVE.PWAIT.REG : Field := ⟨0x140014, 0x80, 0, 32⟩
def Reg.VALVE.PWAIT.MAXWAIT : Field := ⟨0x140014, 0x80, 16, 16⟩
def Reg.VALVE.PWAIT.LASTWAIT : Field := ⟨0x140014, 0x80, 0, 16⟩
def Reg.VALVE.DEADLO.REG : Field := ⟨0x140018, 0x80, 0, 32⟩
def Reg.VALVE.DEADLO.COUNT : Field := ⟨0x140018, 0x80, 0, 32⟩
def Reg.VALVE.DEADHI.REG : Field := ⟨0x14001C, 0x80, 0, 32⟩
def Reg.VALVE.DEADHI.COUNT : Field := ⟨0x14001C, 0x80, 0, 32⟩
def Reg.VALVE.ARRIVE.REG : Field := ⟨0x140020, 0x80, 0, 32⟩
def Reg.VALVE.ARRIVE.VALID : Field := ⟨0x140020, 0x80, 31, 1⟩
def Reg.VALVE.ARRIVE.TIME : Field := ⟨0x140020, 0x80, 0, 16⟩
def Reg.VALVE.IMEAS.REG : Field := ⟨0x140024, 0x80, 0, 32⟩
def Reg.VALVE.IMEAS.IRMS : Field := ⟨0x140024, 0x80, 16, 16⟩
def Reg.VALVE.IMEAS.VALID : Field := ⟨0x140024, 0x80, 12, 1⟩
def Reg.VALVE.IMEAS.INOW : Field := ⟨0x140024, 0x80, 0, 12⟩
def Reg.VALVE.THETA.REG : Field := ⟨0x140028, 0x80, 0, 32⟩
def Reg.VALVE.THETA.THETA : Field := ⟨0x140028, 0x80, 0, 16⟩
def Reg.VALVE.STAT.REG : Field := ⟨0x14002C, 0x80, 0, 32⟩
def Reg.VALVE.STAT.EV_REFUSED : Field := ⟨0x14002C, 0x80, 23, 1⟩
def Reg.VALVE.STAT.EV_SHORT : Field := ⟨0x14002C, 0x80, 22, 1⟩
def Reg.VALVE.STAT.EV_OPEN : Field := ⟨0x14002C, 0x80, 21, 1⟩
def Reg.VALVE.STAT.EV_THERM : Field := ⟨0x14002C, 0x80, 20, 1⟩
def Reg.VALVE.STAT.EV_CLAMP : Field := ⟨0x14002C, 0x80, 19, 1⟩
def Reg.VALVE.STAT.EV_COILHOT : Field := ⟨0x14002C, 0x80, 18, 1⟩
def Reg.VALVE.STAT.EV_MARK : Field := ⟨0x14002C, 0x80, 17, 1⟩
def Reg.VALVE.STAT.EV_DROP : Field := ⟨0x14002C, 0x80, 16, 1⟩
def Reg.VALVE.STAT.RUN_TO : Field := ⟨0x14002C, 0x80, 8, 1⟩
def Reg.VALVE.STAT.REASON : Field := ⟨0x14002C, 0x80, 4, 4⟩
def Reg.VALVE.STAT.TLATCH : Field := ⟨0x14002C, 0x80, 3, 1⟩
def Reg.VALVE.STAT.VP_LEVEL : Field := ⟨0x14002C, 0x80, 2, 1⟩
def Reg.VALVE.STAT.LS_ON : Field := ⟨0x14002C, 0x80, 1, 1⟩
def Reg.VALVE.STAT.ACTIVE : Field := ⟨0x14002C, 0x80, 0, 1⟩
def Reg.VALVE.VPCFG.REG : Field := ⟨0x140030, 0x80, 0, 32⟩
def Reg.VALVE.VPCFG.THRESH : Field := ⟨0x140030, 0x80, 16, 8⟩
def Reg.VALVE.VPCFG.FILT : Field := ⟨0x140030, 0x80, 8, 8⟩
def Reg.VALVE.VPCFG.EDGE : Field := ⟨0x140030, 0x80, 2, 2⟩
def Reg.VALVE.EVCOUNT.REG : Field := ⟨0x140034, 0x80, 0, 32⟩
def Reg.VALVE.EVCOUNT.PKCUT : Field := ⟨0x140034, 0x80, 24, 8⟩
def Reg.VALVE.EVCOUNT.THERM : Field := ⟨0x140034, 0x80, 16, 8⟩
def Reg.VALVE.EVCOUNT.OPEN : Field := ⟨0x140034, 0x80, 8, 8⟩
def Reg.VALVE.EVCOUNT.SHORT : Field := ⟨0x140034, 0x80, 0, 8⟩
def Reg.VALVE.FORCE.REG : Field := ⟨0x140038, 0x80, 0, 32⟩
def Reg.VALVE.FORCE.COILHOT : Field := ⟨0x140038, 0x80, 3, 1⟩
def Reg.VALVE.FORCE.THERM : Field := ⟨0x140038, 0x80, 2, 1⟩
def Reg.VALVE.FORCE.OPEN : Field := ⟨0x140038, 0x80, 1, 1⟩
def Reg.VALVE.FORCE.SHORT : Field := ⟨0x140038, 0x80, 0, 1⟩
def Reg.VALVE.BANKCFG.REG : Field := ⟨0x14F000, 0x40, 0, 32⟩
def Reg.VALVE.BANKCFG.ILIM : Field := ⟨0x14F000, 0x40, 0, 8⟩
def Reg.VALVE.BANKSTAT.REG : Field := ⟨0x14F004, 0x40, 0, 32⟩
def Reg.VALVE.BANKSTAT.IRMS : Field := ⟨0x14F004, 0x40, 16, 16⟩
def Reg.VALVE.BANKSTAT.HOLDER : Field := ⟨0x14F004, 0x40, 13, 3⟩
def Reg.VALVE.BANKSTAT.WAITERS : Field := ⟨0x14F004, 0x40, 10, 3⟩
def Reg.VALVE.BANKSTAT.SRC_PKS : Field := ⟨0x14F004, 0x40, 9, 1⟩
def Reg.VALVE.BANKSTAT.VB_ON : Field := ⟨0x14F004, 0x40, 8, 1⟩
def Reg.VALVE.BANKSTAT.LEDGER_CAP : Field := ⟨0x14F004, 0x40, 7, 1⟩
def Reg.VALVE.BANKSTAT.UC_PARITY : Field := ⟨0x14F004, 0x40, 6, 1⟩
def Reg.VALVE.BANKSTAT.VB_PROT : Field := ⟨0x14F004, 0x40, 5, 1⟩
def Reg.VALVE.BANKSTAT.ACTIVE : Field := ⟨0x14F004, 0x40, 4, 1⟩
def Reg.VALVE.BANKEFF.REG : Field := ⟨0x14F008, 0x40, 0, 32⟩
def Reg.VALVE.BANKEFF.BUDGET_LOW : Field := ⟨0x14F008, 0x40, 8, 1⟩
def Reg.VALVE.BANKEFF.EFF : Field := ⟨0x14F008, 0x40, 0, 8⟩
def Reg.VALVE.PKSCTL.REG : Field := ⟨0x14F100, 0x0, 0, 32⟩
def Reg.VALVE.PKSCTL.VSET : Field := ⟨0x14F100, 0x0, 8, 8⟩
def Reg.VALVE.PKSCTL.ICHG : Field := ⟨0x14F100, 0x0, 3, 5⟩
def Reg.VALVE.PKSCTL.EN : Field := ⟨0x14F100, 0x0, 0, 1⟩
def Reg.VALVE.PKSCFG.REG : Field := ⟨0x14F104, 0x0, 0, 32⟩
def Reg.VALVE.PKSCFG.CAP : Field := ⟨0x14F104, 0x0, 0, 16⟩
def Reg.VALVE.PKSSTAT.REG : Field := ⟨0x14F108, 0x0, 0, 32⟩
def Reg.VALVE.PKSSTAT.VPKS : Field := ⟨0x14F108, 0x0, 24, 8⟩
def Reg.VALVE.PKSSTAT.VLIM : Field := ⟨0x14F108, 0x0, 16, 8⟩
def Reg.VALVE.PKSSTAT.CMEAS : Field := ⟨0x14F108, 0x0, 4, 12⟩
def Reg.VALVE.PKSSTAT.CMEAS_VALID : Field := ⟨0x14F108, 0x0, 3, 1⟩
def Reg.VALVE.PKSSTAT.BLEED : Field := ⟨0x14F108, 0x0, 2, 1⟩
def Reg.VALVE.PKSSTAT.OV : Field := ⟨0x14F108, 0x0, 1, 1⟩
def Reg.VALVE.PKSSTAT.READY : Field := ⟨0x14F108, 0x0, 0, 1⟩

/-! ### LIGHT (chapter 09) -/
def Reg.LIGHT.SINKCTRL.REG : Field := ⟨0x160000, 0x20, 0, 32⟩
def Reg.LIGHT.SINKCTRL.REARM : Field := ⟨0x160000, 0x20, 31, 1⟩
def Reg.LIGHT.SINKCTRL.CODE : Field := ⟨0x160000, 0x20, 0, 12⟩
def Reg.LIGHT.SINKDIM.REG : Field := ⟨0x160004, 0x20, 0, 32⟩
def Reg.LIGHT.SINKDIM.PHASE : Field := ⟨0x160004, 0x20, 16, 10⟩
def Reg.LIGHT.SINKDIM.DUTY : Field := ⟨0x160004, 0x20, 0, 11⟩
def Reg.LIGHT.SINKCFG.REG : Field := ⟨0x160008, 0x20, 0, 32⟩
def Reg.LIGHT.SINKCFG.HOLD : Field := ⟨0x160008, 0x20, 21, 11⟩
def Reg.LIGHT.SINKCFG.SAFE : Field := ⟨0x160008, 0x20, 19, 2⟩
def Reg.LIGHT.SINKCFG.SHRT_ACT : Field := ⟨0x160008, 0x20, 18, 1⟩
def Reg.LIGHT.SINKCFG.TSRC : Field := ⟨0x160008, 0x20, 13, 5⟩
def Reg.LIGHT.SINKCFG.EDGE : Field := ⟨0x160008, 0x20, 12, 1⟩
def Reg.LIGHT.SINKSAFE.REG : Field := ⟨0x16000C, 0x20, 0, 32⟩
def Reg.LIGHT.SINKSAFE.VSHT : Field := ⟨0x16000C, 0x20, 16, 8⟩
def Reg.LIGHT.SINKSAFE.SAFECODE : Field := ⟨0x16000C, 0x20, 0, 12⟩
def Reg.LIGHT.SINKSTAT.REG : Field := ⟨0x160010, 0x20, 0, 32⟩
def Reg.LIGHT.SINKSTAT.EV_HOLDEXP : Field := ⟨0x160010, 0x20, 20, 1⟩
def Reg.LIGHT.SINKSTAT.EV_LEDHOT : Field := ⟨0x160010, 0x20, 19, 1⟩
def Reg.LIGHT.SINKSTAT.EV_THERM : Field := ⟨0x160010, 0x20, 18, 1⟩
def Reg.LIGHT.SINKSTAT.EV_SHORT : Field := ⟨0x160010, 0x20, 17, 1⟩
def Reg.LIGHT.SINKSTAT.EV_OPEN : Field := ⟨0x160010, 0x20, 16, 1⟩
def Reg.LIGHT.SINKSTAT.LEDGER_CAP : Field := ⟨0x160010, 0x20, 10, 1⟩
def Reg.LIGHT.SINKSTAT.PULSE_CLIP : Field := ⟨0x160010, 0x20, 9, 1⟩
def Reg.LIGHT.SINKSTAT.HOT_OFF : Field := ⟨0x160010, 0x20, 8, 1⟩
def Reg.LIGHT.SINKSTAT.TCAP : Field := ⟨0x160010, 0x20, 7, 1⟩
def Reg.LIGHT.SINKSTAT.SAFE : Field := ⟨0x160010, 0x20, 6, 1⟩
def Reg.LIGHT.SINKSTAT.HOLDOVER : Field := ⟨0x160010, 0x20, 5, 1⟩
def Reg.LIGHT.SINKSTAT.TLATCH : Field := ⟨0x160010, 0x20, 4, 1⟩
def Reg.LIGHT.SINKSTAT.PROT_OFF : Field := ⟨0x160010, 0x20, 3, 1⟩
def Reg.LIGHT.SINKSTAT.EXCLUDED : Field := ⟨0x160010, 0x20, 2, 1⟩
def Reg.LIGHT.SINKSTAT.DROPOUT : Field := ⟨0x160010, 0x20, 1, 1⟩
def Reg.LIGHT.SINKSTAT.ON : Field := ⟨0x160010, 0x20, 0, 1⟩
def Reg.LIGHT.SINKMEAS.REG : Field := ⟨0x160014, 0x20, 0, 32⟩
def Reg.LIGHT.SINKMEAS.HR : Field := ⟨0x160014, 0x20, 16, 12⟩
def Reg.LIGHT.SINKMEAS.VALID : Field := ⟨0x160014, 0x20, 12, 1⟩
def Reg.LIGHT.SINKMEAS.IEFF : Field := ⟨0x160014, 0x20, 0, 12⟩
def Reg.LIGHT.LEDTH.REG : Field := ⟨0x160018, 0x20, 0, 32⟩
def Reg.LIGHT.LEDTH.TERRACE : Field := ⟨0x160018, 0x20, 28, 4⟩
def Reg.LIGHT.LEDTH.VF : Field := ⟨0x160018, 0x20, 16, 12⟩
def Reg.LIGHT.LEDTH.THETA : Field := ⟨0x160018, 0x20, 0, 16⟩
def Reg.LIGHT.LEDMOD.REG : Field := ⟨0x16001C, 0x20, 0, 32⟩
def Reg.LIGHT.LEDMOD.RTH : Field := ⟨0x16001C, 0x20, 16, 16⟩
def Reg.LIGHT.LEDMOD.TAU : Field := ⟨0x16001C, 0x20, 0, 16⟩
def Reg.LIGHT.STAGECTRL.REG : Field := ⟨0x161000, 0x40, 0, 32⟩
def Reg.LIGHT.STAGECTRL.REARM : Field := ⟨0x161000, 0x40, 1, 1⟩
def Reg.LIGHT.STAGECTRL.EN : Field := ⟨0x161000, 0x40, 0, 1⟩
def Reg.LIGHT.STAGECFG.REG : Field := ⟨0x161004, 0x40, 0, 32⟩
def Reg.LIGHT.STAGECFG.HR : Field := ⟨0x161004, 0x40, 24, 8⟩
def Reg.LIGHT.STAGECFG.VMAX : Field := ⟨0x161004, 0x40, 16, 8⟩
def Reg.LIGHT.STAGECFG.VMIN : Field := ⟨0x161004, 0x40, 8, 8⟩
def Reg.LIGHT.STAGECFG.ILIM : Field := ⟨0x161004, 0x40, 0, 8⟩
def Reg.LIGHT.STAGEDIM.REG : Field := ⟨0x161008, 0x40, 0, 32⟩
def Reg.LIGHT.STAGEDIM.TOFF : Field := ⟨0x161008, 0x40, 24, 8⟩
def Reg.LIGHT.STAGEDIM.TOPEN : Field := ⟨0x161008, 0x40, 16, 8⟩
def Reg.LIGHT.STAGEDIM.DPER : Field := ⟨0x161008, 0x40, 0, 16⟩
def Reg.LIGHT.TERRACE.REG : Field := ⟨0x16100C, 0x40, 0, 32⟩
def Reg.LIGHT.TERRACE.FLOOR : Field := ⟨0x16100C, 0x40, 24, 8⟩
def Reg.LIGHT.TERRACE.DSTEP : Field := ⟨0x16100C, 0x40, 16, 8⟩
def Reg.LIGHT.TERRACE.TSTEP : Field := ⟨0x16100C, 0x40, 8, 8⟩
def Reg.LIGHT.TERRACE.TKNEE : Field := ⟨0x16100C, 0x40, 0, 8⟩
def Reg.LIGHT.STAGESTAT.REG : Field := ⟨0x161010, 0x40, 0, 32⟩
def Reg.LIGHT.STAGESTAT.VOUT : Field := ⟨0x161010, 0x40, 20, 12⟩
def Reg.LIGHT.STAGESTAT.EV_LEAK : Field := ⟨0x161010, 0x40, 15, 1⟩
def Reg.LIGHT.STAGESTAT.EV_OSHORT : Field := ⟨0x161010, 0x40, 14, 1⟩
def Reg.LIGHT.STAGESTAT.EV_OV : Field := ⟨0x161010, 0x40, 13, 1⟩
def Reg.LIGHT.STAGESTAT.EV_THERM : Field := ⟨0x161010, 0x40, 12, 1⟩
def Reg.LIGHT.STAGESTAT.UV : Field := ⟨0x161010, 0x40, 7, 1⟩
def Reg.LIGHT.STAGESTAT.LEDGER_CAP : Field := ⟨0x161010, 0x40, 6, 1⟩
def Reg.LIGHT.STAGESTAT.IN_LIMIT : Field := ⟨0x161010, 0x40, 5, 1⟩
def Reg.LIGHT.STAGESTAT.IVALID : Field := ⟨0x161010, 0x40, 4, 1⟩
def Reg.LIGHT.STAGESTAT.TLATCH : Field := ⟨0x161010, 0x40, 3, 1⟩
def Reg.LIGHT.STAGESTAT.PROT_OFF : Field := ⟨0x161010, 0x40, 2, 1⟩
def Reg.LIGHT.STAGESTAT.READY : Field := ⟨0x161010, 0x40, 1, 1⟩
def Reg.LIGHT.STAGESTAT.RUN : Field := ⟨0x161010, 0x40, 0, 1⟩
def Reg.LIGHT.STAGEMEAS.REG : Field := ⟨0x161014, 0x40, 0, 32⟩
def Reg.LIGHT.STAGEMEAS.IIN : Field := ⟨0x161014, 0x40, 16, 16⟩
def Reg.LIGHT.STAGEMEAS.IOUT : Field := ⟨0x161014, 0x40, 0, 16⟩
def Reg.LIGHT.STAGEEFF.REG : Field := ⟨0x161018, 0x40, 0, 32⟩
def Reg.LIGHT.STAGEEFF.BUDGET_LOW : Field := ⟨0x161018, 0x40, 8, 1⟩
def Reg.LIGHT.STAGEEFF.EFF : Field := ⟨0x161018, 0x40, 0, 8⟩
def Reg.LIGHT.MXCTRL.REG : Field := ⟨0x162000, 0x0, 0, 32⟩
def Reg.LIGHT.MXCTRL.REARM : Field := ⟨0x162000, 0x0, 1, 1⟩
def Reg.LIGHT.MXCTRL.EN : Field := ⟨0x162000, 0x0, 0, 1⟩
def Reg.LIGHT.MXCFG.REG : Field := ⟨0x162004, 0x0, 0, 32⟩
def Reg.LIGHT.MXCFG.MXCUR : Field := ⟨0x162004, 0x0, 24, 8⟩
def Reg.LIGHT.MXCFG.BLANK : Field := ⟨0x162004, 0x0, 16, 8⟩
def Reg.LIGHT.MXCFG.LINE_ON : Field := ⟨0x162004, 0x0, 0, 16⟩
def Reg.LIGHT.MXRAIL.REG : Field := ⟨0x162008, 0x0, 0, 32⟩
def Reg.LIGHT.MXRAIL.HOLD : Field := ⟨0x162008, 0x0, 21, 11⟩
def Reg.LIGHT.MXRAIL.SAFE : Field := ⟨0x162008, 0x0, 20, 1⟩
def Reg.LIGHT.MXRAIL.VSET : Field := ⟨0x162008, 0x0, 0, 7⟩
def Reg.LIGHT.MXSTAT.REG : Field := ⟨0x16200C, 0x0, 0, 32⟩
def Reg.LIGHT.MXSTAT.FRAMES : Field := ⟨0x16200C, 0x0, 16, 16⟩
def Reg.LIGHT.MXSTAT.LINE : Field := ⟨0x16200C, 0x0, 8, 4⟩
def Reg.LIGHT.MXSTAT.HOLDOVER : Field := ⟨0x16200C, 0x0, 7, 1⟩
def Reg.LIGHT.MXSTAT.SAFE : Field := ⟨0x16200C, 0x0, 6, 1⟩
def Reg.LIGHT.MXSTAT.EV_HOLDEXP : Field := ⟨0x16200C, 0x0, 5, 1⟩
def Reg.LIGHT.MXSTAT.PROT_OFF : Field := ⟨0x16200C, 0x0, 4, 1⟩
def Reg.LIGHT.MXSTAT.RAIL_OK : Field := ⟨0x16200C, 0x0, 3, 1⟩
def Reg.LIGHT.MXSTAT.OVERLAP : Field := ⟨0x16200C, 0x0, 2, 1⟩
def Reg.LIGHT.MXSTAT.LINE_BUSY : Field := ⟨0x16200C, 0x0, 1, 1⟩
def Reg.LIGHT.MXSTAT.FRAME_BUSY : Field := ⟨0x16200C, 0x0, 0, 1⟩
def Reg.LIGHT.MXDIAG.REG : Field := ⟨0x162010, 0x0, 0, 32⟩
def Reg.LIGHT.MXDIAG.LINESHORT : Field := ⟨0x162010, 0x0, 16, 12⟩
def Reg.LIGHT.MXDIAG.COLOPEN : Field := ⟨0x162010, 0x0, 0, 16⟩
def Reg.LIGHT.PIX.REG : Field := ⟨0x162100, 0x4, 0, 32⟩
def Reg.LIGHT.PIX.P3 : Field := ⟨0x162100, 0x4, 24, 8⟩
def Reg.LIGHT.PIX.P2 : Field := ⟨0x162100, 0x4, 16, 8⟩
def Reg.LIGHT.PIX.P1 : Field := ⟨0x162100, 0x4, 8, 8⟩
def Reg.LIGHT.PIX.P0 : Field := ⟨0x162100, 0x4, 0, 8⟩
def Reg.LIGHT.FORCE.REG : Field := ⟨0x16F000, 0x0, 0, 32⟩
def Reg.LIGHT.FORCE.SINK : Field := ⟨0x16F000, 0x0, 16, 5⟩
def Reg.LIGHT.FORCE.LEAK : Field := ⟨0x16F000, 0x0, 3, 1⟩
def Reg.LIGHT.FORCE.THERM : Field := ⟨0x16F000, 0x0, 2, 1⟩
def Reg.LIGHT.FORCE.SHORT : Field := ⟨0x16F000, 0x0, 1, 1⟩
def Reg.LIGHT.FORCE.OPEN : Field := ⟨0x16F000, 0x0, 0, 1⟩

/-! ### TIME (chapter 10) -/
def Reg.TIME.NOW_LO.REG : Field := ⟨0x20000, 0x0, 0, 32⟩
def Reg.TIME.NOW_LO.COUNT : Field := ⟨0x20000, 0x0, 0, 32⟩
def Reg.TIME.NOW_HI.REG : Field := ⟨0x20004, 0x0, 0, 32⟩
def Reg.TIME.NOW_HI.COUNT : Field := ⟨0x20004, 0x0, 0, 32⟩
def Reg.TIME.SLOW.REG : Field := ⟨0x20008, 0x0, 0, 32⟩
def Reg.TIME.SLOW.VALUE : Field := ⟨0x20008, 0x0, 0, 32⟩
def Reg.TIME.SLOWRATIO.REG : Field := ⟨0x2000C, 0x0, 0, 32⟩
def Reg.TIME.SLOWRATIO.VALUE : Field := ⟨0x2000C, 0x0, 0, 32⟩
def Reg.TIME.SYNC.REG : Field := ⟨0x20010, 0x0, 0, 32⟩
def Reg.TIME.SYNC.RATE : Field := ⟨0x20010, 0x0, 16, 16⟩
def Reg.TIME.SYNC.BEHIND : Field := ⟨0x20010, 0x0, 2, 1⟩
def Reg.TIME.SYNC.STEPPED : Field := ⟨0x20010, 0x0, 1, 1⟩
def Reg.TIME.SYNC.LOCK : Field := ⟨0x20010, 0x0, 0, 1⟩
def Reg.TIME.SYNCOFS.REG : Field := ⟨0x20014, 0x0, 0, 32⟩
def Reg.TIME.SYNCOFS.OFS : Field := ⟨0x20014, 0x0, 0, 32⟩
def Reg.TIME.CMPEV0.REG : Field := ⟨0x20020, 0x0, 0, 32⟩
def Reg.TIME.CMPEV0.EV : Field := ⟨0x20020, 0x0, 0, 32⟩
def Reg.TIME.CMPEV1.REG : Field := ⟨0x20024, 0x0, 0, 32⟩
def Reg.TIME.CMPEV1.EV : Field := ⟨0x20024, 0x0, 0, 16⟩
def Reg.TIME.UDCEV.REG : Field := ⟨0x20028, 0x0, 0, 32⟩
def Reg.TIME.UDCEV.EV : Field := ⟨0x20028, 0x0, 0, 16⟩
def Reg.TIME.CAPEV.REG : Field := ⟨0x2002C, 0x0, 0, 32⟩
def Reg.TIME.CAPEV.EV : Field := ⟨0x2002C, 0x0, 0, 32⟩
def Reg.TIME.UDCSTART.REG : Field := ⟨0x20030, 0x0, 0, 32⟩
def Reg.TIME.UDCSTART.START : Field := ⟨0x20030, 0x0, 0, 16⟩
def Reg.TIME.CMP_LO.REG : Field := ⟨0x20100, 0x10, 0, 32⟩
def Reg.TIME.CMP_LO.V : Field := ⟨0x20100, 0x10, 0, 32⟩
def Reg.TIME.CMP_HI.REG : Field := ⟨0x20104, 0x10, 0, 32⟩
def Reg.TIME.CMP_HI.V : Field := ⟨0x20104, 0x10, 0, 32⟩
def Reg.TIME.CMP_PER.REG : Field := ⟨0x20108, 0x10, 0, 32⟩
def Reg.TIME.CMP_PER.PERIOD : Field := ⟨0x20108, 0x10, 0, 32⟩
def Reg.TIME.CMP_CTRL.REG : Field := ⟨0x2010C, 0x10, 0, 32⟩
def Reg.TIME.CMP_CTRL.MISS : Field := ⟨0x2010C, 0x10, 3, 1⟩
def Reg.TIME.CMP_CTRL.WAKE : Field := ⟨0x2010C, 0x10, 2, 1⟩
def Reg.TIME.CMP_CTRL.ARM : Field := ⟨0x2010C, 0x10, 0, 1⟩
def Reg.TIME.UDC_COUNT.REG : Field := ⟨0x20400, 0x10, 0, 32⟩
def Reg.TIME.UDC_COUNT.VALUE : Field := ⟨0x20400, 0x10, 0, 32⟩
def Reg.TIME.UDC_TOP.REG : Field := ⟨0x20404, 0x10, 0, 32⟩
def Reg.TIME.UDC_TOP.VALUE : Field := ⟨0x20404, 0x10, 0, 32⟩
def Reg.TIME.UDC_MATCH.REG : Field := ⟨0x20408, 0x10, 0, 32⟩
def Reg.TIME.UDC_MATCH.VALUE : Field := ⟨0x20408, 0x10, 0, 32⟩
def Reg.TIME.UDC_CTRL.REG : Field := ⟨0x2040C, 0x10, 0, 32⟩
def Reg.TIME.UDC_CTRL.OVF : Field := ⟨0x2040C, 0x10, 31, 1⟩
def Reg.TIME.UDC_CTRL.TURN : Field := ⟨0x2040C, 0x10, 30, 1⟩
def Reg.TIME.UDC_CTRL.MATCH_EV : Field := ⟨0x2040C, 0x10, 29, 1⟩
def Reg.TIME.UDC_CTRL.DIR : Field := ⟨0x2040C, 0x10, 28, 1⟩
def Reg.TIME.UDC_CTRL.DIRSRC : Field := ⟨0x2040C, 0x10, 17, 7⟩
def Reg.TIME.UDC_CTRL.SRC : Field := ⟨0x2040C, 0x10, 12, 5⟩
def Reg.TIME.UDC_CTRL.EV : Field := ⟨0x2040C, 0x10, 11, 1⟩
def Reg.TIME.UDC_CTRL.MODE : Field := ⟨0x2040C, 0x10, 8, 3⟩
def Reg.TIME.UDC_CTRL.RUN : Field := ⟨0x2040C, 0x10, 7, 1⟩
def Reg.TIME.UDC_PRESC.REG : Field := ⟨0x20500, 0x4, 0, 32⟩
def Reg.TIME.UDC_PRESC.PRESC : Field := ⟨0x20500, 0x4, 0, 16⟩
def Reg.TIME.CAP_RISE.REG : Field := ⟨0x20800, 0x20, 0, 32⟩
def Reg.TIME.CAP_RISE.VALUE : Field := ⟨0x20800, 0x20, 0, 32⟩
def Reg.TIME.CAP_FALL.REG : Field := ⟨0x20804, 0x20, 0, 32⟩
def Reg.TIME.CAP_FALL.VALUE : Field := ⟨0x20804, 0x20, 0, 32⟩
def Reg.TIME.CAP_PERIOD.REG : Field := ⟨0x20808, 0x20, 0, 32⟩
def Reg.TIME.CAP_PERIOD.VALUE : Field := ⟨0x20808, 0x20, 0, 32⟩
def Reg.TIME.CAP_HIGH.REG : Field := ⟨0x2080C, 0x20, 0, 32⟩
def Reg.TIME.CAP_HIGH.VALUE : Field := ⟨0x2080C, 0x20, 0, 32⟩
def Reg.TIME.CAP_EDGES.REG : Field := ⟨0x20810, 0x20, 0, 32⟩
def Reg.TIME.CAP_EDGES.VALUE : Field := ⟨0x20810, 0x20, 0, 32⟩
def Reg.TIME.CAP_STAT.REG : Field := ⟨0x20814, 0x20, 0, 32⟩
def Reg.TIME.CAP_STAT.E_OVF : Field := ⟨0x20814, 0x20, 5, 1⟩
def Reg.TIME.CAP_STAT.H_OVF : Field := ⟨0x20814, 0x20, 4, 1⟩
def Reg.TIME.CAP_STAT.P_OVF : Field := ⟨0x20814, 0x20, 3, 1⟩
def Reg.TIME.CAP_STAT.HVALID : Field := ⟨0x20814, 0x20, 2, 1⟩
def Reg.TIME.CAP_STAT.PVALID : Field := ⟨0x20814, 0x20, 1, 1⟩
def Reg.TIME.CAP_STAT.LEVEL : Field := ⟨0x20814, 0x20, 0, 1⟩
def Reg.TIME.CAP_CFG.REG : Field := ⟨0x20818, 0x20, 0, 32⟩
def Reg.TIME.CAP_CFG.EV : Field := ⟨0x20818, 0x20, 17, 1⟩
def Reg.TIME.CAP_CFG.EN : Field := ⟨0x20818, 0x20, 16, 1⟩
def Reg.TIME.CAP_CFG.FILT : Field := ⟨0x20818, 0x20, 8, 8⟩
def Reg.TIME.CAP_CFG.SRC : Field := ⟨0x20818, 0x20, 0, 7⟩

/-! ### INPUT (chapter 10) -/
def Reg.INPUT.SILVL.REG : Field := ⟨0x180000, 0x4, 0, 32⟩
def Reg.INPUT.SILVL.LEVEL : Field := ⟨0x180000, 0x4, 0, 32⟩
def Reg.INPUT.SICHG.REG : Field := ⟨0x180008, 0x4, 0, 32⟩
def Reg.INPUT.SICHG.CHG : Field := ⟨0x180008, 0x4, 0, 32⟩
def Reg.INPUT.INSTAT.REG : Field := ⟨0x180010, 0x0, 0, 32⟩
def Reg.INPUT.INSTAT.OVERLAP : Field := ⟨0x180010, 0x0, 8, 1⟩
def Reg.INPUT.INSTAT.AIBUSY : Field := ⟨0x180010, 0x0, 4, 4⟩
def Reg.INPUT.INSTAT.SIBUSY : Field := ⟨0x180010, 0x0, 0, 4⟩
def Reg.INPUT.PULSECFG.REG : Field := ⟨0x180014, 0x0, 0, 32⟩
def Reg.INPUT.PULSECFG.AISETTLE : Field := ⟨0x180014, 0x0, 8, 8⟩
def Reg.INPUT.PULSECFG.WPULSE : Field := ⟨0x180014, 0x0, 0, 8⟩
def Reg.INPUT.VALCFG.REG : Field := ⟨0x180018, 0x0, 0, 32⟩
def Reg.INPUT.VALCFG.VPER : Field := ⟨0x180018, 0x0, 20, 10⟩
def Reg.INPUT.VALCFG.VPULSE : Field := ⟨0x180018, 0x0, 3, 8⟩
def Reg.INPUT.VALCFG.VWET : Field := ⟨0x180018, 0x0, 0, 3⟩
def Reg.INPUT.SICFG.REG : Field := ⟨0x180100, 0x4, 0, 32⟩
def Reg.INPUT.SICFG.THR : Field := ⟨0x180100, 0x4, 24, 8⟩
def Reg.INPUT.SICFG.DEB : Field := ⟨0x180100, 0x4, 16, 8⟩
def Reg.INPUT.SICFG.HYST : Field := ⟨0x180100, 0x4, 13, 3⟩
def Reg.INPUT.SICFG.MODE : Field := ⟨0x180100, 0x4, 12, 1⟩
def Reg.INPUT.SICFG.DIR : Field := ⟨0x180100, 0x4, 11, 1⟩
def Reg.INPUT.SICFG.WET : Field := ⟨0x180100, 0x4, 8, 3⟩
def Reg.INPUT.SICFG.CLEAN : Field := ⟨0x180100, 0x4, 7, 1⟩
def Reg.INPUT.SICFG.VWAKE : Field := ⟨0x180100, 0x4, 6, 1⟩
def Reg.INPUT.AICFG.REG : Field := ⟨0x180400, 0x10, 0, 32⟩
def Reg.INPUT.AICFG.EN : Field := ⟨0x180400, 0x10, 4, 1⟩
def Reg.INPUT.AICFG.PULLUP : Field := ⟨0x180400, 0x10, 3, 1⟩
def Reg.INPUT.AICFG.DIV : Field := ⟨0x180400, 0x10, 2, 1⟩
def Reg.INPUT.AICFG.MODE : Field := ⟨0x180400, 0x10, 0, 2⟩
def Reg.INPUT.AIVAL.REG : Field := ⟨0x180404, 0x10, 0, 32⟩
def Reg.INPUT.AIVAL.VALID : Field := ⟨0x180404, 0x10, 31, 1⟩
def Reg.INPUT.AIVAL.SAT : Field := ⟨0x180404, 0x10, 30, 1⟩
def Reg.INPUT.AIVAL.MV : Field := ⟨0x180404, 0x10, 12, 15⟩
def Reg.INPUT.AIVAL.CODE : Field := ⟨0x180404, 0x10, 0, 12⟩
def Reg.INPUT.AITEMP.REG : Field := ⟨0x180408, 0x10, 0, 32⟩
def Reg.INPUT.AITEMP.TVALID : Field := ⟨0x180408, 0x10, 31, 1⟩
def Reg.INPUT.AITEMP.OPEN : Field := ⟨0x180408, 0x10, 30, 1⟩
def Reg.INPUT.AITEMP.SHORT : Field := ⟨0x180408, 0x10, 29, 1⟩
def Reg.INPUT.AITEMP.TEMP : Field := ⟨0x180408, 0x10, 0, 16⟩
def Reg.INPUT.AINTC.REG : Field := ⟨0x18040C, 0x10, 0, 32⟩
def Reg.INPUT.AINTC.R25 : Field := ⟨0x18040C, 0x10, 16, 16⟩
def Reg.INPUT.AINTC.BETA : Field := ⟨0x18040C, 0x10, 0, 16⟩

/-! ### NET (chapter 11) -/
def Reg.NET.STATUS.REG : Field := ⟨0x200000, 0x0, 0, 32⟩
def Reg.NET.STATUS.CAN_ON : Field := ⟨0x200000, 0x0, 16, 8⟩
def Reg.NET.STATUS.LIN_ON : Field := ⟨0x200000, 0x0, 4, 12⟩
def Reg.NET.STATUS.GPTP_LOCK : Field := ⟨0x200000, 0x0, 3, 1⟩
def Reg.NET.STATUS.TS_UP : Field := ⟨0x200000, 0x0, 2, 1⟩
def Reg.NET.STATUS.ETB_LINK : Field := ⟨0x200000, 0x0, 1, 1⟩
def Reg.NET.STATUS.ETA_LINK : Field := ⟨0x200000, 0x0, 0, 1⟩
def Reg.NET.DICTCFG.REG : Field := ⟨0x200004, 0x0, 0, 32⟩
def Reg.NET.DICTCFG.TS_RAW : Field := ⟨0x200004, 0x0, 11, 1⟩
def Reg.NET.DICTCFG.PORTS : Field := ⟨0x200004, 0x0, 0, 11⟩
def Reg.NET.DICTCNT0.REG : Field := ⟨0x200008, 0x0, 0, 32⟩
def Reg.NET.DICTCNT0.AUTHFAIL : Field := ⟨0x200008, 0x0, 16, 16⟩
def Reg.NET.DICTCNT0.DENIED : Field := ⟨0x200008, 0x0, 0, 16⟩
def Reg.NET.DICTCNT1.REG : Field := ⟨0x20000C, 0x0, 0, 32⟩
def Reg.NET.DICTCNT1.BUSY : Field := ⟨0x20000C, 0x0, 16, 16⟩
def Reg.NET.DICTCNT1.RESPQ : Field := ⟨0x20000C, 0x0, 0, 16⟩
def Reg.NET.UDP.REG : Field := ⟨0x200010, 0x0, 0, 32⟩
def Reg.NET.UDP.PORT : Field := ⟨0x200010, 0x0, 0, 16⟩
def Reg.NET.CANDICT.REG : Field := ⟨0x200014, 0x0, 0, 32⟩
def Reg.NET.CANDICT.BASE : Field := ⟨0x200014, 0x0, 8, 21⟩
def Reg.NET.GPTP.REG : Field := ⟨0x200018, 0x0, 0, 32⟩
def Reg.NET.GPTP.PDMAX : Field := ⟨0x200018, 0x0, 16, 16⟩
def Reg.NET.GPTP.PORT : Field := ⟨0x200018, 0x0, 1, 1⟩
def Reg.NET.GPTP.EN : Field := ⟨0x200018, 0x0, 0, 1⟩
def Reg.NET.ETCFG.REG : Field := ⟨0x200100, 0x40, 0, 32⟩
def Reg.NET.ETCFG.VID : Field := ⟨0x200100, 0x40, 4, 12⟩
def Reg.NET.ETCFG.TC10 : Field := ⟨0x200100, 0x40, 3, 1⟩
def Reg.NET.ETCFG.FWD_WAKE : Field := ⟨0x200100, 0x40, 2, 1⟩
def Reg.NET.ETCFG.MASTER : Field := ⟨0x200100, 0x40, 1, 1⟩
def Reg.NET.ETCFG.EN : Field := ⟨0x200100, 0x40, 0, 1⟩
def Reg.NET.ETSTAT.REG : Field := ⟨0x200104, 0x40, 0, 32⟩
def Reg.NET.ETSTAT.FECCORR : Field := ⟨0x200104, 0x40, 16, 16⟩
def Reg.NET.ETSTAT.RXERR : Field := ⟨0x200104, 0x40, 8, 8⟩
def Reg.NET.ETSTAT.SQI : Field := ⟨0x200104, 0x40, 1, 3⟩
def Reg.NET.ETSTAT.LINK : Field := ⟨0x200104, 0x40, 0, 1⟩
def Reg.NET.ETMACLO.REG : Field := ⟨0x200108, 0x40, 0, 32⟩
def Reg.NET.ETMACLO.VALUE : Field := ⟨0x200108, 0x40, 0, 32⟩
def Reg.NET.ETMACHI.REG : Field := ⟨0x20010C, 0x40, 0, 32⟩
def Reg.NET.ETMACHI.VALUE : Field := ⟨0x20010C, 0x40, 0, 16⟩
def Reg.NET.ETIP.REG : Field := ⟨0x200110, 0x40, 0, 32⟩
def Reg.NET.ETIP.VALUE : Field := ⟨0x200110, 0x40, 0, 32⟩
def Reg.NET.TSCFG.REG : Field := ⟨0x200180, 0x0, 0, 32⟩
def Reg.NET.TSCFG.TOTMR : Field := ⟨0x200180, 0x0, 24, 8⟩
def Reg.NET.TSCFG.NODECNT : Field := ⟨0x200180, 0x0, 18, 6⟩
def Reg.NET.TSCFG.NODEID : Field := ⟨0x200180, 0x0, 13, 5⟩
def Reg.NET.TSCFG.BURST : Field := ⟨0x200180, 0x0, 11, 2⟩
def Reg.NET.TSCFG.PLCA : Field := ⟨0x200180, 0x0, 1, 1⟩
def Reg.NET.TSCFG.EN : Field := ⟨0x200180, 0x0, 0, 1⟩
def Reg.NET.TSSTAT.REG : Field := ⟨0x200184, 0x0, 0, 32⟩
def Reg.NET.TSSTAT.COLL : Field := ⟨0x200184, 0x0, 16, 16⟩
def Reg.NET.TSSTAT.PLCA_LOST : Field := ⟨0x200184, 0x0, 1, 1⟩
def Reg.NET.TSSTAT.BEACON : Field := ⟨0x200184, 0x0, 0, 1⟩
def Reg.NET.TSMACLO.REG : Field := ⟨0x200188, 0x0, 0, 32⟩
def Reg.NET.TSMACLO.VALUE : Field := ⟨0x200188, 0x0, 0, 32⟩
def Reg.NET.TSMACHI.REG : Field := ⟨0x20018C, 0x0, 0, 32⟩
def Reg.NET.TSMACHI.VALUE : Field := ⟨0x20018C, 0x0, 0, 16⟩
def Reg.NET.TSIP.REG : Field := ⟨0x200190, 0x4, 0, 32⟩
def Reg.NET.TSIP.VALUE : Field := ⟨0x200190, 0x4, 0, 32⟩
def Reg.NET.CANCFG.REG : Field := ⟨0x200200, 0x40, 0, 32⟩
def Reg.NET.CANCFG.RECOVER : Field := ⟨0x200200, 0x40, 3, 1⟩
def Reg.NET.CANCFG.AUTOREC : Field := ⟨0x200200, 0x40, 2, 1⟩
def Reg.NET.CANCFG.FD : Field := ⟨0x200200, 0x40, 1, 1⟩
def Reg.NET.CANCFG.EN : Field := ⟨0x200200, 0x40, 0, 1⟩
def Reg.NET.CANNBT.REG : Field := ⟨0x200204, 0x40, 0, 32⟩
def Reg.NET.CANNBT.BRP : Field := ⟨0x200204, 0x40, 24, 8⟩
def Reg.NET.CANNBT.TSEG1 : Field := ⟨0x200204, 0x40, 16, 8⟩
def Reg.NET.CANNBT.TSEG2 : Field := ⟨0x200204, 0x40, 8, 8⟩
def Reg.NET.CANNBT.SJW : Field := ⟨0x200204, 0x40, 0, 7⟩
def Reg.NET.CANDBT.REG : Field := ⟨0x200208, 0x40, 0, 32⟩
def Reg.NET.CANDBT.BRP : Field := ⟨0x200208, 0x40, 24, 8⟩
def Reg.NET.CANDBT.TSEG1 : Field := ⟨0x200208, 0x40, 16, 8⟩
def Reg.NET.CANDBT.TSEG2 : Field := ⟨0x200208, 0x40, 8, 8⟩
def Reg.NET.CANDBT.TDC : Field := ⟨0x200208, 0x40, 7, 1⟩
def Reg.NET.CANDBT.SJW : Field := ⟨0x200208, 0x40, 0, 7⟩
def Reg.NET.CANSTAT.REG : Field := ⟨0x20020C, 0x40, 0, 32⟩
def Reg.NET.CANSTAT.TEC : Field := ⟨0x20020C, 0x40, 24, 8⟩
def Reg.NET.CANSTAT.REC : Field := ⟨0x20020C, 0x40, 16, 8⟩
def Reg.NET.CANSTAT.DROPPED : Field := ⟨0x20020C, 0x40, 8, 8⟩
def Reg.NET.CANSTAT.STATE : Field := ⟨0x20020C, 0x40, 0, 2⟩
def Reg.NET.CANSWCFG.REG : Field := ⟨0x200220, 0x40, 0, 32⟩
def Reg.NET.CANSWCFG.SWDLC : Field := ⟨0x200220, 0x40, 6, 4⟩
def Reg.NET.CANSWCFG.RATE : Field := ⟨0x200220, 0x40, 4, 2⟩
def Reg.NET.CANSWCFG.DMASK_EN : Field := ⟨0x200220, 0x40, 3, 1⟩
def Reg.NET.CANSWCFG.IDE : Field := ⟨0x200220, 0x40, 2, 1⟩
def Reg.NET.CANSWCFG.WUF_EN : Field := ⟨0x200220, 0x40, 1, 1⟩
def Reg.NET.CANSWCFG.EN : Field := ⟨0x200220, 0x40, 0, 1⟩
def Reg.NET.CANSWID.REG : Field := ⟨0x200224, 0x40, 0, 32⟩
def Reg.NET.CANSWID.VALUE : Field := ⟨0x200224, 0x40, 0, 29⟩
def Reg.NET.CANSWMASK.REG : Field := ⟨0x200228, 0x40, 0, 32⟩
def Reg.NET.CANSWMASK.VALUE : Field := ⟨0x200228, 0x40, 0, 29⟩
def Reg.NET.CANSWDATA_LO.REG : Field := ⟨0x20022C, 0x40, 0, 32⟩
def Reg.NET.CANSWDATA_LO.MASK : Field := ⟨0x20022C, 0x40, 0, 32⟩
def Reg.NET.CANSWDATA_HI.REG : Field := ⟨0x200230, 0x40, 0, 32⟩
def Reg.NET.CANSWDATA_HI.MASK : Field := ⟨0x200230, 0x40, 0, 32⟩
def Reg.NET.CANSWSTAT.REG : Field := ⟨0x200234, 0x40, 0, 32⟩
def Reg.NET.CANSWSTAT.FEC_WAKE : Field := ⟨0x200234, 0x40, 10, 1⟩
def Reg.NET.CANSWSTAT.WUF : Field := ⟨0x200234, 0x40, 9, 1⟩
def Reg.NET.CANSWSTAT.WUP : Field := ⟨0x200234, 0x40, 8, 1⟩
def Reg.NET.CANSWSTAT.FEC : Field := ⟨0x200234, 0x40, 0, 6⟩
def Reg.NET.LINCFG.REG : Field := ⟨0x200400, 0x20, 0, 32⟩
def Reg.NET.LINCFG.RATE : Field := ⟨0x200400, 0x20, 16, 16⟩
def Reg.NET.LINCFG.BREAK : Field := ⟨0x200400, 0x20, 8, 4⟩
def Reg.NET.LINCFG.RSPACE : Field := ⟨0x200400, 0x20, 6, 2⟩
def Reg.NET.LINCFG.CMDR : Field := ⟨0x200400, 0x20, 1, 1⟩
def Reg.NET.LINCFG.EN : Field := ⟨0x200400, 0x20, 0, 1⟩
def Reg.NET.LINSTAT.REG : Field := ⟨0x200404, 0x20, 0, 32⟩
def Reg.NET.LINSTAT.NORESP : Field := ⟨0x200404, 0x20, 24, 8⟩
def Reg.NET.LINSTAT.CKSUM : Field := ⟨0x200404, 0x20, 16, 8⟩
def Reg.NET.LINSTAT.FRAMING : Field := ⟨0x200404, 0x20, 8, 8⟩
def Reg.NET.LINSTAT.OVERLAP : Field := ⟨0x200404, 0x20, 0, 1⟩
def Reg.NET.MBXSTAT.REG : Field := ⟨0x210000, 0x80, 0, 32⟩
def Reg.NET.MBXSTAT.COUNT : Field := ⟨0x210000, 0x80, 24, 8⟩
def Reg.NET.MBXSTAT.TRUNC : Field := ⟨0x210000, 0x80, 11, 1⟩
def Reg.NET.MBXSTAT.NORESP : Field := ⟨0x210000, 0x80, 10, 1⟩
def Reg.NET.MBXSTAT.CKSUM : Field := ⟨0x210000, 0x80, 9, 1⟩
def Reg.NET.MBXSTAT.VALID : Field := ⟨0x210000, 0x80, 8, 1⟩
def Reg.NET.MBXSTAT.LEN : Field := ⟨0x210000, 0x80, 0, 8⟩
def Reg.NET.MBXID.REG : Field := ⟨0x210004, 0x80, 0, 32⟩
def Reg.NET.MBXID.ID : Field := ⟨0x210004, 0x80, 0, 29⟩
def Reg.NET.MBXTSLO.REG : Field := ⟨0x210008, 0x80, 0, 32⟩
def Reg.NET.MBXTSLO.VALUE : Field := ⟨0x210008, 0x80, 0, 32⟩
def Reg.NET.MBXTSHI.REG : Field := ⟨0x21000C, 0x80, 0, 32⟩
def Reg.NET.MBXTSHI.VALUE : Field := ⟨0x21000C, 0x80, 0, 32⟩
def Reg.NET.MBXDATA.REG : Field := ⟨0x210010, 0x80, 0, 32⟩
def Reg.NET.MBXDATA.VALUE : Field := ⟨0x210010, 0x80, 0, 32⟩

/-! ### JOURNAL (chapter 12) -/
def Reg.JOURNAL.STATUS.REG : Field := ⟨0x50000, 0x0, 0, 32⟩
def Reg.JOURNAL.STATUS.FULL : Field := ⟨0x50000, 0x0, 7, 1⟩
def Reg.JOURNAL.STATUS.ARCH_SINGLE : Field := ⟨0x50000, 0x0, 6, 1⟩
def Reg.JOURNAL.STATUS.ARCH_DOWN : Field := ⟨0x50000, 0x0, 5, 1⟩
def Reg.JOURNAL.STATUS.DRAIN : Field := ⟨0x50000, 0x0, 4, 1⟩
def Reg.JOURNAL.STATUS.BUSY : Field := ⟨0x50000, 0x0, 3, 1⟩
def Reg.JOURNAL.STATUS.SINGLE : Field := ⟨0x50000, 0x0, 2, 1⟩
def Reg.JOURNAL.STATUS.BANK1_OK : Field := ⟨0x50000, 0x0, 1, 1⟩
def Reg.JOURNAL.STATUS.BANK0_OK : Field := ⟨0x50000, 0x0, 0, 1⟩
def Reg.JOURNAL.FILL.REG : Field := ⟨0x50004, 0x0, 0, 32⟩
def Reg.JOURNAL.FILL.PERMILLE : Field := ⟨0x50004, 0x0, 0, 10⟩
def Reg.JOURNAL.LASTSEQ_LO.REG : Field := ⟨0x50008, 0x0, 0, 32⟩
def Reg.JOURNAL.LASTSEQ_LO.SEQ : Field := ⟨0x50008, 0x0, 0, 32⟩
def Reg.JOURNAL.LASTSEQ_HI.REG : Field := ⟨0x5000C, 0x0, 0, 32⟩
def Reg.JOURNAL.LASTSEQ_HI.SEQ : Field := ⟨0x5000C, 0x0, 0, 32⟩
def Reg.JOURNAL.HEADSEQ_LO.REG : Field := ⟨0x50010, 0x0, 0, 32⟩
def Reg.JOURNAL.HEADSEQ_LO.VALUE : Field := ⟨0x50010, 0x0, 0, 32⟩
def Reg.JOURNAL.HEADSEQ_HI.REG : Field := ⟨0x50014, 0x0, 0, 32⟩
def Reg.JOURNAL.HEADSEQ_HI.VALUE : Field := ⟨0x50014, 0x0, 0, 32⟩
def Reg.JOURNAL.ARCHSEQ_LO.REG : Field := ⟨0x50018, 0x0, 0, 32⟩
def Reg.JOURNAL.ARCHSEQ_LO.VALUE : Field := ⟨0x50018, 0x0, 0, 32⟩
def Reg.JOURNAL.ARCHSEQ_HI.REG : Field := ⟨0x5001C, 0x0, 0, 32⟩
def Reg.JOURNAL.ARCHSEQ_HI.VALUE : Field := ⟨0x5001C, 0x0, 0, 32⟩
def Reg.JOURNAL.LASTCOMMIT_LO.REG : Field := ⟨0x50020, 0x0, 0, 32⟩
def Reg.JOURNAL.LASTCOMMIT_LO.VALUE : Field := ⟨0x50020, 0x0, 0, 32⟩
def Reg.JOURNAL.LASTCOMMIT_HI.REG : Field := ⟨0x50024, 0x0, 0, 32⟩
def Reg.JOURNAL.LASTCOMMIT_HI.VALUE : Field := ⟨0x50024, 0x0, 0, 32⟩
def Reg.JOURNAL.CFG.REG : Field := ⟨0x50028, 0x0, 0, 32⟩
def Reg.JOURNAL.CFG.PCREPLAY : Field := ⟨0x50028, 0x0, 0, 1⟩
def Reg.JOURNAL.STARTCNT.REG : Field := ⟨0x5002C, 0x0, 0, 32⟩
def Reg.JOURNAL.STARTCNT.VOIDED : Field := ⟨0x5002C, 0x0, 16, 16⟩
def Reg.JOURNAL.STARTCNT.EXPIRED : Field := ⟨0x5002C, 0x0, 0, 16⟩
def Reg.JOURNAL.OUTSTAT.REG : Field := ⟨0x50030, 0x0, 0, 32⟩
def Reg.JOURNAL.OUTSTAT.QUEUED : Field := ⟨0x50030, 0x0, 16, 9⟩
def Reg.JOURNAL.OUTSTAT.REJECT : Field := ⟨0x50030, 0x0, 0, 1⟩
def Reg.JOURNAL.OUT_SEQ_LO.REG : Field := ⟨0x50100, 0x10, 0, 32⟩
def Reg.JOURNAL.OUT_SEQ_LO.SEQ : Field := ⟨0x50100, 0x10, 0, 32⟩
def Reg.JOURNAL.OUT_SEQ_HI.REG : Field := ⟨0x50104, 0x10, 0, 32⟩
def Reg.JOURNAL.OUT_SEQ_HI.SEQ : Field := ⟨0x50104, 0x10, 0, 32⟩
def Reg.JOURNAL.OUT_POST.REG : Field := ⟨0x50108, 0x10, 0, 32⟩
def Reg.JOURNAL.OUT_POST.OUTCOME : Field := ⟨0x50108, 0x10, 24, 8⟩
def Reg.JOURNAL.OUT_POST.REASON : Field := ⟨0x50108, 0x10, 16, 8⟩
def Reg.JOURNAL.OUT_POST.BIND : Field := ⟨0x50108, 0x10, 0, 16⟩
def Reg.JOURNAL.OUT_GRANT.REG : Field := ⟨0x5010C, 0x10, 0, 32⟩
def Reg.JOURNAL.OUT_GRANT.GRANT : Field := ⟨0x5010C, 0x10, 0, 32⟩
def Reg.JOURNAL.FORCE.REG : Field := ⟨0x50200, 0x0, 0, 32⟩
def Reg.JOURNAL.FORCE.BANK1 : Field := ⟨0x50200, 0x0, 1, 1⟩
def Reg.JOURNAL.FORCE.BANK0 : Field := ⟨0x50200, 0x0, 0, 1⟩

/-! ### POWER (chapter 13) -/
def Reg.POWER.STATUS.REG : Field := ⟨0x2E0000, 0x0, 0, 32⟩
def Reg.POWER.STATUS.PL : Field := ⟨0x2E0000, 0x0, 14, 2⟩
def Reg.POWER.STATUS.LAST : Field := ⟨0x2E0000, 0x0, 12, 2⟩
def Reg.POWER.STATUS.MAXAWAKE : Field := ⟨0x2E0000, 0x0, 11, 1⟩
def Reg.POWER.STATUS.NT_RUN : Field := ⟨0x2E0000, 0x0, 10, 1⟩
def Reg.POWER.STATUS.ABORTED : Field := ⟨0x2E0000, 0x0, 9, 1⟩
def Reg.POWER.STATUS.FORCED : Field := ⟨0x2E0000, 0x0, 8, 1⟩
def Reg.POWER.STATUS.SLEEP : Field := ⟨0x2E0000, 0x0, 4, 2⟩
def Reg.POWER.PWR_MODE.REG : Field := ⟨0x2E0004, 0x0, 0, 32⟩
def Reg.POWER.PWR_MODE.MODE : Field := ⟨0x2E0004, 0x0, 0, 2⟩
def Reg.POWER.SLEEPCTL.REG : Field := ⟨0x2E0008, 0x0, 0, 32⟩
def Reg.POWER.SLEEPCTL.REFUSE : Field := ⟨0x2E0008, 0x0, 24, 4⟩
def Reg.POWER.SLEEPCTL.ARM : Field := ⟨0x2E0008, 0x0, 0, 1⟩
def Reg.POWER.WS_COL_LO.REG : Field := ⟨0x2E000C, 0x0, 0, 32⟩
def Reg.POWER.WS_COL_LO.NUMBER : Field := ⟨0x2E000C, 0x0, 0, 32⟩
def Reg.POWER.WS_COL_HI.REG : Field := ⟨0x2E0010, 0x0, 0, 32⟩
def Reg.POWER.WS_COL_HI.NUMBER : Field := ⟨0x2E0010, 0x0, 0, 32⟩
def Reg.POWER.WAKEEN.REG : Field := ⟨0x2E0014, 0x0, 0, 32⟩
def Reg.POWER.WAKEEN.FIXED : Field := ⟨0x2E0014, 0x0, 10, 2⟩
def Reg.POWER.WAKEEN.EN : Field := ⟨0x2E0014, 0x0, 0, 10⟩
def Reg.POWER.WAKEREASON.REG : Field := ⟨0x2E0018, 0x0, 0, 32⟩
def Reg.POWER.WAKEREASON.LATE : Field := ⟨0x2E0018, 0x0, 31, 1⟩
def Reg.POWER.WAKEREASON.FIRST : Field := ⟨0x2E0018, 0x0, 24, 4⟩
def Reg.POWER.WAKEREASON.REASON : Field := ⟨0x2E0018, 0x0, 0, 12⟩
def Reg.POWER.WAKEDETAIL.REG : Field := ⟨0x2E001C, 0x0, 0, 32⟩
def Reg.POWER.WAKEDETAIL.UNIT : Field := ⟨0x2E001C, 0x0, 0, 8⟩
def Reg.POWER.WAKECFG.REG : Field := ⟨0x2E0020, 0x0, 0, 32⟩
def Reg.POWER.WAKECFG.WPULSE : Field := ⟨0x2E0020, 0x0, 24, 8⟩
def Reg.POWER.WAKECFG.WFILT : Field := ⟨0x2E0020, 0x0, 16, 8⟩
def Reg.POWER.WAKECFG.WSTUCK : Field := ⟨0x2E0020, 0x0, 8, 8⟩
def Reg.POWER.WAKECFG.ABORTDRV : Field := ⟨0x2E0020, 0x0, 7, 1⟩
def Reg.POWER.WAKEFWD.REG : Field := ⟨0x2E0024, 0x0, 0, 32⟩
def Reg.POWER.WAKEFWD.FWD : Field := ⟨0x2E0024, 0x0, 1, 11⟩
def Reg.POWER.AWAKECFG.REG : Field := ⟨0x2E0028, 0x0, 0, 32⟩
def Reg.POWER.AWAKECFG.MAXAWAKE : Field := ⟨0x2E0028, 0x0, 16, 16⟩
def Reg.POWER.AWAKECFG.NOTRAFFIC : Field := ⟨0x2E0028, 0x0, 4, 12⟩
def Reg.POWER.DESCENT.REG : Field := ⟨0x2E002C, 0x0, 0, 32⟩
def Reg.POWER.DESCENT.COLS : Field := ⟨0x2E002C, 0x0, 0, 8⟩
def Reg.POWER.CTRL.REG : Field := ⟨0x2E0030, 0x0, 0, 32⟩
def Reg.POWER.CTRL.PULSE : Field := ⟨0x2E0030, 0x0, 2, 1⟩
def Reg.POWER.CTRL.KEEP : Field := ⟨0x2E0030, 0x0, 1, 1⟩
def Reg.POWER.CTRL.ABORT : Field := ⟨0x2E0030, 0x0, 0, 1⟩
def Reg.POWER.PERF.REG : Field := ⟨0x2E0034, 0x0, 0, 32⟩
def Reg.POWER.PERF.WAKE : Field := ⟨0x2E0034, 0x0, 4, 2⟩
def Reg.POWER.PERF.REQ : Field := ⟨0x2E0034, 0x0, 2, 2⟩
def Reg.POWER.PERF.CUR : Field := ⟨0x2E0034, 0x0, 0, 2⟩
def Reg.POWER.COUNT.REG : Field := ⟨0x2E0038, 0x0, 0, 32⟩
def Reg.POWER.COUNT.WAKES : Field := ⟨0x2E0038, 0x0, 24, 8⟩
def Reg.POWER.COUNT.LATE : Field := ⟨0x2E0038, 0x0, 16, 8⟩
def Reg.POWER.COUNT.FALSE : Field := ⟨0x2E0038, 0x0, 8, 8⟩
def Reg.POWER.COUNT.ABORTS : Field := ⟨0x2E0038, 0x0, 0, 8⟩
def Reg.POWER.DWELL.REG : Field := ⟨0x2E003C, 0x0, 0, 32⟩
def Reg.POWER.DWELL.MS : Field := ⟨0x2E003C, 0x0, 0, 32⟩
def Reg.POWER.SBSCFG.REG : Field := ⟨0x2E0040, 0x0, 0, 32⟩
def Reg.POWER.SBSCFG.EN : Field := ⟨0x2E0040, 0x0, 8, 1⟩
def Reg.POWER.SBSCFG.ADDR : Field := ⟨0x2E0040, 0x0, 0, 7⟩
def Reg.POWER.SUPMEAS.REG : Field := ⟨0x2E0044, 0x0, 0, 32⟩
def Reg.POWER.SUPMEAS.SUPB : Field := ⟨0x2E0044, 0x0, 16, 16⟩
def Reg.POWER.SUPMEAS.SUPA : Field := ⟨0x2E0044, 0x0, 0, 16⟩
def Reg.POWER.FORCE.REG : Field := ⟨0x2E0048, 0x0, 0, 32⟩
def Reg.POWER.FORCE.DESCENT : Field := ⟨0x2E0048, 0x0, 4, 1⟩
def Reg.POWER.FORCE.MAXAWAKE : Field := ⟨0x2E0048, 0x0, 3, 1⟩
def Reg.POWER.FORCE.FALSEWAKE : Field := ⟨0x2E0048, 0x0, 2, 1⟩
def Reg.POWER.FORCE.WAKELINE : Field := ⟨0x2E0048, 0x0, 1, 1⟩
def Reg.POWER.FORCE.VLANE : Field := ⟨0x2E0048, 0x0, 0, 1⟩

/-! ### ACCESS (chapter 14) -/
def Reg.ACCESS.CTRL.REG : Field := ⟨0x280000, 0x0, 0, 32⟩
def Reg.ACCESS.CTRL.UHFDLY : Field := ⟨0x280000, 0x0, 8, 8⟩
def Reg.ACCESS.CTRL.ABORT : Field := ⟨0x280000, 0x0, 1, 1⟩
def Reg.ACCESS.CTRL.EN : Field := ⟨0x280000, 0x0, 0, 1⟩
def Reg.ACCESS.VEHID.REG : Field := ⟨0x280004, 0x0, 0, 32⟩
def Reg.ACCESS.VEHID.VEHID : Field := ⟨0x280004, 0x0, 0, 24⟩
def Reg.ACCESS.STATUS.REG : Field := ⟨0x280008, 0x0, 0, 32⟩
def Reg.ACCESS.STATUS.ROUND : Field := ⟨0x280008, 0x0, 16, 16⟩
def Reg.ACCESS.STATUS.IMMO_OPEN : Field := ⟨0x280008, 0x0, 11, 1⟩
def Reg.ACCESS.STATUS.LEVEL : Field := ⟨0x280008, 0x0, 9, 2⟩
def Reg.ACCESS.STATUS.LOCKED : Field := ⟨0x280008, 0x0, 8, 1⟩
def Reg.ACCESS.STATUS.EV_GRANT : Field := ⟨0x280008, 0x0, 7, 1⟩
def Reg.ACCESS.STATUS.EV_DONE : Field := ⟨0x280008, 0x0, 6, 1⟩
def Reg.ACCESS.STATUS.OVERLAP : Field := ⟨0x280008, 0x0, 5, 1⟩
def Reg.ACCESS.STATUS.RUNNING : Field := ⟨0x280008, 0x0, 4, 1⟩
def Reg.ACCESS.RESULT.REG : Field := ⟨0x28000C, 0x0, 0, 32⟩
def Reg.ACCESS.RESULT.GRANTED : Field := ⟨0x28000C, 0x0, 31, 1⟩
def Reg.ACCESS.RESULT.ABORTED : Field := ⟨0x28000C, 0x0, 30, 1⟩
def Reg.ACCESS.RESULT.ZONE : Field := ⟨0x28000C, 0x0, 24, 4⟩
def Reg.ACCESS.RESULT.SLOT : Field := ⟨0x28000C, 0x0, 20, 4⟩
def Reg.ACCESS.RESULT.VALID : Field := ⟨0x28000C, 0x0, 8, 8⟩
def Reg.ACCESS.RESULT.FAILED : Field := ⟨0x28000C, 0x0, 0, 8⟩
def Reg.ACCESS.RESTOK.REG : Field := ⟨0x280010, 0x0, 0, 32⟩
def Reg.ACCESS.RESTOK.ID : Field := ⟨0x280010, 0x0, 0, 32⟩
def Reg.ACCESS.LOCKEND_LO.REG : Field := ⟨0x280018, 0x0, 0, 32⟩
def Reg.ACCESS.LOCKEND_LO.COUNT : Field := ⟨0x280018, 0x0, 0, 32⟩
def Reg.ACCESS.LOCKEND_HI.REG : Field := ⟨0x28001C, 0x0, 0, 32⟩
def Reg.ACCESS.LOCKEND_HI.COUNT : Field := ⟨0x28001C, 0x0, 0, 32⟩
def Reg.ACCESS.FAILCNT.REG : Field := ⟨0x280020, 0x0, 0, 32⟩
def Reg.ACCESS.FAILCNT.FAILS : Field := ⟨0x280020, 0x0, 16, 16⟩
def Reg.ACCESS.FAILCNT.LOCKOUTS : Field := ⟨0x280020, 0x0, 8, 8⟩
def Reg.ACCESS.FAILCNT.RELAY : Field := ⟨0x280020, 0x0, 0, 8⟩
def Reg.ACCESS.LOCKCFG.REG : Field := ⟨0x280024, 0x0, 0, 32⟩
def Reg.ACCESS.LOCKCFG.LOCKCLR : Field := ⟨0x280024, 0x0, 0, 8⟩
def Reg.ACCESS.POLLCFG.REG : Field := ⟨0x280028, 0x0, 0, 32⟩
def Reg.ACCESS.POLLCFG.POLLGROW : Field := ⟨0x280028, 0x0, 24, 8⟩
def Reg.ACCESS.POLLCFG.POLLMAX : Field := ⟨0x280028, 0x0, 12, 12⟩
def Reg.ACCESS.POLLCFG.POLLMIN : Field := ⟨0x280028, 0x0, 0, 12⟩
def Reg.ACCESS.POLLCFG2.REG : Field := ⟨0x28002C, 0x0, 0, 32⟩
def Reg.ACCESS.POLLCFG2.EN : Field := ⟨0x28002C, 0x0, 31, 1⟩
def Reg.ACCESS.POLLCFG2.POLLSTOP : Field := ⟨0x28002C, 0x0, 24, 7⟩
def Reg.ACCESS.POLLCFG2.POLLWAKE : Field := ⟨0x28002C, 0x0, 16, 8⟩
def Reg.ACCESS.POLLCFG2.POLLILF : Field := ⟨0x28002C, 0x0, 12, 4⟩
def Reg.ACCESS.POLLCFG2.POLLMASK : Field := ⟨0x28002C, 0x0, 0, 6⟩
def Reg.ACCESS.POLLSTAT.REG : Field := ⟨0x280030, 0x0, 0, 32⟩
def Reg.ACCESS.POLLSTAT.PERIOD : Field := ⟨0x280030, 0x0, 16, 16⟩
def Reg.ACCESS.POLLSTAT.POLLS : Field := ⟨0x280030, 0x0, 0, 16⟩
def Reg.ACCESS.IMMOCFG.REG : Field := ⟨0x280034, 0x0, 0, 32⟩
def Reg.ACCESS.IMMOCFG.SLOT : Field := ⟨0x280034, 0x0, 16, 6⟩
def Reg.ACCESS.IMMOCFG.HOLD : Field := ⟨0x280034, 0x0, 0, 16⟩
def Reg.ACCESS.IMMO_CTRL.REG : Field := ⟨0x280040, 0x0, 0, 32⟩
def Reg.ACCESS.IMMO_CTRL.RESULT : Field := ⟨0x280040, 0x0, 1, 2⟩
def Reg.ACCESS.IMMO_CTRL.GO : Field := ⟨0x280040, 0x0, 0, 1⟩
def Reg.ACCESS.IMMO_CHAL_LO.REG : Field := ⟨0x280038, 0x0, 0, 32⟩
def Reg.ACCESS.IMMO_CHAL_LO.VALUE : Field := ⟨0x280038, 0x0, 0, 32⟩
def Reg.ACCESS.IMMO_CHAL_HI.REG : Field := ⟨0x28003C, 0x0, 0, 32⟩
def Reg.ACCESS.IMMO_CHAL_HI.VALUE : Field := ⟨0x28003C, 0x0, 0, 32⟩
def Reg.ACCESS.IMMO_RESP_LO.REG : Field := ⟨0x280044, 0x0, 0, 32⟩
def Reg.ACCESS.IMMO_RESP_LO.VALUE : Field := ⟨0x280044, 0x0, 0, 32⟩
def Reg.ACCESS.IMMO_RESP_HI.REG : Field := ⟨0x280048, 0x0, 0, 32⟩
def Reg.ACCESS.IMMO_RESP_HI.VALUE : Field := ⟨0x280048, 0x0, 0, 32⟩
def Reg.ACCESS.AERIAL.REG : Field := ⟨0x280080, 0x4, 0, 32⟩
def Reg.ACCESS.AERIAL.FREQ : Field := ⟨0x280080, 0x4, 8, 8⟩
def Reg.ACCESS.AERIAL.EV_THERM : Field := ⟨0x280080, 0x4, 3, 1⟩
def Reg.ACCESS.AERIAL.EV_SHORT : Field := ⟨0x280080, 0x4, 2, 1⟩
def Reg.ACCESS.AERIAL.EV_OPEN : Field := ⟨0x280080, 0x4, 1, 1⟩
def Reg.ACCESS.AERIAL.DRIVING : Field := ⟨0x280080, 0x4, 0, 1⟩
def Reg.ACCESS.ZONE_LO.REG : Field := ⟨0x280100, 0x8, 0, 32⟩
def Reg.ACCESS.ZONE_LO.LF3 : Field := ⟨0x280100, 0x8, 24, 8⟩
def Reg.ACCESS.ZONE_LO.LF2 : Field := ⟨0x280100, 0x8, 16, 8⟩
def Reg.ACCESS.ZONE_LO.LF1 : Field := ⟨0x280100, 0x8, 8, 8⟩
def Reg.ACCESS.ZONE_LO.LF0 : Field := ⟨0x280100, 0x8, 0, 8⟩
def Reg.ACCESS.ZONE_HI.REG : Field := ⟨0x280104, 0x8, 0, 32⟩
def Reg.ACCESS.ZONE_HI.INSIDE : Field := ⟨0x280104, 0x8, 16, 1⟩
def Reg.ACCESS.ZONE_HI.LF5 : Field := ⟨0x280104, 0x8, 8, 8⟩
def Reg.ACCESS.ZONE_HI.LF4 : Field := ⟨0x280104, 0x8, 0, 8⟩
def Reg.ACCESS.TOK_ID.REG : Field := ⟨0x280200, 0x8, 0, 32⟩
def Reg.ACCESS.TOK_ID.ID : Field := ⟨0x280200, 0x8, 0, 32⟩
def Reg.ACCESS.TOK_CFG.REG : Field := ⟨0x280204, 0x8, 0, 32⟩
def Reg.ACCESS.TOK_CFG.EN : Field := ⟨0x280204, 0x8, 31, 1⟩
def Reg.ACCESS.TOK_CFG.SLOT : Field := ⟨0x280204, 0x8, 0, 6⟩
def Reg.ACCESS.ANS_ID.REG : Field := ⟨0x280400, 0x10, 0, 32⟩
def Reg.ACCESS.ANS_ID.ID : Field := ⟨0x280400, 0x10, 0, 32⟩
def Reg.ACCESS.ANS_VERD.REG : Field := ⟨0x280404, 0x10, 0, 32⟩
def Reg.ACCESS.ANS_VERD.VERDICT : Field := ⟨0x280404, 0x10, 28, 4⟩
def Reg.ACCESS.ANS_VERD.DT : Field := ⟨0x280404, 0x10, 0, 16⟩
def Reg.ACCESS.ANS_REP_LO.REG : Field := ⟨0x280408, 0x10, 0, 32⟩
def Reg.ACCESS.ANS_REP_LO.LF : Field := ⟨0x280408, 0x10, 0, 32⟩
def Reg.ACCESS.ANS_REP_HI.REG : Field := ⟨0x28040C, 0x10, 0, 32⟩
def Reg.ACCESS.ANS_REP_HI.BATLOW : Field := ⟨0x28040C, 0x10, 16, 1⟩
def Reg.ACCESS.ANS_REP_HI.LF5 : Field := ⟨0x28040C, 0x10, 8, 8⟩
def Reg.ACCESS.ANS_REP_HI.LF4 : Field := ⟨0x28040C, 0x10, 0, 8⟩
def Reg.ACCESS.FORCE.REG : Field := ⟨0x28F000, 0x0, 0, 32⟩
def Reg.ACCESS.FORCE.RELAY : Field := ⟨0x28F000, 0x0, 2, 1⟩
def Reg.ACCESS.FORCE.AERIAL : Field := ⟨0x28F000, 0x0, 1, 1⟩
def Reg.ACCESS.FORCE.FAIL : Field := ⟨0x28F000, 0x0, 0, 1⟩

/-! ### KEYS (chapter 14) -/
def Reg.KEYS.STATUS.REG : Field := ⟨0x2A0000, 0x0, 0, 32⟩
def Reg.KEYS.STATUS.FBGEN : Field := ⟨0x2A0000, 0x0, 24, 8⟩
def Reg.KEYS.STATUS.ZCOUNT : Field := ⟨0x2A0000, 0x0, 16, 8⟩
def Reg.KEYS.STATUS.ERR : Field := ⟨0x2A0000, 0x0, 8, 8⟩
def Reg.KEYS.STATUS.ENROL_OPEN : Field := ⟨0x2A0000, 0x0, 7, 1⟩
def Reg.KEYS.STATUS.TRNG_OK : Field := ⟨0x2A0000, 0x0, 6, 1⟩
def Reg.KEYS.STATUS.ZEROISED : Field := ⟨0x2A0000, 0x0, 5, 1⟩
def Reg.KEYS.STATUS.BUSY : Field := ⟨0x2A0000, 0x0, 4, 1⟩
def Reg.KEYS.STATUS.DONE : Field := ⟨0x2A0000, 0x0, 3, 1⟩
def Reg.KEYS.STATUS.FB_OK : Field := ⟨0x2A0000, 0x0, 2, 1⟩
def Reg.KEYS.STATUS.PUF_OK : Field := ⟨0x2A0000, 0x0, 1, 1⟩
def Reg.KEYS.CMD.REG : Field := ⟨0x2A0004, 0x0, 0, 32⟩
def Reg.KEYS.CMD.OP : Field := ⟨0x2A0004, 0x0, 28, 4⟩
def Reg.KEYS.CMD.SLOT : Field := ⟨0x2A0004, 0x0, 16, 6⟩
def Reg.KEYS.CMD.SRC : Field := ⟨0x2A0004, 0x0, 8, 6⟩
def Reg.KEYS.CMD.CLASS : Field := ⟨0x2A0004, 0x0, 4, 3⟩
def Reg.KEYS.CMD.ATTR : Field := ⟨0x2A0004, 0x0, 0, 2⟩
def Reg.KEYS.LABEL.REG : Field := ⟨0x2A0008, 0x0, 0, 32⟩
def Reg.KEYS.LABEL.VALUE : Field := ⟨0x2A0008, 0x0, 0, 32⟩
def Reg.KEYS.CTX_LO.REG : Field := ⟨0x2A000C, 0x0, 0, 32⟩
def Reg.KEYS.CTX_LO.VALUE : Field := ⟨0x2A000C, 0x0, 0, 32⟩
def Reg.KEYS.CTX_HI.REG : Field := ⟨0x2A0010, 0x0, 0, 32⟩
def Reg.KEYS.CTX_HI.VALUE : Field := ⟨0x2A0010, 0x0, 0, 32⟩
def Reg.KEYS.UNITID_LO.REG : Field := ⟨0x2A0014, 0x0, 0, 32⟩
def Reg.KEYS.UNITID_LO.VALUE : Field := ⟨0x2A0014, 0x0, 0, 32⟩
def Reg.KEYS.UNITID_HI.REG : Field := ⟨0x2A0018, 0x0, 0, 32⟩
def Reg.KEYS.UNITID_HI.VALUE : Field := ⟨0x2A0018, 0x0, 0, 32⟩
def Reg.KEYS.XFER.REG : Field := ⟨0x2A0100, 0x4, 0, 32⟩
def Reg.KEYS.XFER.DATA : Field := ⟨0x2A0100, 0x4, 0, 32⟩
def Reg.KEYS.SLOT.REG : Field := ⟨0x2A0200, 0x4, 0, 32⟩
def Reg.KEYS.SLOT.GEN : Field := ⟨0x2A0200, 0x4, 16, 16⟩
def Reg.KEYS.SLOT.ORIGIN : Field := ⟨0x2A0200, 0x4, 13, 3⟩
def Reg.KEYS.SLOT.FAILED : Field := ⟨0x2A0200, 0x4, 12, 1⟩
def Reg.KEYS.SLOT.ATTR : Field := ⟨0x2A0200, 0x4, 8, 2⟩
def Reg.KEYS.SLOT.TYPE : Field := ⟨0x2A0200, 0x4, 3, 1⟩
def Reg.KEYS.SLOT.CLASS : Field := ⟨0x2A0200, 0x4, 0, 3⟩
def Reg.KEYS.TAMPCFG.REG : Field := ⟨0x2A0310, 0x0, 0, 32⟩
def Reg.KEYS.TAMPCFG.ACTION : Field := ⟨0x2A0310, 0x0, 0, 10⟩
def Reg.KEYS.TAMPSTAT.REG : Field := ⟨0x2A0314, 0x0, 0, 32⟩
def Reg.KEYS.TAMPSTAT.SEEN : Field := ⟨0x2A0314, 0x0, 0, 5⟩
def Reg.KEYS.ENROL.REG : Field := ⟨0x2A0320, 0x4, 0, 32⟩
def Reg.KEYS.ENROL.KEY : Field := ⟨0x2A0320, 0x4, 0, 32⟩
def Reg.KEYS.CRQ_CTRL.REG : Field := ⟨0x2A0400, 0x0, 0, 32⟩
def Reg.KEYS.CRQ_CTRL.OP : Field := ⟨0x2A0400, 0x0, 28, 4⟩
def Reg.KEYS.CRQ_CTRL.SLOT : Field := ⟨0x2A0400, 0x0, 16, 6⟩
def Reg.KEYS.CRQ_ADDR.REG : Field := ⟨0x2A0404, 0x0, 0, 32⟩
def Reg.KEYS.CRQ_ADDR.VALUE : Field := ⟨0x2A0404, 0x0, 0, 32⟩
def Reg.KEYS.CRQ_LEN.REG : Field := ⟨0x2A0408, 0x0, 0, 32⟩
def Reg.KEYS.CRQ_LEN.VALUE : Field := ⟨0x2A0408, 0x0, 0, 32⟩
def Reg.KEYS.CRQ_STAT.REG : Field := ⟨0x2A040C, 0x0, 0, 32⟩
def Reg.KEYS.CRQ_STAT.ERR : Field := ⟨0x2A040C, 0x0, 8, 8⟩
def Reg.KEYS.CRQ_STAT.STATE : Field := ⟨0x2A040C, 0x0, 0, 2⟩
def Reg.KEYS.CRQ_RES.REG : Field := ⟨0x2A0410, 0x4, 0, 32⟩
def Reg.KEYS.CRQ_RES.RES : Field := ⟨0x2A0410, 0x4, 0, 32⟩
def Reg.KEYS.FORCE.REG : Field := ⟨0x2AF000, 0x0, 0, 32⟩
def Reg.KEYS.FORCE.TAMPER : Field := ⟨0x2AF000, 0x0, 2, 1⟩
def Reg.KEYS.FORCE.SLOTFAIL : Field := ⟨0x2AF000, 0x0, 1, 1⟩
def Reg.KEYS.FORCE.TRNG : Field := ⟨0x2AF000, 0x0, 0, 1⟩

/-! ### UPDATE (chapter 15) -/
def Reg.UPDATE.STATUS.REG : Field := ⟨0x2C0000, 0x0, 0, 32⟩
def Reg.UPDATE.STATUS.ERR : Field := ⟨0x2C0000, 0x0, 20, 4⟩
def Reg.UPDATE.STATUS.RECOVERY : Field := ⟨0x2C0000, 0x0, 17, 1⟩
def Reg.UPDATE.STATUS.FALLBACK : Field := ⟨0x2C0000, 0x0, 16, 1⟩
def Reg.UPDATE.STATUS.LOST : Field := ⟨0x2C0000, 0x0, 15, 1⟩
def Reg.UPDATE.STATUS.HALF : Field := ⟨0x2C0000, 0x0, 14, 1⟩
def Reg.UPDATE.STATUS.SLOT : Field := ⟨0x2C0000, 0x0, 13, 1⟩
def Reg.UPDATE.STATUS.PENDING : Field := ⟨0x2C0000, 0x0, 12, 1⟩
def Reg.UPDATE.STATUS.FIFO : Field := ⟨0x2C0000, 0x0, 9, 3⟩
def Reg.UPDATE.STATUS.STATE : Field := ⟨0x2C0000, 0x0, 0, 4⟩
def Reg.UPDATE.CMD.REG : Field := ⟨0x2C0004, 0x0, 0, 32⟩
def Reg.UPDATE.CMD.OP : Field := ⟨0x2C0004, 0x0, 0, 4⟩
def Reg.UPDATE.CTRL.REG : Field := ⟨0x2C0008, 0x0, 0, 32⟩
def Reg.UPDATE.CTRL.SBSREC : Field := ⟨0x2C0008, 0x0, 0, 1⟩
def Reg.UPDATE.RECEIVED.REG : Field := ⟨0x2C000C, 0x0, 0, 32⟩
def Reg.UPDATE.RECEIVED.BYTES : Field := ⟨0x2C000C, 0x0, 0, 32⟩
def Reg.UPDATE.ARB.REG : Field := ⟨0x2C0010, 0x0, 0, 32⟩
def Reg.UPDATE.ARB.VALUE : Field := ⟨0x2C0010, 0x0, 0, 32⟩
def Reg.UPDATE.SVN.REG : Field := ⟨0x2C0014, 0x0, 0, 32⟩
def Reg.UPDATE.SVN.VALUE : Field := ⟨0x2C0014, 0x0, 0, 32⟩
def Reg.UPDATE.IMGVER.REG : Field := ⟨0x2C0018, 0x0, 0, 32⟩
def Reg.UPDATE.IMGVER.VALUE : Field := ⟨0x2C0018, 0x0, 0, 32⟩
def Reg.UPDATE.IMGID_LO.REG : Field := ⟨0x2C001C, 0x0, 0, 32⟩
def Reg.UPDATE.IMGID_LO.VALUE : Field := ⟨0x2C001C, 0x0, 0, 32⟩
def Reg.UPDATE.IMGID_HI.REG : Field := ⟨0x2C0020, 0x0, 0, 32⟩
def Reg.UPDATE.IMGID_HI.VALUE : Field := ⟨0x2C0020, 0x0, 0, 32⟩
def Reg.UPDATE.STGSVN.REG : Field := ⟨0x2C0024, 0x0, 0, 32⟩
def Reg.UPDATE.STGSVN.VALUE : Field := ⟨0x2C0024, 0x0, 0, 32⟩
def Reg.UPDATE.STGVER.REG : Field := ⟨0x2C0028, 0x0, 0, 32⟩
def Reg.UPDATE.STGVER.VALUE : Field := ⟨0x2C0028, 0x0, 0, 32⟩
def Reg.UPDATE.PENDCOL_LO.REG : Field := ⟨0x2C002C, 0x0, 0, 32⟩
def Reg.UPDATE.PENDCOL_LO.NUMBER : Field := ⟨0x2C002C, 0x0, 0, 32⟩
def Reg.UPDATE.PENDCOL_HI.REG : Field := ⟨0x2C0030, 0x0, 0, 32⟩
def Reg.UPDATE.PENDCOL_HI.NUMBER : Field := ⟨0x2C0030, 0x0, 0, 32⟩
def Reg.UPDATE.STGPUSH.REG : Field := ⟨0x2C0034, 0x0, 0, 32⟩
def Reg.UPDATE.STGPUSH.PUSH : Field := ⟨0x2C0034, 0x0, 0, 1⟩
def Reg.UPDATE.DIGEST.REG : Field := ⟨0x2C0040, 0x4, 0, 32⟩
def Reg.UPDATE.DIGEST.VALUE : Field := ⟨0x2C0040, 0x4, 0, 32⟩
def Reg.UPDATE.FORCE.REG : Field := ⟨0x2CF000, 0x0, 0, 32⟩
def Reg.UPDATE.FORCE.SELECTOR : Field := ⟨0x2CF000, 0x0, 2, 1⟩
def Reg.UPDATE.FORCE.DIGEST : Field := ⟨0x2CF000, 0x0, 1, 1⟩
def Reg.UPDATE.FORCE.STORE : Field := ⟨0x2CF000, 0x0, 0, 1⟩
def Reg.UPDATE.STGBUF.REG : Field := ⟨0x2D0000, 0x4, 0, 32⟩
def Reg.UPDATE.STGBUF.DATA : Field := ⟨0x2D0000, 0x4, 0, 32⟩

/-! ### FAULT (R472) -/
def Reg.FAULT.STATUS.REG : Field := ⟨0x30000, 0x0, 0, 32⟩
def Reg.FAULT.STATUS.HELD : Field := ⟨0x30000, 0x0, 16, 5⟩
def Reg.FAULT.STATUS.FORCE_EN : Field := ⟨0x30000, 0x0, 4, 1⟩
def Reg.FAULT.STATUS.ACKREF : Field := ⟨0x30000, 0x0, 3, 1⟩
def Reg.FAULT.STATUS.TERMINAL : Field := ⟨0x30000, 0x0, 2, 1⟩
def Reg.FAULT.STATUS.ZONE_SAFE : Field := ⟨0x30000, 0x0, 1, 1⟩
def Reg.FAULT.STATUS.DEGRADED : Field := ⟨0x30000, 0x0, 0, 1⟩
def Reg.FAULT.PENDLO.REG : Field := ⟨0x30004, 0x0, 0, 32⟩
def Reg.FAULT.PENDLO.F1 : Field := ⟨0x30004, 0x0, 16, 16⟩
def Reg.FAULT.PENDLO.F0 : Field := ⟨0x30004, 0x0, 0, 16⟩
def Reg.FAULT.PENDHI.REG : Field := ⟨0x30008, 0x0, 0, 32⟩
def Reg.FAULT.PENDHI.F3 : Field := ⟨0x30008, 0x0, 16, 16⟩
def Reg.FAULT.PENDHI.F2 : Field := ⟨0x30008, 0x0, 0, 16⟩
def Reg.FAULT.CNT.REG : Field := ⟨0x30010, 0x4, 0, 32⟩
def Reg.FAULT.CNT.COUNT : Field := ⟨0x30010, 0x4, 0, 32⟩
def Reg.FAULT.LAST.REG : Field := ⟨0x30020, 0x0, 0, 32⟩
def Reg.FAULT.LAST.SOURCE : Field := ⟨0x30020, 0x0, 16, 16⟩
def Reg.FAULT.LAST.UNIT : Field := ⟨0x30020, 0x0, 0, 14⟩
def Reg.FAULT.LASTCLS.REG : Field := ⟨0x30024, 0x0, 0, 32⟩
def Reg.FAULT.LASTCLS.CLASS : Field := ⟨0x30024, 0x0, 0, 8⟩
def Reg.FAULT.ACK.REG : Field := ⟨0x30030, 0x0, 0, 32⟩
def Reg.FAULT.ACK.CLASSES : Field := ⟨0x30030, 0x0, 0, 4⟩
def Reg.FAULT.ACKONE.REG : Field := ⟨0x30034, 0x0, 0, 32⟩
def Reg.FAULT.ACKONE.SOURCE : Field := ⟨0x30034, 0x0, 16, 16⟩
def Reg.FAULT.ACKONE.UNIT : Field := ⟨0x30034, 0x0, 0, 14⟩
def Reg.FAULT.CTRL.REG : Field := ⟨0x30038, 0x0, 0, 32⟩
def Reg.FAULT.CTRL.FORCE_EN : Field := ⟨0x30038, 0x0, 0, 1⟩
def Reg.FAULT.FORCE.REG : Field := ⟨0x3003C, 0x0, 0, 32⟩
def Reg.FAULT.FORCE.SOURCE : Field := ⟨0x3003C, 0x0, 16, 16⟩
def Reg.FAULT.FORCE.CLASS : Field := ⟨0x3003C, 0x0, 14, 2⟩
def Reg.FAULT.FORCE.UNIT : Field := ⟨0x3003C, 0x0, 0, 14⟩
def Reg.FAULT.DEFER.REG : Field := ⟨0x30040, 0x0, 0, 32⟩
def Reg.FAULT.DEFER.LOST : Field := ⟨0x30040, 0x0, 16, 16⟩
def Reg.FAULT.DEFER.TAKEN : Field := ⟨0x30040, 0x0, 0, 16⟩
def Reg.FAULT.HELD.REG : Field := ⟨0x30100, 0x4, 0, 32⟩
def Reg.FAULT.HELD.SOURCE : Field := ⟨0x30100, 0x4, 16, 16⟩
def Reg.FAULT.HELD.VALID : Field := ⟨0x30100, 0x4, 15, 1⟩
def Reg.FAULT.HELD.UNIT : Field := ⟨0x30100, 0x4, 0, 14⟩

/-! ### LOG (R473) -/
def Reg.LOG.STATUS.REG : Field := ⟨0x40000, 0x0, 0, 32⟩
def Reg.LOG.STATUS.FILL : Field := ⟨0x40000, 0x0, 16, 13⟩
def Reg.LOG.STATUS.DUMP_VALID : Field := ⟨0x40000, 0x0, 2, 1⟩
def Reg.LOG.STATUS.WRAPPED : Field := ⟨0x40000, 0x0, 1, 1⟩
def Reg.LOG.STATUS.STOPPED : Field := ⟨0x40000, 0x0, 0, 1⟩
def Reg.LOG.NEXT.REG : Field := ⟨0x40004, 0x0, 0, 32⟩
def Reg.LOG.NEXT.VALUE : Field := ⟨0x40004, 0x0, 0, 32⟩
def Reg.LOG.DROPPED.REG : Field := ⟨0x40008, 0x0, 0, 32⟩
def Reg.LOG.DROPPED.VALUE : Field := ⟨0x40008, 0x0, 0, 32⟩
def Reg.LOG.CFG.REG : Field := ⟨0x4000C, 0x0, 0, 32⟩
def Reg.LOG.CFG.STOPFULL : Field := ⟨0x4000C, 0x0, 0, 1⟩
def Reg.LOG.CTRL.REG : Field := ⟨0x40010, 0x0, 0, 32⟩
def Reg.LOG.CTRL.CLRDUMP : Field := ⟨0x40010, 0x0, 1, 1⟩
def Reg.LOG.CTRL.CLEAR : Field := ⟨0x40010, 0x0, 0, 1⟩
def Reg.LOG.RDSEL.REG : Field := ⟨0x40020, 0x4, 0, 32⟩
def Reg.LOG.RDSEL.DUMP : Field := ⟨0x40020, 0x4, 31, 1⟩
def Reg.LOG.RDSEL.INDEX : Field := ⟨0x40020, 0x4, 0, 13⟩
def Reg.LOG.REC.REG : Field := ⟨0x40100, 0x20, 0, 32⟩
def Reg.LOG.REC.DATA : Field := ⟨0x40100, 0x20, 0, 32⟩

end Sys2Proof.Machine
end

