-- ==== Sys2Proof/Machine/RegMap.lean ====
section
/-!
DEFINITION. The register map, from the spec's register tables (R5, R10, R12, R15, R34): one row per kind of register,
with its place, its reset value, what survives a controller reset, which bits have which access code, and how the
unprivileged alias shows it.
-/
namespace Sys2Proof.Machine

/-- One kind of register. `alias` is 0 outside the unprivileged alias, 1 in it, 2 in it read-only; `latched` says that
its fields are staged values or configuration that take effect at a col (R43, R145). -/
structure RegRow where
  base : Nat
  stride : Nat
  count : Nat
  sub : Nat
  shown : Nat
  latched : Bool
  rw : Nat
  rwp : Nat
  w1c : Nat
  w1s : Nat
  wo : Nat
  rc : Nat
  rst : Nat
  keep : Nat
  deriving DecidableEq, Repr

/-- Rows of block SYS (R2, R141, R142). -/
def regRowsSYS : List RegRow := [
  ⟨0x0, 0x4, 1, 1, 1, false, 0, 0, 0, 0, 0, 0, 0x964310, 0⟩ /- SYS.IDENT -/,
  ⟨0x40, 0x4, 1, 1, 1, false, 0, 0, 0, 0, 0, 0, 0x289FF41, 0⟩ /- SYS.FEATURE0 -/,
  ⟨0x44, 0x4, 1, 1, 1, false, 0, 0, 0, 0, 0, 0, 0x2431431, 0⟩ /- SYS.FEATURE1 -/,
  ⟨0x48, 0x4, 1, 1, 1, false, 0, 0, 0, 0, 0, 0, 0x30A38525, 0⟩ /- SYS.FEATURE2 -/,
  ⟨0x4C, 0x4, 1, 1, 1, false, 0, 0, 0, 0, 0, 0, 0x20020100, 0⟩ /- SYS.FEATURE3 -/,
  ⟨0x50, 0x4, 1, 1, 1, false, 0, 0, 0, 0, 0, 0, 0x32FF, 0⟩ /- SYS.FEATURE4 -/,
  ⟨0x54, 0x4, 1, 1, 1, false, 0, 0, 0, 0, 0, 0, 0xCF, 0⟩ /- SYS.FEATURE5 -/,
  ⟨0x58, 0x4, 1, 1, 1, false, 0, 0, 0, 0, 0, 0, 0xE10F0, 0⟩ /- SYS.FEATURE6 -/,
  ⟨0x5C, 0x4, 1, 1, 1, false, 0, 0, 0, 0, 0, 0, 0x1234F, 0⟩ /- SYS.FEATURE7 -/,
  ⟨0x100, 0x40, 4, 1, 0, false, 0, 0, 0, 0, 0, 0, 0x38, 0⟩ /- SYS.LANE_STAT -/,
  ⟨0x104, 0x40, 4, 1, 0, false, 0, 0, 0x80000000, 0, 0, 0xFF00, 0, 0⟩ /- SYS.LANE_TRAP -/,
  ⟨0x108, 0x40, 4, 1, 0, false, 0, 0, 0, 0, 0, 0, 0, 0⟩ /- SYS.LANE_TPC -/,
  ⟨0x10C, 0x40, 4, 1, 0, false, 0, 0, 0, 0, 0, 0, 0, 0⟩ /- SYS.LANE_TADDR -/,
  ⟨0x110, 0x40, 4, 1, 0, false, 0, 0x1FF01FF, 0, 0, 0, 0, 0x10000E0, 0⟩ /- SYS.LANE_PWIN -/,
  ⟨0x114, 0x40, 4, 1, 0, false, 0, 0, 0, 0, 0, 0, 0, 0⟩ /- SYS.LANE_PSAVE -/,
  ⟨0x118, 0x40, 4, 1, 0, false, 0, 0, 0, 0, 0, 0xFFFFFFFF, 0, 0⟩ /- SYS.LANE_ECC -/,
  ⟨0x11C, 0x40, 4, 1, 0, false, 0, 0, 0, 0, 7, 0, 0, 0⟩ /- SYS.LANE_INJ -/,
  ⟨0x120, 0x40, 4, 1, 0, false, 0, 0, 0, 0, 0, 0, 0, 0⟩ /- SYS.LANE_PTRAP -/,
  ⟨0x124, 0x40, 4, 1, 0, false, 0, 0, 0, 0, 0, 0, 0, 0⟩ /- SYS.LANE_PTPC -/]

/-- Rows of block TICK (R77). -/
def regRowsTICK : List RegRow := [
  ⟨0x10000, 0x4, 1, 1, 1, false, 0, 0, 0x140, 0, 0, 0, 0, 0⟩ /- TICK.STATUS -/,
  ⟨0x10004, 0x4, 1, 1, 1, false, 0, 0, 0, 0, 0, 0, 0, 0⟩ /- TICK.PERIOD -/,
  ⟨0x10008, 0x4, 1, 1, 1, false, 0, 0, 0, 0, 0, 0, 0, 0⟩ /- TICK.COL_LO -/,
  ⟨0x1000C, 0x4, 1, 1, 1, false, 0, 0, 0, 0, 0, 0, 0, 0⟩ /- TICK.COL_HI -/,
  ⟨0x10010, 0x4, 1, 1, 1, false, 0, 0, 0, 0, 0, 0, 0, 0⟩ /- TICK.COLNUM_LO -/,
  ⟨0x10014, 0x4, 1, 1, 1, false, 0, 0, 0, 0, 0, 0, 0, 0⟩ /- TICK.COLNUM_HI -/,
  ⟨0x10018, 0x4, 1, 1, 0, false, 0, 0x7FFFF, 0, 0, 0, 0, 0, 0xFFFFFFFF⟩ /- TICK.PHASE -/,
  ⟨0x10020, 0x4, 1, 1, 0, false, 0, 8, 0, 2, 5, 0, 0, 8⟩ /- TICK.CTRL -/,
  ⟨0x10028, 0x4, 1, 1, 0, false, 0, 0xFFFFFFFF, 0, 0, 0, 0, 0, 0⟩ /- TICK.HO_COL_LO -/,
  ⟨0x1002C, 0x4, 1, 1, 0, false, 0, 0xFFFFFFFF, 0, 0, 0, 0, 0, 0⟩ /- TICK.HO_COL_HI -/,
  ⟨0x10030, 0x4, 1, 1, 0, false, 0, 0, 0xF, 0, 0, 0, 0, 0⟩ /- TICK.OVERRUN -/,
  ⟨0x10034, 0x4, 1, 1, 0, false, 0, 0, 0, 0, 0, 0, 0, 0⟩ /- TICK.LOADERR -/,
  ⟨0x10038, 0x4, 1, 1, 1, false, 0, 0, 0, 0, 0, 0, 0, 0⟩ /- TICK.PLAN_ID_LO -/,
  ⟨0x1003C, 0x4, 1, 1, 1, false, 0, 0, 0, 0, 0, 0, 0, 0⟩ /- TICK.PLAN_ID_HI -/,
  ⟨0x10040, 0x4, 1, 1, 1, false, 0, 0, 0, 0, 0, 0, 0, 0⟩ /- TICK.PLAN_VER -/,
  ⟨0x10044, 0x4, 1, 1, 0, false, 0, 0, 0, 0, 0, 0, 0, 0⟩ /- TICK.SKEW -/]

/-- Rows of block LSW (chapter 05). -/
def regRowsLSW : List RegRow := [
  ⟨0x100000, 0x40, 96, 1, 1, true, 0x3FF7FFF3, 0, 0, 0, 0, 0, 0x400F0, 0⟩ /- LSW.CTRL -/,
  ⟨0x100004, 0x40, 96, 1, 0, true, 0, 0x3FDFF, 0, 0, 0, 0, 0x18000, 0xFFFFFFFF⟩ /- LSW.CFG -/,
  ⟨0x100008, 0x40, 96, 1, 0, true, 0, 0x7FF, 0, 0, 0, 0, 0xC8, 0xFFFFFFFF⟩ /- LSW.HOLD -/,
  ⟨0x10000C, 0x40, 96, 1, 0, true, 0, 0xFFFFFFFF, 0, 0, 0, 0, 0xA0A0500, 0xFFFFFFFF⟩ /- LSW.ILIM -/,
  ⟨0x100010, 0x40, 96, 1, 0, true, 0, 0xFFFF0F, 0, 0, 0x80000000, 0, 0x30A0A03, 0xFFFFFFFF⟩ /- LSW.RETRY -/,
  ⟨0x100014, 0x40, 96, 1, 0, true, 0, 0xFF, 0, 0, 0, 0, 0x32, 0xFFFFFFFF⟩ /- LSW.FW -/,
  ⟨0x100018, 0x40, 96, 1, 1, false, 0, 0, 0xFF0000, 0, 0, 0, 0, 0xFF007C⟩ /- LSW.STAT -/,
  ⟨0x10001C, 0x40, 96, 1, 1, false, 0, 0, 0, 0, 0, 0, 0, 0⟩ /- LSW.IMEAS -/,
  ⟨0x100020, 0x40, 96, 1, 1, false, 0, 0, 0, 0, 0, 0, 0, 0⟩ /- LSW.ISENSE -/,
  ⟨0x100024, 0x40, 96, 1, 1, false, 0, 0, 0, 0, 0, 0, 0, 0⟩ /- LSW.IFB -/,
  ⟨0x100028, 0x40, 96, 1, 1, false, 0, 0, 0, 0, 0, 0, 0, 0⟩ /- LSW.TJ -/,
  ⟨0x10002C, 0x40, 96, 1, 1, false, 0, 0, 0, 0, 0, 0, 0, 0⟩ /- LSW.VOUT -/,
  ⟨0x100030, 0x40, 96, 1, 0, false, 0, 0, 0, 0, 0, 0xFFFFFFFF, 0, 0⟩ /- LSW.EVCOUNT -/,
  ⟨0x100034, 0x40, 96, 1, 0, false, 0, 0, 0, 0, 0xF, 0, 0, 0⟩ /- LSW.FORCE -/,
  ⟨0x100038, 0x40, 96, 1, 1, false, 0, 0, 0, 0, 0, 0, 0, 0⟩ /- LSW.ILIMEFF -/,
  ⟨0x10003C, 0x40, 96, 1, 1, false, 0, 0, 0, 0, 0, 0, 0, 0⟩ /- LSW.IRMS -/,
  ⟨0x10F000, 0x4, 12, 1, 1, true, 0xFFFF, 0, 0, 0, 0, 0, 0x3E8, 0⟩ /- LSW.PGPER -/,
  ⟨0x10F040, 0x4, 1, 1, 0, true, 0, 0xFFBFFF, 0, 0, 0, 0, 0x3C1FFF, 0xFFFFFFFF⟩ /- LSW.SENSECFG -/,
  ⟨0x10F044, 0x4, 1, 1, 1, false, 0, 0, 0x2000, 0, 0, 0, 0, 0⟩ /- LSW.SENSESTAT -/,
  ⟨0x10F050, 0x4, 8, 1, 1, false, 0, 0, 0, 0, 0, 0, 0, 0⟩ /- LSW.SENSEPIN -/,
  ⟨0x10F070, 0x4, 1, 1, 1, false, 0, 0, 0, 0, 0, 0, 0, 0⟩ /- LSW.DINSTAT -/,
  ⟨0x10F074, 0x4, 1, 1, 0, true, 0, 0xFF, 0, 0, 0, 0, 0xA, 0xFFFFFFFF⟩ /- LSW.DINCFG -/]

/-- Rows of block LEDGER (chapter 06). -/
def regRowsLEDGER : List RegRow := [
  ⟨0x120000, 0x4, 1, 1, 2, false, 0, 0, 0, 0, 0, 0, 0, 0xFFFFFFFF⟩ /- LEDGER.STATUS -/,
  ⟨0x120004, 0x4, 1, 1, 0, false, 0, 0xFFFFFF, 0, 0, 0, 0, 0xC80258, 0xFFFFFFFF⟩ /- LEDGER.CFG -/,
  ⟨0x120008, 0x4, 1, 1, 2, false, 0, 0, 0, 0, 0, 0, 0, 0xFFFFFFFF⟩ /- LEDGER.MODEL_ID -/,
  ⟨0x12000C, 0x4, 1, 1, 2, false, 0, 0, 0, 0, 0, 0, 0, 0xFFFFFFFF⟩ /- LEDGER.AGE -/,
  ⟨0x120010, 0x4, 4, 1, 0, false, 0, 0xFFFF, 0, 0, 0, 0, 0x1540, 0xFFFFFFFF⟩ /- LEDGER.AMB -/,
  ⟨0x120020, 0x4, 2, 1, 0, false, 0, 0xFFFF, 0, 0, 0, 0, 0xC87D, 0xFFFFFFFF⟩ /- LEDGER.IN -/,
  ⟨0x120028, 0x4, 2, 1, 2, false, 0, 0, 0, 0, 0, 0, 0, 0xFFFFFFFF⟩ /- LEDGER.INSTAT -/,
  ⟨0x120030, 0x4, 2, 1, 2, false, 0, 0, 0, 0, 0, 0, 0, 0⟩ /- LEDGER.INMEAS -/,
  ⟨0x120040, 0x4, 1, 1, 0, false, 0, 0xFF00, 0, 0, 1, 0, 0, 0⟩ /- LEDGER.FORCE -/,
  ⟨0x120100, 0x10, 4, 1, 0, false, 0, 0, 0, 0, 0xC07FFFFF, 0, 0, 0⟩ /- LEDGER.ADMIT_REQ -/,
  ⟨0x120104, 0x10, 4, 1, 0, false, 0, 0, 0, 0, 0, 0, 0xFF0000, 0⟩ /- LEDGER.ADMIT_RES -/,
  ⟨0x121000, 0x10, 160, 1, 2, false, 0, 0, 0, 0, 0, 0, 0, 0xFFFFFFFF⟩ /- LEDGER.SEG_THETA -/,
  ⟨0x121004, 0x10, 160, 1, 2, false, 0, 0, 0, 0, 0, 0, 0, 0xFFFFFFFF⟩ /- LEDGER.SEG_I -/,
  ⟨0x121008, 0x10, 160, 1, 2, false, 0, 0, 0, 0, 0, 0, 0, 0xFFFFFFFF⟩ /- LEDGER.SEG_BUD -/,
  ⟨0x12100C, 0x10, 160, 1, 2, false, 0, 0, 0, 0, 0, 0, 0, 0xFFFFFFFF⟩ /- LEDGER.SEG_HEAD -/,
  ⟨0x122000, 0x4, 120, 1, 2, false, 0, 0, 0x20000, 0, 0, 0, 0, 0xFFFFFFFF⟩ /- LEDGER.RESV -/]

/-- Rows of block HBR (chapter 07). -/
def regRowsHBR : List RegRow := [
  ⟨0x130000, 0x40, 16, 1, 1, true, 0xF87FFFF, 0, 0, 0, 0, 0, 0x1840050, 0⟩ /- HBR.CTRL -/,
  ⟨0x130004, 0x40, 16, 1, 0, true, 0, 0xFFFF1B, 0, 0, 0, 0, 0xA6401, 0xFFFFFFFF⟩ /- HBR.CFG -/,
  ⟨0x130008, 0x40, 16, 1, 1, true, 0xFFFFFFFF, 0, 0, 0, 0, 0, 0, 0⟩ /- HBR.STOPPOS -/,
  ⟨0x13000C, 0x40, 16, 1, 1, false, 0, 0, 0xFC0000, 0, 0, 0, 2, 0xFC0030⟩ /- HBR.STAT -/,
  ⟨0x130010, 0x40, 16, 1, 1, false, 0, 0, 0, 0, 0, 0, 0, 0⟩ /- HBR.IMEAS -/,
  ⟨0x130014, 0x40, 16, 1, 1, false, 0, 0, 0, 0, 0, 0, 0, 0⟩ /- HBR.TJ -/,
  ⟨0x130018, 0x40, 16, 1, 0, true, 0, 0xFFFFFF, 0, 0, 0, 0, 0x14B428, 0xFFFFFFFF⟩ /- HBR.RIPCFG -/,
  ⟨0x13001C, 0x40, 16, 1, 1, false, 0, 0xFFFFFFFF, 0, 0, 0, 0, 0, 0xFFFFFFFF⟩ /- HBR.POS -/,
  ⟨0x130020, 0x40, 16, 1, 1, false, 0, 0, 0, 0, 0, 0, 0xFFFFFFFF, 0xFFFFFFFF⟩ /- HBR.PERIOD -/,
  ⟨0x130024, 0x40, 16, 1, 1, false, 0, 0, 0x80000000, 0, 0, 0xFFFF, 0, 0xFFFFFFFF⟩ /- HBR.RIPSTAT -/,
  ⟨0x130028, 0x40, 16, 1, 0, false, 0, 0, 0, 0, 0, 0xFFFFFFFF, 0, 0⟩ /- HBR.EVCOUNT -/,
  ⟨0x13002C, 0x40, 16, 1, 0, false, 0, 0, 0, 0, 7, 0, 0, 0⟩ /- HBR.FORCE -/,
  ⟨0x13F000, 0x4, 1, 1, 0, true, 0, 0xFF, 0, 0, 0, 0, 0xFF, 0⟩ /- HBR.PAIRCFG -/,
  ⟨0x13F004, 0x4, 1, 1, 0, true, 0, 0xF03FF, 0, 0, 0, 0, 0x501F4, 0⟩ /- HBR.PWMCFG -/]

/-- Rows of block VALVE (chapter 08). -/
def regRowsVALVE : List RegRow := [
  ⟨0x140000, 0x80, 24, 1, 1, true, 0x40F3FFFF, 0, 0, 0, 0, 0, 0, 0⟩ /- VALVE.CMD -/,
  ⟨0x140004, 0x80, 24, 1, 0, true, 0, 0xFFFF38, 0, 0, 0, 0, 0x145000, 0xFFFFFFFF⟩ /- VALVE.CFG -/,
  ⟨0x140008, 0x80, 24, 1, 0, true, 0, 0xFFFFFFFF, 0, 0, 0, 0, 0x1F400320, 0xFFFFFFFF⟩ /- VALVE.COIL -/,
  ⟨0x14000C, 0x80, 24, 1, 0, true, 0, 0xFFFFFFFF, 0, 0, 0, 0, 0x258960A, 0xFFFFFFFF⟩ /- VALVE.COILTH -/,
  ⟨0x140010, 0x80, 24, 1, 1, false, 0, 0, 0, 0, 0, 0, 2, 0xFFFFFFFF⟩ /- VALVE.PSTAT -/,
  ⟨0x140014, 0x80, 24, 1, 1, false, 0, 0, 0, 0, 0, 0xFFFF0000, 0, 0xFFFFFFFF⟩ /- VALVE.PWAIT -/,
  ⟨0x140018, 0x80, 24, 1, 1, false, 0, 0, 0, 0, 0, 0, 0xFFFFFFFF, 0xFFFFFFFF⟩ /- VALVE.DEADLO -/,
  ⟨0x14001C, 0x80, 24, 1, 1, false, 0, 0, 0, 0, 0, 0, 0xFFFFFFFF, 0xFFFFFFFF⟩ /- VALVE.DEADHI -/,
  ⟨0x140020, 0x80, 24, 1, 1, false, 0, 0, 0, 0, 0, 0, 0, 0xFFFFFFFF⟩ /- VALVE.ARRIVE -/,
  ⟨0x140024, 0x80, 24, 1, 1, false, 0, 0, 0, 0, 0, 0, 0, 0⟩ /- VALVE.IMEAS -/,
  ⟨0x140028, 0x80, 24, 1, 1, false, 0, 0, 0, 0, 0, 0, 0, 0xFFFFFFFF⟩ /- VALVE.THETA -/,
  ⟨0x14002C, 0x80, 24, 1, 1, false, 0, 0, 0xFF0100, 0, 0, 0, 0, 0xFF0008⟩ /- VALVE.STAT -/,
  ⟨0x140030, 0x80, 24, 1, 0, true, 0, 0xFFFF0C, 0, 0, 0, 0, 0x7D0500, 0⟩ /- VALVE.VPCFG -/,
  ⟨0x140034, 0x80, 24, 1, 0, false, 0, 0, 0, 0, 0, 0xFFFFFFFF, 0, 0⟩ /- VALVE.EVCOUNT -/,
  ⟨0x140038, 0x80, 24, 1, 0, false, 0, 0, 0, 0, 0xF, 0, 0, 0⟩ /- VALVE.FORCE -/,
  ⟨0x14F000, 0x40, 4, 1, 0, true, 0, 0xFF, 0, 0, 0, 0, 0xA0, 0xFFFFFFFF⟩ /- VALVE.BANKCFG -/,
  ⟨0x14F004, 0x40, 4, 1, 1, false, 0, 0, 0x40, 0, 0, 0, 0xE000, 0xFFFFFFFF⟩ /- VALVE.BANKSTAT -/,
  ⟨0x14F008, 0x40, 4, 1, 1, false, 0, 0, 0, 0, 0, 0, 0xA0, 0⟩ /- VALVE.BANKEFF -/,
  ⟨0x14F100, 0x4, 1, 1, 0, true, 0, 0xFFF9, 0, 0, 0, 0, 0xC040, 0xFFFFFFFF⟩ /- VALVE.PKSCTL -/,
  ⟨0x14F104, 0x4, 1, 1, 0, true, 0, 0xFFFF, 0, 0, 0, 0, 0x96, 0xFFFFFFFF⟩ /- VALVE.PKSCFG -/,
  ⟨0x14F108, 0x4, 1, 1, 1, false, 0, 0, 0, 0, 0, 0, 4, 0xFFFFFFFF⟩ /- VALVE.PKSSTAT -/]

/-- Rows of block LIGHT (chapter 09). -/
def regRowsLIGHT : List RegRow := [
  ⟨0x160000, 0x20, 32, 1, 1, true, 0x80000FFF, 0, 0, 0, 0, 0, 0, 0⟩ /- LIGHT.SINKCTRL -/,
  ⟨0x160004, 0x20, 32, 1, 1, true, 0x3FF07FF, 0, 0, 0, 0, 0, 0x400, 0⟩ /- LIGHT.SINKDIM -/,
  ⟨0x160008, 0x20, 32, 1, 0, true, 0, 0xFFFFE000, 0, 0, 0, 0, 0x19000000, 0xFFFFFFFF⟩ /- LIGHT.SINKCFG -/,
  ⟨0x16000C, 0x20, 32, 1, 0, true, 0, 0xFF0FFF, 0, 0, 0, 0, 0x280000, 0xFFFFFFFF⟩ /- LIGHT.SINKSAFE -/,
  ⟨0x160010, 0x20, 32, 1, 1, false, 0, 0, 0x1F0000, 0, 0, 0, 0x80, 0x1F0018⟩ /- LIGHT.SINKSTAT -/,
  ⟨0x160014, 0x20, 32, 1, 1, false, 0, 0, 0, 0, 0, 0, 0, 0⟩ /- LIGHT.SINKMEAS -/,
  ⟨0x160018, 0x20, 32, 1, 1, false, 0, 0, 0, 0, 0, 0, 0, 0⟩ /- LIGHT.LEDTH -/,
  ⟨0x16001C, 0x20, 32, 1, 0, true, 0, 0xFFFFFFFF, 0, 0, 0, 0, 0x14001F4, 0xFFFFFFFF⟩ /- LIGHT.LEDMOD -/,
  ⟨0x161000, 0x40, 4, 1, 1, true, 3, 0, 0, 0, 0, 0, 0, 0⟩ /- LIGHT.STAGECTRL -/,
  ⟨0x161004, 0x40, 4, 1, 0, true, 0, 0xFFFFFFFF, 0, 0, 0, 0, 0x28C01040, 0xFFFFFFFF⟩ /- LIGHT.STAGECFG -/,
  ⟨0x161008, 0x40, 4, 1, 0, true, 0, 0xFFFFFFFF, 0, 0, 0, 0, 0x960203E8, 0xFFFFFFFF⟩ /- LIGHT.STAGEDIM -/,
  ⟨0x16100C, 0x40, 4, 1, 0, true, 0, 0xFFFFFFFF, 0, 0, 0, 0, 0x40100555, 0xFFFFFFFF⟩ /- LIGHT.TERRACE -/,
  ⟨0x161010, 0x40, 4, 1, 1, false, 0, 0, 0xF000, 0, 0, 0, 0, 0⟩ /- LIGHT.STAGESTAT -/,
  ⟨0x161014, 0x40, 4, 1, 1, false, 0, 0, 0, 0, 0, 0, 0, 0⟩ /- LIGHT.STAGEMEAS -/,
  ⟨0x161018, 0x40, 4, 1, 1, false, 0, 0, 0, 0, 0, 0, 0x40, 0⟩ /- LIGHT.STAGEEFF -/,
  ⟨0x162000, 0x4, 1, 1, 1, true, 3, 0, 0, 0, 0, 0, 0, 0⟩ /- LIGHT.MXCTRL -/,
  ⟨0x162004, 0x4, 1, 1, 0, true, 0, 0xFFFFFFFF, 0, 0, 0, 0, 0x28040190, 0xFFFFFFFF⟩ /- LIGHT.MXCFG -/,
  ⟨0x162008, 0x4, 1, 1, 0, true, 0, 0xFFF0007F, 0, 0, 0, 0, 0x19000064, 0xFFFFFFFF⟩ /- LIGHT.MXRAIL -/,
  ⟨0x16200C, 0x4, 1, 1, 1, false, 0, 0, 0x24, 0, 0, 0, 0, 0⟩ /- LIGHT.MXSTAT -/,
  ⟨0x162010, 0x4, 1, 1, 1, false, 0, 0, 0, 0, 0, 0, 0, 0⟩ /- LIGHT.MXDIAG -/,
  ⟨0x162100, 0x4, 48, 1, 1, true, 0xFFFFFFFF, 0, 0, 0, 0, 0, 0, 0⟩ /- LIGHT.PIX -/,
  ⟨0x16F000, 0x4, 1, 1, 0, false, 0, 0x1F0000, 0, 0, 0xF, 0, 0, 0⟩ /- LIGHT.FORCE -/]

/-- Rows of block TIME (chapter 10). -/
def regRowsTIME0 : List RegRow := [
  ⟨0x20000, 0x4, 1, 1, 1, false, 0, 0, 0, 0, 0, 0, 0, 0xFFFFFFFF⟩ /- TIME.NOW_LO -/,
  ⟨0x20004, 0x4, 1, 1, 1, false, 0, 0, 0, 0, 0, 0, 0, 0xFFFFFFFF⟩ /- TIME.NOW_HI -/,
  ⟨0x20008, 0x4, 1, 1, 1, false, 0, 0, 0, 0, 0, 0, 0, 0xFFFFFFFF⟩ /- TIME.SLOW -/,
  ⟨0x2000C, 0x4, 1, 1, 1, false, 0, 0, 0, 0, 0, 0, 0xBEBC200, 0xFFFFFFFF⟩ /- TIME.SLOWRATIO -/,
  ⟨0x20010, 0x4, 1, 1, 1, false, 0, 0, 6, 0, 0, 0, 0, 0⟩ /- TIME.SYNC -/,
  ⟨0x20014, 0x4, 1, 1, 1, false, 0, 0, 0, 0, 0, 0, 0, 0⟩ /- TIME.SYNCOFS -/,
  ⟨0x20020, 0x4, 1, 1, 1, false, 0, 0, 0xFFFFFFFF, 0, 0, 0, 0, 0⟩ /- TIME.CMPEV0 -/,
  ⟨0x20024, 0x4, 1, 1, 1, false, 0, 0, 0xFFFF, 0, 0, 0, 0, 0⟩ /- TIME.CMPEV1 -/,
  ⟨0x20028, 0x4, 1, 1, 1, false, 0, 0, 0xFFFF, 0, 0, 0, 0, 0⟩ /- TIME.UDCEV -/,
  ⟨0x2002C, 0x4, 1, 1, 1, false, 0, 0, 0xFFFFFFFF, 0, 0, 0, 0, 0⟩ /- TIME.CAPEV -/,
  ⟨0x20030, 0x4, 1, 1, 1, false, 0, 0, 0, 0, 0xFFFF, 0, 0, 0⟩ /- TIME.UDCSTART -/,
  ⟨0x20100, 0x10, 48, 1, 1, false, 0xFFFFFFFF, 0, 0, 0, 0, 0, 0, 0⟩ /- TIME.CMP_LO -/,
  ⟨0x20104, 0x10, 48, 1, 1, false, 0xFFFFFFFF, 0, 0, 0, 0, 0, 0, 0⟩ /- TIME.CMP_HI -/,
  ⟨0x20108, 0x10, 48, 1, 1, false, 0xFFFFFFFF, 0, 0, 0, 0, 0, 0, 0⟩ /- TIME.CMP_PER -/,
  ⟨0x2010C, 0x10, 48, 1, 1, false, 5, 0, 8, 0, 0, 0, 0, 0⟩ /- TIME.CMP_CTRL -/,
  ⟨0x20400, 0x10, 16, 1, 1, false, 0xFFFFFFFF, 0, 0, 0, 0, 0, 0, 0⟩ /- TIME.UDC_COUNT -/,
  ⟨0x20404, 0x10, 16, 1, 1, false, 0xFFFFFFFF, 0, 0, 0, 0, 0, 0xFFFFFFFF, 0⟩ /- TIME.UDC_TOP -/,
  ⟨0x20408, 0x10, 16, 1, 1, false, 0xFFFFFFFF, 0, 0, 0, 0, 0, 0, 0⟩ /- TIME.UDC_MATCH -/,
  ⟨0x2040C, 0x10, 16, 1, 1, false, 0xFFFF80, 0, 0xE0000000, 0, 0, 0, 0, 0⟩ /- TIME.UDC_CTRL -/,
  ⟨0x20500, 0x4, 16, 1, 1, false, 0xFFFF, 0, 0, 0, 0, 0, 0, 0⟩ /- TIME.UDC_PRESC -/,
  ⟨0x20800, 0x20, 32, 1, 1, false, 0, 0, 0, 0, 0, 0, 0, 0⟩ /- TIME.CAP_RISE -/,
  ⟨0x20804, 0x20, 32, 1, 1, false, 0, 0, 0, 0, 0, 0, 0, 0⟩ /- TIME.CAP_FALL -/,
  ⟨0x20808, 0x20, 32, 1, 1, false, 0, 0, 0, 0, 0, 0, 0, 0⟩ /- TIME.CAP_PERIOD -/,
  ⟨0x2080C, 0x20, 32, 1, 1, false, 0, 0, 0, 0, 0, 0, 0, 0⟩ /- TIME.CAP_HIGH -/]

/-- Rows of block TIME (chapter 10). -/
def regRowsTIME1 : List RegRow := [
  ⟨0x20810, 0x20, 32, 1, 1, false, 0, 0, 0, 0, 0, 0, 0, 0⟩ /- TIME.CAP_EDGES -/,
  ⟨0x20814, 0x20, 32, 1, 1, false, 0, 0, 0x38, 0, 0, 0, 0, 0⟩ /- TIME.CAP_STAT -/,
  ⟨0x20818, 0x20, 32, 1, 1, false, 0x3FF7F, 0, 0, 0, 0, 0, 0, 0⟩ /- TIME.CAP_CFG -/]

/-- All rows of block TIME. -/
def regRowsTIME : List RegRow :=
  regRowsTIME0 ++ regRowsTIME1

/-- Rows of block INPUT (chapter 10). -/
def regRowsINPUT : List RegRow := [
  ⟨0x180000, 0x4, 2, 1, 1, false, 0, 0, 0, 0, 0, 0, 0, 0xFFFFFFFF⟩ /- INPUT.SILVL -/,
  ⟨0x180008, 0x4, 2, 1, 1, false, 0, 0, 0xFFFFFFFF, 0, 0, 0, 0, 0xFFFFFFFF⟩ /- INPUT.SICHG -/,
  ⟨0x180010, 0x4, 1, 1, 1, false, 0, 0, 0x100, 0, 0, 0, 0, 0⟩ /- INPUT.INSTAT -/,
  ⟨0x180014, 0x4, 1, 1, 0, false, 0, 0xFFFF, 0, 0, 0, 0, 0xA14, 0xFFFFFFFF⟩ /- INPUT.PULSECFG -/,
  ⟨0x180018, 0x4, 1, 1, 0, false, 0, 0x3FF007FF, 0, 0, 0, 0, 0x64000A2, 0xFFFFFFFF⟩ /- INPUT.VALCFG -/,
  ⟨0x180100, 0x4, 64, 1, 0, false, 0, 0xFFFFFFC0, 0, 0, 0, 0, 0x3C32A300, 0xFFFFFFFF⟩ /- INPUT.SICFG -/,
  ⟨0x180400, 0x10, 24, 1, 0, false, 0, 0x1F, 0, 0, 0, 0, 0, 0xFFFFFFFF⟩ /- INPUT.AICFG -/,
  ⟨0x180404, 0x10, 24, 1, 1, false, 0, 0, 0, 0, 0, 0, 0, 0xFFFFFFFF⟩ /- INPUT.AIVAL -/,
  ⟨0x180408, 0x10, 24, 1, 1, false, 0, 0, 0, 0, 0, 0, 0, 0xFFFFFFFF⟩ /- INPUT.AITEMP -/,
  ⟨0x18040C, 0x10, 24, 1, 0, false, 0, 0xFFFFFFFF, 0, 0, 0, 0, 0x3E80D6B, 0xFFFFFFFF⟩ /- INPUT.AINTC -/]

/-- Rows of block NET (chapter 11). -/
def regRowsNET0 : List RegRow := [
  ⟨0x200000, 0x4, 1, 1, 1, false, 0, 0, 0, 0, 0, 0, 0, 0⟩ /- NET.STATUS -/,
  ⟨0x200004, 0x4, 1, 1, 0, true, 0, 0xFFF, 0, 0, 0, 0, 3, 0⟩ /- NET.DICTCFG -/,
  ⟨0x200008, 0x4, 1, 1, 1, false, 0, 0, 0, 0, 0, 0xFFFFFFFF, 0, 0⟩ /- NET.DICTCNT0 -/,
  ⟨0x20000C, 0x4, 1, 1, 1, false, 0, 0, 0, 0, 0, 0xFFFFFFFF, 0, 0⟩ /- NET.DICTCNT1 -/,
  ⟨0x200010, 0x4, 1, 1, 0, true, 0, 0xFFFF, 0, 0, 0, 0, 0x78DC, 0⟩ /- NET.UDP -/,
  ⟨0x200014, 0x4, 1, 1, 0, true, 0, 0x1FFFFF00, 0, 0, 0, 0, 0x1D000000, 0⟩ /- NET.CANDICT -/,
  ⟨0x200018, 0x4, 1, 1, 0, true, 0, 0xFFFF0003, 0, 0, 0, 0, 0x3200000, 0⟩ /- NET.GPTP -/,
  ⟨0x200100, 0x40, 2, 1, 0, true, 0, 0xFFFF, 0, 0, 0, 0, 9, 0⟩ /- NET.ETCFG -/,
  ⟨0x200104, 0x40, 2, 1, 1, false, 0, 0, 0, 0, 0, 0xFFFFFF00, 0, 0⟩ /- NET.ETSTAT -/,
  ⟨0x200108, 0x40, 2, 1, 0, true, 0, 0xFFFFFFFF, 0, 0, 0, 0, 0, 0⟩ /- NET.ETMACLO -/,
  ⟨0x20010C, 0x40, 2, 1, 0, true, 0, 0xFFFF, 0, 0, 0, 0, 0, 0⟩ /- NET.ETMACHI -/,
  ⟨0x200110, 0x40, 2, 4, 0, true, 0, 0xFFFFFFFF, 0, 0, 0, 0, 0, 0⟩ /- NET.ETIP -/,
  ⟨0x200180, 0x4, 1, 1, 0, true, 0, 0xFFFFF803, 0, 0, 0, 0, 0x20200002, 0⟩ /- NET.TSCFG -/,
  ⟨0x200184, 0x4, 1, 1, 1, false, 0, 0, 2, 0, 0, 0xFFFF0000, 0, 0⟩ /- NET.TSSTAT -/,
  ⟨0x200188, 0x4, 1, 1, 0, true, 0, 0xFFFFFFFF, 0, 0, 0, 0, 0, 0⟩ /- NET.TSMACLO -/,
  ⟨0x20018C, 0x4, 1, 1, 0, true, 0, 0xFFFF, 0, 0, 0, 0, 0, 0⟩ /- NET.TSMACHI -/,
  ⟨0x200190, 0x4, 4, 1, 0, true, 0, 0xFFFFFFFF, 0, 0, 0, 0, 0, 0⟩ /- NET.TSIP -/,
  ⟨0x200200, 0x40, 8, 1, 0, true, 0, 7, 0, 0, 8, 0, 6, 0⟩ /- NET.CANCFG -/,
  ⟨0x200204, 0x40, 8, 1, 0, true, 0, 0xFFFFFF7F, 0, 0, 0, 0, 0x13E0F0F, 0⟩ /- NET.CANNBT -/,
  ⟨0x200208, 0x40, 8, 1, 0, true, 0, 0xFFFFFFFF, 0, 0, 0, 0, 0x10E0383, 0⟩ /- NET.CANDBT -/,
  ⟨0x20020C, 0x40, 8, 1, 1, false, 0, 0, 0, 0, 0, 0xFF00, 3, 0⟩ /- NET.CANSTAT -/,
  ⟨0x200220, 0x40, 8, 1, 0, false, 0, 0x3FF, 0, 0, 0, 0, 0x220, 0xFFFFFFFF⟩ /- NET.CANSWCFG -/,
  ⟨0x200224, 0x40, 8, 1, 0, false, 0, 0x1FFFFFFF, 0, 0, 0, 0, 0, 0xFFFFFFFF⟩ /- NET.CANSWID -/,
  ⟨0x200228, 0x40, 8, 1, 0, false, 0, 0x1FFFFFFF, 0, 0, 0, 0, 0x1FFFFFFF, 0xFFFFFFFF⟩ /- NET.CANSWMASK -/]

/-- Rows of block NET (chapter 11). -/
def regRowsNET1 : List RegRow := [
  ⟨0x20022C, 0x40, 8, 1, 0, false, 0, 0xFFFFFFFF, 0, 0, 0, 0, 0, 0xFFFFFFFF⟩ /- NET.CANSWDATA_LO -/,
  ⟨0x200230, 0x40, 8, 1, 0, false, 0, 0xFFFFFFFF, 0, 0, 0, 0, 0, 0xFFFFFFFF⟩ /- NET.CANSWDATA_HI -/,
  ⟨0x200234, 0x40, 8, 1, 1, false, 0, 0, 0x700, 0, 0, 0, 0, 0xFFFFFFFF⟩ /- NET.CANSWSTAT -/,
  ⟨0x200400, 0x20, 12, 1, 0, true, 0, 0xFFFF0FC3, 0, 0, 0, 0, 0x4B000D00, 0⟩ /- NET.LINCFG -/,
  ⟨0x200404, 0x20, 12, 1, 1, false, 0, 0, 1, 0, 0, 0xFFFFFF00, 0, 0⟩ /- NET.LINSTAT -/,
  ⟨0x210000, 0x80, 256, 1, 1, false, 0, 0, 0, 0, 0, 0, 0, 0⟩ /- NET.MBXSTAT -/,
  ⟨0x210004, 0x80, 256, 1, 1, false, 0, 0, 0, 0, 0, 0, 0, 0⟩ /- NET.MBXID -/,
  ⟨0x210008, 0x80, 256, 1, 1, false, 0, 0, 0, 0, 0, 0, 0, 0⟩ /- NET.MBXTSLO -/,
  ⟨0x21000C, 0x80, 256, 1, 1, false, 0, 0, 0, 0, 0, 0, 0, 0⟩ /- NET.MBXTSHI -/,
  ⟨0x210010, 0x80, 256, 28, 1, false, 0, 0, 0, 0, 0, 0, 0, 0⟩ /- NET.MBXDATA -/]

/-- All rows of block NET. -/
def regRowsNET : List RegRow :=
  regRowsNET0 ++ regRowsNET1

/-- Rows of block JOURNAL (chapter 12). -/
def regRowsJOURNAL : List RegRow := [
  ⟨0x50000, 0x4, 1, 1, 0, false, 0, 0, 0, 0, 0, 0, 3, 0⟩ /- JOURNAL.STATUS -/,
  ⟨0x50004, 0x4, 1, 1, 1, false, 0, 0, 0, 0, 0, 0, 0, 0⟩ /- JOURNAL.FILL -/,
  ⟨0x50008, 0x4, 1, 1, 1, false, 0, 0, 0, 0, 0, 0, 0, 0⟩ /- JOURNAL.LASTSEQ_LO -/,
  ⟨0x5000C, 0x4, 1, 1, 1, false, 0, 0, 0, 0, 0, 0, 0, 0⟩ /- JOURNAL.LASTSEQ_HI -/,
  ⟨0x50010, 0x4, 1, 1, 0, false, 0, 0, 0, 0, 0, 0, 0, 0⟩ /- JOURNAL.HEADSEQ_LO -/,
  ⟨0x50014, 0x4, 1, 1, 0, false, 0, 0, 0, 0, 0, 0, 0, 0⟩ /- JOURNAL.HEADSEQ_HI -/,
  ⟨0x50018, 0x4, 1, 1, 0, false, 0, 0, 0, 0, 0, 0, 0, 0⟩ /- JOURNAL.ARCHSEQ_LO -/,
  ⟨0x5001C, 0x4, 1, 1, 0, false, 0, 0, 0, 0, 0, 0, 0, 0⟩ /- JOURNAL.ARCHSEQ_HI -/,
  ⟨0x50020, 0x4, 1, 1, 0, false, 0, 0, 0, 0, 0, 0, 0, 0⟩ /- JOURNAL.LASTCOMMIT_LO -/,
  ⟨0x50024, 0x4, 1, 1, 0, false, 0, 0, 0, 0, 0, 0, 0, 0⟩ /- JOURNAL.LASTCOMMIT_HI -/,
  ⟨0x50028, 0x4, 1, 1, 0, false, 0, 1, 0, 0, 0, 0, 0, 0xFFFFFFFF⟩ /- JOURNAL.CFG -/,
  ⟨0x5002C, 0x4, 1, 1, 0, false, 0, 0, 0, 0, 0, 0xFFFFFFFF, 0, 0⟩ /- JOURNAL.STARTCNT -/,
  ⟨0x50030, 0x4, 1, 1, 0, false, 0, 0, 1, 0, 0, 0, 0, 0⟩ /- JOURNAL.OUTSTAT -/,
  ⟨0x50100, 0x10, 4, 1, 0, false, 0xFFFFFFFF, 0, 0, 0, 0, 0, 0, 0⟩ /- JOURNAL.OUT_SEQ_LO -/,
  ⟨0x50104, 0x10, 4, 1, 0, false, 0xFFFFFFFF, 0, 0, 0, 0, 0, 0, 0⟩ /- JOURNAL.OUT_SEQ_HI -/,
  ⟨0x50108, 0x10, 4, 1, 0, false, 0, 0, 0, 0, 0xFFFFFFFF, 0, 0, 0⟩ /- JOURNAL.OUT_POST -/,
  ⟨0x5010C, 0x10, 4, 1, 0, false, 0xFFFFFFFF, 0, 0, 0, 0, 0, 0, 0⟩ /- JOURNAL.OUT_GRANT -/,
  ⟨0x50200, 0x4, 1, 1, 0, false, 0, 0, 0, 0, 3, 0, 0, 0⟩ /- JOURNAL.FORCE -/]

/-- Rows of block POWER (chapter 13). -/
def regRowsPOWER : List RegRow := [
  ⟨0x2E0000, 0x4, 1, 1, 2, false, 0, 0, 0xB00, 0, 0, 0, 0, 0xFFFFFFFF⟩ /- POWER.STATUS -/,
  ⟨0x2E0004, 0x4, 1, 1, 0, false, 0, 3, 0, 0, 0, 0, 0, 0xFFFFFFFF⟩ /- POWER.PWR_MODE -/,
  ⟨0x2E0008, 0x4, 1, 1, 0, false, 0, 0, 0, 1, 0, 0, 0, 0xFFFFFFFF⟩ /- POWER.SLEEPCTL -/,
  ⟨0x2E000C, 0x4, 1, 1, 0, false, 0, 0xFFFFFFFF, 0, 0, 0, 0, 0, 0xFFFFFFFF⟩ /- POWER.WS_COL_LO -/,
  ⟨0x2E0010, 0x4, 1, 1, 0, false, 0, 0xFFFFFFFF, 0, 0, 0, 0, 0, 0xFFFFFFFF⟩ /- POWER.WS_COL_HI -/,
  ⟨0x2E0014, 0x4, 1, 1, 0, false, 0, 0x3FF, 0, 0, 0, 0, 0xFFF, 0xFFFFFFFF⟩ /- POWER.WAKEEN -/,
  ⟨0x2E0018, 0x4, 1, 1, 2, false, 0, 0, 0x80000FFF, 0, 0, 0, 0xF000000, 0xFFFFFFFF⟩ /- POWER.WAKEREASON -/,
  ⟨0x2E001C, 0x4, 1, 1, 2, false, 0, 0, 0, 0, 0, 0, 0xFF, 0xFFFFFFFF⟩ /- POWER.WAKEDETAIL -/,
  ⟨0x2E0020, 0x4, 1, 1, 0, false, 0, 0xFFFFFF80, 0, 0, 0, 0, 0x32143280, 0xFFFFFFFF⟩ /- POWER.WAKECFG -/,
  ⟨0x2E0024, 0x4, 1, 1, 0, false, 0, 0xFFE, 0, 0, 0, 0, 0x3FE, 0xFFFFFFFF⟩ /- POWER.WAKEFWD -/,
  ⟨0x2E0028, 0x4, 1, 1, 0, false, 0, 0xFFFFFFF0, 0, 0, 0, 0, 0x7087D00, 0xFFFFFFFF⟩ /- POWER.AWAKECFG -/,
  ⟨0x2E002C, 0x4, 1, 1, 0, false, 0, 0xFF, 0, 0, 0, 0, 0x10, 0xFFFFFFFF⟩ /- POWER.DESCENT -/,
  ⟨0x2E0030, 0x4, 1, 1, 0, false, 0, 0, 0, 0, 7, 0, 0, 0xFFFFFFFF⟩ /- POWER.CTRL -/,
  ⟨0x2E0034, 0x4, 1, 1, 2, false, 0, 0x3C, 0, 0, 0, 0, 0, 0xFFFFFFFF⟩ /- POWER.PERF -/,
  ⟨0x2E0038, 0x4, 1, 1, 0, false, 0, 0, 0, 0, 0, 0xFFFFFFFF, 0, 0xFFFFFFFF⟩ /- POWER.COUNT -/,
  ⟨0x2E003C, 0x4, 1, 1, 2, false, 0, 0, 0, 0, 0, 0, 0, 0xFFFFFFFF⟩ /- POWER.DWELL -/,
  ⟨0x2E0040, 0x4, 1, 1, 0, false, 0, 0x17F, 0, 0, 0, 0, 0x12A, 0xFFFFFFFF⟩ /- POWER.SBSCFG -/,
  ⟨0x2E0044, 0x4, 1, 1, 2, false, 0, 0, 0, 0, 0, 0, 0, 0xFFFFFFFF⟩ /- POWER.SUPMEAS -/,
  ⟨0x2E0048, 0x4, 1, 1, 0, false, 0, 0, 0, 0, 0x1F, 0, 0, 0xFFFFFFFF⟩ /- POWER.FORCE -/]

/-- Rows of block ACCESS (chapter 14). -/
def regRowsACCESS0 : List RegRow := [
  ⟨0x280000, 0x4, 1, 1, 0, false, 0, 0xFF01, 0, 0, 2, 0, 0, 0⟩ /- ACCESS.CTRL -/,
  ⟨0x280004, 0x4, 1, 1, 0, false, 0, 0xFFFFFF, 0, 0, 0, 0, 0, 0xFFFFFFFF⟩ /- ACCESS.VEHID -/,
  ⟨0x280008, 0x4, 1, 1, 0, false, 0, 0, 0xE0, 0, 0, 0, 0, 0xF00⟩ /- ACCESS.STATUS -/,
  ⟨0x28000C, 0x4, 1, 1, 0, false, 0, 0, 0, 0, 0, 0, 0xFF00000, 0⟩ /- ACCESS.RESULT -/,
  ⟨0x280010, 0x4, 1, 1, 0, false, 0, 0, 0, 0, 0, 0, 0, 0⟩ /- ACCESS.RESTOK -/,
  ⟨0x280018, 0x4, 1, 1, 0, false, 0, 0, 0, 0, 0, 0, 0, 0xFFFFFFFF⟩ /- ACCESS.LOCKEND_LO -/,
  ⟨0x28001C, 0x4, 1, 1, 0, false, 0, 0, 0, 0, 0, 0, 0, 0xFFFFFFFF⟩ /- ACCESS.LOCKEND_HI -/,
  ⟨0x280020, 0x4, 1, 1, 0, false, 0, 0, 0, 0, 0, 0xFFFFFFFF, 0, 0⟩ /- ACCESS.FAILCNT -/,
  ⟨0x280024, 0x4, 1, 1, 0, false, 0, 0xFF, 0, 0, 0, 0, 0x18, 0⟩ /- ACCESS.LOCKCFG -/,
  ⟨0x280028, 0x4, 1, 1, 0, false, 0, 0xFFFFFFFF, 0, 0, 0, 0, 0xF03E80FA, 0⟩ /- ACCESS.POLLCFG -/,
  ⟨0x28002C, 0x4, 1, 1, 0, false, 0, 0xFFFFF03F, 0, 0, 0, 0, 0x4864300F, 0⟩ /- ACCESS.POLLCFG2 -/,
  ⟨0x280030, 0x4, 1, 1, 0, false, 0, 0, 0, 0, 0, 0, 0, 0⟩ /- ACCESS.POLLSTAT -/,
  ⟨0x280034, 0x4, 1, 1, 0, false, 0, 0x3FFFFF, 0, 0, 0, 0, 0x1E, 0⟩ /- ACCESS.IMMOCFG -/,
  ⟨0x280040, 0x4, 1, 1, 0, false, 0, 0, 0, 0, 1, 0, 0, 0⟩ /- ACCESS.IMMO_CTRL -/,
  ⟨0x280038, 0x4, 1, 1, 0, false, 0xFFFFFFFF, 0, 0, 0, 0, 0, 0, 0⟩ /- ACCESS.IMMO_CHAL_LO -/,
  ⟨0x28003C, 0x4, 1, 1, 0, false, 0xFFFFFFFF, 0, 0, 0, 0, 0, 0, 0⟩ /- ACCESS.IMMO_CHAL_HI -/,
  ⟨0x280044, 0x4, 1, 1, 0, false, 0, 0, 0, 0, 0, 0, 0, 0⟩ /- ACCESS.IMMO_RESP_LO -/,
  ⟨0x280048, 0x4, 1, 1, 0, false, 0, 0, 0, 0, 0, 0, 0, 0⟩ /- ACCESS.IMMO_RESP_HI -/,
  ⟨0x280080, 0x4, 6, 1, 0, false, 0, 0, 0xE, 0, 0, 0, 0, 0⟩ /- ACCESS.AERIAL -/,
  ⟨0x280100, 0x8, 8, 1, 0, false, 0, 0xFFFFFFFF, 0, 0, 0, 0, 0, 0⟩ /- ACCESS.ZONE_LO -/,
  ⟨0x280104, 0x8, 8, 1, 0, false, 0, 0x1FFFF, 0, 0, 0, 0, 0, 0⟩ /- ACCESS.ZONE_HI -/,
  ⟨0x280200, 0x8, 16, 1, 0, false, 0, 0xFFFFFFFF, 0, 0, 0, 0, 0, 0xFFFFFFFF⟩ /- ACCESS.TOK_ID -/,
  ⟨0x280204, 0x8, 16, 1, 0, false, 0, 0x8000003F, 0, 0, 0, 0, 0, 0xFFFFFFFF⟩ /- ACCESS.TOK_CFG -/,
  ⟨0x280400, 0x10, 16, 1, 0, false, 0, 0, 0, 0, 0, 0, 0, 0⟩ /- ACCESS.ANS_ID -/]

/-- Rows of block ACCESS (chapter 14). -/
def regRowsACCESS1 : List RegRow := [
  ⟨0x280404, 0x10, 16, 1, 0, false, 0, 0, 0, 0, 0, 0, 0, 0⟩ /- ACCESS.ANS_VERD -/,
  ⟨0x280408, 0x10, 16, 1, 0, false, 0, 0, 0, 0, 0, 0, 0, 0⟩ /- ACCESS.ANS_REP_LO -/,
  ⟨0x28040C, 0x10, 16, 1, 0, false, 0, 0, 0, 0, 0, 0, 0, 0⟩ /- ACCESS.ANS_REP_HI -/,
  ⟨0x28F000, 0x4, 1, 1, 0, false, 0, 0, 0, 0, 7, 0, 0, 0⟩ /- ACCESS.FORCE -/]

/-- All rows of block ACCESS. -/
def regRowsACCESS : List RegRow :=
  regRowsACCESS0 ++ regRowsACCESS1

/-- Rows of block KEYS (chapter 14). -/
def regRowsKEYS : List RegRow := [
  ⟨0x2A0000, 0x4, 1, 1, 0, false, 0, 0, 0x28, 0, 0, 0, 0, 0xFFFF0020⟩ /- KEYS.STATUS -/,
  ⟨0x2A0004, 0x4, 1, 1, 0, false, 0, 0, 0, 0, 0xF03F3F73, 0, 0, 0⟩ /- KEYS.CMD -/,
  ⟨0x2A0008, 0x4, 1, 1, 0, false, 0, 0xFFFFFFFF, 0, 0, 0, 0, 0, 0⟩ /- KEYS.LABEL -/,
  ⟨0x2A000C, 0x4, 1, 1, 0, false, 0, 0xFFFFFFFF, 0, 0, 0, 0, 0, 0⟩ /- KEYS.CTX_LO -/,
  ⟨0x2A0010, 0x4, 1, 1, 0, false, 0, 0xFFFFFFFF, 0, 0, 0, 0, 0, 0⟩ /- KEYS.CTX_HI -/,
  ⟨0x2A0014, 0x4, 1, 1, 0, false, 0, 0, 0, 0, 0, 0, 0, 0xFFFFFFFF⟩ /- KEYS.UNITID_LO -/,
  ⟨0x2A0018, 0x4, 1, 1, 0, false, 0, 0, 0, 0, 0, 0, 0, 0xFFFFFFFF⟩ /- KEYS.UNITID_HI -/,
  ⟨0x2A0100, 0x4, 20, 1, 0, false, 0, 0xFFFFFFFF, 0, 0, 0, 0, 0, 0⟩ /- KEYS.XFER -/,
  ⟨0x2A0200, 0x4, 64, 1, 0, false, 0, 0, 0, 0, 0, 0, 0, 0xFFFFFFFF⟩ /- KEYS.SLOT -/,
  ⟨0x2A0310, 0x4, 1, 1, 0, false, 0, 0x3FF, 0, 0, 0, 0, 5, 0⟩ /- KEYS.TAMPCFG -/,
  ⟨0x2A0314, 0x4, 1, 1, 0, false, 0, 0, 0x1F, 0, 0, 0, 0, 0xFFFFFFFF⟩ /- KEYS.TAMPSTAT -/,
  ⟨0x2A0320, 0x4, 4, 1, 0, false, 0, 0, 0, 0, 0, 0, 0, 0⟩ /- KEYS.ENROL -/,
  ⟨0x2A0400, 0x4, 1, 1, 0, false, 0, 0, 0, 0, 0xF03F0000, 0, 0, 0⟩ /- KEYS.CRQ_CTRL -/,
  ⟨0x2A0404, 0x4, 1, 1, 0, false, 0, 0xFFFFFFFF, 0, 0, 0, 0, 0, 0⟩ /- KEYS.CRQ_ADDR -/,
  ⟨0x2A0408, 0x4, 1, 1, 0, false, 0, 0xFFFFFFFF, 0, 0, 0, 0, 0, 0⟩ /- KEYS.CRQ_LEN -/,
  ⟨0x2A040C, 0x4, 1, 1, 0, false, 0, 0, 0, 0, 0, 0, 0, 0⟩ /- KEYS.CRQ_STAT -/,
  ⟨0x2A0410, 0x4, 8, 1, 0, false, 0, 0, 0, 0, 0, 0, 0, 0⟩ /- KEYS.CRQ_RES -/,
  ⟨0x2AF000, 0x4, 1, 1, 0, false, 0, 0, 0, 0, 7, 0, 0, 0⟩ /- KEYS.FORCE -/]

/-- Rows of block UPDATE (chapter 15). -/
def regRowsUPDATE : List RegRow := [
  ⟨0x2C0000, 0x4, 1, 1, 1, false, 0, 0, 0x18000, 0, 0, 0, 0, 0x7000⟩ /- UPDATE.STATUS -/,
  ⟨0x2C0004, 0x4, 1, 1, 0, false, 0, 0, 0, 0, 0xF, 0, 0, 0⟩ /- UPDATE.CMD -/,
  ⟨0x2C0008, 0x4, 1, 1, 0, false, 0, 1, 0, 0, 0, 0, 0, 0xFFFFFFFF⟩ /- UPDATE.CTRL -/,
  ⟨0x2C000C, 0x4, 1, 1, 0, false, 0, 0, 0, 0, 0, 0, 0, 0⟩ /- UPDATE.RECEIVED -/,
  ⟨0x2C0010, 0x4, 1, 1, 1, false, 0, 0, 0, 0, 0, 0, 0, 0xFFFFFFFF⟩ /- UPDATE.ARB -/,
  ⟨0x2C0014, 0x4, 1, 1, 1, false, 0, 0, 0, 0, 0, 0, 0, 0xFFFFFFFF⟩ /- UPDATE.SVN -/,
  ⟨0x2C0018, 0x4, 1, 1, 1, false, 0, 0, 0, 0, 0, 0, 0, 0xFFFFFFFF⟩ /- UPDATE.IMGVER -/,
  ⟨0x2C001C, 0x4, 1, 1, 1, false, 0, 0, 0, 0, 0, 0, 0, 0xFFFFFFFF⟩ /- UPDATE.IMGID_LO -/,
  ⟨0x2C0020, 0x4, 1, 1, 1, false, 0, 0, 0, 0, 0, 0, 0, 0xFFFFFFFF⟩ /- UPDATE.IMGID_HI -/,
  ⟨0x2C0024, 0x4, 1, 1, 1, false, 0, 0, 0, 0, 0, 0, 0, 0⟩ /- UPDATE.STGSVN -/,
  ⟨0x2C0028, 0x4, 1, 1, 1, false, 0, 0, 0, 0, 0, 0, 0, 0⟩ /- UPDATE.STGVER -/,
  ⟨0x2C002C, 0x4, 1, 1, 0, false, 0, 0, 0, 0, 0, 0, 0, 0xFFFFFFFF⟩ /- UPDATE.PENDCOL_LO -/,
  ⟨0x2C0030, 0x4, 1, 1, 0, false, 0, 0, 0, 0, 0, 0, 0, 0xFFFFFFFF⟩ /- UPDATE.PENDCOL_HI -/,
  ⟨0x2C0034, 0x4, 1, 1, 0, false, 0, 0, 0, 0, 1, 0, 0, 0⟩ /- UPDATE.STGPUSH -/,
  ⟨0x2C0040, 0x4, 8, 1, 1, false, 0, 0, 0, 0, 0, 0, 0, 0xFFFFFFFF⟩ /- UPDATE.DIGEST -/,
  ⟨0x2CF000, 0x4, 1, 1, 0, false, 0, 0, 0, 0, 7, 0, 0, 0⟩ /- UPDATE.FORCE -/,
  ⟨0x2D0000, 0x4, 256, 1, 0, false, 0, 0xFFFFFFFF, 0, 0, 0, 0, 0, 0⟩ /- UPDATE.STGBUF -/]

/-- Rows of block FAULT (R472). -/
def regRowsFAULT : List RegRow := [
  ⟨0x30000, 0x4, 1, 1, 2, false, 0, 0, 8, 0, 0, 0, 0, 0⟩ /- FAULT.STATUS -/,
  ⟨0x30004, 0x4, 1, 1, 2, false, 0, 0, 0, 0, 0, 0, 0, 0⟩ /- FAULT.PENDLO -/,
  ⟨0x30008, 0x4, 1, 1, 2, false, 0, 0, 0, 0, 0, 0, 0, 0⟩ /- FAULT.PENDHI -/,
  ⟨0x30010, 0x4, 4, 1, 2, false, 0, 0, 0, 0, 0, 0, 0, 0⟩ /- FAULT.CNT -/,
  ⟨0x30020, 0x4, 1, 1, 2, false, 0, 0, 0, 0, 0, 0, 0x3FFF, 0⟩ /- FAULT.LAST -/,
  ⟨0x30024, 0x4, 1, 1, 2, false, 0, 0, 0, 0, 0, 0, 0, 0⟩ /- FAULT.LASTCLS -/,
  ⟨0x30030, 0x4, 1, 1, 0, false, 0, 0, 0, 0, 0xF, 0, 0, 0⟩ /- FAULT.ACK -/,
  ⟨0x30034, 0x4, 1, 1, 0, false, 0, 0, 0, 0, 0xFFFF3FFF, 0, 0, 0⟩ /- FAULT.ACKONE -/,
  ⟨0x30038, 0x4, 1, 1, 0, false, 0, 1, 0, 0, 0, 0, 0, 0⟩ /- FAULT.CTRL -/,
  ⟨0x3003C, 0x4, 1, 1, 0, false, 0, 0, 0, 0, 0xFFFFFFFF, 0, 0, 0⟩ /- FAULT.FORCE -/,
  ⟨0x30040, 0x4, 1, 1, 0, false, 0, 0, 0, 0, 0, 0xFFFFFFFF, 0, 0⟩ /- FAULT.DEFER -/,
  ⟨0x30100, 0x4, 16, 1, 0, false, 0, 0, 0, 0, 0, 0, 0x3FFF, 0⟩ /- FAULT.HELD -/]

/-- Rows of block LOG (R473). -/
def regRowsLOG : List RegRow := [
  ⟨0x40000, 0x4, 1, 1, 1, false, 0, 0, 2, 0, 0, 0, 0, 0xFFFFFFFF⟩ /- LOG.STATUS -/,
  ⟨0x40004, 0x4, 1, 1, 1, false, 0, 0, 0, 0, 0, 0, 0, 0xFFFFFFFF⟩ /- LOG.NEXT -/,
  ⟨0x40008, 0x4, 1, 1, 1, false, 0, 0, 0, 0, 0, 0, 0, 0xFFFFFFFF⟩ /- LOG.DROPPED -/,
  ⟨0x4000C, 0x4, 1, 1, 0, false, 0, 1, 0, 0, 0, 0, 0, 0xFFFFFFFF⟩ /- LOG.CFG -/,
  ⟨0x40010, 0x4, 1, 1, 0, false, 0, 0, 0, 0, 3, 0, 0, 0⟩ /- LOG.CTRL -/,
  ⟨0x40020, 0x4, 4, 1, 1, false, 0x80001FFF, 0, 0, 0, 0, 0, 0, 0⟩ /- LOG.RDSEL -/,
  ⟨0x40100, 0x20, 4, 8, 1, false, 0, 0, 0, 0, 0, 0, 0, 0⟩ /- LOG.REC -/]

/-- Does the row hold the register at window offset `o`? -/
def RegRow.holds (r : RegRow) (o : Nat) : Bool :=
  r.base ≤ o && (o - r.base) / r.stride < r.count && (o - r.base) % r.stride < 4 * r.sub && o % 4 == 0

/-- The rows of the block that holds window offset `o` (R34). -/
def regBlockRows (o : Nat) : List RegRow :=
  if o < 0x10000 then regRowsSYS else
  if o < 0x20000 then regRowsTICK else
  if o < 0x30000 then regRowsTIME else
  if o < 0x40000 then regRowsFAULT else
  if o < 0x50000 then regRowsLOG else
  if o < 0x60000 then regRowsJOURNAL else
  if o < 0x120000 then regRowsLSW else
  if o < 0x130000 then regRowsLEDGER else
  if o < 0x140000 then regRowsHBR else
  if o < 0x160000 then regRowsVALVE else
  if o < 0x180000 then regRowsLIGHT else
  if o < 0x200000 then regRowsINPUT else
  if o < 0x280000 then regRowsNET else
  if o < 0x2A0000 then regRowsACCESS else
  if o < 0x2C0000 then regRowsKEYS else
  if o < 0x2E0000 then regRowsUPDATE else
  if o < 0x300000 then regRowsPOWER else
  []

/-- The register at window offset `o`, if the spec names one there. -/
def regRow (o : Nat) : Option RegRow := (regBlockRows o).find? fun r => r.holds o

/-- The blocks of the register block map (R34): first offset and last offset. Other offsets are holes. -/
def regBlocks : List (Nat × Nat) := [
  (0x0, 0x5FFFF), (0x100000, 0x31FFFF)]

/-- An offset of the register window that the block map does not list is a hole (R34). -/
def regHole (o : Nat) : Bool := !(regBlocks.any fun p => p.1 ≤ o && o ≤ p.2)

/-- The class of load switch `n` as CFG.CLASS codes it (R17, R143): 2 for H, 1 for M, 0 for L. -/
def lswClass (n : Nat) : Nat := if n < 8 then 2 else if n < 32 then 1 else 0

/-- The reset ILIM code of load switch `n` (R143). -/
def lswIlimReset (n : Nat) : Nat := if n < 8 then 200 else if n < 32 then 240 else 128

/-- What the register at window offset `o` holds after power-up (R10); 0 where the spec names no register (R34). The
load switches' class, pin and limit codes depend on the channel, and a lane's logical number on the lane. -/
def regReset (o : Nat) : BitVec 32 :=
  match regRow o with
  | none => 0
  | some r =>
    let n := (o - r.base) / r.stride
    if r.base = Reg.LSW.CFG.REG.base then BitVec.ofNat 32 (r.rst + lswClass n * 2 ^ 18 + n / 24 * 6 * 4)
    else if r.base = Reg.LSW.ILIM.REG.base then BitVec.ofNat 32 (r.rst + lswIlimReset n)
    else if r.base = Reg.LSW.ILIMEFF.REG.base then BitVec.ofNat 32 (r.rst + lswIlimReset n)
    else if r.base = Reg.SYS.LANE_STAT.REG.base then BitVec.ofNat 32 (r.rst + n)
    else BitVec.ofNat 32 r.rst

end Sys2Proof.Machine
end

