-- ==== Sys2Proof/Machine/SMap.lean ====
section
/-!
DEFINITION. Sparse maps from addresses to values, as lists of pairs in one canonical form: keys strictly rising, and no
entry equal to what an unlisted key reads as. Registers, memories and the hidden state of channels are held this way.
-/
namespace Sys2Proof.Machine

/-- What key `k` reads as: its entry, or the value of an unlisted key. -/
def smapGet {α : Type} (dflt : Nat → α) : List (Nat × α) → Nat → α
  | [], k => dflt k
  | (j, v) :: m, k => if j = k then v else smapGet dflt m k

/-- The map without an entry for `k`. -/
def smapErase {α : Type} (m : List (Nat × α)) (k : Nat) : List (Nat × α) :=
  m.filter fun p => p.1 != k

/-- The map with an entry put before the first larger key; used on maps that hold no entry for the key. -/
def smapInsert {α : Type} : List (Nat × α) → Nat → α → List (Nat × α)
  | [], k, v => [(k, v)]
  | (j, w) :: m, k, v => if k < j then (k, v) :: (j, w) :: m else (j, w) :: smapInsert m k v

/-- Write `v` at key `k`; writing what an unlisted key reads as removes the entry. -/
def smapSet {α : Type} [DecidableEq α] (dflt : Nat → α) (m : List (Nat × α)) (k : Nat) (v : α) : List (Nat × α) :=
  if v = dflt k then smapErase m k else smapInsert (smapErase m k) k v

/-- Are the keys strictly rising, all of them above `lo`? -/
def smapRising {α : Type} : Nat → List (Nat × α) → Bool
  | _, [] => true
  | lo, (j, _) :: m => lo < j && smapRising j m

/-- The canonical form: keys strictly rising, no entry equal to what an unlisted key reads as. -/
def smapWf {α : Type} [DecidableEq α] (dflt : Nat → α) : List (Nat × α) → Bool
  | [] => true
  | (j, v) :: m => v != dflt j && smapRising j m && smapWf dflt m

end Sys2Proof.Machine
end

