-- ==== Sys2Proof/Machine/Units.lean ====
section
/-!
DEFINITION. The state of each unit that no register shows: lanes, load switch channels, bridges, valve channels and
banks, sinks, stages, the matrix, timers, inputs, the fault collector's flags and records, the plan images. What a
register shows lives in the register map alone.
-/
namespace Sys2Proof.Machine

/-- A lane's reservation (R89, R122, R123): the granule, the cycle of the LR's slot, and whether a write has broken it. -/
structure Resv where
  gran : Nat
  slot : Nat
  broken : Bool
  deriving DecidableEq, Repr

/-- A change of the bundle address that is due: a branch (R82) or the vector of a plains trap (R134). `target` is `none`
for a branch whose guard was false. -/
structure Redirect where
  due : Nat
  target : Option Word
  trap : Bool
  deriving DecidableEq, Repr

/-- One Svavar lane (R107), with what it has in flight besides the results of `LaneEv`. Cycles are lane cycles counted
from the first tick of the plan. `done` lists the blocks that have ended since they were last
released (R50); the lane is at its end-of-block
wait when it does not run and cycle `endedAt` has come (R94); `plainEnd` is the cycle at whose end plains code stops (R97). -/
structure Lane where
  gS : List (Nat × Word)
  gP : List (Nat × Word)
  pS : Byte
  pP : Byte
  plain : Bool
  pc : Word32
  priv : Bool
  running : Bool
  waiting : Bool
  inService : Bool
  logical : Nat
  resv : Option Resv
  cyc : Nat
  cur : List Syl
  divUntil : Nat
  pathUntil : Nat
  redirects : List Redirect
  block : Nat
  done : List Nat
  endedAt : Nat
  plainEnd : Nat
  ecc1 : Bool
  ecc2 : Bool
  residue : Bool
  eccFull : Nat
  deriving DecidableEq, Repr

/-- Physical lane `n` after power-up: registers zero, at end-of-block wait, privileged, in service (R107, R142). -/
def Lane.init (n : Nat) : Lane :=
  { gS := [], gP := [], pS := 0, pP := 0, plain := false, pc := 0, priv := true, running := false, waiting := false,
    inService := true, logical := n, resv := none, cyc := 0, cur := [], divUntil := 0, pathUntil := 0, redirects := [],
    block := 0, done := [], endedAt := 0, plainEnd := 0, ecc1 := false, ecc2 := false, residue := false, eccFull := 0 }

/-- What happens in a lane cycle to an operation in flight. -/
inductive LaneAct where
  /-- a general register of a bank is written -/
  | gpr (plain : Bool) (rd : Nat) (v : Word)
  /-- a predicate of a bank is written -/
  | pred (plain : Bool) (pd : Nat) (v : Bool)
  /-- the slot of a shared-memory load: bytes, sign extension (R86, R88) -/
  | shLoad (plain : Bool) (rd addr size : Nat) (signed : Bool)
  /-- the slot of a load of MRAM, whose data come at s + 48 (R117) -/
  | mramLoad (plain : Bool) (rd addr size : Nat) (signed : Bool)
  /-- the slot of a LR (R122) -/
  | lr (plain : Bool) (rd addr : Nat)
  /-- the slot of a TAS (R121) -/
  | tas (plain : Bool) (rd addr : Nat)
  /-- the slot of a SC (R122) -/
  | sc (plain : Bool) (pd addr : Nat) (v : Word)
  /-- a shared store lands (R82, R88) -/
  | land (addr size : Nat) (v : Word)
  /-- the slot of a register read (R82) -/
  | regRead (plain : Bool) (rd off : Nat) (priv signed : Bool)
  /-- a local store is written (R82) -/
  | dstore (addr size : Nat) (v : Word)
  /-- bytes that port B writes (R496) -/
  | portB (addr : Nat) (bytes : List Byte)
  /-- a register write takes effect (R82) -/
  | regWrite (plain priv : Bool) (off : Nat) (v : Word32)
  /-- a residue mismatch is found (R138) -/
  | resFault
  deriving DecidableEq, Repr

/-- An operation in flight: the lane cycle at which it acts, its order within the cycle, the cycle of issue, the lane. -/
structure LaneEv where
  due : Nat
  prio : Nat
  issue : Nat
  lane : Nat
  act : LaneAct
  deriving DecidableEq, Repr

/-- A plan image held in plan memory (R53). -/
structure Plan where
  img : List (Nat × Byte)
  len : Nat
  valid : Bool
  deriving DecidableEq, Repr

/-- The tick sequencer's hidden state: the col base (R42), the cycles per count (R78) and the lane cycle at which the tick
began, the coming first col with its number, count and alignment (R62), the variant in force, a lane loss whose switch is
due (R64), lanes that have overrun in this tick and the blocks
withheld from them, by logical lane and block (R50), words staged in this tick by each lane with what stood before (R63),
the lane that last staged each word plus 1 (0: none since the plan started or the lane was lost), whether the cutoff of the
coming col has passed, the dies whose frozen set has arrived (R43), ticks each die has missed, the dies that hold their
channels for want of a link (R19), the loader: running, and the level it is to load (R59), and
the offset of the latest pass of the tick (R48). -/
structure Seq where
  baseN : Nat
  baseC : Nat
  period : Nat
  k : Nat
  tickCyc : Nat
  firstCol : Option (Nat × Nat × Bool)
  narrows : Bool
  lossAt : Option Nat
  overrun : List Nat
  withheld : List (Nat × Nat)
  staged : List (Nat × Nat × Word32)
  owner : List (Nat × Nat)
  cutDone : Bool
  dieReady : List Nat
  dieMiss : List (Nat × Nat)
  linkHeld : List Nat
  loading : Bool
  loadLevel : Nat
  passOff : Nat
  deriving DecidableEq, Repr

/-- The sequencer with no plan. -/
def Seq.init : Seq :=
  { baseN := 0, baseC := 0, period := 0, k := 4, tickCyc := 0, firstCol := none, narrows := false, lossAt := none,
    overrun := [], withheld := [], staged := [], owner := [], cutDone := false, dieReady := [], dieMiss := [], linkHeld := [],
    loading := false, loadLevel := 0, passOff := 0 }

/-- No plan image. -/
def Plan.empty : Plan := { img := [], len := 0, valid := false }

/-- A load switch channel (R144 to R176). `window` is the moving average of IMEAS, filled under the filter depth `filt` from the
fall-back path where `srcFb` (R157). -/
structure LswCh where
  win : Bool
  prot : Bool
  offAt : Nat
  onTime : Nat
  onSince : Nat
  clampHold : Bool
  forceClamp : Bool
  reload : Nat
  holdFrom : Option Nat
  expired : Bool
  window : List Nat
  filt : Nat
  srcFb : Bool
  fwBusy : Bool
  deriving DecidableEq, Repr

/-- A load switch channel at power-up. -/
def LswCh.init : LswCh :=
  { win := false, prot := false, offAt := 0, onTime := 0, onSince := 0, clampHold := false, forceClamp := false,
    reload := 0, holdFrom := none, expired := false, window := [], filt := 0, srcFb := false, fwBusy := false }

/-- A half-bridge, and in an even member the bridge and its ripple engine (R208 to R224). -/
structure HbCh where
  brakeFrom : Nat
  pend : Nat
  out : Bool
  fwd : Bool
  lastRip : Option Nat
  moving : Bool
  coastFrom : Option Nat
  deriving DecidableEq, Repr

/-- A half-bridge at power-up. -/
def HbCh.init : HbCh :=
  { brakeFrom := 0, pend := 0, out := false, fwd := true, lastRip := none, moving := false, coastFrom := none }

/-- What a profile context waits for (R240). -/
inductive UcWait where
  | none
  | peak (since : Nat)
  | hold (until' : Nat)
  | rel (threshold : Nat) (until' : Nat)
  | waiti (le : Bool) (threshold until' addr : Nat)
  | waitp (kind until' addr : Nat)
  deriving DecidableEq, Repr

/-- A valve channel's profile context (R235 to R245, R249). `succ` and `next` are the word to issue next and the earliest
step at which it may. -/
structure VdCh where
  start : Nat
  granted : Option Nat
  qProf : Nat
  qD : Nat
  target : Nat
  hyst : Nat
  rampFrom : Nat
  rampLen : Nat
  loop : Nat
  succ : Nat
  next : Nat
  ranOut : Bool
  wait : UcWait
  battery : Bool
  relFast : Bool
  out : Bool
  forceHot : Bool
  coilSeen : Option (Nat × Nat)
  modelAt : Option Nat
  deriving DecidableEq, Repr

/-- A valve channel at power-up. -/
def VdCh.init : VdCh :=
  { start := 0, granted := none, qProf := 0, qD := 0, target := 0, hyst := 5, rampFrom := 0, rampLen := 0,
    loop := 0, succ := 0, next := 0, ranOut := false, wait := .none, battery := false, relFast := false, out := false, forceHot := false,
    coilSeen := none, modelAt := none }

/-- A valve bank (R238, R243, R252): the token's queue, the holding latch of the store, words whose parity is wrong, words
to rewrite after a parity fault, the thermal latch of the bank switch, its gate fault. -/
structure VBank where
  queue : List Nat
  low : Nat × Word32
  bad : List Nat
  todo : List Nat
  latch : Bool
  out : Bool
  deriving DecidableEq, Repr

/-- A valve bank at power-up. -/
def VBank.init : VBank := { queue := [], low := (512, 0), bad := [], todo := [], latch := false, out := false }

/-- An LED sink (R263 to R273): on-window, model rise in 2^−38 K, first conversion done, VF and headroom in mV. -/
structure Sink where
  win : Bool
  rise : Int
  first : Bool
  vf : Option Nat
  hr : Nat
  holdFrom : Option Nat
  expired : Bool
  out : Bool
  modelAt : Option Nat
  modSeen : Option Nat
  deriving DecidableEq, Repr

/-- A sink at power-up. -/
def Sink.init : Sink :=
  { win := false, rise := 0, first := false, vf := none, hr := 0, holdFrom := none, expired := false, out := false,
    modelAt := none, modSeen := none }

/-- A lighting stage (R272 to R276): its setpoint and output in mV. -/
structure Stage where
  setp : Nat
  target : Nat
  out : Bool
  deriving DecidableEq, Repr

/-- A stage at power-up. -/
def Stage.init : Stage := { setp := 0, target := 0, out := false }

/-- The matrix scanner (R278 to R282): start of the frame or line that runs, the last two frame starts, the pixel buffer
it uses, its hold-over, and the lines tripped and columns open in this frame. -/
structure Matrix where
  start : Nat
  starts : List Nat
  buf : List (Nat × Word32)
  holdFrom : Option Nat
  expired : Bool
  lineOff : List Nat
  seenCols : List Nat
  deriving DecidableEq, Repr

/-- The matrix at power-up. -/
def Matrix.init : Matrix :=
  { start := 0, starts := [], buf := [], holdFrom := none, expired := false, lineOff := [], seenCols := [] }

/-- A segment of the harness model (R185). Contributors are pairs of source code and share. -/
structure Segment where
  g20 : Nat
  tau : Nat
  tmax : Int
  ambz : Nat
  alu : Bool
  contrib : List (Nat × Nat)
  deriving DecidableEq, Repr

/-- A channel entry of the harness model (R185). -/
structure ChEntry where
  steady : Nat
  inrush : Nat
  tInrush : Nat
  iMin : Nat
  induct : Nat
  efw : Nat
  prio : Nat
  deriving DecidableEq, Repr

/-- The harness model in force (R181 to R186). -/
structure Model where
  id : Nat
  segs : List Segment
  chans : List ChEntry
  deriving DecidableEq, Repr

/-- The default model (R186). -/
def Model.default : Model := { id := 0, segs := [], chans := [] }

/-- The reservation of a ledger channel (R182, R193, R196), in 10 mA: steady and inrush values, whether the inrush
window is open, its end once the channel has switched on, and whether the grant is of this tick. -/
structure LedgerCh where
  steady : Nat
  inrush : Nat
  tInr : Nat
  fresh : Bool
  until' : Option Nat
  deriving DecidableEq, Repr

/-- A ledger channel with no reservation. -/
def LedgerCh.init : LedgerCh := { steady := 0, inrush := 0, tInr := 0, fresh := false, until' := none }

/-- The ledger engine's hidden state (R190, R193, R199, R203): overload accounts in mA² counts, requests that wait for
the update, the admission answers on their way with the count at which they can be read, the stamp of the retained state, the armed segment trip. -/
structure Ledger where
  acc0 : Nat
  acc1 : Nat
  waiting : List (Nat × Nat × Nat)
  answers : List (Nat × Nat × Word32)
  updated : Bool
  stamp : Option (Nat × Nat)
  trip : Bool
  pksIn : Nat
  mxIn : Nat
  deriving DecidableEq, Repr

/-- The ledger engine at power-up. -/
def Ledger.init : Ledger :=
  { acc0 := 0, acc1 := 0, waiting := [], answers := [], updated := false, stamp := none, trip := false,
    pksIn := 0, mxIn := 0 }

/-- Calibration of a load switch channel (R160): mirror gain and offset, fall-back gain and offset. -/
structure LswCal where
  mirGain : Nat
  mirOfs : Int
  fbGain : Nat
  fbOfs : Int
  deriving DecidableEq, Repr

/-- Nominal calibration: gain 1.0, offset 0 (R160). -/
def LswCal.nominal : LswCal := { mirGain := 0x8000, mirOfs := 0, fbGain := 0x8000, fbOfs := 0 }

/-- Calibration of a sink that the Z96 uses (R266, R267). -/
structure SinkCal where
  gain : Nat
  tc : Int
  vfNom : Nat
  deriving DecidableEq, Repr

/-- Nominal sink calibration (R267). -/
def SinkCal.nominal : SinkCal := { gain := 0x8000, tc := 0, vfNom := 0 }

/-- A pending flag of the collector: SOURCE, UNIT and class (R461). -/
structure FaultFlag where
  src : Nat
  unit : Nat
  cls : Nat
  deriving DecidableEq, Repr

/-- A raise: what the collector is told (R457). -/
structure Raise where
  src : Nat
  unit : Nat
  cls : Nat
  detail : BitVec 48
  count : Nat
  forced : Bool
  deriving DecidableEq, Repr

/-- A trouble log record (R471). -/
structure LogRec where
  recNo : Nat
  src : Nat
  unit : Nat
  count : Nat
  col : Nat
  cls : Nat
  own : Nat
  forced : Bool
  escalated : Bool
  deferred : Bool
  held : Bool
  detail : BitVec 48
  deriving DecidableEq, Repr

/-- A compare channel: the count of its last firing, and whether it is catching up (R296). -/
structure CmpCh where
  last : Option Nat
  behind : Bool
  deriving DecidableEq, Repr

def CmpCh.init : CmpCh := { last := none, behind := false }

/-- A capture unit: full counts of the last rising edge (R300, R301). -/
structure CapCh where
  rise : Option Nat
  deriving DecidableEq, Repr

def CapCh.init : CapCh := { rise := none }

/-- The latch of a lane's bank (R292): the first word's offset of the tagged group, and copies of its other words. -/
structure Latch where
  group : Option Nat
  words : List (Nat × Word32)
  deriving DecidableEq, Repr

def Latch.init : Latch := { group := none, words := [] }

/-- Timers and inputs (R288 to R306): latches and holding registers by 2 × lane + bank; compare channels, counters' last
steps, capture units; the time-base word of the side areas; cleaning pulses and valley polls of switch inputs; ends of
pulsed groups by die; conversions on their way by input, with their counts, and ends of scans by die; the wake alarm. -/
structure Timers where
  latches : List (Nat × Latch)
  holding : List (Nat × Word32)
  cmp : List (Nat × CmpCh)
  udc : List (Nat × Nat)
  cap : List (Nat × CapCh)
  timeWord : Option Nat
  clean : List (Nat × Nat)
  polled : List Nat
  siUntil : List (Nat × Nat)
  conv : List (Nat × Nat)
  aiUntil : List (Nat × Nat)
  alarm : Option (Nat × Nat)
  deriving DecidableEq, Repr

def Timers.init : Timers :=
  { latches := [], holding := [], cmp := [], udc := [], cap := [], timeWord := none, clean := [], polled := [],
    siUntil := [], conv := [], aiUntil := [], alarm := none }

/-- How far a descent has come (R376 to R379): none, waiting for the lanes after the watershed, no more passes since count
A, parked at P, in the valley. -/
inductive Descent where
  | none | waiting | stopped | parked | valley
  deriving DecidableEq, Repr

/-- The power controller (R369 to R390): the descent and its target valley, the watershed's count, A, P and the count of
entry, with the slow base there; when an exit is due; the Z96's own drive of WAKE and the end of the time it ignores the
line; a stuck line; starts of the no-traffic and maximum-awake timers; the latest lane supply transition; the T1 ports whose
TC10 handshake runs, and those asleep. -/
structure Power where
  descent : Descent
  target : Nat
  wsAt : Nat
  stopAt : Nat
  parkAt : Nat
  entryAt : Nat
  entrySlow : Nat
  exitAt : Option Nat
  drive : Bool
  ignoreTo : Nat
  stuck : Bool
  ntFrom : Option Nat
  maFrom : Option Nat
  supFrom : Nat
  supTo : Nat
  tc10 : List Nat
  asleep : List Nat
  left : Nat
  deriving DecidableEq, Repr

def Power.init : Power :=
  { descent := .none, target := 0, wsAt := 0, stopAt := 0, parkAt := 0, entryAt := 0, entrySlow := 0, exitAt := none,
    drive := false, ignoreTo := 0, stuck := false, ntFrom := none, maFrom := none, supFrom := 0, supTo := 0, tc10 := [],
    asleep := [], left := 0 }

/-- The power domains that are on (R29, R482), and the dies whose outputs wait for a commit strobe. -/
structure Domains where
  keep : Bool
  logic : Bool
  net : Bool
  pwr : BitVec 4
  wait : BitVec 4
  uv : BitVec 4
  deriving DecidableEq, Repr

end Sys2Proof.Machine
end

