-- ==== Sys2Proof/Machine/Stores.lean ====
section
/-!
DEFINITION. The state of the journal, the dictionary and networks, vehicle access, the key store and the update engine that
no register shows.
-/
namespace Sys2Proof.Machine

/-! ### The command journal (R351 to R364) -/

/-- A command entry (R352). -/
structure JEntry where
  op : Nat
  port : Nat
  client : Nat
  seq : Nat
  accept : Nat
  cseq : Nat
  index : Nat
  sub : Nat
  vtype : Nat
  role : Nat
  value : List Byte
  deriving DecidableEq, Repr

/-- An outcome record, and whether a start has made it void (R363). -/
structure JOutcome where
  outcome : Nat
  reason : Nat
  bind : Nat
  seq : Nat
  col : Nat
  when' : Nat
  grant : Nat
  client : Nat
  data : List Byte
  void : Bool
  deriving DecidableEq, Repr

/-- A start marker (R352). -/
structure JStart where
  kind : Nat
  replay : Nat
  nextSeq : Nat
  start : Nat
  voided : Nat
  expired : Nat
  deriving DecidableEq, Repr

/-- A record of the ring. -/
inductive JRec where
  | entry (e : JEntry)
  | outcome (o : JOutcome)
  | start (m : JStart)
  | pad (units : Nat)
  deriving DecidableEq, Repr

/-- An outcome post on its way to the journal (R358), or a settlement of the sequencer (R359, `own`). -/
structure JPost where
  seq : Nat
  outcome : Nat
  reason : Nat
  bind : Nat
  grant : Nat
  col : Nat
  data : List Byte
  own : Bool
  deriving DecidableEq, Repr

/-- The journal: records of the head in ring order with their places in 64-byte units, how many of them are archived, the
write pointer, records of the archive, the numbers of the control block, each client's H (R355), the windows by
4096 × client + CSEQ mod 4096, posts on their way and those of this tick, the SEQs of the snapshot in force, the first SEQ
not accepted before the latest start, the count of the latest watershed passed, settlements to make again, and writes
that are to fail their verify by bank. -/
structure Journal where
  ring : List (Nat × JRec)
  archived : Nat
  wr : Nat
  archive : List JRec
  nextSeq : Nat
  lastCommit : Nat
  highest : List (Nat × Option Nat)
  window : List (Nat × Nat)
  posts : List JPost
  postedNow : List Nat
  snap : List Nat
  replayBelow : Nat
  watershed : Option Nat
  again : List JPost
  failNext : BitVec 2
  lostFrom : List (Nat × Nat)
  drainN : Nat
  stored : List Nat
  deriving DecidableEq, Repr

/-- The journal of a unit that has accepted nothing (R354). -/
def Journal.init : Journal :=
  { ring := [], archived := 0, wr := 0, archive := [], nextSeq := 1, lastCommit := 0, highest := [], window := [],
    posts := [], postedNow := [], snap := [], replayBelow := 1, watershed := none, again := [], failNext := 0,
    lostFrom := [], drainN := 0, stored := [] }

/-! ### The dictionary and the networks (R310 to R350) -/

/-- A row of the client table (R318). -/
structure ClientRow where
  slot : Nat
  role : Nat
  ports : Nat
  deriving DecidableEq, Repr

/-- The factory table (R319), by client id. -/
def ClientRow.init (c : Nat) : ClientRow :=
  if c = 1 then { slot := 0, role := 3, ports := 3 } else { slot := 0, role := 0, ports := 0 }

/-- An answer (R321): the request's form and echoed fields, its status and body, and its tag. -/
structure Answer where
  form : Nat
  brs : Bool
  client : Nat
  op : Nat
  flags : Nat
  status : Nat
  cseq : Nat
  index : Nat
  sub : Nat
  vtype : Nat
  body : List Byte
  tag : List Byte
  deriving DecidableEq, Repr

/-- What waits in a port's queue (R332). -/
inductive TxItem where
  /-- a frame of a bus transmit entry: entry number, identifier or header, payload -/
  | bus (entry ident : Nat) (flags : Nat) (head payload : List Byte)
  /-- an answer; `plains` for those served in the plains -/
  | answer (plains : Bool) (a : Answer)
  /-- a neighbour advertisement for an address, or an echo reply with its data -/
  | advert (address : Nat) (dst : Nat)
  | echo (dst : Nat) (data : List Byte)
  deriving DecidableEq, Repr

/-- A command that has passed its checks and waits for acceptance (R21, step 5). -/
structure Waiting where
  frame : DictFrame
  key : List Byte
  role : Nat
  vtype : Nat
  value : List Byte
  verified : Nat
  deriving DecidableEq, Repr

/-- A frame routed to a mailbox (R341, R343). -/
structure MbFrame where
  ident : Nat
  data : List Byte
  trunc : Bool
  noresp : Bool
  cksum : Bool
  eof : Nat
  deriving DecidableEq, Repr

/-- A LIN port (R342, R343): the end of the frame that runs, the schedule entry that awaits a response, and responder
entries armed with their payloads, latest first. -/
structure LinPort where
  busyTo : Nat
  run : Option Nat
  armed : List (Nat × List Byte)
  deriving DecidableEq, Repr

def LinPort.init : LinPort := { busyTo := 0, run := none, armed := [] }

/-- Networks: transmit queues by port (0 ETA, 1 ETB, 2 TS, 3 to 10 CAN), the frame each port has sent last, the ends of the
responder's requests, commands that wait for acceptance, reads held for a handover, frames to show in mailboxes at a
col in their order, LIN ports, the last AUTHFAIL raise by port, addresses found duplicate, CAN bit of payloads, the
client table, the zone number and the stored persistent values by 256 × index + subindex with their SEQ. -/
structure Net where
  tx : List (Nat × List TxItem)
  sent : List (Nat × TxItem)
  resp : List Nat
  waiting : List Waiting
  heldReads : List Waiting
  mbNew : List (Nat × MbFrame)
  lin : List (Nat × LinPort)
  authAt : List (Nat × Nat)
  dupAddr : List Nat
  clients : List (Nat × ClientRow)
  zone : Nat
  values : List (Nat × (Nat × List Byte))
  plcaLost : Bool
  deriving DecidableEq, Repr

def Net.init : Net :=
  { tx := [], sent := [], resp := [], waiting := [], heldReads := [], mbNew := [], lin := [], authAt := [],
    dupAddr := [], clients := [], zone := 0, values := [], plcaLost := false }

/-! ### Vehicle access (R395 to R417) -/

/-- A running round (R397, R398): its start S, the fields of its entry, its challenge, the failed attempts and VALID answers
so far. -/
structure Round where
  start : Nat
  txmask : Nat
  rssimask : Nat
  slotb : Nat
  wakeUs : Nat
  rssiUs : Nat
  ilf : Nat
  rcwin : Nat
  zonemask : Nat
  challenge : List Byte
  failed : Nat
  valid : List Nat
  granted : Bool
  lost : List Nat
  deriving DecidableEq, Repr

/-- The access engine: the running round, the counts of failed attempts that stand, the last one, the end of the
immobiliser window, an armed relay force, and the polling of a valley (R416, R417): running, next aerial, next poll, polls
at the present period, its end. -/
structure Access where
  round : Option Round
  fails : List Nat
  lastFail : Option Nat
  immoEnd : Option Nat
  forceRelay : Bool
  polling : Bool
  aerial : Nat
  polls : Nat
  pollEntry : Nat
  listen : Option Nat
  deriving DecidableEq, Repr

def Access.init : Access :=
  { round := none, fails := [], lastFail := none, immoEnd := none, forceRelay := false, polling := false, aerial := 0,
    polls := 0, pollEntry := 0, listen := none }

/-! ### The key store (R418 to R427) -/

/-- A key operation that runs (R424). -/
structure KeyOp where
  op : Nat
  slot : Nat
  src : Nat
  cls : Nat
  attr : Nat
  deriving DecidableEq, Repr

/-- Key material by slot, the first-boot root with its seal, the operation and the crypto request that run, and records to
fail at the next check. -/
structure Keys where
  mat : List (Nat × List Byte)
  fb : Option (List Byte)
  op : Option KeyOp
  crq : Option (Nat × Nat)
  failNext : List Nat
  lastSlot : Nat
  deriving DecidableEq, Repr

def Keys.init : Keys := { mat := [], fb := none, op := none, crq := none, failNext := [], lastSlot := 0 }

/-! ### Firmware and configuration update (R431 to R453) -/

/-- The selector record and the anti-rollback value (R432). -/
structure Selector where
  seq : Nat
  slot : Nat
  half : Nat
  prevOk : Bool
  pending : Bool
  pendSlot : Bool
  pendHalf : Bool
  pendCol : Nat
  arb : Nat
  deriving DecidableEq, Repr

/-- The update engine: image slots and calibration halves (slot k from k × 128 MiB, half h from h × 32 MiB), the selector,
the chunk FIFO, whether VERIFY waits for it to empty, armed forces, the recovery request, whether an activation is by
staged reset, and the SBS port: the response to the last request, when it can be read, and a reset that follows it. -/
structure Update where
  slots : List (Nat × Byte)
  halves : List (Nat × Byte)
  sel : Selector
  fifo : List (Nat × List Byte)
  verifying : Bool
  hasCal : Bool
  viaReset : Bool
  failSel : Bool
  failDigest : Bool
  failStore : Bool
  recoverReq : Bool
  sbs : Option (Nat × List Byte)
  sbsReady : Nat
  sbsAfter : Nat
  deriving DecidableEq, Repr

def Update.init : Update :=
  { slots := [], halves := [],
    sel := { seq := 0, slot := 0, half := 0, prevOk := false, pending := false, pendSlot := false, pendHalf := false,
             pendCol := 0, arb := 0 },
    fifo := [], verifying := false, hasCal := false, viaReset := false, failSel := false, failDigest := false,
    failStore := false, recoverReq := false, sbs := none, sbsReady := 0, sbsAfter := 0 }

end Sys2Proof.Machine
end

