-- ==== Sys2Proof/Machine/State.lean ====
section
/-!
DEFINITION. The state of the Z96, why a step can stop, and the machine as it stands when its domains have come on.
-/
namespace Sys2Proof.Machine

/-- Reasons a step ends in a fault. The spec names no condition that stops the whole block: every error it describes is
recorded in state. -/
inductive Fault where
  /-- Raised by no command: the spec gives the Z96 a recorded reaction to every error it describes. Safe. -/
  | none
  deriving DecidableEq, Repr

/-- Reasons a command is refused. -/
inductive Refusal where
  /-- Raised by an arm of `exec` whose command has no meaning yet. Safe: the run stops. -/
  | notModelled (mnemonic : String)
  deriving DecidableEq, Repr

/-- The state. Registers are held by byte offset in the 4 MiB register window (R5), unlisted ones at their reset value:
`regs` as written, `frz` as frozen at the last stage cutoff (R43), `edge` as frozen for the EDGE passes of the present tick,
`eff` as the power dies and engines act on them. Byte memories are held by address, unlisted bytes reading 0; the four
lanes' local memories lie one after the other. `boot` says which start is due (1 power-up, 2 controller reset, 3 exit from
V2, 4 from V3; 0 none), `tap` is the state of the test access port's controller. -/
structure State where
  pending : List Instr
  now : Nat
  fresh : Nat
  regs : List (Nat × Word32)
  frz : List (Nat × Word32)
  edge : List (Nat × Word32)
  eff : List (Nat × Word32)
  seq : Seq
  plan : Plan
  shadow : Plan
  lanes : List (Nat × Lane)
  laneEv : List LaneEv
  imem : List (Nat × Byte)
  dmem : List (Nat × Byte)
  shared : List (Nat × Byte)
  dmemErr : List (Nat × Nat)
  lsw : List (Nat × LswCh)
  groupAt : List (Nat × Nat)
  scanAt : Option Nat
  hbr : List (Nat × HbCh)
  vd : List (Nat × VdCh)
  vbank : List (Nat × VBank)
  ucode : List (Nat × Word)
  sinks : List (Nat × Sink)
  stages : List (Nat × Stage)
  matrix : Matrix
  model : Model
  ledger : Ledger
  ledgerCh : List (Nat × LedgerCh)
  lswCal : List (Nat × LswCal)
  sinkCal : List (Nat × SinkCal)
  calCopy : List (Nat × Byte)
  dieRef : List (Nat × Int)
  flags : List FaultFlag
  log : List LogRec
  dump : List LogRec
  dumpNext : Option (List LogRec)
  deferred : List (Nat × Raise)
  deferLost : List (Nat × Nat)
  collectorUp : Bool
  terminalLatch : Bool
  raiseQ : List Raise
  zoneExit : Nat
  dom : Domains
  supA : Nat
  supB : Nat
  loadDump : BitVec 2
  storeHot : Bool
  vlaneBad : Bool
  slowRef : Nat
  slowBase : Nat
  timers : Timers
  power : Power
  journal : Journal
  net : Net
  access : Access
  keys : Keys
  update : Update
  parked : Bool
  boot : Nat
  rstnLow : Bool
  tap : Nat
  hwSafe : Bool
  deriving DecidableEq, Repr

/-- The Z96 right after power-up: every domain of the logic and network dies has come on, the supplies stand at 13.5 V, every
register at its reset value, nothing in memory or in the stores, and the start that a power-up needs is due (R10, R29, R482).
[log entry 5 DESIGN CHOICE] -/
def State.reset : State :=
  { pending := [], now := 0, fresh := 0, regs := [], frz := [], edge := [], eff := [], seq := Seq.init, plan := Plan.empty,
    shadow := Plan.empty, lanes := [], laneEv := [], imem := [], dmem := [], shared := [], dmemErr := [], lsw := [],
    groupAt := [], scanAt := none, hbr := [], vd := [], vbank := [], ucode := [], sinks := [], stages := [],
    matrix := Matrix.init, model := Model.default, ledger := Ledger.init, ledgerCh := [], lswCal := [], sinkCal := [],
    calCopy := [], dieRef := [], flags := [], log := [], dump := [], dumpNext := none, deferred := [], deferLost := [],
    collectorUp := false, terminalLatch := false, raiseQ := [], zoneExit := 0,
    dom := { keep := true, logic := true, net := true, pwr := 0, wait := 0, uv := 0 },
    supA := 13500, supB := 13500, loadDump := 0, storeHot := false, vlaneBad := false, slowRef := 0, slowBase := 0,
    timers := Timers.init, power := Power.init, journal := Journal.init, net := Net.init, access := Access.init,
    keys := Keys.init, update := Update.init, parked := false, boot := 1, rstnLow := false, tap := 0, hwSafe := false }

end Sys2Proof.Machine
end

