-- ==== Sys2Proof/Machine/Ops.lean ====
section
/-!
DEFINITION. The named operations over the state: register words and fields, byte memories, the hidden state of units,
time. Every read and write of a register or memory goes through these.
-/
namespace Sys2Proof.Machine

/-- The outcome of a command. -/
abbrev Result := Host.Outcome State Fault Refusal

/-! ### Bits of a register word (R7) -/

/-- Bits `lo + len - 1` down to `lo` of a word, as a number. -/
def getBits (w : Word32) (lo len : Nat) : Nat := w.toNat / 2 ^ lo % 2 ^ len

/-- The word with those bits replaced by the low bits of `v`. -/
def putBits (w : Word32) (lo len v : Nat) : Word32 :=
  BitVec.ofNat 32 (w.toNat / 2 ^ (lo + len) * 2 ^ (lo + len) + v % 2 ^ len * 2 ^ lo + w.toNat % 2 ^ lo)

/-! ### Register words and fields -/

/-- The register word at window offset `o`. -/
def State.word (s : State) (o : Nat) : Word32 := smapGet regReset s.regs o

/-- The state with that register word replaced. -/
def State.setWord (s : State) (o : Nat) (w : Word32) : State := { s with regs := smapSet regReset s.regs o w }

/-- Field `F` of unit `n`. -/
def State.fld (s : State) (F : Field) (n : Nat) : Nat := getBits (s.word (F.off n)) F.lo F.len

/-- The state with field `F` of unit `n` set to the low bits of `v`. -/
def State.setFld (s : State) (F : Field) (n v : Nat) : State :=
  s.setWord (F.off n) (putBits (s.word (F.off n)) F.lo F.len v)

/-- Is a one-bit field 1? -/
def State.bit (s : State) (F : Field) (n : Nat) : Bool := s.fld F n != 0

/-- Set a one-bit field. -/
def State.setBit (s : State) (F : Field) (n : Nat) (b : Bool) : State := s.setFld F n (if b then 1 else 0)

/-- Set several fields of the registers, in order. -/
def State.setFlds (s : State) : List (Field × Nat × Nat) → State
  | [] => s
  | (F, n, v) :: l => (s.setFld F n v).setFlds l

/-- The word that the die or engine acts on: the value that has taken effect (R43, R145). -/
def State.effWord (s : State) (o : Nat) : Word32 := smapGet regReset s.eff o

/-- Field `F` of unit `n` as the die or engine acts on it. -/
def State.effFld (s : State) (F : Field) (n : Nat) : Nat := getBits (s.effWord (F.off n)) F.lo F.len

/-- Is that one-bit field 1? -/
def State.effBit (s : State) (F : Field) (n : Nat) : Bool := s.effFld F n != 0

/-- Replace a word that the die acts on. -/
def State.setEffWord (s : State) (o : Nat) (w : Word32) : State := { s with eff := smapSet regReset s.eff o w }

/-- Set a field that the die acts on. -/
def State.setEff (s : State) (F : Field) (n v : Nat) : State :=
  s.setEffWord (F.off n) (putBits (s.effWord (F.off n)) F.lo F.len v)

/-- The word frozen at the last stage cutoff (R43). -/
def State.frzWord (s : State) (o : Nat) : Word32 := smapGet regReset s.frz o

/-- Add to a field, holding it at its largest value. -/
def State.satAdd (s : State) (F : Field) (n d : Nat) : State :=
  s.setFld F n (min (s.fld F n + d) (2 ^ F.len - 1))

/-- Count one more in a field that wraps. -/
def State.incFld (s : State) (F : Field) (n : Nat) : State := s.setFld F n (s.fld F n + 1)

/-- A 64-bit quantity of two registers, low and high word. -/
def State.pair (s : State) (L H : Field) (n : Nat) : Nat := s.fld L n + 2 ^ 32 * s.fld H n

/-- Set a 64-bit quantity of two registers. -/
def State.setPair (s : State) (L H : Field) (n v : Nat) : State := (s.setFld L n v).setFld H n (v / 2 ^ 32)

/-- A 16-bit field as a signed number. -/
def signed (len v : Nat) : Int := if v < 2 ^ (len - 1) then v else (v : Int) - 2 ^ len

/-- The low `len` bits of a signed number, as a field holds them. -/
def unsigned (len : Nat) (v : Int) : Nat := (v % (2 ^ len : Int)).toNat

/-! ### Time -/

/-- The time base has reached at least count `c`. [log entry 4 DESIGN CHOICE] -/
def State.reach (s : State) (c : Nat) : State := { s with now := max s.now c }

/-- The time base moves on by `d` counts. -/
def State.later (s : State) (d : Nat) : State := { s with now := s.now + d }

/-- The count of the col that opened the current tick. -/
def State.colCount (s : State) : Nat := s.pair Reg.TICK.COL_LO.COUNT Reg.TICK.COL_HI.COUNT 0

/-- The number of that col. -/
def State.colNum (s : State) : Nat := s.pair Reg.TICK.COLNUM_LO.NUMBER Reg.TICK.COLNUM_HI.NUMBER 0

/-- A free value: the next of the values the spec leaves open. [log entry 8 DESIGN CHOICE] -/
def State.free (s : State) : Nat × State := (Config.openValue s.fresh, { s with fresh := s.fresh + 1 })

/-! ### Sequencer states (R51) -/

def seqNoPlan : Nat := 0
def seqLoading : Nat := 1
def seqArmed : Nat := 2
def seqRun : Nat := 3
def seqNarrows : Nat := 4
def seqHandover : Nat := 5
def seqStopped : Nat := 6

/-- The sequencer's state. -/
def State.seqState (s : State) : Nat := s.fld Reg.TICK.STATUS.STATE 0

/-- The sequencer enters a state (R51). -/
def State.enter (s : State) (q : Nat) : State := s.setFld Reg.TICK.STATUS.STATE 0 q

/-- A plan runs: cols open and passes issue. -/
def State.planRuns (s : State) : Bool :=
  s.seqState == seqRun || s.seqState == seqNarrows || s.seqState == seqHandover

/-! ### Byte memories -/

/-- Memory: address and byte pairs in canonical form; unlisted bytes read 0. -/
abbrev Memory := List (Nat × Byte)

/-- The canonical form of a byte memory. -/
def Memory.wf (m : List (Nat × Byte)) : Bool := smapWf (fun _ => (0 : Byte)) m

/-- The byte at an address. [log entry 3 DESIGN CHOICE] -/
def rdByte (m : List (Nat × Byte)) (a : Nat) : Byte := smapGet (fun _ => 0) m a

/-- Write a byte. -/
def wrByte (m : List (Nat × Byte)) (a : Nat) (b : Byte) : List (Nat × Byte) := smapSet (fun _ => 0) m a b

/-- Read `n` bytes from an address, least significant first (R8). -/
def rdLE (m : List (Nat × Byte)) (a : Nat) : Nat → Nat
  | 0 => 0
  | n + 1 => (rdByte m a).toNat + 256 * rdLE m (a + 1) n

/-- Write the low `n` bytes of a value from an address, least significant first (R8). -/
def wrLE (m : List (Nat × Byte)) (a : Nat) (v : Nat) : Nat → List (Nat × Byte)
  | 0 => m
  | n + 1 => wrLE (wrByte m a (BitVec.ofNat 8 v)) (a + 1) (v / 256) n

/-- Read `n` bytes from an address, most significant first, as every record of Etden's own is stored (R8). -/
def rdBE (m : List (Nat × Byte)) (a : Nat) : Nat → Nat
  | 0 => 0
  | n + 1 => 256 * rdBE m a n + (rdByte m (a + n)).toNat

/-- The `n` bytes from an address, in order. -/
def rdBytes (m : List (Nat × Byte)) (a : Nat) : Nat → List Byte
  | 0 => []
  | n + 1 => rdByte m a :: rdBytes m (a + 1) n

/-- Write a list of bytes from an address. -/
def wrBytes (m : List (Nat × Byte)) (a : Nat) : List Byte → List (Nat × Byte)
  | [] => m
  | b :: l => wrBytes (wrByte m a b) (a + 1) l

/-- Set `n` bytes from an address to one value. -/
def fillBytes (m : List (Nat × Byte)) (a : Nat) (b : Byte) : Nat → List (Nat × Byte)
  | 0 => m
  | n + 1 => fillBytes (wrByte m a b) (a + 1) b n

/-- The `n` low bytes of a number, most significant first. -/
def beBytes (v : Nat) : Nat → List Byte
  | 0 => []
  | n + 1 => BitVec.ofNat 8 (v / 256 ^ n) :: beBytes v n

/-- A list of bytes as a number, most significant first. -/
def beNat (l : List Byte) : Nat := l.foldl (fun a b => a * 256 + b.toNat) 0

/-- The part of a byte memory from `a` for `n` bytes, moved to start at address `b`. -/
def moveBytes (m : List (Nat × Byte)) (a n b : Nat) : List (Nat × Byte) :=
  (m.filter fun p => a ≤ p.1 && p.1 < a + n).map fun p => (p.1 - a + b, p.2)

/-- Put the entries of one byte memory into another, in order. -/
def putBytes (m : List (Nat × Byte)) (new : List (Nat × Byte)) : List (Nat × Byte) :=
  new.foldl (fun m p => wrByte m p.1 p.2) m

/-- Set `n` bytes from `a` to 0. -/
def clearBytes (m : List (Nat × Byte)) (a n : Nat) : List (Nat × Byte) := m.filter fun p => p.1 < a || a + n ≤ p.1

/-- Copy `n` bytes from `a` of one memory to `b` of another. -/
def copyBytes (src : List (Nat × Byte)) (a n : Nat) (dst : List (Nat × Byte)) (b : Nat) : List (Nat × Byte) :=
  putBytes (clearBytes dst b n) (moveBytes src a n b)

/-! ### Hidden state of units -/

def State.lane (s : State) (n : Nat) : Lane := smapGet Lane.init s.lanes n
def State.setLane (s : State) (n : Nat) (l : Lane) : State := { s with lanes := smapSet Lane.init s.lanes n l }
def State.lswCh (s : State) (n : Nat) : LswCh := smapGet (fun _ => LswCh.init) s.lsw n
def State.setLsw (s : State) (n : Nat) (c : LswCh) : State := { s with lsw := smapSet (fun _ => LswCh.init) s.lsw n c }
def State.hbCh (s : State) (n : Nat) : HbCh := smapGet (fun _ => HbCh.init) s.hbr n
def State.setHb (s : State) (n : Nat) (c : HbCh) : State := { s with hbr := smapSet (fun _ => HbCh.init) s.hbr n c }
def State.vdCh (s : State) (n : Nat) : VdCh := smapGet (fun _ => VdCh.init) s.vd n
def State.setVd (s : State) (n : Nat) (c : VdCh) : State := { s with vd := smapSet (fun _ => VdCh.init) s.vd n c }
def State.bank (s : State) (b : Nat) : VBank := smapGet (fun _ => VBank.init) s.vbank b
def State.setBank (s : State) (b : Nat) (v : VBank) : State := { s with vbank := smapSet (fun _ => VBank.init) s.vbank b v }
def State.sink (s : State) (n : Nat) : Sink := smapGet (fun _ => Sink.init) s.sinks n
def State.setSink (s : State) (n : Nat) (c : Sink) : State := { s with sinks := smapSet (fun _ => Sink.init) s.sinks n c }
def State.stage (s : State) (n : Nat) : Stage := smapGet (fun _ => Stage.init) s.stages n
def State.setStage (s : State) (n : Nat) (c : Stage) : State := { s with stages := smapSet (fun _ => Stage.init) s.stages n c }
def State.ledger1 (s : State) (c : Nat) : LedgerCh := smapGet (fun _ => LedgerCh.init) s.ledgerCh c
def State.setLedger1 (s : State) (c : Nat) (v : LedgerCh) : State :=
  { s with ledgerCh := smapSet (fun _ => LedgerCh.init) s.ledgerCh c v }

/-- Do something for each of a list of units, in order. -/
def State.each (s : State) (f : State → Nat → State) (l : List Nat) : State := l.foldl f s

/-! ### Where outputs sit (R17, R182, R228, R261) -/

def lswDie (n : Nat) : Nat := n / 24
def hbDie (n : Nat) : Nat := 2 + n / 8
def vdBank (n : Nat) : Nat := n / 6
def vbDie (b : Nat) : Nat := b / 2
def vdDie (n : Nat) : Nat := n / 12
def sinkStage (n : Nat) : Nat := n / 8
def stageDie (s : Nat) : Nat := 2 + s / 2
def sinkDie (n : Nat) : Nat := 2 + n / 16

/-- The domain of a power die is on, and a commit strobe has come since (R482). -/
def State.dieDrives (s : State) (d : Nat) : Bool := s.dom.pwr.getLsbD d && !s.dom.wait.getLsbD d

/-- The safe zone of class F2 is in force (R460). -/
def State.zoneSafe (s : State) : Bool := s.bit Reg.FAULT.STATUS.ZONE_SAFE 0

/-- No output is driven: class F3 (R38, R459), or parked for a valley (R37). -/
def State.allOff (s : State) : Bool := s.hwSafe || s.parked || !s.dom.logic

/-- A list of numbers from 0 up to `n - 1`. -/
def upTo (n : Nat) : List Nat := List.range n

end Sys2Proof.Machine
end

