-- ==== Sys2Proof/Machine/Crypto.lean ====
section
/-!
DEFINITION. The standard functions the Z96 computes: the CRCs of R54 and of the stored records, AES-128, AES-CMAC, AES key
wrap, SHA-256, and the check of an ECDSA signature on P-256. Byte strings are lists, first byte first.
-/
namespace Sys2Proof.Machine

/-! ### Cyclic redundancy checks -/

/-- One bit of a reflected CRC-32 (R54). -/
def crc32Bit (c : BitVec 32) : BitVec 32 := if c.getLsbD 0 then (c >>> 1) ^^^ 0xEDB88320#32 else c >>> 1

/-- A number of bit steps. -/
def crc32Bits : Nat → BitVec 32 → BitVec 32
  | 0, c => c
  | n + 1, c => crc32Bits n (crc32Bit c)

/-- CRC-32 with the polynomial and bit order of the IEEE 802.3 frame check sequence (R54). -/
def crc32 (l : List Byte) : BitVec 32 :=
  ~~~ l.foldl (fun c b => crc32Bits 8 (c ^^^ b.zeroExtend 32)) 0xFFFFFFFF#32

/-- A number of bit steps of a CRC of width 16, most significant bit first. -/
def crc16Bits : Nat → BitVec 16 → BitVec 16
  | 0, c => c
  | n + 1, c => crc16Bits n (if c.getLsbD 15 then (c <<< 1) ^^^ 0x1021#16 else c <<< 1)

/-- CRC-16 with polynomial 0x1021 and initial value 0xFFFF, most significant bit first. -/
def crc16 (l : List Byte) : BitVec 16 :=
  l.foldl (fun c b => crc16Bits 8 (c ^^^ (b.zeroExtend 16 * 256#16))) 0xFFFF#16

/-- A number of bit steps of a CRC of width 8. -/
def crc8Bits : Nat → Byte → Byte
  | 0, c => c
  | n + 1, c => crc8Bits n (if c.getLsbD 7 then (c <<< 1) ^^^ 0x07#8 else c <<< 1)

/-- CRC-8 with polynomial 0x07 and initial value 0. -/
def crc8 (l : List Byte) : BitVec 8 := l.foldl (fun c b => crc8Bits 8 (c ^^^ b)) 0

/-- Byte-wise exclusive or. -/
def xorBytes (a b : List Byte) : List Byte := List.zipWith (· ^^^ ·) a b

/-- `n` bytes of zero. -/
def zeroBytes (n : Nat) : List Byte := List.replicate n 0

/-- The byte of a list at a place, 0 past its end. -/
def byteAt (l : List Byte) (i : Nat) : Byte := l.getD i 0

/-- `n` bytes of a list from a place, with zeros past its end. -/
def sliceBytes (l : List Byte) (i n : Nat) : List Byte :=
  let p := (l.drop i).take n
  p ++ zeroBytes (n - p.length)

/-- The big-endian number in `n` bytes of a list from a place. -/
def beAt (l : List Byte) (i n : Nat) : Nat := beNat (sliceBytes l i n)

/-! ### AES-128 (FIPS 197) -/

/-- Times x in the field of AES. -/
def gfDouble (a : Byte) : Byte := if a.getLsbD 7 then (a <<< 1) ^^^ 0x1B#8 else a <<< 1

/-- A product in the field, over the low `n` bits of the second factor. -/
def gfMulBits : Nat → Byte → Byte → Byte
  | 0, _, _ => 0
  | n + 1, a, b => (if b.getLsbD 0 then a else 0) ^^^ gfMulBits n (gfDouble a) (b >>> 1)

/-- The product in the field. -/
def gfMul (a b : Byte) : Byte := gfMulBits 8 a b

/-- The inverse, 0 for 0: the power 254. -/
def gfInv (a : Byte) : Byte :=
  let a2 := gfMul a a
  let a3 := gfMul a2 a
  let a6 := gfMul a3 a3
  let a12 := gfMul a6 a6
  let a15 := gfMul a12 a3
  let a30 := gfMul a15 a15
  let a60 := gfMul a30 a30
  let a120 := gfMul a60 a60
  let a126 := gfMul a120 a6
  let a127 := gfMul a126 a
  gfMul a127 a127

/-- The S-box. -/
def sBox (a : Byte) : Byte :=
  let b := gfInv a
  b ^^^ b.rotateLeft 1 ^^^ b.rotateLeft 2 ^^^ b.rotateLeft 3 ^^^ b.rotateLeft 4 ^^^ 0x63#8

/-- The inverse S-box. -/
def sBoxInv (a : Byte) : Byte := gfInv (a.rotateLeft 1 ^^^ a.rotateLeft 3 ^^^ a.rotateLeft 6 ^^^ 0x05#8)

/-- The round keys after one: each from the last and a round constant. -/
def aesExpand : Nat → Byte → List Byte → List (List Byte)
  | 0, _, k => [k]
  | n + 1, rc, k =>
    let t := [sBox (byteAt k 13) ^^^ rc, sBox (byteAt k 14), sBox (byteAt k 15), sBox (byteAt k 12)]
    let w0 := xorBytes (k.take 4) t
    let w1 := xorBytes ((k.drop 4).take 4) w0
    let w2 := xorBytes ((k.drop 8).take 4) w1
    let w3 := xorBytes ((k.drop 12).take 4) w2
    k :: aesExpand n (gfDouble rc) (w0 ++ w1 ++ w2 ++ w3)

/-- The eleven round keys. -/
def aesKeys (key : List Byte) : List (List Byte) := aesExpand 10 1 key

/-- Shift the rows of the state, which is held by columns. -/
def aesShift (l : List Byte) : List Byte := (upTo 16).map fun i => byteAt l ((i + 4 * (i % 4)) % 16)

/-- Shift the rows back. -/
def aesShiftInv (l : List Byte) : List Byte := (upTo 16).map fun i => byteAt l ((i + 12 * (i % 4)) % 16)

/-- Mix the columns with the given first row of the circulant matrix. -/
def aesMix (m : List Byte) (l : List Byte) : List Byte :=
  (upTo 16).map fun i =>
    (upTo 4).foldl (fun a j => a ^^^ gfMul (byteAt m ((j + 4 - i % 4) % 4)) (byteAt l (i / 4 * 4 + j))) 0

/-- The rounds of encryption. -/
def aesRounds : List (List Byte) → List Byte → List Byte
  | [], l => l
  | [k], l => xorBytes (aesShift (l.map sBox)) k
  | k :: ks, l => aesRounds ks (xorBytes (aesMix [2, 3, 1, 1] (aesShift (l.map sBox))) k)

/-- AES-128 encryption of 16 bytes. -/
def aesEncrypt (key block : List Byte) : List Byte :=
  match aesKeys key with
  | [] => block
  | k :: ks => aesRounds ks (xorBytes block k)

/-- The rounds of decryption, over the round keys last first. -/
def aesRoundsInv : List (List Byte) → List Byte → List Byte
  | [], l => l
  | [k], l => xorBytes ((aesShiftInv l).map sBoxInv) k
  | k :: ks, l => aesRoundsInv ks (aesMix [14, 11, 13, 9] (xorBytes ((aesShiftInv l).map sBoxInv) k))

/-- AES-128 decryption of 16 bytes. -/
def aesDecrypt (key block : List Byte) : List Byte :=
  match (aesKeys key).reverse with
  | [] => block
  | k :: ks => aesRoundsInv ks (xorBytes block k)

/-! ### AES-CMAC (NIST SP 800-38B) -/

/-- Times x in the field of CMAC. -/
def cmacDouble (l : List Byte) : List Byte :=
  let v := beNat l * 2
  beBytes (if 2 ^ 128 ≤ v then (v - 2 ^ 128) ^^^ 0x87 else v) 16

/-- The chain over whole blocks, with the last block masked. -/
def cmacChain (key k1 k2 : List Byte) : Nat → List Byte → List Byte → List Byte
  | 0, x, _ => x
  | n + 1, x, m =>
    if 16 < m.length then cmacChain key k1 k2 n (aesEncrypt key (xorBytes x (m.take 16))) (m.drop 16)
    else
      let last := if m.length = 16 then xorBytes m k1 else xorBytes (sliceBytes (m ++ [0x80]) 0 16) k2
      aesEncrypt key (xorBytes x last)

/-- The AES-CMAC of a message, 16 bytes. -/
def aesCmac (key msg : List Byte) : List Byte :=
  let k1 := cmacDouble (aesEncrypt key (zeroBytes 16))
  cmacChain key k1 (cmacDouble k1) (msg.length / 16 + 1) (zeroBytes 16) msg

/-! ### AES key wrap (RFC 3394) -/

/-- The initial value of key wrap. -/
def kwIv : List Byte := List.replicate 8 0xA6

/-- One pass over the registers of key wrap. -/
def kwWrapPass (key : List Byte) (n : Nat) : Nat → List Byte → List (List Byte) → List (List Byte) → List Byte × List (List Byte)
  | _, a, [], out => (a, out)
  | t, a, r :: rs, out =>
    let b := aesEncrypt key (a ++ r)
    kwWrapPass key n (t + 1) (xorBytes (b.take 8) (beBytes t 8)) rs (out ++ [b.drop 8])

/-- `j` more passes. -/
def kwWrapLoop (key : List Byte) (n : Nat) : Nat → Nat → List Byte → List (List Byte) → List Byte
  | 0, _, a, rs => a ++ rs.flatten
  | j + 1, t, a, rs =>
    let p := kwWrapPass key n t a rs []
    kwWrapLoop key n j (t + n) p.1 p.2

/-- A byte string in pieces of 8 bytes. -/
def chunks8 : Nat → List Byte → List (List Byte)
  | 0, _ => []
  | n + 1, l => l.take 8 :: chunks8 n (l.drop 8)

/-- AES key wrap of a string of a multiple of 8 bytes. -/
def kwWrap (key p : List Byte) : List Byte :=
  let n := p.length / 8
  kwWrapLoop key n 6 1 kwIv (chunks8 n p)

/-- One pass of unwrapping, over the registers last first. -/
def kwUnwrapPass (key : List Byte) : Nat → List Byte → List (List Byte) → List (List Byte) → List Byte × List (List Byte)
  | _, a, [], out => (a, out)
  | t, a, r :: rs, out =>
    let b := aesDecrypt key (xorBytes a (beBytes t 8) ++ r)
    kwUnwrapPass key (t - 1) (b.take 8) rs (b.drop 8 :: out)

/-- `j` more passes. -/
def kwUnwrapLoop (key : List Byte) (n : Nat) : Nat → Nat → List Byte → List (List Byte) → List Byte × List Byte
  | 0, _, a, rs => (a, rs.flatten)
  | j + 1, t, a, rs =>
    let p := kwUnwrapPass key t a rs.reverse []
    kwUnwrapLoop key n j (t - n) p.1 p.2

/-- AES key unwrap: the string, if its integrity check passes. -/
def kwUnwrap (key c : List Byte) : Option (List Byte) :=
  let n := c.length / 8 - 1
  let r := kwUnwrapLoop key n 6 (6 * n) (c.take 8) (chunks8 n (c.drop 8))
  if r.1 = kwIv then some r.2 else none

/-! ### SHA-256 (FIPS 180-4) -/

def shaK0 : List Nat :=
  [0x428a2f98, 0x71374491, 0xb5c0fbcf, 0xe9b5dba5, 0x3956c25b, 0x59f111f1, 0x923f82a4, 0xab1c5ed5,
   0xd807aa98, 0x12835b01, 0x243185be, 0x550c7dc3, 0x72be5d74, 0x80deb1fe, 0x9bdc06a7, 0xc19bf174,
   0xe49b69c1, 0xefbe4786, 0x0fc19dc6, 0x240ca1cc, 0x2de92c6f, 0x4a7484aa, 0x5cb0a9dc, 0x76f988da,
   0x983e5152, 0xa831c66d, 0xb00327c8, 0xbf597fc7, 0xc6e00bf3, 0xd5a79147, 0x06ca6351, 0x14292967]

def shaK1 : List Nat :=
  [0x27b70a85, 0x2e1b2138, 0x4d2c6dfc, 0x53380d13, 0x650a7354, 0x766a0abb, 0x81c2c92e, 0x92722c85,
   0xa2bfe8a1, 0xa81a664b, 0xc24b8b70, 0xc76c51a3, 0xd192e819, 0xd6990624, 0xf40e3585, 0x106aa070,
   0x19a4c116, 0x1e376c08, 0x2748774c, 0x34b0bcb5, 0x391c0cb3, 0x4ed8aa4a, 0x5b9cca4f, 0x682e6ff3,
   0x748f82ee, 0x78a5636f, 0x84c87814, 0x8cc70208, 0x90befffa, 0xa4506ceb, 0xbef9a3f7, 0xc67178f2]

/-- The round constants. -/
def shaK : List Word32 := (shaK0 ++ shaK1).map (BitVec.ofNat 32)

/-- The initial hash value. -/
def shaInit : List Word32 :=
  [0x6a09e667#32, 0xbb67ae85#32, 0x3c6ef372#32, 0xa54ff53a#32, 0x510e527f#32, 0x9b05688c#32, 0x1f83d9ab#32, 0x5be0cd19#32]

/-- The message schedule, newest word first. -/
def shaSchedule : Nat → List Word32 → List Word32
  | 0, w => w
  | n + 1, w =>
    let g := fun i => w.getD i 0#32
    let s0 := (g 14).rotateRight 7 ^^^ (g 14).rotateRight 18 ^^^ (g 14 >>> 3)
    let s1 := (g 1).rotateRight 17 ^^^ (g 1).rotateRight 19 ^^^ (g 1 >>> 10)
    shaSchedule n ((g 15 + s0 + g 6 + s1) :: w)

/-- One round on the eight working words. -/
def shaRound (v : List Word32) (kw : Word32) : List Word32 :=
  match v with
  | [a, b, c, d, e, f, g, h] =>
    let s1 := e.rotateRight 6 ^^^ e.rotateRight 11 ^^^ e.rotateRight 25
    let ch := (e &&& f) ^^^ (~~~e &&& g)
    let t1 := h + s1 + ch + kw
    let s0 := a.rotateRight 2 ^^^ a.rotateRight 13 ^^^ a.rotateRight 22
    let mj := (a &&& b) ^^^ (a &&& c) ^^^ (b &&& c)
    [t1 + (s0 + mj), a, b, c, d + t1, e, f, g]
  | _ => v

/-- The 16 words of a block. -/
def shaWords (l : List Byte) : List Word32 := (upTo 16).map fun i => BitVec.ofNat 32 (beAt l (4 * i) 4)

/-- One block into the hash. -/
def shaBlock (h : List Word32) (block : List Byte) : List Word32 :=
  let w := (shaSchedule 48 (shaWords block).reverse).reverse
  List.zipWith (· + ·) h ((List.zipWith (· + ·) shaK w).foldl shaRound h)

/-- All blocks. -/
def shaBlocks : Nat → List Word32 → List Byte → List Word32
  | 0, h, _ => h
  | n + 1, h, l => shaBlocks n (shaBlock h (l.take 64)) (l.drop 64)

/-- The SHA-256 of a message, 32 bytes. -/
def sha256 (msg : List Byte) : List Byte :=
  let n := msg.length
  let pad := (119 - n % 64) % 64
  let m := msg ++ [0x80] ++ zeroBytes pad ++ beBytes (8 * n) 8
  (shaBlocks (m.length / 64) shaInit m).flatMap fun w => beBytes w.toNat 4

/-! ### ECDSA on P-256 (FIPS 186) -/

def p256p : Nat := 0xffffffff00000001000000000000000000000000ffffffffffffffffffffffff
def p256n : Nat := 0xffffffff00000000ffffffffffffffffbce6faada7179e84f3b9cac2fc632551
def p256b : Nat := 0x5ac635d8aa3a93e7b3ebbd55769886bc651d06b0cc53b0f63bce3c3e27d2604b
def p256gx : Nat := 0x6b17d1f2e12c4247f8bce6e563a440f277037d812deb33a0f4a13945d898c296
def p256gy : Nat := 0x4fe342e2fe1a7f9b8ee7eb4a7c0f9e162bce33576b315ececbb6406837bf51f5

/-- A power modulo `m`, over the low `n` bits of the exponent. -/
def powMod (m : Nat) : Nat → Nat → Nat → Nat
  | 0, _, _ => 1 % m
  | n + 1, b, e => (if e % 2 = 1 then b * powMod m n (b * b % m) (e / 2) else powMod m n (b * b % m) (e / 2)) % m

/-- The inverse modulo a prime. -/
def invMod (m a : Nat) : Nat := powMod m 256 (a % m) (m - 2)

/-- A point in Jacobian coordinates; z = 0 is the point at infinity. -/
structure EcPoint where
  x : Nat
  y : Nat
  z : Nat
  deriving DecidableEq, Repr

/-- A difference modulo p. -/
def p256sub (a b : Nat) : Nat := (a + p256p - b % p256p) % p256p

/-- Twice a point. -/
def ecDouble (a : EcPoint) : EcPoint :=
  if a.z = 0 ∨ a.y = 0 then { x := 1, y := 1, z := 0 }
  else
    let y2 := a.y * a.y % p256p
    let s := 4 * a.x * y2 % p256p
    let z2 := a.z * a.z % p256p
    let m := 3 * p256sub a.x z2 * (a.x + z2) % p256p
    let x := p256sub (m * m) (2 * s)
    { x := x, y := p256sub (m * p256sub s x) (8 * y2 * y2), z := 2 * a.y * a.z % p256p }

/-- The sum of two points. -/
def ecAdd (a b : EcPoint) : EcPoint :=
  if a.z = 0 then b
  else if b.z = 0 then a
  else
    let za := a.z * a.z % p256p
    let zb := b.z * b.z % p256p
    let ua := a.x * zb % p256p
    let ub := b.x * za % p256p
    let sa := a.y * zb * b.z % p256p
    let sb := b.y * za * a.z % p256p
    if ua = ub then (if sa = sb then ecDouble a else { x := 1, y := 1, z := 0 })
    else
      let h := p256sub ub ua
      let r := p256sub sb sa
      let h2 := h * h % p256p
      let h3 := h * h2 % p256p
      let v := ua * h2 % p256p
      let x := p256sub (r * r) (h3 + 2 * v)
      { x := x, y := p256sub (r * p256sub v x) (sa * h3), z := h * a.z * b.z % p256p }

/-- A multiple of a point, over the low `n` bits of the factor. -/
def ecMul : Nat → Nat → EcPoint → EcPoint
  | 0, _, _ => { x := 1, y := 1, z := 0 }
  | n + 1, k, a => if k % 2 = 1 then ecAdd a (ecMul n (k / 2) (ecDouble a)) else ecMul n (k / 2) (ecDouble a)

/-- Is a pair of coordinates a point of the curve? -/
def ecOnCurve (x y : Nat) : Bool :=
  x < p256p && y < p256p && y * y % p256p == (x * x * x + (p256p - 3) * x + p256b) % p256p

/-- Does the signature (r, s) of a message stand under the public key (x, y)? The message is hashed with SHA-256. -/
def ecdsaVerify (x y : Nat) (msg : List Byte) (r s : Nat) : Bool :=
  if !ecOnCurve x y || r = 0 || p256n ≤ r || s = 0 || p256n ≤ s then false
  else
    let w := invMod p256n s
    let u1 := beNat (sha256 msg) * w % p256n
    let u2 := r * w % p256n
    let g := ecAdd (ecMul 256 u1 { x := p256gx, y := p256gy, z := 1 }) (ecMul 256 u2 { x := x, y := y, z := 1 })
    if g.z = 0 then false
    else
      let zi := invMod p256p g.z
      g.x * (zi * zi) % p256p % p256n == r

end Sys2Proof.Machine
end

