-- ==== Sys2Proof/Machine/Outputs.lean ====
section
/-!
DEFINITION. What each output does now: load switches, bridges, valve channels and their peak token, sinks, stages and the
matrix, from what is committed, what protects and what the ledger allows; the configured safe states (R174, R217, R256,
R282) and the hardware safe state (R38).
-/
namespace Sys2Proof.Machine

/-- Ask the collector for a raise; it is taken when the present change is complete. -/
def State.ask (s : State) (src unit cls : Nat) (forced : Bool) : State :=
  { s with raiseQ := s.raiseQ ++ [{ src := src, unit := unit, cls := cls, detail := 0, count := s.now, forced := forced }] }

/-! ### Units that a raise can hold (R463) -/

/-- An output unit as the HELD table's entries name it. -/
inductive HeldUnit where
  | lsw (n : Nat) | bridge (n : Nat) | vd (n : Nat) | vb (b : Nat) | sink (n : Nat) | stage (g : Nat) | matrix | aerial (a : Nat)
  deriving DecidableEq, Repr

/-- The output that a SOURCE and UNIT concern, if they concern one: the channel, bank, sink, stage or aerial that the
source's table says its records carry; a matrix line or column stands for the matrix (R463). -/
def faultOutput (src unit : Nat) : Option HeldUnit :=
  if unit = 0x3FFF then none
  else match src / 256 with
    | 0x10 => if src = 0x1008 ∨ src = 0x100A then none else some (.lsw unit)
    | 0x13 => some (.bridge unit)
    | 0x14 =>
      if src = 0x1405 ∨ src = 0x1406 ∨ src = 0x140D then some (.vb unit)
      else if src = 0x1407 ∨ src = 0x140B then none else some (.vd unit)
    | 0x16 =>
      if src = 0x1605 ∨ src = 0x1606 ∨ src = 0x160C then some (.stage unit)
      else if src = 0x1607 ∨ src = 0x1608 then some .matrix
      else if src = 0x1609 ∨ src = 0x160A then none else some (.sink unit)
    | 0x28 => if src = 0x2801 then some (.aerial unit) else none
    | _ => none

/-- An output is on hold for an escalated F0 source (R463). -/
def held (s : State) (u : HeldUnit) : Bool :=
  (upTo 16).any fun k => s.bit Reg.FAULT.HELD.VALID k &&
    faultOutput (s.fld Reg.FAULT.HELD.SOURCE k) (s.fld Reg.FAULT.HELD.UNIT k) == some u

/-! ### Load switches -/

/-- A channel's committed GROUP names a pulse group (R147). -/
def lswPulsed (s : State) (n : Nat) : Bool := s.effFld Reg.LSW.CTRL.GROUP n < 12

/-- Z48 pin mode (R150). -/
def lswPin (s : State) (n : Nat) : Bool := s.effFld Reg.LSW.CFG.SRC n == 1

/-- The routed direct input is active, after inversion (R150). -/
def dinActive (s : State) (n : Nat) : Bool :=
  (s.fld Reg.LSW.DINSTAT.LEVEL 0).testBit (s.effFld Reg.LSW.CFG.DIN n) != s.effBit Reg.LSW.CFG.DIN_INV n

/-- The committed command asks for the switch to be on now (R147, R150). -/
def lswCommanded (s : State) (n : Nat) : Bool :=
  s.effBit Reg.LSW.CTRL.EN n &&
    (if lswPin s n then dinActive s n else if lswPulsed s n then (s.lswCh n).win else true)

/-- The command or, in the configured safe state, that state asks for the switch to be on (R174). -/
def lswWanted (s : State) (n : Nat) : Bool :=
  if s.bit Reg.LSW.STAT.SAFE n then
    match s.effFld Reg.LSW.CFG.SAFE n with
    | 1 => true
    | 2 => lswCommanded s n
    | _ => false
  else lswCommanded s n

/-- The channel lacks a verified free-wheel path it needs (R169, R171). -/
def lswNoFreewheel (s : State) (n : Nat) : Bool :=
  !s.bit Reg.LSW.FW.FW_OK n && (s.effBit Reg.LSW.CFG.INDUCTIVE n || (s.lswCh n).clampHold)

/-- The switch is on: wanted and driven, with no protection, lock, missing free-wheel path, undervoltage or zero ledger
limit against it; or the free-wheel test drives it (R161 to R170, R192). [log entry 55 DEDUCED] -/
def lswOn (s : State) (n : Nat) : Bool :=
  s.dieDrives (lswDie n) && !s.allOff && !s.bit Reg.LSW.STAT.UV n &&
    ((s.lswCh n).fwBusy ||
      (lswWanted s n && !s.bit Reg.LSW.STAT.LOCKED n && !s.bit Reg.LSW.STAT.TLATCH n && !lswNoFreewheel s n && !(s.lswCh n).prot &&
        s.fld Reg.LSW.ILIMEFF.EFF n != 0))

/-- A clamp trip at an off edge (R171): EV_FWFAIL set, FW_OK cleared, the channel held off, FLT_LSW_FREEWHEEL asked for. -/
def clampTrip (s : State) (n : Nat) (forced : Bool) : State :=
  let s := (s.setBit Reg.LSW.STAT.EV_FWFAIL n true).setBit Reg.LSW.FW.FW_OK n false
  (s.setLsw n { s.lswCh n with clampHold := true, forceClamp := false }).ask 0x1007 n 1 forced

/-- The switch-on edge of a ledger channel starts the run of its inrush window (R196). -/
def inrushEdge (s : State) (c : Nat) : State :=
  let v := s.ledger1 c
  if s.bit Reg.LEDGER.RESV.INRUSH c && v.until'.isNone then
    s.setLedger1 c { v with until' := some (s.now + v.tInr * 10000) }
  else s

/-- Bring the switch to what it should do now, keeping its on-time (R167) and watching its off edge (R171). -/
def lswApply (s : State) (n : Nat) : State :=
  let s := s.setBit Reg.LSW.STAT.FW_BLOCK n (lswWanted s n && lswNoFreewheel s n)
  let on := lswOn s n
  if on = s.bit Reg.LSW.STAT.ON n then s
  else if on then
    let s := s.setBit Reg.LSW.STAT.ON n true
    inrushEdge (s.setLsw n { s.lswCh n with onSince := s.now }) n
  else
    let s := (s.setBit Reg.LSW.STAT.ON n false).setBit Reg.LSW.STAT.IN_LIMIT n false
    let c := s.lswCh n
    let s := s.setLsw n { c with onTime := c.onTime + (s.now - c.onSince) }
    if c.forceClamp then clampTrip s n true else s

/-- The configured safe state of a load switch (R174, R176). -/
def lswSafe (s : State) (n : Nat) : State := lswApply (s.setBit Reg.LSW.STAT.SAFE n true) n

/-! ### Bridges -/

/-- Half-bridge `n` is a member of a pair (R206). -/
def hbPaired (s : State) (n : Nat) : Bool := (s.effFld Reg.HBR.PAIRCFG.PAIR 0).testBit (n / 2)

/-- The half-bridge whose command and engine serve `n`: the even member of a pair, or itself. -/
def hbMaster (s : State) (n : Nat) : Nat := if hbPaired s n then n / 2 * 2 else n

/-- The halves that the command of master `m` moves. -/
def hbHalves (s : State) (m : Nat) : List Nat := if hbPaired s m then [m, m + 1] else [m]

/-- The committed mode, values not listed taken as 0 (R208). -/
def hbCommitted (s : State) (m : Nat) : Nat :=
  let v := s.effFld Reg.HBR.CTRL.MODE m
  if v ≤ (if hbPaired s m then 4 else 2) then v else 0

/-- Is a mode a drive mode: FWD or REV of a bridge, HIGH of an unpaired half. -/
def hbDrive (paired : Bool) (mode : Nat) : Bool := if paired then mode == 1 || mode == 2 else mode == 1

/-- The brake with the low sides on: BRAKE_LOW of a bridge, LOW of an unpaired half. [log entry 70 DEDUCED] -/
def hbBrake (paired : Bool) : Nat := if paired then 3 else 2

/-- Any half of the bridge satisfies a status bit. -/
def hbAny (s : State) (m : Nat) (F : Field) : Bool := (hbHalves s m).any fun h => s.bit F h

/-- The reservation of the bridge's ledger channel is zero. [log entry 71 DEDUCED] -/
def hbNoGrant (s : State) (m : Nat) : Bool :=
  (hbHalves s m).any fun h => s.fld Reg.LEDGER.RESV.RESV (96 + h) == 0

/-- The mode the bridge applies now (R208, R211 to R217, R219, R224). -/
def hbMode (s : State) (m : Nat) : Nat :=
  let p := hbPaired s m
  let want := if (s.hbCh m).pend != 0 then (s.hbCh m).pend else hbCommitted s m
  if s.allOff || !s.dieDrives (hbDie m) then 0
  else if (hbHalves s m).any (fun h => (s.hbCh h).out) then 0
  else if s.bit Reg.HBR.STAT.PROT_OFF m then 0
  else if s.bit Reg.HBR.STAT.RESETBRAKE m then hbBrake p
  else if s.bit Reg.HBR.STAT.SAFE m then (if s.effBit Reg.HBR.CFG.SAFE m then 0 else hbBrake p)
  else if hbNoGrant s m && (hbDrive p want || s.bit Reg.HBR.STAT.LEDGER_CAP m) then 0
  else if s.bit Reg.HBR.STAT.STOPPED m || s.bit Reg.HBR.STAT.REVERSING m then hbBrake p
  else if hbDrive p want && (s.bit Reg.HBR.STAT.UV m || s.bit Reg.HBR.STAT.OV m) then hbBrake p
  else want

/-- Bring the bridge to its mode; a coast that begins while the motor moves may be extrapolated (R222), and a drive mode
sets the direction in which ripples count (R221). -/
def hbApply (s : State) (m : Nat) : State :=
  let p := hbPaired s m
  let mode := hbMode s m
  let was := s.fld Reg.HBR.STAT.APPLIED m
  let s := s.each (fun s h => (s.setFld Reg.HBR.STAT.APPLIED h mode).setBit Reg.HBR.STAT.DRIVING h (hbDrive p mode)) (hbHalves s m)
  let s := if hbDrive p mode then (hbHalves s m).foldl (fun s h => inrushEdge s (96 + h)) s else s
  let c := s.hbCh m
  let c := if hbDrive p mode then { c with fwd := mode == 1 } else c
  let c := if mode = 0 then (if was = 0 then c else { c with coastFrom := some s.now }) else { c with coastFrom := none }
  let s := if mode = 0 then s else s.setBit Reg.HBR.RIPSTAT.EST m false
  s.setHb m c

/-- The configured safe state of a bridge (R217). -/
def hbSafe (s : State) (n : Nat) : State :=
  let m := hbMaster s n
  hbApply (s.each (fun s h => (s.setBit Reg.HBR.STAT.SAFE h true).setBit Reg.HBR.STAT.REVERSING h false) (hbHalves s m)) m

/-! ### Valve channels (R235 to R245) -/

def vdIdle : Nat := 0
def vdPre : Nat := 1
def vdWaitPeak : Nat := 2
def vdPeak : Nat := 3
def vdHold : Nat := 4
def vdRelease : Nat := 5

/-- The channel's phase. -/
def vdPhase (s : State) (n : Nat) : Nat := s.fld Reg.VALVE.PSTAT.PHASE n

/-- The engine step at or after a count: steps fall at multiples of 100 counts (R236). -/
def stepAt (c : Nat) : Nat := (c + 99) / 100

/-- The channels of a bank (R228). -/
def bankChans (b : Nat) : List Nat := (upTo 6).map (· + 6 * b)

/-- Word `w` of the microcode store of bank `b` (R238). -/
def ucWord (s : State) (b w : Nat) : Nat := (smapGet (fun _ => (0 : Word)) s.ucode (b * 512 + w)).toNat

/-- Fields of a profile descriptor (R239). -/
def descEntry (d : Nat) : Nat := d / 2 ^ 55 % 512
def descRelease (d : Nat) : Nat := d / 2 ^ 46 % 512
def descPkMax (d : Nat) : Nat := if d / 2 ^ 32 % 2 ^ 14 = 0 then 1 else d / 2 ^ 32 % 2 ^ 14
def descRunMax (d : Nat) : Nat := if d / 2 ^ 16 % 2 ^ 16 = 0 then 65535 else d / 2 ^ 16 % 2 ^ 16
/-- Is a descriptor valid (R239)? [log entry 76 DEDUCED] -/
def descValid (d : Nat) : Bool := 16 ≤ descEntry d && 16 ≤ descRelease d

/-- The descriptor of the profile that channel `n` runs. -/
def vdDesc (s : State) (n : Nat) : Nat := ucWord s (vdBank n) (s.fld Reg.VALVE.PSTAT.PROF n)

/-- The holder's peak keeps the rail on PKS unless it has been cut or asked for battery (R232, R244, R245). -/
def bankSource (s : State) (b : Nat) : State :=
  let h := s.fld Reg.VALVE.BANKSTAT.HOLDER b
  s.setBit Reg.VALVE.BANKSTAT.SRC_PKS b (h != 7 && !(s.vdCh (6 * b + h)).battery)

/-- A channel of the bank is not IDLE or has a queued start. -/
def bankActive (s : State) (b : Nat) : Bool :=
  (bankChans b).any fun n => vdPhase s n != vdIdle || s.bit Reg.VALVE.PSTAT.QUEUED n

/-- The bank switch: on while a channel drives, unless a protection, the ledger, undervoltage, a gate fault or a hold
keeps it open (R252, R254, R463). -/
def bankSwitch (s : State) (b : Nat) : State :=
  let act := bankActive s b
  let on := act && s.dieDrives (vbDie b) && !s.allOff && !s.bit Reg.VALVE.BANKSTAT.VB_PROT b && !(s.bank b).out &&
    !s.dom.uv.getLsbD (vbDie b) && s.fld Reg.LEDGER.RESV.RESV (112 + b) != 0
  let s := (s.setBit Reg.VALVE.BANKSTAT.VB_ON b on).setBit Reg.VALVE.BANKSTAT.ACTIVE b act
  if on then inrushEdge s (112 + b) else s

/-- Record a channel's wait for the token, in µs (R243). -/
def recordWait (s : State) (n w : Nat) : State :=
  let w := min w 0xFFFF
  (s.setFld Reg.VALVE.PWAIT.LASTWAIT n w).setFld Reg.VALVE.PWAIT.MAXWAIT n (max w (s.fld Reg.VALVE.PWAIT.MAXWAIT n))

/-- Grant the token to channel `n` in step `x` (R243): phase PEAK, the next instruction in the following step. -/
def tokenGrant (s : State) (n x : Nat) : State :=
  let b := vdBank n
  let c := s.vdCh n
  let since := match c.wait with | .peak y => y | _ => x
  let s := recordWait s n (x - since)
  let s := s.setVd n { c with granted := some x, wait := .none, next := x + 1 }
  let s := (s.setFld Reg.VALVE.BANKSTAT.HOLDER b (n - 6 * b)).setFld Reg.VALVE.PSTAT.PHASE n vdPeak
  bankSource (s.setBit Reg.VALVE.PSTAT.PK_CUT n false) b

/-- The number of waiting channels, as BANKSTAT shows it. -/
def bankWaiters (s : State) (b : Nat) : State := s.setFld Reg.VALVE.BANKSTAT.WAITERS b (s.bank b).queue.length

/-- The token is free: the head of the queue is granted in the same step (R243). -/
def tokenNext (s : State) (b x : Nat) : State :=
  match (s.bank b).queue with
  | [] => bankWaiters (bankSource (s.setFld Reg.VALVE.BANKSTAT.HOLDER b 7) b) b
  | n :: q => bankWaiters (tokenGrant (s.setBank b { s.bank b with queue := q }) n x) b

/-- Channel `n` gives back the token or withdraws its claim in step `x` (R243, R254). -/
def tokenLeave (s : State) (n x : Nat) : State :=
  let b := vdBank n
  let c := s.vdCh n
  if s.fld Reg.VALVE.BANKSTAT.HOLDER b = n - 6 * b then tokenNext s b x
  else if n ∈ (s.bank b).queue then
    let since := match c.wait with | .peak y => y | _ => x
    let s := recordWait s n (x - since)
    bankWaiters (s.setBank b { s.bank b with queue := (s.bank b).queue.filter (· != n) }) b
  else s

/-- The channel's low side and activity, as STAT shows them. [log entry 68 DEDUCED] -/
def vdShow (s : State) (n : Nat) (lowSide : Bool) : State :=
  bankSwitch ((s.setBit Reg.VALVE.STAT.LS_ON n lowSide).setBit Reg.VALVE.STAT.ACTIVE n (vdPhase s n != vdIdle)) (vdBank n)

/-- The regulation target in 2 mA at step `y`: a RAMP moves it linearly to its end at the step `next` (R240).
[log entry 78 DEDUCED] -/
def vdTargetAt (s : State) (n y : Nat) : Nat :=
  let c := s.vdCh n
  if c.rampLen = 0 ∨ c.next ≤ y then c.target
  else
    let done := c.rampLen - (c.next - y)
    ((c.rampFrom : Int) + ((c.target : Int) - c.rampFrom) * done / c.rampLen).toNat

/-- A running profile is sent to its RELEASE address in step `x`; one already in RELEASE goes on where it is, and a fast
release becomes fast (R235, R242, R251, R257). [log entry 79 DEDUCED] -/
def vdToRelease (s : State) (n x : Nat) (fast : Bool) : State :=
  let ph := vdPhase s n
  if ph = vdIdle then s
  else if ph = vdRelease then (if fast then s.setVd n { s.vdCh n with relFast := true } else s)
  else
    let s := tokenLeave s n x
    let rel := descRelease (vdDesc s n)
    let s := s.setVd n { s.vdCh n with
      wait := .none, succ := rel, next := x, relFast := fast, target := vdTargetAt s n x, rampLen := 0 }
    let s := (s.setFld Reg.VALVE.PSTAT.PHASE n vdRelease).setFld Reg.VALVE.PSTAT.PC n rel
    vdShow s n false

/-- A queued start is dropped, with EV_DROP (R252, R254, R256). -/
def vdDrop (s : State) (n : Nat) : State :=
  if s.bit Reg.VALVE.PSTAT.QUEUED n then
    (s.setBit Reg.VALVE.PSTAT.QUEUED n false).setBit Reg.VALVE.STAT.EV_DROP n true
  else s

/-- The channel goes to IDLE with its low side off. -/
def vdStop (s : State) (n x : Nat) : State :=
  let s := tokenLeave s n x
  let s := s.setVd n { s.vdCh n with wait := .none, granted := none, relFast := false }
  vdShow (s.setFld Reg.VALVE.PSTAT.PHASE n vdIdle) n false

/-- "Profile ends" (R252): the low side opens with fast decay, IDLE, a queued start dropped, PROT_OFF. -/
def vdEnd (s : State) (n : Nat) : State :=
  (vdDrop (vdStop s n (stepAt s.now)) n).setBit Reg.VALVE.PSTAT.PROT_OFF n true

/-- The configured safe state of a valve channel (R256). -/
def vdSafe (s : State) (n : Nat) : State :=
  if s.effBit Reg.VALVE.CFG.SAFE n then s
  else let s := vdToRelease s n (stepAt s.now) true
    let s := s.setBit Reg.VALVE.PSTAT.QUEUED n false
    bankSwitch s (vdBank n)

/-! ### Sinks, stages, matrix -/

/-- The code a sink is asked for: committed, or the safe code in a lit safe state (R263, R282). -/
def sinkAsked (s : State) (n : Nat) : Nat :=
  let committed := min (s.effFld Reg.LIGHT.SINKCTRL.CODE n) 4000
  let c := if s.effFld Reg.LIGHT.SINKDIM.DUTY n = 0 then 0 else committed
  if s.bit Reg.LIGHT.SINKSTAT.SAFE n then
    match s.effFld Reg.LIGHT.SINKCFG.SAFE n with
    | 1 => min (s.effFld Reg.LIGHT.SINKSAFE.SAFECODE n) 4000
    | 2 => c
    | _ => 0
  else c

/-- The scale of the sink's terrace in 1/256 (R271). -/
def terraceScale (s : State) (n : Nat) : Nat :=
  let g := sinkStage n
  let t := s.fld Reg.LIGHT.LEDTH.TERRACE n
  if t = 0 then 256
  else max (s.effFld Reg.LIGHT.TERRACE.FLOOR g) (256 - t * s.effFld Reg.LIGHT.TERRACE.DSTEP g)

/-- Calibration of a sink (R266). -/
def sinkCalOf (s : State) (n : Nat) : SinkCal := smapGet (fun _ => SinkCal.nominal) s.sinkCal n

/-- The effective code of R265, exact until its one rounding down. -/
def sinkCode (s : State) (n : Nat) : Nat :=
  let cal := sinkCalOf s n
  let theta := signed 16 (s.fld Reg.LIGHT.LEDTH.THETA n)
  let num : Int := (sinkAsked s n : Int) * cal.gain * (2 ^ 26 + cal.tc * (theta - 1600)) * terraceScale s n
  let den : Int := 32768 * 2 ^ 26 * 256 * (if (s.sink n).first then 1 else 2)
  if s.bit Reg.LIGHT.SINKSTAT.HOT_OFF n then 0 else min (num / den).toNat 4000

/-- A sink is dimmed by its stage's counter: DUTY below 1,024, and not in a static safe state (R264). -/
def sinkDimmed (s : State) (n : Nat) : Bool :=
  s.effFld Reg.LIGHT.SINKDIM.DUTY n < 1024 &&
    !(s.bit Reg.LIGHT.SINKSTAT.SAFE n && s.effFld Reg.LIGHT.SINKCFG.SAFE n == 1)

/-- The input current limit the ledger leaves the stage is zero (R281). -/
def stageNoGrant (s : State) (g : Nat) : Bool := s.fld Reg.LEDGER.RESV.RESV (116 + g) == 0

/-- The stage switches: committed on, driven, not switched off by a protection, the ledger, undervoltage, a gate fault
or a load dump (R274, R275, R281, R480). -/
def stageOn (s : State) (g : Nat) : Bool :=
  s.effBit Reg.LIGHT.STAGECTRL.EN g && s.dieDrives (stageDie g) && !s.allOff && !s.bit Reg.LIGHT.STAGESTAT.PROT_OFF g &&
    !s.bit Reg.LIGHT.STAGESTAT.UV g && !(s.stage g).out && !stageNoGrant s g && !s.loadDump.getLsbD 1

/-- Bring a sink to what it should do now, and show its effective code (R265). -/
def sinkApply (s : State) (n : Nat) : State :=
  let code := sinkCode s n
  let on := code != 0 && s.bit Reg.LIGHT.STAGESTAT.RUN (sinkStage n) && !s.bit Reg.LIGHT.SINKSTAT.PROT_OFF n &&
    (!sinkDimmed s n || (s.sink n).win)
  ((s.setFld Reg.LIGHT.SINKMEAS.IEFF n code).setBit Reg.LIGHT.SINKSTAT.TCAP n (!(s.sink n).first)).setBit
    Reg.LIGHT.SINKSTAT.ON n on

/-- The sinks of a stage (R261). -/
def stageSinks (g : Nat) : List Nat := (upTo 8).map (· + 8 * g)

/-- Bring a stage to what it should do now: a stage that starts soft-starts from 0 V (R274); one that stops loses its
output, and VF values when it was committed off or its domain went off (R273). -/
def stageApply (s : State) (g : Nat) : State :=
  let on := stageOn s g
  let was := s.bit Reg.LIGHT.STAGESTAT.RUN g
  let s := s.setBit Reg.LIGHT.STAGESTAT.RUN g on
  let s :=
    if on then (if was then s else
        inrushEdge (s.each (fun s n => s.setBit Reg.LIGHT.SINKMEAS.VALID n false) (stageSinks g)) (116 + g))
    else
      let s := (s.setBit Reg.LIGHT.STAGESTAT.READY g false).setStage g { s.stage g with setp := 0 }
      if s.effBit Reg.LIGHT.STAGECTRL.EN g && s.dom.pwr.getLsbD (stageDie g) then s
      else s.each (fun s n => (s.setSink n { s.sink n with vf := none }).setBit Reg.LIGHT.SINKMEAS.VALID n false) (stageSinks g)
  s.each sinkApply (stageSinks g)

/-- The configured safe state of a sink (R282, R283). -/
def sinkSafe (s : State) (n : Nat) : State := sinkApply (s.setBit Reg.LIGHT.SINKSTAT.SAFE n true) n

/-- The matrix is dark: no frame or line runs (R278). -/
def matrixDark (s : State) : State :=
  s.setFlds [(Reg.LIGHT.MXSTAT.FRAME_BUSY, 0, 0), (Reg.LIGHT.MXSTAT.LINE_BUSY, 0, 0), (Reg.LIGHT.MXSTAT.LINE, 0, 0)]

/-- The matrix rail is on (R279, R280, R281, R283). -/
def matrixRail (s : State) : Bool :=
  s.effBit Reg.LIGHT.MXCTRL.EN 0 && s.dieDrives 2 && !s.allOff && !s.bit Reg.LIGHT.MXSTAT.PROT_OFF 0 &&
    !stageNoGrant s 1 && !(s.bit Reg.LIGHT.MXSTAT.SAFE 0 && !s.effBit Reg.LIGHT.MXRAIL.SAFE 0)

/-- Bring the matrix rail to what it should do now; without its rail the matrix is dark. -/
def matrixApply (s : State) : State :=
  let on := matrixRail s
  let s := s.setBit Reg.LIGHT.MXSTAT.RAIL_OK 0 on
  if on then s else matrixDark s

/-- The configured safe state of the matrix (R282). -/
def matrixSafe (s : State) : State := matrixApply (s.setBit Reg.LIGHT.MXSTAT.SAFE 0 true)

/-! ### Everything at once -/

/-- Show a change of the conditions that hold for every output: bring each to what it should do now. -/
def applyAll (s : State) : State :=
  let s := s.each lswApply (upTo 96)
  let s := s.each hbApply ((upTo 16).filter fun n => hbMaster s n == n)
  let s := s.each (fun s b => bankSwitch s b) (upTo 4)
  matrixApply (s.each stageApply (upTo 4))

/-- Every output takes its configured safe state: the safe-zone reaction (R459). -/
def safeAll (s : State) : State :=
  let s := s.each lswSafe (upTo 96)
  let s := s.each hbSafe (upTo 16)
  let s := s.each vdSafe (upTo 24)
  matrixSafe (s.each sinkSafe (upTo 32))

/-- PKS is discharged by its bleed and cannot be ready (R231). -/
def pksBleed (s : State) : State :=
  (s.setBit Reg.VALVE.PKSSTAT.BLEED 0 true).setBit Reg.VALVE.PKSSTAT.READY 0 false

/-- Every output off and PKS discharged: the hardware safe state (R38), or parked (R37). -/
def outputsOff (s : State) : State :=
  let s := s.each (fun s n => vdStop (s.setBit Reg.VALVE.PSTAT.QUEUED n false) n (stepAt s.now)) (upTo 24)
  applyAll (pksBleed s)

end Sys2Proof.Machine
end

