-- ==== Sys2Proof/Machine/Abort.lean ====
section
/-!
DEFINITION. What a fault reaction stops besides the outputs: a running access round (R400, R459) and, for class F3, an armed
sleep (R375).
-/
namespace Sys2Proof.Machine

/-- A running access round is aborted: its result is published with ABORTED and the grant it has given, no token localises,
and FLT_ACCESS_ROUND is asked for (R400, R408). -/
def roundStop (s : State) : State :=
  match s.access.round with
  | none => s
  | some r =>
    let s := { s with access := { s.access with round := none } }
    let s := s.setFlds [(Reg.ACCESS.RESULT.REG, 0, 0), (Reg.ACCESS.RESULT.GRANTED, 0, if r.granted then 1 else 0),
      (Reg.ACCESS.RESULT.ABORTED, 0, 1), (Reg.ACCESS.RESULT.ZONE, 0, 15), (Reg.ACCESS.RESULT.SLOT, 0, 15),
      (Reg.ACCESS.RESULT.VALID, 0, r.valid.length), (Reg.ACCESS.RESULT.FAILED, 0, r.failed),
      (Reg.ACCESS.RESTOK.ID, 0, 0), (Reg.ACCESS.STATUS.RUNNING, 0, 0), (Reg.ACCESS.STATUS.EV_DONE, 0, 1)]
    s.ask 0x2802 0x3FFF 0 false

/-- STATUS.SLEEP values (R393). -/
def sleepIdle : Nat := 0
def sleepArmed : Nat := 1
def sleepPassed : Nat := 2

/-- The sleep state. -/
def sleepState (s : State) : Nat := s.fld Reg.POWER.STATUS.SLEEP 0

/-- An armed sleep is disarmed (R375). -/
def sleepDisarm (s : State) : State :=
  (s.setFld Reg.POWER.STATUS.SLEEP 0 sleepIdle).setBit Reg.POWER.SLEEPCTL.ARM 0 false

/-- An F3 fault while a sleep is armed cancels it without a wake event (R375). -/
def sleepCancel (s : State) : State := if sleepState s = sleepArmed then sleepDisarm s else s

/-- A key that an engine can use: its record has not failed and its root is there (R418, R419, R425). ACCESS and IMMO records
need the first-boot root, which is itself sealed under the PUF root; the others need the PUF root. -/
def keyUsable (s : State) (k : Nat) : Bool :=
  let c := s.fld Reg.KEYS.SLOT.CLASS k
  c != 0 && !s.bit Reg.KEYS.SLOT.FAILED k && s.bit Reg.KEYS.STATUS.PUF_OK 0 &&
    ((c != 2 && c != 3) || s.bit Reg.KEYS.STATUS.FB_OK 0)

end Sys2Proof.Machine
end

