-- ==== Sys2Proof/Machine/Fault.lean ====
section
/-!
DEFINITION. The fault collector (R456 to R471): source numbers, raises with escalation, holds, reactions and the trouble
log. Every event that the spec says raises a fault goes through `raiseFault`.
-/
namespace Sys2Proof.Machine

/-! ### SOURCE numbers: block code and position in the block's table (R456) -/

def Flt.SYS.PRIVWRITE : Nat := 0x0001
def Flt.SYS.DIELINK : Nat := 0x0002
def Flt.SYS.LANETRAP : Nat := 0x0003
def Flt.SYS.LANERES : Nat := 0x0004
def Flt.SYS.LANEUNCORR : Nat := 0x0005
def Flt.SYS.MEMUNCORR : Nat := 0x0006
def Flt.SYS.LANECLK : Nat := 0x0007
def Flt.SYS.LANEECC : Nat := 0x0008
def Flt.SYS.REFCLK : Nat := 0x0009
def Flt.TICK.OVERRUN : Nat := 0x0101
def Flt.TICK.UNITLATE : Nat := 0x0102
def Flt.TICK.PLANLOAD : Nat := 0x0103
def Flt.TICK.LANES : Nat := 0x0104
def Flt.TICK.HANDOVER : Nat := 0x0105
def Flt.TICK.PLAINSTAGE : Nat := 0x0106
def Flt.TIME.SYNCLOST : Nat := 0x0201
def Flt.TIME.STEPBACK : Nat := 0x0202
def Flt.TIME.SLOWBASE : Nat := 0x0203
def Flt.INPUT.NTC : Nat := 0x1801
def Flt.FAULT.DEFERLOST : Nat := 0x0301
def Flt.FAULT.HELDFULL : Nat := 0x0302
def Flt.FAULT.TERMINAL : Nat := 0x0303
def Flt.JOURNAL.UNCORR : Nat := 0x0501
def Flt.JOURNAL.BANK : Nat := 0x0502
def Flt.JOURNAL.WRITE : Nat := 0x0503
def Flt.JOURNAL.FULL : Nat := 0x0504
def Flt.JOURNAL.OUTPORT : Nat := 0x0505
def Flt.JOURNAL.OUTQ : Nat := 0x0506
def Flt.JOURNAL.ARCHIVE : Nat := 0x0507
def Flt.LSW.LIMTO : Nat := 0x1001
def Flt.LSW.SHORT : Nat := 0x1002
def Flt.LSW.THERM : Nat := 0x1003
def Flt.LSW.OPEN : Nat := 0x1004
def Flt.LSW.STB : Nat := 0x1005
def Flt.LSW.LOCKOUT : Nat := 0x1006
def Flt.LSW.FREEWHEEL : Nat := 0x1007
def Flt.LSW.SENSEPIN : Nat := 0x1008
def Flt.LSW.SENSEDIFF : Nat := 0x1009
def Flt.LSW.CALCRC : Nat := 0x100A
def Flt.LSW.HOLDEXP : Nat := 0x100B
def Flt.LSW.CFG : Nat := 0x100C
def Flt.LEDGER.MODEL : Nat := 0x1201
def Flt.LEDGER.SEGTRIP : Nat := 0x1202
def Flt.LEDGER.LOWER : Nat := 0x1203
def Flt.LEDGER.INPUT : Nat := 0x1204
def Flt.LEDGER.COLD : Nat := 0x1205
def Flt.HBR.SHORT : Nat := 0x1301
def Flt.HBR.THERM : Nat := 0x1302
def Flt.HBR.BRKLIM : Nat := 0x1303
def Flt.HBR.STALL : Nat := 0x1304
def Flt.HBR.OV : Nat := 0x1305
def Flt.HBR.RIPPLE : Nat := 0x1306
def Flt.HBR.CFG : Nat := 0x1307
def Flt.HBR.GATE : Nat := 0x1308
def Flt.VALVE.SHORT : Nat := 0x1401
def Flt.VALVE.OPEN : Nat := 0x1402
def Flt.VALVE.THERM : Nat := 0x1403
def Flt.VALVE.CLAMP : Nat := 0x1404
def Flt.VALVE.VBSHORT : Nat := 0x1405
def Flt.VALVE.VBTHERM : Nat := 0x1406
def Flt.VALVE.PKS : Nat := 0x1407
def Flt.VALVE.PEAKCUT : Nat := 0x1408
def Flt.VALVE.RUNMAX : Nat := 0x1409
def Flt.VALVE.COILHOT : Nat := 0x140A
def Flt.VALVE.COLD : Nat := 0x140B
def Flt.VALVE.UCODE : Nat := 0x140C
def Flt.VALVE.CFG : Nat := 0x140D
def Flt.VALVE.GATE : Nat := 0x140E
def Flt.LIGHT.OPEN : Nat := 0x1601
def Flt.LIGHT.SHORT : Nat := 0x1602
def Flt.LIGHT.THERM : Nat := 0x1603
def Flt.LIGHT.LEDHOT : Nat := 0x1604
def Flt.LIGHT.STAGE : Nat := 0x1605
def Flt.LIGHT.LEAK : Nat := 0x1606
def Flt.LIGHT.MXCOL : Nat := 0x1607
def Flt.LIGHT.MXLINE : Nat := 0x1608
def Flt.LIGHT.CALCRC : Nat := 0x1609
def Flt.LIGHT.COLD : Nat := 0x160A
def Flt.LIGHT.HOLDEXP : Nat := 0x160B
def Flt.LIGHT.GATE : Nat := 0x160C
def Flt.NET.AUTHFAIL : Nat := 0x2001
def Flt.NET.LINK : Nat := 0x2002
def Flt.NET.PLCA : Nat := 0x2003
def Flt.NET.ADDR : Nat := 0x2004
def Flt.NET.BUSOFF : Nat := 0x2005
def Flt.NET.TXLATE : Nat := 0x2006
def Flt.NET.LINERR : Nat := 0x2007
def Flt.NET.RESPQ : Nat := 0x2008
def Flt.ACCESS.AERIAL : Nat := 0x2801
def Flt.ACCESS.ROUND : Nat := 0x2802
def Flt.ACCESS.RELAY : Nat := 0x2803
def Flt.ACCESS.LOCKOUT : Nat := 0x2804
def Flt.KEYS.PUF : Nat := 0x2A01
def Flt.KEYS.ROOT : Nat := 0x2A02
def Flt.KEYS.SLOT : Nat := 0x2A03
def Flt.KEYS.TRNG : Nat := 0x2A04
def Flt.KEYS.TAMPER : Nat := 0x2A05
def Flt.KEYS.ZEROISE : Nat := 0x2A06
def Flt.KEYS.CRQ : Nat := 0x2A07
def Flt.UPDATE.VERIFY : Nat := 0x2C01
def Flt.UPDATE.STORE : Nat := 0x2C02
def Flt.UPDATE.ACT : Nat := 0x2C03
def Flt.UPDATE.LOST : Nat := 0x2C04
def Flt.UPDATE.FALLBACK : Nat := 0x2C05
def Flt.UPDATE.RECOVERY : Nat := 0x2C06
def Flt.POWER.VLANE : Nat := 0x2E01
def Flt.POWER.DESCENT : Nat := 0x2E02
def Flt.POWER.WAKELINE : Nat := 0x2E03
def Flt.POWER.FALSEWAKE : Nat := 0x2E04
def Flt.POWER.MAXAWAKE : Nat := 0x2E05
def Flt.STORE.HOT : Nat := 0x3001
def Flt.STORE.RETRY : Nat := 0x3002

/-- The classes that each source's own rule gives it; F0 for every source not listed here (R458 and the tables of R457). -/
def faultClassTable : List (Nat × List Nat) := [
  (Flt.SYS.DIELINK, [1]),
  (Flt.SYS.LANETRAP, [0, 2]),
  (Flt.SYS.LANERES, [1]),
  (Flt.SYS.LANEUNCORR, [1]),
  (Flt.SYS.MEMUNCORR, [2]),
  (Flt.SYS.LANECLK, [1]),
  (Flt.SYS.REFCLK, [3]),
  (Flt.TICK.OVERRUN, [2]),
  (Flt.TICK.UNITLATE, [2]),
  (Flt.TICK.PLANLOAD, [1]),
  (Flt.TICK.LANES, [2]),
  (Flt.FAULT.HELDFULL, [2]),
  (Flt.FAULT.TERMINAL, [3]),
  (Flt.JOURNAL.UNCORR, [1]),
  (Flt.JOURNAL.BANK, [1]),
  (Flt.JOURNAL.WRITE, [2]),
  (Flt.JOURNAL.FULL, [2]),
  (Flt.JOURNAL.OUTQ, [2]),
  (Flt.LSW.LOCKOUT, [1]),
  (Flt.LSW.FREEWHEEL, [1]),
  (Flt.LEDGER.MODEL, [1]),
  (Flt.LEDGER.SEGTRIP, [1]),
  (Flt.HBR.GATE, [1]),
  (Flt.VALVE.PKS, [0, 1]),
  (Flt.VALVE.UCODE, [0, 1]),
  (Flt.VALVE.GATE, [1]),
  (Flt.LIGHT.LEAK, [1]),
  (Flt.LIGHT.GATE, [1]),
  (Flt.KEYS.PUF, [1]),
  (Flt.KEYS.ROOT, [1]),
  (Flt.KEYS.SLOT, [1]),
  (Flt.KEYS.TRNG, [1]),
  (Flt.KEYS.ZEROISE, [1]),
  (Flt.UPDATE.ACT, [1]),
  (Flt.UPDATE.FALLBACK, [1]),
  (Flt.UPDATE.RECOVERY, [1]),
  (Flt.POWER.VLANE, [2])]

/-- How many causes each block's table lists (R457). -/
def faultCauses : List (Nat × Nat) := [(0x00, 9), (0x01, 6), (0x02, 3), (0x18, 1), (0x03, 3), (0x05, 7), (0x10, 12), (0x12, 5), (0x13, 8), (0x14, 14), (0x16, 12), (0x20, 8), (0x28, 4), (0x2A, 7), (0x2C, 6), (0x2E, 5), (0x30, 2)]

/-- Is the number that of a source (R456)? -/
def isSource (src : Nat) : Bool := faultCauses.any fun p => p.1 == src / 256 && 1 ≤ src % 256 && src % 256 ≤ p.2

/-- May the source be raised at this class (R470)? -/
def classAllowed (src cls : Nat) : Bool :=
  match faultClassTable.find? fun p => p.1 == src with
  | some p => p.2.contains cls
  | none => cls == 0

/-- No unit (R457). -/
def noUnit : Nat := 0x3FFF

/-- The die that detects a source: power die 0 to 3, network die 4, or none for the logic die (R17, R465). -/
def faultDie (src unit : Nat) : Option Nat :=
  match src / 256 with
  | 0x10 => if src = Flt.LSW.SENSEPIN then some (unit / 2) else if src = Flt.LSW.CALCRC then none else some (lswDie unit)
  | 0x13 => some (hbDie unit)
  | 0x14 => match faultOutput src unit with
    | some (.vb b) => some (vbDie b)
    | some (.vd n) => some (vdDie n)
    | _ => some 0
  | 0x16 => match faultOutput src unit with
    | some (.stage g) => some (stageDie g)
    | some (.sink n) => some (sinkDie n)
    | _ => some 2
  | 0x20 => some 4
  | 0x2A => if src = Flt.KEYS.TAMPER ∨ src = Flt.KEYS.ZEROISE then some 4 else none
  | 0x28 => if src = Flt.ACCESS.AERIAL then some (2 + unit / 3) else none
  | _ => none

/-! ### The trouble log (R471) -/

/-- The col number a record carries: that of the tick in force, all ones outside a plan. -/
def State.recordCol (s : State) : Nat := if s.planRuns then s.colNum else 2 ^ 64 - 1

/-- Write one record: over the oldest when the ring is full, or dropped and counted with STOPFULL (R471). -/
def logWrite (s : State) (r : LogRec) : State :=
  if 4096 ≤ s.log.length ∧ s.bit Reg.LOG.CFG.STOPFULL 0 then
    (s.setFld Reg.LOG.DROPPED.VALUE 0 (min (s.fld Reg.LOG.DROPPED.VALUE 0 + 1) (2 ^ 32 - 1))).setBit Reg.LOG.STATUS.STOPPED 0 true
  else
    let r := { r with recNo := s.fld Reg.LOG.NEXT.VALUE 0 }
    let full := decide (4096 ≤ s.log.length)
    let s := { s with log := (if full then s.log.drop 1 else s.log) ++ [r] }
    let s := (s.incFld Reg.LOG.NEXT.VALUE 0).setFld Reg.LOG.STATUS.FILL 0 s.log.length
    if full then s.setBit Reg.LOG.STATUS.WRAPPED 0 true else s

/-! ### Flags and counters (R461, R472) -/

/-- The number of flags of a class, as the PEND registers show it. -/
def flagCount (s : State) (c : Nat) : Nat := min (s.flags.filter fun f => f.cls == c).length 0xFFFF

/-- Show the flag counts. -/
def showFlags (s : State) : State :=
  s.setFlds [(Reg.FAULT.PENDLO.F0, 0, flagCount s 0), (Reg.FAULT.PENDLO.F1, 0, flagCount s 1),
    (Reg.FAULT.PENDHI.F2, 0, flagCount s 2), (Reg.FAULT.PENDHI.F3, 0, flagCount s 3)]

/-- Set a flag. -/
def setFlag (s : State) (f : FaultFlag) : State :=
  if f ∈ s.flags then s else showFlags { s with flags := s.flags ++ [f] }

/-- Show how many HELD entries are in use. -/
def showHeld (s : State) : State :=
  s.setFld Reg.FAULT.STATUS.HELD 0 ((upTo 16).filter fun k => s.bit Reg.FAULT.HELD.VALID k).length

/-- The configured safe state of a held output (R463). -/
def holdUnit (s : State) (u : HeldUnit) : State :=
  match u with
  | .lsw n => lswSafe s n
  | .bridge n => hbSafe s n
  | .vd n => vdSafe s n
  | .vb b => bankSwitch (s.each vdSafe (bankChans b)) b
  | .sink n => sinkSafe s n
  | .stage g => s.each sinkSafe (stageSinks g)
  | .matrix => matrixSafe s
  | .aerial _ => s

/-- Record a hold in the first free HELD entry, and put the output in its safe state; with no entry free the unit is not
held and FLT_FAULT_HELDFULL is asked for (R463). -/
def takeHold (s : State) (src unit : Nat) (u : HeldUnit) : State × Bool :=
  match (upTo 16).find? fun k => !s.bit Reg.FAULT.HELD.VALID k with
  | none => (s.ask Flt.FAULT.HELDFULL unit 2 false, false)
  | some k =>
    let s := s.setFlds [(Reg.FAULT.HELD.VALID, k, 1), (Reg.FAULT.HELD.SOURCE, k, src), (Reg.FAULT.HELD.UNIT, k, unit)]
    (holdUnit (showHeld s) u, true)

/-! ### Reactions (R459) -/

/-- The lane cycle that begins count `c` (R78). -/
def cycleAt (s : State) (c : Nat) : Nat := s.seq.tickCyc + (c - s.colCount) * s.seq.k

/-- Results in flight are dropped, but a shared access that has reached its slot completes (R137, R459). -/
def dropInFlight (s : State) (lanes : List Nat) : State :=
  let c := cycleAt s s.now
  { s with laneEv := s.laneEv.filter fun e =>
      !lanes.contains e.lane ||
        (match e.act with
         | .land _ _ _ => decide (e.due ≤ c + 2)
         | .portB _ _ => true
         | .regWrite _ _ _ _ => decide (e.due ≤ c + 3)
         | _ => false) }

/-- A lane stops issuing: no bundle, block, plain or reservation is left (R137, R459). -/
def laneHalt (s : State) (n : Nat) : State :=
  let l := s.lane n
  s.setLane n { l with running := false, plain := false, cur := [], redirects := [], resv := none, waiting := false }

/-- The safe-zone reaction of class F2. -/
def safeZone (s : State) : State :=
  roundStop (safeAll ({ s with zoneExit := 0 }.setBit Reg.FAULT.STATUS.ZONE_SAFE 0 true))

/-- Every frame that waits in a port's transmit queue is dropped, and commands that wait for acceptance with it (R332). -/
def dropQueued (s : State) : State := { s with net := { s.net with tx := [], resp := [], waiting := [], heldReads := [] } }

/-- The terminal reaction of class F3: hardware safe state, lanes halted, STOPPED, the latch, and the dump of the latest
256 records unless programming is stopped (R459, R471). -/
def terminal (s : State) : State :=
  let s := (s.setBit Reg.FAULT.STATUS.TERMINAL 0 true).enter seqStopped
  let s := dropInFlight s [0, 1, 2, 3]
  let s := s.each laneHalt [0, 1, 2, 3]
  let s := outputsOff { s with hwSafe := true, terminalLatch := true }
  let s := sleepCancel (dropQueued s)
  roundStop (if s.storeHot then s else { s with dumpNext := some (s.log.drop (s.log.length - 256)) })

/-- The reaction of the class at which a raise is acted on. -/
def react (s : State) (cls : Nat) : State :=
  match cls with
  | 0 => s
  | 1 => s.setBit Reg.FAULT.STATUS.DEGRADED 0 true
  | 2 => safeZone s
  | _ => terminal s

/-! ### Raises (R457 to R465) -/

/-- While the collector is down a die queues what it detects, at most 16 raises (R465). [log entry 149 DEDUCED] -/
def deferRaise (s : State) (r : Raise) : State :=
  match faultDie r.src r.unit with
  | none => s
  | some d =>
    if (s.deferred.filter fun p => p.1 == d).length < 16 then { s with deferred := s.deferred ++ [(d, r)] }
    else { s with deferLost := smapSet (fun _ => 0) s.deferLost d (smapGet (fun _ => 0) s.deferLost d + 1) }

/-- Count a raise and note it as the latest. -/
def countRaise (s : State) (r : Raise) (act : Nat) : State :=
  let s := s.setFld Reg.FAULT.CNT.COUNT act (s.fld Reg.FAULT.CNT.COUNT act + 1)
  s.setFlds [(Reg.FAULT.LAST.SOURCE, 0, r.src), (Reg.FAULT.LAST.UNIT, 0, r.unit), (Reg.FAULT.LASTCLS.CLASS, 0, act + 16 * r.cls)]

/-- The record of a raise. -/
def recordOf (s : State) (r : Raise) (act : Nat) (esc deferred hold : Bool) : LogRec :=
  { recNo := 0, src := r.src, unit := r.unit, count := r.count, col := s.recordCol, cls := act, own := r.cls,
    forced := r.forced, escalated := esc, deferred := deferred, held := hold, detail := r.detail }

/-- One raise (R459 to R464): while F3 is in force it is logged and counted only; with its flag set it is escalated by
one class; an escalated F0 raise of an output holds the output. -/
def raiseOne (s : State) (r : Raise) : State :=
  if !s.collectorUp then deferRaise s r
  else if s.bit Reg.FAULT.STATUS.TERMINAL 0 then logWrite (countRaise s r r.cls) (recordOf s r r.cls false false false)
  else
    let esc := decide ((⟨r.src, r.unit, r.cls⟩ : FaultFlag) ∈ s.flags) && decide (r.cls < 3)
    let act := if esc then r.cls + 1 else r.cls
    let s := setFlag (setFlag s ⟨r.src, r.unit, r.cls⟩) ⟨r.src, r.unit, act⟩
    let (s, hold) :=
      match faultOutput r.src r.unit with
      | some u => if esc && r.cls == 0 then takeHold s r.src r.unit u else (s, false)
      | none => (s, false)
    react (logWrite (countRaise s r act) (recordOf s r act esc false hold)) act

/-- Take the raises asked for meanwhile, in order. -/
def drainRaises : Nat → State → State
  | 0, s => s
  | k + 1, s =>
    match s.raiseQ with
    | [] => s
    | r :: q => drainRaises k (raiseOne { s with raiseQ := q } r)

/-- Take every raise asked for. -/
def settleRaises (s : State) : State := drainRaises 256 s

/-- Raise a source for a unit at a class, with its detail (R457). -/
def raiseWith (s : State) (src unit cls : Nat) (detail : BitVec 48) (forced : Bool) : State :=
  settleRaises (raiseOne s { src := src, unit := unit, cls := cls, detail := detail, count := s.now, forced := forced })

/-- Raise a source without detail that no force caused. [log entry 148 DEDUCED] -/
def raiseFault (s : State) (src unit cls : Nat) : State := raiseWith s src unit cls 0 false

/-- A deferred raise, taken when the collector comes up: logged, counted and flagged, never escalated (R465). -/
def takeDeferred (s : State) (r : Raise) : State :=
  let s := setFlag s ⟨r.src, r.unit, r.cls⟩
  let s := logWrite (countRaise s r r.cls) (recordOf s r r.cls false true false)
  settleRaises (react s r.cls)

/-- A detail whose first bytes are a 16-bit or 8-bit number (R457). -/
def detail16 (v : Nat) : BitVec 48 := BitVec.ofNat 48 (v * 2 ^ 32)
def detail8 (v : Nat) : BitVec 48 := BitVec.ofNat 48 (v % 256 * 2 ^ 40)

/-- A force or injection acts only while the force enable is set; otherwise it is ignored and FLT_SYS_PRIVWRITE is raised
(R140, R179, R470). In the unprivileged alias the register is protected (R15). -/
def gated (s : State) (b : By) (act : State → State) : State :=
  if b.priv && s.bit Reg.FAULT.CTRL.FORCE_EN 0 then act s else raiseFault s Flt.SYS.PRIVWRITE b.lane.val 0

/-! ### Commands of the FAULT and LOG blocks -/

/-- FAULT_FORCE (R470): a named source at a class its own rule gives it; anything else is ignored. -/
def execFaultForce (by_ : By) (src : BitVec 16) (cls : Fin 4) (unit : BitVec 14) (s : State) : Result :=
  .next (gated s by_ fun s =>
    if isSource src.toNat && classAllowed src.toNat cls.val then raiseWith s src.toNat unit.toNat cls.val 0 true else s)

/-- Is the F2 part of an acknowledgement refused (R468)? -/
def ackRefused (s : State) : Bool :=
  s.seqState == seqStopped || s.bit Reg.JOURNAL.STATUS.FULL 0 || s.vlaneBad ||
    (upTo 16).all fun k => s.bit Reg.FAULT.HELD.VALID k

/-- After an accepted F2 acknowledgement that leaves no F2 flag, the safe zone ends at a later commit strobe (R468). -/
def zoneMayEnd (s : State) : State :=
  if flagCount s 2 = 0 && s.zoneSafe then { s with zoneExit := 1 } else s

/-- ACK (R461, R467, R468): clears every flag of the named classes F0 and F1, and of F2 unless refused. -/
def execFaultAck (by_ : By) (classes : BitVec 4) (s : State) : Result :=
  if !by_.priv then .next (if classes = 0 then s else raiseFault s Flt.SYS.PRIVWRITE by_.lane.val 0)
  else
    let f2 := classes.getLsbD 2
    let refuse := f2 && ackRefused s
    let clears := fun c => (c == 0 && classes.getLsbD 0) || (c == 1 && classes.getLsbD 1) || (c == 2 && f2 && !refuse)
    let s := showFlags { s with flags := s.flags.filter fun f => !clears f.cls }
    .next (if refuse then s.setBit Reg.FAULT.STATUS.ACKREF 0 true else if f2 then zoneMayEnd s else s)

/-- ACKONE (R461, R468): clears the F0 and F1 flags of one SOURCE and UNIT, and its F2 flag unless refused. -/
def execFaultAckone (by_ : By) (src : BitVec 16) (unit : BitVec 14) (s : State) : Result :=
  if !by_.priv then .next (if src = 0 ∧ unit = 0 then s else raiseFault s Flt.SYS.PRIVWRITE by_.lane.val 0)
  else
    let mine := fun (f : FaultFlag) => f.src == src.toNat && f.unit == unit.toNat
    let f2 := s.flags.any fun f => mine f && f.cls == 2
    let refuse := f2 && ackRefused s
    let s := showFlags { s with flags := s.flags.filter fun f => !(mine f && (f.cls < 2 || (f.cls == 2 && !refuse))) }
    .next (if refuse then s.setBit Reg.FAULT.STATUS.ACKREF 0 true else if f2 then zoneMayEnd s else s)

/-- REFCLK_FAULT (R458): the reference departs from the monitor oscillator; FLT_SYS_REFCLK in class F3. -/
def execRefclkFault (s : State) : Result := .next (raiseFault s Flt.SYS.REFCLK noUnit 3)

/-- TERMINAL_DUMP_DONE (R471): the copy of the latest records stands in the dump. -/
def execTerminalDumpDone (s : State) : Result :=
  match s.dumpNext with
  | none => .next s
  | some d => .next (if s.storeHot then { s with dumpNext := none } else { s with dump := d, dumpNext := none })

/-- CLEAR (R471, R473): empties the ring; record numbers go on. -/
def execLogClear (by_ : By) (s : State) : Result :=
  if !by_.priv then .next (raiseFault s Flt.SYS.PRIVWRITE by_.lane.val 0)
  else .next ({ s with log := [] }.setFlds [(Reg.LOG.STATUS.FILL, 0, 0), (Reg.LOG.STATUS.STOPPED, 0, 0)])

/-- CLRDUMP (R471, R473): erases the terminal dump. -/
def execLogClrdump (by_ : By) (s : State) : Result :=
  if !by_.priv then .next (raiseFault s Flt.SYS.PRIVWRITE by_.lane.val 0)
  else .next ({ s with dump := [] }.setBit Reg.LOG.STATUS.DUMP_VALID 0 false)

/-- TERMINAL_LATCH_CLEAR (R469): the latch clears only when both supplies have stayed below 2.5 V for 100 ms. -/
def execTerminalLatchClear (s : State) : Result :=
  .next (if s.supA < 2500 ∧ s.supB < 2500 then { s with terminalLatch := false } else s)

end Sys2Proof.Machine
end

