-- ==== Sys2Proof/Machine/Plan.lean ====
section
/-!
DEFINITION. What the plan in force says (R53 to R58, R320, R338): its sections, manifest records, object declarations and the
entries of its device tables.
-/
namespace Sys2Proof.Machine

/-- A big-endian field of a plan image. -/
def Plan.be (p : Plan) (a n : Nat) : Nat := rdBE p.img a n

/-- The section of a type, variant and lane: its offset and length (R54, R55). -/
def Plan.section' (p : Plan) (type variant lane : Nat) : Option (Nat × Nat) :=
  ((upTo 22).map fun i => 0x80 + 16 * i).find? (fun e => p.be e 1 == type && p.be (e + 1) 1 == variant && p.be (e + 2) 1 == lane)
    |>.map fun e => (p.be (e + 4) 4, p.be (e + 8) 4)

/-- T of the plan. -/
def Plan.ticks (p : Plan) : Nat := p.be 0x0C 4

/-- PERF_LEVEL of the plan. -/
def Plan.level (p : Plan) : Nat := p.be 0x0A 1

/-- Lane cycles per count at a performance level (R78). -/
def levelK (level : Nat) : Nat := 4 - level % 4

/-- The variant in force. -/
def State.variant (s : State) : Nat := if s.seq.narrows then 1 else 0

/-! ### Manifest records (R57) -/

/-- The offset in the image of the manifest record that covers an entry. -/
def Plan.manifest (p : Plan) (index sub : Nat) : Option Nat :=
  match p.section' 5 0xFF 0xFF with
  | none => none
  | some (o, n) =>
    ((upTo (n / 32)).map fun i => o + 32 * i).find? fun r =>
      p.be r 2 == index && p.be (r + 2) 1 ≤ sub && sub ≤ p.be (r + 3) 1

/-- The manifest record of the active plan that covers an entry (R317). -/
def State.manifest (s : State) (index sub : Nat) : Option Nat := if s.plan.valid then s.plan.manifest index sub else none

/-- Is the object of an entry shed in the narrows variant (R57, R65)? With SHED_PRIO 0 it is not (R101). -/
def State.isShed (s : State) (index sub : Nat) : Bool :=
  s.seq.narrows &&
    match s.manifest index sub with
    | some r => (s.plan.be (r + 5) 1).testBit 1 && s.plan.be (r + 6) 2 != 0
    | none => false

/-! ### Object declarations (R320) -/

/-- A declaration of an object. -/
structure Decl where
  subLo : Nat
  type : Nat
  rights : Nat
  persist : Nat
  eligible : Bool
  len : Nat
  addr : Nat
  deriving DecidableEq, Repr

/-- The declaration at an offset of the image. -/
def Plan.declAt (p : Plan) (d : Nat) : Decl :=
  { subLo := p.be (d + 2) 1, type := p.be (d + 4) 1, rights := p.be (d + 5) 1, persist := p.be (d + 6) 1,
    eligible := (p.be (d + 7) 1).testBit 0, len := p.be (d + 8) 2, addr := p.be (d + 12) 4 }

/-- The declaration of an entry. -/
def Plan.decl (p : Plan) (index sub : Nat) : Option Decl :=
  match p.section' 8 0xFF 0xFF with
  | none => none
  | some (o, _) =>
    ((upTo (p.be o 4)).map fun i => o + 16 + 16 * i).find? (fun d =>
      p.be d 2 == index && p.be (d + 2) 1 ≤ sub && sub ≤ p.be (d + 3) 1)
      |>.map p.declAt

/-- The declaration of an entry by the active plan. -/
def State.decl (s : State) (index sub : Nat) : Option Decl := if s.plan.valid then s.plan.decl index sub else none

/-- Where the value of a subindex stands in shared memory (R320). -/
def Decl.at' (d : Decl) (sub : Nat) : Nat := d.addr + (sub - d.subLo) * ((d.len + 7) / 8 * 8)

/-- Is the entry PERSISTENT (R316, R318)? -/
def State.isPersistent (s : State) (index sub : Nat) : Bool :=
  (index == 0x1000 && sub == 3) || (0x1010 ≤ index && index ≤ 0x102F && sub ≤ 2) ||
    match s.decl index sub with
    | some d => d.persist == 2
    | none => false

/-! ### Device tables (R338) -/

/-- The table of a type in the device-table section of a variant: offset in the image and number of entries; offset 0 and no
entries when its type does not appear. -/
def Plan.table (p : Plan) (variant type : Nat) : Nat × Nat :=
  match p.section' 4 variant 0xFF with
  | none => (0, 0)
  | some (o, _) =>
    match ((upTo 64).takeWhile fun i => p.be (o + 8 * i) 2 != 0).find? fun i => p.be (o + 8 * i) 2 == type with
    | none => (0, 0)
    | some i => (o + p.be (o + 8 * i + 4) 4, p.be (o + 8 * i + 2) 2)

/-- The offset in the image of entry `k` of a table of the variant in force. -/
def State.tableEntry (s : State) (type k : Nat) : Option Nat :=
  let t := s.plan.table s.variant type
  if s.plan.valid && k < t.2 then some (t.1 + 16 * k) else none

/-- Is unit bit `b` of the edge-mode map set (R338)? Bits 0 to 95 load switches, 96 to 111 half-bridges, 112 to 135 valve
channels, 136 to 167 sinks. -/
def State.edgeMode (s : State) (b : Nat) : Bool :=
  let t := s.plan.table s.variant 7
  s.plan.valid && t.2 != 0 && (s.plan.be (t.1 + b / 8) 1).testBit (b % 8)

end Sys2Proof.Machine
end

