-- ==== Sys2Proof/Machine/Journal.lean ====
section
/-!
DEFINITION. The command journal (R351 to R368): records and their bytes, the ring, settling, outcome posts, drain, and the
steps the journal takes at a start. Acceptance itself is with the dictionary.
-/
namespace Sys2Proof.Machine

/-! ### Records (R352) -/

/-- The length of a record in units of 64 bytes. -/
def JRec.units : JRec → Nat
  | .entry e => (48 + e.value.length + 63) / 64
  | .outcome o => (48 + o.data.length + 63) / 64
  | .start _ => 1
  | .pad u => u

/-- A record from its first 44 bytes and its data, with the CRC-32 over all but bytes 44 to 47, padded to whole units. -/
def recBytes (units : Nat) (head data : List Byte) : List Byte :=
  let h := sliceBytes head 0 44
  let d := sliceBytes data 0 (64 * units - 48)
  h ++ beBytes (crc32 (h ++ d)).toNat 4 ++ d

/-- A record as it stands in the ring, big-endian. -/
def JRec.bytes (r : JRec) : List Byte :=
  match r with
  | .entry e =>
    recBytes r.units (beBytes 1 1 ++ beBytes r.units 1 ++ beBytes e.value.length 2 ++ beBytes e.op 1 ++ beBytes e.port 1 ++
      beBytes e.client 2 ++ beBytes e.seq 8 ++ beBytes e.accept 8 ++ beBytes e.cseq 4 ++ beBytes e.index 2 ++ beBytes e.sub 1 ++
      beBytes e.vtype 1 ++ beBytes e.role 1) e.value
  | .outcome o =>
    recBytes r.units (beBytes 2 1 ++ beBytes r.units 1 ++ beBytes o.data.length 2 ++ beBytes o.outcome 1 ++ beBytes o.reason 1 ++
      beBytes o.bind 2 ++ beBytes o.seq 8 ++ beBytes o.col 8 ++ beBytes o.when' 8 ++ beBytes o.grant 4 ++ beBytes o.client 2) o.data
  | .start m =>
    recBytes 1 (beBytes 3 1 ++ beBytes 1 1 ++ beBytes m.kind 1 ++ [0] ++ beBytes m.replay 4 ++ beBytes m.nextSeq 8 ++
      beBytes m.start 8 ++ beBytes m.voided 4 ++ beBytes m.expired 4) []
  | .pad u => sliceBytes (beBytes 4 1 ++ beBytes u 1) 0 (64 * u)

/-- Units of a bank (R351). -/
def bankUnits : Nat := 131072

/-- The byte at an offset of the merged head; places that hold no record read 0. -/
def jByte (s : State) (a : Nat) : Byte :=
  match s.journal.ring.find? fun p => 64 * p.1 ≤ a && a < 64 * (p.1 + p.2.units) with
  | some p => byteAt p.2.bytes (a - 64 * p.1)
  | none => 0

/-- The byte at an offset of a raw bank; what a bank that has left service holds is free (R33, R366).
[log entry 120 DEDUCED] -/
def bankByte (s : State) (b a : Nat) : Byte :=
  if (if b = 0 then s.bit Reg.JOURNAL.STATUS.BANK0_OK 0 else s.bit Reg.JOURNAL.STATUS.BANK1_OK 0) then jByte s a
  else Config.lostBankByte (b * 2 ^ 23 + a)

/-! ### What the records say -/

/-- Every record held, oldest first: the archive and what of the head is not yet archived. -/
def jRecords (s : State) : List JRec := s.journal.archive ++ (s.journal.ring.drop s.journal.archived).map Prod.snd

/-- Every record in the head or archive, the head's last. -/
def jAll (s : State) : List JRec := s.journal.archive ++ s.journal.ring.map Prod.snd

def JRec.entry? : JRec → Option JEntry
  | .entry e => some e
  | _ => none

def JRec.outcome? : JRec → Option JOutcome
  | .outcome o => some o
  | _ => none

def JRec.start? : JRec → Option JStart
  | .start m => some m
  | _ => none

/-- The outcome records of a SEQ, in ring order. -/
def outcomesOf (s : State) (q : Nat) : List JOutcome := (jRecords s).filterMap fun r => r.outcome?.filter fun o => o.seq == q

/-- The record that settles a SEQ: its first outcome that is not void (R357). -/
def settledBy (s : State) (q : Nat) : Option JOutcome := (outcomesOf s q).find? fun o => !o.void

/-- Is the SEQ settled? -/
def isSettled (s : State) (q : Nat) : Bool := (settledBy s q).isSome

/-- The entry of a SEQ. -/
def entryOf (s : State) (q : Nat) : Option JEntry := (jRecords s).findSome? fun r => r.entry?.filter fun e => e.seq == q

/-- Entries of the head without a settling outcome, in SEQ order. -/
def unsettled (s : State) : List JEntry := s.journal.ring.filterMap fun p => p.2.entry?.filter fun e => !isSettled s e.seq

/-! ### The ring (R352, R361, R362) -/

/-- Units in use. -/
def ringUsed (s : State) : Nat := s.journal.ring.foldl (fun n p => n + p.2.units) 0

/-- FILL in permille (R361). -/
def jFill (s : State) : Nat := ringUsed s * 1000 / bankUnits

/-- The first SEQ in a list of records, 0 for none. -/
def firstSeq (l : List JRec) : Nat := ((l.findSome? JRec.entry?).map JEntry.seq).getD 0

/-- Show the journal's numbers in its registers; BUSY begins at 900 and ends at 800 permille (R362, R367). -/
def jShow (s : State) : State :=
  let f := jFill s
  let s := s.setFld Reg.JOURNAL.FILL.PERMILLE 0 f
  let s := if 900 ≤ f then s.setBit Reg.JOURNAL.STATUS.BUSY 0 true else if f ≤ 800 then s.setBit Reg.JOURNAL.STATUS.BUSY 0 false else s
  let s := s.setPair Reg.JOURNAL.LASTSEQ_LO.SEQ Reg.JOURNAL.LASTSEQ_HI.SEQ 0 (s.journal.nextSeq - 1)
  let s := s.setPair Reg.JOURNAL.HEADSEQ_LO.VALUE Reg.JOURNAL.HEADSEQ_HI.VALUE 0 (firstSeq (s.journal.ring.map Prod.snd))
  let s := s.setPair Reg.JOURNAL.ARCHSEQ_LO.VALUE Reg.JOURNAL.ARCHSEQ_HI.VALUE 0 (firstSeq s.journal.archive)
  let s := s.setPair Reg.JOURNAL.LASTCOMMIT_LO.VALUE Reg.JOURNAL.LASTCOMMIT_HI.VALUE 0 s.journal.lastCommit
  s.setFld Reg.JOURNAL.OUTSTAT.QUEUED 0 (s.journal.posts.filter fun p => !p.own).length

/-- How a write into the ring ends. -/
inductive JWrite where
  | written | full | failed
  deriving DecidableEq, Repr

/-- The banks that are in service. -/
def banksOk (s : State) : List Nat :=
  (if s.bit Reg.JOURNAL.STATUS.BANK0_OK 0 then [0] else []) ++ (if s.bit Reg.JOURNAL.STATUS.BANK1_OK 0 then [1] else [])

/-- A bank leaves service (R366). -/
def bankLost (s : State) (b : Nat) (forced : Bool) : State :=
  let s := s.setBit (if b = 0 then Reg.JOURNAL.STATUS.BANK0_OK else Reg.JOURNAL.STATUS.BANK1_OK) 0 false
  raiseWith (s.setBit Reg.JOURNAL.STATUS.SINGLE 0 true) Flt.JOURNAL.BANK b 1 (detail8 b) forced

/-- Write a record at the write pointer of both banks; `fail` names the banks whose verify fails besides those forced to
(R352, R353, R362, R366, R367). -/
def jWrite (s : State) (r : JRec) (fail : BitVec 2) : State × JWrite :=
  let j := s.journal
  let u := r.units
  let pad := if bankUnits < j.wr + u then bankUnits - j.wr else 0
  if bankUnits < ringUsed s + pad + u then
    if s.bit Reg.JOURNAL.STATUS.FULL 0 then (s, .full)
    else (raiseFault (s.setBit Reg.JOURNAL.STATUS.FULL 0 true) Flt.JOURNAL.FULL noUnit 2, .full)
  else
    let ok := banksOk s
    let bad := ok.filter fun b => fail.getLsbD b || j.failNext.getLsbD b
    let forced := ok.any fun b => j.failNext.getLsbD b
    let s := { s with journal := { j with failNext := 0 } }
    if bad = ok then (raiseWith s Flt.JOURNAL.WRITE noUnit 2 0 forced, .failed)
    else
      let at' := if pad = 0 then j.wr else 0
      let ring := j.ring ++ (if pad = 0 then [] else [(j.wr, JRec.pad pad)]) ++ [(at', r)]
      let s := { s with journal := { s.journal with ring := ring, wr := (at' + u) % bankUnits } }
      let s := s.setBit Reg.JOURNAL.STATUS.FULL 0 false
      (jShow (bad.foldl (fun s b => bankLost s b forced) s), .written)

/-- Units of the archive, 1 GiB (R361). -/
def archiveUnits : Nat := 16777216

/-- Drop the oldest records of the archive until the rest fits (R361). -/
def trimArchive : List JRec → Nat → List JRec
  | [], _ => []
  | r :: l, used => if used ≤ archiveUnits then r :: l else trimArchive l (used - r.units)

/-- Does the free pointer pass a record (R361)? -/
def jPasses (s : State) (r : JRec) : Bool :=
  match r with
  | .entry e => isSettled s e.seq
  | .outcome o =>
    !((o.outcome == 1 || o.outcome == 2) && !o.void && !s.journal.stored.contains o.seq &&
      match entryOf s o.seq with
      | some e => e.op == 2 && s.isPersistent e.index e.sub
      | none => false)
  | _ => true

/-- How many records at the head the free pointer passes: archived ones, up to the first that must stay. -/
def jFreeable (s : State) : Nat → List (Nat × JRec) → Nat
  | 0, _ => 0
  | _ + 1, [] => 0
  | n + 1, p :: l => if jPasses s p.2 then jFreeable s n l + 1 else 0

/-- Advance the free pointer (R361). -/
def jFree (s : State) : State :=
  let k := jFreeable s s.journal.archived s.journal.ring
  jShow { s with journal := { s.journal with ring := s.journal.ring.drop k, archived := s.journal.archived - k } }

/-- The records of the next chunk of up to 64 KiB. -/
def chunkCount : Nat → List (Nat × JRec) → Nat
  | _, [] => 0
  | left, p :: l => if p.2.units ≤ left then chunkCount (left - p.2.units) l + 1 else 0

/-- DRAIN_CHUNK (R361): a chunk of records is written and verified on the NAND dies. `fail` names a die that is lost. -/
def execDrainChunk (fail : BitVec 2) (s : State) : Result :=
  if s.bit Reg.JOURNAL.STATUS.ARCH_DOWN 0 || !s.collectorUp || s.bit Reg.FAULT.STATUS.TERMINAL 0 then .next s
  else if fail = 3 then
    .next (raiseFault (s.setFlds [(Reg.JOURNAL.STATUS.ARCH_DOWN, 0, 1), (Reg.JOURNAL.STATUS.DRAIN, 0, 0)]) Flt.JOURNAL.ARCHIVE noUnit 0)
  else
    let s := if fail = 0 || s.bit Reg.JOURNAL.STATUS.ARCH_SINGLE 0 then s
      else raiseFault (s.setBit Reg.JOURNAL.STATUS.ARCH_SINGLE 0 true) Flt.JOURNAL.ARCHIVE noUnit 0
    let todo := s.journal.ring.drop s.journal.archived
    let n := chunkCount 1024 todo
    let new := s.journal.archive ++ (todo.take n).map Prod.snd
    let arch := trimArchive new (new.foldl (fun a r => a + r.units) 0)
    .next (jFree { s with journal := { s.journal with archive := arch, archived := s.journal.archived + n } })

/-! ### Outcomes (R357 to R359) -/

/-- Is a SEQ among those posted in this tick? -/
def postedNow (s : State) (q : Nat) : Bool := s.journal.postedNow.contains q

/-- A settlement that the sequencer or the journal controller makes itself (R359). -/
def ownPost (s : State) (q outcome col : Nat) (data : List Byte) : State :=
  if isSettled s q || s.journal.posts.any (fun p => p.seq == q) then s
  else
    { s with journal := { s.journal with posts := s.journal.posts ++
        [{ seq := q, outcome := outcome, reason := 0, bind := 0xFFFF, grant := 0, col := col, data := data, own := true }] } }

/-- The unsettled named-col commands of a subindex for a col (R75, R318). -/
def namedFor (s : State) (sub n : Nat) : List JEntry :=
  (unsettled s).filter fun e => e.index == 0x1001 && e.sub == sub && beNat e.value == n && decide (e.accept < s.colCount)

/-- OUT_POST (R358): a lane posts an outcome. [log entry 122 DEDUCED] -/
def outPost (s : State) (b : By) (outcome reason bind : Nat) : State :=
  let n := b.lane.val
  let q := s.pair Reg.JOURNAL.OUT_SEQ_LO.SEQ Reg.JOURNAL.OUT_SEQ_HI.SEQ n
  let g := s.fld Reg.JOURNAL.OUT_GRANT.GRANT n
  let s := s.setFld Reg.JOURNAL.OUT_GRANT.GRANT n 0
  let known := outcome == 1 || outcome == 2 || outcome == 3 || outcome == 6
  if b.plain || !known || !s.journal.snap.contains q || isSettled s q || postedNow s q then
    raiseWith (s.setBit Reg.JOURNAL.OUTSTAT.REJECT 0 true) Flt.JOURNAL.OUTPORT noUnit 0 (BitVec.ofNat 48 q) false
  else if 256 ≤ (s.journal.posts.filter fun p => !p.own).length then raiseFault s Flt.JOURNAL.OUTQ noUnit 2
  else
    jShow { s with journal := { s.journal with
      posts := s.journal.posts ++ [{
        seq := q, outcome := outcome, reason := reason,
        bind := if outcome == 2 || outcome == 3 then bind else 0xFFFF, grant := if outcome == 2 then g else 0,
        col := s.colNum + 1, data := [], own := false }],
      postedNow := q :: s.journal.postedNow } }

/-- OUT_POST through the alias is a write of a protected register (R15). -/
def execOutPost (by_ : By) (outcome reason : Byte) (bind : BitVec 16) (s : State) : Result :=
  if !by_.priv then .next (if outcome = 0 ∧ reason = 0 ∧ bind = 0 then s else raiseFault s Flt.SYS.PRIVWRITE by_.lane.val 0)
  else .next (outPost s by_ outcome.toNat reason.toNat bind.toNat)

/-- A client's window is emptied and its H made not valid (R356). -/
def emptyWindow (s : State) (c : Nat) : State :=
  { s with journal := { s.journal with
      highest := smapSet (fun _ => none) s.journal.highest c none,
      window := s.journal.window.filter fun p => p.1 / 4096 != c } }

/-- What an applied write of a device or communication entry changes when its outcome is journaled (R318, R319, R356). -/
def deviceApply (s : State) (e : JEntry) : State :=
  let v := beNat e.value
  if e.index = 0x1000 ∧ e.sub = 3 then { s with net := { s.net with zone := v % 4 } }
  else if 0x1010 ≤ e.index ∧ e.index ≤ 0x102F ∧ e.sub ≤ 2 then
    let c := e.index - 0x1010 + 1
    let old := smapGet ClientRow.init s.net.clients c
    let new := match e.sub with
      | 0 => { old with slot := v }
      | 1 => { old with role := v }
      | _ => { old with ports := v }
    let s := { s with net := { s.net with clients := smapSet ClientRow.init s.net.clients c new } }
    if new.slot = old.slot ∧ new.role = old.role then s else emptyWindow s c
  else s

/-- OUTCOME_JOURNALED (R357, R358, R362): the oldest post is written to both banks and verified. `fail` names the banks whose
verify fails. -/
def execOutcomeJournaled (fail : BitVec 2) (s : State) : Result :=
  match s.journal.posts with
  | [] => .next s
  | p :: rest =>
    let pop := fun (s : State) => jShow { s with journal := { s.journal with posts := rest } }
    if isSettled s p.seq then .next (pop s)
    else
      let e := entryOf s p.seq
      let o : JOutcome := {
        outcome := p.outcome, reason := p.reason, bind := p.bind, seq := p.seq, col := p.col, when' := s.now,
        grant := p.grant, client := (e.map JEntry.client).getD 0, data := p.data, void := false }
      let w := jWrite s (.outcome o) fail
      match w.2 with
      | .full => .next w.1
      | .failed =>
        .next (if p.own then pop { w.1 with journal := { w.1.journal with again := w.1.journal.again ++ [p] } } else pop w.1)
      | .written =>
        let s := pop w.1
        match e with
        | some e => .next (if (p.outcome = 1 ∨ p.outcome = 2) ∧ e.op = 2 then deviceApply s e else s)
        | none => .next s

/-- PERSISTENT_STORE (R316): the oldest applied write of a PERSISTENT entry that is not stored yet is stored with its SEQ. -/
def execPersistentStore (s : State) : Result :=
  if s.storeHot || !s.collectorUp then .next s
  else
    match s.journal.ring.findSome? fun p => p.2.outcome?.filter fun o => !jPasses s (.outcome o) with
    | none => .next s
    | some o =>
      match entryOf s o.seq with
      | none => .next s
      | some e =>
        let v := smapSet (fun _ => (0, [])) s.net.values (e.index * 256 + e.sub) (e.seq, e.value)
        .next (jFree { s with net := { s.net with values := v }, journal := { s.journal with stored := o.seq :: s.journal.stored } })

/-- A force of the next write's verify (R367). -/
def execJournalForceBank0 (by_ : By) (s : State) : Result :=
  .next (gated s by_ fun s => { s with journal := { s.journal with failNext := s.journal.failNext ||| 1 } })

/-- A force of the next write's verify (R367). -/
def execJournalForceBank1 (by_ : By) (s : State) : Result :=
  .next (gated s by_ fun s => { s with journal := { s.journal with failNext := s.journal.failNext ||| 2 } })

/-! ### The input snapshot (R44, R45, R359, R360) -/

/-- May the entry be served by the plan: not named-col, covered, not shed? -/
def servedEntry (s : State) (e : JEntry) : Bool :=
  e.index != 0x1001 && (s.manifest e.index e.sub).isSome && !s.isShed e.index e.sub

/-- Entries the col at count `c` may take (R44, R377). -/
def eligible (s : State) (c : Nat) : List JEntry :=
  (unsettled s).filter fun e => e.accept < c &&
    match s.journal.watershed with
    | some w => e.accept < w
    | none => true

/-- The entries whose values fit, and whether any had to wait (R45, R360). -/
def fitting : Nat → Nat → List JEntry → List (JEntry × Nat) × Bool
  | _, _, [] => ([], false)
  | 0, _, _ :: _ => ([], true)
  | k + 1, off, e :: l =>
    if 0x10000 < off + e.value.length then ([], true)
    else
      let r := fitting k ((off + e.value.length + 7) / 8 * 8) l
      ((e, off) :: r.1, r.2)

/-- Has an outcome of the entry been made void? -/
def wasVoided (s : State) (q : Nat) : Bool := (outcomesOf s q).any fun o => o.void

/-- A snapshot slot, little-endian (R360). -/
def slotBytes (s : State) (e : JEntry) (voff : Nat) : List Byte :=
  let le := fun (v n : Nat) => (beBytes v n).reverse
  let fl := (if e.seq < s.journal.replayBelow then 1 else 0) + (if wasVoided s e.seq then 2 else 0)
  le e.seq 8 ++ le e.accept 8 ++ le e.index 2 ++ le e.sub 1 ++ le e.op 1 ++ le e.client 2 ++ le e.value.length 2 ++ le fl 2 ++
    le 0 2 ++ le voff 4

/-- The journal part of the snapshot of col `n` at count `c`: settlements of the sequencer's own, then slots and values. COUNT
reads 0 until C + 400, when the word is written (R360). -/
def jSnapshot (s : State) (n c : Nat) : State :=
  let el := eligible s c
  let s := el.foldl (fun s e =>
    if e.index == 0x1001 then s
    else if (s.manifest e.index e.sub).isNone then ownPost s e.seq 6 n []
    else if s.isShed e.index e.sub then ownPost s e.seq 4 n [] else s) s
  let f := fitting 1024 0 (el.filter (servedEntry s))
  let m := clearBytes s.shared 0x1E7FE0 (0x200000 - 0x1E7FE0)
  let m := f.1.foldl (fun (p : List (Nat × Byte) × Nat) x =>
    (wrBytes (wrBytes p.1 (0x1E8000 + 32 * p.2) (slotBytes s x.1 x.2)) (0x1F0000 + x.2) x.1.value, p.2 + 1)) (m, 0) |>.1
  let s := { s with shared := m, journal := { s.journal with snap := f.1.map fun x => x.1.seq, postedNow := [] } }
  jShow (if f.2 then s.setBit Reg.TICK.STATUS.SNAP_FULL 0 true else s)

/-! ### Starting again (R363) -/

/-- Void every outcome record whose COL is greater than LAST_COMMIT. -/
def voidRec (last : Nat) (r : JRec) : JRec :=
  match r with
  | .outcome o => .outcome (if last < o.col && !o.void then { o with void := true } else o)
  | r => r

/-- The outcome records that a start makes void. -/
def newlyVoid (s : State) : List JOutcome :=
  (jRecords s).filterMap fun r => r.outcome?.filter fun o => !o.void && decide (s.journal.lastCommit < o.col)

/-- Step 3: after a power cycle without PCREPLAY every unsettled entry is settled EXPIRED with COL 0. -/
def expireAll (s : State) : State × Nat :=
  (unsettled s).foldl (fun (p : State × Nat) e =>
    let w := jWrite p.1 (.outcome {
      outcome := 7, reason := 0, bind := 0xFFFF, seq := e.seq, col := 0, when' := p.1.now, grant := 0,
      client := e.client, data := [], void := false }) 0
    if w.2 = .written then (w.1, p.2 + 1) else (w.1, p.2)) (s, 0)

/-- Records that fail in both copies are lost with FLT_JOURNAL_UNCORR (step 1); `bad` names them by their place. -/
def dropUncorr (s : State) (bad : List Nat) : State :=
  let hit := s.journal.ring.filter fun p => bad.contains p.1
  let keep := s.journal.ring.filter fun p => !bad.contains p.1
  let arch := ((s.journal.ring.take s.journal.archived).filter fun p => !bad.contains p.1).length
  hit.foldl (fun s p => raiseWith s Flt.JOURNAL.UNCORR noUnit 1 (BitVec.ofNat 48 p.1) false)
    { s with journal := { s.journal with ring := keep, archived := arch } }

/-- The journal start steps (R363): banks compared, voiding, expiry, the start marker, and replay of what is unsettled.
[log entry 121 DEDUCED] -/
def journalStart (s : State) (power : Bool) (bad : List Nat) : State :=
  let s := if power then s.setFlds [(Reg.JOURNAL.STATUS.BANK0_OK, 0, 1), (Reg.JOURNAL.STATUS.BANK1_OK, 0, 1), (Reg.JOURNAL.STATUS.SINGLE, 0, 0)] else s
  let s := dropUncorr s bad
  let voids := newlyVoid s
  let last := s.journal.lastCommit
  let s := { s with journal := { s.journal with
    ring := s.journal.ring.map fun p => (p.1, voidRec last p.2), archive := s.journal.archive.map (voidRec last),
    posts := [], postedNow := [], snap := [], again := [], watershed := none, failNext := 0,
    stored := s.journal.stored.filter fun q => !(voids.any fun o => o.seq == q) } }
  let x := if power && !s.bit Reg.JOURNAL.CFG.PCREPLAY 0 then expireAll s else (s, 0)
  let s := x.1
  let m : JStart := {
    kind := if power then 2 else 1, replay := (unsettled s).length, nextSeq := s.journal.nextSeq, start := s.now,
    voided := voids.length, expired := x.2 }
  let s := (jWrite s (.start m) 0).1
  let s := { s with journal := { s.journal with replayBelow := s.journal.nextSeq } }
  jShow ((s.satAdd Reg.JOURNAL.STARTCNT.VOIDED 0 voids.length).satAdd Reg.JOURNAL.STARTCNT.EXPIRED 0 x.2)

end Sys2Proof.Machine
end

