-- ==== Sys2Proof/Machine/Ledger.lean ====
section
/-!
DEFINITION. The harness energy ledger (R181 to R204): segment temperatures and budgets, supply inputs, lowering of
reservations, admission. Temperatures are exact until the one rounding that R188 names.
-/
namespace Sys2Proof.Machine

/-! ### 1 − e^(−t ÷ TAU) (R187) -/

/-- e^(−num ÷ den) in units of 2^−96, by a series of 32 terms on a 64th of the exponent. -/
def expNeg (num den : Nat) : Nat :=
  if 60 * den ≤ num then 0
  else
    let y := num * 2 ^ 96 / (den * 64)
    let step := fun (acc : Int × Nat) (k : Nat) =>
      let t : Nat := acc.2 * y / 2 ^ 96 / (k + 1)
      (if k % 2 = 0 then acc.1 - (t : Int) else acc.1 + (t : Int), t)
    let e := (upTo 32).foldl step ((2 ^ 96 : Int), 2 ^ 96)
    (upTo 6).foldl (fun v _ => v * v / 2 ^ 96) e.1.toNat

/-- a(num ÷ den) to the nearest 2^−32 (R187). -/
def decayNear (num den : Nat) : Nat := (2 ^ 96 - expNeg num den + 2 ^ 63) / 2 ^ 64

/-- a(num ÷ den) rounded up to a multiple of 2^−32 (R187). -/
def decayUp (num den : Nat) : Nat := (2 ^ 96 - expNeg num den + (2 ^ 64 - 1)) / 2 ^ 64

/-- The largest whole number whose square is at most `q`. -/
def floorSqrt (q : Rat) : Nat := Nat.sqrt q.floor.toNat

/-! ### The model (R181 to R187) -/

/-- Segment `i` of the model. -/
def Model.seg (m : Model) (i : Nat) : Segment :=
  m.segs.getD i { g20 := 0, tau := 100, tmax := 0, ambz := 0, alu := false, contrib := [] }

/-- The class continuous current of a load switch in 10 mA (R143). -/
def lswContinuous (n : Nat) : Nat := match lswClass n with | 2 => 4000 | 1 => 1200 | _ => 300

/-- The channel entry of the default model (R186). -/
def defaultEntry (c : Nat) : ChEntry :=
  { steady := if c < 96 then lswContinuous c else 0, inrush := 0, tInrush := 0, iMin := 0, induct := 0, efw := 0, prio := 1 }

/-- The channel entry of ledger channel `c` in the model in force. -/
def chEntry (s : State) (c : Nat) : ChEntry :=
  if s.bit Reg.LEDGER.STATUS.DEFAULT 0 then defaultEntry c else s.model.chans.getD c (defaultEntry c)

/-- The supply input of a ledger channel: 0 SUPA, 1 SUPB (R182). -/
def ledgerInput (c : Nat) : Nat := if c < 48 ∨ (112 ≤ c ∧ c < 116) then 0 else 1

/-- The counted reservation in mA of a reservation in 10 mA, rounded up (R182). [log entry 157 DEDUCED] -/
def counted (c r : Nat) : Nat :=
  let f := if 32 ≤ c ∧ c < 96 then 112 else 110
  (r * 10 * f + 99) / 100

/-- The path shares of every channel in each segment, segments in order (R183). -/
def pathShares (m : Model) : List (List (Nat × Rat)) :=
  m.segs.foldl (fun done g =>
    let part := fun (p : Nat × Nat) =>
      let sh : Rat := (p.2 : Rat) / 32768
      if p.1 < 0x100 then [(p.1, sh)]
      else if p.1 = 0x100 ∨ p.1 = 0x101 then ((upTo 120).filter fun c => ledgerInput c == p.1 - 0x100).map fun c => (c, sh)
      else (done.getD (p.1 - 0x200) []).map fun q => (q.1, q.2 * sh)
    done ++ [g.contrib.flatMap part]) []

/-- w(c, s): the sum of the shares of channel `c` among those of a segment (R183). -/
def shareOf (l : List (Nat × Rat)) (c : Nat) : Rat := ((l.filter fun p => p.1 == c).map (·.2)).sum

/-- The longest time a channel can draw through a controller reset, in counts: H(c) of R187. -/
def holdTime (s : State) (c : Nat) : Nat :=
  if c < 96 then s.effFld Reg.LSW.HOLD.HOLD c * 100000
  else if c < 112 then 10000000
  else if c < 116 then
    let b := c - 112
    let runs := ((upTo 16).map fun p => ucWord s b p).filter descValid |>.map descRunMax
    let hold := (bankChans b).map fun n => s.effFld Reg.VALVE.CFG.HOLDOVER n * 10
    (runs ++ hold).foldl max 0 * 100000
  else
    let h := (stageSinks (c - 116)).map fun n => s.effFld Reg.LIGHT.SINKCFG.HOLD n
    let h := if c = 117 then s.effFld Reg.LIGHT.MXRAIL.HOLD 0 :: h else h
    h.foldl max 0 * 100000

/-- Ambient of a zone in 1/64 °C. -/
def ambient (s : State) (z : Nat) : Int := signed 16 (s.fld Reg.LEDGER.AMB.TEMP z)

/-- The resistance coefficient per K (R187). -/
def Segment.kcoef (g : Segment) : Rat := if g.alu then 403 / 100000 else 393 / 100000

/-- G at a conductor temperature in °C, in K per A² (R187). -/
def Segment.gAt (g : Segment) (theta : Rat) : Rat := (g.g20 : Rat) / 2 ^ 24 * (1 + g.kcoef * (theta - 20))

/-- TMAX in °C. -/
def Segment.tmaxC (g : Segment) : Rat := (g.tmax : Rat) / 64

/-- G(TMAX). -/
def Segment.gmax (g : Segment) : Rat := g.gAt g.tmaxC

/-- The budget in mA for a horizon with factor `a` from temperature `theta` in °C (R188, R189). -/
def Segment.budget (g : Segment) (i : Nat) (a : Rat) (theta amb : Rat) : Nat :=
  let x := (g.tmaxC - theta) / a + theta - amb
  if g.tmaxC < theta ∨ x ≤ 0 then 0 else if g.gmax = 0 then Config.noHeatBudget i else floorSqrt (x / g.gmax * 1000000)

/-- The continuous budget in mA (R188, R189). -/
def Segment.cont (g : Segment) (i : Nat) (amb : Rat) : Nat :=
  if g.tmaxC ≤ amb then 0 else if g.gmax = 0 then Config.noHeatBudget i else floorSqrt ((g.tmaxC - amb) / g.gmax * 1000000)

/-- The horizon h_s of a segment in counts (R187). -/
def horizon (s : State) (w : List (Nat × Rat)) : Nat :=
  (w.map fun p => if p.2 = 0 then 0 else holdTime s p.1).foldl max (2 * s.seq.period)

/-- a(h_s) of a segment, rounded up (R187). -/
def Segment.aHor (g : Segment) (s : State) (w : List (Nat × Rat)) : Rat :=
  (decayUp (horizon s w) (g.tau * 100000) : Rat) / 2 ^ 32

/-! ### Supply inputs (R190) -/

/-- I_CONT of an input in mA. -/
def inCont (s : State) (a : Nat) : Nat := min (s.fld Reg.LEDGER.IN.I_CONT a) 125 * 1000

/-- I_PEAK of an input in mA; below I_CONT it is taken as I_CONT. -/
def inPeak (s : State) (a : Nat) : Nat := max (min (s.fld Reg.LEDGER.IN.I_PEAK a) 200 * 1000) (inCont s a)

/-- A_max in mA² counts. -/
def inAccMax (s : State) (a : Nat) : Nat := (inPeak s a ^ 2 - inCont s a ^ 2) * 100000000

/-- The overload account of an input. -/
def inAcc (s : State) (a : Nat) : Nat := if a = 0 then s.ledger.acc0 else s.ledger.acc1

/-- Replace the overload account of an input, at most A_max, and show it in A²s. -/
def setAcc (s : State) (a v : Nat) : State :=
  let v := min v (inAccMax s a)
  let s := if a = 0 then { s with ledger := { s.ledger with acc0 := v } } else { s with ledger := { s.ledger with acc1 := v } }
  s.setFld Reg.LEDGER.INSTAT.ACCOUNT a (min (v / (1000000 * 100000000)) 0xFFFF)

/-- The channels on an input; the odd member of a pair is left out (R218). -/
def inputChans (s : State) (a : Nat) : List Nat :=
  (upTo 120).filter fun c => ledgerInput c == a && !(96 ≤ c && c < 112 && c % 2 == 1 && hbPaired s (c - 96))

/-- h_in in counts (R190). -/
def inHorizon (s : State) (a : Nat) : Nat :=
  (((upTo 120).filter fun c => ledgerInput c == a).map (holdTime s)).foldl max (2 * s.seq.period)

/-- The input budget in mA (R190). -/
def inBudget (s : State) (a : Nat) : Nat :=
  let spare : Rat := ((inAccMax s a - inAcc s a : Nat) : Rat) / (inHorizon s a : Rat)
  min (inPeak s a) (floorSqrt ((inCont s a ^ 2 : Nat) + spare))

/-! ### Reservations -/

/-- The present reservation of a channel in 10 mA: the inrush value while its window is open. -/
def resv (s : State) (c : Nat) : Nat := s.fld Reg.LEDGER.RESV.RESV c

/-- Load switch limit code of a reservation in 10 mA, rounded down (R143, R197). -/
def lswCode (n r : Nat) : Nat :=
  match lswClass n with | 2 => r / 50 | 1 => r * 2 / 25 | _ => r * 4 / 25

/-- Reservation ÷ 0.125 A, rounded down (R210, R254, R281). -/
def eighthCode (r : Nat) : Nat := r * 2 / 25

/-- The limit ends: LSW ILIM codes by class (R143). -/
def lswIlimEnds (n : Nat) : Nat × Nat := match lswClass n with | 2 => (20, 240) | 1 => (24, 255) | _ => (8, 144)

/-- The bank's reservation fell to zero: running profiles go to a fast release, queued starts are dropped (R254). -/
def bankZero (s : State) (b : Nat) : State :=
  let x := stepAt s.now
  bankSwitch (s.each (fun s n => vdDrop (vdToRelease s n x true) n) (bankChans b)) b

/-- Bring the effective limit of a unit to its reservation, and the unit with it (R162, R192, R197, R219, R254, R281). -/
def ledgerEff (s : State) (c : Nat) : State :=
  let r := resv s c
  if c < 96 then
    let code := lswCode c r
    let lim := s.effFld Reg.LSW.ILIM.ILIM c
    lswApply (s.setFlds [(Reg.LSW.ILIMEFF.EFF, c, min code lim), (Reg.LSW.ILIMEFF.BUDGET_LOW, c, if code < lim then 1 else 0)]) c
  else if c < 112 then hbApply s (hbMaster s (c - 96))
  else if c < 116 then
    let b := c - 112
    let lim := s.effFld Reg.VALVE.BANKCFG.ILIM b
    let s := s.setFlds [(Reg.VALVE.BANKEFF.EFF, b, min (eighthCode r) lim),
      (Reg.VALVE.BANKEFF.BUDGET_LOW, b, if eighthCode r < lim then 1 else 0)]
    if r = 0 then bankZero s b else bankSwitch s b
  else
    let g := c - 116
    let lim := s.effFld Reg.LIGHT.STAGECFG.ILIM g
    let s := s.setFlds [(Reg.LIGHT.STAGEEFF.EFF, g, min (eighthCode r) lim),
      (Reg.LIGHT.STAGEEFF.BUDGET_LOW, g, if eighthCode r < lim then 1 else 0)]
    let s := stageApply s g
    if g = 1 then matrixApply s else s

/-- Mark a unit as cut by the ledger, or not (R192, R219, R254, R281). -/
def ledgerCap (s : State) (c : Nat) (b : Bool) : State :=
  if c < 96 then s.setBit Reg.LSW.STAT.LEDGER_CAP c b
  else if c < 112 then s.setBit Reg.HBR.STAT.LEDGER_CAP (c - 96) b
  else if c < 116 then s.setBit Reg.VALVE.BANKSTAT.LEDGER_CAP (c - 112) b
  else (s.setBit Reg.LIGHT.STAGESTAT.LEDGER_CAP (c - 116) b).each
    (fun s n => s.setBit Reg.LIGHT.SINKSTAT.LEDGER_CAP n b) (stageSinks (c - 116))

/-- A channel holds no reservation. -/
def releaseResv (s : State) (c : Nat) : State :=
  let s := s.setLedger1 c LedgerCh.init
  ledgerEff (s.setFlds [(Reg.LEDGER.RESV.RESV, c, 0), (Reg.LEDGER.RESV.INRUSH, c, 0)]) c

/-- Lower a channel's reservation to `r`, and report it (R192). -/
def lowerTo (s : State) (c r : Nat) : State :=
  let v := s.ledger1 c
  let s := s.setLedger1 c { v with steady := min v.steady r, inrush := min v.inrush r }
  let s := s.setFlds [(Reg.LEDGER.RESV.RESV, c, r), (Reg.LEDGER.RESV.LOWERED, c, 1)]
  ledgerEff (ledgerCap s c true) c

/-- The order in which channels are lowered: PRIO 1 to 255, then 0, and by number (R191). -/
def lowerOrder (s : State) (cs : List Nat) : List Nat :=
  let key := fun c => if (chEntry s c).prio = 0 then 256 else (chEntry s c).prio
  cs.mergeSort fun a b => key a < key b || (key a == key b && a ≤ b)

/-- The sum of w × counted reservation of a set of channels, in mA (R191). -/
def countedSum (s : State) (w : List (Nat × Rat)) : Rat :=
  (w.map fun p => p.2 * (counted p.1 (resv s p.1) : Rat)).sum

/-- Lower one channel as far as the remaining excess needs, but not below `least` (R191). [log entry 67 DEDUCED] -/
def lowerOne (w : List (Nat × Rat)) (bud : Nat) (least : Nat → Nat) (s : State) (c : Nat) : State :=
  let excess := countedSum s w - bud
  let sh := shareOf w c
  let r := resv s c
  if excess ≤ 0 ∨ sh ≤ 0 ∨ r ≤ least c then s
  else
    let f : Rat := if 32 ≤ c ∧ c < 96 then 112 / 100 else 110 / 100
    let fit := (((counted c r : Rat) - excess / sh).floor / (10 * f)).floor.toNat
    let s := lowerTo s c (max fit (least c))
    raiseFault s Flt.LEDGER.LOWER c 0

/-- Lower the reservations on a segment or input until they fit its budget, in the two rounds of R191. -/
def lowerSet (s : State) (w : List (Nat × Rat)) (bud : Nat) : State :=
  let order := lowerOrder s (w.map (·.1)).eraseDups
  order.foldl (lowerOne w bud fun _ => 0) (order.foldl (lowerOne w bud fun c => (chEntry s c).iMin) s)

/-! ### The update at a col (R188 to R192, R199) -/

/-- The current a ledger channel delivers for the tick just ended, in mA (R188, R158, R218, R254, R281). -/
def curOf (s : State) (m : LedgerIn) (c : Nat) : Rat :=
  if c < 96 then
    let u : Rat := match lswClass c with | 2 => 40 | 1 => 10 | _ => 5 / 2
    let lim : Rat := match lswClass c with | 2 => 500 | 1 => 125 | _ => 125 / 2
    if !s.bit Reg.LSW.IMEAS.VALID c && s.bit Reg.LSW.STAT.ON c then (s.fld Reg.LSW.ILIMEFF.EFF c : Rat) * lim
    else (s.fld Reg.LSW.IRMS.CODE c : Rat) * u
  else if c < 112 then
    let n := hbMaster s (c - 96)
    if s.bit Reg.HBR.STAT.IVALID n then (s.fld Reg.HBR.IMEAS.IRMS n : Rat) * 5
    else (min (s.effFld Reg.HBR.CTRL.ICHOP n) (eighthCode (resv s (96 + n))) : Nat) * 125
  else if c < 116 then
    let b := c - 112
    let i : Rat := if (bankChans b).any fun n => s.bit Reg.VALVE.IMEAS.VALID n then (s.fld Reg.VALVE.BANKSTAT.IRMS b : Rat) * 10
      else (s.fld Reg.VALVE.BANKEFF.EFF b : Rat) * 125
    if c = 112 then i + m.pks else i
  else
    let g := c - 116
    let i : Rat := if s.bit Reg.LIGHT.STAGESTAT.IVALID g then (s.fld Reg.LIGHT.STAGEMEAS.IIN g : Rat) * 10
      else (s.fld Reg.LIGHT.STAGEEFF.EFF g : Rat) * 125
    if c = 117 then i + m.matrix else i

/-- The currents i_s of the segments, in mA, in order: contributors may be earlier segments (R188). -/
def segCurrents (cur : Nat → Rat) (sup : Nat → Rat) (m : Model) : List Rat :=
  m.segs.foldl (fun done g =>
    done ++ [(g.contrib.map fun p =>
      (p.2 : Rat) / 32768 *
        (if p.1 < 0x100 then cur p.1 else if p.1 < 0x200 then sup (p.1 - 0x100) else done.getD (p.1 - 0x200) 0)).sum]) []

/-- The temperature of segment `i` in 1/64 °C. -/
def segTheta (s : State) (i : Nat) : Int := signed 16 (s.fld Reg.LEDGER.SEG_THETA.THETA i)

/-- One step of a segment's temperature with factor `a`, rounded up to 1/64 K (R188). -/
def Segment.heat (g : Segment) (a : Rat) (theta amb : Int) (mA : Rat) : Int :=
  let t : Rat := (theta : Rat) / 64
  let i := mA / 1000
  ((t + a * ((amb : Rat) / 64 + g.gAt t * i * i - t)) * 64).ceil

/-- Store the results of one segment (R188, R203). -/
def segStore (s : State) (i : Nat) (g : Segment) (w : List (Nat × Rat)) (theta : Int) (mA : Rat) : State :=
  let amb : Rat := (ambient s g.ambz : Rat) / 64
  let t : Rat := (theta : Rat) / 64
  let head := if g.gmax = 0 then Config.noHeatBudget i
    else (max 0 ((g.tmaxC - t) * ((g.tau : Rat) / 1000) / g.gmax * 100)).floor.toNat
  s.setFlds [(Reg.LEDGER.SEG_THETA.THETA, i, unsigned 16 theta), (Reg.LEDGER.SEG_I.I, i, mA.floor.toNat),
    (Reg.LEDGER.SEG_BUD.BUD, i, g.budget i (g.aHor s w) t amb), (Reg.LEDGER.SEG_HEAD.HEAD, i, min head 0xFFFFFFFF)]

/-- Every segment takes one temperature step of `dt` counts with the given currents; an armed segment trip makes its
segment TMAX + 1 K (R188, R203). -/
def segStep (s : State) (dt : Nat) (cur sup : Nat → Rat) : State :=
  let ws := pathShares s.model
  let is' := segCurrents cur sup s.model
  (upTo s.model.segs.length).foldl (fun s i =>
    let g := s.model.seg i
    let a : Rat := (decayNear dt (g.tau * 100000) : Rat) / 2 ^ 32
    let theta := if s.ledger.trip ∧ s.fld Reg.LEDGER.FORCE.SEG 0 = i then g.tmax + 64
      else g.heat a (segTheta s i) (ambient s g.ambz) (is'.getD i 0)
    segStore s i g (ws.getD i []) theta (is'.getD i 0)) s

/-- A segment above TMAX has no budget, and every channel on it goes to zero (R192); FLT_LEDGER_SEGTRIP is raised as its
temperature, `was` before, passes TMAX, marked for the segment of an armed force (R203, R470). -/
def segTrips (s : State) (was : Nat → Int) (forced : Option Nat) : State :=
  (upTo s.model.segs.length).foldl (fun s i =>
    if (s.model.seg i).tmax < segTheta s i ∧ was i ≤ (s.model.seg i).tmax then
      raiseWith (s.satAdd Reg.LEDGER.STATUS.SEGTRIPS 0 1) Flt.LEDGER.SEGTRIP i 1 (detail8 i) (forced == some i)
    else s) s

/-- Segments, then supply inputs, are brought within their budgets (R191). -/
def lowerAll (s : State) : State :=
  let ws := pathShares s.model
  let s := (upTo s.model.segs.length).foldl (fun s i => lowerSet s (ws.getD i []) (s.fld Reg.LEDGER.SEG_BUD.BUD i)) s
  [0, 1].foldl (fun s a => lowerSet s ((inputChans s a).map fun c => (c, 1)) (inBudget s a)) s

/-- One step of a supply input's account over `dt` counts with a current in mA; at A_max FLT_LEDGER_INPUT is raised
(R190). [log entry 66 DEDUCED] -/
def inputStep (s : State) (dt : Nat) (a : Nat) (mA : Nat) : State :=
  let old := inAcc s a
  let v : Int := (old : Int) + ((mA : Int) ^ 2 - (inCont s a : Int) ^ 2) * dt
  let s := setAcc s a v.toNat
  if inAcc s a = inAccMax s a ∧ old < inAccMax s a then raiseFault s Flt.LEDGER.INPUT a 0 else s

/-- Show an input's budget, its reservations and its current (R203). -/
def inputShow (s : State) (a mA : Nat) : State :=
  let r := ((inputChans s a).map fun c => counted c (resv s c)).sum
  s.setFlds [(Reg.LEDGER.INSTAT.BUDGET, a, inBudget s a / 100), (Reg.LEDGER.INMEAS.RESV, a, r / 100),
    (Reg.LEDGER.INMEAS.I, a, mA / 100)]

/-- The slow time base in its own counts of 32,768 per second. -/
def slowNow (s : State) : Nat := s.slowBase + (s.now - s.slowRef) * 32768 / 100000000

/-- The ledger's state is written to D-KEEP with the slow time base (R199). [log entry 69 DEDUCED] -/
def ledgerRetain (s : State) : State := { s with ledger := { s.ledger with stamp := some (s.model.id, slowNow s) } }

/-! ### Admission (R193 to R196) -/

/-- The sum of w × counted reservation on a set, with channel `c` at `rc` and the others at what `f` gives.
[log entry 65 DEDUCED] -/
def sumWith (w : List (Nat × Rat)) (c rc : Nat) (f : Nat → Nat) : Rat :=
  (w.map fun p => p.2 * ((if p.1 = c then counted c rc else counted p.1 (f p.1) : Nat) : Rat)).sum

/-- The first check that fails for channel `c` at steady `st` and inrush `ir` for `ti` (0.1 ms; 0 without inrush): reason
code and what binds (R194). A segment whose budget is zero gives reason 6. [log entry 63 DEDUCED] -/
def admitCheck (s : State) (c st ir ti : Nat) : Option (Nat × Nat) :=
  let ws := (pathShares s.model).zipIdx.filter fun p => shareOf p.1 c != 0
  let steady := fun d => (s.ledger1 d).steady
  let now' := fun d => resv s d
  let why := fun (r i : Nat) => some (if s.fld Reg.LEDGER.SEG_BUD.BUD i = 0 then 6 else r, i)
  let amb := fun (g : Segment) => (ambient s g.ambz : Rat) / 64
  let theta := fun i => (segTheta s i : Rat) / 64
  let aTi := fun (g : Segment) => (decayUp (ti * 10000) (g.tau * 100000) : Rat) / 2 ^ 32
  let fail1 := ws.find? fun p => !decide (sumWith p.1 c st steady ≤ (s.model.seg p.2).cont p.2 (amb (s.model.seg p.2)))
  let fail2 := if ti = 0 then none else ws.find? fun p =>
    let g := s.model.seg p.2
    !decide (sumWith p.1 c ir now' ≤ g.budget p.2 (aTi g) (theta p.2) (amb g))
  let fail3 := ws.find? fun p =>
    let g := s.model.seg p.2
    let i' := sumWith p.1 c ir now' / 1000
    let t' := if ti = 0 then theta p.2 else theta p.2 + aTi g * (amb g + g.gmax * i' * i' - theta p.2)
    !decide (sumWith p.1 c st steady ≤ g.budget p.2 (g.aHor s p.1) t' (amb g))
  let a := ledgerInput c
  let onIn := (inputChans s a).map fun d => (d, (1 : Rat))
  let e := chEntry s c
  if s.bit Reg.LEDGER.STATUS.DEFAULT 0 ∧ e.steady < st then some (1, 0xFF)
  else match fail1 with
  | some p => why 1 p.2
  | none => match fail2 with
    | some p => why 2 p.2
    | none => match fail3 with
      | some p => why 3 p.2
      | none =>
        if (inBudget s a : Rat) < sumWith onIn c ir now' then some (4, 0xF0 + a)
        else if e.induct ≠ 0 ∧ e.efw * 20000000 < e.induct * ir * ir then some (5, 0xFF)
        else none

/-- The pairs of steady and inrush values tried after the requested one fails: the inrush value falls to the steady
one in steps of 10 mA, then the steady one falls to I_MIN (R195). [log entry 64 DEDUCED] -/
def admitTries (st ir iMin : Nat) : List (Nat × Nat) :=
  (upTo (ir - st)).map (fun k => (st, ir - 1 - k)) ++ (upTo (st - iMin)).map fun k => (st - 1 - k, st - 1 - k)

/-- A word of ADMIT_RES (R203). -/
def admitWord (result reason bind grant : Nat) : Word32 :=
  BitVec.ofNat 32 (2 ^ 31 + result * 2 ^ 28 + reason * 2 ^ 24 + bind * 2 ^ 16 + grant % 2 ^ 16)

/-- A grant takes effect at once in every sum, and opens the inrush window (R195, R196). -/
def grant (s : State) (c st ir ti : Nat) : State :=
  let inr := decide (ti ≠ 0) && decide (st < ir)
  let s := s.setLedger1 c { steady := st, inrush := if inr then ir else st, tInr := if inr then ti else 0, fresh := true, until' := none }
  let s := s.setFlds [(Reg.LEDGER.RESV.RESV, c, if inr then ir else st), (Reg.LEDGER.RESV.INRUSH, c, if inr then 1 else 0)]
  ledgerEff (ledgerCap s c false) c

/-- The answer to an admission request, and the state with its grant (R194, R195, R203). -/
def ledgerAdmit (s : State) (c ist : Nat) : State × Word32 :=
  if 120 ≤ c then (s, admitWord 3 7 0xFF 0)
  else
    let e := chEntry s c
    let st := if ist = 0 then e.steady else ist
    let useInr := decide (e.tInrush ≠ 0) && decide (st < e.inrush)
    let ir := if useInr then e.inrush else st
    let ti := if useInr then e.tInrush else 0
    match admitCheck s c st ir ti with
    | none => (grant s c st ir ti, admitWord 1 0 0xFF st)
    | some (reason, bind) =>
      match (admitTries st ir e.iMin).find? fun p => (admitCheck s c p.1 p.2 (if p.1 < p.2 then ti else 0)).isNone with
      | some p => (grant s c p.1 p.2 (if p.1 < p.2 then ti else 0), admitWord 2 reason bind p.1)
      | none => (s, admitWord 3 reason bind 0)

/-- An answer for a lane, readable at a count; it replaces the lane's earlier one (R193). -/
def putAnswer (s : State) (lane at' : Nat) (w : Word32) : State :=
  { s with ledger := { s.ledger with answers := (s.ledger.answers.filter fun p => p.1 != lane) ++ [(lane, at', w)] } }

/-- What ADMIT_RESn shows: VALID 0 until the answer is due (R193). -/
def admitShown (s : State) (lane : Nat) : Word32 :=
  match s.ledger.answers.find? fun p => p.1 == lane with
  | some (_, at', w) => if at' ≤ s.now then w else 0
  | none => 0

/-- Requests that took effect before the update are answered after it, in physical lane order (R193). -/
def answerWaiting (s : State) : State :=
  let w := s.ledger.waiting.mergeSort fun a b => a.1 ≤ b.1
  w.foldl (fun s r => let (s, a) := ledgerAdmit s r.2.1 r.2.2; putAnswer s r.1 (s.colCount + 408) a)
    { s with ledger := { s.ledger with waiting := [] } }

/-- LEDGER_UPDATE (R188 to R192, R199): the update of the col, the lowering, the requests that waited for it. -/
def execLedgerUpdate (m : LedgerIn) (s : State) : Result :=
  if !s.planRuns || s.ledger.updated then .next s
  else
    let s := s.reach (s.colCount + 400)
    let cur := curOf s m
    let sup := fun a => if a = 0 then (m.supA : Rat) else m.supB
    let was := segTheta s
    let forced := if s.ledger.trip then some (s.fld Reg.LEDGER.FORCE.SEG 0) else none
    let s := segStep s s.seq.period cur sup
    let s := inputStep (inputStep s s.seq.period 0 m.supA) s.seq.period 1 m.supB
    let s := lowerAll (segTrips { s with ledger := { s.ledger with trip := false } } was forced)
    let s := ledgerRetain (inputShow (inputShow s 0 m.supA) 1 m.supB)
    let s := answerWaiting { s with ledger := { s.ledger with updated := true } }
    .next (if m.inTime then s else raiseFault s Flt.TICK.UNITLATE noUnit 2)

/-- The ledger answers requests: a plan runs and D-LOGIC is up. -/
def ledgerUp (s : State) : Bool := s.planRuns && s.dom.logic

/-- LEDGER_ADMIT (R193 to R197): judged at once, or after the update when the request came before C + 400; the answer is
readable 8 counts later, or at C + 408. -/
def execLedgerAdmit (lane : Fin 4) (ch : BitVec 7) (ist : BitVec 16) (s : State) : Result :=
  if !ledgerUp s then .next s
  else if !s.ledger.updated then
    .next { s with ledger := { s.ledger with
      waiting := (s.ledger.waiting.filter fun r => r.1 != lane.val) ++ [(lane.val, ch.toNat, ist.toNat)],
      answers := s.ledger.answers.filter fun p => p.1 != lane.val } }
  else
    let (s, w) := ledgerAdmit s ch.toNat ist.toNat
    .next (putAnswer s lane.val (s.now + 8) w)

/-- LEDGER_RELEASE (R196): frees the channel's reservation at once. -/
def execLedgerRelease (lane : Fin 4) (ch : BitVec 7) (s : State) : Result :=
  if !ledgerUp s then .next s
  else if 120 ≤ ch.toNat then .next (putAnswer s lane.val (s.now + 8) (admitWord 3 7 0xFF 0))
  else .next (putAnswer (settleRaises (releaseResv s ch.toNat)) lane.val (s.now + 8) (admitWord 4 0 0xFF 0))

/-- INRUSH_END (R196): t_i after the switch-on edge the window closes, and the limit falls to the steady reservation. -/
def execInrushEnd (ch : Fin 120) (s : State) : Result :=
  let v := s.ledger1 ch.val
  match v.until' with
  | none => .next s
  | some u =>
    let s := (s.reach u).setLedger1 ch.val { v with until' := none, inrush := v.steady }
    .next (settleRaises (ledgerEff (s.setFlds [(Reg.LEDGER.RESV.INRUSH, ch.val, 0), (Reg.LEDGER.RESV.RESV, ch.val, v.steady)]) ch.val))

/-- LEDGER_FORCE_SEGTRIP (R203): the next update takes θ[SEG] as TMAX + 1 K. -/
def execLedgerForceSegtrip (by_ : By) (seg : Byte) (s : State) : Result :=
  .next (gated s by_ fun s => { s with ledger := { s.ledger with trip := true } }.setFld Reg.LEDGER.FORCE.SEG 0 seg.toNat)

/-! ### First col after a start (R200 to R202) -/

/-- The age of the retained state in slow counts. -/
def ledgerAge (s : State) : Option Nat := s.ledger.stamp.map fun p => slowNow s - p.2

/-- Does the retained state resume (R200)? -/
def ledgerResumes (s : State) : Bool :=
  match s.ledger.stamp with
  | none => false
  | some (id, t) => id == s.model.id && decide (slowNow s - t < s.fld Reg.LEDGER.CFG.VALID_S 0 * 32768)

/-- Cold start (R200): every segment at the hottest die reference plus 25 K, accounts full, no reservation. -/
def ledgerCold (s : State) : State :=
  let hot := s.dieRef.foldl (fun m p => max m p.2) (-3520) + 25 * 64
  let s := (upTo s.model.segs.length).foldl (fun s i =>
    segStore s i (s.model.seg i) ((pathShares s.model).getD i []) hot 0) s
  let s := [0, 1].foldl (fun s a => setAcc s a (inAccMax s a)) s
  let s := (s.each releaseResv (upTo 120)).setBit Reg.LEDGER.STATUS.COLD 0 true
  raiseFault s Flt.LEDGER.COLD noUnit 0

/-- Is the unit of a channel left on by the reclaim (R200)? -/
def unitOn (s : State) (c : Nat) : Bool :=
  if c < 96 then s.bit Reg.LSW.STAT.ON c || s.effBit Reg.LSW.CTRL.EN c
  else if c < 112 then s.bit Reg.HBR.STAT.DRIVING (c - 96)
  else if c < 116 then s.bit Reg.VALVE.BANKSTAT.ACTIVE (c - 112)
  else s.effBit Reg.LIGHT.STAGECTRL.EN (c - 116)

/-- Resume (R200, R202): one step of the state's age with every channel at its counted retained reservation. -/
def ledgerResume (s : State) (age : Nat) : State :=
  let dt := age * 100000000 / 32768
  let cur := fun c => (counted c (resv s c) : Rat)
  let total := fun a => ((inputChans s a).map fun c => counted c (resv s c)).sum
  let sup := fun a => (total a : Rat)
  let (ta, tb) := (total 0, total 1)
  let s := segStep s dt cur sup
  let s := inputStep (inputStep s dt 0 ta) dt 1 tb
  let s := segTrips (s.setBit Reg.LEDGER.STATUS.COLD 0 false) (fun i => (s.model.seg i).tmax) none
  lowerAll (s.each (fun s c => if unitOn s c then s else releaseResv s c) (upTo 120))

/-- The ledger at the first col after a controller reset, power cycle or valley exit (R200). -/
def ledgerFirst (s : State) : State :=
  let ms := match ledgerAge s with | none => 0xFFFFFFFF | some a => min (a * 1000 / 32768) 0xFFFFFFFF
  let s := s.setFld Reg.LEDGER.AGE.VALUE 0 ms
  let s := match ledgerAge s with
    | some a => if ledgerResumes s then ledgerResume s a else ledgerCold s
    | none => ledgerCold s
  ledgerRetain s

end Sys2Proof.Machine
end

