-- ==== Sys2Proof/Machine/LoadSwitch.lean ====
section
/-!
DEFINITION. The protected load switches (R143 to R180): commits, pulse groups, pin mode, sensing, protections, retries,
the free-wheel test, hold-over.
-/
namespace Sys2Proof.Machine

/-! ### Class figures (R143) -/

/-- Minimum on- or off-window of a pulse group in counts. -/
def lswMinWindow (n : Nat) : Nat := match lswClass n with | 2 => 10000 | 1 => 4000 | _ => 2000

/-- Free-wheel test minimum current in mA. -/
def lswFwMin (n : Nat) : Nat := match lswClass n with | 2 => 200 | 1 => 50 | _ => 10

/-- Fall-back LSB in units of 0.5 mA. -/
def lswFbLsb (n : Nat) : Nat := match lswClass n with | 2 => 80 | 1 => 20 | _ => 5

/-- Unit of IMEAS in units of 0.25 mA. -/
def lswUnit (n : Nat) : Nat := match lswClass n with | 2 => 16 | 1 => 4 | _ => 1

/-- Mirror ratio K. -/
def lswMirror (n : Nat) : Nat := match lswClass n with | 2 => 30000 | 1 => 8000 | _ => 2000

/-- Period of a pulse group in counts; below 50 µs taken as 50 (R146, R180). -/
def groupPeriod (s : State) (g : Nat) : Nat := max (s.effFld Reg.LSW.PGPER.PERIOD g) 50 * 100

/-- On-window of a channel in counts (R147); DUTY above 1,024 is taken as 1,024. -/
def lswWindow (s : State) (n : Nat) : Nat :=
  min (s.effFld Reg.LSW.CTRL.DUTY n) 1024 * groupPeriod s (s.effFld Reg.LSW.CTRL.GROUP n) / 1024

/-- The committed values clip: an on-window or off-window is shorter than the class minimum (R148). -/
def lswClips (s : State) (n : Nat) : Bool :=
  let on := lswWindow s n
  let per := groupPeriod s (s.effFld Reg.LSW.CTRL.GROUP n)
  lswPulsed s n && s.effBit Reg.LSW.CTRL.EN n &&
    ((decide (0 < on) && decide (on < lswMinWindow n)) || (decide (on < per) && decide (per - on < lswMinWindow n)))

/-! ### Commits (R144 to R150, R165, R169, R175, R196) -/

/-- A channel's committed command changes from `old` to `new`, the words of CTRL (R144 to R150, R165). -/
def lswCommit (s : State) (n : Nat) (new : Word32) : State :=
  let oldEn := s.effBit Reg.LSW.CTRL.EN n
  let oldGroup := s.effFld Reg.LSW.CTRL.GROUP n
  let s := s.setEffWord (Reg.LSW.CTRL.REG.off n) new
  let c := s.lswCh n
  let en := s.effBit Reg.LSW.CTRL.EN n
  let renew := !oldEn || oldGroup != s.effFld Reg.LSW.CTRL.GROUP n
  let keepSafe := s.zoneSafe || held s (.lsw n)
  let s := if keepSafe then s else s.setBit Reg.LSW.STAT.SAFE n false
  let c := { c with win := c.win && en && !renew, prot := c.prot && (en || (keepSafe && s.effFld Reg.LSW.CFG.SAFE n == 1)) }
  let s := s.setLsw n c
  let s := s.setFlds [(Reg.LSW.STAT.RETRY_PEND, n, if c.prot ∧ !s.bit Reg.LSW.STAT.LOCKED n then 1 else 0),
    (Reg.LSW.STAT.PULSE_CLIP, n, if lswClips s n then 1 else 0),
    (Reg.LSW.STAT.DIN_ACTIVE, n, if dinActive s n then 1 else 0)]
  let v := s.ledger1 n
  let s := if v.fresh then (if en then s.setLedger1 n { v with fresh := false } else releaseResv s n) else s
  lswApply s n

/-- PULSE_GROUP_PHASE_POINT for a load switch (R147, R148, R166): at the phase point the committed values take effect and
the on-window starts, unless it is empty or too short; a full window never ends. -/
def lswPhasePoint (s : State) (n : Nat) (start : Bool) : State :=
  let on := lswWindow s n
  let per := groupPeriod s (s.effFld Reg.LSW.CTRL.GROUP n)
  let short := decide (on < lswMinWindow n)
  let full := decide (per ≤ on) || decide (per - on < lswMinWindow n)
  let c := s.lswCh n
  let win := if start then !short && s.effBit Reg.LSW.CTRL.EN n else c.win && full
  lswApply (s.setLsw n { c with win := win }) n

/-! ### Protective switch-off and retries (R161 to R167) -/

/-- RETRY_LEFT refilled to RETRY_MAX; the on-time count restarts (R167). -/
def lswRefill (s : State) (n : Nat) : State :=
  let s := s.setFld Reg.LSW.RETRY.RETRY_LEFT n (s.effFld Reg.LSW.RETRY.RETRY_MAX n)
  s.setLsw n { s.lswCh n with onTime := 0, onSince := s.now }

/-- In a lit configured safe state, which stands in for a committed EN = 1 (R165). -/
def lswLit (s : State) (n : Nat) : Bool := s.bit Reg.LSW.STAT.SAFE n && s.effFld Reg.LSW.CFG.SAFE n == 1

/-- A protective switch-off (R165 to R167): off at once, also in the pulse of a free-wheel test, with the committed state
kept; a restart is pending while retries remain, and with none left the channel locks and FLT_LSW_LOCKOUT is raised.
[log entry 52 DEDUCED] -/
def lswProtect (s : State) (n : Nat) (forced : Bool) : State :=
  let stays := s.effBit Reg.LSW.CTRL.EN n || lswLit s n
  let s := s.setLsw n { s.lswCh n with prot := stays, offAt := s.now, fwBusy := false }
  let s := lswApply s n
  let s := s.setLsw n { s.lswCh n with onTime := 0 }
  if s.fld Reg.LSW.RETRY.RETRY_LEFT n = 0 then
    let s := lswApply (s.setFlds [(Reg.LSW.STAT.LOCKED, n, 1), (Reg.LSW.STAT.RETRY_PEND, n, 0)]) n
    raiseWith s Flt.LSW.LOCKOUT n 1 0 forced
  else settleRaises (s.setBit Reg.LSW.STAT.RETRY_PEND n stays)

/-- The channel's switch conducts, so that a current or thermal protection can meet it. -/
def lswConducts (s : State) (n : Nat) : Bool := s.bit Reg.LSW.STAT.ON n

/-- A trip: its event bit, its counter, the protective switch-off and its source (R161). [log entry 53 DEDUCED] -/
def lswTrip (s : State) (n : Nat) (ev cnt : Field) (src : Nat) (forced : Bool) : State :=
  let s := (s.setBit ev n true).satAdd cnt n 1
  raiseWith (lswProtect s n forced) src n 0 0 forced

/-- LIMIT_TIMEOUT (R161): only while limiting, and not with TLIM 0. -/
def execLimitTimeout (n : Fin 96) (s : State) : Result :=
  .next (if s.bit Reg.LSW.STAT.IN_LIMIT n.val && s.effFld Reg.LSW.ILIM.TLIM n.val != 0 then
    lswTrip s n.val Reg.LSW.STAT.EV_LIMTO Reg.LSW.EVCOUNT.LIMTO Flt.LSW.LIMTO false else s)

/-- HARD_SHORT (R161). [log entry 57 DEDUCED] -/
def execHardShort (n : Fin 96) (s : State) : Result :=
  .next (if lswConducts s n.val then
    lswTrip s n.val Reg.LSW.STAT.EV_SHORT Reg.LSW.EVCOUNT.SHORT Flt.LSW.SHORT false else s)

/-- A thermal trip sets the thermal latch and switches off (R161, R164). -/
def lswThermal (s : State) (n : Nat) (forced : Bool) : State :=
  lswTrip (s.setBit Reg.LSW.STAT.TLATCH n true) n Reg.LSW.STAT.EV_THERM Reg.LSW.EVCOUNT.THERM Flt.LSW.THERM forced

/-- OVER_TEMPERATURE_TRIP (R161, R164): by junction temperature or by difference from the die reference. -/
def execOverTemperatureTrip (n : Fin 96) (s : State) : Result :=
  .next (if s.allOff then s else lswThermal s n.val false)

/-- CURRENT_LIMIT (R161): the current is held at the effective limit, or no longer. -/
def execCurrentLimit (n : Fin 96) (limiting : Bool) (s : State) : Result :=
  .next (s.setBit Reg.LSW.STAT.IN_LIMIT n.val (limiting && lswConducts s n.val))

/-- OPEN_LOAD_ON (R161, R163): reported, the channel stays on; not with IOL 0. [log entry 58 DEDUCED] -/
def execOpenLoadOn (n : Fin 96) (s : State) : Result :=
  .next (if lswConducts s n.val && s.effFld Reg.LSW.ILIM.IOL n.val != 0 then
    raiseFault (s.setBit Reg.LSW.STAT.EV_OPEN_ON n.val true) Flt.LSW.OPEN n.val 0 else s)

/-- OFF_STATE_DIAG (R161, R163): with OFFDIAG, the output of an off channel between 1.5 V and 6.0 V is an open load, above
6.0 V a short to battery; below, the load is present. `vout` is in mV. -/
def execOffStateDiag (n : Fin 96) (vout : Int) (s : State) : Result :=
  .next (if s.effBit Reg.LSW.CFG.OFFDIAG n.val && !s.bit Reg.LSW.STAT.ON n.val && !s.allOff then
    let s := s.setFld Reg.LSW.VOUT.VALUE n.val (unsigned 12 (vout / 20))
    if 6000 < vout then raiseFault (s.setBit Reg.LSW.STAT.EV_STB n.val true) Flt.LSW.STB n.val 0
    else if 1500 ≤ vout then raiseFault (s.setBit Reg.LSW.STAT.EV_OPEN_OFF n.val true) Flt.LSW.OPEN n.val 0
    else s
  else s)

/-- CLAMP_TRIP (R161, R171): held off under R169 until a test passes. -/
def execClampTrip (n : Fin 96) (s : State) : Result :=
  .next (settleRaises (lswApply (clampTrip s n.val false) n.val))

/-- RETRY_RESTART (R166): latch clear, delay over, a retry left; RETRY_LEFT falls by one. A pulse-group channel switches on
at its next phase point. [log entry 59 DEDUCED] -/
def execRetryRestart (n : Fin 96) (s : State) : Result :=
  let c := s.lswCh n.val
  if c.prot && !s.bit Reg.LSW.STAT.LOCKED n.val && !s.bit Reg.LSW.STAT.TLATCH n.val &&
      s.fld Reg.LSW.RETRY.RETRY_LEFT n.val != 0 then
    let s := s.reach (c.offAt + max (s.effFld Reg.LSW.RETRY.TRETRY n.val) 1 * 100000)
    let s := s.setFld Reg.LSW.RETRY.RETRY_LEFT n.val (s.fld Reg.LSW.RETRY.RETRY_LEFT n.val - 1)
    let s := (s.satAdd Reg.LSW.EVCOUNT.RETRIES n.val 1).setBit Reg.LSW.STAT.RETRY_PEND n.val false
    .next (settleRaises (lswApply (s.setLsw n.val { c with prot := false, win := false }) n.val))
  else .next s

/-- The on-time of a channel up to now, in counts (R167). -/
def lswOnTime (s : State) (n : Nat) : Nat :=
  let c := s.lswCh n
  if s.bit Reg.LSW.STAT.ON n then c.onTime + (s.now - c.onSince) else c.onTime

/-- RETRY_REFILL (R167): REFILL × 100 ms of on-time since the last protective switch-off or refill. -/
def execRetryRefill (n : Fin 96) (s : State) : Result :=
  let need := s.effFld Reg.LSW.RETRY.REFILL n.val * 10000000
  if need = 0 ∨ !s.bit Reg.LSW.STAT.ON n.val then .next s
  else .next (lswRefill (s.later (need - lswOnTime s n.val)) n.val)

/-- RELOAD (R167): the write is kept until the col at which it takes effect (R145). -/
def execReload (n : Fin 96) (s : State) : Result :=
  .next (s.setLsw n.val { s.lswCh n.val with reload := 1 })

/-- A RELOAD takes effect at its col: RETRY_LEFT refilled, LOCKED cleared; the latch stays (R167). A channel still asked
for restarts under R166. -/
def lswReloadNow (s : State) (n : Nat) : State :=
  let s := (lswRefill s n).setBit Reg.LSW.STAT.LOCKED n false
  let s := s.setLsw n { s.lswCh n with reload := 0 }
  lswApply (s.setBit Reg.LSW.STAT.RETRY_PEND n (s.lswCh n).prot) n

/-! ### Free-wheel test (R169 to R171) -/

/-- FW_TEST (R170): a committed FWTEST = 1 with EN = 0 runs the pulse; during hold-over, on a locked channel or with the
latch set it is not started and the result is inconclusive. [log entry 56 DEDUCED] -/
def execFwTest (n : Fin 96) (s : State) : Result :=
  if !s.effBit Reg.LSW.CTRL.FWTEST n.val then .next s
  else
    let s := s.setEff Reg.LSW.CTRL.FWTEST n.val 0
    if s.effBit Reg.LSW.CTRL.EN n.val then .next s
    else if s.bit Reg.LSW.STAT.HOLDOVER n.val || s.bit Reg.LSW.STAT.LOCKED n.val || s.bit Reg.LSW.STAT.TLATCH n.val then
      .next (s.setFld Reg.LSW.FW.FW_RESULT n.val 3)
    else
      let s := s.setLsw n.val { s.lswCh n.val with fwBusy := true }
      .next (settleRaises (lswApply (s.setBit Reg.LSW.FW.FW_BUSY n.val true) n.val))

/-- FW_TEST_END (R170): the pulse ends; `vmin` in mV is the output minimum in the 5 µs after the off edge, `current` in mA
the current at the end of the pulse. [log entry 54 DESIGN CHOICE] -/
def execFwTestEnd (n : Fin 96) (vmin : Int) (current : Nat) (s : State) : Result :=
  if !s.bit Reg.LSW.FW.FW_BUSY n.val then .next s
  else
    let s := s.later (max (s.effFld Reg.LSW.FW.FW_PULSE n.val) 4 * 100)
    let okBefore := s.bit Reg.LSW.FW.FW_OK n.val
    let armed := (s.lswCh n.val).forceClamp
    let s := s.setLsw n.val { s.lswCh n.val with fwBusy := false }
    let s := (lswApply (s.setBit Reg.LSW.FW.FW_BUSY n.val false) n.val).later 500
    let fail := fun s : State =>
      (s.setFld Reg.LSW.FW.FW_RESULT n.val 2).setFlds [(Reg.LSW.FW.FW_OK, n.val, 0), (Reg.LSW.STAT.EV_FWFAIL, n.val, 1)]
    let unsure := fun s : State => (s.setFld Reg.LSW.FW.FW_RESULT n.val 3).setBit Reg.LSW.FW.FW_OK n.val okBefore
    let pass := fun s : State =>
      lswApply (((s.setFld Reg.LSW.FW.FW_RESULT n.val 1).setBit Reg.LSW.FW.FW_OK n.val true).setLsw n.val
        { s.lswCh n.val with clampHold := false }) n.val
    if armed ∨ vmin < -2500 then .next (settleRaises (fail s))
    else if current < lswFwMin n.val then .next (settleRaises (unsure s))
    else if vmin ≤ -200 then .next (settleRaises (pass s))
    else
      let x := s.free
      .next (settleRaises (if x.1 % 3 = 0 then pass x.2 else if x.1 % 3 = 1 then fail x.2 else unsure x.2))

/-- DIN_EDGE (R150, R151): the filtered level changes; every channel of the bank that follows the pin follows.
[log entry 51 DEDUCED] -/
def execDinEdge (pin : Fin 24) (level : Bool) (s : State) : Result :=
  let old := s.fld Reg.LSW.DINSTAT.LEVEL 0
  let new := if level then old ||| 2 ^ pin.val else old &&& (2 ^ 24 - 1 - 2 ^ pin.val)
  let s := s.setFld Reg.LSW.DINSTAT.LEVEL 0 new
  .next (settleRaises (s.each (fun s n =>
    if s.effFld Reg.LSW.CFG.DIN n = pin.val then
      lswApply (s.setBit Reg.LSW.STAT.DIN_ACTIVE n (dinActive s n)) n
    else s) (upTo 96)))

/-! ### Sensing (R152 to R160) -/

/-- Calibration of a channel (R160). -/
def lswCalOf (s : State) (n : Nat) : LswCal := smapGet (fun _ => LswCal.nominal) s.lswCal n

/-- The channel that a select code puts on sense pin `p` (R153). -/
def mirrorChan (code p : Nat) : Nat := p / 2 * 24 + p % 2 * 12 + code

/-- Channel current of a mirror code in 0.1 µA (R160): (code × 1.2207 µA − MIR_OFS × 0.1 µA) × K × MIR_GAIN ÷ 32,768. -/
def mirrorCurrent (s : State) (n code : Nat) : Rat :=
  let c := lswCalOf s n
  (((code : Rat) * 12207 / 1000) - c.mirOfs) * lswMirror n * c.mirGain / 32768

/-- Channel current of a fall-back code in mA (R160). -/
def fallbackCurrent (s : State) (n code : Nat) : Rat :=
  let c := lswCalOf s n
  ((code : Rat) - c.fbOfs) * ((lswFbLsb n : Rat) / 2) * c.fbGain / 32768

/-- The calibrated fall-back code, in the converter's LSB (R156). -/
def fallbackCode (s : State) (n code : Nat) : Nat :=
  let c := lswCalOf s n
  min ((((code : Rat) - c.fbOfs) * c.fbGain / 32768).floor.toNat) 0xFFF

/-- The sense pin of a channel (R152). -/
def sensePin (n : Nat) : Nat := n / 24 * 2 + n % 24 / 12

/-- The offset or calibration check of one pin (R159): above 20 µA, or outside 2.000 mA ± 2 %; a code is 1.2207 µA. -/
def pinBad (code v : Nat) : Bool :=
  if code = 12 then 200000 < v * 12207 else v * 12207 < 19600000 || 20400000 < v * 12207

/-- Set the fault bit of a sense pin, raising FLT_LSW_SENSEPIN when the check fails (R159). -/
def pinCheck (s : State) (code p v : Nat) : State :=
  let old := s.fld Reg.LSW.SENSESTAT.PINFAULT 0
  if pinBad code v then
    raiseFault (s.setFld Reg.LSW.SENSESTAT.PINFAULT 0 (old ||| 2 ^ p)) Flt.LSW.SENSEPIN p 0
  else if code = 13 ∨ !(s.effFld Reg.LSW.SENSECFG.SCANMASK 0).testBit 13 then
    let ok := code = 12 ∨ !pinBad 12 (s.fld Reg.LSW.SENSEPIN.OFS p) ∨ !(s.effFld Reg.LSW.SENSECFG.SCANMASK 0).testBit 12
    if ok then s.setFld Reg.LSW.SENSESTAT.PINFAULT 0 (old &&& (255 - 2 ^ p)) else s
  else s

/-- Settling per code in counts, at least 600 (R154, R180). -/
def scanSettle (s : State) : Nat := max (s.effFld Reg.LSW.SENSECFG.SETTLE 0) 60 * 10

/-- MIRROR_SCAN_CONVERSION (R153, R154, R159): all eight pins are converted at one code; codes 12 and 13 check the pins;
the last code ends the scan. [log entry 6 DESIGN CHOICE] -/
def execMirrorScanConversion (code : Fin 14) (pins : List Nat) (last : Bool) (s : State) : Result :=
  match s.scanAt with
  | none => .next s
  | some at' =>
    let done := at' + scanSettle s + 100
    let s := { s with scanAt := some done }.reach done
    let s := s.setFld Reg.LSW.SENSESTAT.SEL 0 code.val
    let s := (upTo 8).foldl (fun s p =>
      let v := min (pins.getD p 0) 0xFFF
      if code.val < 12 then
        let n := mirrorChan code.val p
        s.setFlds [(Reg.LSW.ISENSE.CODE, n, v), (Reg.LSW.ISENSE.PINFAULT, n, s.fld Reg.LSW.SENSESTAT.PINFAULT 0 / 2 ^ p % 2)]
      else if code.val = 12 then pinCheck (s.setFld Reg.LSW.SENSEPIN.OFS p v) 12 p v
      else pinCheck (s.setFld Reg.LSW.SENSEPIN.CAL p v) 13 p v) s
    .next (if last then { s with scanAt := none }.setBit Reg.LSW.SENSESTAT.SCAN_BUSY 0 false else s)

/-- A SAMPLE of group 0x40 (R154, R155): starts a scan 2 counts later, is ignored with OVERLAP while one runs, and has no
effect with external selects. [log entry 60 DEDUCED] -/
def scanStart (s : State) (at' : Nat) : State :=
  if s.effBit Reg.LSW.SENSECFG.SELSRC 0 then s
  else if s.scanAt.isSome then s.setBit Reg.LSW.SENSESTAT.OVERLAP 0 true
  else if s.effFld Reg.LSW.SENSECFG.SCANMASK 0 = 0 then s
  else { s with scanAt := some (at' + 2) }.setBit Reg.LSW.SENSESTAT.SCAN_BUSY 0 true

/-- Can the mirror be used for a channel (R157)? -/
def mirrorUsable (s : State) (n : Nat) : Bool :=
  !lswPulsed s n && !lswPin s n && !(s.fld Reg.LSW.SENSESTAT.PINFAULT 0).testBit (sensePin n) &&
    !s.effBit Reg.LSW.SENSECFG.SELSRC 0

/-- At a col: the fall-back averages, the comparison of R159, and the moving average of IMEAS (R156, R157, R159).
[log entries 159 DESIGN CHOICE, 160 DEDUCED] -/
def lswMeasure (m : ColIn) (s : State) (n : Nat) : State :=
  if !s.dom.pwr.getLsbD (lswDie n) then s
  else
    let ifb := fallbackCode s n (m.ifb.getD n 0)
    let s := s.setFlds [(Reg.LSW.IFB.CODE, n, ifb), (Reg.LSW.IRMS.CODE, n, fallbackCode s n (m.irms.getD n 0)),
      (Reg.LSW.IRMS.VALID, n, 1)]
    let c := s.lswCh n
    let isrc := s.effFld Reg.LSW.CFG.ISRC n
    let mir := mirrorUsable s n
    let useFb := isrc == 2 || ((isrc == 0 || isrc == 3) && !mir)
    let usable := useFb || mir
    let mirMa := mirrorCurrent s n (s.fld Reg.LSW.ISENSE.CODE n) / 10000
    let fbMa := fallbackCurrent s n (m.ifb.getD n 0)
    let value := if useFb then fbMa else mirMa
    let code := min ((value * 4 / lswUnit n).floor.toNat) 0xFFFF
    let filt := min (s.effFld Reg.LSW.CFG.FILT n) 6
    let depth := 2 ^ filt
    let old := if c.srcFb = useFb ∧ c.filt = filt then c.window else []
    let win := (old ++ [code]).drop ((old ++ [code]).length - depth)
    let s := s.setLsw n { c with window := win, filt := filt, srcFb := useFb }
    let s := s.setFlds [(Reg.LSW.IMEAS.I, n, if win.isEmpty then 0 else win.sum / win.length),
      (Reg.LSW.IMEAS.VALID, n, if usable ∧ win.length = depth then 1 else 0), (Reg.LSW.IMEAS.SRC_FB, n, if useFb then 1 else 0),
      (Reg.LSW.IMEAS.SAT, n, if m.sat.getD n false then 1 else 0)]
    let diff := if mirMa < fbMa then fbMa - mirMa else mirMa - fbMa
    if mir && s.bit Reg.LSW.STAT.ON n && decide (c.onSince + s.seq.period ≤ s.now) && decide (mirMa / 10 + 2 * lswFbLsb n < diff) then
      raiseFault s Flt.LSW.SENSEDIFF n 0
    else s

/-! ### Hold-over and reclaim (R172 to R176) -/

/-- A channel enters hold-over at a count (R172, R173): it holds its last committed state. [log entry 152 DEDUCED] -/
def lswHold (s : State) (n at' : Nat) : State :=
  let s := (s.setBit Reg.LSW.STAT.HOLDOVER n true)
  s.setLsw n { s.lswCh n with holdFrom := some at' }

/-- A channel's hold-over timer expires: the configured safe state, EV_HOLDEXP (R174). -/
def lswExpire (s : State) (n : Nat) : State :=
  match (s.lswCh n).holdFrom with
  | none => s
  | some h =>
    let s := s.reach (h + min (s.effFld Reg.LSW.HOLD.HOLD n) 2000 * 100000)
    let s := s.setLsw n { s.lswCh n with holdFrom := none, expired := true }
    lswSafe (s.setFlds [(Reg.LSW.STAT.HOLDOVER, n, 0), (Reg.LSW.STAT.EV_HOLDEXP, n, 1)]) n

/-- Reclaim at the commit strobe of the plan's first col (R175): a held channel becomes committed with its held state, an
expired one with its safe state, and FLT_LSW_HOLDEXP is raised for it (R174). -/
def lswReclaim (s : State) (n : Nat) : State :=
  let c := s.lswCh n
  let s := s.setLsw n { c with holdFrom := none, expired := false }
  let s := s.setBit Reg.LSW.STAT.HOLDOVER n false
  if c.expired then
    let s := match s.effFld Reg.LSW.CFG.SAFE n with
      | 1 => s.setEffWord (Reg.LSW.CTRL.REG.off n) (putBits (regReset (Reg.LSW.CTRL.REG.off n)) 0 1 1)
      | 2 => s
      | _ => s.setEffWord (Reg.LSW.CTRL.REG.off n) (regReset (Reg.LSW.CTRL.REG.off n))
    let s := if s.zoneSafe then s else s.setBit Reg.LSW.STAT.SAFE n false
    raiseFault (lswApply s n) Flt.LSW.HOLDEXP n 0
  else lswApply s n

/-! ### Forces (R179) -/

/-- LSW_FORCE_CLAMP: the next off edge trips the clamp comparator. -/
def execLswForceClamp (by_ : By) (n : Fin 96) (s : State) : Result :=
  .next (gated s by_ fun s => s.setLsw n.val { s.lswCh n.val with forceClamp := true })

/-- LSW_FORCE_THERM: one thermal trip through the real latch. -/
def execLswForceTherm (by_ : By) (n : Fin 96) (s : State) : Result :=
  .next (gated s by_ fun s => lswThermal s n.val true)

/-- LSW_FORCE_SHORT: one hard short trip. -/
def execLswForceShort (by_ : By) (n : Fin 96) (s : State) : Result :=
  .next (gated s by_ fun s => lswTrip s n.val Reg.LSW.STAT.EV_SHORT Reg.LSW.EVCOUNT.SHORT Flt.LSW.SHORT true)

/-- LSW_FORCE_OPEN: one open-load detection in the present state, on or off. -/
def execLswForceOpen (by_ : By) (n : Fin 96) (s : State) : Result :=
  .next (gated s by_ fun s =>
    let ev := if s.bit Reg.LSW.STAT.ON n.val then Reg.LSW.STAT.EV_OPEN_ON else Reg.LSW.STAT.EV_OPEN_OFF
    raiseWith (s.setBit ev n.val true) Flt.LSW.OPEN n.val 0 0 true)

end Sys2Proof.Machine
end

