-- ==== Sys2Proof/Machine/Bridge.lean ====
section
/-!
DEFINITION. The half-bridge motor drivers (R205 to R227): modes, reversal brake, protections, ripple counting, the
position stop.
-/
namespace Sys2Proof.Machine

/-- The even member of the pair of `n`, whose engine and stop serve the bridge (R223, R227). -/
def hbEven (n : Nat) : Nat := n / 2 * 2

/-- Set a status bit of both halves of a bridge, or of one half. -/
def hbSet (s : State) (m : Nat) (F : Field) (b : Bool) : State := s.each (fun s h => s.setBit F h b) (hbHalves s m)

/-! ### Position and its stop (R221 to R224) -/

/-- POS as a signed number. -/
def hbPos (s : State) (m : Nat) : Int := signed 32 (s.fld Reg.HBR.POS.POS m)

/-- The position stop's condition in the committed drive direction (R224), on the wrapped 32-bit difference. -/
def hbStopDue (s : State) (m : Nat) : Bool :=
  let stop : Int := signed 32 (s.effFld Reg.HBR.STOPPOS.POS m)
  let ahead := fun (d : Int) => signed 32 (unsigned 32 d)
  s.effBit Reg.HBR.CTRL.STOP_EN m && hbPaired s m &&
    ((hbCommitted s m == 1 && decide (ahead (stop - hbPos s m) ≤ 0)) ||
      (hbCommitted s m == 2 && decide (ahead (hbPos s m - stop) ≤ 0)))

/-- Evaluate the position stop: when it fires the bridge brakes with STOPPED and EV_STOP, and a pending drive mode is
dropped (R224). -/
def hbStop (s : State) (m : Nat) : State :=
  if hbStopDue s m && !s.bit Reg.HBR.STAT.STOPPED m && hbDrive true (hbCommitted s m) &&
      !s.bit Reg.HBR.STAT.PROT_OFF m then
    let s := hbSet (hbSet s m Reg.HBR.STAT.STOPPED true) m Reg.HBR.STAT.EV_STOP true
    let s := hbSet s m Reg.HBR.STAT.REVERSING false
    hbApply (s.setHb m { s.hbCh m with pend := 0 }) m
  else s

/-- POS moves by one in the direction of the last drive; a wrap sets OVF in the same count (R221, R223). -/
def hbCount (s : State) (m : Nat) : State :=
  let up := (s.hbCh m).fwd
  let v := hbPos s m
  let wraps := if up then v == 2 ^ 31 - 1 else v == -(2 ^ 31)
  let s := s.setFld Reg.HBR.POS.POS m (unsigned 32 (if up then v + 1 else v - 1))
  let s := if wraps then s.setBit Reg.HBR.RIPSTAT.OVF m true else s
  hbStop s m

/-! ### Commits (R207 to R211, R215, R219, R224) -/

/-- A commit of CTRL and STOPPOS of a half (R207): the odd member of a pair is ignored (R206). -/
def hbCommit (s : State) (n : Nat) (ctrl stop : Word32) : State :=
  let p := hbPaired s n
  if p && n % 2 == 1 then
    (s.setEffWord (Reg.HBR.CTRL.REG.off n) ctrl).setEffWord (Reg.HBR.STOPPOS.REG.off n) stop
  else
    let oldMode := hbCommitted s n
    let oldStop := s.effWord (Reg.HBR.STOPPOS.REG.off n)
    let oldEn := s.effBit Reg.HBR.CTRL.STOP_EN n
    let s := (s.setEffWord (Reg.HBR.CTRL.REG.off n) ctrl).setEffWord (Reg.HBR.STOPPOS.REG.off n) stop
    let mode := hbCommitted s n
    let keepSafe := s.zoneSafe || (hbHalves s n).any fun h => held s (.bridge h)
    let s := if keepSafe then s else hbSet s n Reg.HBR.STAT.SAFE false
    let latch := hbAny s n Reg.HBR.STAT.TLATCH
    let s := if s.effBit Reg.HBR.CTRL.REARM n && !latch then hbSet s n Reg.HBR.STAT.PROT_OFF false else s
    let s := s.setEff Reg.HBR.CTRL.REARM n 0
    let s := if oldMode != mode || oldStop != stop || oldEn != s.effBit Reg.HBR.CTRL.STOP_EN n then
      hbSet s n Reg.HBR.STAT.STOPPED false else s
    let rev := s.effFld Reg.HBR.CFG.REVBRAKE n
    let s :=
      if p && hbDrive true mode then
        if s.bit Reg.HBR.STAT.REVERSING n then s.setHb n { s.hbCh n with pend := mode }
        else if hbDrive true oldMode && oldMode != mode && rev != 0 then
          (hbSet s n Reg.HBR.STAT.REVERSING true).setHb n { s.hbCh n with pend := mode, brakeFrom := s.now }
        else s.setHb n { s.hbCh n with pend := 0 }
      else (hbSet s n Reg.HBR.STAT.REVERSING false).setHb n { s.hbCh n with pend := 0 }
    let s := (hbHalves s n).foldl (fun s h =>
      let v := s.ledger1 (96 + h)
      if v.fresh then (if hbDrive p mode then s.setLedger1 (96 + h) { v with fresh := false } else releaseResv s (96 + h)) else s) s
    hbStop (hbApply s n) n

/-- REVERSAL_BRAKE_END (R211): REVBRAKE after the commit that began it, the latest committed drive mode starts. -/
def execReversalBrakeEnd (n : Fin 16) (s : State) : Result :=
  let m := hbMaster s n.val
  if s.bit Reg.HBR.STAT.REVERSING m then
    let s := s.reach ((s.hbCh m).brakeFrom + s.effFld Reg.HBR.CFG.REVBRAKE m * 100000)
    let s := (hbSet s m Reg.HBR.STAT.REVERSING false).setHb m { s.hbCh m with pend := 0 }
    .next (hbStop (hbApply s m) m)
  else .next s

/-- PAIRCFG takes effect (R206): only a pair whose two halves are both in COAST changes; otherwise the register bit goes
back and FLT_HBR_CFG is raised. -/
def pairCommit (s : State) (frozen : Nat) : State :=
  (upTo 8).foldl (fun s b =>
    let old := (s.effFld Reg.HBR.PAIRCFG.PAIR 0).testBit b
    let new := frozen.testBit b
    if old = new then s
    else if s.fld Reg.HBR.STAT.APPLIED (2 * b) = 0 ∧ s.fld Reg.HBR.STAT.APPLIED (2 * b + 1) = 0 then
      let s := s.setEff Reg.HBR.PAIRCFG.PAIR 0 (s.effFld Reg.HBR.PAIRCFG.PAIR 0 ^^^ 2 ^ b)
      (s.setBit Reg.HBR.STAT.PAIRED (2 * b) new).setBit Reg.HBR.STAT.PAIRED (2 * b + 1) new
    else
      let v := s.fld Reg.HBR.PAIRCFG.PAIR 0
      let s := if v.testBit b = new then s.setFld Reg.HBR.PAIRCFG.PAIR 0 (v ^^^ 2 ^ b) else s
      raiseFault s Flt.HBR.CFG (2 * b) 0) s

/-! ### Protections (R212 to R217) -/

/-- The bridge conducts: some mode other than all switches off. -/
def hbConducts (s : State) (n : Nat) : Bool := s.fld Reg.HBR.STAT.APPLIED n != 0

/-- A protective switch-off puts the whole bridge into COAST with PROT_OFF (R215, R225). -/
def hbProtect (s : State) (n : Nat) : State :=
  let m := hbMaster s n
  let s := hbSet (hbSet s m Reg.HBR.STAT.PROT_OFF true) m Reg.HBR.STAT.REVERSING false
  hbApply (s.setHb m { s.hbCh m with pend := 0 }) m

/-- A short or over-temperature trip (R214). -/
def hbTrip (s : State) (n : Nat) (ev cnt : Field) (src : Nat) (forced : Bool) : State :=
  raiseWith (hbProtect ((s.setBit ev n true).satAdd cnt n 1) n) src n 0 0 forced

/-- BRIDGE_SHORT (R214, R215). -/
def execBridgeShort (n : Fin 16) (s : State) : Result :=
  .next (if hbConducts s n.val then hbTrip s n.val Reg.HBR.STAT.EV_SHORT Reg.HBR.EVCOUNT.SHORT Flt.HBR.SHORT false else s)

/-- A thermal trip sets the thermal latch (R214, R216). -/
def hbThermal (s : State) (n : Nat) (forced : Bool) : State :=
  hbTrip (s.setBit Reg.HBR.STAT.TLATCH n true) n Reg.HBR.STAT.EV_THERM Reg.HBR.EVCOUNT.THERM Flt.HBR.THERM forced

/-- BRIDGE_OVER_TEMPERATURE (R214, R216). -/
def execBridgeOverTemperature (n : Fin 16) (s : State) : Result :=
  .next (if s.allOff then s else hbThermal s n.val false)

/-- BRAKE_LIMIT (R212): the brake opens for the rest of the PWM period. -/
def execBrakeLimit (n : Fin 16) (s : State) : Result :=
  let ap := s.fld Reg.HBR.STAT.APPLIED n.val
  let brakes := if hbPaired s n.val then ap == 3 || ap == 4 else ap == 2
  .next (if brakes then
    raiseFault ((s.setBit Reg.HBR.STAT.EV_BRKLIM n.val true).satAdd Reg.HBR.EVCOUNT.BRKLIM n.val 1) Flt.HBR.BRKLIM n.val 0
  else s)

/-- A stall: reported, and with STALL_BRAKE the bridge brakes with STOPPED (R214). -/
def hbStall (s : State) (n : Nat) (forced : Bool) : State :=
  let m := hbMaster s n
  let s := (s.setBit Reg.HBR.STAT.EV_STALL m true).satAdd Reg.HBR.EVCOUNT.STALL m 1
  let s := if s.effBit Reg.HBR.CFG.STALL_BRAKE m then hbApply (hbSet s m Reg.HBR.STAT.STOPPED true) m else s
  raiseWith s Flt.HBR.STALL m 0 0 forced

/-- STALL (R214, R225): only while a drive mode runs, and not with TSTALL 0. -/
def execStall (n : Fin 16) (s : State) : Result :=
  let m := hbMaster s n.val
  .next (if s.bit Reg.HBR.STAT.DRIVING m && s.effFld Reg.HBR.CFG.TSTALL m != 0 then hbStall s n.val false else s)

/-- SUPB_OVERVOLTAGE (R214): above 32 V drive modes run as BRAKE_LOW, until SUPB is below 30 V. -/
def execSupbOvervoltage (above : Bool) (s : State) : Result :=
  .next ((upTo 16).foldl (fun s n =>
    let was := s.bit Reg.HBR.STAT.OV n
    let s := s.setBit Reg.HBR.STAT.OV n above
    let s := if hbMaster s n = n then hbApply s n else s
    if above && !was then raiseFault (s.setBit Reg.HBR.STAT.EV_OV n true) Flt.HBR.OV n 0 else s) s)

/-! ### Ripple counting (R220 to R223) -/

/-- The engine counts: the pair's bridge is in a drive or brake mode. -/
def hbMode' (s : State) (m : Nat) : Nat := s.fld Reg.HBR.STAT.APPLIED m

/-- RIPPLE_ACCEPT (R220, R221): a candidate at a count, with the mean current and its amplitude in mA. Too small a ripple is
none; one too early is rejected and counted. [log entry 73 DEDUCED] -/
def execRippleAccept (n : Fin 16) (count mean ampl : Nat) (s : State) : Result :=
  let m := hbEven n.val
  if !hbPaired s m || hbMode' s m == 0 || mean < 300 || ampl * 100 < 3 * mean then .next s
  else
    let s := s.reach count
    let c := s.hbCh m
    let last := c.lastRip.getD 0
    let period := s.fld Reg.HBR.PERIOD.COUNTS m
    let ripMin := max 10 (min (s.effFld Reg.HBR.RIPCFG.RIP_MIN m) 90)
    if c.moving && (count - last) * 100 < ripMin * period then .next (s.satAdd Reg.HBR.RIPSTAT.REJECTED m 1)
    else
      let s := if c.lastRip.isSome then s.setFld Reg.HBR.PERIOD.COUNTS m (min (count - last) 0xFFFFFFFF) else s
      .next (hbCount (s.setHb m { c with lastRip := some count, moving := true }) m)

/-- RIPPLE_INSERT (R220, R221): in a drive mode no ripple came within RIP_MAX % of PERIOD; one is inserted there. -/
def execRippleInsert (n : Fin 16) (s : State) : Result :=
  let m := hbEven n.val
  let c := s.hbCh m
  match c.lastRip with
  | none => .next s
  | some last =>
    if !hbPaired s m || !s.bit Reg.HBR.STAT.DRIVING m || !c.moving then .next s
    else
      let at' := last + max 110 (s.effFld Reg.HBR.RIPCFG.RIP_MAX m) * s.fld Reg.HBR.PERIOD.COUNTS m / 100
      let s := (s.reach at').satAdd Reg.HBR.RIPSTAT.INSERTED m 1
      let s := s.setFld Reg.HBR.PERIOD.COUNTS m (min (at' - last) 0xFFFFFFFF)
      .next (hbCount (s.setHb m { c with lastRip := some at' }) m)

/-- A coast that began within RIP_MAX % of PERIOD after a ripple is extrapolated (R222). -/
def hbExtrapolates (s : State) (m : Nat) : Bool :=
  let c := s.hbCh m
  match c.coastFrom, c.lastRip with
  | some k, some r => hbPaired s m && c.moving &&
      decide ((k - r) * 100 ≤ max 110 (s.effFld Reg.HBR.RIPCFG.RIP_MAX m) * s.fld Reg.HBR.PERIOD.COUNTS m ∨ s.bit Reg.HBR.RIPSTAT.EST m)
  | _, _ => false

/-- RIPPLE_EXTRAPOLATE (R222): one PERIOD passes in COAST and a count is added with EST = 1. -/
def execRippleExtrapolate (n : Fin 16) (s : State) : Result :=
  let m := hbEven n.val
  if hbMode' s m == 0 && hbExtrapolates s m then
    let c := s.hbCh m
    let at' := c.lastRip.getD 0 + s.fld Reg.HBR.PERIOD.COUNTS m
    let s := (s.reach at').setBit Reg.HBR.RIPSTAT.EST m true
    .next (hbCount (s.setHb m { c with lastRip := some at' }) m)
  else .next s

/-- RIPPLE_EXTRAP_EXPIRY (R222): EXTRAP runs out; counting stops, POS_VALID clears, FLT_HBR_RIPPLE. -/
def execRippleExtrapExpiry (n : Fin 16) (s : State) : Result :=
  let m := hbEven n.val
  if hbMode' s m == 0 && hbExtrapolates s m then
    let c := s.hbCh m
    let s := s.reach (c.coastFrom.getD 0 + s.effFld Reg.HBR.RIPCFG.EXTRAP m * 100000)
    let s := s.setHb m { c with moving := false, coastFrom := none, lastRip := none }
    .next (raiseFault (s.setFlds [(Reg.HBR.RIPSTAT.EST, m, 0), (Reg.HBR.RIPSTAT.POS_VALID, m, 0)]) Flt.HBR.RIPPLE m 0)
  else .next s

/-- POS_WRITE (R223, R224): sets the count and POS_VALID, and the stop is evaluated; in the odd member of a pair, and in
the unprivileged view when the value would change, the write is ignored (R15, R227). -/
def execPosWrite (by_ : By) (n : Fin 16) (val : Word32) (s : State) : Result :=
  if !by_.priv then
    .next (if s.fld Reg.HBR.POS.POS n.val = val.toNat then s else raiseFault s Flt.SYS.PRIVWRITE by_.lane.val 0)
  else if hbPaired s n.val && n.val % 2 == 1 then .next s
  else .next (hbStop ((s.setFld Reg.HBR.POS.POS n.val val.toNat).setBit Reg.HBR.RIPSTAT.POS_VALID n.val true) n.val)

/-! ### Measurement, reset brake, reclaim (R213, R218) -/

/-- At a col: mean and root-mean-square currents and the chopper mark of the tick (R210, R218). -/
def hbMeasure (m : ColIn) (s : State) (n : Nat) : State :=
  if !s.dom.pwr.getLsbD (hbDie n) then s
  else s.setFlds [(Reg.HBR.IMEAS.IRMS, n, min (m.hbRms.getD n 0) 0xFFFF), (Reg.HBR.IMEAS.IAVG, n, unsigned 16 (m.hbAvg.getD n 0)),
    (Reg.HBR.STAT.IN_CHOP, n, if m.chopped.getD n false then 1 else 0), (Reg.HBR.STAT.IVALID, n, 1)]

/-- The brake of a controller reset (R39, R213, R225): a bridge that drives, reverses or stops is braked and its pending
drive mode dropped. [log entry 72 DEDUCED] -/
def hbResetBrake (s : State) (n : Nat) : State :=
  let m := hbMaster s n
  if s.bit Reg.HBR.STAT.DRIVING m || s.bit Reg.HBR.STAT.REVERSING m || s.bit Reg.HBR.STAT.STOPPED m then
    let s := hbSet (hbSet s m Reg.HBR.STAT.RESETBRAKE true) m Reg.HBR.STAT.REVERSING false
    hbApply (s.setHb m { s.hbCh m with pend := 0 }) m
  else s

/-- At the commit strobe of the first col each bridge becomes committed with the staged CTRL (R213). -/
def hbReclaim (s : State) (n : Nat) : State := s.setBit Reg.HBR.STAT.RESETBRAKE n false

/-! ### Forces (R227) -/

/-- HBR_FORCE_STALL: one stall detection. -/
def execHbrForceStall (by_ : By) (n : Fin 16) (s : State) : Result := .next (gated s by_ fun s => hbStall s n.val true)

/-- HBR_FORCE_THERM: one thermal trip through the real latch. -/
def execHbrForceTherm (by_ : By) (n : Fin 16) (s : State) : Result := .next (gated s by_ fun s => hbThermal s n.val true)

/-- HBR_FORCE_SHORT: one short trip. -/
def execHbrForceShort (by_ : By) (n : Fin 16) (s : State) : Result :=
  .next (gated s by_ fun s => hbTrip s n.val Reg.HBR.STAT.EV_SHORT Reg.HBR.EVCOUNT.SHORT Flt.HBR.SHORT true)

end Sys2Proof.Machine
end

