-- ==== Sys2Proof/Machine/Valve.lean ====
section
/-!
DEFINITION. The valve drivers (R228 to R260): commands, the profile engine and its microcode store, peak arbitration,
the coil model, protections, the peak supply.
-/
namespace Sys2Proof.Machine

/-! ### Store and start (R233 to R239) -/

/-- "Indefinite", as D holds it (R236). -/
def dForever : Nat := 2 ^ 64 - 1

/-- The channel's hold deadline D. -/
def vdD (s : State) (n : Nat) : Nat := s.pair Reg.VALVE.DEADLO.COUNT Reg.VALVE.DEADHI.COUNT n

/-- Replace D. -/
def vdSetD (s : State) (n d : Nat) : State := s.setPair Reg.VALVE.DEADLO.COUNT Reg.VALVE.DEADHI.COUNT n d

/-- A parity fault stands in the bank's store (R238). -/
def ucFaulty (s : State) (b : Nat) : Bool := !(s.bank b).todo.isEmpty

/-- UC_BLOCK of every channel of a bank: a parity fault stands, or no descriptor is valid (R234, R259).
[log entry 74 DEDUCED] -/
def ucBlock (s : State) (b : Nat) : State :=
  let blk := ucFaulty s b || !(upTo 16).any fun p => descValid (ucWord s b p)
  s.each (fun s n => s.setBit Reg.VALVE.PSTAT.UC_BLOCK n blk) (bankChans b)

/-- MICROCODE_WRITE (R238): the low half waits in the latch; the high half of the same word stores the whole word. Ignored
while a channel of the bank runs or a start is queued. The store is outside the unprivileged alias (R15).
[log entry 75 DEDUCED] -/
def execMicrocodeWrite (by_ : By) (bank : Fin 4) (word : BitVec 9) (high : Bool) (val : Word32) (s : State) : Result :=
  let b := bank.val
  let w := word.toNat
  if !by_.priv then .next (if val = 0 then s else raiseFault s Flt.SYS.PRIVWRITE by_.lane.val 0)
  else if bankActive s b then .next (raiseFault s Flt.VALVE.CFG b 0)
  else if !high then .next (s.setBank b { s.bank b with low := (w, val) })
  else if (s.bank b).low.1 ≠ w then .next s
  else
    let v : Word := BitVec.ofNat 64 ((s.bank b).low.2.toNat + val.toNat * 2 ^ 32)
    let s := { s with ucode := smapSet (fun _ => (0 : Word)) s.ucode (b * 512 + w) v }
    let k := s.bank b
    .next (ucBlock (s.setBank b { k with bad := k.bad.filter (· != w), todo := k.todo.filter (· != w) }) b)

/-- The count at which the power die applies a commit, at the latest (R43, R49). -/
def vdApplied (s : State) : Nat := max s.now (s.colCount + 4)

/-- The deadline of a start at step `x` (R236). -/
def vdDeadline (s : State) (n x : Nat) : Nat :=
  let dur := s.effFld Reg.VALVE.CMD.DUR n
  if dur = 0xFFFF then dForever else 100 * x + dur * 100000

/-- A profile starts in PRE with its first instruction at step `x` (R235, R236, R248). -/
def vdBegin (s : State) (n prof d x : Nat) : State :=
  let entry := descEntry (ucWord s (vdBank n) prof)
  let s := s.setVd n { s.vdCh n with
    start := x, granted := none, succ := entry, next := x, wait := .none, relFast := false, ranOut := false }
  let s := s.setFlds [(Reg.VALVE.PSTAT.PHASE, n, vdPre), (Reg.VALVE.PSTAT.PROF, n, prof), (Reg.VALVE.PSTAT.PC, n, entry),
    (Reg.VALVE.ARRIVE.VALID, n, 0)]
  vdShow (vdSetD s n d) n false

/-- The code of the first refusal flag that is set, 0 for none (R234). A start that would run profile `prof` also needs
its descriptor to be valid. -/
def vdRefusal (s : State) (n : Nat) (prof : Option Nat) : Nat :=
  let bad := match prof with | some p => !descValid (ucWord s (vdBank n) p) | none => false
  if s.bit Reg.VALVE.PSTAT.UC_BLOCK n || bad then 1
  else if s.bit Reg.VALVE.PSTAT.COIL_BLOCK n then 2
  else if s.bit Reg.VALVE.PSTAT.VB_BLOCK n then 3
  else if s.bit Reg.VALVE.PSTAT.PROT_OFF n then 4
  else 0

/-- The configured safe state keeps a channel from being started (R256, R460, R463). -/
def vdKeptSafe (s : State) (n : Nat) : Bool := s.zoneSafe || held s (.vd n) || held s (.vb (vdBank n))

/-- VALVE_START (R234 to R236): the committed START acts by the channel's phase. With OFF beside it, OFF is taken. -/
def execValveStart (n : Fin 24) (s : State) : Result :=
  let n := n.val
  if !s.effBit Reg.VALVE.CMD.START n || s.effBit Reg.VALVE.CMD.OFF n then .next s
  else
    let s := s.setEff Reg.VALVE.CMD.START n 0
    if s.allOff || vdKeptSafe s n then .next s
    else
      let s := s.reach (vdApplied s)
      let x := stepAt s.now
      let d := vdDeadline s n x
      let prof := s.effFld Reg.VALVE.CMD.PROF n
      let ph := vdPhase s n
      let fresh := ph == vdIdle || ph == vdRelease
      let why := vdRefusal s n (if fresh then some prof else none)
      if why ≠ 0 then
        .next (s.setFlds [(Reg.VALVE.STAT.EV_REFUSED, n, 1), (Reg.VALVE.STAT.REASON, n, why)])
      else if ph = vdIdle then .next (vdBegin s n prof d x)
      else if ph = vdRelease then
        let c := s.vdCh n
        let d := if s.bit Reg.VALVE.PSTAT.QUEUED n then max c.qD d else d
        .next (bankSwitch ((s.setVd n { c with qProf := prof, qD := d }).setBit Reg.VALVE.PSTAT.QUEUED n true) (vdBank n))
      else .next (vdSetD s n (max (vdD s n) d))

/-- VALVE_OFF (R235): the profile goes to its RELEASE address; in RELEASE a queued start is cancelled. -/
def execValveOff (n : Fin 24) (s : State) : Result :=
  let n := n.val
  if !s.effBit Reg.VALVE.CMD.OFF n then .next s
  else
    let s := (s.setEff Reg.VALVE.CMD.OFF n 0).setEff Reg.VALVE.CMD.START n 0
    let s := s.reach (vdApplied s)
    if vdPhase s n = vdRelease then .next (bankSwitch (s.setBit Reg.VALVE.PSTAT.QUEUED n false) (vdBank n))
    else .next (vdToRelease s n (stepAt s.now) false)

/-- VALVE_REARM (R253): leaves PROT_OFF while the channel's latch, and for a bank protection the bank's, is clear. -/
def execValveRearm (n : Fin 24) (s : State) : Result :=
  let n := n.val
  let b := vdBank n
  if !s.effBit Reg.VALVE.CMD.REARM n then .next s
  else
    let s := s.setEff Reg.VALVE.CMD.REARM n 0
    let prot := s.bit Reg.VALVE.BANKSTAT.VB_PROT b
    if s.bit Reg.VALVE.STAT.TLATCH n || (prot && (s.bank b).latch) then .next s
    else .next (bankSwitch ((s.setBit Reg.VALVE.PSTAT.PROT_OFF n false).setBit Reg.VALVE.BANKSTAT.VB_PROT b false) b)

/-! ### The profile engine (R237 to R245, R248) -/

/-- Fields of a code word (R239). -/
def ucOp (w : Nat) : Nat := w / 2 ^ 58
def ucAddr (w : Nat) : Nat := w / 2 ^ 49 % 512
def ucFlg (w : Nat) : Nat := w / 2 ^ 44 % 32
def ucI (w : Nat) : Nat := min (w / 2 ^ 32 % 4096) 3000
def ucT (w : Nat) : Nat := w % 2 ^ 32

/-- The opcodes of R240. -/
def ucOps : List Nat := [0x00, 0x01, 0x02, 0x03, 0x04, 0x05, 0x06, 0x08, 0x09, 0x0A, 0x0B, 0x0C, 0x0D, 0x0E, 0x0F]

/-- An instruction that R240 sends to a fast release: unknown opcode, a code address or branch target below 16, a used
field outside its range. [log entry 77 DEDUCED] -/
def ucBad (at' w : Nat) : Bool :=
  let op := ucOp w
  at' < 16 || !ucOps.contains op ||
    ([0x09, 0x0A, 0x0B, 0x0C, 0x0E].contains op && decide (ucAddr w < 16)) ||
    (op == 0x02 && (ucT w == 0 || decide (65535 < ucT w))) || (op == 0x0A && ucFlg w % 4 == 3)

/-- The bank's peak token is held by channel `n`. -/
def vdHolds (s : State) (n : Nat) : Bool := s.fld Reg.VALVE.BANKSTAT.HOLDER (vdBank n) == n % 6

/-- The target the low side regulates at: a hold is derated under R251. -/
def vdRegTarget (s : State) (n y : Nat) : Nat :=
  let t := vdTargetAt s n y
  if vdPhase s n = vdHold && s.bit Reg.VALVE.PSTAT.DERATED n then
    t * min (max (s.effFld Reg.VALVE.CFG.DERATE n) 10) 100 / 100
  else t

/-- Hysteretic regulation at step `y` with the current in 2 mA (R241): off at target + window, on at target − window,
from 2 µs after the grant in PEAK. -/
def vdRegulate (s : State) (n y cur : Nat) : State :=
  let c := s.vdCh n
  let ph := vdPhase s n
  let live := (ph == vdHold || (ph == vdPeak && decide (c.granted.getD 0 + 2 ≤ y))) && !s.allOff && !c.out &&
    s.dom.pwr.getLsbD (vdDie n)
  let t := vdRegTarget s n y
  let on := if t + c.hyst ≤ cur then false else if cur ≤ t - c.hyst then true else s.bit Reg.VALVE.STAT.LS_ON n
  vdShow (s.setFld Reg.VALVE.IMEAS.INOW n (min cur 0xFFF)) n (live && on)

/-- An armature event is recorded at step `y`: µs from the last grant or the start (R248). -/
def vdArrive (s : State) (n y : Nat) : State :=
  let c := s.vdCh n
  s.setFlds [(Reg.VALVE.ARRIVE.TIME, n, min (y - c.granted.getD c.start) 0xFFFF), (Reg.VALVE.ARRIVE.VALID, n, 1)]

/-- The VP level after the selected edge (R247). -/
def vpEdge (s : State) (n : Nat) : State :=
  s.setBit Reg.VALVE.STAT.VP_LEVEL n (match s.effFld Reg.VALVE.VPCFG.EDGE n with
    | 0 => true
    | 1 => false
    | _ => !s.bit Reg.VALVE.STAT.VP_LEVEL n)

/-- Judge the context's wait at step `y` (R240). -/
def ucResolve (s : State) (n y : Nat) (x : CoilIn) : State :=
  let c := s.vdCh n
  let go := fun (s : State) (at' next : Nat) => s.setVd n { s.vdCh n with wait := .none, succ := at', next := next }
  let cur := x.current / 2
  match c.wait with
  | .none => s
  | .peak _ => s
  | .hold u => if vdD s n = dForever then s else go s c.succ (max (max u (stepAt (vdD s n))) c.next)
  | .rel thr u =>
    if u ≤ y then go (s.setBit Reg.VALVE.PSTAT.REL_TO n true) c.succ (max u c.next)
    else if cur ≤ thr then go s c.succ (y + 1) else s
  | .waiti le thr u a =>
    if u ≤ y then go s a (max u c.next)
    else if c.next ≤ y && (if le then decide (cur ≤ thr) else decide (thr ≤ cur)) then go s c.succ (y + 1) else s
  | .waitp kind u a =>
    let hit := (x.vpEvent && kind != 1) || (x.dipEvent && kind != 0)
    if u ≤ y then go s a (max u c.next)
    else if c.next ≤ y && hit then go (vdArrive s n y) c.succ (y + 1) else s

/-- A parity fault on fetch (R238): a fast release of every running profile of the bank, UC_PARITY, UC_BLOCK,
FLT_VALVE_UCODE in class F1, until every word named by a descriptor has been rewritten. -/
def ucParity (s : State) (b x : Nat) : State :=
  let named := ((upTo 16).map fun p => ucWord s b p).filter descValid |>.flatMap fun d => [descEntry d, descRelease d]
  let s := s.setBank b { s.bank b with todo := named.eraseDups }
  let s := s.each (fun s n => vdToRelease s n x true) (bankChans b)
  let s := s.each (fun s n => s.setBit Reg.VALVE.PSTAT.UC_BLOCK n true) (bankChans b)
  raiseFault (s.setBit Reg.VALVE.BANKSTAT.UC_PARITY b true) Flt.VALVE.UCODE b 1

/-- A bad instruction (R240): a fast release at the next step; one met inside a release is passed over. -/
def ucBadNow (s : State) (n x : Nat) : State :=
  let c := s.vdCh n
  let s := s.setBit Reg.VALVE.PSTAT.REL_TO n true
  let s := if vdPhase s n = vdRelease then s.setVd n { c with succ := (c.succ + 1) % 512, next := x + 1, relFast := true }
    else vdToRelease s n (x + 1) true
  raiseFault s Flt.VALVE.UCODE n 0

/-- One instruction of opcode `op` on channel `n` at its step: a wait is judged with what the coil shows; when the word to
issue next has this opcode it issues, by `act` with the word and the step. -/
def ucRun (op : Nat) (act : State → Nat → Nat → Nat → State) (n : Fin 24) (x : CoilIn) (s : State) : Result :=
  let n := n.val
  if vdPhase s n = vdIdle then .next s
  else
    let y := max (stepAt s.now) (stepAt x.now)
    let own := match (s.vdCh n).wait with
      | .none => false | .peak _ => op == 0x03 | .hold _ => false | .rel _ _ => op == 0x05
      | .waiti _ _ _ _ => op == 0x09 | .waitp _ _ _ => op == 0x0A
    let s0 := s
    let s := ucResolve s n y x
    let s := if x.vpEvent then vpEdge s n else s
    let c := s.vdCh n
    if own then .next (vdRegulate (s.reach (100 * y)) n y (x.current / 2))
    else if c.wait ≠ .none then .next s0
    else
      let y := max y c.next
      let s := s.reach (100 * y)
      if c.succ ∈ (s.bank (vdBank n)).bad then .next (ucParity s (vdBank n) y)
      else
        let w := ucWord s (vdBank n) c.succ
        if ucBad c.succ w then .next (ucBadNow s n y)
        else if ucOp w ≠ op then .next s0
        else
          let s := s.setFld Reg.VALVE.PSTAT.PC n c.succ
          let s := s.setVd n { c with succ := (c.succ + 1) % 512, next := y + 1, target := vdTargetAt s n y, rampLen := 0 }
          let s := settleRaises (act s n w y)
          .next (if vdPhase s n = vdIdle then s else vdRegulate s n y (x.current / 2))

/-- Change the context of a channel. -/
def vdMod (s : State) (n : Nat) (f : VdCh → VdCh) : State := s.setVd n (f (s.vdCh n))

/-- UC_NOP (R240). -/
def execUcNop (n : Fin 24) (x : CoilIn) (s : State) : Result := ucRun 0x00 (fun s _ _ _ => s) n x s

/-- SETI (R240): target and window. -/
def execUcSeti (n : Fin 24) (x : CoilIn) (s : State) : Result :=
  ucRun 0x01 (fun s n w _ => vdMod s n fun c =>
    { c with target := ucI w, hyst := if ucT w % 256 = 0 then 5 else ucT w % 256 }) n x s

/-- RAMP (R240): the target moves linearly to I over T. -/
def execUcRamp (n : Fin 24) (x : CoilIn) (s : State) : Result :=
  ucRun 0x02 (fun s n w y => vdMod s n fun c =>
    { c with rampFrom := c.target, target := ucI w, rampLen := ucT w, next := y + ucT w }) n x s

/-- Join the bank's queue at step `y`: claims of one step stand in ascending local index (R243). -/
def tokenJoin (s : State) (n y : Nat) : State :=
  let b := vdBank n
  let q := (s.bank b).queue
  let later := fun (m : Nat) => decide (n < m) && (s.vdCh m).wait == .peak y
  let s := s.setBank b { s.bank b with queue := q.filter (fun m => !later m) ++ [n] ++ q.filter later }
  let s := vdMod s n fun c => { c with wait := .peak y }
  bankWaiters (s.setFld Reg.VALVE.PSTAT.PHASE n vdWaitPeak) b

/-- PEAK (R240, R243, R244): granted at once when the token is free and nobody waits, else queued; no effect by the
holder. -/
def execUcPeak (n : Fin 24) (x : CoilIn) (s : State) : Result :=
  ucRun 0x03 (fun s n w y =>
    let b := vdBank n
    if vdHolds s n then s
    else
      let s := vdMod s n fun c => { c with battery := ucFlg w % 2 == 1 }
      if s.fld Reg.VALVE.BANKSTAT.HOLDER b = 7 ∧ (s.bank b).queue = [] then tokenGrant s n y
      else vdShow (tokenJoin s n y) n false) n x s

/-- HOLD (R240): the token is given back; the hold lasts at least T and until D. -/
def execUcHold (n : Fin 24) (x : CoilIn) (s : State) : Result :=
  ucRun 0x04 (fun s n w y =>
    let s := tokenLeave s n y
    let s := vdMod s n fun c => { c with target := ucI w, wait := .hold (y + ucT w) }
    vdShow (s.setFld Reg.VALVE.PSTAT.PHASE n vdHold) n (s.bit Reg.VALVE.STAT.LS_ON n)) n x s

/-- REL (R240): the token is given back, the low side opens; the release lasts until the current reads at most I or T has
run. -/
def execUcRel (n : Fin 24) (x : CoilIn) (s : State) : Result :=
  ucRun 0x05 (fun s n w y =>
    let s := tokenLeave s n y
    let s := vdMod s n fun c => { c with wait := .rel (ucI w) (y + ucT w), relFast := c.relFast || ucFlg w % 2 == 1 }
    let s := (s.setFld Reg.VALVE.PSTAT.PHASE n vdRelease).setBit Reg.VALVE.PSTAT.REL_TO n false
    ucResolve (vdShow s n false) n y x) n x s

/-- END (R240): low side off, IDLE, the token given back; a queued start begins at the next step. -/
def execUcEnd (n : Fin 24) (x : CoilIn) (s : State) : Result :=
  ucRun 0x06 (fun s n _ y =>
    let s := vdStop s n y
    if s.bit Reg.VALVE.PSTAT.QUEUED n then
      let c := s.vdCh n
      vdBegin (s.setBit Reg.VALVE.PSTAT.QUEUED n false) n c.qProf c.qD (y + 1)
    else s) n x s

/-- WAITT (R240). -/
def execUcWaitt (n : Fin 24) (x : CoilIn) (s : State) : Result :=
  ucRun 0x08 (fun s n w y => vdMod s n fun c => { c with next := y + max (ucT w) 1 }) n x s

/-- WAITI (R240): waits on the current, else goes to ADDR when T has run. -/
def execUcWaiti (n : Fin 24) (x : CoilIn) (s : State) : Result :=
  ucRun 0x09 (fun s n w y => vdMod s n fun c =>
    { c with wait := .waiti (ucFlg w % 2 == 1) (ucI w) (y + ucT w) (ucAddr w) }) n x s

/-- WAITP (R240, R248): waits on the armature event. -/
def execUcWaitp (n : Fin 24) (x : CoilIn) (s : State) : Result :=
  ucRun 0x0A (fun s n w y => vdMod s n fun c => { c with wait := .waitp (ucFlg w % 4) (y + ucT w) (ucAddr w) }) n x s

/-- BRDL (R240): branches when D has passed. -/
def execUcBrdl (n : Fin 24) (x : CoilIn) (s : State) : Result :=
  ucRun 0x0B (fun s n w y => vdMod s n fun c => if vdD s n ≤ 100 * y then { c with succ := ucAddr w } else c) n x s

/-- JMP (R240). -/
def execUcJmp (n : Fin 24) (x : CoilIn) (s : State) : Result :=
  ucRun 0x0C (fun s n w _ => vdMod s n fun c => { c with succ := ucAddr w }) n x s

/-- SETN (R240). -/
def execUcSetn (n : Fin 24) (x : CoilIn) (s : State) : Result :=
  ucRun 0x0D (fun s n w _ => vdMod s n fun c => { c with loop := ucT w % 2 ^ 16 }) n x s

/-- LOOP (R240): the counter is decremented first. -/
def execUcLoop (n : Fin 24) (x : CoilIn) (s : State) : Result :=
  ucRun 0x0E (fun s n w _ => vdMod s n fun c =>
    let k := (c.loop + 0xFFFF) % 2 ^ 16
    if k = 0 then { c with loop := k } else { c with loop := k, succ := ucAddr w }) n x s

/-- MARK (R240). -/
def execUcMark (n : Fin 24) (x : CoilIn) (s : State) : Result :=
  ucRun 0x0F (fun s n w _ =>
    let s := s.setFld Reg.VALVE.PSTAT.MARK n (ucT w % 256)
    if ucFlg w % 2 = 1 then s.setBit Reg.VALVE.STAT.EV_MARK n true else s) n x s

/-- The holder loses the token in step `y`; its rail source is battery for the rest of its peak (R245).
[log entry 84 DEDUCED] -/
def peakCut (s : State) (n y : Nat) : State :=
  let s := vdMod s n fun c => { c with battery := true }
  let s := (s.setBit Reg.VALVE.PSTAT.PK_CUT n true).satAdd Reg.VALVE.EVCOUNT.PKCUT n 1
  raiseFault (tokenNext s (vdBank n) y) Flt.VALVE.PEAKCUT n 0

/-- PEAK_CUT (R245): PKMAX µs after its grant the holder loses the token. -/
def execPeakCut (n : Fin 24) (s : State) : Result :=
  let n := n.val
  match (s.vdCh n).granted with
  | some g =>
    if vdHolds s n then
      let y := g + descPkMax (vdDesc s n)
      .next (peakCut (s.reach (100 * y)) n y)
    else .next s
  | none => .next s

/-- RUNMAX_EXPIRY (R242): the profile goes to its RELEASE address at the next step; an indefinite hold is exempt.
[log entry 82 DEDUCED] -/
def execRunmaxExpiry (n : Fin 24) (s : State) : Result :=
  let n := n.val
  let c := s.vdCh n
  let ph := vdPhase s n
  if ph = vdIdle ∨ c.ranOut ∨ (ph = vdHold ∧ vdD s n = dForever) then .next s
  else
    let y := c.start + descRunMax (vdDesc s n) * 1000
    let s := vdMod (s.reach (100 * y)) n fun c => { c with ranOut := true }
    .next (raiseFault (vdToRelease (s.setBit Reg.VALVE.STAT.RUN_TO n true) n (y + 1) false) Flt.VALVE.RUNMAX n 0)

/-! ### Coil model (R249 to R251) -/

/-- TMAX and TMAX − TWARN of a channel in 1/64 °C. -/
def coilMax (s : State) (n : Nat) : Int := s.effFld Reg.VALVE.COILTH.TMAX n * 64
def coilWarn (s : State) (n : Nat) : Int := coilMax s n - s.effFld Reg.VALVE.COILTH.TWARN n * 64

/-- θ_c in 1/64 °C. -/
def coilTheta (s : State) (n : Nat) : Int := signed 16 (s.fld Reg.VALVE.THETA.THETA n)

/-- One step of the coil model over `dt` counts with a root-mean-square current in mA (R249). -/
def coilStep (s : State) (n dt irms : Nat) : Int :=
  let t : Rat := (coilTheta s n : Rat) / 64
  let amb : Rat := (ambient s (s.effFld Reg.VALVE.CFG.AMBZ n) : Rat) / 64
  let p : Rat := (irms : Rat) * irms / 1000000 * ((s.effFld Reg.VALVE.COIL.RCOIL n : Rat) / 1000) * (1 + 393 / 100000 * (t - 20))
  let a : Rat := (decayNear dt (max (s.effFld Reg.VALVE.COILTH.TAU n) 1 * 10000000) : Rat) / 2 ^ 32
  ((t + a * (amb + (s.effFld Reg.VALVE.COIL.RTH n : Rat) / 16 * p - t)) * 64).ceil

/-- The words a retained coil state must find unchanged (R250). -/
def coilKey (s : State) (n : Nat) : Nat × Nat :=
  ((s.effWord (Reg.VALVE.COIL.REG.off n)).toNat, (s.effWord (Reg.VALVE.COILTH.REG.off n)).toNat)

/-- Store a coil temperature with the slow time base, and what it is retained under (R250). -/
def coilStore (s : State) (n : Nat) (theta : Int) : State :=
  let s := s.setFld Reg.VALVE.THETA.THETA n (unsigned 16 theta)
  vdMod s n fun c => { c with coilSeen := some (coilKey s n), modelAt := some (slowNow s) }

/-- COIL_MODEL_UPDATE (R249 to R251): one update with the last millisecond's current in mA; at the warning holds are
derated, at the limit a running profile is released. [log entry 81 DEDUCED] -/
def execCoilModelUpdate (n : Fin 24) (irms : Nat) (s : State) : Result :=
  let n := n.val
  if !s.dom.pwr.getLsbD (vdDie n) then .next s
  else
    let forced := (s.vdCh n).forceHot
    let old := coilTheta s n
    let theta := if forced then coilMax s n else coilStep s n 100000 irms
    let s := vdMod (coilStore s n theta) n fun c => { c with forceHot := false }
    let s := if coilWarn s n ≤ theta then s.setBit Reg.VALVE.PSTAT.DERATED n true else s
    let runs := vdPhase s n != vdIdle && vdPhase s n != vdRelease
    if coilMax s n ≤ theta ∧ (runs ∨ old < coilMax s n ∨ forced) then
      let s := vdToRelease s n (stepAt s.now + 1) false
      .next (raiseWith (s.setBit Reg.VALVE.STAT.EV_COILHOT n true) Flt.VALVE.COILHOT n 0 0 forced)
    else .next s

/-- At a col: COIL_BLOCK and DERATED follow the coil model, VB_BLOCK the bank's reservation (R234, R251, R254).
[log entry 85 DEDUCED] -/
def vdCol (s : State) (n : Nat) : State :=
  let t := coilTheta s n
  let s := if t < coilWarn s n then s.setFlds [(Reg.VALVE.PSTAT.DERATED, n, 0), (Reg.VALVE.PSTAT.COIL_BLOCK, n, 0)]
    else if coilMax s n ≤ t then s.setBit Reg.VALVE.PSTAT.COIL_BLOCK n true else s
  s.setBit Reg.VALVE.PSTAT.VB_BLOCK n (resv s (112 + vdBank n) == 0)

/-- The coil models of a die as its domain comes on with its reference temperature (R250): resumed with one step of the
state's age without current, or cold, with FLT_VALVE_COLD once per die. -/
def coilDomainOn (s : State) (die : Nat) (ref : Int) : State :=
  let chans := (upTo 24).filter fun n => vdDie n == die
  let (s, cold) := chans.foldl (fun (p : State × Bool) n =>
    let s := p.1
    let c := s.vdCh n
    let age := slowNow s - c.modelAt.getD 0
    if c.coilSeen = some (coilKey s n) ∧ c.modelAt.isSome ∧ age < s.fld Reg.LEDGER.CFG.VALID_S 0 * 32768 then
      (coilStore s n (coilStep s n (age * 100000000 / 32768) 0), p.2)
    else (coilStore s n (ref + 25 * 64), true)) (s, false)
  let s := s.each (fun s n => s.setBit Reg.VALVE.IMEAS.VALID n false) chans
  if cold then raiseFault s Flt.VALVE.COLD noUnit 0 else s

/-- At a col: the root-mean-square coil and rail currents of the tick (R250, R254). -/
def vdMeasure (m : ColIn) (s : State) (n : Nat) : State :=
  if !s.dom.pwr.getLsbD (vdDie n) then s
  else s.setFlds [(Reg.VALVE.IMEAS.IRMS, n, min (m.vdRms.getD n 0) 0xFFFF), (Reg.VALVE.IMEAS.VALID, n, 1)]

def vbMeasure (m : ColIn) (s : State) (b : Nat) : State :=
  if !s.dom.pwr.getLsbD (vbDie b) then s else s.setFld Reg.VALVE.BANKSTAT.IRMS b (min (m.vbRms.getD b 0) 0xFFFF)

/-! ### Protections (R252) -/

/-- A protection that ends the profile: event bit, counter if there is one, fault. -/
def vdTrip (s : State) (n : Nat) (ev : Field) (cnt : Option Field) (src : Nat) (forced : Bool) : State :=
  let s := s.setBit ev n true
  let s := match cnt with | some c => s.satAdd c n 1 | none => s
  raiseWith (vdEnd s n) src n 0 0 forced

/-- The low side can conduct: a profile runs and drive is possible. -/
def vdLive (s : State) (n : Nat) : Bool := vdPhase s n != vdIdle && !s.allOff

/-- VD_SHORT (R252). -/
def execVdShort (n : Fin 24) (s : State) : Result :=
  .next (if vdLive s n.val then
    vdTrip s n.val Reg.VALVE.STAT.EV_SHORT (some Reg.VALVE.EVCOUNT.SHORT) Flt.VALVE.SHORT false else s)

/-- OPEN_COIL (R252): only in PEAK and HOLD. -/
def execOpenCoil (n : Fin 24) (s : State) : Result :=
  let ph := vdPhase s n.val
  .next (if vdLive s n.val && (ph == vdPeak || ph == vdHold) then
    vdTrip s n.val Reg.VALVE.STAT.EV_OPEN (some Reg.VALVE.EVCOUNT.OPEN) Flt.VALVE.OPEN false else s)

/-- A thermal trip sets the channel's thermal latch (R164, R252). -/
def vdThermal (s : State) (n : Nat) (forced : Bool) : State :=
  vdTrip (s.setBit Reg.VALVE.STAT.TLATCH n true) n Reg.VALVE.STAT.EV_THERM (some Reg.VALVE.EVCOUNT.THERM) Flt.VALVE.THERM forced

/-- VD_OVER_TEMPERATURE (R252). -/
def execVdOverTemperature (n : Fin 24) (s : State) : Result :=
  .next (if s.allOff then s else vdThermal s n.val false)

/-- LONG_CLAMP (R252): reported only. -/
def execLongClamp (n : Fin 24) (s : State) : Result :=
  .next (if s.allOff then s else raiseFault (s.setBit Reg.VALVE.STAT.EV_CLAMP n.val true) Flt.VALVE.CLAMP n.val 0)

/-- VB_PROTECTION (R252): the bank switch goes off, profiles of the bank end; over-temperature sets the bank's latch.
[log entry 80 DEDUCED] -/
def execVbProtection (b : Fin 4) (thermal : Bool) (s : State) : Result :=
  let b := b.val
  if s.allOff || !(s.bit Reg.VALVE.BANKSTAT.VB_ON b || thermal) then .next s
  else
    let s := s.setBit Reg.VALVE.BANKSTAT.VB_PROT b true
    let s := if thermal then s.setBank b { s.bank b with latch := true } else s
    let s := s.each vdEnd (bankChans b)
    .next (raiseFault (bankSwitch s b) (if thermal then Flt.VALVE.VBTHERM else Flt.VALVE.VBSHORT) b 0)

/-! ### The peak supply (R230, R231, R198) -/

/-- The capacitance C in µF (R230). -/
def pksCap (s : State) : Nat := max (s.effFld Reg.VALVE.PKSCFG.CAP 0) (s.fld Reg.VALVE.PKSSTAT.CMEAS 0)

/-- V_lim in 0.25 V, rounded down (R230): √(2 × E ÷ C) V is √(32,000 × E in mJ ÷ C in µF) in 0.25 V.
[log entry 83 DESIGN CHOICE] -/
def pksVlim (s : State) : Nat :=
  let vset := min (max (s.effFld Reg.VALVE.PKSCTL.VSET 0) 80) 240
  if pksCap s = 0 then vset
  else min vset (Nat.sqrt (32000 * min (s.fld Reg.LEDGER.CFG.ESTORE 0) 200 / pksCap s))

/-- The charger may run (R231, R252, R480). -/
def pksRuns (s : State) : Bool :=
  s.effBit Reg.VALVE.PKSCTL.EN 0 && !s.bit Reg.VALVE.PKSSTAT.OV 0 && s.dom.pwr.getLsbD 0 && !s.allOff

/-- Recompute V_lim and what follows from it: the bleed while PKS stands above it or the charger is off, and READY. -/
def pksApply (s : State) : State :=
  let lim := pksVlim s
  let v := s.fld Reg.VALVE.PKSSTAT.VPKS 0
  let s := s.setFld Reg.VALVE.PKSSTAT.VLIM 0 lim
  let bleed := !pksRuns s || decide (lim < v)
  let near := decide (lim ≤ v + 4) && decide (v ≤ lim + 4)
  s.setFlds [(Reg.VALVE.PKSSTAT.BLEED, 0, if bleed then 1 else 0), (Reg.VALVE.PKSSTAT.READY, 0, if pksRuns s && near then 1 else 0)]

/-- PKS_READY (R231): the charger brings PKS, measured in mV, within 1 V of V_lim. -/
def execPksReady (vpks : Nat) (s : State) : Result :=
  let lim := pksVlim s * 250
  if pksRuns s && !s.loadDump.getLsbD 0 && decide (lim ≤ vpks + 1000) && decide (vpks ≤ lim + 1000) then
    .next (pksApply (s.setFld Reg.VALVE.PKSSTAT.VPKS 0 (min (vpks / 250) 255)))
  else .next s

/-- PKS_CAP_MEASURE (R230): the capacitance measured in a charge from below 10 V, in µF. -/
def execPksCapMeasure (cap : Nat) (s : State) : Result :=
  if !pksRuns s then .next s
  else
    let s := s.setFlds [(Reg.VALVE.PKSSTAT.CMEAS, 0, min cap 0xFFF), (Reg.VALVE.PKSSTAT.CMEAS_VALID, 0, 1)]
    let s := pksApply s
    .next (if s.effFld Reg.VALVE.PKSCFG.CAP 0 * 120 < cap * 100 then raiseFault s Flt.VALVE.PKS noUnit 0 else s)

/-- PKS_OVERVOLTAGE (R252): above V_lim + 3 V the charger stays off until a power cycle, the bleed runs and every holder
fed from PKS is cut. -/
def execPksOvervoltage (vpks : Nat) (s : State) : Result :=
  if vpks ≤ pksVlim s * 250 + 3000 then .next s
  else
    let s := s.setFlds [(Reg.VALVE.PKSSTAT.VPKS, 0, min (vpks / 250) 255), (Reg.VALVE.PKSSTAT.OV, 0, 1)]
    let s := pksApply s
    let y := stepAt s.now
    let s := (upTo 4).foldl (fun s b =>
      if s.bit Reg.VALVE.BANKSTAT.SRC_PKS b then peakCut s (6 * b + s.fld Reg.VALVE.BANKSTAT.HOLDER b) y else s) s
    .next (raiseFault s Flt.VALVE.PKS noUnit 1)

/-! ### Controller reset and forces (R255, R259) -/

/-- A controller reset begins (R255): an indefinite D becomes the reset start plus HOLDOVER × 10 ms. -/
def vdResetBegin (s : State) (n : Nat) : State :=
  if vdPhase s n ≠ vdIdle ∧ vdD s n = dForever then
    vdSetD s n (s.now + min (s.effFld Reg.VALVE.CFG.HOLDOVER n) 200 * 1000000)
  else s

/-- VALVE_FORCE_COILHOT: the next model update takes θ_c as TMAX. -/
def execValveForceCoilhot (by_ : By) (n : Fin 24) (s : State) : Result :=
  .next (gated s by_ fun s => vdMod s n.val fun c => { c with forceHot := true })

/-- VALVE_FORCE_THERM: one thermal trip through the real latch. -/
def execValveForceTherm (by_ : By) (n : Fin 24) (s : State) : Result :=
  .next (gated s by_ fun s => vdThermal s n.val true)

/-- VALVE_FORCE_OPEN: one open-coil detection. -/
def execValveForceOpen (by_ : By) (n : Fin 24) (s : State) : Result :=
  .next (gated s by_ fun s => vdTrip s n.val Reg.VALVE.STAT.EV_OPEN (some Reg.VALVE.EVCOUNT.OPEN) Flt.VALVE.OPEN true)

/-- VALVE_FORCE_SHORT: one short trip. -/
def execValveForceShort (by_ : By) (n : Fin 24) (s : State) : Result :=
  .next (gated s by_ fun s => vdTrip s n.val Reg.VALVE.STAT.EV_SHORT (some Reg.VALVE.EVCOUNT.SHORT) Flt.VALVE.SHORT true)

end Sys2Proof.Machine
end

