-- ==== Sys2Proof/Machine/Light.lean ====
section
/-!
DEFINITION. The lighting drive (R261 to R287): sinks, LED model, headroom tracking, stages, the matrix scanner; and the
commands that act on an output of any block: phase points, hold-over expiry, thermal latches, gate faults, supply rows.
-/
namespace Sys2Proof.Machine

/-! ### Commits (R263, R264, R276, R279) -/

/-- The dimming period of a stage in counts (R264). -/
def dimPeriod (s : State) (g : Nat) : Nat := min (max (s.effFld Reg.LIGHT.STAGEDIM.DPER g) 100) 10000 * 100

/-- The on-window of a sink in counts (R147, R264). -/
def sinkWindow (s : State) (n : Nat) : Nat := min (s.effFld Reg.LIGHT.SINKDIM.DUTY n) 1024 * dimPeriod s (sinkStage n) / 1024

/-- An on- or off-window of the sink is shorter than 2 µs (R264). -/
def sinkClips (s : State) (n : Nat) : Bool :=
  let on := sinkWindow s n
  let off := dimPeriod s (sinkStage n) - on
  s.effFld Reg.LIGHT.SINKCTRL.CODE n != 0 && ((decide (0 < on) && decide (on < 200)) || (decide (0 < off) && decide (off < 200)))

/-- A phase point or window end of a dimmed sink (R147, R148, R264). -/
def sinkPhasePoint (s : State) (n : Nat) (start : Bool) : State :=
  let on := sinkWindow s n
  let full := decide (dimPeriod s (sinkStage n) - on < 200)
  let c := s.sink n
  sinkApply (s.setSink n { c with win := if start then decide (200 ≤ on) else c.win && full }) n

/-- A commit of a sink's command (R263): it leaves the configured safe state unless that is kept. -/
def sinkCommit (s : State) (n : Nat) (ctrl dim : Word32) : State :=
  let s := (s.setEffWord (Reg.LIGHT.SINKCTRL.REG.off n) ctrl).setEffWord (Reg.LIGHT.SINKDIM.REG.off n) dim
  let keepSafe := s.zoneSafe || held s (.sink n) || held s (.stage (sinkStage n))
  let s := if keepSafe then s else s.setBit Reg.LIGHT.SINKSTAT.SAFE n false
  sinkApply (s.setBit Reg.LIGHT.SINKSTAT.PULSE_CLIP n (sinkClips s n)) n

/-- A grant whose first commit does not switch its unit on lapses (R196). -/
def grantUsed (s : State) (c : Nat) (on : Bool) : State :=
  let v := s.ledger1 c
  if v.fresh then (if on then s.setLedger1 c { v with fresh := false } else releaseResv s c) else s

/-- A commit of a stage's command (R263, R274). -/
def stageCommit (s : State) (g : Nat) (ctrl : Word32) : State :=
  let s := s.setEffWord (Reg.LIGHT.STAGECTRL.REG.off g) ctrl
  let on := s.effBit Reg.LIGHT.STAGECTRL.EN g || (g == 1 && s.effBit Reg.LIGHT.MXCTRL.EN 0)
  stageApply (grantUsed s (116 + g) on) g

/-- A commit of the matrix (R263, R279): its command and its pixels. -/
def matrixCommit (s : State) (ctrl : Word32) (pix : List (Nat × Word32)) : State :=
  let s := s.setEffWord (Reg.LIGHT.MXCTRL.REG.off 0) ctrl
  let s := pix.foldl (fun s p => s.setEffWord p.1 p.2) s
  let keepSafe := s.zoneSafe || held s .matrix
  matrixApply (if keepSafe then s else s.setBit Reg.LIGHT.MXSTAT.SAFE 0 false)

/-- SINK_REARM (R276): ends PROT_OFF and EXCLUDED while the thermal latch is clear. -/
def execSinkRearm (n : Fin 32) (s : State) : Result :=
  let n := n.val
  if !s.effBit Reg.LIGHT.SINKCTRL.REARM n then .next s
  else
    let s := s.setEff Reg.LIGHT.SINKCTRL.REARM n 0
    if s.bit Reg.LIGHT.SINKSTAT.TLATCH n then .next s
    else .next (sinkApply (s.setFlds [(Reg.LIGHT.SINKSTAT.PROT_OFF, n, 0), (Reg.LIGHT.SINKSTAT.EXCLUDED, n, 0)]) n)

/-- STAGE_REARM (R276): ends PROT_OFF while the latch is clear; the stage soft-starts. -/
def execStageRearm (s_ : Fin 4) (s : State) : Result :=
  let g := s_.val
  if !s.effBit Reg.LIGHT.STAGECTRL.REARM g then .next s
  else
    let s := s.setEff Reg.LIGHT.STAGECTRL.REARM g 0
    if s.bit Reg.LIGHT.STAGESTAT.TLATCH g then .next s
    else .next (settleRaises (stageApply (s.setBit Reg.LIGHT.STAGESTAT.PROT_OFF g false) g))

/-- MATRIX_REARM (R280): ends the rail's PROT_OFF. -/
def execMatrixRearm (s : State) : Result :=
  if !s.effBit Reg.LIGHT.MXCTRL.REARM 0 then .next s
  else .next (matrixApply ((s.setEff Reg.LIGHT.MXCTRL.REARM 0 0).setBit Reg.LIGHT.MXSTAT.PROT_OFF 0 false))

/-! ### LED model (R269 to R271) -/

/-- Headroom target in mV (R287). -/
def stageHR (s : State) (g : Nat) : Nat := min (max (s.effFld Reg.LIGHT.STAGECFG.HR g) 15) 100 * 20

/-- VMAX and VMIN in mV (R287). -/
def stageVmax (s : State) (g : Nat) : Nat := min (max (s.effFld Reg.LIGHT.STAGECFG.VMAX g) 16) 192 * 250
def stageVmin (s : State) (g : Nat) : Nat := min (max (s.effFld Reg.LIGHT.STAGECFG.VMIN g) 16 * 250) (stageVmax s g)

/-- VF_n in mV: as measured, else VF_NOM, else VMAX − HR (R273). -/
def sinkVF (s : State) (n : Nat) : Nat :=
  match (s.sink n).vf with
  | some v => v
  | none =>
    let g := sinkStage n
    if (sinkCalOf s n).vfNom = 0 then stageVmax s g - stageHR s g else (sinkCalOf s n).vfNom

/-- The temperature source of a sink: none for its die's reference, else an analog input (R269). -/
def sinkSource (s : State) (n : Nat) : Option Nat :=
  let t := s.effFld Reg.LIGHT.SINKCFG.TSRC n
  if t = 0 ∨ 24 < t then none else some (t - 1)

/-- The latest conversion of the source in 1/64 °C. -/
def sinkTsrc (s : State) (n : Nat) : Int :=
  match sinkSource s n with
  | none => smapGet (fun _ => 0) s.dieRef (sinkDie n)
  | some i => signed 16 (s.fld Reg.INPUT.AITEMP.TEMP i)

/-- The rise of a sink's LED over its source after `dt` counts with a current in mA, in 2^−38 K (R269).
[log entry 88 DESIGN CHOICE] -/
def ledRise (s : State) (n dt irms : Nat) : Int :=
  let a : Int := decayNear dt (max (s.effFld Reg.LIGHT.LEDMOD.TAU n) 1 * 1000000)
  let rise := (s.sink n).rise
  -- rth × p in 2^−38 K: RTH/16 K/W times mA × mV / 10^6
  let aim : Int := s.effFld Reg.LIGHT.LEDMOD.RTH n * irms * sinkVF s n * 2 ^ 34 / 1000000
  rise + a * (aim - rise) / 2 ^ 32

/-- θ_led in 1/64 °C of a rise, rounded up (R269). -/
def ledTheta (s : State) (n : Nat) (rise : Int) : Int := sinkTsrc s n - (-rise / 2 ^ 32)

/-- Entry temperature of a terrace in 1/64 °C (R271). [log entry 87 DESIGN CHOICE] -/
def terraceEntry (s : State) (g k : Nat) : Int :=
  (s.effFld Reg.LIGHT.TERRACE.TKNEE g + (k - 1) * min (max (s.effFld Reg.LIGHT.TERRACE.TSTEP g) 1) 20) * 64

/-- The terrace at a temperature, from the present one: up when the next entry is reached, down 2 K below the entry of
the present one (R271). [log entry 86 DESIGN CHOICE] -/
def terraceOf (s : State) (g : Nat) (theta : Int) (now' : Nat) : Nat :=
  let up := (upTo 15).foldl (fun t _ => if t < 15 ∧ terraceEntry s g (t + 1) ≤ theta then t + 1 else t) now'
  (upTo 15).foldl (fun t _ => if 0 < t ∧ theta ≤ terraceEntry s g t - 128 then t - 1 else t) up

/-- TOFF of a stage in 1/64 °C. -/
def stageToff (s : State) (g : Nat) : Int := s.effFld Reg.LIGHT.STAGEDIM.TOFF g * 64

/-- LED_MODEL_UPDATE (R269 to R271): one update with the last millisecond's current in mA and the die's reference
temperature in 1/64 °C; terrace, hot_off and the effective code follow. -/
def execLedModelUpdate (n : Fin 32) (irms : Nat) (ref : Int) (s : State) : Result :=
  let n := n.val
  let g := sinkStage n
  if !s.dom.pwr.getLsbD (sinkDie n) then .next s
  else
    let s := { s with dieRef := smapSet (fun _ => 0) s.dieRef (sinkDie n) ref }
    let rise := ledRise s n 100000 irms
    let c := s.sink n
    let s := s.setSink n { c with
      rise := rise, first := c.first || (sinkSource s n).isNone, modelAt := some (slowNow s),
      modSeen := some (s.effWord (Reg.LIGHT.LEDMOD.REG.off n)).toNat }
    let theta := ledTheta s n rise
    let s := s.setFlds [(Reg.LIGHT.LEDTH.THETA, n, unsigned 16 theta),
      (Reg.LIGHT.LEDTH.TERRACE, n, terraceOf s g theta (s.fld Reg.LIGHT.LEDTH.TERRACE n))]
    let was := s.bit Reg.LIGHT.SINKSTAT.HOT_OFF n
    if stageToff s g ≤ theta then
      let s := sinkApply ((s.setBit Reg.LIGHT.SINKSTAT.HOT_OFF n true).setBit Reg.LIGHT.SINKSTAT.EV_LEDHOT n true) n
      .next (if was then s else raiseFault s Flt.LIGHT.LEDHOT n 0)
    else
      .next (sinkApply (if theta < stageToff s g - 640 then s.setBit Reg.LIGHT.SINKSTAT.HOT_OFF n false else s) n)

/-- The LED models of a die as its domain comes on (R270). -/
def ledDomainOn (s : State) (die : Nat) : State :=
  let sinks := (upTo 32).filter fun n => sinkDie n == die
  let (s, cold) := sinks.foldl (fun (p : State × Bool) n =>
    let s := p.1
    let c := s.sink n
    let age := slowNow s - c.modelAt.getD 0
    let key := (s.effWord (Reg.LIGHT.LEDMOD.REG.off n)).toNat
    let ok := c.modelAt.isSome && c.modSeen == some key && decide (age < s.fld Reg.LEDGER.CFG.VALID_S 0 * 32768)
    let rise := if ok then ledRise s n (age * 100000000 / 32768) 0 else 25 * 2 ^ 38
    let s := s.setSink n { c with rise := rise, first := false, modelAt := some (slowNow s), modSeen := some key }
    let s := s.setFld Reg.LIGHT.LEDTH.THETA n (unsigned 16 (ledTheta s n rise))
    (sinkApply s n, p.2 || !ok)) (s, false)
  if cold then raiseFault s Flt.LIGHT.COLD noUnit 0 else s

/-- A completed conversion of an analog input ends the start cap of the sinks that take it (R270). -/
def ledSourced (s : State) (i : Nat) : State :=
  s.each (fun s n => if sinkSource s n = some i then sinkApply (s.setSink n { s.sink n with first := true }) n else s) (upTo 32)

/-! ### Headroom tracking (R272 to R274) -/

/-- A tracked sink (R272). -/
def sinkTracked (s : State) (n : Nat) : Bool :=
  sinkAsked s n != 0 && !s.bit Reg.LIGHT.SINKSTAT.EXCLUDED n && !s.bit Reg.LIGHT.SINKSTAT.HOT_OFF n &&
    !s.bit Reg.LIGHT.SINKSTAT.PROT_OFF n

/-- V_target in mV (R272, R273). -/
def stageTarget (s : State) (g : Nat) : Nat :=
  let needs := (stageSinks g).filter (sinkTracked s) |>.map fun n => sinkVF s n + stageHR s g
  min (max (needs.foldl max 0) (stageVmin s g)) (stageVmax s g)

/-- HEADROOM_MEASURE (R272): the headroom and the stage's output voltage in mV at the end of an on-window. -/
def execHeadroomMeasure (n : Fin 32) (hr vout : Nat) (s : State) : Result :=
  let n := n.val
  let g := sinkStage n
  if !s.bit Reg.LIGHT.STAGESTAT.RUN g || sinkAsked s n == 0 then .next s
  else
    let vf := vout - hr
    let s := s.setSink n { s.sink n with vf := some vf, hr := hr }
    let s := s.setFlds [(Reg.LIGHT.SINKMEAS.HR, n, min (hr / 10) 0xFFF), (Reg.LIGHT.SINKMEAS.VALID, n, 1),
      (Reg.LIGHT.LEDTH.VF, n, min (vf / 20) 0xFFF), (Reg.LIGHT.STAGESTAT.VOUT, g, min (vout / 20) 0xFFF),
      (Reg.LIGHT.SINKSTAT.DROPOUT, n, if hr + 200 < stageHR s g then 1 else 0)]
    .next (s.setStage g { s.stage g with target := stageTarget s g })

/-- SETPOINT_STEP (R272): the setpoint moves towards V_target by at most 50 mV. -/
def execSetpointStep (s_ : Fin 4) (vout : Nat) (s : State) : Result :=
  let g := s_.val
  if !s.bit Reg.LIGHT.STAGESTAT.RUN g then .next s
  else
    let t := stageTarget s g
    let p := (s.stage g).setp
    let p := if p < t then min (p + 50) t else max (p - 50) t
    .next ((s.setStage g { s.stage g with setp := p, target := t }).setFld Reg.LIGHT.STAGESTAT.VOUT g (min (vout / 20) 0xFFF))

/-- STAGE_READY (R274): the output comes within 0.5 V of the setpoint. -/
def execStageReady (s_ : Fin 4) (vout : Nat) (s : State) : Result :=
  let g := s_.val
  let t := stageTarget s g
  if s.bit Reg.LIGHT.STAGESTAT.RUN g && decide (t ≤ vout + 500) && decide (vout ≤ t + 500) then
    .next (s.setFlds [(Reg.LIGHT.STAGESTAT.VOUT, g, min (vout / 20) 0xFFF), (Reg.LIGHT.STAGESTAT.READY, g, 1)])
  else .next s

/-! ### Protections (R275) -/

/-- The sink conducts in its on-windows. -/
def sinkLive (s : State) (n : Nat) : Bool := s.bit Reg.LIGHT.STAGESTAT.RUN (sinkStage n) && sinkAsked s n != 0

/-- An open string: the sink is excluded from tracking and stays commanded (R275). -/
def sinkOpen (s : State) (n : Nat) (forced : Bool) : State :=
  let s := s.setFlds [(Reg.LIGHT.SINKSTAT.EXCLUDED, n, 1), (Reg.LIGHT.SINKSTAT.EV_OPEN, n, 1)]
  let g := sinkStage n
  raiseWith (s.setStage g { s.stage g with target := stageTarget s g }) Flt.LIGHT.OPEN n 0 0 forced

/-- OPEN_STRING (R275). -/
def execOpenString (n : Fin 32) (s : State) : Result :=
  .next (if sinkLive s n.val && !s.bit Reg.LIGHT.SINKSTAT.EXCLUDED n.val then sinkOpen s n.val false else s)

/-- A string short: reported, and with SHRT_ACT the sink goes off (R275). -/
def sinkShort (s : State) (n : Nat) (forced : Bool) : State :=
  let s := s.setBit Reg.LIGHT.SINKSTAT.EV_SHORT n true
  let s := if s.effBit Reg.LIGHT.SINKCFG.SHRT_ACT n then sinkApply (s.setBit Reg.LIGHT.SINKSTAT.PROT_OFF n true) n else s
  raiseWith s Flt.LIGHT.SHORT n 0 0 forced

/-- STRING_SHORT (R275). -/
def execStringShort (n : Fin 32) (s : State) : Result := .next (if sinkLive s n.val then sinkShort s n.val false else s)

/-- A sink thermal trip: off, with its thermal latch set (R275). -/
def sinkThermal (s : State) (n : Nat) (forced : Bool) : State :=
  let s := s.setFlds [(Reg.LIGHT.SINKSTAT.TLATCH, n, 1), (Reg.LIGHT.SINKSTAT.EV_THERM, n, 1), (Reg.LIGHT.SINKSTAT.PROT_OFF, n, 1)]
  raiseWith (sinkApply s n) Flt.LIGHT.THERM n 0 0 forced

/-- SINK_OVER_TEMPERATURE (R275). -/
def execSinkOverTemperature (n : Fin 32) (s : State) : Result := .next (if s.allOff then s else sinkThermal s n.val false)

/-- A stage protection: the stage goes off (R275). -/
def stageTrip (s : State) (g : Nat) (trip : StageTrip) (forced : Bool) : State :=
  let (ev, src, cls) := match trip with
    | .overvoltage => (Reg.LIGHT.STAGESTAT.EV_OV, Flt.LIGHT.STAGE, 0)
    | .short => (Reg.LIGHT.STAGESTAT.EV_OSHORT, Flt.LIGHT.STAGE, 0)
    | .leak => (Reg.LIGHT.STAGESTAT.EV_LEAK, Flt.LIGHT.LEAK, 1)
    | .thermal => (Reg.LIGHT.STAGESTAT.EV_THERM, Flt.LIGHT.STAGE, 0)
  let s := (s.setBit ev g true).setBit Reg.LIGHT.STAGESTAT.PROT_OFF g true
  let s := if trip = .thermal then s.setBit Reg.LIGHT.STAGESTAT.TLATCH g true else s
  raiseWith (stageApply s g) src g cls 0 forced

/-- STAGE_PROTECTION (R275): an output short counts only after READY. -/
def execStageProtection (s_ : Fin 4) (trip : StageTrip) (s : State) : Result :=
  let g := s_.val
  let can := match trip with
    | .thermal => !s.allOff
    | .short => s.bit Reg.LIGHT.STAGESTAT.RUN g && s.bit Reg.LIGHT.STAGESTAT.READY g
    | _ => s.bit Reg.LIGHT.STAGESTAT.RUN g
  .next (if can then stageTrip s g trip false else s)

/-! ### The matrix (R277 to R282) -/

/-- Blanking and on-time of a line in counts (R278, R287). -/
def mxBlank (s : State) : Nat := max (s.effFld Reg.LIGHT.MXCFG.BLANK 0) 1 * 100
def mxOn (s : State) : Nat := min (max (s.effFld Reg.LIGHT.MXCFG.LINE_ON 0) 10) 10000 * 100

/-- A frame or line is running. -/
def mxBusy (s : State) : Bool := s.bit Reg.LIGHT.MXSTAT.FRAME_BUSY 0 || s.bit Reg.LIGHT.MXSTAT.LINE_BUSY 0

/-- The pixel buffer committed at the latest col (R279). -/
def mxPixels (s : State) : List (Nat × Word32) := (upTo 48).map fun k => (k, s.effWord (Reg.LIGHT.PIX.REG.off k))

/-- A frame or one line starts at count `at'` (R278, R279). -/
def mxStart (s : State) (at' : Nat) (line : Option Nat) : State :=
  let m := s.matrix
  let s := { s with matrix := { m with
    start := at', buf := mxPixels s, lineOff := [], seenCols := [],
    starts := if line.isNone then (m.starts ++ [at']).drop (m.starts.length - 1) else m.starts } }
  match line with
  | none => s.setFlds [(Reg.LIGHT.MXSTAT.FRAME_BUSY, 0, 1), (Reg.LIGHT.MXSTAT.LINE, 0, 0)]
  | some l => s.setFlds [(Reg.LIGHT.MXSTAT.LINE_BUSY, 0, 1), (Reg.LIGHT.MXSTAT.LINE, 0, l)]

/-- A SCAN pass at count `p` (R278, R279, R282): no effect without the matrix; ignored with OVERLAP while a frame or line
runs; it ends the repetition of hold-over. -/
def mxScan (s : State) (p : Nat) (line : Option Nat) : State :=
  let s := s.setBit Reg.LIGHT.MXSTAT.HOLDOVER 0 false
  if !matrixRail s then s
  else if mxBusy s then s.setBit Reg.LIGHT.MXSTAT.OVERLAP 0 true
  else mxStart s (p + 2) line

/-- The window of pixel (l, c) of the frame that runs, in counts; none shorter than 1 µs is produced (R278). -/
def mxWindow (s : State) (l c : Nat) : Nat :=
  let i := 16 * l + c
  let w := smapGet (fun _ => (0 : Word32)) s.matrix.buf (i / 4)
  let t := getBits w (8 * (i % 4)) 8 * mxOn s / 255
  if t < 100 then 0 else t

/-- A set of numbers as bits. -/
def bitsOf (l : List Nat) : Nat := l.foldl (fun m k => m ||| 2 ^ k) 0

/-- MATRIX_FRAME_END (R278, R280): the frame or line ends and the matrix is dark; after a frame the diagnostic bits show
what that frame met. -/
def execMatrixFrameEnd (s : State) : Result :=
  let m := s.matrix
  let one := mxBlank s + mxOn s
  if s.bit Reg.LIGHT.MXSTAT.FRAME_BUSY 0 then
    let s := (s.reach (m.start + 12 * one)).incFld Reg.LIGHT.MXSTAT.FRAMES 0
    .next (matrixDark (s.setFlds [(Reg.LIGHT.MXDIAG.COLOPEN, 0, bitsOf m.seenCols), (Reg.LIGHT.MXDIAG.LINESHORT, 0, bitsOf m.lineOff)]))
  else if s.bit Reg.LIGHT.MXSTAT.LINE_BUSY 0 then .next (matrixDark (s.reach (m.start + one)))
  else .next s

/-- MATRIX_DIAG (R280). [log entry 89 DEDUCED] -/
def execMatrixDiag (d : MatrixDiag) (s : State) : Result :=
  let m := s.matrix
  match d with
  | .column c =>
    if !mxBusy s then .next s
    else
      let s := { s with matrix := { m with seenCols := (m.seenCols ++ [c.val]).eraseDups } }
      let s := s.setFld Reg.LIGHT.MXDIAG.COLOPEN 0 (s.fld Reg.LIGHT.MXDIAG.COLOPEN 0 ||| 2 ^ c.val)
      .next (raiseFault s Flt.LIGHT.MXCOL c.val 0)
  | .line l =>
    if !mxBusy s then .next s
    else
      let s := { s with matrix := { m with lineOff := (m.lineOff ++ [l.val]).eraseDups } }
      let s := s.setFld Reg.LIGHT.MXDIAG.LINESHORT 0 (s.fld Reg.LIGHT.MXDIAG.LINESHORT 0 ||| 2 ^ l.val)
      .next (raiseFault s Flt.LIGHT.MXLINE l.val 0)
  | .rail => .next (if matrixRail s then matrixApply (s.setBit Reg.LIGHT.MXSTAT.PROT_OFF 0 true) else s)

/-- The interval at which hold-over repeats the frame (R282). -/
def mxInterval (s : State) : Nat := match s.matrix.starts with | [a, b] => b - a | _ => 484800

/-- MATRIX_HOLDOVER_FRAME (R282): in hold-over, or in the safe state that repeats, the last committed frame starts again.
[log entry 90 DEDUCED] -/
def execMatrixHoldoverFrame (s : State) : Result :=
  let m := s.matrix
  let repeats := s.bit Reg.LIGHT.MXSTAT.HOLDOVER 0 || (s.bit Reg.LIGHT.MXSTAT.SAFE 0 && s.effBit Reg.LIGHT.MXRAIL.SAFE 0)
  if repeats && matrixRail s && !mxBusy s && !m.starts.isEmpty then
    let at' := max s.now (m.starts.getLastD 0 + mxInterval s)
    .next (mxStart (s.reach at') at' none)
  else .next s

/-! ### Measurement, hold-over, reclaim (R281, R282) -/

/-- At a col: input and output current of a stage over the tick (R281). [log entry 91 DEDUCED] -/
def stageMeasure (m : ColIn) (s : State) (g : Nat) : State :=
  if !s.dom.pwr.getLsbD (stageDie g) then s
  else
    let i := min (m.stageIn.getD g 0) 0xFFFF
    let lim := s.fld Reg.LIGHT.STAGEEFF.EFF g * 125
    s.setFlds [(Reg.LIGHT.STAGEMEAS.IIN, g, i), (Reg.LIGHT.STAGEMEAS.IOUT, g, min (m.stageOut.getD g 0) 0xFFFF),
      (Reg.LIGHT.STAGESTAT.IVALID, g, 1), (Reg.LIGHT.STAGESTAT.IN_LIMIT, g, if s.bit Reg.LIGHT.STAGESTAT.RUN g ∧ lim ≤ i * 10 then 1 else 0)]

/-- A sink, or the matrix, enters hold-over at a count (R172, R282). -/
def sinkHold (s : State) (n at' : Nat) : State :=
  (s.setBit Reg.LIGHT.SINKSTAT.HOLDOVER n true).setSink n { s.sink n with holdFrom := some at' }

def matrixHold (s : State) (at' : Nat) : State :=
  { s.setBit Reg.LIGHT.MXSTAT.HOLDOVER 0 true with matrix := { s.matrix with holdFrom := some at' } }

/-- Expiry of a sink's hold-over (R174, R282). -/
def sinkExpire (s : State) (n : Nat) : State :=
  match (s.sink n).holdFrom with
  | none => s
  | some h =>
    let s := s.reach (h + min (s.effFld Reg.LIGHT.SINKCFG.HOLD n) 2000 * 100000)
    let s := s.setSink n { s.sink n with holdFrom := none, expired := true }
    sinkSafe (s.setFlds [(Reg.LIGHT.SINKSTAT.HOLDOVER, n, 0), (Reg.LIGHT.SINKSTAT.EV_HOLDEXP, n, 1)]) n

/-- Expiry of the matrix's hold-over (R282). -/
def matrixExpire (s : State) : State :=
  match s.matrix.holdFrom with
  | none => s
  | some h =>
    let s := s.reach (h + min (s.effFld Reg.LIGHT.MXRAIL.HOLD 0) 2000 * 100000)
    let s := { s with matrix := { s.matrix with holdFrom := none, expired := true } }
    matrixSafe (s.setFlds [(Reg.LIGHT.MXSTAT.HOLDOVER, 0, 0), (Reg.LIGHT.MXSTAT.EV_HOLDEXP, 0, 1)])

/-- Reclaim of a sink at the commit strobe of the plan's first col (R175, R282): committed with its held state, or with
its safe state when its timer expired before. -/
def sinkReclaim (s : State) (n : Nat) : State :=
  let c := s.sink n
  let s := (s.setSink n { c with holdFrom := none, expired := false }).setBit Reg.LIGHT.SINKSTAT.HOLDOVER n false
  if c.expired then
    let s := match s.effFld Reg.LIGHT.SINKCFG.SAFE n with
      | 1 => (s.setEff Reg.LIGHT.SINKCTRL.CODE n (s.effFld Reg.LIGHT.SINKSAFE.SAFECODE n)).setEff Reg.LIGHT.SINKDIM.DUTY n 1024
      | 2 => s
      | _ => s.setEff Reg.LIGHT.SINKCTRL.CODE n 0
    let s := if s.zoneSafe then s else s.setBit Reg.LIGHT.SINKSTAT.SAFE n false
    raiseFault (sinkApply s n) Flt.LIGHT.HOLDEXP n 0
  else sinkApply s n

/-- Reclaim of the matrix (R282): its repetition ends only at the plan's first SCAN pass. -/
def matrixReclaim (s : State) : State :=
  let m := s.matrix
  let s := { s with matrix := { m with holdFrom := none, expired := false } }
  if m.expired then
    let s := if s.effBit Reg.LIGHT.MXRAIL.SAFE 0 then s.setBit Reg.LIGHT.MXSTAT.HOLDOVER 0 true else s.setEff Reg.LIGHT.MXCTRL.EN 0 0
    let s := if s.zoneSafe then s else s.setBit Reg.LIGHT.MXSTAT.SAFE 0 false
    raiseFault (matrixApply s) Flt.LIGHT.HOLDEXP noUnit 0
  else matrixApply s

/-! ### Commands on an output of any block -/

/-- PULSE_GROUP_PHASE_POINT (R147, R264): a counter reaches a channel's phase point or its window's end. -/
def execPulseGroupPhasePoint (chan : OutUnit) (start : Bool) (s : State) : Result :=
  match chan with
  | .lsw n => .next (settleRaises (if lswPulsed s n.val then lswPhasePoint s n.val start else s))
  | .sink n => .next (if sinkDimmed s n.val then sinkPhasePoint s n.val start else s)
  | _ => .next s

/-- HOLDOVER_EXPIRY (R174, R282). -/
def execHoldoverExpiry (chan : OutUnit) (s : State) : Result :=
  match chan with
  | .lsw n => .next (settleRaises (lswExpire s n.val))
  | .sink n => .next (sinkExpire s n.val)
  | .matrix => .next (matrixExpire s)
  | _ => .next s

/-- THERMAL_LATCH_CLEAR (R164, R216, R252, R275): the junction has stayed at or below 150 °C for 1 ms. -/
def execThermalLatchClear (chan : OutUnit) (s : State) : Result :=
  match chan with
  | .lsw n => .next (settleRaises (lswApply (s.setBit Reg.LSW.STAT.TLATCH n.val false) n.val))
  | .hbr n => .next (s.setBit Reg.HBR.STAT.TLATCH n.val false)
  | .vd n => .next (s.setBit Reg.VALVE.STAT.TLATCH n.val false)
  | .vb b => .next (s.setBank b.val { s.bank b.val with latch := false })
  | .sink n => .next (s.setBit Reg.LIGHT.SINKSTAT.TLATCH n.val false)
  | .stage g => .next (s.setBit Reg.LIGHT.STAGESTAT.TLATCH g.val false)
  | .matrix => .next s

/-- GATE_DRIVER_FAULT (R214, R252, R275): the unit is out of service until a power cycle. -/
def execGateDriverFault (chan : OutUnit) (s : State) : Result :=
  match chan with
  | .hbr n =>
    let s := s.setHb n.val { s.hbCh n.val with out := true }
    .next (raiseFault (hbApply s (hbMaster s n.val)) Flt.HBR.GATE n.val 1)
  | .vd n =>
    let s := vdDrop (vdStop (vdMod s n.val fun c => { c with out := true }) n.val (stepAt s.now)) n.val
    .next (raiseFault (bankSwitch s (vdBank n.val)) Flt.VALVE.GATE n.val 1)
  | .vb b =>
    let s := s.setBank b.val { s.bank b.val with out := true }
    .next (raiseFault (bankSwitch s b.val) Flt.VALVE.GATE b.val 1)
  | .stage g =>
    let s := s.setStage g.val { s.stage g.val with out := true }
    .next (raiseFault (stageApply s g.val) Flt.LIGHT.GATE g.val 1)
  | _ => .next s

/-- LOAD_DUMP (R480): above 28 V on an input the PKS charger, or the lighting stages, pause; below, they resume. -/
def execLoadDump (input : Fin 2) (above : Bool) (s : State) : Result :=
  let s := { s with loadDump := BitVec.ofNat 2 (if above then s.loadDump.toNat ||| 2 ^ input.val
    else s.loadDump.toNat &&& (3 - 2 ^ input.val)) }
  .next (matrixApply (s.each stageApply (upTo 4)))

/-- SUPPLY_UNDERVOLTAGE (R161, R214, R252, R275, R480): the input of a power die falls below 5.5 V, or is above 6.0 V
again. -/
def execSupplyUndervoltage (die : Fin 4) (under : Bool) (s : State) : Result :=
  let d := die.val
  let s := { s with dom := { s.dom with uv := BitVec.ofNat 4 (if under then s.dom.uv.toNat ||| 2 ^ d
    else s.dom.uv.toNat &&& (15 - 2 ^ d)) } }
  let s := s.each (fun s n => lswApply (s.setBit Reg.LSW.STAT.UV n under) n) ((upTo 96).filter fun n => lswDie n == d)
  let s := s.each (fun s n => s.setBit Reg.HBR.STAT.UV n under) ((upTo 16).filter fun n => hbDie n == d)
  let s := s.each hbApply ((upTo 16).filter fun n => hbDie n == d && hbMaster s n == n)
  let s := s.each bankSwitch ((upTo 4).filter fun b => vbDie b == d)
  let s := s.each (fun s g => stageApply (s.setBit Reg.LIGHT.STAGESTAT.UV g under) g) ((upTo 4).filter fun g => stageDie g == d)
  .next (settleRaises s)

/-! ### Forces (R287) -/

/-- LIGHT_FORCE_LEAK: one leak detection on the stage of the selected sink. -/
def execLightForceLeak (by_ : By) (n : Fin 32) (s : State) : Result :=
  .next (gated s by_ fun s => stageTrip s (sinkStage n.val) .leak true)

/-- LIGHT_FORCE_THERM: one sink thermal trip through the real latch. -/
def execLightForceTherm (by_ : By) (n : Fin 32) (s : State) : Result := .next (gated s by_ fun s => sinkThermal s n.val true)

/-- LIGHT_FORCE_SHORT: one string short detection. -/
def execLightForceShort (by_ : By) (n : Fin 32) (s : State) : Result := .next (gated s by_ fun s => sinkShort s n.val true)

/-- LIGHT_FORCE_OPEN: one open-string detection. -/
def execLightForceOpen (by_ : By) (n : Fin 32) (s : State) : Result := .next (gated s by_ fun s => sinkOpen s n.val true)

end Sys2Proof.Machine
end

