-- ==== Sys2Proof/Machine/Wake.lean ====
section
/-!
DEFINITION. Wake events and the abort of an armed sleep (R375, R376, R381): what every wake source calls.
-/
namespace Sys2Proof.Machine

/-- In valley V2 or V3. -/
def inValley (s : State) : Bool := s.power.descent == .valley

/-- The Z96 drives a WAKE pulse of WPULSE × 20 µs and ignores the line until 50 µs after its end (R381). -/
def wakePulse (s : State) : State :=
  let len := min (max (s.fld Reg.POWER.WAKECFG.WPULSE 0) 3) 250 * 2000
  { s with power := { s.power with drive := true, ignoreTo := s.now + len + 5000 } }

/-- A wake event before the watershed aborts the sleep (R375). -/
def sleepAbort (s : State) : State :=
  let s := ((sleepDisarm s).setBit Reg.POWER.STATUS.ABORTED 0 true).satAdd Reg.POWER.COUNT.ABORTS 0 1
  if s.bit Reg.POWER.WAKECFG.ABORTDRV 0 then wakePulse s else s

/-- A wake event of source `b` from unit `u` (R375, R376): from the arm until the valley is left it sets its bit; before the
watershed it aborts the sleep; later it is a late wake, or in the valley starts the exit. -/
def wakeEvent (s : State) (b u : Nat) : State :=
  let on := 10 ≤ b || (s.fld Reg.POWER.WAKEEN.EN 0).testBit b
  let st := sleepState s
  if !on || st == sleepIdle then s
  else
    let old := s.fld Reg.POWER.WAKEREASON.REASON 0
    let s := if old = 0 then s.setFlds [(Reg.POWER.WAKEREASON.FIRST, 0, b), (Reg.POWER.WAKEDETAIL.UNIT, 0, u)] else s
    let s := s.setFld Reg.POWER.WAKEREASON.REASON 0 (old ||| 2 ^ b)
    if st = sleepArmed then sleepAbort s
    else if inValley s then
      if s.power.exitAt.isNone then { s with power := { s.power with exitAt := some s.now } } else s
    else
      let s := (s.setBit Reg.POWER.WAKEREASON.LATE 0 true).satAdd Reg.POWER.COUNT.LATE 0 1
      { s with power := { s.power with exitAt := some s.now } }

end Sys2Proof.Machine
end

