-- ==== Sys2Proof/Machine/Keys.lean ====
section
/-!
DEFINITION. The key store (R418 to R430): derivation, the roots, key operations, record checks, tamper and zeroise, crypto
requests, and the forces of the block. Slot attributes live in KEYS.SLOTs; key material is held beside them.
-/
namespace Sys2Proof.Machine

/-- A request in a register that the unprivileged alias does not show (R15). -/
def privOnly (s : State) (b : By) (act : State → State) : State :=
  if b.priv then act s else raiseFault s Flt.SYS.PRIVWRITE b.lane.val 0

/-! ### Key classes (R418) -/

def keyEmpty : Nat := 0
def keyClient : Nat := 1
def keyAccess : Nat := 2
def keyImmo : Nat := 3
def keyUpdate : Nat := 4
def keyUnit : Nat := 5
def keyGeneral : Nat := 6
def keyTransport : Nat := 7

/-- The class of a slot. -/
def keyClass (s : State) (k : Nat) : Nat := s.fld Reg.KEYS.SLOT.CLASS k

/-- The material of a slot. -/
def keyMat (s : State) (k : Nat) : List Byte := smapGet (fun _ => []) s.keys.mat k

/-- Replace the material of a slot. -/
def setKeyMat (s : State) (k : Nat) (m : List Byte) : State :=
  { s with keys := { s.keys with mat := smapSet (fun _ => []) s.keys.mat k m } }

/-- The key of a slot, for an engine that uses the class. -/
def keyFor (s : State) (k cls : Nat) : Option (List Byte) :=
  if keyClass s k = cls && keyUsable s k then some (keyMat s k) else none

/-! ### Roots and derivation (R419 to R422) -/

/-- UNIT_ID (R421). -/
def unitId : Nat := 0x0096 * 2 ^ 48 + Config.unitSerial % 2 ^ 48

/-- UNIT_ID as bytes. -/
def unitIdBytes : List Byte := beBytes unitId 8

/-- The PUF root. -/
def pufRoot : List Byte := (upTo 16).map Config.pufByte

/-- KDF(K, LABEL, CTX) (R422). -/
def kdf (k : List Byte) (label : Nat) (ctx : List Byte) : List Byte :=
  aesCmac k ([0x01] ++ beBytes label 4 ++ [0x00] ++ ctx ++ [0x00, 0x80])

/-- The enrolment key. -/
def enrolKey : List Byte := kdf pufRoot 0x454E524C unitIdBytes

/-- Slots 0 to 3 (R422): class and label. -/
def derivedSlots : List (Nat × Nat × Nat) :=
  [(0, keyClient, 0x53564330), (1, keyUnit, 0x42494E44), (2, keyUnit, 0x41545453), (3, keyTransport, 0x58505254)]

/-- Slots 0 to 3 after a start: derived afresh and LOCKED, or not available (R419, R422). -/
def deriveSlots (s : State) (puf : Bool) : State :=
  derivedSlots.foldl (fun s d =>
    if puf then
      (setKeyMat s d.1 (kdf enrolKey d.2.2 unitIdBytes)).setFlds
        [(Reg.KEYS.SLOT.REG, d.1, 0), (Reg.KEYS.SLOT.CLASS, d.1, d.2.1), (Reg.KEYS.SLOT.ATTR, d.1, 2), (Reg.KEYS.SLOT.ORIGIN, d.1, 1)]
    else setKeyMat (s.setFld Reg.KEYS.SLOT.REG d.1 0) d.1 []) s

/-- `n` bytes of the random number generator. -/
def randomBytes (s : State) : Nat → List Byte × State
  | 0 => ([], s)
  | n + 1 =>
    let r := randomBytes { s with fresh := s.fresh + 1 } n
    (Config.randomByte s.fresh :: r.1, r.2)

/-- A new first-boot root (R420). -/
def newFirstBoot (s : State) : State :=
  let r := randomBytes s 16
  ({ r.2 with keys := { r.2.keys with fb := some r.1 } }.satAdd Reg.KEYS.STATUS.FBGEN 0 1).setBit Reg.KEYS.STATUS.FB_OK 0 true

/-! ### Slot records -/

/-- A stored slot becomes EMPTY and keeps its GEN (R424). -/
def eraseSlot (s : State) (k : Nat) : State :=
  let g := s.fld Reg.KEYS.SLOT.GEN k
  setKeyMat ((s.setFld Reg.KEYS.SLOT.REG k 0).setFld Reg.KEYS.SLOT.GEN k g) k []

/-- Every ACCESS and IMMO slot is erased (R420). -/
def eraseFirstBootSlots (s : State) : State :=
  s.each (fun s k => if keyClass s k = keyAccess ∨ keyClass s k = keyImmo then eraseSlot s k else s) (upTo 64)

/-- Write a slot's record anew. -/
def writeSlot (s : State) (k cls type attr gen origin : Nat) (m : List Byte) : State :=
  (setKeyMat s k m).setFlds [(Reg.KEYS.SLOT.REG, k, 0), (Reg.KEYS.SLOT.CLASS, k, cls), (Reg.KEYS.SLOT.TYPE, k, type),
    (Reg.KEYS.SLOT.ATTR, k, attr), (Reg.KEYS.SLOT.GEN, k, gen), (Reg.KEYS.SLOT.ORIGIN, k, origin)]

/-- EXPORTABLE is allowed only in classes CLIENT and GENERAL (R423). -/
def attrAllowed (cls attr : Nat) : Bool := attr % 2 == 0 || cls == keyClient || cls == keyGeneral

/-! ### XFER (R423, R430) -/

/-- The first `n` words of XFER as bytes. -/
def xferBytes (s : State) (n : Nat) : List Byte :=
  (upTo n).flatMap fun w => beBytes (s.fld Reg.KEYS.XFER.DATA w) 4

/-- Bytes into XFER from its first word. -/
def setXfer (s : State) (l : List Byte) : State :=
  s.each (fun s w => s.setFld Reg.KEYS.XFER.DATA w (beAt l (4 * w) 4)) (upTo (l.length / 4))

/-- XFER is cleared after each IMPORT. -/
def clearXfer (s : State) : State := s.each (fun s w => s.setFld Reg.KEYS.XFER.DATA w 0) (upTo 20)

/-- The plaintext of a slot (R423). -/
def slotPlain (s : State) (k : Nat) : List Byte :=
  beBytes k 1 ++ beBytes (keyClass s k) 1 ++ beBytes (s.fld Reg.KEYS.SLOT.TYPE k) 1 ++ beBytes (s.fld Reg.KEYS.SLOT.ATTR k) 1 ++
    beBytes (s.fld Reg.KEYS.SLOT.GEN k) 2 ++ [0, 0] ++ keyMat s k

/-! ### Key operations (R424). Each answers an error code and the state. -/

/-- The key that wraps: slot `k` must be of class TRANSPORT. -/
def wrapKey (s : State) (k : Nat) : Nat × List Byte :=
  if keyClass s k ≠ keyTransport then (9, [])
  else if !keyUsable s k then (8, []) else (0, keyMat s k)

/-- What is wrapped in XFER under a key: 32 bytes for AES-128, else 80 bytes for a public key. -/
def unwrapXfer (s : State) (key : List Byte) : Option (List Byte) :=
  match kwUnwrap key (xferBytes s 8) with
  | some p => some p
  | none => kwUnwrap key (xferBytes s 20)

/-- Do the class, type, attributes and length of an imported plaintext agree (R418, R423)? -/
def plainAgrees (p : List Byte) : Bool :=
  let cls := beAt p 1 1
  let type := beAt p 2 1
  let attr := beAt p 3 1
  1 ≤ cls && cls ≤ 7 && (type == if cls = keyUpdate then 1 else 0) && p.length == (if type = 1 then 72 else 24) &&
    attr < 4 && attrAllowed cls attr

/-- IMPORT (R423). -/
def keyImport (s : State) (o : KeyOp) : Nat × State :=
  let w := wrapKey s o.src
  if w.1 ≠ 0 then (w.1, clearXfer s)
  else
    match unwrapXfer s w.2 with
    | none => (5, clearXfer s)
    | some p =>
      if beAt p 0 1 ≠ o.slot ∨ beAt p 6 2 ≠ 0 then (5, clearXfer s)
      else if !plainAgrees p then (4, clearXfer s)
      else if beAt p 4 2 ≤ s.fld Reg.KEYS.SLOT.GEN o.slot then (6, clearXfer s)
      else (0, clearXfer (writeSlot s o.slot (beAt p 1 1) (beAt p 2 1) (beAt p 3 1) (beAt p 4 2) 2 (p.drop 8)))

/-- The root that seals records of a class is there. -/
def rootFor (s : State) (cls : Nat) : Bool :=
  s.bit Reg.KEYS.STATUS.PUF_OK 0 && ((cls != keyAccess && cls != keyImmo) || s.bit Reg.KEYS.STATUS.FB_OK 0)

/-- GENERATE (R424). -/
def keyGenerate (s : State) (o : KeyOp) : Nat × State :=
  if o.cls = keyEmpty ∨ o.cls = keyUpdate ∨ !attrAllowed o.cls o.attr then (4, s)
  else if !rootFor s o.cls then (8, s)
  else
    let r := randomBytes s 16
    (0, writeSlot r.2 o.slot o.cls 0 o.attr (s.fld Reg.KEYS.SLOT.GEN o.slot) 3 r.1)

/-- DERIVE (R422, R424). -/
def keyDerive (s : State) (o : KeyOp) : Nat × State :=
  let c := keyClass s o.src
  if !(c == keyClient || c == keyAccess || c == keyImmo || c == keyGeneral) || !attrAllowed c o.attr then (4, s)
  else if !keyUsable s o.src then (8, s)
  else
    let ctx := beBytes (s.pair Reg.KEYS.CTX_LO.VALUE Reg.KEYS.CTX_HI.VALUE 0) 8
    let m := kdf (keyMat s o.src) (s.fld Reg.KEYS.LABEL.VALUE 0) ctx
    (0, writeSlot s o.slot c 0 o.attr (s.fld Reg.KEYS.SLOT.GEN o.slot) 4 m)

/-- EXPORT (R423). -/
def keyExport (s : State) (o : KeyOp) : Nat × State :=
  let c := keyClass s o.slot
  if c = keyUpdate then (if keyUsable s o.slot then (0, setXfer s (keyMat s o.slot)) else (8, s))
  else if !((c == keyClient || c == keyGeneral) && s.fld Reg.KEYS.SLOT.ATTR o.slot % 2 == 1) then (7, s)
  else if !keyUsable s o.slot then (8, s)
  else
    let w := wrapKey s o.src
    if w.1 ≠ 0 then (w.1, s) else (0, setXfer s (kwWrap w.2 (slotPlain s o.slot)))

/-- Zeroise (R426): stored records, the first-boot record and the directories become zero. [log entry 139 DEDUCED] -/
def zeroise (s : State) (forced : Bool) : State :=
  let s := s.each (fun s k => setKeyMat (s.setFld Reg.KEYS.SLOT.REG k 0) k []) ((upTo 64).drop 4)
  let s := { s with keys := { s.keys with fb := none, failNext := [] } }
  let s := ((s.setBit Reg.KEYS.STATUS.FB_OK 0 false).satAdd Reg.KEYS.STATUS.ZCOUNT 0 1).setBit Reg.KEYS.STATUS.ZEROISED 0 true
  raiseWith s Flt.KEYS.ZEROISE noUnit 1 0 forced

/-- RENEW_FB (R420, R424). -/
def keyRenew (s : State) : Nat × State :=
  if !s.bit Reg.KEYS.STATUS.PUF_OK 0 then (8, s) else (0, newFirstBoot (eraseFirstBootSlots s))

/-- The operation's effect once it completes; operations on a slot refuse slots 0 to 3, and a LOCKED slot but for EXPORT. -/
def keyApply (s : State) (o : KeyOp) : Nat × State :=
  if o.op = 7 then keyRenew s
  else if o.op = 8 then (0, zeroise s false)
  else if o.slot < 4 then (2, if o.op = 1 then clearXfer s else s)
  else if o.op ≠ 4 ∧ 2 ≤ s.fld Reg.KEYS.SLOT.ATTR o.slot then (3, if o.op = 1 then clearXfer s else s)
  else
    match o.op with
    | 1 => keyImport s o
    | 2 => keyGenerate s o
    | 3 => keyDerive s o
    | 4 => keyExport s o
    | 5 => (0, eraseSlot s o.slot)
    | _ => (0, s.setFld Reg.KEYS.SLOT.ATTR o.slot (s.fld Reg.KEYS.SLOT.ATTR o.slot ||| 2))

/-- A write of KEYS.CMD (R424): it starts the operation, or is ignored with ERR 1 while one runs. [log entry 137 DEDUCED] -/
def keyStart (s : State) (op slot src cls attr : Nat) : State :=
  let s := { s with keys := { s.keys with lastSlot := slot } }
  if s.bit Reg.KEYS.STATUS.BUSY 0 then s.setFld Reg.KEYS.STATUS.ERR 0 1
  else if op = 0 ∨ 8 < op then s
  else
    { s with keys := { s.keys with op := some { op := op, slot := slot, src := src, cls := cls, attr := attr } } }.setBit
      Reg.KEYS.STATUS.BUSY 0 true

/-- IMPORT (R423). -/
def execKeyImport (by_ : By) (slot src : BitVec 6) (s : State) : Result :=
  .next (privOnly s by_ fun s => keyStart s 1 slot.toNat src.toNat 0 0)

/-- GENERATE (R424). -/
def execKeyGenerate (by_ : By) (slot : BitVec 6) (cls : BitVec 3) (attr : BitVec 2) (s : State) : Result :=
  .next (privOnly s by_ fun s => keyStart s 2 slot.toNat 0 cls.toNat attr.toNat)

/-- DERIVE (R424). -/
def execKeyDerive (by_ : By) (slot src : BitVec 6) (attr : BitVec 2) (s : State) : Result :=
  .next (privOnly s by_ fun s => keyStart s 3 slot.toNat src.toNat 0 attr.toNat)

/-- EXPORT (R423). -/
def execKeyExport (by_ : By) (slot src : BitVec 6) (s : State) : Result :=
  .next (privOnly s by_ fun s => keyStart s 4 slot.toNat src.toNat 0 0)

/-- ERASE (R424). -/
def execKeyErase (by_ : By) (slot : BitVec 6) (s : State) : Result :=
  .next (privOnly s by_ fun s => keyStart s 5 slot.toNat 0 0 0)

/-- LOCK (R424). -/
def execKeyLock (by_ : By) (slot : BitVec 6) (s : State) : Result :=
  .next (privOnly s by_ fun s => keyStart s 6 slot.toNat 0 0 0)

/-- RENEW_FB (R420). -/
def execKeyRenewFb (by_ : By) (s : State) : Result := .next (privOnly s by_ fun s => keyStart s 7 0 0 0 0)

/-- ZEROISE (R426) as a key operation. -/
def execKeyZeroise (by_ : By) (s : State) : Result := .next (privOnly s by_ fun s => keyStart s 8 0 0 0 0)

/-- KEY_OPERATION_DONE (R424): the change takes effect at once, with DONE or ERR. -/
def execKeyOperationDone (s : State) : Result :=
  match s.keys.op with
  | none => .next s
  | some o =>
    let r := keyApply { s with keys := { s.keys with op := none } } o
    .next (r.2.setFlds [(Reg.KEYS.STATUS.BUSY, 0, 0), (Reg.KEYS.STATUS.ERR, 0, r.1),
      (Reg.KEYS.STATUS.DONE, 0, if r.1 = 0 then 1 else s.fld Reg.KEYS.STATUS.DONE 0)])

/-- Mark the failing records of stored slots FAILED, and raise FLT_KEYS_SLOT for each (R425). -/
def checkRecords (s : State) (bad : List Nat) : State :=
  let hit := ((upTo 64).drop 4).filter fun k =>
    keyClass s k != 0 && !s.bit Reg.KEYS.SLOT.FAILED k && (bad.contains k || s.keys.failNext.contains k)
  hit.foldl (fun s k => raiseWith (s.setBit Reg.KEYS.SLOT.FAILED k true) Flt.KEYS.SLOT k 1 (detail8 k) (s.keys.failNext.contains k)) s
    |> fun s => { s with keys := { s.keys with failNext := [] } }

/-- KEY_RECORD_CHECK (R425): the check every 10 s finds these records failing. -/
def execKeyRecordCheck (bad : List Nat) (s : State) : Result := .next (checkRecords s bad)

/-! ### Tamper (R426) -/

/-- A tamper source takes its action: log; log and wake; zeroise, log and wake. -/
def tamperEvent (s : State) (src : Nat) (forced : Bool) : State :=
  let act := s.fld Reg.KEYS.TAMPCFG.ACTION 0 / 4 ^ src % 4
  let s := s.setFld Reg.KEYS.TAMPSTAT.SEEN 0 (s.fld Reg.KEYS.TAMPSTAT.SEEN 0 ||| 2 ^ src)
  let s := raiseWith s Flt.KEYS.TAMPER src 0 (detail8 src) forced
  let s := if 2 ≤ act then zeroise s forced else s
  if 1 ≤ act then wakeEvent s 9 0xFF else s

/-- TAMPER (R426): detected while D-ALW is powered. -/
def execTamper (src : Fin 5) (s : State) : Result :=
  .next (if s.supA < 4500 ∧ s.supB < 4500 then s else tamperEvent s src.val false)

/-- The generator fails its health test (R428); before the telegram of a running round that aborts the round (R400). -/
def trngFails (s : State) (forced : Bool) : State :=
  let s := raiseWith (s.setBit Reg.KEYS.STATUS.TRNG_OK 0 false) Flt.KEYS.TRNG noUnit 1 0 forced
  match s.access.round with
  | some r => if s.now < r.start + 100 * r.wakeUs then settleRaises (roundStop s) else s
  | none => s

/-- TRNG_FAIL (R428). -/
def execTrngFail (s : State) : Result := .next (trngFails s false)

/-! ### Crypto requests (R427) -/

/-- A write of KEYS.CRQ_CTRL: ignored with FLT_KEYS_CRQ from a scheduled block, ERR 1 while a request runs. -/
def crqStart (s : State) (b : By) (op slot : Nat) : State :=
  privOnly s b fun s =>
    if !b.plain then raiseFault s Flt.KEYS.CRQ b.lane.val 0
    else if s.fld Reg.KEYS.CRQ_STAT.STATE 0 = 1 then s.setFld Reg.KEYS.CRQ_STAT.ERR 0 1
    else if op = 0 ∨ 4 < op then s
    else
      { s with keys := { s.keys with crq := some (op, slot) } }.setFlds
        [(Reg.KEYS.CRQ_STAT.STATE, 0, 1), (Reg.KEYS.CRQ_STAT.ERR, 0, 0)]

/-- CMAC (R427). -/
def execCrqCmac (by_ : By) (slot : BitVec 6) (s : State) : Result := .next (crqStart s by_ 1 slot.toNat)

/-- ENCRYPT (R427). -/
def execCrqEncrypt (by_ : By) (slot : BitVec 6) (s : State) : Result := .next (crqStart s by_ 2 slot.toNat)

/-- SHA256 (R427). -/
def execCrqSha256 (by_ : By) (s : State) : Result := .next (crqStart s by_ 3 0)

/-- ATTEST (R427). -/
def execCrqAttest (by_ : By) (s : State) : Result := .next (crqStart s by_ 4 2)

/-- The attestation message (R427). -/
def attestMessage (s : State) (chal : List Byte) : List Byte :=
  chal ++ unitIdBytes ++ beBytes (s.fld Reg.SYS.IDENT.REG 0) 4 ++
    beBytes (s.fld Reg.TICK.PLAN_ID_LO.VALUE 0 + 2 ^ 32 * s.fld Reg.TICK.PLAN_ID_HI.VALUE 0) 8 ++
    beBytes (s.fld Reg.TICK.PLAN_VER.VALUE 0) 4 ++ ((upTo 8).flatMap fun w => beBytes (s.fld Reg.UPDATE.DIGEST.VALUE w) 4) ++
    beBytes (s.fld Reg.KEYS.STATUS.FBGEN 0) 2 ++ beBytes (s.fld Reg.KEYS.STATUS.ZCOUNT 0) 2

/-- Do the request's address and length lie in shared memory as R430 says? [log entry 138 DESIGN CHOICE] -/
def crqInRange (addr n : Nat) : Bool := addr % 8 == 0 && addr + n ≤ 0x200000 && n ≤ 65536

/-- The bytes of shared memory a request covers; a request outside R430's range finds free bytes. -/
def crqBytes (s : State) (n : Nat) : List Byte × State :=
  let addr := s.fld Reg.KEYS.CRQ_ADDR.VALUE 0
  if crqInRange addr n then (rdBytes s.shared addr n, s)
  else (beBytes s.free.1 16, s.free.2)

/-- The slot a request names gives error 4 for a wrong class, 8 for a key that cannot be used. -/
def crqKey (s : State) (slot cls : Nat) : Nat × List Byte :=
  if keyClass s slot ≠ cls then (4, []) else if !keyUsable s slot then (8, []) else (0, keyMat s slot)

/-- The result of a request: error, bytes, state. -/
def crqResult (s : State) (op slot : Nat) : Nat × List Byte × State :=
  let n := s.fld Reg.KEYS.CRQ_LEN.VALUE 0
  match op with
  | 1 =>
    let k := crqKey s slot keyGeneral
    let m := crqBytes s n
    if k.1 ≠ 0 then (k.1, [], s) else (0, aesCmac k.2 m.1, m.2)
  | 2 =>
    let k := crqKey s slot keyGeneral
    let m := crqBytes s 16
    if k.1 ≠ 0 then (k.1, [], s) else (0, aesEncrypt k.2 m.1, m.2)
  | 3 =>
    let m := crqBytes s n
    (0, sha256 m.1, m.2)
  | _ =>
    let k := crqKey s 2 keyUnit
    let m := crqBytes s 16
    if k.1 ≠ 0 then (k.1, [], s) else (0, aesCmac k.2 (attestMessage s m.1), m.2)

/-- CRQ_DONE (R427): the result stands in CRQ_RES, or the request is refused. -/
def execCrqDone (s : State) : Result :=
  match s.keys.crq with
  | none => .next s
  | some (op, slot) =>
    let s := { s with keys := { s.keys with crq := none } }
    let r := crqResult s op slot
    if r.1 ≠ 0 then .next (s.setFlds [(Reg.KEYS.CRQ_STAT.ERR, 0, r.1), (Reg.KEYS.CRQ_STAT.STATE, 0, 3)])
    else
      let s := r.2.2.each (fun s w => s.setFld Reg.KEYS.CRQ_RES.RES w (beAt r.2.1 (4 * w) 4)) (upTo (r.2.1.length / 4))
      .next (s.setFlds [(Reg.KEYS.CRQ_STAT.ERR, 0, 0), (Reg.KEYS.CRQ_STAT.STATE, 0, 2)])

/-! ### Forces (R430, R470) -/

/-- KEYS_FORCE_TAMPER: one TAMP0 event with its configured action. -/
def execKeysForceTamper (by_ : By) (s : State) : Result := .next (gated s by_ fun s => tamperEvent s 0 true)

/-- KEYS_FORCE_SLOTFAIL: the record of the slot last written to KEYS.CMD fails its next check. -/
def execKeysForceSlotfail (by_ : By) (s : State) : Result :=
  .next (gated s by_ fun s => { s with keys := { s.keys with failNext := s.keys.lastSlot :: s.keys.failNext.filter (· != s.keys.lastSlot) } })

/-- KEYS_FORCE_TRNG: one health test failure. -/
def execKeysForceTrng (by_ : By) (s : State) : Result := .next (gated s by_ fun s => trngFails s true)

/-! ### The key store at a start (R419, R420, R425) -/

/-- The roots and slots 0 to 3 come up, stored records are checked, and a first-boot root is created where none is held. -/
def keysStart (s : State) (k : KeysIn) : State :=
  let s := { s with keys := { s.keys with op := none, crq := none } }
  let s := s.setFlds [(Reg.KEYS.STATUS.PUF_OK, 0, if k.puf then 1 else 0), (Reg.KEYS.STATUS.TRNG_OK, 0, if k.trng then 1 else 0),
    (Reg.KEYS.STATUS.BUSY, 0, 0), (Reg.KEYS.STATUS.FB_OK, 0, 0)]
  let s := deriveSlots s k.puf
  let s := if k.puf then s else raiseFault s Flt.KEYS.PUF noUnit 1
  let s := if k.trng then s else raiseFault s Flt.KEYS.TRNG noUnit 1
  let s :=
    match s.keys.fb with
    | none => if k.puf then newFirstBoot s else s
    | some _ =>
      if k.first then s.setBit Reg.KEYS.STATUS.FB_OK 0 k.puf else raiseFault s Flt.KEYS.ROOT noUnit 1
  checkRecords s k.bad

end Sys2Proof.Machine
end

