-- ==== Sys2Proof/Machine/TimeInput.lean ====
section
/-!
DEFINITION. The time base, its wide reads and writes, compare channels, counters, capture units, switch and analog inputs
(R288 to R309).
-/
namespace Sys2Proof.Machine

/-- Change the timers. -/
def State.tm (s : State) (f : Timers → Timers) : State := { s with timers := f s.timers }

/-- The 100 MHz time base runs: everywhere but in valley V3 (R288). -/
def timeRuns (s : State) : Bool := s.dom.logic || !(inValley s && s.power.target == 3)

/-! ### The time base (R289 to R291) -/

/-- TIME_BASE_CARRY (R289): bits [63:32] change, and the time-base word is written to both side areas. [log entry 1 DEDUCED] -/
def execTimeBaseCarry (s : State) : Result :=
  if !timeRuns s then .next s
  else
    let hi := s.now / 2 ^ 32
    let s := if s.timers.timeWord = some hi then s.reach ((hi + 1) * 2 ^ 32) else s
    .next (s.tm fun t => { t with timeWord := some (s.now / 2 ^ 32) })

/-- The nominal SLOWRATIO (R291). -/
def slowNominal : Nat := 200000000

/-- SLOWRATIO_MEASURE (R291): a ratio in 2^−16 counts per slow tick; more than 2 % from nominal it is not used.
[log entry 96 DEDUCED] -/
def execSlowratioMeasure (ratio : Nat) (s : State) : Result :=
  if !timeRuns s then .next s
  else if ratio * 100 < slowNominal * 98 ∨ slowNominal * 102 < ratio * 100 then
    .next (raiseFault (s.setFld Reg.TIME.SLOWRATIO.VALUE 0 slowNominal) Flt.TIME.SLOWBASE noUnit 0)
  else .next (s.setFld Reg.TIME.SLOWRATIO.VALUE 0 ratio)

/-- Step the time base forward to a count; the slow base goes on where it is (R290, R291). [log entry 93 DEDUCED] -/
def timeStep (s : State) (c : Nat) : State :=
  let d := c - s.now
  ({ s with now := c, slowRef := s.slowRef + d }).setBit Reg.TIME.SYNC.STEPPED 0 true

/-- SYNC_MESSAGE (R73, R290, R335): grandmaster time in ns on a port, with the peer delay in ns.
[log entry 92 DESIGN CHOICE] -/
def execSyncMessage (port : Fin 3) (pdelay ns : Nat) (s : State) : Result :=
  if !s.effBit Reg.NET.GPTP.EN 0 || s.effFld Reg.NET.GPTP.PORT 0 != port.val || s.effFld Reg.NET.GPTP.PDMAX 0 < pdelay ||
      !s.dom.net || !s.dom.logic then .next s
  else
    let c := ns / 10
    let ofs : Int := (c : Int) - s.now
    let s := s.setFld Reg.TIME.SYNCOFS.OFS 0 (unsigned 32 (min (max ofs (-(2 ^ 31))) (2 ^ 31 - 1)))
    if s.planRuns then
      if ofs.natAbs ≤ 1000 then
        let (v, s) := s.free
        .next (s.setFlds [(Reg.TIME.SYNC.RATE, 0, unsigned 16 ((v % 20001 : Nat) - 10000 : Int)), (Reg.TIME.SYNC.LOCK, 0, 1)])
      else .next (raiseFault (s.setBit Reg.TIME.SYNC.LOCK 0 false) Flt.TIME.SYNCLOST noUnit 0)
    else if s.seqState = seqNoPlan ∨ s.seqState = seqArmed then
      if ofs = 0 then .next s
      else if 0 < ofs then .next (timeStep s c)
      else .next (raiseFault (s.setBit Reg.TIME.SYNC.BEHIND 0 true) Flt.TIME.STEPBACK noUnit 0)
    else .next s

/-- Cross-zone alignment is in force (R73, R76, R290). -/
def alignedNow (s : State) : Bool :=
  s.bit Reg.TICK.CTRL.ALIGN 0 && s.bit Reg.TICK.STATUS.BASE_AL 0 && !s.bit Reg.TIME.SYNC.BEHIND 0 &&
    !s.flags.any fun f => f.src == Flt.TIME.SYNCLOST

/-! ### Compare channels (R295 to R297) -/

def State.cmp (s : State) (n : Nat) : CmpCh := smapGet (fun _ => CmpCh.init) s.timers.cmp n
def State.setCmp (s : State) (n : Nat) (c : CmpCh) : State :=
  s.tm fun t => { t with cmp := smapSet (fun _ => CmpCh.init) t.cmp n c }

/-- V of a compare channel. -/
def cmpV (s : State) (n : Nat) : Nat := s.pair Reg.TIME.CMP_LO.V Reg.TIME.CMP_HI.V n

/-- V lies ahead of a count: V − n is positive as a signed 64-bit value (R295). -/
def cmpAhead (v c : Nat) : Bool := decide (0 < signed 64 (unsigned 64 ((v : Int) - c)))

/-- COMPARE_FIRE (R295 to R297): an armed channel fires when its value is reached, at most once per count; in a valley the
wake alarm fires. -/
def execCompareFire (n : Fin 48) (s : State) : Result :=
  let n := n.val
  if inValley s then
    match s.timers.alarm with
    | some (k, v) => .next (if k = n then wakeEvent (if s.power.target = 3 then s else s.reach v) 7 n else s)
    | none => .next s
  else if !s.dom.logic || !s.bit Reg.TIME.CMP_CTRL.ARM n then .next s
  else
    let c := s.cmp n
    let v := cmpV s n
    let at' := if cmpAhead v s.now then v else s.now
    let at' := match c.last with | some l => if at' ≤ l then l + 1 else at' | none => at'
    let s := s.reach at'
    let s := if n < 32 then s.setFld Reg.TIME.CMPEV0.EV 0 (s.fld Reg.TIME.CMPEV0.EV 0 ||| 2 ^ n)
      else s.setFld Reg.TIME.CMPEV1.EV 0 (s.fld Reg.TIME.CMPEV1.EV 0 ||| 2 ^ (n - 32))
    let s := if c.behind then s.setBit Reg.TIME.CMP_CTRL.MISS n true else s
    let per := s.fld Reg.TIME.CMP_PER.PERIOD n
    let s :=
      if per = 0 then (s.setBit Reg.TIME.CMP_CTRL.ARM n false).setCmp n { last := some at', behind := false }
      else
        let v' := (v + per) % 2 ^ 64
        (s.setPair Reg.TIME.CMP_LO.V Reg.TIME.CMP_HI.V n v').setCmp n { last := some at', behind := !cmpAhead v' at' }
    .next (if s.bit Reg.TIME.CMP_CTRL.WAKE n then wakeEvent s 7 n else s)

/-! ### Up/down counters (R298, R299) -/

/-- The counter's mode, values not listed taken as 0 (R298). -/
def udcMode (s : State) (n : Nat) : Nat := let m := s.fld Reg.TIME.UDC_CTRL.MODE n; if m ≤ 4 then m else 0

/-- A step: the new count, whether it wraps, whether it turns, and the direction after it.
[log entries 94 DEDUCED, 95 DEDUCED] -/
def udcStep (mode count top : Nat) (down dirHigh : Bool) : Nat × Bool × Bool × Bool :=
  let up : Nat × Bool := if count = top ∨ count = 2 ^ 32 - 1 then (0, true) else (count + 1, false)
  let dn : Nat × Bool := if count = 0 then (top, true) else (count - 1, false)
  match mode with
  | 1 => (up.1, up.2, false, false)
  | 2 => (dn.1, dn.2, false, true)
  | 3 =>
    if down then (if count = 0 then (min 1 top, false, true, false) else (count - 1, false, false, true))
    else if top ≤ count then (count - 1, false, true, true) else (count + 1, false, false, false)
  | 4 => if dirHigh then (up.1, up.2, false, false) else (dn.1, dn.2, false, true)
  | _ => (count, false, false, down)

/-- COUNTER_STEP (R298, R299): on its prescaler, or in EXT mode on an accepted edge with the DIR input at a level. -/
def execCounterStep (n : Fin 16) (dirHigh : Bool) (s : State) : Result :=
  let n := n.val
  let mode := udcMode s n
  if !s.dom.logic || !s.bit Reg.TIME.UDC_CTRL.RUN n || mode == 0 then .next s
  else
    let last := smapGet (fun _ => 0) s.timers.udc n
    let s := if mode = 4 then s else s.reach (last + s.fld Reg.TIME.UDC_PRESC.PRESC n + 1)
    let (v, wrap, turn, down) :=
      udcStep mode (s.fld Reg.TIME.UDC_COUNT.VALUE n) (s.fld Reg.TIME.UDC_TOP.VALUE n) (s.bit Reg.TIME.UDC_CTRL.DIR n) dirHigh
    let s := s.tm fun t => { t with udc := smapSet (fun _ => 0) t.udc n s.now }
    let s := (s.setFld Reg.TIME.UDC_COUNT.VALUE n v).setBit Reg.TIME.UDC_CTRL.DIR n down
    let s := if turn then s.setBit Reg.TIME.UDC_CTRL.TURN n true else s
    let s := if v = s.fld Reg.TIME.UDC_MATCH.VALUE n then s.setBit Reg.TIME.UDC_CTRL.MATCH_EV n true else s
    .next (if wrap then
      let s := s.setBit Reg.TIME.UDC_CTRL.OVF n true
      if s.bit Reg.TIME.UDC_CTRL.EV n then s.setFld Reg.TIME.UDCEV.EV 0 (s.fld Reg.TIME.UDCEV.EV 0 ||| 2 ^ n) else s
    else s)

/-- RUN of the named counters is set in one count (R298). -/
def udcStart (s : State) (mask : Nat) : State :=
  s.each (fun s n =>
    if mask.testBit n && !s.bit Reg.TIME.UDC_CTRL.RUN n then
      (s.tm fun t => { t with udc := smapSet (fun _ => 0) t.udc n s.now }).setBit Reg.TIME.UDC_CTRL.RUN n true
    else s) (upTo 16)

/-- UDCSTART (R298); the register is in the unprivileged alias. -/
def execUdcstart (_by : By) (mask : BitVec 16) (s : State) : Result := .next (udcStart s mask.toNat)

/-! ### Capture units (R300, R301) -/

/-- CAPTURE_EDGE (R300, R301): an accepted edge whose first sample at the new level fell at a count. -/
def execCaptureEdge (n : Fin 32) (count : Nat) (level : Bool) (s : State) : Result :=
  let n := n.val
  if !s.dom.logic || !s.bit Reg.TIME.CAP_CFG.EN n || 112 ≤ s.fld Reg.TIME.CAP_CFG.SRC n then .next s
  else
    let c := smapGet (fun _ => CapCh.init) s.timers.cap n
    let s := s.reach (count + s.fld Reg.TIME.CAP_CFG.FILT n)
    let s : State :=
      if level then
        let s := s.setFld Reg.TIME.CAP_RISE.VALUE n count
        let s := match c.rise with
          | some r =>
            let s := s.setFlds [(Reg.TIME.CAP_PERIOD.VALUE, n, count - r), (Reg.TIME.CAP_STAT.PVALID, n, 1)]
            if 2 ^ 32 ≤ count - r then s.setBit Reg.TIME.CAP_STAT.P_OVF n true else s
          | none => s
        s.tm fun t => { t with cap := smapSet (fun _ => CapCh.init) t.cap n { rise := some count } }
      else
        let s := s.setFld Reg.TIME.CAP_FALL.VALUE n count
        match c.rise with
        | some r =>
          let s := s.setFlds [(Reg.TIME.CAP_HIGH.VALUE, n, count - r), (Reg.TIME.CAP_STAT.HVALID, n, 1)]
          if 2 ^ 32 ≤ count - r then s.setBit Reg.TIME.CAP_STAT.H_OVF n true else s
        | none => s
    let s : State := if s.fld Reg.TIME.CAP_EDGES.VALUE n = 0xFFFFFFFF then s.setBit Reg.TIME.CAP_STAT.E_OVF n true else s
    let s := (s.incFld Reg.TIME.CAP_EDGES.VALUE n).setBit Reg.TIME.CAP_STAT.LEVEL n level
    .next (if s.bit Reg.TIME.CAP_CFG.EV n then s.setFld Reg.TIME.CAPEV.EV 0 (s.fld Reg.TIME.CAPEV.EV 0 ||| 2 ^ n) else s)

/-- A change of a unit's CFG empties it (R301). -/
def capEmpty (s : State) (n : Nat) : State :=
  let s := s.tm fun t => { t with cap := smapSet (fun _ => CapCh.init) t.cap n CapCh.init }
  s.setFlds [(Reg.TIME.CAP_RISE.VALUE, n, 0), (Reg.TIME.CAP_FALL.VALUE, n, 0), (Reg.TIME.CAP_PERIOD.VALUE, n, 0),
    (Reg.TIME.CAP_HIGH.VALUE, n, 0), (Reg.TIME.CAP_EDGES.VALUE, n, 0), (Reg.TIME.CAP_STAT.REG, n, 0)]

/-! ### Switch inputs (R302 to R304) -/

/-- Debounced level of a switch input. -/
def siLevel (s : State) (n : Nat) : Bool := (s.fld Reg.INPUT.SILVL.LEVEL (n / 32)).testBit (n % 32)

/-- SI_LEVEL_CHANGE (R302, R303): the debounced level changes; outside a valley an input with VWAKE = 1 is a wake event.
[log entry 98 DEDUCED] -/
def execSiLevelChange (n : Fin 64) (level : Bool) (s : State) : Result :=
  let n := n.val
  if inValley s || siLevel s n == level then .next s
  else
    let w := n / 32
    let s := s.setFlds [(Reg.INPUT.SILVL.LEVEL, w, s.fld Reg.INPUT.SILVL.LEVEL w ^^^ 2 ^ (n % 32)),
      (Reg.INPUT.SICHG.CHG, w, s.fld Reg.INPUT.SICHG.CHG w ||| 2 ^ (n % 32))]
    let closed := level == s.bit Reg.INPUT.SICFG.DIR n
    let s := if s.bit Reg.INPUT.SICFG.CLEAN n && closed then
      s.tm fun t => { t with clean := smapSet (fun _ => 0) t.clean n (s.now + 1) } else s
    .next (if s.bit Reg.INPUT.SICFG.VWAKE n then wakeEvent s 6 n else s)

/-- CLEANING_PULSE_END (R302): 5 ms after the closure the wetting returns to WET. -/
def execCleaningPulseEnd (n : Fin 64) (s : State) : Result :=
  let c := smapGet (fun _ => 0) s.timers.clean n.val
  if c = 0 then .next s
  else .next ((s.reach (c - 1 + 500000)).tm fun t => { t with clean := smapSet (fun _ => 0) t.clean n.val 0 })

/-- The wetting current of a switch input in mA (R302): 20 mA in a cleaning pulse, none in a valley between polls. -/
def siWetting (s : State) (n : Nat) : Nat :=
  if inValley s then 0
  else if smapGet (fun _ => 0) s.timers.clean n ≠ 0 then 20
  else [0, 1, 2, 5, 10, 15, 20, 20].getD (s.fld Reg.INPUT.SICFG.WET n) 0

/-- SI_VALLEY_POLL (R304): two consecutive polls that differ from the level at entry are a wake. -/
def execSiValleyPoll (n : Fin 64) (level : Bool) (s : State) : Result :=
  let n := n.val
  if !inValley s || !s.bit Reg.INPUT.SICFG.VWAKE n then .next s
  else if siLevel s n == level then .next (s.tm fun t => { t with polled := t.polled.filter (· != n) })
  else if n ∈ s.timers.polled then .next (wakeEvent (s.tm fun t => { t with polled := t.polled.filter (· != n) }) 6 n)
  else .next (s.tm fun t => { t with polled := t.polled ++ [n] })

/-! ### Analog inputs (R305, R306) -/

/-- The die of an analog input. -/
def aiDie (n : Nat) : Nat := n / 6

/-- Settling and conversion time of one input in counts (R305). -/
def aiTime (s : State) : Nat := s.fld Reg.INPUT.PULSECFG.AISETTLE 0 * 10 + 200

/-- The converter, or the pulsed group, of a die is busy. -/
def aiBusy (s : State) (d : Nat) : Bool := decide (s.now < smapGet (fun _ => 0) s.timers.aiUntil d)
def siBusy (s : State) (d : Nat) : Bool := decide (s.now < smapGet (fun _ => 0) s.timers.siUntil d)

/-- A SAMPLE pass at count `p` starts conversions of a list of inputs of one die, or is ignored with OVERLAP (R305). -/
def aiStart (s : State) (p d : Nat) (ins : List Nat) : State :=
  if p < smapGet (fun _ => 0) s.timers.aiUntil d then s.setBit Reg.INPUT.INSTAT.OVERLAP 0 true
  else if ins.isEmpty then s
  else
    let dues := ins.zipIdx.map fun q => (q.1, p + 2 + (q.2 + 1) * aiTime s)
    s.tm fun t => { t with
      conv := (t.conv.filter fun q => aiDie q.1 != d) ++ dues,
      aiUntil := smapSet (fun _ => 0) t.aiUntil d (p + 2 + ins.length * aiTime s) }

/-- A SAMPLE pass of a group at count `p` (R154, R305). [log entry 7 DESIGN CHOICE] -/
def sampleStart (s : State) (p group : Nat) : State :=
  if group < 4 then aiStart s p group ((upTo 24).filter fun i => aiDie i == group && s.bit Reg.INPUT.AICFG.EN i)
  else if 8 ≤ group ∧ group < 12 then
    let d := group - 8
    if p < smapGet (fun _ => 0) s.timers.siUntil d then s.setBit Reg.INPUT.INSTAT.OVERLAP 0 true
    else s.tm fun t => { t with
      siUntil := smapSet (fun _ => 0) t.siUntil d (p + 22 + 100 * max (s.fld Reg.INPUT.PULSECFG.WPULSE 0) 5) }
  else if 0x20 ≤ group ∧ group < 0x38 then aiStart s p (aiDie (group - 0x20)) [group - 0x20]
  else if group = 0x40 then scanStart s p
  else s

/-- ln 2 in units of 2^−96. -/
def ln2 : Nat := (upTo 100).foldl (fun acc k => acc + 2 ^ 96 / ((k + 1) * 2 ^ (k + 1))) 0

/-- ln(x ÷ y) in units of 2^−96 for positive x, y: powers of two first, then 2 artanh((m − 1) ÷ (m + 1)) on [1, 2). -/
def lnRatio (x y : Nat) : Int :=
  let e : Int := (Nat.log2 x : Int) - Nat.log2 y
  let (a, b) := if 0 ≤ e then (x, y * 2 ^ e.toNat) else (x * 2 ^ (-e).toNat, y)
  let (e, a) := if a < b then (e - 1, 2 * a) else (e, a)
  let z := (a - b) * 2 ^ 96 / (a + b)
  let z2 := z * z / 2 ^ 96
  let r := (upTo 64).foldl (fun (acc : Nat × Nat) k => (acc.1 + acc.2 / (2 * k + 1), acc.2 * z2 / 2 ^ 96)) (0, z)
  e * ln2 + 2 * r.1

/-- The temperature of an NTC code in 1/64 °C, to the nearest (R306). -/
def ntcTemp (code r25 beta : Nat) : Int :=
  let l : Rat := (lnRatio (1000 * code) ((4096 - code) * max r25 1) : Rat) / 2 ^ 96
  let t : Rat := 1 / (1 / (29815 / 100) + l / (max beta 1)) - 27315 / 100
  (t * 64 + 1 / 2).floor

/-- AI_CONVERSION_DONE (R305, R306): a conversion under way completes. [log entry 97 DEDUCED] -/
def execAiConversionDone (n : Fin 24) (code : BitVec 12) (s : State) : Result :=
  let n := n.val
  match s.timers.conv.find? fun p => p.1 == n with
  | none => .next s
  | some (_, due) =>
    let s := (s.reach due).tm fun t => { t with conv := t.conv.filter fun p => p.1 != n }
    let c := code.toNat
    let mv := c * 5000 / 4096 * (if s.bit Reg.INPUT.AICFG.DIV n then 4 else 1)
    let s := s.setFlds [(Reg.INPUT.AIVAL.VALID, n, 1), (Reg.INPUT.AIVAL.SAT, n, if 4095 ≤ c then 1 else 0),
      (Reg.INPUT.AIVAL.MV, n, mv), (Reg.INPUT.AIVAL.CODE, n, c)]
    if s.fld Reg.INPUT.AICFG.MODE n ≠ 1 then .next s
    else
      let s := s.setFlds [(Reg.INPUT.AITEMP.OPEN, n, if 4080 ≤ c then 1 else 0), (Reg.INPUT.AITEMP.SHORT, n, if c ≤ 15 then 1 else 0)]
      if 4080 ≤ c ∨ c ≤ 15 then .next (raiseFault s Flt.INPUT.NTC n 0)
      else
        let t := ntcTemp c (s.fld Reg.INPUT.AINTC.R25 n) (s.fld Reg.INPUT.AINTC.BETA n)
        .next (ledSourced (s.setFlds [(Reg.INPUT.AITEMP.TVALID, n, 1), (Reg.INPUT.AITEMP.TEMP, n, unsigned 16 t)]) n)

end Sys2Proof.Machine
end

