-- ==== Sys2Proof/Machine/Power.lean ====
section
/-!
DEFINITION. Sleep, descent, valleys and wake sources, staying awake, the lane supply, and the forces of the POWER block (R369
to R394).
-/
namespace Sys2Proof.Machine

/-- The watershed col (R374). -/
def wsCol (s : State) : Nat := s.pair Reg.POWER.WS_COL_LO.NUMBER Reg.POWER.WS_COL_HI.NUMBER 0

/-- The mode asked for. -/
def pwrMode (s : State) : Nat := s.fld Reg.POWER.PWR_MODE.MODE 0

/-- Change the power controller's hidden state. -/
def State.pw (s : State) (f : Power → Power) : State := { s with power := f s.power }

/-! ### Arming (R374) -/

/-- Why an arm is refused; 0 when it is taken. [log entry 124 DEDUCED] -/
def armRefusal (s : State) : Nat :=
  if wsCol s < s.colNum + 2 then 1
  else if s.fld Reg.POWER.WAKEREASON.REASON 0 ≠ 0 then 2
  else if !(unsettled s).isEmpty then 3
  else if s.bit Reg.TICK.STATUS.HO_ARMED 0 then 4
  else if !(s.seqState == seqRun || s.seqState == seqNarrows) || s.bit Reg.FAULT.STATUS.TERMINAL 0 then 5
  else 0

/-- A sleep is armed. -/
def sleepSet (s : State) : State := (s.setFld Reg.POWER.STATUS.SLEEP 0 sleepArmed).setBit Reg.POWER.SLEEPCTL.ARM 0 true

/-- A write of 1 to SLEEPCTL.ARM. -/
def sleepArm (s : State) : State :=
  let r := armRefusal s
  let s := s.setFld Reg.POWER.SLEEPCTL.REFUSE 0 r
  if r = 0 then sleepSet s else s.setBit Reg.POWER.SLEEPCTL.ARM 0 false

/-- SLEEP_ARM (R374). -/
def execSleepArm (by_ : By) (s : State) : Result := .next (privOnly s by_ sleepArm)

/-- The power controller arms a sleep itself (R388, R389): two cols ahead, with none of the refusals. -/
def selfArm (s : State) (mode : Nat) : State :=
  if s.bit Reg.FAULT.STATUS.TERMINAL 0 then s
  else
    let s := s.setFld Reg.POWER.PWR_MODE.MODE 0 mode
    sleepSet (s.setPair Reg.POWER.WS_COL_LO.NUMBER Reg.POWER.WS_COL_HI.NUMBER 0 (s.colNum + 2))

/-! ### Descent (R376 to R380) -/

/-- WATERSHED (R376): the col of the watershed opens with the sleep still armed. -/
def execWatershed (s : State) : Result :=
  if sleepState s = sleepArmed ∧ wsCol s ≤ s.colNum ∧ s.planRuns then
    .next ({ s with journal := { s.journal with watershed := some s.colCount } }.setFld Reg.POWER.STATUS.SLEEP 0 sleepPassed
      |>.pw fun p => { p with descent := .waiting, wsAt := s.colCount })
  else .next s

/-- Every lane in service stands at WAIT, with MODE 2 or 3 (R125, R378). -/
def lanesWait (s : State) : Bool :=
  2 ≤ pwrMode s && (upTo 4).all fun n => !(s.lane n).inService || (s.lane n).waiting

/-- DESCENT_START (R378): the condition first holds at count A; no further pass issues. -/
def execDescentStart (s : State) : Result :=
  if s.power.descent = .waiting ∧ lanesWait s then
    .next (s.pw fun p => { p with descent := .stopped, target := pwrMode s, stopAt := s.now })
  else .next s

/-- A forced entry (R378). -/
def forcedEntry (s : State) (forced : Bool) : State :=
  raiseWith (s.setBit Reg.POWER.STATUS.FORCED 0 true) Flt.POWER.DESCENT noUnit 0 (BitVec.ofNat 48 s.colNum) forced

/-- FORCED_ENTRY (R378): the col WS_COL + DESCENT.COLS opens and the lanes are not all at WAIT; it is the parking col. -/
def execForcedEntry (s : State) : Result :=
  if s.power.descent = .waiting ∧ wsCol s + max (s.fld Reg.POWER.DESCENT.COLS 0) 2 ≤ s.colNum then
    .next ((forcedEntry s false).pw fun p =>
      { p with descent := .stopped, target := if pwrMode s = 2 then 2 else 3, stopAt := s.colCount - 1 })
  else .next s

/-- An armed handover whose col has not come is cancelled, with a pending activation (R380, R448). [log entry 125 DEDUCED] -/
def handoverCancelled (s : State) : State :=
  let s := if s.update.sel.pending && !s.update.viaReset then
      { s with update := { s.update with sel := { s.update.sel with pending := false, pendCol := 0 } } }.setFlds
        [(Reg.UPDATE.STATUS.PENDING, 0, 0), (Reg.UPDATE.STATUS.STATE, 0, 5), (Reg.UPDATE.PENDCOL_LO.NUMBER, 0, 0),
         (Reg.UPDATE.PENDCOL_HI.NUMBER, 0, 0)]
    else s
  let s := s.setFlds [(Reg.TICK.STATUS.HO_ARMED, 0, 0), (Reg.TICK.CTRL.HO_ARM, 0, 0)]
  raiseFault s Flt.TICK.HANDOVER noUnit 0

/-- Ports ETA and ETB that start the TC10 handshake for V3. -/
def tc10Ports (s : State) : List Nat := [0, 1].filter fun e => s.effBit Reg.NET.ETCFG.TC10 e && s.effBit Reg.NET.ETCFG.EN e

/-- PARKING_COL (R379): the col after A. Outputs are parked, the ledger releases every reservation, the dictionary stops, the
time-base word is written, and for V3 the TC10 handshakes start. [log entry 38 DEDUCED] -/
def execParkingCol (s : State) : Result :=
  if s.power.descent = .stopped ∧ s.power.stopAt < s.colCount then
    let s := settleRaises (outputsOff { s with parked := true })
    let s := ledgerRetain (s.each releaseResv (upTo 120))
    let s := dropQueued s
    let s := if s.bit Reg.TICK.STATUS.HO_ARMED 0 then handoverCancelled s else s
    let s := { s with journal := { s.journal with lastCommit := max s.journal.lastCommit s.colNum } }
    let s := s.tm fun t => { t with timeWord := some (s.now / 2 ^ 32) }
    .next (jShow (s.pw fun p => { p with descent := .parked, parkAt := s.colCount, tc10 := if p.target = 3 then tc10Ports s else [] }))
  else .next s

/-- TC10_SLEEP_HANDSHAKE (R379): the partner of a T1 port completes the handshake. -/
def execTc10SleepHandshake (port : Fin 2) (s : State) : Result :=
  if s.power.tc10.contains port.val then
    .next (s.pw fun p => { p with tc10 := p.tc10.filter (· != port.val), asleep := port.val :: p.asleep })
  else .next s

/-- Clear the LINK bits of a T1 port. -/
def linkBits (s : State) (e : Nat) (up : Bool) : State :=
  (s.setBit Reg.NET.ETSTAT.LINK e up).setBit (if e = 0 then Reg.NET.STATUS.ETA_LINK else Reg.NET.STATUS.ETB_LINK) 0 up

/-- TC10_TIMEOUT (R379): the partner has not completed the handshake within 16 ms, and the port powers its link down. -/
def execTc10Timeout (port : Fin 2) (s : State) : Result :=
  if s.power.tc10.contains port.val then
    .next (linkBits (s.pw fun p => { p with tc10 := p.tc10.filter (· != port.val) }) port.val false)
  else .next s

/-- The first poll period of a valley (R417), in ms. -/
def pollMin (s : State) : Nat := min (max (s.fld Reg.ACCESS.POLLCFG.POLLMIN 0) 50) 4000

/-- Polling starts when valley entry completes (R416). -/
def pollStart (s : State) : State :=
  if s.bit Reg.ACCESS.POLLCFG2.EN 0 && (s.fld Reg.POWER.WAKEEN.EN 0).testBit 8 then
    { s with access := { s.access with polling := true, aerial := 0, polls := 0, pollEntry := s.now, listen := none } }.setFlds
      [(Reg.ACCESS.POLLSTAT.PERIOD, 0, pollMin s), (Reg.ACCESS.POLLSTAT.POLLS, 0, 0)]
  else s

/-- VALLEY_ENTRY_COMPLETE (R379): D-LOGIC goes off, D-NET too for V3, and the power dies; a late wake starts the exit in the
count after. -/
def execValleyEntryComplete (s : State) : Result :=
  if s.power.descent = .parked then
    let v3 := s.power.target == 3
    let s := s.reach (s.power.parkAt + if v3 then 3000 else 2000)
    let s := s.setFlds [(Reg.FAULT.CTRL.FORCE_EN, 0, 0), (Reg.FAULT.STATUS.FORCE_EN, 0, 0), (Reg.ACCESS.STATUS.IMMO_OPEN, 0, 0)]
    let s := { s with
      collectorUp := false, access := { s.access with immoEnd := none },
      dom := { s.dom with logic := false, net := !v3, pwr := 0, wait := 0 } }
    let s := if v3 then linkBits (linkBits s 0 false) 1 false else s
    let s := s.pw fun p => { p with
      descent := .valley, entryAt := s.now, entrySlow := slowNow s, exitAt := p.exitAt.map fun _ => s.now + 1,
      ntFrom := none, maFrom := none }
    .next (pollStart (s.setBit Reg.POWER.STATUS.NT_RUN 0 false))
  else .next s

/-- VALLEY_EXIT (R386, R387): the reason stands latched; the domains come on, and the start follows.
[log entry 130 DESIGN CHOICE] -/
def execValleyExit (s : State) : Result :=
  if s.power.descent = .valley then
    match s.power.exitAt with
    | none => .next s
    | some x =>
      let s := s.reach x
      let first := s.fld Reg.POWER.WAKEREASON.FIRST 0
      let ms := min ((x - s.power.entryAt) / 100000) (2 ^ 32 - 1)
      let s := (sleepDisarm s).satAdd Reg.POWER.COUNT.WAKES 0 1
      let s := s.setFlds [(Reg.POWER.STATUS.LAST, 0, s.power.target), (Reg.POWER.DWELL.MS, 0, ms)]
      let s := { s with dom := { s.dom with logic := true, net := true }, boot := if s.power.target = 3 then 4 else 3,
                        access := { s.access with polling := false, listen := none } }
      let s := s.pw fun p => { p with descent := .none, left := p.target, exitAt := none, tc10 := [], asleep := [] }
      .next (if first ≠ 0 ∧ first ≤ 11 ∧ (s.fld Reg.POWER.WAKEFWD.FWD 0).testBit (first - 1) then wakePulse s else s)
  else .next s

/-! ### Wake sources (R381 to R385) -/

/-- Would an event of source `b` count as a wake event now? -/
def wakeCounts (s : State) (b : Nat) : Bool :=
  sleepState s != sleepIdle && (10 ≤ b || (s.fld Reg.POWER.WAKEEN.EN 0).testBit b)

/-- WAKE_LINE_PULSE (R381): the line has stayed high for WFILT µs, outside the Z96's own drive, and is not stuck. -/
def execWakeLinePulse (s : State) : Result :=
  .next (if s.power.stuck || s.now < s.power.ignoreTo || s.power.drive then s else wakeEvent s 0 0xFF)

/-- WAKE_PULSE_END (R381): the drive ends, and 50 µs later the receiver listens again. -/
def execWakePulseEnd (s : State) : Result :=
  .next (if s.power.drive then (s.reach s.power.ignoreTo).pw fun p => { p with drive := false } else s)

/-- The line is taken as stuck. -/
def wakeStuck (s : State) (forced : Bool) : State :=
  raiseWith (s.pw fun p => { p with stuck := true }) Flt.POWER.WAKELINE noUnit 0 (BitVec.ofNat 48 s.colNum) forced

/-- WAKE_LINE_STUCK (R381). -/
def execWakeLineStuck (s : State) : Result := .next (if s.power.stuck then s else wakeStuck s false)

/-- WAKE_LINE_RECOVERY (R381): low for 1 ms. -/
def execWakeLineRecovery (s : State) : Result := .next (s.pw fun p => { p with stuck := false })

/-- Does a classical frame match a port's wake-up frame (R382)? -/
def wufMatches (s : State) (c : Nat) (ext : Bool) (ident : BitVec 29) (dlc : BitVec 4) (data : BitVec 64) : Bool :=
  let mask := s.fld Reg.NET.CANSWMASK.VALUE c
  ext == s.bit Reg.NET.CANSWCFG.IDE c && (ident.toNat &&& mask) == (s.fld Reg.NET.CANSWID.VALUE c &&& mask) &&
    dlc.toNat == s.fld Reg.NET.CANSWCFG.SWDLC c &&
    (!s.bit Reg.NET.CANSWCFG.DMASK_EN c ||
      (data.toNat &&& s.pair Reg.NET.CANSWDATA_LO.MASK Reg.NET.CANSWDATA_HI.MASK c) != 0)

/-- A wake of a CAN port, noted in its status. [log entry 128 DEDUCED] -/
def canWakes (s : State) (c : Nat) (F : Field) : State :=
  if wakeCounts s 1 then wakeEvent (s.setBit F c true) 1 c else s

/-- CAN_SELECTIVE_WAKE (R382). -/
def execCanSelectiveWake (c : Fin 8) (ev : CanWake) (s : State) : Result :=
  let n := c.val
  if !s.bit Reg.NET.CANSWCFG.EN n then .next s
  else
    match ev, s.bit Reg.NET.CANSWCFG.WUF_EN n with
    | .pattern, false => .next (canWakes s n Reg.NET.CANSWSTAT.WUP)
    | .frame ext ident dlc data, true =>
      let s := s.setFld Reg.NET.CANSWSTAT.FEC n (s.fld Reg.NET.CANSWSTAT.FEC n - 1)
      .next (if wufMatches s n ext ident dlc data then canWakes s n Reg.NET.CANSWSTAT.WUF else s)
    | .error, true =>
      let f := min (s.fld Reg.NET.CANSWSTAT.FEC n + 1) 32
      let s := s.setFld Reg.NET.CANSWSTAT.FEC n f
      .next (if f = 32 then canWakes s n Reg.NET.CANSWSTAT.FEC_WAKE else s)
    | _, _ => .next s

/-- From the parking col ports act as in the target valley (R379). -/
def asInValley (s : State) : Bool := s.power.descent == .parked || s.power.descent == .valley

/-- ETHERNET_WAKE (R375, R383): a TC10 wake request on ETA or ETB, or a frame to a port's unicast address. -/
def execEthernetWake (port : Fin 3) (tc10 : Bool) (s : State) : Result :=
  let e := port.val
  let v3 := asInValley s && s.power.target == 3
  let v2 := asInValley s && s.power.target == 2
  if e = 2 then .next (if !tc10 && s.effBit Reg.NET.TSCFG.EN 0 && !v3 then wakeEvent s 3 0xFF else s)
  else if tc10 then
    if !s.effBit Reg.NET.ETCFG.TC10 e then .next s
    else
      let woken := if s.effBit Reg.NET.ETCFG.FWD_WAKE e then [0, 1] else [e]
      .next ((wakeEvent s 2 e).pw fun p => { p with asleep := p.asleep.filter fun k => !woken.contains k })
  else .next (if v2 && s.effBit Reg.NET.ETCFG.EN e then wakeEvent s 2 e else s)

/-- LIN_WAKE (R384): a dominant phase of 150 µs on an enabled port. -/
def execLinWake (l : Fin 12) (s : State) : Result :=
  .next (if s.effBit Reg.NET.LINCFG.EN l.val then wakeEvent s 4 l.val else s)

/-- SBS_ADDRESS (R385): the first byte of a frame; a match is acknowledged and is a wake. -/
def execSbsAddress (addr : BitVec 7) (_read : Bool) (s : State) : Result :=
  .next (if s.bit Reg.POWER.SBSCFG.EN 0 && addr.toNat == s.fld Reg.POWER.SBSCFG.ADDR 0 then wakeEvent s 5 0xFF else s)

/-! ### Staying awake (R388, R389) -/

/-- The no-traffic timer stops. [log entry 127 DEDUCED] -/
def ntStop (s : State) : State := (s.setBit Reg.POWER.STATUS.NT_RUN 0 false).pw fun p => { p with ntFrom := none }

/-- The no-traffic timer runs out. -/
def ntExpire (s : State) (forced : Bool) : State :=
  let s := (ntStop s).satAdd Reg.POWER.COUNT.FALSE 0 1
  selfArm (raiseWith s Flt.POWER.FALSEWAKE noUnit 0 (BitVec.ofNat 48 s.colNum) forced) (s.fld Reg.POWER.STATUS.LAST 0)

/-- NO_TRAFFIC_EXPIRY (R388). -/
def execNoTrafficExpiry (s : State) : Result :=
  match s.power.ntFrom with
  | none => .next s
  | some f => .next (ntExpire (s.reach (f + s.fld Reg.POWER.AWAKECFG.NOTRAFFIC 0 * 100000)) false)

/-- The maximum-awake timer starts anew. -/
def maRestart (s : State) : State :=
  if s.power.maFrom.isSome then s.pw fun p => { p with maFrom := some s.now } else s

/-- The maximum-awake timer runs out with no sleep armed. -/
def maExpire (s : State) (forced : Bool) : State :=
  let s := s.pw fun p => { p with maFrom := none }
  if sleepState s ≠ sleepIdle then s
  else
    let s := s.setBit Reg.POWER.STATUS.MAXAWAKE 0 true
    selfArm (raiseWith s Flt.POWER.MAXAWAKE noUnit 0 (BitVec.ofNat 48 s.colNum) forced) 3

/-- MAXAWAKE_EXPIRY (R389). -/
def execMaxawakeExpiry (s : State) : Result :=
  let m := s.fld Reg.POWER.AWAKECFG.MAXAWAKE 0
  match s.power.maFrom with
  | none => .next s
  | some f => .next (if m = 0 then s else maExpire (s.reach (f + m * 100000000)) false)

/-- The timers that run from the first col of a start (R388, R389). -/
def awakeTimers (s : State) (c : Nat) : State :=
  let first := s.fld Reg.POWER.WAKEREASON.FIRST 0
  let nt := s.power.left ≠ 0 ∧ 1 ≤ first ∧ first ≤ 4 ∧ s.fld Reg.POWER.AWAKECFG.NOTRAFFIC 0 ≠ 0
  let s := s.pw fun p => { p with maFrom := some c, ntFrom := if nt then some c else none, left := 0 }
  s.setBit Reg.POWER.STATUS.NT_RUN 0 (decide nt)

/-- KEEP (R388, R389). -/
def powerKeep (s : State) : State := maRestart (ntStop s)

/-- PULSE (R381). -/
def execPowerPulse (by_ : By) (s : State) : Result := .next (privOnly s by_ wakePulse)

/-- KEEP (R388). -/
def execPowerKeep (by_ : By) (s : State) : Result := .next (privOnly s by_ powerKeep)

/-- ABORT (R375): a wake event of bit 11, while armed and in descent. -/
def execPowerAbort (by_ : By) (s : State) : Result := .next (privOnly s by_ fun s => wakeEvent s 11 0xFF)

/-! ### Lane supply (R372) and forces (R393) -/

/-- LANE_SUPPLY_FAULT (R372): the supply has been outside its window for more than 1 µs, or has come back. -/
def execLaneSupplyFault (outside : Bool) (s : State) : Result :=
  if !outside then .next { s with vlaneBad := false }
  else if s.power.supFrom ≤ s.now ∧ s.now < s.power.supTo then .next s
  else .next (raiseWith { s with vlaneBad := true } Flt.POWER.VLANE noUnit 2 (BitVec.ofNat 48 s.colNum) false)

/-- POWER_FORCE_DESCENT: raises FLT_POWER_DESCENT. -/
def execPowerForceDescent (by_ : By) (s : State) : Result :=
  .next (gated s by_ fun s => raiseWith s Flt.POWER.DESCENT noUnit 0 (BitVec.ofNat 48 s.colNum) true)

/-- POWER_FORCE_MAXAWAKE: the maximum-awake timer runs out now. -/
def execPowerForceMaxawake (by_ : By) (s : State) : Result :=
  .next (gated s by_ fun s => if s.power.maFrom.isSome then maExpire s true else s)

/-- POWER_FORCE_FALSEWAKE: the no-traffic timer runs out now. [log entry 126 DEDUCED] -/
def execPowerForceFalsewake (by_ : By) (s : State) : Result :=
  .next (gated s by_ fun s => if s.power.ntFrom.isSome then ntExpire s true else s)

/-- POWER_FORCE_WAKELINE: WAKE is treated as stuck. -/
def execPowerForceWakeline (by_ : By) (s : State) : Result := .next (gated s by_ fun s => wakeStuck s true)

/-- POWER_FORCE_VLANE: one lane supply window fault. -/
def execPowerForceVlane (by_ : By) (s : State) : Result :=
  .next (gated s by_ fun s => raiseWith s Flt.POWER.VLANE noUnit 2 (BitVec.ofNat 48 s.colNum) true)

end Sys2Proof.Machine
end

