-- ==== Sys2Proof/Machine/Access.lean ====
section
/-!
DEFINITION. Vehicle access and the immobiliser (R395 to R417, R429): rounds, judging of answers, failed attempts and lockout,
the immobiliser window, and polling in the valleys.
-/
namespace Sys2Proof.Machine

/-! ### A round in time (R398, R401) -/

/-- Aerials with a bit set in a mask, ascending. -/
def aerialsOf (m : Nat) : List Nat := (upTo 6).filter fun a => m.testBit a

/-- E: the end of the telegram, in µs after S. -/
def Round.telegramEnd (r : Round) : Nat := r.wakeUs + 14336

/-- R_ref, in µs after S. -/
def Round.ref (r : Round) : Nat := r.telegramEnd + (aerialsOf r.rssimask).length * (r.rssiUs + 64)

/-- The round's end, in counts. -/
def Round.endAt (r : Round) : Nat := r.start + 100 * (r.ref + 1000 + 5600 * 2 ^ r.slotb)

/-- The expected end of the sync word of slot `k`, in counts. -/
def Round.expected (r : Round) (k : Nat) : Nat := r.start + 100 * (r.ref + 1000 + 5600 * k + 800)

/-- The challenge telegram (R401). -/
def telegram (s : State) (r : Round) : List Byte :=
  let n := (aerialsOf r.rssimask).length
  let body := [0x01] ++ beBytes (s.fld Reg.ACCESS.VEHID.VEHID 0) 3 ++ r.challenge ++ beBytes (16 * n + r.slotb) 1
  [0x5A, 0x3C] ++ body ++ [crc8 body]

/-- Is the carrier of aerial `a` on at this count (R398, R401)? -/
def aerialDriving (s : State) (a : Nat) : Bool :=
  match s.access.round with
  | none => false
  | some r =>
    let t := (s.now - r.start) / 100
    if s.now < r.start || r.lost.contains a then false
    else if t < r.wakeUs then r.txmask.testBit a
    else if t < r.telegramEnd then
      let b := (t - r.wakeUs) / 128
      let half := (t - r.wakeUs) % 128 / 64
      r.txmask.testBit a && (((byteAt (telegram s r) (b / 8)).getLsbD (7 - b % 8)) == (half == 0))
    else
      let i := (t - r.telegramEnd - 64) / (r.rssiUs + 64)
      r.telegramEnd + 64 ≤ t && (t - r.telegramEnd - 64) % (r.rssiUs + 64) < r.rssiUs &&
        (aerialsOf r.rssimask)[i]? == some a

/-- UHFEN (R396): high in the answer slots of a round and in the listen of a poll. -/
def uhfEnable (s : State) : Bool :=
  s.access.listen.isSome ||
    match s.access.round with
    | none => false
    | some r => r.start + 100 * (r.ref + 1000) ≤ s.now && s.now < r.endAt

/-- Clear the ANS registers. -/
def clearAnswers (s : State) : State :=
  s.each (fun s k => s.setFlds [(Reg.ACCESS.ANS_ID.REG, k, 0), (Reg.ACCESS.ANS_VERD.REG, k, 0), (Reg.ACCESS.ANS_REP_LO.REG, k, 0),
    (Reg.ACCESS.ANS_REP_HI.REG, k, 0)]) (upTo 16)

/-- An ACCESS pass at count `p` naming the entry at offset `e` of the plan image (R397 to R399). -/
def accessPass (s : State) (p e : Nat) : State :=
  if !s.bit Reg.ACCESS.CTRL.EN 0 || s.access.round.isSome then s.setBit Reg.ACCESS.STATUS.OVERLAP 0 true
  else
    let c := randomBytes s 6
    let s := c.2
    let be := s.plan.be
    let r : Round := {
      start := p + 5, txmask := be (e + 1) 1, rssimask := be (e + 2) 1, slotb := be (e + 3) 1, wakeUs := be (e + 4) 2,
      rssiUs := be (e + 6) 2, ilf := be (e + 8) 1, rcwin := be (e + 9) 1, zonemask := be (e + 10) 1, challenge := c.1,
      failed := 0, valid := [], granted := false, lost := [] }
    let s := clearAnswers { s with access := { s.access with round := some r } }
    let s := (s.incFld Reg.ACCESS.STATUS.ROUND 0).setBit Reg.ACCESS.STATUS.RUNNING 0 true
    if s.bit Reg.KEYS.STATUS.TRNG_OK 0 then s else settleRaises (roundStop s)

/-! ### Failed attempts and lockout (R410, R411) -/

/-- The count at which the lockout ends; 0 for none. -/
def lockEnd (s : State) : Nat := s.pair Reg.ACCESS.LOCKEND_LO.COUNT Reg.ACCESS.LOCKEND_HI.COUNT 0

/-- A lockout is in force. -/
def lockedOut (s : State) : Bool := s.now < lockEnd s

/-- A lockout starts at level L. -/
def lockStart (s : State) (forced : Bool) : State :=
  let l := s.fld Reg.ACCESS.STATUS.LEVEL 0
  let s := s.setPair Reg.ACCESS.LOCKEND_LO.COUNT Reg.ACCESS.LOCKEND_HI.COUNT 0 (s.now + 30000000000 * 2 ^ min l 3)
  let s := s.setFlds [(Reg.ACCESS.STATUS.LEVEL, 0, min (l + 1) 3), (Reg.ACCESS.STATUS.LOCKED, 0, 1)]
  let s := { s with access := { s.access with fails := [] } }.satAdd Reg.ACCESS.FAILCNT.LOCKOUTS 0 1
  raiseWith s Flt.ACCESS.LOCKOUT noUnit 0 (detail8 l) forced

/-- A failed attempt at this count. [log entry 136 DEDUCED] -/
def accessFail (s : State) (forced : Bool) : State :=
  let s := { s with access := { s.access with lastFail := some s.now } }.satAdd Reg.ACCESS.FAILCNT.FAILS 0 1
  if lockedOut s then s
  else
    let earlier := s.access.fails.filter fun t => s.now ≤ t + 6000000000
    if 4 ≤ earlier.length then lockStart s forced
    else { s with access := { s.access with fails := earlier ++ [s.now] } }

/-! ### Judging an answer (R403 to R408) -/

/-- Verdict codes of ANSs.VERD. -/
def vValid : Nat := 1
def vNoise : Nat := 2
def vUnknown : Nat := 3
def vWrongSlot : Nat := 4
def vKeyFail : Nat := 5
def vBadTag : Nat := 6
def vRelay : Nat := 7
def vLocked : Nat := 8

/-- The enabled entry of the token list that holds an identity (R415). -/
def tokenOf (s : State) (id : Nat) : Option Nat :=
  (upTo 16).find? fun k => s.bit Reg.ACCESS.TOK_CFG.EN k && s.fld Reg.ACCESS.TOK_ID.ID k == id

/-- The slot of a token under a challenge (R405). -/
def tokenSlot (id : Nat) (chal : List Byte) (b : Nat) : Nat :=
  if b = 0 then 0 else ((id ^^^ beNat (chal.drop 2)) * 0x9E3779B1) % 2 ^ 32 / 2 ^ (32 - b)

/-- The timing offset in counts (R407). -/
def answerOffset (s : State) (r : Round) (f : UhfFrame) : Int :=
  (f.edge : Int) - 10 * s.fld Reg.ACCESS.CTRL.UHFDLY 0 - r.expected f.slot.val

/-- The verdict on a frame (R406). -/
def verdict (s : State) (r : Round) (f : UhfFrame) : Nat :=
  let id := beAt f.bytes 1 4
  if f.bytes.length ≠ 22 ∨ crc16 (f.bytes.take 20) ≠ BitVec.ofNat 16 (beAt f.bytes 20 2) ∨ byteAt f.bytes 0 ≠ 1 then vNoise
  else
    match tokenOf s id with
    | none => vUnknown
    | some k =>
      if tokenSlot id r.challenge r.slotb ≠ f.slot.val then vWrongSlot
      else
        match keyFor s (s.fld Reg.ACCESS.TOK_CFG.SLOT k) keyAccess with
        | none => vKeyFail
        | some key =>
          let msg := beBytes (s.fld Reg.ACCESS.VEHID.VEHID 0) 3 ++ r.challenge ++ f.bytes.take 12
          if (aesCmac key msg).take 8 ≠ sliceBytes f.bytes 12 8 then vBadTag
          else if r.rcwin ≠ 0 ∧ 100 * r.rcwin < (answerOffset s r f).natAbs then vRelay
          else if lockedOut s then vLocked
          else if s.access.forceRelay then vRelay else vValid

/-- Publish a judged answer in ANSs. -/
def publishAnswer (s : State) (f : UhfFrame) (v : Nat) (dt : Int) : State :=
  let k := f.slot.val
  let le := fun i n => beNat (sliceBytes f.bytes i n).reverse
  s.setFlds [(Reg.ACCESS.ANS_ID.ID, k, beAt f.bytes 1 4), (Reg.ACCESS.ANS_VERD.VERDICT, k, v),
    (Reg.ACCESS.ANS_VERD.DT, k, unsigned 16 (max (-32768) (min 32767 dt))), (Reg.ACCESS.ANS_REP_LO.LF, k, le 6 4),
    (Reg.ACCESS.ANS_REP_HI.LF4, k, beAt f.bytes 10 1), (Reg.ACCESS.ANS_REP_HI.LF5, k, beAt f.bytes 11 1),
    (Reg.ACCESS.ANS_REP_HI.BATLOW, k, beAt f.bytes 5 1)]

/-- Change the running round. -/
def withRound (s : State) (f : Round → Round) : State := { s with access := { s.access with round := s.access.round.map f } }

/-- Judge a frame in a running round. [log entry 135 DEDUCED] -/
def judge (s : State) (r : Round) (f : UhfFrame) : State :=
  let v := verdict s r f
  let dt := answerOffset s r f
  let s := if v = vRelay then { s with access := { s.access with forceRelay := false } }.satAdd Reg.ACCESS.FAILCNT.RELAY 0 1 else s
  let counts := v == vUnknown || v == vWrongSlot || v == vBadTag || v == vRelay
  let s := if counts then accessFail (withRound s fun r => { r with failed := r.failed + 1 }) false else s
  let s := if v = vRelay then raiseWith s Flt.ACCESS.RELAY noUnit 0 (detail8 f.slot.val) false else s
  let s := publishAnswer s f v dt
  if v = vValid then
    (withRound s fun r => { r with valid := r.valid ++ [f.slot.val], granted := true }).setBit Reg.ACCESS.RESULT.GRANTED 0 true
  else s

/-- UHF_ANSWER (R406): a frame received in an answer slot is judged. -/
def execUhfAnswer (f : UhfFrame) (s : State) : Result :=
  match s.access.round with
  | some r => .next (if f.slot.val < 2 ^ r.slotb then judge s r f else s)
  | none => .next s

/-! ### The end of a round (R408, R409, R414) -/

/-- The six field reports published for a slot, LF0 first. -/
def reports (s : State) (k : Nat) : List Nat :=
  ((upTo 4).map fun a => s.fld Reg.ACCESS.ANS_REP_LO.LF k / 256 ^ a % 256) ++
    [s.fld Reg.ACCESS.ANS_REP_HI.LF4 k, s.fld Reg.ACCESS.ANS_REP_HI.LF5 k]

/-- The highest single report of a slot. -/
def bestReport (s : State) (k : Nat) : Nat := (reports s k).foldl max 0

/-- The slot of the localising token: highest report, then lower slot. -/
def localising (s : State) (valid : List Nat) : Option Nat :=
  valid.foldl (fun b k =>
    match b with
    | none => some k
    | some j => if bestReport s j < bestReport s k || (bestReport s k == bestReport s j && decide (k < j)) then some k else some j) none

/-- The thresholds of a zone, LF0 first. -/
def zoneLimits (s : State) (z : Nat) : List Nat :=
  [s.fld Reg.ACCESS.ZONE_LO.LF0 z, s.fld Reg.ACCESS.ZONE_LO.LF1 z, s.fld Reg.ACCESS.ZONE_LO.LF2 z, s.fld Reg.ACCESS.ZONE_LO.LF3 z,
    s.fld Reg.ACCESS.ZONE_HI.LF4 z, s.fld Reg.ACCESS.ZONE_HI.LF5 z]

/-- The first zone of a mask in which a token with these reports lies; 15 for none (R409). -/
def zoneOf (s : State) (mask : Nat) (rep : List Nat) : Nat :=
  ((upTo 8).find? fun z => mask.testBit z && (List.zipWith (fun t r => t == 0 || decide (t ≤ r)) (zoneLimits s z) rep).all id).getD 15

/-- ROUND_END (R398, R408): the result is published, with the release of a granted round. [log entry 134 DEDUCED] -/
def execRoundEnd (s : State) : Result :=
  match s.access.round with
  | none => .next s
  | some r =>
    let s := { s.reach r.endAt with access := { s.access with round := none } }
    let w := localising s r.valid
    let z := (w.map fun k => zoneOf s r.zonemask (reports s k)).getD 15
    let s := s.setFlds [(Reg.ACCESS.RESULT.REG, 0, 0), (Reg.ACCESS.RESULT.GRANTED, 0, if r.granted then 1 else 0),
      (Reg.ACCESS.RESULT.ZONE, 0, z), (Reg.ACCESS.RESULT.SLOT, 0, w.getD 15), (Reg.ACCESS.RESULT.VALID, 0, r.valid.length),
      (Reg.ACCESS.RESULT.FAILED, 0, r.failed), (Reg.ACCESS.RESTOK.ID, 0, (w.map fun k => s.fld Reg.ACCESS.ANS_ID.ID k).getD 0),
      (Reg.ACCESS.STATUS.RUNNING, 0, 0), (Reg.ACCESS.STATUS.EV_DONE, 0, 1)]
    let s := if r.granted then s.setBit Reg.ACCESS.STATUS.EV_GRANT 0 true else s
    if z < 8 ∧ s.bit Reg.ACCESS.ZONE_HI.INSIDE z then
      .next ({ s with access := { s.access with immoEnd := some (s.now + s.fld Reg.ACCESS.IMMOCFG.HOLD 0 * 100000000) } }.setBit
        Reg.ACCESS.STATUS.IMMO_OPEN 0 true)
    else .next s

/-- ROUND_ABORT (R400): a write of ACCESS.CTRL.ABORT. -/
def execRoundAbort (by_ : By) (s : State) : Result := .next (privOnly s by_ fun s => settleRaises (roundStop s))

/-- An event of an aerial: reported, and the round goes on without it (R395). -/
def aerialFault (s : State) (a : Nat) (ev : AerialEvent) (forced : Bool) : State :=
  let F := match ev with
    | .open' => Reg.ACCESS.AERIAL.EV_OPEN
    | .short => Reg.ACCESS.AERIAL.EV_SHORT
    | .thermal => Reg.ACCESS.AERIAL.EV_THERM
  raiseWith (withRound (s.setBit F a true) fun r => { r with lost := a :: r.lost }) Flt.ACCESS.AERIAL a 0 (detail8 a) forced

/-- AERIAL_FAULT (R395). -/
def execAerialFault (a : Fin 6) (ev : AerialEvent) (s : State) : Result := .next (aerialFault s a.val ev false)

/-! ### Lockout over time -/

/-- LOCKOUT_END (R410): the lockout has run; in a valley polling resumes at POLLMIN (R417). -/
def execLockoutEnd (s : State) : Result :=
  if lockEnd s = 0 then .next s
  else
    let s := s.reach (lockEnd s)
    let s := (s.setPair Reg.ACCESS.LOCKEND_LO.COUNT Reg.ACCESS.LOCKEND_HI.COUNT 0 0).setBit Reg.ACCESS.STATUS.LOCKED 0 false
    if inValley s && s.bit Reg.ACCESS.POLLCFG2.EN 0 && (s.fld Reg.POWER.WAKEEN.EN 0).testBit 8 then
      .next ({ s with access := { s.access with polling := true, polls := 0 } }.setFld Reg.ACCESS.POLLSTAT.PERIOD 0 (pollMin s))
    else .next s

/-- LOCKOUT_LEVEL_CLEAR (R411): LOCKCLR hours have passed with no failed attempt. -/
def execLockoutLevelClear (s : State) : Result :=
  match s.access.lastFail with
  | none => .next s
  | some f =>
    let s := s.reach (f + max (s.fld Reg.ACCESS.LOCKCFG.LOCKCLR 0) 1 * 360000000000)
    .next ({ s with access := { s.access with lastFail := none } }.setFld Reg.ACCESS.STATUS.LEVEL 0 0)

/-! ### Immobiliser (R414) -/

/-- A write of IMMO_CTRL.GO. [log entry 140 DEDUCED] -/
def immoGo (s : State) : State :=
  let open' := match s.access.immoEnd with
    | some e => s.now < e
    | none => false
  if !open' then s.setFlds [(Reg.ACCESS.IMMO_CTRL.RESULT, 0, 2), (Reg.ACCESS.IMMO_RESP_LO.VALUE, 0, 0), (Reg.ACCESS.IMMO_RESP_HI.VALUE, 0, 0)]
  else
    match keyFor s (s.fld Reg.ACCESS.IMMOCFG.SLOT 0) keyImmo with
    | none => s.setFld Reg.ACCESS.IMMO_CTRL.RESULT 0 3
    | some k =>
      let c := beBytes (s.pair Reg.ACCESS.IMMO_CHAL_LO.VALUE Reg.ACCESS.IMMO_CHAL_HI.VALUE 0) 8
      (s.setPair Reg.ACCESS.IMMO_RESP_LO.VALUE Reg.ACCESS.IMMO_RESP_HI.VALUE 0 (beNat ((aesCmac k (c ++ unitIdBytes)).take 8))).setFld
        Reg.ACCESS.IMMO_CTRL.RESULT 0 1

/-- IMMO_GO (R414). -/
def execImmoGo (by_ : By) (s : State) : Result := .next (privOnly s by_ immoGo)

/-- IMMO_WINDOW_EXPIRY (R414). -/
def execImmoWindowExpiry (s : State) : Result :=
  match s.access.immoEnd with
  | none => .next s
  | some e => .next ({ s.reach e with access := { s.access with immoEnd := none } }.setBit Reg.ACCESS.STATUS.IMMO_OPEN 0 false)

/-! ### Polling (R416, R417) -/

/-- The next aerial of POLLMASK in ascending rotation from `a`. -/
def nextAerial (s : State) (a : Nat) : Option Nat :=
  ((upTo 6).map fun i => (a + i) % 6).find? fun k => (s.fld Reg.ACCESS.POLLCFG2.POLLMASK 0).testBit k

/-- ACCESS_POLL (R416): a poll on the next aerial, and the growth of the period. -/
def execAccessPoll (s : State) : Result :=
  let stop := s.fld Reg.ACCESS.POLLCFG2.POLLSTOP 0
  if !s.access.polling || !inValley s || lockedOut s then .next s
  else if stop ≠ 0 ∧ s.access.pollEntry + stop * 360000000000 ≤ s.now then
    .next { s with access := { s.access with polling := false, listen := none } }
  else
    match nextAerial s s.access.aerial with
    | none => .next s
    | some a =>
      let s := s.satAdd Reg.ACCESS.POLLSTAT.POLLS 0 1
      let n := s.access.polls + 1
      let grow := max (s.fld Reg.ACCESS.POLLCFG.POLLGROW 0) 1
      let period := s.fld Reg.ACCESS.POLLSTAT.PERIOD 0
      let top := max (min (s.fld Reg.ACCESS.POLLCFG.POLLMAX 0) 4000) (pollMin s)
      let s := { s with access := { s.access with listen := some a, aerial := (a + 1) % 6, polls := n % grow } }
      .next (if n % grow = 0 then s.setFld Reg.ACCESS.POLLSTAT.PERIOD 0 (min (2 * period) top) else s)

/-- POLL_ANSWER (R416): a poll answer with a correct CRC and the identity of an enabled entry is a wake event. -/
def execPollAnswer (bytes : List Byte) (s : State) : Result :=
  match s.access.listen with
  | none => .next s
  | some a =>
    let good := bytes.length == 8 && crc16 (bytes.take 6) == BitVec.ofNat 16 (beAt bytes 6 2) && byteAt bytes 0 == 2 &&
      (tokenOf s (beAt bytes 1 4)).isSome
    .next (if good then wakeEvent { s with access := { s.access with listen := none } } 8 a else s)

/-! ### Forces (R429) -/

/-- ACCESS_FORCE_RELAY: the next VALID answer is judged RELAY. -/
def execAccessForceRelay (by_ : By) (s : State) : Result :=
  .next (gated s by_ fun s => { s with access := { s.access with forceRelay := true } })

/-- ACCESS_FORCE_AERIAL: one open-aerial event on LF0. -/
def execAccessForceAerial (by_ : By) (s : State) : Result := .next (gated s by_ fun s => aerialFault s 0 .open' true)

/-- ACCESS_FORCE_FAIL: one failed attempt at this count. -/
def execAccessForceFail (by_ : By) (s : State) : Result := .next (gated s by_ fun s => accessFail s true)

end Sys2Proof.Machine
end

