-- ==== Sys2Proof/Machine/PlanCheck.lean ====
section
/-!
DEFINITION. The load checks of a plan image (R59, R500): eight checks in order, the first failing one giving its number.
-/
namespace Sys2Proof.Machine

/-- The bytes of a range of the image. -/
def Plan.bytes (p : Plan) (a n : Nat) : List Byte := rdBytes p.img a n

/-- Are `n` bytes from `a` zero? -/
def Plan.zero (p : Plan) (a n : Nat) : Bool := p.img.all fun b => b.1 < a || a + n ≤ b.1

/-- The snapshot area's first byte (R46). -/
def snapArea : Nat := 0x1E0000

/-- Check 1: the header (R53). -/
def planCheck1 (p : Plan) : Bool :=
  0x80 ≤ p.len && p.be 0 4 == 0x45504C4E && p.be 4 2 == 1 && p.be 6 2 == 0x80 && p.be 8 2 == 0x96 && p.be 11 1 == 2 &&
    10000 ≤ p.ticks && p.ticks ≤ 400000 && 1 ≤ p.be 0x28 4 && p.be 0x28 4 ≤ 1024 && p.be 0x1C 4 == p.len &&
    p.zero 0x2C 20 && p.zero 0x60 32

/-- Check 3: BODY_DIGEST. -/
def planCheck3 (p : Plan) : Bool := sha256 (p.bytes 0x80 (p.len - 0x80)) == p.bytes 0x40 32

/-- The sections a valid image holds, with their limits (R55): type, variant, lane, limit. -/
def sectionRows : List (Nat × Nat × Nat × Nat) :=
  ((upTo 4).map fun j => (1, 0, j, 0x20000)) ++ ((upTo 3).map fun j => (1, 1, j, 0x10000)) ++
    ((upTo 4).map fun j => (2, 0, j, 0x40000)) ++ ((upTo 3).map fun j => (2, 1, j, 0x40000)) ++
    [(3, 0, 0xFF, 16 + 8 * 16385), (3, 1, 0xFF, 16 + 8 * 16385), (4, 0, 0xFF, 0x80000), (4, 1, 0xFF, 0x80000),
     (5, 0xFF, 0xFF, 32 * 4096), (6, 0xFF, 0xFF, 16 * 2048), (7, 0xFF, 0xFF, 0x200000), (8, 0xFF, 0xFF, 16 + 16 * 4096)]

/-- The section table's entries: type, variant, lane, offset, length. -/
def Plan.sections (p : Plan) : List (Nat × Nat × Nat × Nat × Nat) :=
  (upTo 22).map fun i =>
    let e := 0x80 + 16 * i
    (p.be e 1, p.be (e + 1) 1, p.be (e + 2) 1, p.be (e + 4) 4, p.be (e + 8) 4)

/-- Do two ranges meet? -/
def rangesMeet (a n b m : Nat) : Bool := a < b + m && b < a + n && n != 0 && m != 0

/-- The section table of R54 and R55 with the CRCs of its sections. -/
def tableOk (p : Plan) : Bool :=
  p.be 0x20 2 == 22 && 0x80 + 16 * 22 ≤ p.len &&
    ((upTo 22).all fun i => p.be (0x80 + 16 * i + 3) 1 == 0) &&
    (p.sections.all fun x => match x with
      | (t, v, l, o, n) => o % 64 == 0 && 0x80 + 16 * 22 ≤ o && o + n ≤ p.len &&
          sectionRows.any fun r => r.1 == t && r.2.1 == v && r.2.2.1 == l && n ≤ r.2.2.2) &&
    (sectionRows.all fun r => (p.sections.filter fun x => x.1 == r.1 && x.2.1 == r.2.1 && x.2.2.1 == r.2.2.1).length == 1) &&
    ((upTo 22).all fun i => (upTo 22).all fun j =>
      let x := p.sections.getD i (0, 0, 0, 0, 0)
      let y := p.sections.getD j (0, 0, 0, 0, 0)
      i == j || !rangesMeet x.2.2.2.1 x.2.2.2.2 y.2.2.2.1 y.2.2.2.2) &&
    ((upTo 22).all fun i =>
      let x := p.sections.getD i (0, 0, 0, 0, 0)
      (crc32 (p.bytes x.2.2.2.1 x.2.2.2.2)).toNat == p.be (0x80 + 16 * i + 12) 4)

/-- The section of a type and variant, offset and length. -/
def Plan.sec (p : Plan) (t v l : Nat) : Nat × Nat := (p.section' t v l).getD (0, 0)

/-- Payload lengths of CAN FD (R339). -/
def fdLength (n : Nat) : Bool := n ≤ 8 || [12, 16, 20, 24, 32, 48, 64].contains n

/-- A bus transmit entry (R339) of a section of `n` bytes. -/
def busTxOk (p : Plan) (e n : Nat) : Bool :=
  let port := p.be e 1
  let fl := p.be (e + 1) 1
  let len := p.be (e + 2) 2
  let src := p.be (e + 8) 4
  port ≤ 10 && fl < 8 && p.be (e + 12) 4 == 0 && src % 8 == 0 && src + len ≤ 0x200000 && (!fl.testBit 1 || fl.testBit 0) &&
    (if port ≤ 7 then fdLength len && (fl.testBit 0 || len ≤ 8) && p.be (e + 4) 4 < (if fl.testBit 2 then 2 ^ 29 else 2 ^ 11)
     else 46 ≤ len && len ≤ 1500 && p.be (e + 4) 4 + 16 ≤ n)

/-- A bus receive entry (R341). -/
def busRxOk (p : Plan) (e : Nat) : Bool :=
  p.be e 1 ≤ 22 && (p.be (e + 1) 1 == 0 || p.be (e + 1) 1 == 4) && 1 ≤ p.be (e + 2) 2 && p.be (e + 2) 2 ≤ 112 &&
    p.be (e + 12) 2 ≤ 255 && p.be (e + 14) 2 == 0

/-- A LIN schedule entry (R342). -/
def linOk (p : Plan) (e : Nat) : Bool :=
  p.be e 1 ≤ 11 && p.be (e + 1) 1 < 8 && p.be (e + 2) 1 ≤ 63 && 1 ≤ p.be (e + 3) 1 && p.be (e + 3) 1 ≤ 8 &&
    p.be (e + 4) 4 + p.be (e + 3) 1 ≤ 0x200000 && p.be (e + 8) 2 ≤ 255 && p.zero (e + 10) 6

/-- An access round entry (R397). -/
def roundOk (p : Plan) (e : Nat) : Bool :=
  let w := p.be (e + 4) 2
  let r := p.be (e + 6) 2
  p.be e 1 == 1 && 1 ≤ p.be (e + 1) 1 && p.be (e + 1) 1 < 64 && p.be (e + 2) 1 < 64 && p.be (e + 3) 1 ≤ 4 && 500 ≤ w && w ≤ 4000 &&
    128 ≤ r && r ≤ 2048 && r % 64 == 0 && 1 ≤ p.be (e + 8) 1 && p.be (e + 8) 1 ≤ 15 &&
    (p.be (e + 9) 1 == 0 || (2 ≤ p.be (e + 9) 1 && p.be (e + 9) 1 ≤ 50)) && p.zero (e + 11) 5

/-- One table of a device-table section: its entries lie in the section and within their ranges (R338). -/
def devTableOk (p : Plan) (o n type count off : Nat) : Bool :=
  let each := fun (f : Nat → Bool) => off + 16 * count ≤ n && (upTo count).all fun i => f (o + off + 16 * i)
  match type with
  | 1 => each fun e => busTxOk p e n
  | 2 => each (busRxOk p)
  | 3 => each (linOk p)
  | 6 => each (roundOk p)
  | 7 => count == 1 && off + 24 ≤ n && p.zero (o + off + 21) 3
  | _ => false

/-- A device-table section: directory, types and tables (R338). -/
def devSectionOk (p : Plan) (v : Nat) : Bool :=
  let (o, n) := p.sec 4 v 0xFF
  let dir := (upTo (n / 8)).takeWhile fun i => p.be (o + 8 * i) 2 != 0
  let types := dir.map fun i => p.be (o + 8 * i) 2
  8 * (dir.length + 1) ≤ n && types.eraseDups.length == types.length &&
    dir.all fun i => devTableOk p o n (p.be (o + 8 * i) 2) (p.be (o + 8 * i + 2) 2) (p.be (o + 8 * i + 4) 4)

/-- The pass-table header (R500). -/
def passHeaderOk (p : Plan) (v : Nat) : Bool :=
  let (o, n) := p.sec 3 v 0xFF
  let k := p.be o 4
  16 ≤ n && 1 ≤ k && k ≤ 16385 && n == 16 + 8 * k && p.zero (o + 4) 12

/-- The manifest section (R500). -/
def manifestOk (p : Plan) : Bool :=
  let (o, n) := p.sec 5 0xFF 0xFF
  n % 32 == 0 && (upTo (n / 32)).all fun i =>
    let r := o + 32 * i
    p.be (r + 2) 1 ≤ p.be (r + 3) 1 && 1 ≤ p.be (r + 4) 1 && p.be (r + 4) 1 ≤ 12 && p.be (r + 5) 1 < 8 && p.zero (r + 28) 4

/-- The carry-state map (R500). -/
def carryOk (p : Plan) : Bool :=
  let (o, n) := p.sec 6 0xFF 0xFF
  n % 16 == 0 && (upTo (n / 16)).all fun i => p.be (o + 16 * i + 8) 4 % 8 == 0 && p.be (o + 16 * i + 12) 1 ≤ 2

/-- The length of a type, where it is fixed (R314). -/
def typeLength (t : Nat) : Option Nat :=
  match t with
  | 1 => some 1
  | 2 => some 1
  | 3 => some 2
  | 4 => some 4
  | 5 => some 8
  | 6 => some 1
  | 7 => some 2
  | 8 => some 4
  | 9 => some 8
  | _ => none

/-- The object declarations (R500). -/
def declsOk (p : Plan) : Bool :=
  let (o, n) := p.sec 8 0xFF 0xFF
  let k := p.be o 4
  1 ≤ k && k ≤ 4096 && n == 16 + 16 * k && p.zero (o + 4) 12 && (upTo k).all fun i =>
    let e := o + 16 + 16 * i
    let d := p.declAt e
    0x8000 ≤ p.be e 2 && p.be e 2 ≤ 0xBFFF && p.be (e + 2) 1 ≤ p.be (e + 3) 1 && 1 ≤ d.type && d.type ≤ 12 && d.rights < 64 &&
      (d.persist == 0 || d.persist == 2) && p.be (e + 7) 1 < 2 && (!d.eligible || d.len ≤ 8) && 1 ≤ d.len && d.len ≤ 1024 &&
      (typeLength d.type == none || typeLength d.type == some d.len) && d.addr % 8 == 0 && p.zero (e + 10) 2

/-- Check 4. -/
def planCheck4 (p : Plan) : Bool :=
  tableOk p && devSectionOk p 0 && devSectionOk p 1 && passHeaderOk p 0 && passHeaderOk p 1 && manifestOk p && carryOk p && declsOk p

/-- A pass: offset, kind, lane, argument (R48). -/
structure Pass where
  off : Nat
  kind : Nat
  lane : Nat
  arg : Nat
  deriving DecidableEq, Repr

/-- The pass of a 64-bit word. -/
def passOf (w : Nat) : Pass := { off := w / 2 ^ 45, kind := w / 2 ^ 41 % 16, lane := w / 2 ^ 39 % 4, arg := w % 2 ^ 32 }

/-- The words of the pass table of a variant, END included. -/
def Plan.passWords (p : Plan) (v : Nat) : List Nat :=
  let o := (p.sec 3 v 0xFF).1
  (upTo (p.be o 4)).map fun i => p.be (o + 16 + 8 * i) 8

/-- The passes of a variant. -/
def Plan.passes (p : Plan) (v : Nat) : List Pass := (p.passWords v).dropLast.map passOf

/-- Is the argument of a pass within its range, and the pass where R43 allows it (R43, R49, R305, R342)? -/
def passArgOk (p : Plan) (v : Nat) (x : Pass) : Bool :=
  let a := x.arg
  let cut := p.ticks - 100
  match x.kind with
  | 0 => a == 0
  | 1 => x.off < cut
  | 2 => a / 2 ^ 24 < 4 && a % 2 ^ 24 < [96, 16, 24, 32].getD (a / 2 ^ 24) 0 && 400 ≤ x.off
  | 3 => a < 4 || (8 ≤ a && a < 12) || (0x20 ≤ a && a ≤ 0x37) || a == 0x40
  | 4 => a < (p.table v 1).2
  | 5 =>
    let t := p.table v 3
    a / 2 ^ 24 == 0 && a % 256 ≤ 11 && a / 256 < t.2 && p.be (t.1 + 16 * (a / 256)) 1 == a % 256
  | 6 => a ≤ 11 || a == 0xFF
  | 7 => a < (p.table v 6).2
  | 8 => a % 2 ^ 16 == 0 && x.off < cut
  | 9 => a < 2 ^ 20
  | _ => false

/-- Are a list of passes' offsets strictly rising from 16 on? -/
def offsetsRise : Nat → List Pass → Bool
  | _, [] => true
  | last, x :: l => last < x.off && offsetsRise x.off l

/-- Check 5: the pass tables (R43, R48, R49). -/
def planCheck5 (p : Plan) : Bool :=
  [0, 1].all fun v =>
    (p.passWords v).getLastD 0 == 15 * 2 ^ 41 && ((p.passWords v).all fun w => w / 2 ^ 32 % 128 == 0) &&
      offsetsRise 15 (p.passes v) &&
      (p.passes v).all fun x => x.off < p.ticks && x.lane < 4 - v && passArgOk p v x

/-- Where code of a variant is linked (R60). -/
def linkBase (v : Nat) : Nat := if v = 0 then 0 else 0x20000

/-- Check 6: every CODE entry lies in its lane's code section. -/
def planCheck6 (p : Plan) : Bool :=
  [0, 1].all fun v => (p.passes v).all fun x =>
    x.kind != 1 || (linkBase v ≤ 4 * (x.arg % 2 ^ 16) && 4 * (x.arg % 2 ^ 16) < linkBase v + (p.sec 1 v x.lane).2)

/-- The next pass of a lane stands after a plain's end (R96, line 5). -/
def plainsSpaced (k : Nat) : List Pass → Bool
  | x :: y :: l => (x.kind != 9 || x.off + (x.arg + 4 + k - 1) / k ≤ y.off) && plainsSpaced k (y :: l)
  | _ => true

/-- The plains of one lane of a variant (R96). -/
def lanePlainsOk (p : Plan) (v lane : Nat) : Bool :=
  let k := levelK p.level
  let mine := (p.passes v).filter fun x => x.lane == lane && (x.kind == 1 || x.kind == 9)
  let plains := mine.filter fun x => x.kind == 9
  !plains.isEmpty && (plains.all fun x => 256 ≤ x.arg) &&
    p.be 0x22 2 * k * p.ticks ≤ 1000 * plains.foldl (fun n x => n + (x.arg - 16)) 0 &&
    (p.ticks ≤ 100000 || (upTo ((p.ticks + 99999) / 100000)).all fun i =>
      plains.any fun x => 100000 * i ≤ x.off && x.off < 100000 * (i + 1)) &&
    plainsSpaced k mine

/-- Check 7: the plains' share. -/
def planCheck7 (p : Plan) : Bool :=
  100 ≤ p.be 0x22 2 && ((upTo 4).all (lanePlainsOk p 0)) && ((upTo 3).all (lanePlainsOk p 1))

/-- The declarations of an image: index, subindices, bytes in shared memory. -/
def Plan.declRanges (p : Plan) : List (Nat × Nat × Nat × Nat × Nat) :=
  let o := (p.sec 8 0xFF 0xFF).1
  (upTo (p.be o 4)).map fun i =>
    let e := o + 16 + 16 * i
    let d := p.declAt e
    let hi := p.be (e + 3) 1
    (p.be e 2, d.subLo, hi, d.addr, (hi - d.subLo + 1) * ((d.len + 7) / 8 * 8))

/-- Check 8: everything lies in shared memory below the snapshot area, and no two declarations overlap. -/
def planCheck8 (p : Plan) : Bool :=
  let (co, cn) := p.sec 6 0xFF 0xFF
  let (so, sn) := p.sec 7 0xFF 0xFF
  let ds := p.declRanges
  ((upTo (cn / 16)).all fun i =>
    let e := co + 16 * i
    p.be e 4 + p.be (e + 8) 4 ≤ snapArea && p.be (e + 4) 4 + p.be (e + 8) 4 ≤ snapArea) &&
    (sn ≤ snapArea || p.zero (so + snapArea) (sn - snapArea)) &&
    (ds.all fun d => d.2.2.2.1 + d.2.2.2.2 ≤ snapArea) &&
    (upTo ds.length).all fun i => (upTo i).all fun j =>
      let a := ds.getD i (0, 0, 0, 0, 0)
      let b := ds.getD j (0, 0, 0, 0, 0)
      !(a.1 == b.1 && a.2.1 ≤ b.2.2.1 && b.2.1 ≤ a.2.2.1) && !rangesMeet a.2.2.2.1 a.2.2.2.2 b.2.2.2.1 b.2.2.2.2

/-- The number of the first failing check of R59 for a level; 0 when every check passes. [log entry 163 DESIGN CHOICE] -/
def planCheck (p : Plan) (level : Nat) : Nat :=
  if !planCheck1 p then 1
  else if p.level ≠ level then 2
  else if !planCheck3 p then 3
  else if !planCheck4 p then 4
  else if !planCheck5 p then 5
  else if !planCheck6 p then 6
  else if !planCheck7 p then 7
  else if !planCheck8 p then 8
  else 0

end Sys2Proof.Machine
end

