-- ==== Sys2Proof/Machine/Update.lean ====
section
/-!
DEFINITION. Image slots, the selector, the manifest and its checks, staging and activation (R431 to R449, R455). What resets the
controller is with the resets.
-/
namespace Sys2Proof.Machine

/-! ### Slots, halves, the selector (R431, R432) -/

/-- 128 MiB, the size of a slot. -/
def slotSize : Nat := 0x8000000

/-- 32 MiB, the size of a calibration half. -/
def halfSize : Nat := 0x2000000

/-- A big-endian field of slot `k`. -/
def slotBe (s : State) (k a n : Nat) : Nat := rdBE s.update.slots (k * slotSize + a) n

/-- Bytes of slot `k`. -/
def slotRange (s : State) (k a n : Nat) : List Byte := rdBytes s.update.slots (k * slotSize + a) n

/-- The staging slot. -/
def stagingSlot (s : State) : Nat := 1 - s.update.sel.slot

/-- The staging half. -/
def stagingHalf (s : State) : Nat := 1 - s.update.sel.half

/-- Change the update engine's hidden state. -/
def State.up (s : State) (f : Update → Update) : State := { s with update := f s.update }

/-- The update engine's state (R439). -/
def updState (s : State) : Nat := s.fld Reg.UPDATE.STATUS.STATE 0

def updIdle : Nat := 0
def updErasing : Nat := 1
def updReceiving : Nat := 2
def updVerifying : Nat := 3
def updVerified : Nat := 4
def updLoaded : Nat := 5
def updArmed : Nat := 6
def updFailed : Nat := 7

/-- Set the state and the last error. -/
def updErr (s : State) (e : Nat) : State := s.setFld Reg.UPDATE.STATUS.ERR 0 e
def updTo (s : State) (q : Nat) : State := s.setFld Reg.UPDATE.STATUS.STATE 0 q

/-- MAN_LEN of the manifest of a slot. -/
def manLen (s : State) (k : Nat) : Nat := slotBe s k 6 2

/-- Show what the selector and the committed manifest say (R433, R455). -/
def updShow (s : State) : State :=
  let e := s.update.sel
  let k := e.slot
  let d := sha256 (slotRange s k 0 (manLen s k))
  let s := s.setFlds [(Reg.UPDATE.STATUS.HALF, 0, e.half), (Reg.UPDATE.STATUS.SLOT, 0, e.slot),
    (Reg.UPDATE.STATUS.PENDING, 0, if e.pending then 1 else 0), (Reg.UPDATE.PENDCOL_LO.NUMBER, 0, e.pendCol),
    (Reg.UPDATE.PENDCOL_HI.NUMBER, 0, e.pendCol / 2 ^ 32), (Reg.UPDATE.ARB.VALUE, 0, e.arb),
    (Reg.UPDATE.SVN.VALUE, 0, slotBe s k 32 4), (Reg.UPDATE.IMGVER.VALUE, 0, slotBe s k 36 4),
    (Reg.UPDATE.IMGID_HI.VALUE, 0, slotBe s k 40 4), (Reg.UPDATE.IMGID_LO.VALUE, 0, slotBe s k 44 4)]
  s.each (fun s w => s.setFld Reg.UPDATE.DIGEST.VALUE w (beAt d (4 * w) 4)) (upTo 8)

/-- Write the selector record, unless a force makes the write fail in both copies (R432, R455). -/
def selWrite (s : State) (f : Selector → Selector) : State × Bool :=
  if s.update.failSel then (updErr (s.up fun u => { u with failSel := false }) 15, false)
  else (updShow (s.up fun u => { u with sel := { f u.sel with seq := (u.sel.seq + 1) % 2 ^ 32 } }), true)

/-! ### The manifest (R434 to R438) -/

/-- A part entry (R434): type, level, tag, offset, length, digest, and whether its zero fields are zero. -/
structure PartEntry where
  type : Nat
  level : Nat
  tag : Nat
  off : Nat
  len : Nat
  digest : List Byte
  zeros : Bool
  deriving DecidableEq, Repr

/-- Part entry `i` of slot `k`. -/
def partAt (s : State) (k i : Nat) : PartEntry :=
  let a := 64 + 64 * i
  let t := slotBe s k a 1
  { type := t, level := slotBe s k (a + 1) 1, tag := slotBe s k (a + 4) 4, off := slotBe s k (a + 8) 4, len := slotBe s k (a + 12) 4,
    digest := slotRange s k (a + 16) 32,
    zeros := slotBe s k (a + 2) 2 == 0 && slotBe s k (a + 60) 4 == 0 &&
      (if t = 1 then slotBe s k (a + 4) 4 == 0 else slotBe s k (a + 48) 12 == 0) }

/-- The parts of slot `k`. -/
def parts (s : State) (k : Nat) : List PartEntry := (upTo (min (slotBe s k 14 2) 16)).map (partAt s k)

/-- Bytes of a part. -/
def partBytes (s : State) (k : Nat) (p : PartEntry) : List Byte := slotRange s k p.off p.len

/-- A part as a plan image. -/
def partPlan (s : State) (k : Nat) (p : PartEntry) : Plan :=
  { img := moveBytes s.update.slots (k * slotSize + p.off) p.len 0, len := p.len, valid := true }

/-- The plan part of a level in slot `k`. -/
def planPart (s : State) (k level : Nat) : Option PartEntry := (parts s k).find? fun p => p.type == 1 && p.level == level

/-- Does slot `k` carry calibration parts? -/
def carriesCal (s : State) (k : Nat) : Bool := (parts s k).any fun p => p.type == 2

/-- A stored record ends with the CRC-32 of all bytes before it (R160, R185, R266). -/
def recordCrcOk (l : List Byte) : Bool :=
  4 ≤ l.length && (crc32 (l.take (l.length - 4))).toNat == beNat (l.drop (l.length - 4))

/-- Check 5: the binding (R437, R438). -/
def bindingOk (s : State) (k : Nat) : Bool :=
  let mode := slotBe s k 12 1
  let m := slotRange s k 0 (manLen s k - 64)
  let zeroed := m.take 24 ++ zeroBytes 8 ++ m.drop 32
  if mode = 0 then slotBe s k 16 16 == 0 && !carriesCal s k
  else mode == 1 && slotBe s k 16 8 == unitId && s.bit Reg.KEYS.STATUS.PUF_OK 0 &&
    (aesCmac (keyMat s 1) zeroed).take 8 == slotRange s k 24 8

/-- Checks 1 to 7 of R438 on slot `k`: the ERR of the first that fails, 0 for none. -/
def manifestCheck (s : State) (k : Nat) : Nat :=
  let n := slotBe s k 14 2
  let ml := manLen s k
  let ps := parts s k
  let il := slotBe s k 48 4
  let key := slotBe s k 13 1
  if !(slotBe s k 0 4 == 0x454D4E46 && slotBe s k 4 2 == 1 && 1 ≤ n && n ≤ 16 && ml == 128 + 64 * n && slotBe s k 52 12 == 0 &&
      ps.all PartEntry.zeros) then 4
  else if !(slotBe s k 8 2 == 0x96 && slotBe s k 10 1 ≤ s.fld Reg.SYS.IDENT.REV 0 && s.fld Reg.SYS.IDENT.REV 0 ≤ slotBe s k 11 1) then 5
  else if !(4 ≤ key && key < 64 && keyClass s key == keyUpdate && keyUsable s key) then 6
  else if !ecdsaVerify (beNat ((keyMat s key).take 32)) (beNat ((keyMat s key).drop 32)) (slotRange s k 0 (ml - 64))
      (slotBe s k (ml - 64) 32) (slotBe s k (ml - 32) 32) then 7
  else if !bindingOk s k then 8
  else if slotBe s k 32 4 < s.update.sel.arb then 9
  else if !(il ≤ slotSize && (ps.all fun p => p.off % 4096 == 0 && p.off + p.len ≤ il && ml ≤ p.off &&
        ((p.type == 1 && p.level < 4) || (p.type == 2 && p.level == 0xFF))) &&
      ((upTo ps.length).all fun i => (upTo i).all fun j =>
        let a := ps.getD i (partAt s k 0)
        let b := ps.getD j (partAt s k 0)
        !rangesMeet a.off a.len b.off b.len && !(a.type == 1 && b.type == 1 && a.level == b.level)) &&
      ps.any fun p => p.type == 1) then 10
  else 0

/-- Do the digests of some parts of slot `k` agree? A force makes the next check fail (R455). -/
def digestsOk (s : State) (k : Nat) (ps : List PartEntry) : Bool :=
  !s.update.failDigest && ps.all fun p => sha256 (partBytes s k p) == p.digest

/-- All checks of R438 on slot `k`: the ERR of the first that fails, 0 for none. -/
def imageCheck (s : State) (k : Nat) : Nat :=
  let e := manifestCheck s k
  let ps := parts s k
  if e ≠ 0 then e
  else if !digestsOk s k ps then 11
  else if !(ps.all fun p => p.type != 1 || (let c := planCheck (partPlan s k p) p.level; c == 0)) then 12
  else if !(ps.all fun p => p.type != 2 || (recordCrcOk (partBytes s k p) && beAt (partBytes s k p) 0 4 == p.tag)) then 13
  else 0

/-! ### Calibration records (R184, R443) -/

/-- The records of half `h`: tag, offset, length. -/
def directory (s : State) (h : Nat) : List (Nat × Nat × Nat) :=
  let be := fun a n => rdBE s.update.halves (h * halfSize + a) n
  if be 0 4 = 0x43414C44 ∧ be 4 2 = 1 then (upTo (be 6 2)).map fun i => (be (8 + 16 * i) 4, be (12 + 16 * i) 4, be (16 + 16 * i) 4)
  else []

/-- The record of a tag in half `h`. -/
def calRecord (s : State) (h tag : Nat) : Option (List Byte) :=
  ((directory s h).find? fun r => r.1 == tag).map fun r => rdBytes s.update.halves (h * halfSize + r.2.1) r.2.2

/-- A half holding these records under a new directory, each behind the one before. [log entry 119 DEDUCED] -/
def buildHalf (recs : List (Nat × List Byte)) : List Byte :=
  let dir := recs.foldl (fun (a : List Byte × Nat) r =>
    (a.1 ++ beBytes r.1 4 ++ beBytes a.2 4 ++ beBytes r.2.length 4 ++ zeroBytes 4, a.2 + r.2.length)) ([], 8 + 16 * recs.length)
  beBytes 0x43414C44 4 ++ beBytes 1 2 ++ beBytes recs.length 2 ++ dir.1 ++ recs.flatMap Prod.snd

/-- The staging half is built from the image's records and those of the committed half it does not carry (R443). -/
def buildStagingHalf (s : State) (k : Nat) : State :=
  let new := ((parts s k).filter fun p => p.type == 2).map fun p => (p.tag, partBytes s k p)
  let old := (directory s s.update.sel.half).filterMap fun r =>
    if new.any fun x => x.1 == r.1 then none else (calRecord s s.update.sel.half r.1).map fun b => (r.1, b)
  let h := stagingHalf s
  s.up fun u => { u with halves := wrBytes (clearBytes u.halves (h * halfSize) halfSize) (h * halfSize) (buildHalf (new ++ old)) }

/-! ### Staging (R439 to R443) -/

/-- Show how many chunks stand in the FIFO. -/
def fifoShow (s : State) : State := s.setFld Reg.UPDATE.STATUS.FIFO 0 s.update.fifo.length

/-- BEGIN (R440). [log entry 143 DEDUCED] -/
def updBegin (s : State) : State :=
  if updState s = updArmed then updErr s 1
  else
    let s := if s.update.sel.prevOk then (selWrite s fun e => { e with prevOk := false }).1 else s
    updTo (fifoShow (s.up fun u => { u with fifo := [], verifying := false, hasCal := false })) updErasing
      |>.setFld Reg.UPDATE.RECEIVED.BYTES 0 0

/-- BEGIN (R440). -/
def execUpdateBegin (by_ : By) (s : State) : Result := .next (privOnly s by_ updBegin)

/-- ERASE_DONE (R440). -/
def execEraseDone (s : State) : Result :=
  if updState s = updErasing ∧ !s.storeHot then
    let k := stagingSlot s
    let h := stagingHalf s
    let s := s.up fun u => { u with
      slots := clearBytes u.slots (k * slotSize) slotSize, halves := clearBytes u.halves (h * halfSize) halfSize }
    .next (updTo s updReceiving)
  else .next s

/-- A push of the STGBUF chunk (R441). -/
def stgPush (s : State) : State :=
  let b := (upTo 256).flatMap fun w => beBytes (s.fld Reg.UPDATE.STGBUF.DATA w) 4
  let off := beAt b 0 4
  let len := beAt b 4 2
  if !(updState s == updErasing || updState s == updReceiving) then updErr s 1
  else if slotSize < off + len ∨ len < 1 ∨ 1016 < len then updErr s 2
  else if 4 ≤ s.update.fifo.length then updErr s 3
  else fifoShow (s.up fun u => { u with fifo := u.fifo ++ [(off, sliceBytes b 8 len)] })

/-- STAGING_PUSH (R441). -/
def execStagingPush (by_ : By) (s : State) : Result := .next (privOnly s by_ stgPush)

/-- Write a chunk to both dies; `fail` names the dies whose write fails (R442). -/
def chunkStore (s : State) (off : Nat) (d : List Byte) (fail : BitVec 2) : State :=
  if fail = 3 ∨ s.update.failStore then
    let forced := s.update.failStore
    raiseWith (updTo (updErr (s.up fun u => { u with failStore := false }) 14) updFailed) Flt.UPDATE.STORE noUnit 0 0 forced
  else
    let k := stagingSlot s
    let s := s.up fun u => { u with slots := wrBytes u.slots (k * slotSize + off) d }
    s.setFld Reg.UPDATE.RECEIVED.BYTES 0 (min (s.fld Reg.UPDATE.RECEIVED.BYTES 0 + d.length) (2 ^ 32 - 1))

/-- CHUNK_WRITE (R442). -/
def execChunkWrite (fail : BitVec 2) (s : State) : Result :=
  match s.update.fifo with
  | [] => .next s
  | c :: rest =>
    if s.storeHot || !(updState s == updReceiving || updState s == updVerifying) then .next s
    else .next (chunkStore (fifoShow (s.up fun u => { u with fifo := rest })) c.1 c.2 fail)

/-- VERIFY (R440). -/
def updVerify (s : State) : State :=
  let q := updState s
  if q = updIdle ∨ q = updReceiving ∨ q = updFailed then updTo (s.up fun u => { u with verifying := true }) updVerifying
  else updErr s 1

/-- VERIFY (R440). -/
def execUpdateVerify (by_ : By) (s : State) : Result := .next (privOnly s by_ updVerify)

/-- Load a plan into shadow plan memory under R59, with LOADERR (R443). [log entry 142 DEDUCED] -/
def shadowLoad (s : State) (p : Plan) : State × Bool :=
  let c := planCheck p (s.fld Reg.POWER.PERF.REQ 0)
  let s := s.setFlds [(Reg.TICK.LOADERR.TARGET, 0, 1), (Reg.TICK.LOADERR.CHECK, 0, c)]
  if c = 0 then ({ s with shadow := p }, true) else (raiseFault s Flt.TICK.PLANLOAD noUnit 1, false)

/-- VERIFY_DONE (R438, R443): the checks on the staging slot complete. -/
def execVerifyDone (s : State) : Result :=
  if updState s ≠ updVerifying ∨ !s.update.fifo.isEmpty then .next s
  else
    let k := stagingSlot s
    let e := imageCheck s k
    let forced := s.update.failDigest && e == 11
    let s := s.up fun u => { u with verifying := false, failDigest := if e = 11 || e = 0 then false else u.failDigest }
    if e ≠ 0 then .next (raiseWith (updTo (updErr s e) updFailed) Flt.UPDATE.VERIFY noUnit 0 (detail8 e) forced)
    else
      let cal := carriesCal s k
      let s := if cal then buildStagingHalf s k else s
      let s := updTo (s.up fun u => { u with hasCal := cal }) updVerified
      let s := s.setFlds [(Reg.UPDATE.STGSVN.VALUE, 0, slotBe s k 32 4), (Reg.UPDATE.STGVER.VALUE, 0, slotBe s k 36 4)]
      match planPart s k (s.fld Reg.POWER.PERF.CUR 0) with
      | none => .next s
      | some p =>
        if cal then .next s
        else
          let r := shadowLoad s (partPlan s k p)
          .next (if r.2 then updTo r.1 updLoaded else updTo (updErr r.1 12) updFailed)

/-! ### Activation (R444 to R448) -/

/-- Arm an activation for col `h`, by handover or by staged reset (R445). -/
def activationArm (s : State) (h : Nat) (viaReset : Bool) : State :=
  let w := selWrite s fun e => { e with pending := true, pendCol := h, pendSlot := true, pendHalf := s.update.hasCal }
  if w.2 then updTo (w.1.up fun u => { u with viaReset := viaReset }) updArmed
  else raiseWith w.1 Flt.UPDATE.ACT noUnit 1 0 true

/-- The pending activation is cancelled (R448). -/
def activationCancel (s : State) : State :=
  if s.update.sel.pending then
    updTo (selWrite s fun e => { e with pending := false, pendCol := 0, pendSlot := false, pendHalf := false }).1
      (if s.update.hasCal then updVerified else updLoaded)
  else s

/-- The switches of a pending activation are applied, and ARB is raised to the new image's SVN (R446, R447). -/
def selSwitch (s : State) (e : Selector) : Selector :=
  let k := if e.pendSlot then 1 - e.slot else e.slot
  { e with slot := k, half := if e.pendHalf then 1 - e.half else e.half, prevOk := true, pending := false, pendSlot := false,
           pendHalf := false, pendCol := 0, arb := max e.arb (slotBe s k 32 4) }

/-- ACTIVATION_CONFIRM (R447): at col H + 1 of a handover activation. -/
def execActivationConfirm (s : State) : Result :=
  let e := s.update.sel
  if e.pending && !s.update.viaReset && e.pendCol < s.colNum && s.planRuns && updState s == updArmed then
    let w := selWrite s (selSwitch s)
    .next (if w.2 then updTo w.1 updIdle else raiseWith w.1 Flt.UPDATE.ACT noUnit 1 0 true)
  else .next s

/-- The pending record at a start (R446). -/
def resolvePending (s : State) : State :=
  let e := s.update.sel
  if !e.pending then updShow s
  else if e.pendCol ≤ s.journal.lastCommit then (selWrite s (selSwitch s)).1
  else
    let s := (selWrite s fun e => { e with pending := false, pendCol := 0, pendSlot := false, pendHalf := false }).1
    raiseFault (s.setBit Reg.UPDATE.STATUS.LOST 0 true) Flt.UPDATE.LOST noUnit 0

/-- Checks 1 to 7 and the digest of the plan part of a level on slot `k` (R449). [log entry 141 DEDUCED] -/
def startCheck (s : State) (k level : Nat) : Bool :=
  manifestCheck s k == 0 &&
    match planPart s k level with
    | some p => digestsOk s k [p]
    | none => true

/-- The slot a start takes, with the fallback to the previous image; false when none passes (R449, R450). -/
def startSelect (s : State) (level : Nat) : State × Bool :=
  let first := startCheck s s.update.sel.slot level
  let s := s.up fun u => { u with failDigest := false }
  if first then (s, true)
  else if s.update.sel.prevOk && startCheck s (stagingSlot s) level then
    let s := (selWrite s fun e => { e with slot := 1 - e.slot, prevOk := false }).1
    (raiseFault (s.setBit Reg.UPDATE.STATUS.FALLBACK 0 true) Flt.UPDATE.FALLBACK noUnit 1, true)
  else (s, false)

/-! ### Forces (R455) -/

/-- UPDATE_FORCE_SELECTOR: the next selector write fails in both copies. -/
def execUpdateForceSelector (by_ : By) (s : State) : Result := .next (gated s by_ fun s => s.up fun u => { u with failSel := true })

/-- UPDATE_FORCE_DIGEST: the next part digest check fails. -/
def execUpdateForceDigest (by_ : By) (s : State) : Result := .next (gated s by_ fun s => s.up fun u => { u with failDigest := true })

/-- UPDATE_FORCE_STORE: the next chunk write fails on both dies. -/
def execUpdateForceStore (by_ : By) (s : State) : Result := .next (gated s by_ fun s => s.up fun u => { u with failStore := true })

end Sys2Proof.Machine
end

