-- ==== Sys2Proof/Machine/Reset.lean ====
section
/-!
DEFINITION. Controller reset, supplies and power domains, link loss of a power die, the store's temperature stop and the
test access port (R10, R19, R20, R37, R39, R172, R466, R477 to R488).
-/
namespace Sys2Proof.Machine

/-! ### What a reset of D-LOGIC leaves (R10, R37) -/

/-- A register of a power die's or keeper's status, which runs on through a reset of D-LOGIC: what an output block shows
without being written (R37, R40, R466). [log entry 151 DEDUCED] -/
def statusRow (r : RegRow) : Bool :=
  ((0x100000 ≤ r.base && r.base < 0x120000) || (0x130000 ≤ r.base && r.base < 0x180000)) &&
    r.rw == 0 && r.rwp == 0 && r.wo == 0 && r.w1s == 0

/-- The bits of the register at an offset that stand through a reset of D-LOGIC. -/
def keepMask (o : Nat) : Nat :=
  match regRow o with
  | none => 0
  | some r => if statusRow r then 2 ^ 32 - 1 else r.keep

/-- A word after a reset that keeps the bits of a mask. -/
def keptWord (o mask : Nat) (w : Word32) : Word32 :=
  (w &&& BitVec.ofNat 32 mask) ||| (regReset o &&& ~~~(BitVec.ofNat 32 mask))

/-- Reset every register to its reset value but for the bits that a mask keeps. [log entry 150 DEDUCED] -/
def resetRegs (mask : Nat → Nat) (m : List (Nat × Word32)) : List (Nat × Word32) :=
  m.foldl (fun r p => smapSet regReset r p.1 (keptWord p.1 (mask p.1) p.2)) []

/-- D-LOGIC is reset: lanes, sequencer, queues of the networks and of the journal, operations of the key store and of staging,
timers, and every register field that D-LOGIC holds. Links of the Ethernet ports stand (R37, R297, R332, R439, R466). -/
def logicReset (s : State) : State :=
  let links := [(0 : Nat), 1].map fun e => s.bit Reg.NET.ETSTAT.LINK e
  let s := { s with
    regs := resetRegs keepMask s.regs, frz := [], edge := [], seq := Seq.init, lanes := [], laneEv := [], plan := s.plan,
    shadow := Plan.empty, flags := [], raiseQ := [], zoneExit := 0, scanAt := none, collectorUp := false,
    net := { Net.init with clients := s.net.clients, zone := s.net.zone, values := s.net.values, lin := s.net.lin },
    keys := { s.keys with op := none, crq := none },
    update := { s.update with fifo := [], verifying := false, hasCal := false, viaReset := false, failSel := false,
                              failDigest := false, failStore := false, sbs := none, sbsAfter := 0 },
    timers := { s.timers with latches := [], holding := [], cmp := [], udc := [], cap := [], conv := [], aiUntil := [] },
    ledger := { s.ledger with waiting := [], answers := [], updated := false, trip := false } }
  [0, 1].foldl (fun s e => linkBits s e (links.getD e false)) s

/-- No output is parked or held off for good: hold-over has something to hold. -/
def holdsOutputs (s : State) : Bool := !s.parked && !s.hwSafe

/-- Hold-over begins for the outputs of the dies that satisfy a test, at a count (R39, R172, R255, R282). Channels already in
hold-over, or expired, stay as they are. -/
def holdDies (s : State) (die : Nat → Bool) (at' : Nat) : State :=
  if !holdsOutputs s then s
  else
    let s := s.each (fun s n => if (s.lswCh n).holdFrom.isSome || (s.lswCh n).expired then s else lswHold s n at')
      ((upTo 96).filter fun n => die (lswDie n))
    let s := s.each (fun s n => if (s.sink n).holdFrom.isSome || (s.sink n).expired then s else sinkHold s n at')
      ((upTo 32).filter fun n => die (sinkDie n))
    let s := if die 2 && s.matrix.holdFrom.isNone && !s.matrix.expired then matrixHold s at' else s
    let s := s.each hbResetBrake ((upTo 16).filter fun n => die (hbDie n))
    s.each vdResetBegin ((upTo 24).filter fun n => die (vdDie n))

/-- A controller reset begins (R37): hold-over starts, bridges brake, an access round ends, and D-LOGIC is reset.
[log entry 129 DEDUCED] -/
def controllerReset (s : State) : State :=
  if !s.dom.logic then s
  else
    let s := { holdDies s (fun _ => true) s.now with collectorUp := false }
    let s := settleRaises (roundStop (settleRaises s))
    { logicReset s with boot := 2 }

/-- CONTROLLER_RESET (R37). -/
def execControllerReset (s : State) : Result := .next (controllerReset s)

/-- RSTN_LOW (R478): low for 10 µs begins a controller reset; while the pin is low D-LOGIC is held in reset. -/
def execRstnLow (low : Bool) (s : State) : Result :=
  if low then .next { controllerReset s with rstnLow := true } else .next { s with rstnLow := false }

/-! ### Supplies (R482 to R488) -/

/-- Thresholds of R482 and R480 in mV. -/
def supAlwOn : Nat := 4700
def supLogicOn : Nat := 5000
def supOff : Nat := 4400
def supPwrOn : Nat := 6000

/-- Show the supplies (R393). -/
def showSupplies (s : State) (a b : Nat) : State :=
  { s with supA := a, supB := b }.setFlds [(Reg.POWER.SUPMEAS.SUPA, 0, min a 0xFFFF), (Reg.POWER.SUPMEAS.SUPB, 0, min b 0xFFFF)]

/-- The supply input of a power die (R17). [log entry 153 DEDUCED] -/
def dieSupply (s : State) (d : Nat) : Nat := if d < 2 then s.supA else s.supB

/-- Field bits that survive a power cycle: the vehicle id, the lockout and the token list, the slot table, the counts of the
key store, and PCREPLAY (R363, R411, R415, R429, R430). -/
def nonvolatileMask (o : Nat) : Nat :=
  if o = Reg.ACCESS.VEHID.REG.base then 0xFFFFFF
  else if o = Reg.ACCESS.STATUS.REG.base then 0x700
  else if o = Reg.ACCESS.LOCKEND_LO.REG.base ∨ o = Reg.ACCESS.LOCKEND_HI.REG.base then 0xFFFFFFFF
  else if Reg.ACCESS.TOK_ID.REG.base ≤ o ∧ o < Reg.ACCESS.TOK_ID.REG.base + 0x80 then 0xFFFFFFFF
  else if Reg.KEYS.SLOT.REG.base ≤ o ∧ o < Reg.KEYS.SLOT.REG.base + 0x100 then 0xFFFFFFFF
  else if o = Reg.KEYS.STATUS.REG.base then 0xFFFF0020
  else if o = Reg.JOURNAL.CFG.REG.base then 1
  else 0

/-- Every domain goes off together (R488): what MRAM, the store, the key store and the terminal latch hold stands. -/
def powerLoss (s : State) : State :=
  { s with
    regs := resetRegs nonvolatileMask s.regs, frz := [], edge := [], eff := [], seq := Seq.init, plan := Plan.empty,
    shadow := Plan.empty, lanes := [], laneEv := [], imem := [], dmem := [], shared := [], dmemErr := [], lsw := [],
    groupAt := [], scanAt := none, hbr := [], vd := [], vbank := [], ucode := [], sinks := [], stages := [],
    matrix := Matrix.init, model := Model.default, ledger := Ledger.init, ledgerCh := [], lswCal := [], sinkCal := [],
    calCopy := [], dieRef := [], flags := [], log := [], dumpNext := none, deferred := [], deferLost := [],
    collectorUp := false, raiseQ := [], zoneExit := 0,
    dom := { keep := false, logic := false, net := false, pwr := 0, wait := 0, uv := 0 },
    vlaneBad := false, timers := { Timers.init with timeWord := s.timers.timeWord }, power := Power.init,
    net := { Net.init with clients := s.net.clients, zone := s.net.zone, values := s.net.values },
    access := { Access.init with fails := s.access.fails, lastFail := s.access.lastFail },
    keys := { s.keys with op := none, crq := none, failNext := [] },
    update := { Update.init with slots := s.update.slots, halves := s.update.halves, sel := s.update.sel },
    parked := false, boot := 0, hwSafe := false }

/-- The outputs of a power die follow a change of its domain. -/
def dieApply (s : State) : State := settleRaises (applyAll s)

/-- SUPPLY_RISE (R482, R483): D-ALW and D-KEEP come on at 4.70 V, D-LOGIC and D-NET at 5.00 V, and the start is due. -/
def execSupplyRise (supA supB : Nat) (s : State) : Result :=
  let s := { s with supA := max s.supA supA, supB := max s.supB supB }
  let top := max s.supA s.supB
  let s := if supAlwOn ≤ top then { s with dom := { s.dom with keep := true } } else s
  let s := if s.dom.keep then showSupplies s s.supA s.supB else s
  .next (if supLogicOn ≤ top ∧ s.dom.keep ∧ !s.dom.logic ∧ !inValley s then
      { s with dom := { s.dom with logic := true, net := true }, boot := 1 }
    else s)

/-- SUPPLY_FALL (R482, R488): below 4.40 V on its input a power domain goes off; below 4.40 V on both, every domain. -/
def execSupplyFall (supA supB : Nat) (s : State) : Result :=
  let s := { s with supA := min s.supA supA, supB := min s.supB supB }
  if max s.supA s.supB < supOff then .next (powerLoss s)
  else
    let s := showSupplies s s.supA s.supB
    let on := fun d => s.dom.pwr.getLsbD d && decide (supOff ≤ dieSupply s d)
    let pwr := (upTo 4).foldl (fun m d => if on d then m + 2 ^ d else m) 0
    .next (if pwr = s.dom.pwr.toNat then s else dieApply { s with dom := { s.dom with pwr := BitVec.ofNat 4 pwr } })

/-- The analog inputs of a die at their reset values (R309). -/
def analogReset (s : State) (d : Nat) : State :=
  s.each (fun s n => [Reg.INPUT.AICFG.REG, Reg.INPUT.AIVAL.REG, Reg.INPUT.AITEMP.REG, Reg.INPUT.AINTC.REG].foldl
    (fun s F => s.setWord (F.off n) (regReset (F.off n))) s) ((upTo 24).filter fun n => aiDie n == d)

/-- Marks that the die has measured no whole tick yet (R218, R250, R281). -/
def unmeasured (s : State) (d : Nat) : State :=
  let s := s.each (fun s n => s.setBit Reg.HBR.STAT.IVALID n false) ((upTo 16).filter fun n => hbDie n == d)
  s.each (fun s g => s.setBit Reg.LIGHT.STAGESTAT.IVALID g false) ((upTo 4).filter fun g => stageDie g == d)

/-- PWR_DOMAIN_ON (R250, R270, R309, R482): the input is above 6.0 V and D-LOGIC is powered; the outputs wait for a commit
strobe, the models resume or start cold at the die's reference temperature. -/
def execPwrDomainOn (die : Fin 4) (ref : Int) (s : State) : Result :=
  let d := die.val
  if s.dom.logic && !s.dom.pwr.getLsbD d && decide (supPwrOn < dieSupply s d) then
    let s := { s with
      dom := { s.dom with pwr := s.dom.pwr ||| BitVec.ofNat 4 (2 ^ d), wait := s.dom.wait ||| BitVec.ofNat 4 (2 ^ d) },
      dieRef := smapSet (fun _ => 0) s.dieRef d ref }
    let s := unmeasured (analogReset s d) d
    .next (dieApply (if d < 2 then coilDomainOn s d ref else ledDomainOn s d))
  else .next s

/-! ### Link loss of a die (R19), the store's stop (R20) -/

/-- DIE_LINK_LOSS (R19, R172): a die that has had no valid frame for 4 ticks holds its channels; hold-over runs from the
latest strobe it received. -/
def execDieLinkLoss (die : Fin 4) (s : State) : Result :=
  let d := die.val
  let missed := smapGet (fun _ => 0) s.seq.dieMiss d
  if missed < 4 || s.seq.linkHeld.contains d then .next s
  else
    let s := { s with seq := { s.seq with linkHeld := d :: s.seq.linkHeld } }
    .next (settleRaises (holdDies s (· == d) (s.colCount - missed * s.seq.period)))

/-- NAND_HOT (R20): junction temperatures of the NAND dies in °C. Above 120 °C on either, programming stops; below 115 °C on
both it resumes. [log entry 155 DESIGN CHOICE] -/
def execNandHot (t0 t1 : Int) (s : State) : Result :=
  if 120 < t0 ∨ 120 < t1 then
    if s.storeHot then .next s
    else
      let s := { s with storeHot := true }.setBit Reg.JOURNAL.STATUS.ARCH_DOWN 0 true
      .next (raiseFault s Flt.STORE.HOT (if 120 < t0 then 0 else 1) 0)
  else if t0 < 115 ∧ t1 < 115 then .next ({ s with storeHot := false }.setBit Reg.JOURNAL.STATUS.ARCH_DOWN 0 false)
  else .next s

/-! ### The test access port (R477) -/

/-- The state that follows a rising edge of TCK in the controller of IEEE 1149.1: 0 Test-Logic-Reset, 1 Run-Test/Idle, 2 to 8
Select-DR, Capture-DR, Shift-DR, Exit1-DR, Pause-DR, Exit2-DR, Update-DR, 9 to 15 the same of IR. -/
def tapNext (q : Nat) (tms : Bool) : Nat :=
  let t := [(1, 0), (1, 2), (3, 9), (4, 5), (4, 5), (6, 8), (6, 7), (4, 8), (1, 2), (10, 0), (11, 12), (11, 12), (13, 15), (13, 14),
    (11, 15), (1, 2)].getD q (0, 0)
  if tms then t.2 else t.1

/-- TEST_ACCESS_PORT (R477): with TRSTN low the port stays in reset. [log entry 156 PRESUMED] -/
def execTestAccessPort (tms trstnLow : Bool) (s : State) : Result :=
  .next { s with tap := if trstnLow then 0 else tapNext s.tap tms }

end Sys2Proof.Machine
end

