-- ==== Sys2Proof/Machine/Start.lean ====
section
/-!
DEFINITION. Starts and the plan loader (R31, R41, R59 to R62, R160, R184 to R186, R266 to R268, R289, R291, R316, R363, R386, R387,
R446, R449 to R452, R465, R469).
-/
namespace Sys2Proof.Machine

/-! ### Time (R289, R291) -/

/-- The time base at a start, by the kind of start. -/
def timeStart (s : State) (x : StartIn) : State :=
  match s.boot with
  | 1 =>
    let c := match s.timers.timeWord with
      | none => 0
      | some w => (w + 1) * 2 ^ 32
    { s.tm fun t => { t with timeWord := some (c / 2 ^ 32) } with now := c, slowRef := c, slowBase := 0 }
  | 4 =>
    let c := s.power.entryAt + (x.slow - s.power.entrySlow) * s.fld Reg.TIME.SLOWRATIO.VALUE 0 / 65536 + 1
    { s with now := c, slowRef := c, slowBase := x.slow }
  | _ => s

/-! ### Calibration and harness model (R160, R184 to R186, R266 to R268) -/

/-- The record of a tag in the committed half, if it has the length given and its CRC passes. -/
def goodRecord (s : State) (tag len : Nat) : Option (List Byte) :=
  (calRecord s s.update.sel.half tag).filter fun b => (len == 0 || b.length == len) && recordCrcOk b

/-- A signed 16-bit number at a place of a record. -/
def recInt16 (b : List Byte) (a : Nat) : Int := signed 16 (beAt b a 2)

/-- Load the load switch record (R160). [log entry 61 DEDUCED] -/
def lswCalLoad (s : State) : State :=
  match goodRecord s 0x4C535743 780 with
  | none => raiseFault { s with lswCal := [] } Flt.LSW.CALCRC noUnit 0
  | some b =>
    { s with lswCal := (upTo 96).foldl (fun m n =>
        let a := 8 + 8 * n
        smapSet (fun _ => LswCal.nominal) m n
          { mirGain := beAt b a 2, mirOfs := recInt16 b (a + 2), fbGain := beAt b (a + 4) 2, fbOfs := recInt16 b (a + 6) }) [] }

/-- The lighting record with nominal values (R268). -/
def litNominal : List Byte :=
  let b := beBytes 0x4C495443 4 ++ beBytes 1 2 ++ beBytes 32 2 ++ (upTo 32).flatMap fun _ => beBytes 0x8000 2 ++ zeroBytes 14
  b ++ beBytes (crc32 b).toNat 4

/-- Load the lighting record, and write the calibration copy (R266 to R268). -/
def litLoad (s : State) : State :=
  let r := goodRecord s 0x4C495443 524
  let b := r.getD litNominal
  let s := { s with
    calCopy := wrBytes (wrByte [] 0 (if r.isSome then 1 else 2)) 8 b,
    sinkCal := (upTo 32).foldl (fun m n =>
      let a := 8 + 16 * n
      smapSet (fun _ => SinkCal.nominal) m n { gain := beAt b a 2, tc := recInt16 b (a + 2), vfNom := beAt b (a + 12) 2 }) [] }
  if r.isSome then s else raiseFault s Flt.LIGHT.CALCRC noUnit 0

/-- Segment entry `i` of a model record. -/
def segEntry (b : List Byte) (i : Nat) : Segment :=
  let a := 16 + 48 * i
  { g20 := beAt b a 4, tau := beAt b (a + 4) 4, tmax := recInt16 b (a + 8), ambz := beAt b (a + 10) 1 % 4,
    alu := beAt b (a + 11) 1 % 2 == 1,
    contrib := ((upTo 8).map fun k => (beAt b (a + 16 + 4 * k) 2, beAt b (a + 18 + 4 * k) 2)).filter fun p => p.1 != 0xFFFF }

/-- Channel entry `c` of a model record with `n` segments. -/
def chanEntry (b : List Byte) (n c : Nat) : ChEntry :=
  let a := 16 + 48 * n + 16 * c
  { steady := beAt b a 2, inrush := beAt b (a + 2) 2, tInrush := beAt b (a + 4) 2, iMin := beAt b (a + 6) 2,
    induct := beAt b (a + 8) 2, efw := beAt b (a + 10) 2, prio := beAt b (a + 12) 1 }

/-- The model in a record, if it loads (R185, R186). -/
def modelOf (b : List Byte) : Option Model :=
  let n := beAt b 6 2
  let m : Model := { id := beAt b 8 4, segs := (upTo n).map (segEntry b), chans := (upTo 120).map (chanEntry b n) }
  let ok := recordCrcOk b && beAt b 0 4 == 0x48524E53 && beAt b 4 2 == 1 && 1 ≤ n && n ≤ 160 && beAt b 12 2 == 120 &&
    b.length == 16 + 48 * n + 16 * 120 + 4 &&
    (m.segs.zipIdx.all fun p => 100 ≤ p.1.tau && p.1.tau ≤ 3600000 &&
      p.1.contrib.all fun c => c.2 != 0 && (c.1 < 0x200 || c.1 - 0x200 < p.2)) &&
    m.chans.all fun e => e.steady ≤ e.inrush && e.iMin ≤ e.steady
  if ok then some m else none

/-- Load the harness model, or run the default model (R186). -/
def modelLoad (s : State) : State :=
  match (calRecord s s.update.sel.half 0x48524E53).bind modelOf with
  | some m =>
    { s with model := m }.setFlds [(Reg.LEDGER.STATUS.MODEL_OK, 0, 1), (Reg.LEDGER.STATUS.DEFAULT, 0, 0),
      (Reg.LEDGER.STATUS.SEGS, 0, m.segs.length), (Reg.LEDGER.MODEL_ID.VALUE, 0, m.id)]
  | none =>
    let s := { s with model := Model.default }.setFlds [(Reg.LEDGER.STATUS.MODEL_OK, 0, 0), (Reg.LEDGER.STATUS.DEFAULT, 0, 1),
      (Reg.LEDGER.STATUS.SEGS, 0, 0), (Reg.LEDGER.MODEL_ID.VALUE, 0, 0)]
    raiseFault s Flt.LEDGER.MODEL noUnit 1

/-! ### Persistent values (R316, R318) -/

/-- Applied writes to an entry that the journal holds, oldest first. -/
def appliedWrites (s : State) (index sub : Nat) : List JEntry :=
  (jRecords s).filterMap fun r => r.entry?.filter fun e =>
    e.op == 2 && e.index == index && e.sub == sub &&
      match settledBy s e.seq with
      | some o => o.outcome == 1 || o.outcome == 2
      | none => false

/-- The value of a PERSISTENT entry at a start: the stored one, or that of a newer applied write. -/
def persistValue (s : State) (index sub : Nat) : Option (List Byte) :=
  let st := smapGet (fun _ => (0, [])) s.net.values (index * 256 + sub)
  let new := (appliedWrites s index sub).filter fun e => st.1 < e.seq
  match new.getLast? with
  | some e => some e.value
  | none => if st.1 = 0 then none else some st.2

/-- The persistent number of an entry, or a default. -/
def persistNat (s : State) (index sub dflt : Nat) : Nat := ((persistValue s index sub).map beNat).getD dflt

/-- Zone number and client table at a start. -/
def deviceLoad (s : State) : State :=
  let row := fun (c : Nat) =>
    let d := ClientRow.init c
    let i := 0x1010 + (c - 1)
    ({ slot := persistNat s i 0 d.slot, role := persistNat s i 1 d.role, ports := persistNat s i 2 d.ports } : ClientRow)
  { s with net := { s.net with
    zone := persistNat s 0x1000 3 0 % 4,
    clients := (upTo 32).foldl (fun m k => smapSet ClientRow.init m (k + 1) (row (k + 1))) [] } }

/-- Persistent values of declared entries, into shared memory (R316, R320). -/
def declaredLoad (s : State) : State :=
  let o := (s.plan.sec 8 0xFF 0xFF).1
  (upTo (s.plan.be o 4)).foldl (fun s i =>
    let e := o + 16 + 16 * i
    let d := s.plan.declAt e
    if d.persist ≠ 2 then s
    else
      (upTo (s.plan.be (e + 3) 1 + 1 - d.subLo)).foldl (fun s k =>
        match persistValue s (s.plan.be e 2) (d.subLo + k) with
        | some v => { s with shared := wrBytes s.shared (d.at' (d.subLo + k)) (v.take d.len) }
        | none => s) s) s

/-! ### Loading a plan (R60 to R62) -/

/-- Size of a lane's local memories. -/
def laneSize : Nat := 0x40000

/-- A code section placed at an address: instruction words stand in lane memory least significant byte first (R8, R60).
[log entry 146 DEDUCED] -/
def putCode (m : List (Nat × Byte)) (p : Plan) (v l at' : Nat) : List (Nat × Byte) :=
  let (o, n) := p.sec 1 v l
  putBytes m ((moveBytes p.img o n 0).map fun q => (at' + (q.1 ^^^ 3), q.2))

/-- The instruction memory of physical lane `n` (R60). -/
def placeCode (m : List (Nat × Byte)) (p : Plan) (n : Nat) : List (Nat × Byte) :=
  let b := n * laneSize
  let m := putCode (clearBytes m b laneSize) p 0 n b
  let m := if n = 0 then m else putCode m p 1 (n - 1) (b + 0x20000)
  if n = 3 then m else putCode m p 1 n (b + 0x30000)

/-- The data memory of physical lane `n`, running logical lane `l` of a variant. [log entry 132 DEDUCED] -/
def placeData (m : List (Nat × Byte)) (p : Plan) (v l n : Nat) : List (Nat × Byte) :=
  let (o, k) := p.sec 2 v l
  copyBytes p.img o k (clearBytes m (n * laneSize) laneSize) (n * laneSize)

/-- Code and data of every lane. -/
def placeLanes (s : State) : State :=
  { s with
    imem := (upTo 4).foldl (fun m n => placeCode m s.plan n) s.imem,
    dmem := (upTo 4).foldl (fun m n => placeData m s.plan 0 n n) s.dmem, dmemErr := [] }

/-- Physical lanes in service, ascending. -/
def lanesIn (s : State) : List Nat := (upTo 4).filter fun n => (s.lane n).inService

/-- The narrows variant: surviving lanes in ascending order run logical lanes 0 to 2, with their data (R56, R61).
[log entry 147 DEDUCED] -/
def narrowsLanes (s : State) : State :=
  (lanesIn s).zipIdx.foldl (fun s p =>
    { s.setLane p.1 { s.lane p.1 with logical := p.2 } with dmem := placeData s.dmem s.plan 1 p.2 p.1 }) s

/-- Shared memory as the plan's initial values (R55). -/
def sharedFill (s : State) : State :=
  let (o, n) := s.plan.sec 7 0xFF 0xFF
  { s with shared := copyBytes s.plan.img o n [] 0 }

/-- What the registers show of the plan in force (R77). -/
def planShow (s : State) : State :=
  s.setFlds [(Reg.TICK.PERIOD.T, 0, s.plan.ticks), (Reg.TICK.PLAN_ID_HI.VALUE, 0, s.plan.be 0x10 4),
    (Reg.TICK.PLAN_ID_LO.VALUE, 0, s.plan.be 0x14 4), (Reg.TICK.PLAN_VER.VALUE, 0, s.plan.be 0x18 4),
    (Reg.POWER.PERF.CUR, 0, s.plan.level)]

/-- The first col after a load that ends in ARMED: number, count, aligned (R62). -/
def firstCol (s : State) : Nat × Nat × Bool :=
  let t := s.plan.ticks
  let p := s.fld Reg.TICK.PHASE.P 0 % t
  let n := (s.now + 1000 - p + t - 1) / t
  if n ≤ s.journal.lastCommit then (s.journal.lastCommit + 1, s.now + 1000, false) else (n, n * t + p, true)

/-- ARMED (R51, R62). [log entry 118 DEDUCED] -/
def armFirst (s : State) : State :=
  let s := (planShow s).enter seqArmed
  { s with seq := { s.seq with
    period := s.plan.ticks, k := levelK s.plan.level, firstCol := some (firstCol s), loading := false, narrows := false } }

/-- The loader begins a load of the committed image at a level (R51, R59). -/
def loadBegin (s : State) (level : Nat) : State :=
  { s with seq := { s.seq with loading := true, loadLevel := level } }.enter seqLoading

/-- LOAD (R51, R77): acts in NOPLAN only. -/
def loadRequest (s : State) : State :=
  if s.seqState = seqNoPlan ∧ !s.bit Reg.UPDATE.STATUS.RECOVERY 0 ∧ s.boot = 0 then loadBegin s (s.fld Reg.POWER.PERF.REQ 0) else s

/-- The check that fails for the committed image at a level: the plan part's checks, or check 2 where the image has no part of
that level; 0 when it loads. -/
def loadCheck (s : State) (level : Nat) : Nat × Option Plan :=
  match planPart s s.update.sel.slot level with
  | none => (2, none)
  | some e =>
    let p := partPlan s s.update.sel.slot e
    (planCheck p level, some p)

/-- A load fails: nothing is touched, and FLT_TICK_PLANLOAD is raised (R51, R59). -/
def loadFailed (s : State) (check : Nat) : State :=
  let s := { s with seq := { s.seq with loading := false } }.enter seqNoPlan
  raiseFault (s.setFlds [(Reg.TICK.LOADERR.TARGET, 0, 0), (Reg.TICK.LOADERR.CHECK, 0, check)]) Flt.TICK.PLANLOAD noUnit 1

/-- PLAN_LOAD_DONE (R59 to R62): the loader's checks end, and an accepted image is copied. -/
def execPlanLoadDone (s : State) : Result :=
  if !s.seq.loading || s.seqState ≠ seqLoading then .next s
  else
    match loadCheck s s.seq.loadLevel with
    | (0, some p) =>
      let s := s.setFlds [(Reg.TICK.LOADERR.TARGET, 0, 0), (Reg.TICK.LOADERR.CHECK, 0, 0)]
      .next (armFirst (declaredLoad (sharedFill (placeLanes { s with plan := p }))))
    | (c, _) => .next (loadFailed s c)

/-! ### The start itself -/

/-- Keeper state of staged outputs is gone after a valley (R387). -/
def keepersGone (s : State) : State :=
  { s with eff := s.eff.filter fun p => match regRow p.1 with
      | some r => !(r.latched && r.keep == 0)
      | none => true }

/-- The lanes that stay out of service through a valley. -/
def lostLanes (s : State) : List Nat := (upTo 4).filter fun n => !(s.lane n).inService

/-- D-LOGIC comes up: after a valley its registers are reset, lost lanes stay out, and outputs are off (R387). -/
def logicUp (s : State) : State :=
  if s.boot < 3 then s
  else
    let lost := lostLanes s
    let s := keepersGone { logicReset s with parked := false }
    s.each (fun s n => s.setLane n { s.lane n with inService := false }) lost

/-- The collector comes up: it takes the queued raises in the order of their counts, and reports those lost (R465). -/
def collectorStart (s : State) : State :=
  let q := (s.deferred.map (·.2)).mergeSort fun a b => a.count ≤ b.count
  let lost := s.deferLost
  let s := q.foldl takeDeferred { s with collectorUp := true, deferred := [], deferLost := [] }
  lost.foldl (fun s p => raiseWith s Flt.FAULT.DEFERLOST p.1 0 (detail16 p.2) false) s

/-- Lanes in service, as TICK.STATUS shows them. -/
def showLanes (s : State) : State := s.setFld Reg.TICK.STATUS.LANE_OK 0 (bitsOf (lanesIn s))

/-- ROM recovery (R450 to R452). [log entry 131 DEDUCED] -/
def recoveryStart (s : State) : State := (s.setBit Reg.UPDATE.STATUS.RECOVERY 0 true).enter seqNoPlan

/-- The plan of a start: retained in V2, loaded after V3, selected and loaded otherwise (R386, R449, R450). -/
def planStart (s : State) (boot : Nat) : State :=
  if s.update.recoverReq then recoveryStart s
  else if boot = 3 then (if s.plan.valid then armFirst (placeLanes s) else s)
  else
    let s := { s with plan := Plan.empty }
    if boot = 4 then
      let level := s.fld Reg.POWER.PERF.WAKE 0
      match planPart s s.update.sel.slot level with
      | some p => if digestsOk s s.update.sel.slot [p] then loadBegin s level else loadFailed s 3
      | none => loadBegin s level
    else
      let level := s.fld Reg.POWER.PERF.REQ 0
      let r := startSelect s level
      if r.2 then loadBegin r.1 level else recoveryStart (raiseFault r.1 Flt.UPDATE.RECOVERY noUnit 1)

/-- START: a start that is due takes place, up to the sequencer's state before the first col. -/
def execStart (x : StartIn) (s : State) : Result :=
  if s.boot = 0 ∨ s.rstnLow ∨ !s.dom.logic then .next s
  else
    let boot := s.boot
    let s := showLanes (logicUp (timeStart s x))
    let s := collectorStart { s with boot := 0 }
    let s := s.setBit Reg.LOG.STATUS.DUMP_VALID 0 (!s.dump.isEmpty)
    let s := deviceLoad (journalStart (keysStart s x.keys) (boot == 1) x.bad)
    if s.terminalLatch then .next (raiseFault s Flt.FAULT.TERMINAL noUnit 3)
    else
      let s := litLoad (lswCalLoad (resolvePending s))
      let s := if boot < 3 then modelLoad s else s
      .next (planStart s boot)

end Sys2Proof.Machine
end

