-- ==== Sys2Proof/Machine/Handover.lean ====
section
/-!
DEFINITION. Handovers (R67 to R70, R371, R443 to R448), the commands of the update engine that cancel or reset, and the SBS port
(R451 to R453).
-/
namespace Sys2Proof.Machine

/-! ### Arming and aborting (R67, R70) -/

/-- The target col H of the handover. -/
def hoCol (s : State) : Nat := s.pair Reg.TICK.HO_COL_LO.NUMBER Reg.TICK.HO_COL_HI.NUMBER 0

/-- A handover is armed. -/
def hoArmed (s : State) : Bool := s.bit Reg.TICK.STATUS.HO_ARMED 0

/-- Is an arm for col `h` refused (R67)? Outside a plan no col is in force to be two cols ahead of. -/
def hoRefused (s : State) (h : Nat) : Bool :=
  !s.planRuns || h < s.colNum + 2 || !s.shadow.valid ||
    (s.shadow.be 0x24 4 != s.plan.be 0x24 4 && (s.shadow.sec 6 0xFF 0xFF).2 == 0) ||
    (s.shadow.ticks != s.plan.ticks && s.bit Reg.TICK.CTRL.ALIGN 0)

/-- The lane supply moves for 15 µs from a count (R371). [log entry 133 DEDUCED] -/
def supplyMove (s : State) (at' : Nat) : State := s.pw fun p => { p with supFrom := at', supTo := at' + 1500 }

/-- Does a handover change to a higher performance level? -/
def levelRises (s : State) : Bool := s.shadow.level < s.plan.level

/-- An armed handover is cancelled: the supply returns, a pending activation is cancelled, and FLT_TICK_HANDOVER is raised
(R70, R371, R448). -/
def hoCancel (s : State) : State :=
  let s := if levelRises s then supplyMove s s.now else s
  let s := s.setFlds [(Reg.TICK.STATUS.HO_ARMED, 0, 0), (Reg.TICK.CTRL.HO_ARM, 0, 0)]
  let s := if s.update.viaReset then s else activationCancel s
  raiseFault s Flt.TICK.HANDOVER noUnit 0

/-- HO_ABORT acts only before col H − 1 (R70). -/
def hoAbort (s : State) : State := if hoArmed s && decide (s.colNum + 1 < hoCol s) then hoCancel s else s

/-- An arm for col `h` (R67, R371, R375, R444, R445): true when it is taken. [log entry 158 DEDUCED] -/
def hoArm (s : State) (h : Nat) : State × Bool :=
  if hoRefused s h then
    ((s.setBit Reg.TICK.STATUS.HO_REFUSED 0 true).setBit Reg.TICK.CTRL.HO_ARM 0 (hoArmed s), false)
  else
    let s := s.setPair Reg.TICK.HO_COL_LO.NUMBER Reg.TICK.HO_COL_HI.NUMBER 0 h
    let s := s.setFlds [(Reg.TICK.STATUS.HO_ARMED, 0, 1), (Reg.TICK.CTRL.HO_ARM, 0, 1)]
    let s := if levelRises s then supplyMove s s.now else s
    let s := wakeEvent s 11 0xFF
    if updState s = updLoaded then
      let s := activationArm s h false
      (if s.update.sel.pending then s else hoAbort s, true)
    else (s, true)

/-- HO_ARM (R67): a write of 1 to TICK.CTRL.HO_ARM. -/
def execHoArm (by_ : By) (s : State) : Result :=
  .next (privOnly s by_ fun s => if hoArmed s then s else (hoArm s (hoCol s)).1)

/-- HO_ABORT (R70). -/
def execHoAbort (by_ : By) (s : State) : Result := .next (privOnly s by_ hoAbort)

/-- LOAD (R51, R77). -/
def execLoad (by_ : By) (s : State) : Result := .next (privOnly s by_ loadRequest)

/-! ### The handover tick (R68, R69) -/

/-- One entry of the carry-state map at an offset of the new image, from the outgoing shared memory (R58).
[log entry 106 DEDUCED] -/
def carryEntry (p : Plan) (old : List (Nat × Byte)) (m : List (Nat × Byte)) (e : Nat) : List (Nat × Byte) :=
  let src := p.be e 4
  let dst := p.be (e + 4) 4
  let len := p.be (e + 8) 4
  match p.be (e + 12) 1 with
  | 0 => copyBytes old src len m dst
  | 1 => fillBytes m dst (BitVec.ofNat 8 (p.be (e + 13) 1)) len
  | _ => m

/-- Shared memory under the new plan: its initial values, with the carry-state map executed; the snapshot area stands (R46, R58). -/
def carryState (s : State) (old : List (Nat × Byte)) : State :=
  let (o, n) := s.plan.sec 6 0xFF 0xFF
  let m := (upTo (n / 16)).foldl (fun m i => carryEntry s.plan old m (o + 16 * i)) (sharedFill s).shared
  { s with shared := copyBytes old 0x1E0000 0x20000 m 0x1E0000 }

/-- The plains contexts of all lanes are discarded (R130). -/
def dropPlains (s : State) : State :=
  s.each (fun s n => s.setFld Reg.SYS.LANE_PSAVE.REG n 0) (upTo 4)

/-- HANDOVER (R42, R68, R69, R371): col H has committed the old plan's set; the new plan comes into force, its code and data go to
every lane, and its carry-state map is executed. A handover command for the col is settled APPLIED (R359).
[log entry 105 DEDUCED] -/
def execHandover (s : State) : Result :=
  if !(hoArmed s && s.colNum == hoCol s && (s.seqState == seqRun || s.seqState == seqNarrows)) then .next s
  else
    let falls := s.plan.level < s.shadow.level
    let rebase := s.shadow.ticks != s.plan.ticks
    let s := s.setFlds [(Reg.TICK.STATUS.HO_ARMED, 0, 0), (Reg.TICK.CTRL.HO_ARM, 0, 0)]
    let s := if falls then supplyMove s (s.colCount + 100) else s
    let old := s.shared
    let s := planShow ({ s with plan := s.shadow, shadow := Plan.empty }.enter seqHandover)
    let s := if rebase then
        { s with seq := { s.seq with baseN := s.colNum, baseC := s.colCount } }.setBit Reg.TICK.STATUS.BASE_AL 0 false
      else s
    let s := { s with seq := { s.seq with period := s.plan.ticks, k := levelK s.plan.level } }
    let s := (namedFor s 3 s.colNum).foldl (fun s e => ownPost s e.seq 1 s.colNum []) s
    .next (dropPlains (carryState (placeLanes s) old))

/-! ### The update engine's ABORT and RECOVER (R440, R448, R451) -/

/-- ABORT. -/
def updAbort (s : State) : State :=
  let q := updState s
  if q = updIdle then updErr s 1
  else if q ≠ updArmed then updTo (fifoShow (s.up fun u => { u with fifo := [], verifying := false })) updIdle
  else if s.update.sel.pendCol ≤ s.colNum + 1 then updErr s 1
  else if s.update.viaReset || !hoArmed s then activationCancel s
  else hoCancel s

/-- ABORT (R440, R448). -/
def execUpdateAbort (by_ : By) (s : State) : Result := .next (privOnly s by_ updAbort)

/-- A controller reset into ROM recovery (R451). [log entry 145 DEDUCED] -/
def recoverReset (s : State) : State := controllerReset (s.up fun u => { u with recoverReq := true })

/-- RECOVER (R440, R451). -/
def execUpdateRecover (by_ : By) (s : State) : Result := .next (privOnly s by_ recoverReset)

/-! ### The SBS port (R453) -/

/-- In ROM recovery. -/
def inRecovery (s : State) : Bool := s.bit Reg.UPDATE.STATUS.RECOVERY 0

/-- The port takes request frames: enabled, D-LOGIC running, no start due, the last request processed. -/
def sbsOpen (s : State) : Bool :=
  s.bit Reg.POWER.SBSCFG.EN 0 && s.dom.logic && s.boot == 0 && decide (s.update.sbsReady ≤ s.now)

/-- An accepted request leaves its response, ready 5 ms later. [log entry 144 DEDUCED] -/
def sbsAnswer (s : State) (status : Nat) (data : List Byte) : State :=
  s.up fun u => { u with sbs := some (status, data), sbsReady := s.now + 500000, sbsAfter := 0 }

/-- The STATUS response. -/
def sbsStatus (s : State) : List Byte :=
  beBytes (if inRecovery s then 1 else 0) 1 ++ beBytes (updState s) 1 ++ beBytes (s.fld Reg.UPDATE.STATUS.ERR 0) 1 ++ [0] ++
    beBytes (s.fld Reg.UPDATE.RECEIVED.BYTES 0) 4 ++ unitIdBytes ++ beBytes (s.fld Reg.UPDATE.ARB.VALUE 0) 4 ++
    beBytes (s.fld Reg.UPDATE.SVN.VALUE 0) 4

/-- An operation that answers 0, or the ERR it sets. -/
def sbsOp (s : State) (act : State → State) : State :=
  let s := act (updErr s 0)
  sbsAnswer s (s.fld Reg.UPDATE.STATUS.ERR 0) []

/-- SBS_STATUS (R453). -/
def execSbsStatus (crcOk : Bool) (s : State) : Result :=
  .next (if sbsOpen s && crcOk then sbsAnswer s 0 (sbsStatus s) else s)

/-- SBS_BEGIN (R440, R453): in recovery. -/
def execSbsBegin (crcOk : Bool) (s : State) : Result :=
  .next (if sbsOpen s && crcOk && inRecovery s then sbsOp s updBegin else s)

/-- SBS_CHUNK (R442, R453): in STATE RECEIVING, written to both dies; `fail` names the dies whose write fails. -/
def execSbsChunk (crcOk : Bool) (off : Word32) (data : List Byte) (fail : BitVec 2) (s : State) : Result :=
  .next (
    if sbsOpen s && crcOk && updState s == updReceiving && decide (1 ≤ data.length) && decide (data.length ≤ 256) && !s.storeHot then
      if slotSize < off.toNat + data.length then sbsOp s fun s => updErr s 2
      else sbsOp s fun s => chunkStore s off.toNat data fail
    else s)

/-- SBS_VERIFY (R438, R453): in recovery. -/
def execSbsVerify (crcOk : Bool) (s : State) : Result :=
  .next (if sbsOpen s && crcOk && inRecovery s then sbsOp s updVerify else s)

/-- The activation of recovery (R452): the selector takes the slot, ARB rises, and the recovery request is cleared. -/
def recoveryActivate (s : State) : State :=
  let w := selWrite s fun e => selSwitch s { e with pendSlot := true, pendHalf := s.update.hasCal }
  if w.2 then w.1.up fun u => { u with recoverReq := false, hasCal := false } else w.1

/-- SBS_ACTIVATE (R452, R453): in recovery, STATE VERIFIED or LOADED; the reset follows the response. -/
def execSbsActivate (crcOk : Bool) (s : State) : Result :=
  .next (
    if sbsOpen s && crcOk && inRecovery s && (updState s == updVerified || updState s == updLoaded) then
      let s := sbsOp s recoveryActivate
      if s.update.recoverReq || s.fld Reg.UPDATE.STATUS.ERR 0 != 0 then s else s.up fun u => { u with sbsAfter := 2 }
    else s)

/-- SBS_RECOVER (R451, R453, R469): in running service with SBSREC = 1, for this unit, with the terminal latch clear. -/
def execSbsRecover (crcOk : Bool) (arg : Word32) (s : State) : Result :=
  .next (
    if sbsOpen s && crcOk && !inRecovery s && s.bit Reg.UPDATE.CTRL.SBSREC 0 && arg.toNat == unitId % 2 ^ 32 && !s.terminalLatch then
      (sbsAnswer s 0 []).up fun u => { u with sbsAfter := 1 }
    else s)

/-- SBS_READ (R453): a read transaction that opens at a count; before the response is ready the address is not acknowledged. A
reset that follows the response begins. -/
def execSbsRead (at_ : Nat) (s : State) : Result :=
  let s := s.reach at_
  match s.update.sbs with
  | none => .next s
  | some _ =>
    if !(s.bit Reg.POWER.SBSCFG.EN 0 && s.dom.logic && s.boot == 0 && decide (s.update.sbsReady ≤ s.now)) then .next s
    else
      match s.update.sbsAfter with
      | 1 => .next (recoverReset s)
      | 2 => .next (controllerReset s)
      | _ => .next s

end Sys2Proof.Machine
end

