-- ==== Sys2Proof/Machine/RegRead.lean ====
section
/-!
DEFINITION. What a register read shows: the stored word, or for registers that copy something else what they copy
(R142, R280, R289, R291, R347, R400, R421, R472, R473), in the privileged view and in the unprivileged alias (R15, R34),
through the latches of R292; and what a read does to a field that it clears (R12).
-/
namespace Sys2Proof.Machine

/-! ### Registers that show something else -/

/-- A word with one field replaced. -/
def withField (w : Word32) (F : Field) (v : Nat) : Word32 := putBits w F.lo F.len v

/-- A trouble log record as it is read (R471). -/
def LogRec.bytes (r : LogRec) : List Byte :=
  let b := fun (x : Bool) (v : Nat) => if x then v else 0
  beBytes r.recNo 4 ++ beBytes r.src 2 ++ beBytes r.unit 2 ++ beBytes r.count 8 ++ beBytes r.col 8 ++
    beBytes (r.cls + 16 * r.own) 1 ++ beBytes (b r.forced 1 + b r.escalated 2 + b r.deferred 4 + b r.held 8) 1 ++
    beBytes r.detail.toNat 6

/-- Word `w` of the record that RDSEL of a lane selects (R473). -/
def logWord (s : State) (n w : Nat) : Word32 :=
  let i := s.fld Reg.LOG.RDSEL.INDEX n
  let r := if s.bit Reg.LOG.RDSEL.DUMP n then (s.dump.take 256)[i]? else s.log[i]?
  match r with
  | some r => BitVec.ofNat 32 (beAt r.bytes (4 * w) 4)
  | none => 0

/-- SYS.LANE_STAT (R142). -/
def laneStat (s : State) (n : Nat) : Word32 :=
  let l := s.lane n
  let b := fun (x : Bool) (v : Nat) => if x then v else 0
  let resv := match l.resv with | some r => !r.broken | none => false
  BitVec.ofNat 32 (l.logical % 4 + b s.seq.narrows 4 + b l.inService 8 + b l.priv 16 + b (!l.running && decide (l.endedAt ≤ cycleAt s s.now)) 32 + b l.plain 64 +
    b l.waiting 128 + b resv 256)

/-- The line that the matrix frame drives now (R278, R280). -/
def mxLine (s : State) : Nat :=
  if s.bit Reg.LIGHT.MXSTAT.FRAME_BUSY 0 then (s.now - s.matrix.start) / (mxBlank s + mxOn s) % 16
  else s.fld Reg.LIGHT.MXSTAT.LINE 0

/-- The bits of a list of conditions, the first as bit 0. -/
def packBits (l : List Bool) : Nat := l.foldr (fun b n => (if b then 1 else 0) + 2 * n) 0

/-- The reset value of the hardware address registers, by unit (R347); 0 for other offsets. The register map holds these
registers as what differs from it. [log entry 112 DESIGN CHOICE] -/
def macDefault (o : Nat) : Word32 :=
  let hi := unitId / 2 ^ 32 % 256
  if o = 0x200108 ∨ o = 0x200148 ∨ o = 0x200188 then BitVec.ofNat 32 unitId
  else if o = 0x20010C then BitVec.ofNat 32 (0x0600 + hi)
  else if o = 0x20014C then BitVec.ofNat 32 (0x0A00 + hi)
  else if o = 0x20018C then BitVec.ofNat 32 (0x0E00 + hi)
  else 0

/-- CAN ports that take part: error-active or error-passive; LIN ports enabled (R346). -/
def netStatus (s : State) (w : Word32) : Word32 :=
  let w := withField w Reg.NET.STATUS.CAN_ON (packBits ((upTo 8).map fun c => decide (s.fld Reg.NET.CANSTAT.STATE c < 2)))
  let w := withField w Reg.NET.STATUS.LIN_ON (packBits ((upTo 12).map fun l => s.effBit Reg.NET.LINCFG.EN l))
  let w := withField w Reg.NET.STATUS.GPTP_LOCK (s.fld Reg.TIME.SYNC.LOCK 0)
  withField w Reg.NET.STATUS.TS_UP (if s.effBit Reg.NET.TSCFG.EN 0 && !s.net.plcaLost then 1 else 0)

/-- The edge-mode bit of an output's CFG register, by the register's offset: the active plan's map shows there (R46). -/
def edgeShown (s : State) (o : Nat) (w : Word32) : Word32 :=
  if 0x100000 ≤ o ∧ o < 0x101800 ∧ o % 0x40 = 4 then
    withField w Reg.LSW.CFG.EDGE (if s.edgeMode ((o - 0x100000) / 0x40) then 1 else 0)
  else if 0x130000 ≤ o ∧ o < 0x130400 ∧ o % 0x40 = 4 then
    withField w Reg.HBR.CFG.EDGE (if s.edgeMode (96 + (o - 0x130000) / 0x40) then 1 else 0)
  else if 0x140000 ≤ o ∧ o < 0x140C00 ∧ o % 0x80 = 4 then
    withField w Reg.VALVE.CFG.EDGE (if s.edgeMode (112 + (o - 0x140000) / 0x80) then 1 else 0)
  else if 0x160000 ≤ o ∧ o < 0x160400 ∧ o % 0x20 = 8 then
    withField w Reg.LIGHT.SINKCFG.EDGE (if s.edgeMode (136 + (o - 0x160000) / 0x20) then 1 else 0)
  else w

/-- A half of a word of a bank's microcode store (R238). -/
def ucodeHalf (s : State) (o : Nat) : Word32 :=
  let k := (o - 0x148000) / 0x1000 * 512 + (o - 0x148000) % 0x1000 / 8
  BitVec.ofNat 32 ((smapGet (fun _ => (0 : Word)) s.ucode k).toNat / (if o % 8 = 4 then 2 ^ 32 else 1))

/-- Is the offset in the microcode store? -/
def isUcode (o : Nat) : Bool := 0x148000 ≤ o && o < 0x14C000

/-- What the register at a window offset shows in the privileged view, without any effect of reading it. -/
def regPeek (s : State) (o : Nat) : Word32 :=
  let w := s.word o
  if o < 0x10000 then
    if 0x100 ≤ o ∧ o < 0x200 ∧ o % 0x40 = 0 then laneStat s ((o - 0x100) / 0x40) else w
  else if o < 0x20000 then
    if o = 0x10000 then withField w Reg.TICK.STATUS.ALIGNED (if alignedNow s then 1 else 0) else w
  else if o < 0x30000 then
    if o = 0x20000 then BitVec.ofNat 32 s.now
    else if o = 0x20004 then BitVec.ofNat 32 (s.now / 2 ^ 32)
    else if o = 0x20008 then BitVec.ofNat 32 (slowNow s)
    else w
  else if o < 0x40000 then
    if o = 0x30000 then withField w Reg.FAULT.STATUS.FORCE_EN (s.fld Reg.FAULT.CTRL.FORCE_EN 0) else w
  else if o < 0x50000 then
    if 0x40100 ≤ o ∧ o < 0x40180 then logWord s ((o - 0x40100) / 0x20) (o % 0x20 / 4) else w
  else if 0x120000 ≤ o ∧ o < 0x130000 then
    if 0x120100 ≤ o ∧ o < 0x120140 ∧ o % 0x10 = 4 then admitShown s ((o - 0x120100) / 0x10) else w
  else if isUcode o then ucodeHalf s o
  else if 0x180000 ≤ o ∧ o < 0x200000 then
    if o = 0x180010 then
      withField (withField w Reg.INPUT.INSTAT.AIBUSY (packBits ((upTo 4).map (aiBusy s)))) Reg.INPUT.INSTAT.SIBUSY
        (packBits ((upTo 4).map (siBusy s)))
    else w
  else if 0x200000 ≤ o ∧ o < 0x280000 then
    if o = 0x200000 then netStatus s w
    else w ^^^ macDefault o
  else if 0x280000 ≤ o ∧ o < 0x2A0000 then
    if 0x280080 ≤ o ∧ o < 0x280098 then
      withField w Reg.ACCESS.AERIAL.DRIVING (if aerialDriving s ((o - 0x280080) / 4) then 1 else 0)
    else w
  else if o = 0x2A0014 then BitVec.ofNat 32 unitId
  else if o = 0x2A0018 then BitVec.ofNat 32 (unitId / 2 ^ 32)
  else if o = 0x16200C then withField w Reg.LIGHT.MXSTAT.LINE (mxLine s)
  else edgeShown s o w

/-! ### Views (R15, R34) -/

/-- Is the register at an offset in the unprivileged alias? -/
def inAlias (o : Nat) : Bool :=
  match regRow o with
  | some r => r.shown != 0
  | none => false

/-- What a read in a view returns: a protected register reads as zero in the alias (R15). [log entry 12 DESIGN CHOICE] -/
def regView (s : State) (priv : Bool) (o : Nat) : Word32 := if priv || inAlias o then regPeek s o else 0

/-- The bits of a register that a read clears (R12). -/
def rcBits (o : Nat) : Nat :=
  match regRow o with
  | some r => r.rc
  | none => 0

/-- A read clears the RC fields that its view shows (R12, R15). -/
def readClears (s : State) (priv : Bool) (o : Nat) : State :=
  if (priv || inAlias o) && rcBits o != 0 then
    s.setWord o (BitVec.ofNat 32 ((s.word o).toNat &&& (2 ^ 32 - 1 - rcBits o)))
  else s

/-! ### Latched groups (R292) -/

/-- The offsets of low words of 64-bit pairs: first offset, stride and count of each kind. -/
def pairTable : List (Nat × Nat × Nat) := [
  (0x10008, 4, 1), (0x10010, 4, 1), (0x10028, 4, 1), (0x10038, 4, 1),
  (0x20000, 4, 1), (Reg.TIME.CMP_LO.V.base, Reg.TIME.CMP_LO.V.stride, 48),
  (0x50008, 8, 4), (0x50100, 0x10, 4),
  (Reg.VALVE.DEADLO.COUNT.base, Reg.VALVE.DEADLO.COUNT.stride, 24),
  (0x20022C, 0x40, 8), (0x210008, 0x80, 256),
  (Reg.POWER.WS_COL_LO.NUMBER.base, 4, 1),
  (Reg.ACCESS.LOCKEND_LO.COUNT.base, 4, 1), (Reg.ACCESS.IMMO_CHAL_LO.VALUE.base, 4, 1), (Reg.ACCESS.IMMO_RESP_LO.VALUE.base, 4, 1),
  (Reg.KEYS.CTX_LO.VALUE.base, 4, 1), (0x2A0014, 4, 1),
  (Reg.UPDATE.IMGID_LO.VALUE.base, 4, 1), (Reg.UPDATE.PENDCOL_LO.NUMBER.base, 4, 1)]

/-- Is an offset the low word of a 64-bit pair? -/
def isPairLow (o : Nat) : Bool :=
  pairTable.any fun p => p.1 ≤ o && (o - p.1) % p.2.1 == 0 && (o - p.1) / p.2.1 < p.2.2

/-- The group that an offset belongs to: the offset of its first word, and its length in words. -/
def groupOf (o : Nat) : Option (Nat × Nat) :=
  if isPairLow o then some (o, 2)
  else if 4 ≤ o ∧ isPairLow (o - 4) then some (o - 4, 2)
  else if 0x20800 ≤ o ∧ o < 0x20C00 ∧ o % 0x20 < 0x18 then some (o / 0x20 * 0x20, 6)
  else if 0x40100 ≤ o ∧ o < 0x40180 then some (o / 0x20 * 0x20, 8)
  else if Reg.UPDATE.STGBUF.REG.base ≤ o ∧ o < Reg.UPDATE.STGBUF.REG.base + 1024 then some (Reg.UPDATE.STGBUF.REG.base, 256)
  else none

/-- The latch and the holding register of a lane's bank. -/
def bankKey (lane : Nat) (plain : Bool) : Nat := 2 * lane + if plain then 1 else 0
def State.latch (s : State) (k : Nat) : Latch := smapGet (fun _ => Latch.init) s.timers.latches k
def State.setLatch (s : State) (k : Nat) (l : Latch) : State :=
  s.tm fun t => { t with latches := smapSet (fun _ => Latch.init) t.latches k l }

/-- A lane's read of a register: the word it returns, and the state after it. A read of a group's first word loads the
latch; another word of the tagged group comes from it (R292). -/
def laneRead (s : State) (b : By) (o : Nat) : Word32 × State :=
  let k := bankKey b.lane.val b.plain
  let live := regView s b.priv o
  match groupOf o with
  | none => (live, readClears s b.priv o)
  | some (g, n) =>
    if o = g then
      let words := (upTo n).map fun i => (g + 4 * i, regView s b.priv (g + 4 * i))
      (live, (readClears s b.priv o).setLatch k { group := some g, words := words })
    else if (s.latch k).group = some g then
      (((s.latch k).words.find? fun p => p.1 == o).map Prod.snd |>.getD live, readClears s b.priv o)
    else (live, readClears s b.priv o)

end Sys2Proof.Machine
end

