-- ==== Sys2Proof/Machine/Net.lean ====
section
/-!
DEFINITION. The field networks (R327 to R350): ports, their transmit queues, the plan's bus tables, LIN, mailboxes, and what
the ports answer in hardware. Ports are numbered as in a port mask (R318): 0 ETA, 1 ETB, 2 TS, 3 to 10 CAN0 to CAN7.
-/
namespace Sys2Proof.Machine

/-- Change the network state. -/
def State.nt (s : State) (f : Net → Net) : State := { s with net := f s.net }

/-! ### Ports -/

/-- The port of a PORT number of the bus tables (R339). -/
def busPort (p : Nat) : Nat := if p < 8 then p + 3 else if p = 8 then 2 else if p = 9 then 0 else 1

/-- The PORT number of a port, which records carry (R345). -/
def portUnit (q : Nat) : Nat := if 3 ≤ q then q - 3 else if q = 2 then 8 else 9 + q

/-- A port takes part in traffic: on, its link up (R346 to R348), the network die on and not as in a valley (R379). -/
def portUp (s : State) (q : Nat) : Bool :=
  s.dom.net && s.dom.logic && !asInValley s &&
    (if q < 2 then s.effBit Reg.NET.ETCFG.EN q && s.bit Reg.NET.ETSTAT.LINK q
     else if q = 2 then s.effBit Reg.NET.TSCFG.EN 0
     else s.fld Reg.NET.CANSTAT.STATE (q - 3) < 2)

/-- A LIN port takes part in traffic. -/
def linUp (s : State) (l : Nat) : Bool := s.dom.net && s.dom.logic && !asInValley s && s.effBit Reg.NET.LINCFG.EN l

/-! ### Transmit queues (R332) -/

def txQueue (s : State) (q : Nat) : List TxItem := smapGet (fun _ => []) s.net.tx q
def setTxQueue (s : State) (q : Nat) (l : List TxItem) : State := s.nt fun n => { n with tx := smapSet (fun _ => []) n.tx q l }

/-- The order of a queue's kinds: bus frames, answers, what is served in the plains and what the port answers itself. -/
def TxItem.rank : TxItem → Nat
  | .bus .. => 0
  | .answer p _ => if p then 2 else 1
  | .advert .. => 2
  | .echo .. => 2

/-- Put a frame behind the frames of its kind and of those before it. -/
def txInsert (x : TxItem) : List TxItem → List TxItem
  | [] => [x]
  | y :: l => if x.rank < y.rank then x :: y :: l else y :: txInsert x l

/-- Queue a frame at a port. -/
def txPut (s : State) (q : Nat) (x : TxItem) : State := setTxQueue s q (txInsert x (txQueue s q))

/-- Send the first `k` frames of a port's queue, one after the other; the last one sent stands in `sent`.
[log entry 109 DEDUCED] -/
def txSend (s : State) (q k : Nat) : State :=
  match ((txQueue s q).take k).getLast? with
  | none => s
  | some x => (setTxQueue s q ((txQueue s q).drop k)).nt fun n => { n with sent := n.sent.filter (fun p => p.1 != q) ++ [(q, x)] }

/-- TS sends by PLCA transmit opportunities (R336). -/
def plcaRuns (s : State) : Bool := s.effBit Reg.NET.TSCFG.PLCA 0 && !s.net.plcaLost

/-- ANSWER_TRANSMIT (R332): a port sends the head of its queue. On TS under PLCA this takes a transmit opportunity. -/
def execAnswerTransmit (port : Fin 11) (s : State) : Result :=
  .next (if portUp s port.val && !(port.val == 2 && plcaRuns s) then txSend s port.val 1 else s)

/-- TRANSMIT_OPPORTUNITY (R336): the head of the queue and up to BURST further frames. -/
def execTransmitOpportunity (s : State) : Result :=
  .next (if portUp s 2 && plcaRuns s then txSend s 2 (1 + s.effFld Reg.NET.TSCFG.BURST 0) else s)

/-! ### Links, PLCA and CAN controllers (R335 to R337) -/

/-- The 802.1AS port loses lock. -/
def syncUnlock (s : State) (e : Nat) : State :=
  if s.effBit Reg.NET.GPTP.EN 0 && s.effFld Reg.NET.GPTP.PORT 0 == e then s.setBit Reg.TIME.SYNC.LOCK 0 false else s

/-- LINK_LOSS (R335, R345): a T1 port loses its link. -/
def execLinkLoss (port : Fin 2) (s : State) : Result :=
  let e := port.val
  if !s.dom.net || !s.bit Reg.NET.ETSTAT.LINK e then .next s
  else .next (raiseFault (syncUnlock (linkBits s e false) e) Flt.NET.LINK (9 + e) 0)

/-- LINK_UP (R386): a T1 port that is on establishes its link. -/
def execLinkUp (port : Fin 2) (s : State) : Result :=
  let e := port.val
  if s.dom.net && s.effBit Reg.NET.ETCFG.EN e then
    .next ((linkBits s e true).pw fun p => { p with asleep := p.asleep.filter (· != e) })
  else .next s

/-- TIME_AWARE_NEIGHBOUR_LOSS (R335). -/
def execTimeAwareNeighbourLoss (s : State) : Result := .next (syncUnlock s (s.effFld Reg.NET.GPTP.PORT 0))

/-- PLCA_LOST (R336): a follower has seen no beacon for 4 cycles. [log entry 111 DEDUCED] -/
def execPlcaLost (s : State) : Result :=
  if portUp s 2 && plcaRuns s && s.effFld Reg.NET.TSCFG.NODEID 0 != 0 then
    let s := (s.nt fun n => { n with plcaLost := true }).setFlds [(Reg.NET.TSSTAT.PLCA_LOST, 0, 1), (Reg.NET.TSSTAT.BEACON, 0, 0)]
    .next (raiseFault s Flt.NET.PLCA 8 0)
  else .next s

/-- PLCA_IN_STEP (R336): the beacon is seen. -/
def execPlcaInStep (s : State) : Result :=
  if portUp s 2 && s.effBit Reg.NET.TSCFG.PLCA 0 then
    .next ((s.nt fun n => { n with plcaLost := false }).setBit Reg.NET.TSSTAT.BEACON 0 true)
  else .next s

/-- CAN_BUS_OFF (R337): frames queued are dropped and counted. -/
def execCanBusOff (c : Fin 8) (s : State) : Result :=
  let c := c.val
  if s.fld Reg.NET.CANSTAT.STATE c < 2 ∧ s.dom.net then
    let n := (txQueue s (c + 3)).length
    let s := (setTxQueue s (c + 3) []).satAdd Reg.NET.CANSTAT.DROPPED c n
    .next (raiseFault (s.setFld Reg.NET.CANSTAT.STATE c 2) Flt.NET.BUSOFF c 0)
  else .next s

/-- A controller leaves bus-off: error-active, its error counts zero (R337). -/
def canRejoin (s : State) (c : Nat) : State :=
  if s.fld Reg.NET.CANSTAT.STATE c = 2 then
    s.setFlds [(Reg.NET.CANSTAT.STATE, c, 0), (Reg.NET.CANSTAT.TEC, c, 0), (Reg.NET.CANSTAT.REC, c, 0)]
  else s

/-- BUS_OFF_RECOVERY (R337): with AUTOREC, after 128 occurrences of 11 recessive bits. -/
def execBusOffRecovery (c : Fin 8) (s : State) : Result :=
  .next (if s.effBit Reg.NET.CANCFG.AUTOREC c.val then canRejoin s c.val else s)

/-- CAN_RECOVER (R337). -/
def execCanRecover (by_ : By) (c : Fin 8) (s : State) : Result := .next (privOnly s by_ fun s => canRejoin s c.val)

/-! ### Mailboxes (R341, R350) -/

/-- Route a frame to a mailbox; it shows there from the first col after its end. -/
def mbRoute (s : State) (m : Nat) (f : MbFrame) : State := s.nt fun n => { n with mbNew := n.mbNew ++ [(m, f)] }

/-- A mailbox's registers show a frame, with the number of frames of the tick. -/
def mbShow (s : State) (m k : Nat) (f : MbFrame) : State :=
  let s := s.setFlds [(Reg.NET.MBXSTAT.LEN, m, f.data.length), (Reg.NET.MBXSTAT.VALID, m, 1),
    (Reg.NET.MBXSTAT.CKSUM, m, if f.cksum then 1 else 0), (Reg.NET.MBXSTAT.NORESP, m, if f.noresp then 1 else 0),
    (Reg.NET.MBXSTAT.TRUNC, m, if f.trunc then 1 else 0), (Reg.NET.MBXSTAT.COUNT, m, min k 255), (Reg.NET.MBXID.ID, m, f.ident),
    (Reg.NET.MBXTSLO.VALUE, m, f.eof), (Reg.NET.MBXTSHI.VALUE, m, f.eof / 2 ^ 32)]
  s.each (fun s w => s.setWord (Reg.NET.MBXDATA.REG.base + 0x80 * m + 4 * w)
    (BitVec.ofNat 32 (beNat ((upTo 4).map fun k => byteAt f.data (4 * w + (3 - k)))))) (upTo 28)

/-- The mailboxes change at col C: frames that ended before C show, in each mailbox the last one (R341, R344). -/
def mbCol (s : State) (c : Nat) : State :=
  let due := s.net.mbNew.filter fun p => p.2.eof < c
  let shown := s.regs.filterMap fun p =>
    if 0x210000 ≤ p.1 ∧ p.1 < 0x218000 ∧ p.1 % 0x80 = 0 then some ((p.1 - 0x210000) / 0x80) else none
  let s := s.each (fun s m => s.setFld Reg.NET.MBXSTAT.COUNT m 0) shown
  let s := due.foldl (fun s p => mbShow s p.1 (s.fld Reg.NET.MBXSTAT.COUNT p.1 + 1) p.2) s
  s.nt fun n => { n with mbNew := n.mbNew.filter fun p => c ≤ p.2.eof }

/-! ### Frames received (R334, R341, R343) -/

/-- The offset of the first bus receive entry that takes a frame. -/
def rxEntry (s : State) (f : BusFrame) : Option Nat :=
  let t := s.plan.table s.variant 2
  let p := s.plan
  if !p.valid then none
  else ((upTo t.2).map fun k => t.1 + 16 * k).find? fun e =>
    p.be e 1 == f.port.val && (8 ≤ f.port.val || (p.be (e + 1) 1).testBit 2 == f.ext) &&
      ((f.ident.toNat ^^^ p.be (e + 4) 4) &&& p.be (e + 8) 4) == 0

/-- A frame is taken by the bus receive table, or discarded. A frame that is taken stops the no-traffic timer (R388). -/
def rxRoute (s : State) (f : BusFrame) : State :=
  match rxEntry s f with
  | none => s
  | some e =>
    let max' := s.plan.be (e + 2) 2
    ntStop (mbRoute s (s.plan.be (e + 12) 2) {
      ident := f.ident.toNat, data := f.data.take max', trunc := decide (max' < f.data.length), noresp := false, cksum := false,
      eof := s.now })

/-- Is a CAN frame's identifier one of the dictionary's on its port (R329)? -/
def dictIdent (s : State) (f : BusFrame) : Bool :=
  f.port.val < 8 && f.ext && (s.effFld Reg.NET.DICTCFG.PORTS 0).testBit (f.port.val + 3) &&
    f.ident.toNat / 256 == s.effFld Reg.NET.CANDICT.BASE 0 && 1 ≤ f.ident.toNat % 256 && f.ident.toNat % 256 ≤ 32

/-- A CAN controller counts an error on reception, or a good frame, and is error-passive from 128 on (R348).
[log entry 107 PRESUMED] -/
def canCount (s : State) (c : Nat) (good : Bool) : State :=
  let r := s.fld Reg.NET.CANSTAT.REC c
  let s := s.setFld Reg.NET.CANSTAT.REC c (if good then r - 1 else min (r + 1) 255)
  s.setFld Reg.NET.CANSTAT.STATE c (if 128 ≤ s.fld Reg.NET.CANSTAT.REC c ∨ 128 ≤ s.fld Reg.NET.CANSTAT.TEC c then 1 else 0)

/-- A LIN error is counted and raised (R343, R345). -/
def linError (s : State) (l : Nat) (F : Field) : State := raiseFault (s.satAdd F l 1) Flt.NET.LINERR (11 + l) 0

def linPort (s : State) (l : Nat) : LinPort := smapGet (fun _ => LinPort.init) s.net.lin l
def setLinPort (s : State) (l : Nat) (p : LinPort) : State :=
  s.nt fun n => { n with lin := smapSet (fun _ => LinPort.init) n.lin l p }

/-- The response on a LIN port ends: no data is a missing response, a failed check a checksum error, a byte out of frame a
framing error. The entry that awaits it names the mailbox; a frame of no entry may be taken by the receive table. -/
def linResponse (s : State) (l : Nat) (f : BusFrame) : State :=
  let p := linPort s l
  let miss := f.data.isEmpty
  let s := if miss then (if p.run.isSome then linError s l Reg.NET.LINSTAT.NORESP else s)
    else if !f.supported then linError s l Reg.NET.LINSTAT.FRAMING
    else if !f.intact then linError s l Reg.NET.LINSTAT.CKSUM else s
  match p.run with
  | some e =>
    mbRoute (setLinPort s l { p with run := none, busyTo := s.now }) (s.plan.be (e + 8) 2) {
      ident := s.plan.be (e + 2) 1, data := f.data.take (s.plan.be (e + 3) 1), trunc := false, noresp := miss,
      cksum := !miss && !f.intact, eof := s.now }
  | none => if miss || !f.supported || !f.intact then s else rxRoute s f

/-- BUS_FRAME_RECEIVE (R334, R341, R343): the end of a frame that is no dictionary frame. -/
def execBusFrameReceive (f : BusFrame) (s : State) : Result :=
  let n := f.port.val
  if 11 ≤ n then .next (if linUp s (n - 11) then linResponse s (n - 11) f else s)
  else if !portUp s (busPort n) then .next s
  else
    let good := f.supported && f.intact
    let s := if n < 8 then canCount s n good
      else if 9 ≤ n ∧ !good then s.satAdd Reg.NET.ETSTAT.RXERR (n - 9) 1 else s
    .next (if good && !dictIdent s f then rxRoute s f else s)

/-! ### The plan's transmissions (R339 to R343) -/

/-- The payload of an entry as shared memory holds it. -/
def busPayload (s : State) (src len : Nat) : List Byte := rdBytes s.shared src len

/-- A frame of the same entry that is still queued is replaced in its place. -/
def txReplace (e : Nat) (x : TxItem) (l : List TxItem) : List TxItem :=
  l.map fun y => match y with
    | .bus k _ _ _ _ => if k = e then x else y
    | _ => y

/-- A queue holds a frame of the entry. -/
def txHolds (e : Nat) (l : List TxItem) : Bool :=
  l.any fun y => match y with
    | .bus k _ _ _ _ => k == e
    | _ => false

/-- PASS_BUS_TX at the port of entry `k` (R337, R339, R340). -/
def busTx (s : State) (k : Nat) : State :=
  match s.tableEntry 1 k with
  | none => s
  | some e =>
    let p := s.plan
    let port := p.be e 1
    let q := busPort port
    let sect := ((p.section' 4 s.variant 0xFF).getD (0, 0)).1
    let id := p.be (e + 4) 4
    let head := if port < 8 then [] else rdBytes p.img (sect + id) 16
    let x := TxItem.bus k id (p.be (e + 1) 1) head (busPayload s (p.be (e + 8) 4) (p.be (e + 2) 2))
    if port < 8 ∧ s.fld Reg.NET.CANSTAT.STATE port = 2 then s.satAdd Reg.NET.CANSTAT.DROPPED port 1
    else if txHolds k (txQueue s q) then
      raiseFault (setTxQueue s q (txReplace k x (txQueue s q))) Flt.NET.TXLATE port 0
    else txPut s q x

/-- A duration of bit times of a LIN port, in tenths, as counts. [log entry 108 DEDUCED] -/
def linTime (s : State) (l tenths : Nat) : Nat := tenths * 10000000 / max (s.effFld Reg.NET.LINCFG.RATE l) 1000

/-- A LIN_SLOT pass at count `p` on port `l` for entry `k` (R342, R343). -/
def linSlot (s : State) (l k at' : Nat) : State :=
  match s.tableEntry 3 k with
  | none => s
  | some e =>
    if !linUp s l then s
    else
      let p := s.plan
      let st := linPort s l
      let publish := (p.be (e + 1) 1).testBit 0
      let len := p.be (e + 3) 1
      let data := busPayload s (p.be (e + 4) 4) len
      let brk := max (s.effFld Reg.NET.LINCFG.BREAK l) 13
      if s.effBit Reg.NET.LINCFG.CMDR l then
        if at' < st.busyTo then s.setBit Reg.NET.LINSTAT.OVERLAP l true
        else if publish then
          (setLinPort s l { st with busyTo := at' + linTime s l (10 * (brk + 21 + 10 * (len + 1))), run := none }).nt fun n =>
            { n with sent := n.sent.filter (fun x => x.1 != 11 + l) ++ [(11 + l, TxItem.bus k (p.be (e + 2) 1) (p.be (e + 1) 1) [] data)] }
        else
          setLinPort s l { st with
            busyTo := at' + linTime s l (14 * (34 + 10 * (len + 1)) + 10 * (brk - 13)), run := some e }
      else if at' < st.busyTo then s.setBit Reg.NET.LINSTAT.OVERLAP l true
      else setLinPort s l { st with armed := (k, data) :: st.armed }

/-- LIN_HEADER_RECEIVE (R343, R344): a header arrives at a responder port; the entry armed last for its frame id answers. -/
def execLinHeaderReceive (l : Fin 12) (fid : BitVec 6) (good : Bool) (s : State) : Result :=
  let n := l.val
  if !linUp s n || s.effBit Reg.NET.LINCFG.CMDR n then .next s
  else if !good then .next (linError s n Reg.NET.LINSTAT.FRAMING)
  else
    let st := linPort s n
    let entry := fun (k : Nat) => (s.tableEntry 3 k).getD 0
    match st.armed.find? fun x => s.plan.be (entry x.1 + 2) 1 == fid.toNat with
    | none => .next s
    | some (k, data) =>
      let e := entry k
      let len := s.plan.be (e + 3) 1
      let st := { st with armed := st.armed.filter fun x => x.1 != k }
      let space := s.effFld Reg.NET.LINCFG.RSPACE n + 1
      if (s.plan.be (e + 1) 1).testBit 0 then
        .next ((setLinPort s n { st with busyTo := s.now + linTime s n (10 * (space + 10 * (len + 1))) }).nt fun m =>
          { m with sent := m.sent.filter (fun x => x.1 != 11 + n) ++
              [(11 + n, TxItem.bus k fid.toNat (s.plan.be (e + 1) 1) [] data)] })
      else .next (setLinPort s n { st with busyTo := s.now + linTime s n (14 * (10 + 10 * (len + 1))), run := some e })

/-- At a col no responder entry stays armed (R343). -/
def linCol (s : State) : State :=
  s.nt fun n => { n with lin := (n.lin.map fun p => (p.1, { p.2 with armed := [] })).filter fun p => p.2 != LinPort.init }

/-! ### Network configuration at a col (R346 to R349) -/

/-- CAN controllers that have been switched on or off, and T1 ports switched off. -/
def netCol (s : State) : State :=
  let s := s.each (fun s c =>
    let on := s.effBit Reg.NET.CANCFG.EN c
    let st := s.fld Reg.NET.CANSTAT.STATE c
    if on && st == 3 then s.setFld Reg.NET.CANSTAT.STATE c 0
    else if !on && st != 3 then setTxQueue (s.setFld Reg.NET.CANSTAT.STATE c 3) (c + 3) []
    else s) (upTo 8)
  s.each (fun s e => if s.effBit Reg.NET.ETCFG.EN e then s else linkBits s e false) [0, 1]

/-! ### IPv6 in hardware (R334) -/

/-- The word of an Ethernet port's registers that takes effect, hardware addresses by unit. -/
def macOf (s : State) (q : Nat) : Nat :=
  let lo := if q = 2 then 0x200188 else 0x200108 + 0x40 * q
  ((s.effWord (lo + 4) ^^^ macDefault (lo + 4)).toNat % 2 ^ 16) * 2 ^ 32 + (s.effWord lo ^^^ macDefault lo).toNat

/-- The link-local address of a port, from its hardware address by modified EUI-64. -/
def linkLocal (s : State) (q : Nat) : Nat :=
  let m := macOf s q
  let hi := m / 2 ^ 24
  0xFE80 * 2 ^ 112 + (((hi * 2 ^ 40 + 0xFFFE * 2 ^ 24 + m % 2 ^ 24) ^^^ 2 ^ 57) % 2 ^ 64)

/-- The configured address of a port, 0 for none. -/
def ipOf (s : State) (q : Nat) : Nat :=
  let b := if q = 2 then 0x200190 else 0x200110 + 0x40 * q
  (upTo 4).foldl (fun a w => a * 2 ^ 32 + (s.effWord (b + 4 * w)).toNat) 0

/-- Is an address one of the port's? -/
def ownAddr (s : State) (q a : Nat) : Bool := a == linkLocal s q || (a == ipOf s q && a != 0)

/-- An address that a port found duplicate, with its port. -/
def dupKey (q a : Nat) : Nat := q * 2 ^ 128 + a

/-- NEIGHBOUR_SOLICITATION (R334, R345): a solicitation for an address of the port is answered with an advertisement; a frame
that shows another node's claim while the port's own duplicate address detection runs leaves the address unused.
[log entry 110 DEDUCED] -/
def execNeighbourSolicitation (port : Fin 3) (target source : BitVec 128) (claim : Bool) (s : State) : Result :=
  let q := port.val
  let a := target.toNat
  if !portUp s q || !ownAddr s q a || s.net.dupAddr.contains (dupKey q a) then .next s
  else if claim then
    .next (raiseFault (s.nt fun n => { n with dupAddr := n.dupAddr ++ [dupKey q a] }) Flt.NET.ADDR (portUnit q) 0)
  else .next (txPut s q (.advert a source.toNat))

/-- ECHO_REQUEST (R334): an echo request to an address of the port is answered with its data. -/
def execEchoRequest (port : Fin 3) (target source : BitVec 128) (data : List Byte) (s : State) : Result :=
  let q := port.val
  if portUp s q && ownAddr s q target.toNat && !s.net.dupAddr.contains (dupKey q target.toNat) then
    .next (txPut s q (.echo source.toNat data))
  else .next s

end Sys2Proof.Machine
end

