-- ==== Sys2Proof/Machine/Dict.lean ====
section
/-!
DEFINITION. The object dictionary (R310 to R333): which entries there are, their types and rights, what they read as, the
checks of a frame, the responder, the duplicate window and acceptance (R353 to R355), journal queries (R365), and the
named-col commands (R75, R359).
-/
namespace Sys2Proof.Machine

/-! ### Entries (R310 to R320) -/

/-- What an entry stands for. -/
inductive EntryKind where
  | reg (off words : Nat)
  | pixel (p : Nat)
  | ucode (b w : Nat)
  | device (sub : Nat)
  | named (sub : Nat)
  | client (c sub : Nat)
  | decl (d : Decl)
  | blob
  deriving DecidableEq, Repr

/-- An entry: its kind, type, RIGHTS byte, persistence, length in bytes, and whether the responder serves it (R310). -/
structure Entry where
  kind : EntryKind
  type : Nat
  rights : Nat
  persist : Nat
  len : Nat
  resp : Bool
  deriving DecidableEq, Repr

/-- The block-rule ranges of the index map: first index, last index, block offset (R311, R312). -/
def blockRanges : List (Nat × Nat × Nat) := [
  (0x1100, 0x113F, 0x0), (0x1140, 0x117F, 0x10000), (0x2800, 0x283F, 0x120000), (0x3800, 0x387F, 0x160000),
  (0x4000, 0x403F, 0x20000), (0x4200, 0x43FF, 0x180000), (0x5000, 0x51FF, 0x200000), (0x5800, 0x587F, 0x280000),
  (0x6000, 0x607F, 0x2A0000), (0x6800, 0x687F, 0x2C0000), (0x7000, 0x707F, 0x2E0000), (0x7100, 0x717F, 0x300000),
  (0x7800, 0x783F, 0x30000), (0x7840, 0x787F, 0x40000), (0x7880, 0x78BF, 0x50000)]

/-- The channel-rule ranges: first index, last index, offset of channel 0, stride (R311, R312). -/
def channelRanges : List (Nat × Nat × Nat × Nat) := [
  (0x2000, 0x205F, 0x100000, 0x40), (0x3000, 0x300F, 0x130000, 0x40), (0x3400, 0x3417, 0x140000, 0x80),
  (0x2060, 0x2060, 0x10F000, 0x400), (0x3010, 0x3010, 0x13F000, 0x400), (0x3420, 0x3420, 0x14F000, 0x400)]

/-- The window offset that an index and subindex name by the block rule or the channel rule. -/
def entryOffset (index sub : Nat) : Option Nat :=
  match blockRanges.find? fun r => r.1 ≤ index && index ≤ r.2.1 with
  | some r => some (r.2.2 + (index - r.1) * 0x400 + sub * 4)
  | none =>
    match channelRanges.find? fun r => r.1 ≤ index && index ≤ r.2.1 with
    | some r => if sub * 4 < r.2.2.2 then some (r.2.2.1 + (index - r.1) * r.2.2.2 + sub * 4) else none
    | none => none

/-- The words of a register-mapped entry. -/
def entryWords (off words : Nat) : List Nat := (upTo words).map fun i => off + 4 * i

/-- The bits of a register that a write in a view can act on (R313). -/
def writableBits (o : Nat) (priv : Bool) : Nat :=
  match regRow o with
  | none => 0
  | some r =>
    if priv then r.rw ||| r.rwp ||| r.w1c ||| r.w1s ||| r.wo
    else if r.shown = 1 then r.rw ||| r.w1c ||| r.w1s ||| r.wo else 0

/-- The RIGHTS byte of a register-mapped entry (R313, R315). -/
def regRights (ws : List Nat) : Nat :=
  let shown := ws.any inAlias
  let op := ws.any fun o => writableBits o false != 0
  let sv := ws.any fun o => writableBits o true != 0
  (if shown then 1 else 0) + 4 * ((if shown then 1 else 0) + if op then 2 else 0) + 16 * (1 + if sv then 2 else 0)

/-- Registers that are constant for the life of the part (R316). -/
def regFixed (o : Nat) : Bool := o == 0 || (0x40 ≤ o && o < 0x60) || o == 0x2A0014 || o == 0x2A0018

/-- The persistence of a register-mapped entry (R316). -/
def regPersist (ws : List Nat) : Nat :=
  if ws.all regFixed then 3
  else if ws.any (fun o => match regRow o with | some r => r.keep != 0 | none => false) then 1 else 0

/-- The entry of the register at a window offset (R312): the admission ports have none, a group has one at its first word. -/
def regEntry (off : Nat) (keys : Bool) : Option Entry :=
  if (regRow off).isNone || (0x120100 ≤ off && off < 0x120140) then none
  else
    match groupOf off with
    | none =>
      some { kind := .reg off 1, type := 4, rights := regRights [off], persist := regPersist [off], len := 4, resp := !keys }
    | some (g, n) =>
      if off ≠ g then none
      else
        let ws := entryWords off n
        some { kind := .reg off n, type := if n = 2 then 5 else 0x0A, rights := regRights ws, persist := regPersist ws,
               len := 4 * n, resp := !keys && n == 2 }

/-- Device and communication entries (R318), rights as RIGHTS bytes. -/
def deviceEntry (index sub : Nat) : Option Entry :=
  if index = 0x1000 then
    match ([(4, 0x15, 3), (5, 0x15, 3), (2, 0x15, 3), (2, 0x35, 2), (5, 0x15, 0), (4, 0x15, 0), (2, 0x15, 0)] :
        List (Nat × Nat × Nat))[sub]? with
    | some (t, r, p) =>
      some { kind := .device sub, type := t, rights := r, persist := p, len := if t = 5 then 8 else if t = 4 then 4 else 1,
             resp := true }
    | none => none
  else if index = 0x1001 then
    if sub ≤ 3 then
      some { kind := .named sub, type := 0x0C, rights := if sub ≤ 1 then 0x28 else 0x20, persist := 0, len := 8, resp := false }
    else none
  else if 0x1010 ≤ index ∧ index ≤ 0x102F then
    match ([(2, 0x30, 2, 1), (2, 0x30, 2, 1), (3, 0x30, 2, 2), (4, 0x10, 4, 4)] : List (Nat × Nat × Nat × Nat))[sub]? with
    | some (t, r, p, n) =>
      some { kind := .client (index - 0x1010 + 1) sub, type := t, rights := r, persist := p, len := n, resp := false }
    | none => none
  else none

/-- The entry of an index and subindex, `none` where there is none (R310 to R312). -/
def entryAt (s : State) (index sub : Nat) : Option Entry :=
  if 0x1000 ≤ index ∧ index ≤ 0x10FF then deviceEntry index sub
  else if 0x8000 ≤ index ∧ index ≤ 0xBFFF then
    (s.decl index sub).map fun d =>
      { kind := .decl d, type := d.type, rights := d.rights, persist := d.persist, len := d.len, resp := d.eligible }
  else if 0xC000 ≤ index then
    if sub = 0 then some { kind := .blob, type := 0x0D, rights := 0x15, persist := 0, len := 0, resp := false } else none
  else if 0x3418 ≤ index ∧ index ≤ 0x341F then
    some { kind := .ucode ((index - 0x3418) / 2) ((index - 0x3418) % 2 * 256 + sub), type := 5, rights := 0x30, persist := 1,
           len := 8, resp := true }
  else if index = 0x3808 ∧ 0x40 ≤ sub then
    some { kind := .pixel (sub - 0x40), type := 2, rights := regRights [0x162100 + (sub - 0x40) / 4 * 4], persist := 0, len := 1,
           resp := true }
  else
    match entryOffset index sub with
    | some o => regEntry o (decide (0x6000 ≤ index ∧ index ≤ 0x607F))
    | none => none

/-- The right of a role (1 observer, 2 operator, 3 service) in a RIGHTS byte (R315). -/
def rightOf (rights role : Nat) : Nat := rights / 4 ^ (role - 1) % 4

/-- H of a client, 0 while it is not valid. -/
def clientH (s : State) (c : Nat) : Nat := (smapGet (fun _ => none) s.journal.highest c).getD 0

/-- What an entry reads as for a role, most significant byte first (R313, R314, R320). -/
def entryValue (s : State) (e : Entry) (role sub : Nat) : List Byte :=
  let view := fun o => (regView s (role == 3) o).toNat
  match e.kind with
  | .reg o n => if n = 2 then beBytes (view o + view (o + 4) * 2 ^ 32) 8 else ((entryWords o n).map fun w => beBytes (view w) 4).flatten
  | .pixel p => beBytes (view (0x162100 + p / 4 * 4) / 256 ^ (p % 4)) 1
  | .ucode b w => beBytes (smapGet (fun _ => (0 : Word)) s.ucode (b * 512 + w)).toNat 8
  | .device 0 => beBytes (s.word 0).toNat 4
  | .device 1 => unitIdBytes
  | .device 2 => [1]
  | .device 3 => beBytes s.net.zone 1
  | .device 4 => beBytes (s.pair Reg.TICK.PLAN_ID_LO.REG Reg.TICK.PLAN_ID_HI.REG 0) 8
  | .device 5 => beBytes (s.word Reg.TICK.PLAN_VER.REG.base).toNat 4
  | .device _ => beBytes s.seqState 1
  | .named _ => []
  | .client c 0 => beBytes (smapGet ClientRow.init s.net.clients c).slot 1
  | .client c 1 => beBytes (smapGet ClientRow.init s.net.clients c).role 1
  | .client c 2 => beBytes (smapGet ClientRow.init s.net.clients c).ports 2
  | .client c _ => beBytes (clientH s c) 4
  | .decl d => rdBytes s.shared (d.at' sub) d.len
  | .blob => []

/-- The value of a write with the bits cleared that the role's view cannot write (R313). -/
def writeMask (e : Entry) (role : Nat) (v : List Byte) : List Byte :=
  let m := fun o => writableBits o (role == 3)
  match e.kind with
  | .reg o n =>
    let mask := if n = 2 then beBytes (m o + m (o + 4) * 2 ^ 32) 8 else ((entryWords o n).map fun w => beBytes (m w) 4).flatten
    List.zipWith (· &&& ·) v mask
  | _ => v

/-- Is a written value outside the range its entry's rule allows (R314, R318)? -/
def valueBad (e : Entry) (v : List Byte) : Bool :=
  match e.kind with
  | .device 3 => 3 < beNat v
  | .client _ 0 => 63 < beNat v
  | .client _ 1 => 3 < beNat v
  | .client _ 2 => 2 ^ 11 ≤ beNat v
  | _ => e.type == 1 && 1 < beNat v

/-! ### Frames and tags (R321 to R329) -/

def stOk : Nat := 0
def stBusy : Nat := 1
def stDenied : Nat := 2
def stNoEntry : Nat := 3
def stType : Nat := 4
def stNotServed : Nat := 5
def stStale : Nat := 6
def stTooLong : Nat := 7
def stUnsupported : Nat := 8
def stBlobRange : Nat := 9
def stAccess : Nat := 10
def stSlow : Nat := 11

/-- The largest body of a transport form: UDP, raw Ethernet, CAN FD. -/
def maxBody (form : Nat) : Nat := if form = 0 then 1208 else if form = 1 then 1474 else 44

/-- The smallest data length of CAN FD that holds `n` bytes. -/
def fdFit (n : Nat) : Nat := if n ≤ 8 then n else ([12, 16, 20, 24, 32, 48, 64].find? (n ≤ ·)).getD 65

/-- The dictionary answers frames: collector and journal up, no F3 fault, no descent past its parking col, no recovery
(R333). -/
def dictUp (s : State) : Bool :=
  s.collectorUp && s.boot == 0 && !s.bit Reg.FAULT.STATUS.TERMINAL 0 && !asInValley s && !inRecovery s && s.dom.logic && s.dom.net

/-- Step 1 of R21: the frame is whole, its form belongs to the port, and its lengths agree (R327 to R329, R346). -/
def frameOk (s : State) (f : DictFrame) : Bool :=
  let q := f.port.val
  let n := f.bodyLen.toNat
  f.intact && f.body.length == n && (s.effFld Reg.NET.DICTCFG.PORTS 0).testBit q && portUp s q && n ≤ maxBody f.form.val &&
    match f.form.val with
    | 0 => q ≤ 2 && f.room == 24 + n
    | 1 => q == 2 && s.effBit Reg.NET.DICTCFG.TS_RAW 0 && 24 + n ≤ f.room
    | _ => 3 ≤ q && f.fd && s.effBit Reg.NET.CANCFG.FD (q - 3) && f.room == fdFit (20 + n)

/-- The version of a message; CAN frames carry none (R329). -/
def frameVer (f : DictFrame) : Nat := if f.form.val = 2 then 1 else f.ver.toNat

/-- The canonical form (R321). -/
def canonical (client op flags status ver cseq index sub vtype : Nat) (body : List Byte) : List Byte :=
  unitIdBytes ++ beBytes client 2 ++ beBytes op 1 ++ beBytes flags 1 ++ beBytes status 1 ++ beBytes ver 1 ++
    beBytes body.length 2 ++ beBytes cseq 4 ++ beBytes index 2 ++ beBytes sub 1 ++ beBytes vtype 1 ++ body

/-- The tag of a canonical form under a key. -/
def tagOf (key msg : List Byte) : List Byte := (aesCmac key msg).take 8

/-- The tag that a request must carry. -/
def requestTag (key : List Byte) (f : DictFrame) : List Byte :=
  tagOf key (canonical f.client.toNat f.op.toNat f.flags.toNat f.status.toNat (frameVer f) f.cseq.toNat f.index.toNat f.sub.toNat
    f.vtype.toNat f.body)

/-- Checks 2 and 3 of R326: the client's role and key. -/
def clientOk (s : State) (f : DictFrame) : Option (Nat × List Byte) :=
  let c := f.client.toNat
  let row := smapGet ClientRow.init s.net.clients c
  if c = 0 ∨ 32 < c ∨ row.role = 0 ∨ !row.ports.testBit f.port.val then none
  else
    match keyFor s row.slot keyClient with
    | none => none
    | some key => if requestTag key f = beBytes f.tag.toNat 8 then some (row.role, key) else none

/-- A frame that fails check 2 or 3: counted, and raised at most once per second per port (R326, R345). -/
def authFail (s : State) (q : Nat) : State :=
  let s := s.satAdd Reg.NET.DICTCNT0.AUTHFAIL 0 1
  let last := smapGet (fun _ => 0) s.net.authAt q
  if last = 0 ∨ last - 1 + 100000000 ≤ s.now then
    raiseFault (s.nt fun n => { n with authAt := smapSet (fun _ => 0) n.authAt q (s.now + 1) }) Flt.NET.AUTHFAIL (portUnit q) 0
  else s

/-- FLAGS of an answer (R322). -/
def flResp : Nat := 1
def flDup : Nat := 4
def flPlains : Nat := 8

/-- Queue an answer, tagged under the key of the request (R321, R332). A body that the transport cannot carry is TOO_LONG
(R325). DENIED, ACCESS and BUSY answers are counted (R346). [log entry 99 DEDUCED] -/
def answer (s : State) (w : Waiting) (status flags : Nat) (body : List Byte) : State :=
  let f := w.frame
  let long := decide (maxBody f.form.val < body.length)
  let status := if long then stTooLong else status
  let body := if long then [] else body
  let fl := flResp + flags
  let s := if status = stDenied ∨ status = stAccess then s.satAdd Reg.NET.DICTCNT0.DENIED 0 1
    else if status = stBusy then s.satAdd Reg.NET.DICTCNT1.BUSY 0 1 else s
  txPut s f.port.val (.answer (decide (flags / flPlains % 2 = 1)) {
    form := f.form.val, brs := f.brs, client := f.client.toNat, op := f.op.toNat, flags := fl, status := status,
    cseq := f.cseq.toNat, index := f.index.toNat, sub := f.sub.toNat, vtype := f.vtype.toNat, body := body,
    tag := tagOf w.key (canonical f.client.toNat f.op.toNat fl status 1 f.cseq.toNat f.index.toNat f.sub.toNat f.vtype.toNat body) })

/-- OP 1 to 5 and 0x10 to 0x14 in version 1 are supported (R323, R365). -/
def supported (f : DictFrame) : Bool :=
  frameVer f == 1 && ((1 ≤ f.op.toNat && f.op.toNat ≤ 5) || (0x10 ≤ f.op.toNat && f.op.toNat ≤ 0x14))

/-- Checks 1 to 4 of a frame; `act` is what its operation does then. A frame past check 3 stops the no-traffic timer (R388). -/
def dictIn (s : State) (f : DictFrame) (act : State → Waiting → State) : State :=
  if !dictUp s || !frameOk s f then s
  else
    match clientOk s f with
    | none => authFail s f.port.val
    | some (role, key) =>
      let w : Waiting := { frame := f, key := key, role := role, vtype := f.vtype.toNat, value := f.body, verified := s.now }
      let s := ntStop s
      if supported f then act s w else answer s w stUnsupported 0 []

/-- Expedited only (R322). -/
def expedited (w : Waiting) : Bool := w.frame.flags.getLsbD 1

/-- The entry that a frame names. [log entry 100 DEDUCED] -/
def frameEntry (s : State) (w : Waiting) : Option Entry := entryAt s w.frame.index.toNat w.frame.sub.toNat

/-! ### Reads (R330, R333) -/

/-- Serve a read: by the responder where it can and its queue holds fewer than 32 requests, else in the plains, else SLOW.
[log entry 101 DEDUCED] -/
def serveRead (s : State) (w : Waiting) (e : Entry) : State :=
  let v := entryValue s e w.role w.frame.sub.toNat
  let busy := s.net.resp.filter fun t => s.now < t
  let s := s.nt fun n => { n with resp := busy }
  let slow := fun (s : State) => if expedited w then answer s w stSlow 0 [] else answer s w stOk flPlains v
  if !e.resp then slow s
  else if busy.length < 32 then
    answer (s.nt fun n => { n with resp := busy ++ [s.now + 160 + 40 * busy.length] }) w stOk 0 v
  else slow (raiseFault (s.satAdd Reg.NET.DICTCNT1.RESPQ 0 1) Flt.NET.RESPQ (portUnit w.frame.port.val) 0)

/-- Checks 6 to 8 of R326 for a read that needs one of some rights; the body must have a length, and `typed` says whether the
entry's type suits the operation. -/
def readChecks (s : State) (w : Waiting) (need bodyLen : Nat) (typed : Nat → Bool) : Nat × Option Entry :=
  match frameEntry s w with
  | none => (stNoEntry, none)
  | some e =>
    if rightOf e.rights w.role &&& need = 0 then (stDenied, none)
    else if w.vtype ≠ e.type ∨ w.frame.body.length ≠ bodyLen ∨ !typed e.type then (stType, none)
    else (stOk, some e)

/-- READ (R326, R330, R333): a read of a declared entry in the handover tick waits for col H + 1. -/
def readAct (s : State) (w : Waiting) : State :=
  match readChecks s w 1 0 fun t => t < 0x0C with
  | (_, some e) =>
    match e.kind with
    | .decl _ =>
      if s.seqState = seqHandover then
        if expedited w then answer s w stSlow 0 [] else s.nt fun n => { n with heldReads := n.heldReads ++ [w] }
      else serveRead s w e
    | _ => serveRead s w e
  | (st, none) => answer s w st 0 []

/-- READ. -/
def execDictRead (f : DictFrame) (s : State) : Result := .next (dictIn s { f with op := 1 } readAct)

/-- The reads held in the handover tick are handled under the new declarations (R330). -/
def releaseReads (s : State) : State :=
  let l := s.net.heldReads
  l.foldl readAct (s.nt fun n => { n with heldReads := [] })

/-- What is served in the plains is answered SLOW when it is expedited (R324). -/
def inPlains (s : State) (w : Waiting) (act : State → Waiting → State) : State :=
  if expedited w then answer s w stSlow 0 [] else act s w

/-- The CLASS that DESCRIBE reports (R317). -/
def entryClass (s : State) (index sub : Nat) : Nat :=
  match s.manifest index sub with
  | some r => s.plan.be (r + 4) 1
  | none => 0x0C

/-- The length of the blob of an index. -/
def blobLen (s : State) (index : Nat) : Nat := Config.blobLength index s.now % 2 ^ 32

/-- DESCRIBE (R323). -/
def describeAct (s : State) (w : Waiting) : State :=
  match readChecks s w 3 0 fun _ => true with
  | (_, some e) =>
    let i := w.frame.index.toNat
    inPlains s w fun s w => answer s w stOk flPlains
      (beBytes e.type 1 ++ beBytes e.rights 1 ++ beBytes e.persist 1 ++ beBytes (entryClass s i w.frame.sub.toNat) 1 ++
        beBytes (if e.resp then 1 else 0) 1 ++ [0] ++ beBytes e.len 2 ++ beBytes (if e.kind = .blob then blobLen s i else 0) 4)
  | (st, none) => answer s w st 0 []

/-- DESCRIBE. -/
def execDictDescribe (f : DictFrame) (s : State) : Result := .next (dictIn s { f with op := 4 } describeAct)

/-- BLOB_READ (R324). [log entry 103 DESIGN CHOICE] -/
def blobAct (s : State) (w : Waiting) : State :=
  match readChecks s w 1 6 fun t => t == 0x0D with
  | (_, some _) =>
    let i := w.frame.index.toNat
    let off := beAt w.frame.body 0 4
    let len := beAt w.frame.body 4 2
    inPlains s w fun s w =>
      if blobLen s i < off + len ∨ maxBody w.frame.form.val < len then answer s w stBlobRange flPlains []
      else answer s w stOk flPlains ((upTo len).map fun k => Config.blobByte i s.now (off + k))
  | (st, none) => answer s w st 0 []

/-- BLOB_READ. -/
def execDictBlobRead (f : DictFrame) (s : State) : Result := .next (dictIn s { f with op := 5 } blobAct)

/-- UNSUPPORTED_OPERATION (R325, R326): a frame of another VER or OP. -/
def execUnsupportedOperation (f : DictFrame) (s : State) : Result :=
  .next (if supported f then s else dictIn s f fun s _ => s)

/-! ### Commands (R313, R326, R353 to R355) -/

/-- The judgement of a client sequence: stale, duplicate with its SEQ, or new (R355). -/
inductive Judged where
  | stale | dup (q : Nat) | new
  deriving DecidableEq, Repr

/-- (CSEQ − H) as a signed 32-bit number. -/
def seqGap (cseq h : Nat) : Int := signed 32 (unsigned 32 ((cseq : Int) - h))

/-- The word of a client's window for a client sequence, 0 when it is empty. -/
def windowAt (s : State) (c cseq : Nat) : Nat := smapGet (fun _ => 0) s.journal.window (4096 * c + cseq % 4096)

/-- Judge a client sequence. -/
def judgeSeq (s : State) (c cseq : Nat) : Judged :=
  match smapGet (fun _ => none) s.journal.highest c with
  | none => .new
  | some h =>
    let d := seqGap cseq h
    if d < -4095 then .stale
    else if 0 < d then .new
    else if windowAt s c cseq = 0 then .new else .dup (windowAt s c cseq)

/-- The sequencer stands in STOPPED, or the journal takes no command (R52, R362). -/
def journalBusy (s : State) : Bool :=
  s.bit Reg.JOURNAL.STATUS.BUSY 0 || s.bit Reg.JOURNAL.STATUS.FULL 0 || s.seqState == seqStopped

/-- A command waits for acceptance, behind those verified before it and those of earlier ports verified with it (R25). -/
def waitInsert (w : Waiting) : List Waiting → List Waiting
  | [] => [w]
  | v :: l =>
    if w.verified < v.verified ∨ (w.verified = v.verified ∧ w.frame.port.val < v.frame.port.val) then w :: v :: l
    else v :: waitInsert w l

/-- Checks 5 to 11 of a command; `isWrite` says WRITE rather than INVOKE. -/
def commandAct (isWrite : Bool) (s : State) (w : Waiting) : State :=
  let f := w.frame
  match judgeSeq s f.client.toNat f.cseq.toNat with
  | .stale => answer s w stStale 0 []
  | .dup q => answer s w stOk flDup (beBytes q 8)
  | .new =>
    match frameEntry s w with
    | none => answer s w stNoEntry 0 []
    | some e =>
      let v := if isWrite then writeMask e w.role w.value else w.value
      if rightOf e.rights w.role / 2 % 2 = 0 then answer s w stDenied 0 []
      else if w.vtype ≠ e.type ∨ (isWrite == (e.type == 0x0C)) ∨ e.type = 0x0D ∨ w.value.length ≠ e.len ∨
          (isWrite && valueBad e w.value) then answer s w stType 0 []
      else if isWrite && w.value.any (· != 0) && v.all (· == 0) then answer s w stAccess 0 []
      else if (s.manifest f.index.toNat f.sub.toNat).isNone then answer s w stNotServed 0 []
      else if journalBusy s then answer s w stBusy 0 []
      else s.nt fun n => { n with waiting := waitInsert { w with value := v } n.waiting }

/-- WRITE. -/
def execDictWrite (f : DictFrame) (s : State) : Result := .next (dictIn s { f with op := 2 } (commandAct true))

/-- INVOKE. -/
def execDictInvoke (f : DictFrame) (s : State) : Result := .next (dictIn s { f with op := 3 } (commandAct false))

/-- The window and H of a client take an accepted sequence (R355). -/
def windowTake (s : State) (c cseq q : Nat) : State :=
  let j := s.journal
  let old := smapGet (fun _ => none) j.highest c
  let gap : Int := match old with | some h => seqGap cseq h | none => 1
  let empty := fun (k : Nat) =>
    match old with
    | none => true
    | some h => 0 < gap && decide ((k + 4096 - (h + 1) % 4096) % 4096 < gap.toNat)
  let win := j.window.filter fun p => !(p.1 / 4096 == c && empty (p.1 % 4096))
  { s with journal := { j with
    highest := if 0 < gap then smapSet (fun _ => none) j.highest c (some cseq) else j.highest,
    window := smapSet (fun _ => 0) win (4096 * c + cseq % 4096) q } }

/-- The count of col `n` (R42). -/
def colAt (s : State) (n : Nat) : Nat := s.seq.baseC + (n - s.seq.baseN) * s.seq.period

/-- Is a named col refused at acceptance (R75, R76)? [log entry 104 DEDUCED] -/
def namedRefused (s : State) (n : Nat) : Bool :=
  !s.planRuns || !s.bit Reg.TICK.CTRL.ALIGN 0 || !s.bit Reg.TICK.STATUS.BASE_AL 0 || n ≤ s.colNum || colAt s n ≤ s.now ||
    s.colNum + 2 ^ 20 < n

/-- What acceptance of a named-col command does (R67, R75, R359, R448). -/
def namedAccept (s : State) (q sub n : Nat) : State :=
  if namedRefused s n then ownPost s q 5 s.colNum []
  else if sub = 3 then
    if hoArmed s then ownPost s q 5 s.colNum []
    else
      let r := hoArm s n
      if r.2 then r.1 else ownPost r.1 q 5 r.1.colNum []
  else if sub = 2 ∧ (updState s = updVerified ∨ updState s = updLoaded) then activationArm s n true
  else s

/-- COMMAND_ACCEPTANCE (R21, R22, R25, R353 to R355, R375, R389): the command that waits first is written to both banks and
verified, takes its SEQ, and is answered. `fail` names the banks whose verify fails. -/
def execCommandAcceptance (fail : BitVec 2) (s : State) : Result :=
  match s.net.waiting with
  | [] => .next s
  | w :: rest =>
    let s := s.nt fun n => { n with waiting := rest }
    let f := w.frame
    let c := f.client.toNat
    match judgeSeq s c f.cseq.toNat with
    | .dup q => .next (answer s w stOk flDup (beBytes q 8))
    | .stale => .next (answer s w stStale 0 [])
    | .new =>
      let q := s.journal.nextSeq
      let r := jWrite s (.entry {
        op := f.op.toNat, port := f.port.val, client := c, seq := q, accept := s.now, cseq := f.cseq.toNat,
        index := f.index.toNat, sub := f.sub.toNat, vtype := w.vtype, role := w.role, value := w.value }) fail
      if r.2 ≠ .written then .next (answer r.1 w stBusy 0 [])
      else
        let s := { r.1 with journal := { r.1.journal with nextSeq := q + 1 } }
        let s := jShow (windowTake s c f.cseq.toNat q)
        let s := maRestart (wakeEvent s 10 0xFF)
        let s := if f.index = 0x1001 then namedAccept s q f.sub.toNat (beNat w.value) else s
        .next (answer s w stOk 0 (beBytes q 8))

/-! ### Journal queries (R365) -/

/-- The oldest SEQ held, in the archive or the head; 0 for none. -/
def oldestHeld (s : State) : Nat := firstSeq (jRecords s)

/-- The last start marker. -/
def lastStart (s : State) : Option JStart := ((jRecords s).filterMap JRec.start?).getLast?

/-- A query: expedited it is SLOW; its body must have the length its row gives. -/
def query (f : DictFrame) (op len : Nat) (act : State → Waiting → State) (s : State) : Result :=
  .next (dictIn s { f with op := BitVec.ofNat 8 op } fun s w =>
    inPlains s w fun s w => if w.frame.body.length ≠ len then answer s w stType flPlains [] else act s w)

/-- J_STATUS. -/
def execJStatus (f : DictFrame) (s : State) : Result :=
  query f 0x10 0 (fun s w =>
    let b := fun (x : Bool) (v : Nat) => if x then v else 0
    let fl := b (s.bit Reg.JOURNAL.STATUS.BUSY 0) 1 + b (s.bit Reg.JOURNAL.STATUS.SINGLE 0) 2 + b (s.bit Reg.JOURNAL.STATUS.ARCH_SINGLE 0) 4
    let m := lastStart s
    answer s w stOk flPlains
      (beBytes (oldestHeld s) 8 ++ beBytes (firstSeq (s.journal.ring.map Prod.snd)) 8 ++ beBytes s.journal.nextSeq 8 ++
        beBytes s.journal.lastCommit 8 ++ beBytes (jFill s) 2 ++ beBytes fl 2 ++ beBytes ((m.map JStart.kind).getD 0) 1 ++
        beBytes 0 3 ++ beBytes ((m.map JStart.start).getD 0) 8)) s

/-- J_BY_CSEQ. -/
def execJByCseq (f : DictFrame) (s : State) : Result :=
  query f 0x11 4 (fun s w =>
    let c := w.frame.client.toNat
    let x := beAt w.frame.body 0 4
    match smapGet (fun _ => none) s.journal.highest c with
    | none => answer s w stOk flPlains (beBytes 0 12)
    | some h =>
      if seqGap x h < -4095 then answer s w stStale flPlains []
      else answer s w stOk flPlains (beBytes h 4 ++ beBytes (if 0 < seqGap x h then 0 else windowAt s c x) 8)) s

/-- The first 48 bytes of a record, and its value or data. -/
def recHead (r : JRec) : List Byte := r.bytes.take 48

/-- J_READ: the entry, then its outcome records in ring order. [log entry 102 DEDUCED] -/
def execJRead (f : DictFrame) (s : State) : Result :=
  query f 0x12 9 (fun s w =>
    let q := beAt w.frame.body 0 8
    match entryOf s q with
    | none => answer s w stNoEntry flPlains []
    | some e =>
      if w.role ≠ 3 ∧ e.client ≠ w.frame.client.toNat then answer s w stDenied flPlains []
      else
        let outs := (outcomesOf s q).map fun o => [if o.void then (0 : Byte) else 1] ++ recHead (.outcome o) ++ o.data
        answer s w stOk flPlains
          (recHead (.entry e) ++ (if beAt w.frame.body 8 1 = 1 then e.value else []) ++ outs.flatten)) s

/-- A summary of an entry. -/
def summary (s : State) (e : JEntry) : List Byte :=
  let o := settledBy s e.seq
  beBytes e.seq 8 ++ beBytes e.cseq 4 ++ beBytes e.index 2 ++ beBytes e.sub 1 ++ beBytes ((o.map JOutcome.outcome).getD 0) 1 ++
    beBytes ((o.map JOutcome.col).getD 0) 8

/-- J_SCAN: as many summaries from FROM_SEQ upward as asked for and as fit. -/
def execJScan (f : DictFrame) (s : State) : Result :=
  query f 0x13 10 (fun s w =>
    let q := beAt w.frame.body 0 8
    let n := beAt w.frame.body 8 2
    if n = 0 ∨ 64 < n then answer s w stType flPlains []
    else if q < oldestHeld s then answer s w stNoEntry flPlains []
    else
      let es := ((jRecords s).filterMap JRec.entry?).filter fun e =>
        q ≤ e.seq && (w.role == 3 || e.client == w.frame.client.toNat)
      let es := es.take (min n ((maxBody w.frame.form.val - 2) / 24))
      answer s w stOk flPlains (beBytes es.length 2 ++ (es.map (summary s)).flatten)) s

/-- J_STARTS: the latest start markers, up to 8, that fit. -/
def execJStarts (f : DictFrame) (s : State) : Result :=
  query f 0x14 0 (fun s w =>
    let ms := (jRecords s).filterMap JRec.start?
    let k := min 8 ((maxBody w.frame.form.val - 2) / 48)
    let ms := ms.drop (ms.length - k)
    answer s w stOk flPlains (beBytes ms.length 2 ++ (ms.map fun m => recHead (.start m)).flatten)) s

/-! ### Named-col operations (R75, R359) -/

/-- The little-endian bytes of a number. -/
def leBytes (v n : Nat) : List Byte := (beBytes v n).reverse

/-- The data of a snapshot of inputs, 80 bytes. -/
def snapshotData (s : State) : List Byte :=
  let lvl := s.fld Reg.INPUT.SILVL.LEVEL 0 + s.fld Reg.INPUT.SILVL.LEVEL 1 * 2 ^ 32
  let ai := (upTo 24).map fun i => leBytes (s.fld Reg.INPUT.AIVAL.CODE i + s.fld Reg.INPUT.AIVAL.VALID i * 2 ^ 15) 2
  let caps := packBits ((upTo 32).map fun n => s.bit Reg.TIME.CAP_STAT.LEVEL n)
  leBytes s.colNum 8 ++ leBytes s.colCount 8 ++ leBytes lvl 8 ++ ai.flatten ++ leBytes caps 4 ++ leBytes 0 4

/-- NAMED_COL_SNAPSHOT (R359): the col in force is the one that a snapshot command names. -/
def execNamedColSnapshot (s : State) : Result :=
  if !s.planRuns then .next s
  else .next (jShow ((namedFor s 0 s.colNum).foldl (fun s e => ownPost s e.seq 1 s.colNum (snapshotData s)) s))

/-- The data of a barrier report, 32 bytes. -/
def barrierData (s : State) : List Byte :=
  let before := ((jRecords s).filterMap JRec.entry?).filter fun e => e.accept < s.colCount
  let open' := (unsettled s).filter fun e => e.accept < s.colCount
  leBytes s.colNum 8 ++ leBytes s.colCount 8 ++ leBytes ((before.map JEntry.seq).foldl max 0) 8 ++ leBytes open'.length 4 ++ leBytes 0 4

/-- BARRIER_REPORT (R359). -/
def execBarrierReport (s : State) : Result :=
  if !s.planRuns then .next s
  else .next (jShow ((namedFor s 1 s.colNum).foldl (fun s e => ownPost s e.seq 1 s.colNum (barrierData s)) s))

/-- The outcome record of a staged reset is written before the reset begins. -/
def settleNow (s : State) (e : JEntry) : State :=
  (jWrite s (.outcome {
    outcome := 1, reason := 0, bind := 0xFFFF, seq := e.seq, col := s.colNum, when' := s.now, grant := 0, client := e.client,
    data := [], void := false }) 0).1

/-- STAGED_CONTROLLER_RESET (R75, R359): the col has committed; the command is settled APPLIED and a controller reset begins. -/
def execStagedControllerReset (s : State) : Result :=
  if !s.planRuns then .next s
  else
    match namedFor s 2 s.colNum with
    | [] => .next s
    | l => .next (controllerReset (l.foldl settleNow s))

end Sys2Proof.Machine
end

