-- ==== Sys2Proof/Machine/Operands.lean ====
section
/-!
DEFINITION. Operand forms of lane operations (R109 to R112, R115): formats, fields, immediates, which encodings and bundles are
legal, and the syllables that a row of words spells.
-/
namespace Sys2Proof.Machine

/-- Operand formats (R109). -/
inductive Format where
  | rr | ri | sh | i12 | pr | pi | pp | m | mx | ms | b
  deriving DecidableEq, Repr

/-- A row of the opcode table (R115): opcode, operation, format, slots A to D as bits 0 to 3, whether extension syllables may
follow, and the bits of the operand field that are zero. -/
structure OpRow where
  code : Nat
  kind : OpKind
  fmt : Format
  slots : Nat
  ext : Bool
  zero : Nat
  deriving DecidableEq, Repr

/-- Slots A to D; slot B; slots C and D; slot D; slot A. -/
def slAny : Nat := 15
def slB : Nat := 2
def slCD : Nat := 12
def slD : Nat := 8
def slA : Nat := 1

/-- Operand bits that are zero: all, RB, RA and RB, RD and RB, RD, those of the predicate formats, PP with and without PB. -/
def zAll : Nat := 0x3FFFF
def zRb : Nat := 0x3F
def zRaRb : Nat := 0xFFF
def zRdRb : Nat := 0x3F03F
def zRd : Nat := 0x3F000
def zP : Nat := 0x38000
def zPp : Nat := 0x38E38
def zPpRb : Nat := 0x38E3F

/-- The opcode table (R115), first part: moves and arithmetic. -/
def opTable0 : List OpRow := [
  ⟨0x00, .nop, .rr, slAny, false, zAll⟩, ⟨0x01, .add, .rr, slAny, false, 0⟩, ⟨0x02, .addi, .ri, slAny, true, 0⟩,
  ⟨0x03, .sub, .rr, slAny, false, 0⟩, ⟨0x04, .and, .rr, slAny, false, 0⟩, ⟨0x05, .andi, .ri, slAny, true, 0⟩,
  ⟨0x06, .or, .rr, slAny, false, 0⟩, ⟨0x07, .ori, .ri, slAny, true, 0⟩, ⟨0x08, .xor, .rr, slAny, false, 0⟩,
  ⟨0x09, .xori, .ri, slAny, true, 0⟩, ⟨0x0A, .shl, .rr, slAny, false, 0⟩, ⟨0x0B, .shli, .sh, slAny, false, 0⟩,
  ⟨0x0C, .shr, .rr, slAny, false, 0⟩, ⟨0x0D, .shri, .sh, slAny, false, 0⟩, ⟨0x0E, .sar, .rr, slAny, false, 0⟩,
  ⟨0x0F, .sari, .sh, slAny, false, 0⟩, ⟨0x10, .mov, .rr, slAny, false, zRb⟩, ⟨0x11, .li, .i12, slAny, true, 0⟩,
  ⟨0x12, .lih, .i12, slAny, false, 0⟩, ⟨0x13, .sel, .rr, slAny, false, 0⟩, ⟨0x14, .min, .rr, slAny, false, 0⟩,
  ⟨0x15, .max, .rr, slAny, false, 0⟩, ⟨0x16, .minu, .rr, slAny, false, 0⟩, ⟨0x17, .maxu, .rr, slAny, false, 0⟩,
  ⟨0x18, .abs, .rr, slAny, false, zRb⟩, ⟨0x19, .clz, .rr, slAny, false, zRb⟩, ⟨0x1A, .popc, .rr, slAny, false, zRb⟩,
  ⟨0x1B, .sext, .sh, slAny, false, 0⟩, ⟨0x1C, .adds, .rr, slAny, false, 0⟩, ⟨0x1D, .subs, .rr, slAny, false, 0⟩]

/-- Second part: compares, predicates, multiply and divide. -/
def opTable1 : List OpRow := [
  ⟨0x20, .cmpeq, .pr, slAny, false, zP⟩, ⟨0x21, .cmpne, .pr, slAny, false, zP⟩, ⟨0x22, .cmplt, .pr, slAny, false, zP⟩,
  ⟨0x23, .cmple, .pr, slAny, false, zP⟩, ⟨0x24, .cmpltu, .pr, slAny, false, zP⟩, ⟨0x25, .cmpleu, .pr, slAny, false, zP⟩,
  ⟨0x26, .cmpeqi, .pi, slAny, true, zP⟩, ⟨0x27, .cmplti, .pi, slAny, true, zP⟩, ⟨0x28, .tstb, .pi, slAny, false, zP⟩,
  ⟨0x29, .pand, .pp, slAny, false, zPp⟩, ⟨0x2A, .por, .pp, slAny, false, zPp⟩, ⟨0x2B, .pnot, .pp, slAny, false, zPpRb⟩,
  ⟨0x2C, .pget, .rr, slAny, false, zRaRb⟩, ⟨0x2D, .pset, .rr, slAny, false, zRdRb⟩, ⟨0x30, .mul, .rr, slB, false, 0⟩,
  ⟨0x31, .mulhs, .rr, slB, false, 0⟩, ⟨0x32, .mulhu, .rr, slB, false, 0⟩, ⟨0x33, .div, .rr, slB, false, 0⟩,
  ⟨0x34, .divu, .rr, slB, false, 0⟩, ⟨0x35, .rem, .rr, slB, false, 0⟩, ⟨0x36, .remu, .rr, slB, false, 0⟩]

/-- Third part: memory operations. -/
def opTable2 : List OpRow := [
  ⟨0x40, .ldb, .m, slCD, true, 0⟩, ⟨0x41, .ldbu, .m, slCD, true, 0⟩, ⟨0x42, .ldh, .m, slCD, true, 0⟩,
  ⟨0x43, .ldhu, .m, slCD, true, 0⟩, ⟨0x44, .ldw, .m, slCD, true, 0⟩, ⟨0x45, .ldwu, .m, slCD, true, 0⟩,
  ⟨0x46, .ldd, .m, slCD, true, 0⟩, ⟨0x47, .lddx, .mx, slCD, false, 0⟩, ⟨0x48, .stb, .m, slCD, true, 0⟩,
  ⟨0x49, .sth, .m, slCD, true, 0⟩, ⟨0x4A, .stw, .m, slCD, true, 0⟩, ⟨0x4B, .std, .m, slCD, true, 0⟩,
  ⟨0x4C, .stdx, .mx, slCD, false, 0⟩, ⟨0x4D, .tas, .m, slD, true, 0⟩, ⟨0x4E, .lr, .m, slD, true, 0⟩,
  ⟨0x4F, .sc, .ms, slD, false, zP⟩]

/-- Fourth part: control, cycle and identity. -/
def opTable3 : List OpRow := [
  ⟨0x50, .br, .b, slA, false, 0⟩, ⟨0x51, .brl, .b, slA, false, 0⟩, ⟨0x52, .bri, .rr, slA, false, zRdRb⟩,
  ⟨0x53, .bril, .rr, slA, false, zRdRb⟩, ⟨0x54, .endb, .rr, slA, false, zAll⟩, ⟨0x55, .wait, .rr, slA, false, zAll⟩,
  ⟨0x56, .dropp, .rr, slA, false, zAll⟩, ⟨0x57, .rdcyc, .rr, slA, false, zRaRb⟩, ⟨0x58, .rdlane, .rr, slA, false, zRaRb⟩,
  ⟨0x59, .trap, .i12, slA, false, zRd⟩]

/-- The opcode table (R115). -/
def opTable : List OpRow := opTable0 ++ opTable1 ++ opTable2 ++ opTable3

/-- The row of an operation. -/
def opRow (k : OpKind) : OpRow := (opTable.find? fun r => r.kind == k).getD ⟨0, .nop, .rr, slAny, false, zAll⟩

/-- The bits of the operand field of an operation that are zero (R109, R115). -/
def zeroBits (k : OpKind) : Nat := (opRow k).zero

/-! ### Fields (R109) -/

def Op.rd (o : Op) : Nat := o.opnd.toNat / 4096
def Op.ra (o : Op) : Nat := o.opnd.toNat / 64 % 64
def Op.rb (o : Op) : Nat := o.opnd.toNat % 64
def Op.pd (o : Op) : Nat := o.opnd.toNat / 4096 % 8
def Op.pa (o : Op) : Nat := o.opnd.toNat / 64 % 8
def Op.pb (o : Op) : Nat := o.opnd.toNat % 8
def Op.sh (o : Op) : Nat := o.opnd.toNat % 64

/-- The immediate of width `w` with its extension payloads above it (R111), sign-extended to 64 bits. -/
def Op.immOf (o : Op) (w : Nat) : Word :=
  let p := o.ext.take 2
  let v := p.zipIdx.foldl (fun a e => a + e.1.toNat * 2 ^ (w + 24 * e.2)) (o.opnd.toNat % 2 ^ w)
  let n := w + 24 * p.length
  BitVec.ofInt 64 (if v < 2 ^ (n - 1) then (v : Int) else (v : Int) - 2 ^ n)

/-- IMM6, IMM12 and OFF18, sign-extended. -/
def Op.imm6 (o : Op) : Word := o.immOf 6
def Op.imm12 (o : Op) : Word := o.immOf 12
def Op.off18 (o : Op) : Int := o.opnd.toInt

/-- The position of a slot in a bundle. -/
def Slot.num : Slot → Nat
  | .a => 0
  | .b => 1
  | .c => 2
  | .d => 3

/-- Syllables of an operation with its extensions. -/
def Syl.words (y : Syl) : Nat := 1 + y.op.ext.length

/-! ### Legality (R109 to R112) -/

/-- An operation syllable with a field marked zero that is not zero (R109). -/
def badEncoding (y : Syl) : Bool := y.op.opnd.toNat &&& zeroBits y.kind != 0

/-- Does the operation write a general register, or a predicate? -/
def writesPred (k : OpKind) : Bool :=
  match (opRow k).fmt with
  | .pr | .pi | .pp | .ms => true
  | _ => false

/-- Operations that write no register of their own: stores, control, NOP and PSET. -/
def writesNothing (k : OpKind) : Bool :=
  [.nop, .pset, .stb, .sth, .stw, .std, .stdx, .br, .brl, .bri, .bril, .endb, .wait, .dropp, .trap].contains k

/-- Destinations that an operation names (R112): g1 to g63 as 1 to 63, p1 to p7 as 65 to 71. -/
def dests (y : Syl) : List Nat :=
  if y.kind = .pset then [65, 66, 67, 68, 69, 70, 71]
  else if y.kind = .brl ∨ y.kind = .bril then [63]
  else if writesNothing y.kind then []
  else if writesPred y.kind then (if y.op.pd = 0 then [] else [64 + y.op.pd])
  else if y.op.rd = 0 then [] else [y.op.rd]

/-- The slots named are strictly ascending (R112). -/
def slotsRise : List Syl → Bool
  | x :: y :: l => x.op.slot.num < y.op.slot.num && slotsRise (y :: l)
  | _ => true

/-- No number stands twice in a list. -/
def noTwice : List Nat → Bool
  | [] => true
  | a :: l => !l.contains a && noTwice l

/-- The syllables of a bundle. -/
def sylCount (l : List Syl) : Nat := (l.map Syl.words).sum

/-- A bundle that breaks R110 to R112: too many operations or syllables, no stop bit, slots out of order or not allowed, an
extension that is not allowed, a destination named twice. -/
def badBundle (l : List Syl) : Bool :=
  4 < l.length || 8 < sylCount l || !(match l.getLast? with | some y => y.op.stop | none => false) || !slotsRise l ||
    (l.any fun y => !(opRow y.kind).slots.testBit y.op.slot.num) ||
    (l.any fun y => decide ((if (opRow y.kind).ext then 2 else 0) < y.op.ext.length)) ||
    !noTwice (l.flatMap dests)

/-! ### Syllables as words (R109 to R111) -/

/-- An extension syllable has opcode 0x7F. -/
def isExt (w : Word32) : Bool := w.toNat / 2 ^ 18 % 128 == 0x7F

/-- The payload of an extension syllable (R111). -/
def extPayload (w : Word32) : BitVec 24 := BitVec.ofNat 24 (w.toNat / 2 ^ 25 % 64 * 2 ^ 18 + w.toNat % 2 ^ 18)

/-- The stop bit. -/
def stopBit (w : Word32) : Bool := w.getLsbD 31

/-- The slot of a syllable. -/
def slotOf (w : Word32) : Slot :=
  match w.toNat / 2 ^ 29 % 4 with
  | 0 => .a
  | 1 => .b
  | 2 => .c
  | _ => .d

/-- The operation that a word spells; none where its opcode is not assigned or it is an extension. -/
def sylOf (lane : Fin 4) (w : Word32) : Option Syl :=
  (opTable.find? fun r => r.code == w.toNat / 2 ^ 18 % 128).map fun r =>
    { kind := r.kind,
      op := { lane := lane, slot := slotOf w, neg := w.getLsbD 28, pred := ⟨w.toNat / 2 ^ 25 % 8, Nat.mod_lt _ (by decide)⟩,
              opnd := BitVec.ofNat 18 w.toNat, ext := [], stop := stopBit w } }

/-- The words of the bundle that stands first in a list: up to the first stop bit, or the first eight (R110). -/
def bundleWords : Nat → List Word32 → List Word32
  | 0, _ => []
  | _, [] => []
  | n + 1, w :: l => if stopBit w then [w] else w :: bundleWords n l

/-- Is a word an illegal encoding (R109)? -/
def illegalWord (w : Word32) : Bool :=
  !isExt w &&
    match sylOf 0 w with
    | none => true
    | some y => badEncoding y

/-- Join words into operations with their extensions; an extension before any operation is dropped here (R111 makes its bundle
illegal). -/
def joinWords (lane : Fin 4) : List Word32 → List Syl
  | [] => []
  | w :: l =>
    let e := l.takeWhile isExt
    match sylOf lane w with
    | none => joinWords lane l
    | some y =>
      { y with op := { y.op with ext := e.map extPayload, stop := y.op.stop || e.any stopBit } } :: joinWords lane l

end Sys2Proof.Machine
end

