-- ==== Sys2Proof/Machine/Flags.lean ====
section
/-!
DEFINITION. The predicates that lane operations compute (R115): compares, bit test, logic on predicates, packing.
-/
namespace Sys2Proof.Machine

def predEq (a b : Word) : Bool := a == b
def predNe (a b : Word) : Bool := a != b
def predLt (a b : Word) : Bool := a.slt b
def predLe (a b : Word) : Bool := a.sle b
def predLtu (a b : Word) : Bool := a.ult b
def predLeu (a b : Word) : Bool := a.ule b

/-- CMPEQI and CMPLTI compare with the immediate. -/
def predEqi (a imm : Word) : Bool := a == imm
def predLti (a imm : Word) : Bool := a.slt imm

/-- TSTB: the bit of a word that an unsigned number names. -/
def predBit (a : Word) (i : Nat) : Bool := a.getLsbD i

def predAnd (p q : Bool) : Bool := p && q
def predOr (p q : Bool) : Bool := p || q
def predNot (p : Bool) : Bool := !p

/-- PGET: predicates p7 to p0 as bits 7 to 0 of a word, from a function that reads them. -/
def predPack (p : Nat → Bool) : Word :=
  BitVec.ofNat 64 ((List.range 8).foldl (fun v i => v + if p i then 2 ^ i else 0) 0)

/-- PSET: the bit of a word that predicate `i` takes. -/
def predUnpack (a : Word) (i : Nat) : Bool := a.getLsbD i

end Sys2Proof.Machine
end

