-- ==== Sys2Proof/Machine/Alu.lean ====
section
/-!
DEFINITION. The results of the lane operations that write a general register without touching memory (R115, R116).
-/
namespace Sys2Proof.Machine

/-- The amount of a shift by a register: its low 6 bits (R116). -/
def shiftOf (b : Word) : Nat := b.toNat % 64

/-- A number held between −2^63 and 2^63 − 1. -/
def saturate64 (v : Int) : Word :=
  BitVec.ofInt 64 (if v < -2 ^ 63 then -2 ^ 63 else if 2 ^ 63 - 1 < v then 2 ^ 63 - 1 else v)

def resAdd (a b : Word) : Word := a + b
def resAddi (a imm : Word) : Word := a + imm
def resSub (a b : Word) : Word := a - b
def resAnd (a b : Word) : Word := a &&& b
def resAndi (a imm : Word) : Word := a &&& imm
def resOr (a b : Word) : Word := a ||| b
def resOri (a imm : Word) : Word := a ||| imm
def resXor (a b : Word) : Word := a ^^^ b
def resXori (a imm : Word) : Word := a ^^^ imm
def resShl (a b : Word) : Word := a <<< shiftOf b
def resShli (a : Word) (n : Nat) : Word := a <<< n
def resShr (a b : Word) : Word := a >>> shiftOf b
def resShri (a : Word) (n : Nat) : Word := a >>> n
def resSar (a b : Word) : Word := a.sshiftRight (shiftOf b)
def resSari (a : Word) (n : Nat) : Word := a.sshiftRight n
def resMov (a : Word) : Word := a
def resLi (imm : Word) : Word := imm

/-- LIH: bits [63:52] from IMM12, bits [51:0] of the old value. -/
def resLih (old : Word) (imm12 : Nat) : Word := BitVec.ofNat 64 (imm12 % 4096 * 2 ^ 52 + old.toNat % 2 ^ 52)

def resSel (p : Bool) (a b : Word) : Word := if p then a else b
def resMin (a b : Word) : Word := if a.sle b then a else b
def resMax (a b : Word) : Word := if a.sle b then b else a
def resMinu (a b : Word) : Word := if a.ule b then a else b
def resMaxu (a b : Word) : Word := if a.ule b then b else a

/-- ABS: the magnitude; −2^63 gives 2^63 − 1. -/
def resAbs (a : Word) : Word := saturate64 a.toInt.natAbs

/-- CLZ: leading zero bits, 64 for 0. -/
def resClz (a : Word) : Word := BitVec.ofNat 64 (if a.toNat = 0 then 64 else 63 - Nat.log2 a.toNat)

/-- POPC: one bits. -/
def resPopc (a : Word) : Word := BitVec.ofNat 64 ((List.range 64).filter fun i => a.getLsbD i).length

/-- SEXT: sign-extended from bit `n`. -/
def resSext (a : Word) (n : Nat) : Word := (a <<< (63 - n)).sshiftRight (63 - n)

def resAdds (a b : Word) : Word := saturate64 (a.toInt + b.toInt)
def resSubs (a b : Word) : Word := saturate64 (a.toInt - b.toInt)
def resMul (a b : Word) : Word := a * b
def resMulhs (a b : Word) : Word := BitVec.ofInt 64 (a.toInt * b.toInt / 2 ^ 64)
def resMulhu (a b : Word) : Word := BitVec.ofNat 64 (a.toNat * b.toNat / 2 ^ 64)

/-- DIV, DIVU: by zero, all bits set (R116). -/
def resDiv (a b : Word) : Word := if b = 0 then BitVec.ofInt 64 (-1) else BitVec.ofInt 64 (a.toInt.tdiv b.toInt)
def resDivu (a b : Word) : Word := if b = 0 then BitVec.ofInt 64 (-1) else BitVec.ofNat 64 (a.toNat / b.toNat)

/-- REM, REMU: by zero, the dividend (R116). -/
def resRem (a b : Word) : Word := if b = 0 then a else BitVec.ofInt 64 (a.toInt.tmod b.toInt)
def resRemu (a b : Word) : Word := if b = 0 then a else BitVec.ofNat 64 (a.toNat % b.toNat)

/-- Operations whose result is checked by a residue (R138). -/
def residueChecked (k : OpKind) : Bool :=
  [.add, .addi, .sub, .adds, .subs, .mul, .mulhs, .mulhu, .div, .divu, .rem, .remu].contains k

/-- Operations that use the divider (R83). -/
def usesDivider (k : OpKind) : Bool := [.div, .divu, .rem, .remu].contains k

/-- The latency of an operation that writes a register without touching memory (R82). -/
def latencyOf (k : OpKind) : Nat :=
  if usesDivider k then 20 else if [OpKind.mul, .mulhs, .mulhu].contains k then 3 else 1

end Sys2Proof.Machine
end

