-- ==== Sys2Proof/Machine/RegBus.lean ====
section
/-!
DEFINITION. Register accesses of lanes (R11 to R15, R34, R90, R98, R140, R292, R293): the access codes, the views, staging,
the pairs' holding registers, and which operation a write of a register starts.
-/
namespace Sys2Proof.Machine

/-- The state after a command's meaning, for a write that starts it. -/
def after (r : Result) (s : State) : State :=
  match r with
  | .next t => t
  | _ => s

/-! ### Injections (R140) -/

/-- The next write of local data memory stores a double-bit error. -/
def execInjEcc2 (by_ : By) (n : Fin 4) (s : State) : Result :=
  .next (gated s by_ fun s => s.setLane n.val { s.lane n.val with ecc2 := true })

/-- The next write of local data memory stores a single-bit error. -/
def execInjEcc1 (by_ : By) (n : Fin 4) (s : State) : Result :=
  .next (gated s by_ fun s => s.setLane n.val { s.lane n.val with ecc1 := true })

/-- The next residue-checked result carries a residue error. -/
def execInjResidue (by_ : By) (n : Fin 4) (s : State) : Result :=
  .next (gated s by_ fun s => s.setLane n.val { s.lane n.val with residue := true })

/-! ### Access codes (R12, R15) -/

/-- Bit `i` of a written word, as the meaning of a WO or W1S bit. -/
def bitOn (v : Word32) (i : Nat) (act : State → State) (s : State) : State := if v.getLsbD i then act s else s

/-- A register's new value: RW fields, and RWP fields in the privileged view, from the written word, W1C bits cleared (R12). -/
def storedWord (r : RegRow) (priv : Bool) (old v : Word32) : Word32 :=
  let set := BitVec.ofNat 32 (if priv then r.rw ||| r.rwp else r.rw)
  let clr := v &&& BitVec.ofNat 32 r.w1c
  ((old &&& ~~~set) ||| (v &&& set)) &&& ~~~clr

/-- Does a write through the alias touch what it may not (R15)? A register outside it is touched by any bit set, one that is read
only there by any bit that would act, an RWP field by another value. [log entry 114 DEDUCED] -/
def aliasFault (r : RegRow) (old v : Word32) : Bool :=
  if r.shown = 0 then v != 0
  else
    let p := BitVec.ofNat 32 r.rwp
    (v &&& p) != (old &&& p) || (r.shown == 2 && (v &&& BitVec.ofNat 32 (r.rw ||| r.w1c ||| r.w1s ||| r.wo)) != 0)

/-- Is a register's word staged for the power dies (R43, R98)? Words that a col takes over but that are not staged are
configuration. -/
def isStaged (r : RegRow) : Bool := r.latched && r.rw != 0

/-- The lane that stages a word, and what stood there, are kept for the tick (R63). [log entry 113 DEDUCED] -/
def noteStaged (s : State) (lane o : Nat) : State :=
  { s with seq := { s.seq with
    staged := (lane, o, s.word o) :: s.seq.staged, owner := smapSet (fun _ => 0) s.seq.owner o (lane + 1) } }

/-! ### Fields that take less than is written -/

/-- A pin field outside the channel's bank is left as it was, with FLT_LSW_CFG (R150). -/
def dinKept (s : State) (n : Nat) (v : Word32) : Word32 × Bool :=
  if getBits v 2 5 / 6 = n / 24 then (v, false) else (putBits v 2 5 (s.fld Reg.LSW.CFG.DIN n), true)

/-- What is written to a load switch's HOLD, ILIM or CFG register after its limits (R150, R162, R172). -/
def lswLimited (s : State) (o : Nat) (v : Word32) : Word32 × Bool :=
  let n := (o - 0x100000) / 0x40
  if 0x101800 ≤ o ∨ o < 0x100000 then (v, false)
  else if o % 0x40 = 4 then dinKept s n v
  else if o % 0x40 = 8 then (if 2000 < getBits v 0 11 then putBits v 0 11 2000 else v, false)
  else if o % 0x40 = 0x0C then
    let e := lswIlimEnds n
    (putBits v 0 8 (max e.1 (min e.2 (getBits v 0 8))), false)
  else (v, false)

/-! ### Pairs (R293) -/

/-- The pairs that can be written. [log entry 117 DEDUCED] -/
def writablePairs : List (Nat × Nat × Nat) := [
  (0x10028, 4, 1), (Reg.TIME.CMP_LO.V.base, Reg.TIME.CMP_LO.V.stride, 48), (0x50100, 0x10, 4), (0x20022C, 0x40, 8),
  (Reg.POWER.WS_COL_LO.NUMBER.base, 4, 1), (Reg.ACCESS.IMMO_CHAL_LO.VALUE.base, 4, 1), (Reg.KEYS.CTX_LO.VALUE.base, 4, 1)]

/-- Is an offset the low word of a pair that can be written? -/
def pairLow (o : Nat) : Bool :=
  writablePairs.any fun p => p.1 ≤ o && (o - p.1) % p.2.1 == 0 && (o - p.1) / p.2.1 < p.2.2

/-- The low word goes to the holding register of the lane's bank. -/
def holdLow (s : State) (b : By) (v : Word32) : State :=
  s.tm fun t => { t with holding := smapSet (fun _ => (0 : Word32)) t.holding (bankKey b.lane.val b.plain) v }

/-- A new compare value is no catch-up of an old one (R296). -/
def cmpWritten (s : State) (o : Nat) : State :=
  if Reg.TIME.CMP_LO.V.base ≤ o ∧ o < Reg.TIME.CMP_LO.V.base + 0x300 then
    let n := (o - Reg.TIME.CMP_LO.V.base) / 0x10
    s.setCmp n { s.cmp n with behind := false }
  else s

/-- The high word commits both words. -/
def commitPair (s : State) (b : By) (o : Nat) (v : Word32) : State :=
  let lo := smapGet (fun _ => (0 : Word32)) s.timers.holding (bankKey b.lane.val b.plain)
  cmpWritten ((s.setWord (o - 4) lo).setWord o v) o

/-! ### Registers whose write starts an operation -/

/-- A unit number within a count. -/
def finOf (k n : Nat) (h : 0 < k) : Fin k := ⟨n % k, Nat.mod_lt n h⟩

/-- A force register: one refusal for a write while forces are off, else its bits in order (R470). -/
def forceWrite (s : State) (b : By) (acts : List (State → State)) (v : Word32) : State :=
  if s.bit Reg.FAULT.CTRL.FORCE_EN 0 then
    (acts.zipIdx).foldl (fun s p => bitOn v p.2 p.1 s) s
  else raiseFault s Flt.SYS.PRIVWRITE b.lane.val 0

/-- Is the offset that of a force register? -/
def isForce (o : Nat) : Bool :=
  (0x100 ≤ o && o < 0x200 && o % 0x40 == 0x1C) || (0x100000 ≤ o && o < 0x101800 && o % 0x40 == 0x34) || o == 0x120040 ||
    (0x130000 ≤ o && o < 0x130400 && o % 0x40 == 0x2C) || (0x140000 ≤ o && o < 0x140C00 && o % 0x80 == 0x38) ||
    o == 0x16F000 || o == 0x50200 || o == 0x2E0048 || o == 0x28F000 || o == 0x2AF000 || o == 0x2CF000 || o == 0x3003C

/-- The operations of a force register's bits, bit 0 first. [log entry 115 DEDUCED] -/
def forceActs (b : By) (o : Nat) (v : Word32) : List (State → State) :=
  let f := fun (e : State → Result) (s : State) => after (e s) s
  if o < 0x200 then
    let n := finOf 4 ((o - 0x100) / 0x40) (by decide)
    [f (execInjResidue b n), f (execInjEcc1 b n), f (execInjEcc2 b n)]
  else if 0x100000 ≤ o ∧ o < 0x101800 then
    let n := finOf 96 ((o - 0x100000) / 0x40) (by decide)
    [f (execLswForceOpen b n), f (execLswForceShort b n), f (execLswForceTherm b n), f (execLswForceClamp b n)]
  else if o = 0x120040 then [f (execLedgerForceSegtrip b (BitVec.ofNat 8 (getBits v 8 8)))]
  else if 0x130000 ≤ o ∧ o < 0x130400 then
    let n := finOf 16 ((o - 0x130000) / 0x40) (by decide)
    [f (execHbrForceShort b n), f (execHbrForceTherm b n), f (execHbrForceStall b n)]
  else if 0x140000 ≤ o ∧ o < 0x140C00 then
    let n := finOf 24 ((o - 0x140000) / 0x80) (by decide)
    [f (execValveForceShort b n), f (execValveForceOpen b n), f (execValveForceTherm b n), f (execValveForceCoilhot b n)]
  else if o = 0x16F000 then
    let n := finOf 32 (getBits v 16 5) (by decide)
    [f (execLightForceOpen b n), f (execLightForceShort b n), f (execLightForceTherm b n), f (execLightForceLeak b n)]
  else if o = 0x50200 then [f (execJournalForceBank0 b), f (execJournalForceBank1 b)]
  else if o = 0x2E0048 then
    [f (execPowerForceVlane b), f (execPowerForceWakeline b), f (execPowerForceFalsewake b), f (execPowerForceMaxawake b),
      f (execPowerForceDescent b)]
  else if o = 0x28F000 then [f (execAccessForceFail b), f (execAccessForceAerial b), f (execAccessForceRelay b)]
  else if o = 0x2AF000 then [f (execKeysForceTrng b), f (execKeysForceSlotfail b), f (execKeysForceTamper b)]
  else if o = 0x2CF000 then [f (execUpdateForceStore b), f (execUpdateForceDigest b), f (execUpdateForceSelector b)]
  else []

/-- UPDATE.CMD.OP (R440). -/
def updateCmd (s : State) (b : By) (op : Nat) : State :=
  match op with
  | 1 => after (execUpdateBegin b s) s
  | 2 => after (execUpdateVerify b s) s
  | 3 => after (execUpdateAbort b s) s
  | 4 => after (execUpdateRecover b s) s
  | _ => s

/-- Two enabled entries of the token list would hold one TOKEN_ID (R415). -/
def tokenClash (s : State) : Bool :=
  let on := (upTo 16).filter fun k => s.bit Reg.ACCESS.TOK_CFG.EN k
  on.any fun k => on.any fun j => k != j && s.fld Reg.ACCESS.TOK_ID.ID k == s.fld Reg.ACCESS.TOK_ID.ID j

/-- The effects of a write that has been let through, `old` being the state before its fields were stored.
[log entry 116 DEDUCED] -/
def writeActs (old s : State) (b : By) (o : Nat) (v : Word32) : State :=
  let f := fun (e : State → Result) (s : State) => after (e s) s
  if o < 0x20000 then
    if o = 0x10020 then
      bitOn v 2 (f (execHoAbort b)) (bitOn v 1 (f (execHoArm b)) (bitOn v 0 (f (execLoad b)) s))
    else s
  else if o < 0x30000 then
    if o = 0x20030 then f (execUdcstart b (BitVec.ofNat 16 v.toNat)) s
    else if 0x2040C ≤ o ∧ o < 0x2050C ∧ o % 0x10 = 0x0C then
      let n := (o - 0x20400) / 0x10
      if s.bit Reg.TIME.UDC_CTRL.RUN n && !old.bit Reg.TIME.UDC_CTRL.RUN n then
        s.tm fun t => { t with udc := smapSet (fun _ => 0) t.udc n s.now }
      else s
    else if 0x20100 ≤ o ∧ o < 0x20400 ∧ o % 0x10 = 0x0C then cmpWritten s o
    else if 0x20800 ≤ o ∧ o < 0x20C00 ∧ o % 0x20 = 0x18 then
      if s.word o ≠ old.word o then capEmpty s ((o - 0x20800) / 0x20) else s
    else s
  else if o < 0x50000 then
    if o = 0x30030 then f (execFaultAck b (BitVec.ofNat 4 v.toNat)) s
    else if o = 0x30034 then f (execFaultAckone b (BitVec.ofNat 16 (v.toNat / 2 ^ 16)) (BitVec.ofNat 14 v.toNat)) s
    else if o = 0x40010 then bitOn v 1 (f (execLogClrdump b)) (bitOn v 0 (f (execLogClear b)) s)
    else s
  else if o < 0x60000 then
    if 0x50108 ≤ o ∧ o < 0x50140 ∧ o % 0x10 = 8 then
      let n : Fin 4 := finOf 4 ((o - 0x50100) / 0x10) (by decide)
      f (execOutPost { b with lane := n } (BitVec.ofNat 8 (v.toNat / 2 ^ 24)) (BitVec.ofNat 8 (v.toNat / 2 ^ 16))
        (BitVec.ofNat 16 v.toNat)) s
    else s
  else if o < 0x120000 then
    if o < 0x101800 ∧ o % 0x40 = 0x10 then bitOn v 31 (f (execReload (finOf 96 ((o - 0x100000) / 0x40) (by decide)))) s else s
  else if o < 0x130000 then
    if 0x120100 ≤ o ∧ o < 0x120140 ∧ o % 0x10 = 0 then
      let n : Fin 4 := finOf 4 ((o - 0x120100) / 0x10) (by decide)
      let ch := BitVec.ofNat 7 (v.toNat / 2 ^ 16)
      match getBits v 30 2 with
      | 1 => f (execLedgerAdmit n ch (BitVec.ofNat 16 v.toNat)) s
      | 2 => f (execLedgerRelease n ch) s
      | _ => s
    else s
  else if o < 0x140000 then
    if o < 0x130400 ∧ o % 0x40 = 0x1C ∧ b.priv then
      f (execPosWrite b (finOf 16 ((o - 0x130000) / 0x40) (by decide)) v) (s.setWord o (old.word o))
    else s
  else if 0x200200 ≤ o ∧ o < 0x200400 ∧ o % 0x40 = 0 then
    bitOn v 3 (f (execCanRecover b (finOf 8 ((o - 0x200200) / 0x40) (by decide)))) s
  else if o = 0x280000 then bitOn v 1 (f (execRoundAbort b)) s
  else if o = 0x280040 then bitOn v 0 (f (execImmoGo b)) s
  else if 0x280200 ≤ o ∧ o < 0x280280 then if tokenClash s then s.setWord o (old.word o) else s
  else if o = 0x2A0004 then keyStart s (getBits v 28 4) (getBits v 16 6) (getBits v 8 6) (getBits v 4 3) (getBits v 0 2)
  else if o = 0x2A0400 then crqStart s b (getBits v 28 4) (getBits v 16 6)
  else if o = 0x2C0004 then updateCmd s b (getBits v 0 4)
  else if o = 0x2C0034 then bitOn v 0 (f (execStagingPush b)) s
  else if o = 0x2E0008 then bitOn v 0 (f (execSleepArm b)) s
  else if o = 0x2E0018 then
    if s.fld Reg.POWER.WAKEREASON.REASON 0 = 0 then
      s.setFlds [(Reg.POWER.WAKEREASON.FIRST, 0, 0xF), (Reg.POWER.WAKEDETAIL.UNIT, 0, 0xFF)]
    else s
  else if o = 0x2E0030 then
    bitOn v 0 (f (execPowerAbort b)) (bitOn v 1 (f (execPowerKeep b)) (bitOn v 2 (f (execPowerPulse b)) s))
  else s

/-- A write of a register that the map names. -/
def rowWrite (s : State) (b : By) (r : RegRow) (o : Nat) (v : Word32) : State :=
  if b.plain && isStaged r then raiseFault s Flt.TICK.PLAINSTAGE b.lane.val 0
  else
    let bad := !b.priv && aliasFault r (s.word o) v
    let s := if bad then raiseFault s Flt.SYS.PRIVWRITE b.lane.val 0 else s
    if !b.priv && r.shown != 1 then s
    else if isForce o then
      if o = 0x3003C then
        after (execFaultForce b (BitVec.ofNat 16 (v.toNat / 2 ^ 16)) (finOf 4 (getBits v 14 2) (by decide)) (BitVec.ofNat 14 v.toNat) s) s
      else
        let t := if s.bit Reg.FAULT.CTRL.FORCE_EN 0 then s.setWord o (storedWord r b.priv (s.word o) v) else s
        forceWrite t b (forceActs b o v) v
    else if pairLow o then holdLow s b v
    else if 4 ≤ o ∧ pairLow (o - 4) then commitPair s b o v
    else
      let lim := lswLimited s o (v ^^^ macDefault o)
      let old := s
      let s := if isStaged r then noteStaged s b.lane.val o else s
      let s := s.setWord o (storedWord r b.priv (s.word o) lim.1)
      let s := if lim.2 then raiseFault s Flt.LSW.CFG ((o - 0x100000) / 0x40) 0 else s
      writeActs old s b o v

/-- A register write that takes effect: by view, lane and bank, at a window offset (R12, R15, R34). Where no register is named, it
has no effect. -/
def regWrite (s : State) (b : By) (o : Nat) (v : Word32) : State :=
  if isUcode o ∧ o % 4 = 0 then
    let k := o - 0x148000
    after (execMicrocodeWrite b (finOf 4 (k / 0x1000) (by decide)) (BitVec.ofNat 9 (k % 0x1000 / 8)) (decide (k % 8 = 4)) v s) s
  else
    match regRow o with
    | none => s
    | some r => rowWrite s b r o v

/-- REGISTER_WRITE (R12, R15, R43, R98): a write of a register. -/
def execRegisterWrite (by_ : By) (off : BitVec 22) (val : Word32) (s : State) : Result :=
  .next (regWrite s by_ (off.toNat / 4 * 4) val)

/-- PAIR_HIGH_WRITE (R293): a write of the high word of pair. -/
def execPairHighWrite (by_ : By) (off : BitVec 22) (val : Word32) (s : State) : Result :=
  let o := off.toNat / 4 * 4
  .next (if 4 ≤ o ∧ pairLow (o - 4) then regWrite s by_ o val else s)

/-- READ_CLEAR (R12, R14, R15): a lane reads a register; its RC fields are cleared. -/
def execReadClear (by_ : By) (off : BitVec 22) (s : State) : Result := .next (laneRead s by_ (off.toNat / 4 * 4)).2

/-- GROUP_FIRST_READ (R292): a lane reads the first word of a latched group. -/
def execGroupFirstRead (by_ : By) (off : BitVec 22) (s : State) : Result :=
  let o := off.toNat / 4 * 4
  match groupOf o with
  | some (g, _) => .next (if g = o then (laneRead s by_ o).2 else s)
  | none => .next s

end Sys2Proof.Machine
end

