-- ==== Sys2Proof/Machine/LaneLoss.lean ====
section
/-!
DEFINITION. A lane leaves service (R52, R63, R64, R99, R130, R135 to R139), and the correction counts of its memories.
-/
namespace Sys2Proof.Machine

/-- The saved plains contexts are discarded, with bank P of every lane that is not running a plain (R130).
[log entry 22 DEDUCED] -/
def dropContexts (s : State) : State :=
  (dropPlains s).each (fun s n =>
    let l := s.lane n
    if l.plain then s else s.setLane n { l with gP := [], pP := 0 }) (upTo 4)

/-- What a lane staged in this tick is discarded, newest word first, and its words keep what the power dies act on until another
lane stages them (R63). -/
def dropStaged (s : State) (n : Nat) : State :=
  let mine := fun o => smapGet (fun _ => 0) s.seq.owner o == n + 1
  let s := (s.seq.staged.filter fun e => e.1 == n && mine e.2.1).foldl (fun s e => s.setWord e.2.1 e.2.2) s
  let own := (s.seq.owner.filter fun p => p.2 == n + 1).map Prod.fst
  let s := own.foldl (fun s o => { s with frz := smapSet regReset s.frz o (s.effWord o) }) s
  { s with seq := { s.seq with
    staged := s.seq.staged.filter fun e => e.1 != n, owner := s.seq.owner.filter fun p => p.2 != n + 1 } }

/-- The sequencer's answer to the loss of lane `n` (R51, R52, R64, R77): the first lane lost is shown, the narrows switch is due,
and a loss that leaves fewer than three lanes stops a running plan. [log entry 46 DEDUCED] -/
def sequencerLoss (s : State) (n : Nat) : State :=
  let left := (lanesIn s).length
  let s := showLanes s
  let s := if left = 3 then s.setFld Reg.TICK.STATUS.LOST_LANE 0 n else s
  let runs := s.seqState == seqRun || s.seqState == seqNarrows
  if left < 3 then
    raiseFault (if runs then s.enter seqStopped else s) Flt.TICK.LANES n 2
  else if s.seqState = seqRun then { s with seq := { s.seq with lossAt := some s.now } }
  else s

/-- The source of a lane fault, and its class (R136). -/
def laneFaultSource : LaneFaultKind → Nat × Nat
  | .residue => (Flt.SYS.LANERES, 1)
  | .uncorrectable => (Flt.SYS.LANEUNCORR, 1)
  | .memory => (Flt.SYS.MEMUNCORR, 2)
  | .clock => (Flt.SYS.LANECLK, 1)

/-- A lane fault of lane `n` at the present count D (R63, R135 to R137). -/
def laneLoss (s : State) (n : Nat) (k : LaneFaultKind) : State :=
  if !(s.lane n).inService || s.boot != 0 then s
  else
    let s := laneHalt (dropInFlight s [n]) n
    let s := s.setLane n { s.lane n with inService := false }
    let s := dropStaged (dropContexts s) n
    let (src, cls) := laneFaultSource k
    sequencerLoss (raiseFault s src n cls) n

/-- Count a correction on a read of a lane's local data memory; reaching 0xFF is raised once (R139). -/
def dmemCorrected (s : State) (n : Nat) : State :=
  let was := s.fld Reg.SYS.LANE_ECC.DMEM n
  let s := s.satAdd Reg.SYS.LANE_ECC.DMEM n 1
  if was = 0xFE then raiseFault s Flt.SYS.LANEECC n 0 else s

/-- The error that a granule of local data memory holds: 0 none, 1 single-bit, 2 uncorrectable, 3 single-bit, corrected by a read
and waiting for the scrubber (R91, R139). -/
def dmemErrAt (s : State) (n off : Nat) : Nat := smapGet (fun _ => 0) s.dmemErr (n * 32768 + off / 8)
def setDmemErr (s : State) (n off v : Nat) : State :=
  { s with dmemErr := smapSet (fun _ => 0) s.dmemErr (n * 32768 + off / 8) v }

/-- The scrubber rewrites the corrected words of a lane's local data memory (R91). -/
def scrub (s : State) (n : Nat) : State :=
  { s with dmemErr := s.dmemErr.filter fun p => !(p.1 / 32768 == n && p.2 == 3) }

end Sys2Proof.Machine
end

