-- ==== Sys2Proof/Machine/LaneMem.lean ====
section
/-!
DEFINITION. The lanes' registers and the operations in flight: windows, slots of the shared-memory wheel, and what takes effect
in which lane cycle (R31, R82 to R91, R107, R113, R117 to R123, R136 to R140, R496 to R498).
-/
namespace Sys2Proof.Machine

/-! ### Registers of a lane (R107) -/

/-- General register `r` of a bank; g0 reads as zero. -/
def Lane.gpr (l : Lane) (plain : Bool) (r : Nat) : Word :=
  if r = 0 then 0 else smapGet (fun _ => (0 : Word)) (if plain then l.gP else l.gS) r

/-- Write a general register of a bank; a write to g0 is discarded. -/
def Lane.setGpr (l : Lane) (plain : Bool) (r : Nat) (v : Word) : Lane :=
  if r = 0 then l
  else if plain then { l with gP := smapSet (fun _ => (0 : Word)) l.gP r v }
  else { l with gS := smapSet (fun _ => (0 : Word)) l.gS r v }

/-- Predicate `p` of a bank; p0 reads as 1. -/
def Lane.prd (l : Lane) (plain : Bool) (p : Nat) : Bool := p == 0 || (if plain then l.pP else l.pS).getLsbD p

/-- A byte with one bit set to a value. -/
def withBit (b : Byte) (i : Nat) (v : Bool) : Byte :=
  if v then b ||| BitVec.ofNat 8 (2 ^ i) else b &&& ~~~(BitVec.ofNat 8 (2 ^ i))

/-- Write a predicate of a bank; a write to p0 is discarded. -/
def Lane.setPrd (l : Lane) (plain : Bool) (p : Nat) (v : Bool) : Lane :=
  if p = 0 then l
  else if plain then { l with pP := withBit l.pP p v }
  else { l with pS := withBit l.pS p v }

/-! ### Cycles and slots (R78, R86, R87) -/

/-- The count in which a lane cycle falls. -/
def countOf (s : State) (c : Nat) : Nat := s.colCount + (c - s.seq.tickCyc) / s.seq.k

/-- The first cycle after `c` that the lane owns on the wheel; past the col, its first position of the next tick. -/
def nextSlot (s : State) (n c : Nat) : Nat :=
  let p := c - s.seq.tickCyc
  let d := ((upTo 10).map (· + 1)).find? fun d => (p + d) % 10 == n || (p + d) % 10 == n + 4
  let t := s.seq.k * s.seq.period
  s.seq.tickCyc + (if t ≤ p + d.getD 10 then t + n else p + d.getD 10)

/-! ### Windows (R31) -/

/-- A window of the lane address map. -/
inductive Window where
  | imem | dmem | shared | plan | regs (priv : Bool) | mram | outside
  deriving DecidableEq, Repr

/-- The window that holds an address, and the offset in it. -/
def windowOf (a : Nat) : Window × Nat :=
  if a < 0x40000 then (.imem, a)
  else if 0x10000000 ≤ a ∧ a < 0x10040000 then (.dmem, a - 0x10000000)
  else if 0x20000000 ≤ a ∧ a < 0x20200000 then (.shared, a - 0x20000000)
  else if 0x30000000 ≤ a ∧ a < 0x30100000 then (.plan, a - 0x30000000)
  else if 0x40000000 ≤ a ∧ a < 0x40400000 then (.regs true, a - 0x40000000)
  else if 0x50000000 ≤ a ∧ a < 0x50400000 then (.regs false, a - 0x50000000)
  else if 0x60000000 ≤ a ∧ a < 0x61800000 then (.mram, a - 0x60000000)
  else (.outside, a)

/-- Is the access not on the shared path (R83)? -/
def localWindow (w : Window) : Bool := w == .dmem || w == .plan

/-- Byte `o` of the plan-table window (R31, R32, R268). -/
def planByte (s : State) (o : Nat) : Byte :=
  if 0xFF000 ≤ o then rdByte s.calCopy (o - 0xFF000) else Config.planWindowByte s.plan.img s.seq.narrows o

/-- Byte `o` of the MRAM windows: the merged view, then the banks (R31, R33). -/
def mramByte (s : State) (o : Nat) : Byte :=
  if o < 0x800000 then jByte s o else bankByte s (o / 0x800000 - 1) (o % 0x800000)

/-- Bytes as a number, the first the least significant (R8). -/
def leNat (l : List Byte) : Nat := l.foldr (fun b v => b.toNat + 256 * v) 0

/-- A number of `size` bytes as a lane word, sign-extended or not. -/
def extendTo (size : Nat) (sgn : Bool) (v : Nat) : Word := if sgn then BitVec.ofInt 64 (signed (8 * size) v) else BitVec.ofNat 64 v

/-! ### Operations in flight -/

/-- Is event `x` to act before event `y`? By cycle, by order within the cycle, by cycle of issue. -/
def evBefore (x y : LaneEv) : Bool :=
  x.due < y.due || (x.due == y.due && (x.prio < y.prio || (x.prio == y.prio && x.issue < y.issue)))

/-- Put an event behind those that act before it or are its equals. -/
def evInsert (e : LaneEv) : List LaneEv → List LaneEv
  | [] => [e]
  | x :: l => if evBefore e x then e :: x :: l else x :: evInsert e l

/-- The order of acts within a cycle: samples at a slot, port B, stores that land, the judgement of a SC, the rest (R88, R90,
R123, R496). -/
def actPrio : LaneAct → Nat
  | .shLoad _ _ _ _ _ | .mramLoad _ _ _ _ _ | .lr _ _ _ | .tas _ _ _ | .regRead _ _ _ _ _ => 0
  | .portB _ _ => 1
  | .land _ _ _ => 2
  | .sc _ _ _ _ => 3
  | _ => 4

/-- Schedule an act of a lane's operation issued at cycle `c`. -/
def inFlight (s : State) (lane c due : Nat) (a : LaneAct) : State :=
  { s with laneEv := evInsert { due := due, prio := actPrio a, issue := c, lane := lane, act := a } s.laneEv }

/-- A write to shared memory by `writer` breaks other lanes' reservations on the granules it touches (R123). -/
def breakResv (s : State) (writer a size : Nat) : State :=
  s.each (fun s n =>
    match (s.lane n).resv with
    | some r =>
      if n ≠ writer ∧ a / 8 ≤ r.gran ∧ r.gran ≤ (a + size - 1) / 8 then s.setLane n { s.lane n with resv := some { r with broken := true } }
      else s
    | none => s) (upTo 4)

/-- A local store is written (R82, R498): narrower than 64 bits it reads its word first, and an injected error marks it (R140). -/
def dstoreAct (s : State) (n off size : Nat) (v : Word) : State :=
  let err := dmemErrAt s n off
  if size < 8 ∧ err = 2 then laneLoss s n .uncorrectable
  else
    let s := if size < 8 ∧ err ≠ 0 then dmemCorrected s n else s
    let l := s.lane n
    let s := { s with dmem := wrLE s.dmem (n * laneSize + off) v.toNat size }
    let s := setDmemErr s n off (if l.ecc2 then 2 else if l.ecc1 then 1 else 0)
    s.setLane n { s.lane n with ecc1 := false, ecc2 := false }

/-- The register access of a lane. -/
def byOf (n : Nat) (priv plain : Bool) : By := { priv := priv, lane := finOf 4 n (by decide), plain := plain }

/-- What happens at the cycle of an event. -/
def laneAct (s : State) (e : LaneEv) : State :=
  let n := e.lane
  match e.act with
  | .gpr plain rd v => s.setLane n ((s.lane n).setGpr plain rd v)
  | .pred plain pd v => s.setLane n ((s.lane n).setPrd plain pd v)
  | .shLoad plain rd a size sgn => inFlight s n e.issue (e.due + 5) (.gpr plain rd (extendTo size sgn (rdLE s.shared a size)))
  | .mramLoad plain rd a size sgn =>
    inFlight s n e.issue (e.due + 48) (.gpr plain rd (extendTo size sgn (leNat ((upTo size).map fun i => mramByte s (a + i)))))
  | .lr plain rd a =>
    let s := s.setLane n { s.lane n with resv := some { gran := a / 8, slot := e.due, broken := false } }
    inFlight s n e.issue (e.due + 5) (.gpr plain rd (extendTo 8 false (rdLE s.shared a 8)))
  | .tas plain rd a =>
    let old := extendTo 8 false (rdLE s.shared a 8)
    inFlight (inFlight s n e.issue (e.due + 5) (.gpr plain rd old)) n e.issue (e.due + 2) (.land a 8 (old ||| 1))
  | .sc plain pd a v =>
    let ok := match (s.lane n).resv with
      | some r => r.gran == a / 8 && !r.broken
      | none => false
    let s := s.setLane n { s.lane n with resv := none }
    let s := if ok then inFlight s n e.issue (e.due + 2) (.land a 8 v) else s
    inFlight s n e.issue (e.due + 5) (.pred plain pd ok)
  | .land a size v => breakResv { s with shared := wrLE s.shared a v.toNat size } n a size
  | .dstore a size v => dstoreAct s n a size v
  | .portB a bs => breakResv { s with shared := wrBytes s.shared a bs } 4 a bs.length
  | .regRead plain rd off priv sgn =>
    let r := laneRead s (byOf n priv plain) off
    inFlight r.2 n e.issue (e.due + 8) (.gpr plain rd (extendTo 4 sgn r.1.toNat))
  | .regWrite plain priv off v => regWrite s (byOf n priv plain) off v
  | .resFault => laneLoss s n .residue

/-- An event acts at the count of its cycle. -/
def laneActAt (s : State) (e : LaneEv) : State :=
  let s' := laneAct { s with now := countOf s e.due } e
  { s' with now := max s'.now s.now }

/-- Let everything act that is due up to cycle `c`, in order. -/
def settleFuel : Nat → Nat → State → State
  | 0, _, s => s
  | k + 1, c, s =>
    match s.laneEv with
    | [] => s
    | e :: r => if e.due ≤ c then settleFuel k c (laneActAt { s with laneEv := r } e) else s

/-- Let everything act that is due up to cycle `c`; an event is followed by at most three others. [log entry 14 DEDUCED] -/
def settleTo (s : State) (c : Nat) : State := settleFuel (4 * s.laneEv.length) c s

/-- Let everything act that is due before count `c`. -/
def settleCount (s : State) (c : Nat) : State :=
  let x := cycleAt s c
  if x = 0 then s else settleTo s (x - 1)

end Sys2Proof.Machine
end

