-- ==== Sys2Proof/Machine/Lane.lean ====
section
/-!
DEFINITION. How a lane issues a bundle (R81 to R85, R109 to R115, R120 to R135, R497): what each operation does, traps, branches,
the end of blocks and plains.
-/
namespace Sys2Proof.Machine

/-! ### The bundle being issued -/

/-- A bundle: physical lane, lane cycle, the lane as it stands, its address, the address behind it, and whether it stands in a
delay slot. -/
structure Ctx where
  n : Nat
  c : Nat
  l : Lane
  pc : Nat
  next : Nat
  inSlot : Bool

/-- What a bundle has done so far: the state, operations trapped with cause and data address, an end by ENDB (1) or WAIT (2),
DROPP, a branch with its target if taken, and whether the lane has been lost. -/
structure Acc where
  st : State
  traps : List (Nat × Nat)
  stop : Nat
  drop : Bool
  branch : Option (Option Word)
  lost : Bool

/-- A bundle that has done nothing yet. -/
def Acc.start (s : State) : Acc := { st := s, traps := [], stop := 0, drop := false, branch := none, lost := false }

/-- One more trapped operation. -/
def Acc.trap (a : Acc) (cause addr : Nat) : Acc := { a with traps := a.traps ++ [(cause, addr)] }

/-- The guard of an operation (R114). -/
def Ctx.guard (x : Ctx) (o : Op) : Bool := x.l.prd x.l.plain o.pred.val != o.neg

/-- Sources (R113). -/
def Ctx.g (x : Ctx) (r : Nat) : Word := x.l.gpr x.l.plain r
def Ctx.p (x : Ctx) (i : Nat) : Bool := x.l.prd x.l.plain i
def Ctx.ra (x : Ctx) (o : Op) : Word := x.g o.ra
def Ctx.rb (x : Ctx) (o : Op) : Word := x.g o.rb
def Ctx.rd (x : Ctx) (o : Op) : Word := x.g o.rd

/-- Schedule an act of this bundle. -/
def Acc.put (a : Acc) (x : Ctx) (due : Nat) (e : LaneAct) : Acc := { a with st := inFlight a.st x.n x.c due e }

/-- A result for a general register, `lat` cycles after issue; a residue error that was injected is found as it would be
written (R82, R138, R140). -/
def Acc.gpr (a : Acc) (x : Ctx) (y : Syl) (v : Word) : Acc :=
  let l := a.st.lane x.n
  let due := x.c + latencyOf y.kind
  if residueChecked y.kind && l.residue then
    ({ a with st := a.st.setLane x.n { l with residue := false } } : Acc).put x due .resFault
  else a.put x due (.gpr x.l.plain y.op.rd v)

/-- A guarded operation that writes a general register. -/
def putGpr (x : Ctx) (y : Syl) (v : Word) (a : Acc) : Acc := if x.guard y.op then a.gpr x y v else a

/-- A guarded operation that writes a predicate. -/
def putPred (x : Ctx) (y : Syl) (v : Bool) (a : Acc) : Acc :=
  if x.guard y.op then a.put x (x.c + 1) (.pred x.l.plain y.op.pd v) else a

/-- A divide or remainder: it occupies the divider whether it is performed or not (R83, R114). -/
def putDiv (x : Ctx) (y : Syl) (v : Word) (a : Acc) : Acc :=
  let l := a.st.lane x.n
  let busy := decide (x.c < l.divUntil)
  let a := { a with st := a.st.setLane x.n { l with divUntil := x.c + 20 } }
  if !x.guard y.op then a else if busy then a.trap 0x07 0 else a.gpr x y v

/-! ### Memory operations (R117 to R123, R129, R132, R497) -/

/-- The plains store window of a lane holds `size` bytes at an offset (R129). -/
def inPwin (s : State) (n off size : Nat) : Bool :=
  s.fld Reg.SYS.LANE_PWIN.BASE n * 1024 ≤ off && off + size ≤ s.fld Reg.SYS.LANE_PWIN.LIMIT n * 1024

/-- The cause for which an access traps, the first of R497 that applies; 0 for none. -/
def memCause (x : Ctx) (s : State) (slot : Slot) (addr : Word) (size : Nat) (writes atomic : Bool) : Nat :=
  let low := addr.toNat % 2 ^ 32
  let (w, off) := windowOf low
  let regw := w == .regs true || w == .regs false
  if slot == .d && !localWindow w && decide (x.c < (s.lane x.n).pathUntil) then 0x07
  else if w == .outside || w == .imem || (writes && (w == .plan || w == .mram)) || (regw && regHole off) then 0x01
  else if (slot == .c && !localWindow w) || (atomic && w != .shared) then 0x05
  else if !x.l.plain && (w == .mram || (regw && 0x300000 ≤ off && off < 0x320000)) then 0x06
  else if !x.l.priv && (w == .mram || w == .regs true) then 0x02
  else if regw && size != 4 then 0x04
  else if addr.toNat / 2 ^ 32 != 0 || low % size != 0 then 0x03
  else if x.l.plain && writes && w == .dmem && !inPwin s x.n off size then 0x0C
  else 0

/-- A memory operation: it holds the shared path whether it is performed or not (R83, R119), traps, or acts on its window with the
offset and the slot of the wheel. `sum` says that its address is a sum, which a residue checks (R138).
[log entry 21 DEDUCED] -/
def memIssue (x : Ctx) (y : Syl) (addr : Word) (size : Nat) (writes atomic sum : Bool)
    (act : Window → Nat → Nat → Acc → Acc) (a : Acc) : Acc :=
  let low := addr.toNat % 2 ^ 32
  let (w, off) := windowOf low
  let cause := memCause x a.st y.op.slot addr size writes atomic
  let slot := nextSlot a.st x.n x.c
  let l := a.st.lane x.n
  let a := if y.op.slot == .d && !localWindow w then
      { a with st := a.st.setLane x.n { l with pathUntil := max l.pathUntil (if w == .mram then slot + 48 else slot) } }
    else a
  if !x.guard y.op then a
  else if sum && l.residue then
    { a with st := laneLoss (a.st.setLane x.n { a.st.lane x.n with residue := false }) x.n .residue, lost := true }
  else if cause ≠ 0 then a.trap cause low
  else act w off slot a

/-- A load of local data memory: the value it finds at issue comes at c + 3; a word that cannot be corrected takes the lane out
(R82, R139). -/
def localLoad (x : Ctx) (rd off size : Nat) (sgn : Bool) (a : Acc) : Acc :=
  match dmemErrAt a.st x.n off with
  | 2 => { a with st := laneLoss a.st x.n .uncorrectable, lost := true }
  | e =>
    let s := if e = 0 then a.st else setDmemErr (dmemCorrected a.st x.n) x.n off 3
    ({ a with st := s } : Acc).put x (x.c + 3) (.gpr x.l.plain rd (extendTo size sgn (rdLE s.dmem (x.n * laneSize + off) size)))

/-- What a load does in its window. -/
def loadAct (x : Ctx) (rd size : Nat) (sgn : Bool) (w : Window) (off slot : Nat) (a : Acc) : Acc :=
  match w with
  | .dmem => localLoad x rd off size sgn a
  | .plan => a.put x (x.c + 4) (.gpr x.l.plain rd (extendTo size sgn (leNat ((upTo size).map fun i => planByte a.st (off + i)))))
  | .shared => a.put x slot (.shLoad x.l.plain rd off size sgn)
  | .regs priv => a.put x slot (.regRead x.l.plain rd off priv sgn)
  | .mram => a.put x slot (.mramLoad x.l.plain rd off size sgn)
  | _ => a

/-- What a store does in its window. -/
def storeAct (x : Ctx) (v : Word) (size : Nat) (w : Window) (off slot : Nat) (a : Acc) : Acc :=
  match w with
  | .dmem => a.put x (x.c + 1) (.dstore off size v)
  | .shared => a.put x (slot + 2) (.land off size v)
  | .regs priv => a.put x (slot + 3) (.regWrite x.l.plain priv off (v.setWidth 32))
  | _ => a

/-- The address of format M: base plus offset in units of the access (R117). -/
def addrM (x : Ctx) (o : Op) (size : Nat) : Word := x.ra o + o.imm6 * BitVec.ofNat 64 size

/-- The address of format MX. -/
def addrMx (x : Ctx) (o : Op) : Word := x.ra o + x.rb o

def opLoad (x : Ctx) (y : Syl) (size : Nat) (sgn : Bool) (a : Acc) : Acc :=
  memIssue x y (addrM x y.op size) size false false true (loadAct x y.op.rd size sgn) a

def opStore (x : Ctx) (y : Syl) (size : Nat) (a : Acc) : Acc :=
  memIssue x y (addrM x y.op size) size true false true (storeAct x (x.rd y.op) size) a

def opLddx (x : Ctx) (y : Syl) (a : Acc) : Acc :=
  memIssue x y (addrMx x y.op) 8 false false true (loadAct x y.op.rd 8 false) a

def opStdx (x : Ctx) (y : Syl) (a : Acc) : Acc :=
  memIssue x y (addrMx x y.op) 8 true false true (storeAct x (x.rd y.op) 8) a

/-- TAS (R121). -/
def opTas (x : Ctx) (y : Syl) (a : Acc) : Acc :=
  memIssue x y (addrM x y.op 8) 8 true true true (fun _ off slot a => a.put x slot (.tas x.l.plain y.op.rd off)) a

/-- LR (R122). -/
def opLr (x : Ctx) (y : Syl) (a : Acc) : Acc :=
  memIssue x y (addrM x y.op 8) 8 false true true (fun _ off slot a => a.put x slot (.lr x.l.plain y.op.rd off)) a

/-- SC (R122): format MS, its address is ra alone. -/
def opSc (x : Ctx) (y : Syl) (a : Acc) : Acc :=
  memIssue x y (x.ra y.op) 8 true true false (fun _ off slot a => a.put x slot (.sc x.l.plain y.op.pd off (x.rb y.op))) a

/-! ### Control operations (R82, R112, R115, R124 to R126) -/

/-- A word of a lane's code as the lane fetches it (R61). -/
def codeWord (s : State) (n a : Nat) : Word32 :=
  let a := if s.seq.narrows && (s.lane n).logical == n && 0x20000 ≤ a && a < 0x30000 then a + 0x10000 else a
  if laneSize < a + 4 then 0 else BitVec.ofNat 32 (rdLE s.imem (n * laneSize + a) 4)

/-- The words of the bundle that stands at an address in memory (R110). -/
def bundleLen (s : State) (n : Nat) : Nat → Nat → Nat
  | 0, _ => 0
  | k + 1, a => if stopBit (codeWord s n a) then 1 else 1 + bundleLen s n k (a + 4)

/-- The return address: behind the second delay-slot bundle in memory (R115). [log entry 16 DEDUCED] -/
def returnAddr (s : State) (n next : Nat) : Word :=
  let a := next + 4 * bundleLen s n 8 next
  BitVec.ofNat 64 ((a + 4 * bundleLen s n 8 a) % 2 ^ 32)

/-- A control operation: in a delay slot it traps (R132). [log entries 17 DEDUCED, 18 DEDUCED] -/
def control (x : Ctx) (y : Syl) (act : Acc → Acc) (a : Acc) : Acc :=
  if !x.guard y.op then a else if x.inSlot then a.trap 0x0A 0 else act a

/-- A branch: with a false guard its delay slots still issue (R82, R114). -/
def branchTo (x : Ctx) (y : Syl) (target : Word) (link : Bool) (a : Acc) : Acc :=
  if !x.guard y.op && !x.inSlot then { a with branch := some none }
  else control x y (fun a =>
    let a := { a with branch := some (some target) }
    if link then a.put x (x.c + 1) (.gpr x.l.plain 63 (returnAddr a.st x.n x.next)) else a) a

/-- The target of BR and BRL: an offset in syllables from the branch's bundle. -/
def relTarget (x : Ctx) (o : Op) : Word := BitVec.ofNat 64 (((x.pc : Int) + 4 * o.off18) % 2 ^ 32).toNat

def opBr (x : Ctx) (y : Syl) (a : Acc) : Acc := branchTo x y (relTarget x y.op) false a
def opBrl (x : Ctx) (y : Syl) (a : Acc) : Acc := branchTo x y (relTarget x y.op) true a
def opBri (x : Ctx) (y : Syl) (a : Acc) : Acc := branchTo x y (x.ra y.op) false a
def opBril (x : Ctx) (y : Syl) (a : Acc) : Acc := branchTo x y (x.ra y.op) true a
def opEndb (x : Ctx) (y : Syl) (a : Acc) : Acc := control x y (fun a => { a with stop := 1 }) a
def opWait (x : Ctx) (y : Syl) (a : Acc) : Acc :=
  control x y (fun a => if x.l.plain then a.trap 0x0E 0 else { a with stop := 2 }) a
def opDropp (x : Ctx) (y : Syl) (a : Acc) : Acc := control x y (fun a => { a with drop := true }) a
def opTrap (x : Ctx) (y : Syl) (a : Acc) : Acc := control x y (fun a => a.trap 0x0D 0) a

/-- RDCYC (R78, R115). -/
def opRdcyc (x : Ctx) (y : Syl) (a : Acc) : Acc := putGpr x y (BitVec.ofNat 64 (x.c - a.st.seq.tickCyc)) a

/-- RDLANE (R115). -/
def laneIdentity (x : Ctx) (narrows : Bool) : Word :=
  let b := fun (p : Bool) (v : Nat) => if p then v else 0
  BitVec.ofNat 64 (x.n + 4 * (x.l.logical % 4) + b narrows 16 + b x.l.priv 32 + b x.l.plain 64)
def opRdlane (x : Ctx) (y : Syl) (a : Acc) : Acc := putGpr x y (laneIdentity x a.st.seq.narrows) a

/-- PSET: each of p1 to p7. -/
def opPset (x : Ctx) (y : Syl) (a : Acc) : Acc :=
  if x.guard y.op then
    [1, 2, 3, 4, 5, 6, 7].foldl (fun a i => a.put x (x.c + 1) (.pred x.l.plain i (predUnpack (x.ra y.op) i))) a
  else a

/-- SEL reads its guard as a selector and always executes (R114). -/
def opSel (x : Ctx) (y : Syl) (a : Acc) : Acc := a.gpr x y (resSel (x.guard y.op) (x.ra y.op) (x.rb y.op))

/-! ### Every operation (R115) -/

/-- Operations on general registers. -/
def opArith (x : Ctx) (y : Syl) (a : Acc) : Acc :=
  let o := y.op
  match y.kind with
  | .add => putGpr x y (resAdd (x.ra o) (x.rb o)) a
  | .addi => putGpr x y (resAddi (x.ra o) o.imm6) a
  | .sub => putGpr x y (resSub (x.ra o) (x.rb o)) a
  | .and => putGpr x y (resAnd (x.ra o) (x.rb o)) a
  | .andi => putGpr x y (resAndi (x.ra o) o.imm6) a
  | .or => putGpr x y (resOr (x.ra o) (x.rb o)) a
  | .ori => putGpr x y (resOri (x.ra o) o.imm6) a
  | .xor => putGpr x y (resXor (x.ra o) (x.rb o)) a
  | .xori => putGpr x y (resXori (x.ra o) o.imm6) a
  | .shl => putGpr x y (resShl (x.ra o) (x.rb o)) a
  | .shli => putGpr x y (resShli (x.ra o) o.sh) a
  | .shr => putGpr x y (resShr (x.ra o) (x.rb o)) a
  | .shri => putGpr x y (resShri (x.ra o) o.sh) a
  | .sar => putGpr x y (resSar (x.ra o) (x.rb o)) a
  | .sari => putGpr x y (resSari (x.ra o) o.sh) a
  | .mov => putGpr x y (resMov (x.ra o)) a
  | .li => putGpr x y (resLi o.imm12) a
  | .lih => putGpr x y (resLih (x.rd o) (o.opnd.toNat % 4096)) a
  | .min => putGpr x y (resMin (x.ra o) (x.rb o)) a
  | .max => putGpr x y (resMax (x.ra o) (x.rb o)) a
  | .minu => putGpr x y (resMinu (x.ra o) (x.rb o)) a
  | .maxu => putGpr x y (resMaxu (x.ra o) (x.rb o)) a
  | .abs => putGpr x y (resAbs (x.ra o)) a
  | .clz => putGpr x y (resClz (x.ra o)) a
  | .popc => putGpr x y (resPopc (x.ra o)) a
  | .sext => putGpr x y (resSext (x.ra o) o.sh) a
  | .adds => putGpr x y (resAdds (x.ra o) (x.rb o)) a
  | .subs => putGpr x y (resSubs (x.ra o) (x.rb o)) a
  | .mul => putGpr x y (resMul (x.ra o) (x.rb o)) a
  | .mulhs => putGpr x y (resMulhs (x.ra o) (x.rb o)) a
  | .mulhu => putGpr x y (resMulhu (x.ra o) (x.rb o)) a
  | .div => putDiv x y (resDiv (x.ra o) (x.rb o)) a
  | .divu => putDiv x y (resDivu (x.ra o) (x.rb o)) a
  | .rem => putDiv x y (resRem (x.ra o) (x.rb o)) a
  | .remu => putDiv x y (resRemu (x.ra o) (x.rb o)) a
  | .pget => putGpr x y (predPack x.p) a
  | _ => a

/-- Compares and operations on predicates. -/
def opCompare (x : Ctx) (y : Syl) (a : Acc) : Acc :=
  let o := y.op
  match y.kind with
  | .cmpeq => putPred x y (predEq (x.ra o) (x.rb o)) a
  | .cmpne => putPred x y (predNe (x.ra o) (x.rb o)) a
  | .cmplt => putPred x y (predLt (x.ra o) (x.rb o)) a
  | .cmple => putPred x y (predLe (x.ra o) (x.rb o)) a
  | .cmpltu => putPred x y (predLtu (x.ra o) (x.rb o)) a
  | .cmpleu => putPred x y (predLeu (x.ra o) (x.rb o)) a
  | .cmpeqi => putPred x y (predEqi (x.ra o) o.imm6) a
  | .cmplti => putPred x y (predLti (x.ra o) o.imm6) a
  | .tstb => putPred x y (predBit (x.ra o) o.sh) a
  | .pand => putPred x y (predAnd (x.p o.pa) (x.p o.pb)) a
  | .por => putPred x y (predOr (x.p o.pa) (x.p o.pb)) a
  | .pnot => putPred x y (predNot (x.p o.pa)) a
  | _ => a

/-- Memory operations. -/
def opMemory (x : Ctx) (y : Syl) (a : Acc) : Acc :=
  match y.kind with
  | .ldb => opLoad x y 1 true a
  | .ldbu => opLoad x y 1 false a
  | .ldh => opLoad x y 2 true a
  | .ldhu => opLoad x y 2 false a
  | .ldw => opLoad x y 4 true a
  | .ldwu => opLoad x y 4 false a
  | .ldd => opLoad x y 8 false a
  | .lddx => opLddx x y a
  | .stb => opStore x y 1 a
  | .sth => opStore x y 2 a
  | .stw => opStore x y 4 a
  | .std => opStore x y 8 a
  | .stdx => opStdx x y a
  | .tas => opTas x y a
  | .lr => opLr x y a
  | .sc => opSc x y a
  | _ => a

/-- What an operation of the bundle does. [log entry 20 DESIGN CHOICE] -/
def opRun (x : Ctx) (y : Syl) (a : Acc) : Acc :=
  match y.kind with
  | .nop => a
  | .sel => opSel x y a
  | .pset => opPset x y a
  | .br => opBr x y a
  | .brl => opBrl x y a
  | .bri => opBri x y a
  | .bril => opBril x y a
  | .endb => opEndb x y a
  | .wait => opWait x y a
  | .dropp => opDropp x y a
  | .rdcyc => opRdcyc x y a
  | .rdlane => opRdlane x y a
  | .trap => opTrap x y a
  | .cmpeq | .cmpne | .cmplt | .cmple | .cmpltu | .cmpleu | .cmpeqi | .cmplti | .tstb | .pand | .por | .pnot => opCompare x y a
  | .ldb | .ldbu | .ldh | .ldhu | .ldw | .ldwu | .ldd | .lddx | .stb | .sth | .stw | .std | .stdx | .tas | .lr | .sc =>
    opMemory x y a
  | _ => opArith x y a

/-! ### Ends of blocks and plains (R97, R122, R124, R125, R127) -/

/-- The plains entry, and the code window of the variant in force (R128, R132). -/
def plainsEntry (s : State) : Nat := if s.seq.narrows then 0x20000 else 0
def windowEnd (s : State) : Nat := if s.seq.narrows then 0x30000 else 0x20000

/-- A lane stops issuing and is at its end-of-block wait from a cycle, in bank S, its reservation cleared. -/
def laneStop (s : State) (n at' : Nat) : State :=
  s.setLane n { s.lane n with
    running := false, plain := false, priv := true, resv := none, redirects := [], cur := [], endedAt := at' }

/-- The plains context is saved: the address to resume at and the mode; corrected words are rewritten (R91, R97, R127).
[log entry 23 DESIGN CHOICE] -/
def savePlain (s : State) (n addr at' : Nat) (priv : Bool) : State :=
  let s := s.setFlds [(Reg.SYS.LANE_PSAVE.ADDR, n, addr / 4), (Reg.SYS.LANE_PSAVE.PRIV, n, if priv then 1 else 0),
    (Reg.SYS.LANE_PSAVE.VALID, n, 1)]
  scrub (laneStop s n at') n

/-- A block ends: its id is among those that have ended in this tick, and after WAIT the lane waits for the valley selected. -/
def endBlock (s : State) (n at' : Nat) (wait : Bool) : State :=
  let s := laneStop s n at'
  let l := s.lane n
  s.setLane n { l with done := l.block :: l.done, waiting := wait && pwrMode s != 0 }

/-- Where a lane's next bundle stands, and its mode there: at a redirect that is due, or behind the last bundle.
[log entry 25 DEDUCED] -/
def resumeAt (l : Lane) : Nat × Bool :=
  match l.redirects.find? fun r => r.due == l.cyc with
  | some r => ((match r.target with | some t => t.toNat % 2 ^ 32 | none => l.pc.toNat), l.priv || r.trap)
  | none => (l.pc.toNat, l.priv)

/-- Plains code stops at the bundle boundary: behind the delay slots of a branch that has issued (R127). The lane is at its wait
from cycle `at'`. [log entry 24 DEDUCED] -/
def plainStop (s : State) (n at' : Nat) : State :=
  let l := s.lane n
  if !(l.running && l.plain) then s
  else if l.redirects.any fun r => l.cyc < r.due then s.setLane n { l with plainEnd := min l.plainEnd l.cyc }
  else
    let r := resumeAt l
    savePlain s n r.1 at' r.2

/-! ### Traps (R132 to R135) -/

/-- The traps of one bundle: the cause of the lowest slot is recorded, each trapped operation counted, and the source raised
once. -/
def laneTrap (s : State) (n pc : Nat) (plain : Bool) (traps : List (Nat × Nat)) : State :=
  match traps with
  | [] => s
  | (cause, addr) :: _ =>
    let s := if s.bit Reg.SYS.LANE_TRAP.VALID n then s
      else s.setFlds [(Reg.SYS.LANE_TRAP.VALID, n, 1), (Reg.SYS.LANE_TRAP.PLAIN, n, if plain then 1 else 0),
        (Reg.SYS.LANE_TRAP.CAUSE, n, cause), (Reg.SYS.LANE_TPC.ADDR, n, pc), (Reg.SYS.LANE_TADDR.ADDR, n, addr)]
    let s := s.satAdd Reg.SYS.LANE_TRAP.COUNT n traps.length
    let s := if plain then s.setFlds [(Reg.SYS.LANE_PTRAP.VALUE, n, cause), (Reg.SYS.LANE_PTPC.VALUE, n, pc)] else s
    raiseWith s Flt.SYS.LANETRAP n (if plain then 0 else 2) (detail8 cause) false

/-! ### Issue (R81, R497) -/

/-- An operation of a suppressed bundle behaves as if its guard were false, and holds the divider and the shared path (R132).
[log entry 19 DEDUCED] -/
def opSuppressed (x : Ctx) (y : Syl) (a : Acc) : Acc :=
  if badEncoding y || y.kind == .sel then a else opRun x { y with op := { y.op with pred := 0, neg := true } } a

/-- What follows the operations of a bundle: the next address and cycle, redirects, ends, traps. -/
def bundleEnd (x : Ctx) (fetch : Bool) (a : Acc) : State :=
  let s := a.st
  let l := s.lane x.n
  let plain := x.l.plain
  let br := match a.branch with
    | some t => [({ due := x.c + 3, target := t, trap := false } : Redirect)]
    | none => []
  let tr := if plain && !a.traps.isEmpty then
      [({ due := x.c + 3, target := some (BitVec.ofNat 64 (plainsEntry s + 0x40)), trap := true } : Redirect)]
    else []
  let s := s.setLane x.n { l with
    pc := BitVec.ofNat 32 x.next, cyc := x.c + 1, redirects := l.redirects ++ br ++ tr, priv := l.priv && !a.drop }
  let stop := if fetch && !plain then 1 else a.stop
  let s :=
    if stop = 0 then (if plain && (s.lane x.n).plainEnd ≤ x.c + 1 then plainStop s x.n ((s.lane x.n).plainEnd + 16) else s)
    else if plain then savePlain s x.n x.next (x.c + 1) (l.priv && !a.drop)
    else endBlock s x.n (x.c + 1) (stop == 2)
  laneTrap s x.n x.pc plain a.traps

/-- Lane `n` issues a bundle of operations and `words` syllables; `bad` is the cause for which the bundle itself is illegal,
ENCODING or BUNDLE, or 0. -/
def issue (s : State) (n : Nat) (ys : List Syl) (words bad : Nat) : State :=
  let c := (s.lane n).cyc
  let s := (settleTo s c).reach (countOf s c)
  let l := s.lane n
  if !l.running then s
  else
    let hit := l.redirects.find? fun r => r.due == c
    let target := hit.bind Redirect.target
    let pc := match target with | some t => t.toNat % 2 ^ 32 | none => l.pc.toNat
    let rest := l.redirects.filter fun r => c < r.due
    let l := { l with
      pc := BitVec.ofNat 32 pc, priv := l.priv || (match hit with | some r => r.trap | none => false), redirects := rest, cur := [] }
    let next := pc + 4 * words
    let notAddr := match target with | some t => t.toNat % 4 != 0 || 2 ^ 32 ≤ t.toNat | none => false
    let fetch := notAddr || pc < plainsEntry s || windowEnd s < next || pc % 4 != 0
    let cause := if fetch then 0x0B else bad
    let x : Ctx := { n := n, c := c, l := l, pc := pc, next := next, inSlot := !rest.isEmpty }
    let a := Acc.start (s.setLane n l)
    let a :=
      if cause = 0 then ys.foldl (fun a y => if a.lost then a else opRun x y a) a
      else (if fetch then a else ys.foldl (fun a y => opSuppressed x y a) a).trap cause 0
    if a.lost then a.st else bundleEnd x fetch a

/-- The cause for which a bundle of operations is illegal, or 0 (R497). -/
def bundleCause (ys : List Syl) : Nat := if ys.any badEncoding then 0x08 else if badBundle ys then 0x09 else 0

/-- An operation syllable of a lane that runs: the bundle issues when it is whole, at its stop bit or its eighth syllable (R110).
[log entry 15 DESIGN CHOICE] -/
def laneOp (k : OpKind) (op : Op) (s : State) : State :=
  let n := op.lane.val
  let l := s.lane n
  if !(l.running && l.inService) then s
  else
    let ys := l.cur ++ [{ kind := k, op := op }]
    if op.stop || 8 ≤ sylCount ys then issue s n ys (min 8 (sylCount ys)) (bundleCause ys)
    else s.setLane n { l with cur := ys }

end Sys2Proof.Machine
end

