-- ==== Sys2Proof/Machine/Col.lean ====
section
/-!
DEFINITION. The col (R41 to R47, R50 to R52, R62 to R69, R103, R108, R145, R175, R213, R282, R358 to R360, R460, R463, R468, R485):
the stage cutoff, die link frames, the input snapshot, the commit strobe, the narrows switch.
-/
namespace Sys2Proof.Machine

/-! ### Which col comes -/

/-- The number and count of the coming col (R42, R62). [log entry 33 DEDUCED] -/
def nextCol (s : State) : Nat × Nat :=
  match s.seq.firstCol with
  | some (n, c, _) => (n, c)
  | none => (s.colNum + 1, s.colCount + s.seq.period)

/-- A plan is about to commit or commits: ARMED, RUN, NARROWS or HANDOVER, with no descent past its parking col. -/
def commitsCols (s : State) : Bool :=
  s.boot == 0 && s.dom.logic && !s.parked && s.seq.period != 0 &&
    ((s.seqState == seqArmed && s.seq.firstCol.isSome) || s.planRuns)

/-- STOPPED goes on opening cols when a plan has run (R52). [log entry 42 DEDUCED] -/
def opensCols (s : State) : Bool :=
  s.boot == 0 && s.dom.logic && !s.parked && s.seq.period != 0 && s.seqState == seqStopped && s.seq.firstCol.isNone

/-- Dies that a frame can reach: their domain is on and their supply is not below 5.5 V (R485). [log entry 154 DEDUCED] -/
def linkedDies (s : State) : List Nat := (upTo 4).filter fun d => s.dom.pwr.getLsbD d && !s.dom.uv.getLsbD d

/-! ### Stage cutoff (R43, R144) -/

/-- Offsets of the words that a col takes over and that differ from their reset value, as written or as acted on. -/
def latchedWords (s : State) : List Nat :=
  ((s.regs.map Prod.fst ++ s.eff.map Prod.fst).eraseDups).filter fun o =>
    match regRow o with
    | some r => r.latched
    | none => false

/-- The value of a word in the output set: as written, or, for a command that no lane has staged since the plan began, as the
power dies act on it (R41, R63). -/
def frozenWord (s : State) (o : Nat) : Word32 :=
  let staged := match regRow o with
    | some r => isStaged r
    | none => false
  if staged && smapGet (fun _ => 0) s.seq.owner o == 0 then s.effWord o else s.word o

/-- One-shot requests, which read 0 from the cutoff that freezes them, with the number of their units. -/
def oneShots : List (Field × Nat) := [(Reg.LSW.CTRL.FWTEST, 96), (Reg.HBR.CTRL.REARM, 16), (Reg.VALVE.CMD.REARM, 24),
  (Reg.VALVE.CMD.OFF, 24), (Reg.VALVE.CMD.START, 24), (Reg.LIGHT.SINKCTRL.REARM, 32), (Reg.LIGHT.STAGECTRL.REARM, 4),
  (Reg.LIGHT.MXCTRL.REARM, 1)]

/-- Clear the one-shot requests. -/
def clearShots (s : State) : State :=
  oneShots.foldl (fun s p => s.each (fun s n => if s.bit p.1 n then s.setBit p.1 n false else s) (upTo p.2)) s

/-- The cutoff itself: the output set is frozen, requests read 0, a RELOAD written before is due, and a safe zone that was
acknowledged ends at the coming strobe (R43, R167, R468). -/
def cutoff (s : State) : State :=
  let frz := (latchedWords s).foldl (fun m o => smapSet regReset m o (frozenWord s o)) []
  let s := clearShots { s with frz := frz }
  let s := s.each (fun s n => if (s.lswCh n).reload = 1 then s.setLsw n { s.lswCh n with reload := 2 } else s) (upTo 96)
  { s with zoneExit := if s.zoneExit = 1 then 2 else s.zoneExit, seq := { s.seq with cutDone := true, dieReady := [] } }

/-- STAGE_CUTOFF (R43): at C − 100, once per col. -/
def execStageCutoff (s : State) : Result :=
  if !commitsCols s || s.seq.cutDone then .next s
  else
    let c := (nextCol s).2
    .next (cutoff ((settleCount s (c - 100)).reach (c - 100)))

/-! ### Die link frames (R18, R103, R485) -/

/-- Has the frame of a die arrived in time, and has its lack been reported? -/
def frameHere (s : State) (d : Nat) : Bool := s.seq.dieReady.contains d
def frameTold (s : State) (d : Nat) : Bool := s.seq.dieReady.contains (d + 4)

/-- Note a frame, or with `d + 4` that its lack has been reported. -/
def noteFrame (s : State) (d : Nat) : State := { s with seq := { s.seq with dieReady := d :: s.seq.dieReady } }

/-- DIE_LINK_FRAME (R18, R43, R103): a die receives its frozen output set; one that fails its CRC is discarded, one that comes
after C − 20 is late. [log entry 47 DEDUCED] -/
def execDieLinkFrame (die : Fin 4) (crcOk inTime : Bool) (s : State) : Result :=
  let d := die.val
  if !commitsCols s || !s.seq.cutDone || !(linkedDies s).contains d || frameHere s d || frameTold s d then .next s
  else if !crcOk then .next (raiseFault (noteFrame s (d + 4)) Flt.SYS.DIELINK d 1)
  else if !inTime then .next (raiseFault (noteFrame s (d + 4)) Flt.TICK.UNITLATE d 2)
  else .next (noteFrame s d)

/-- At C − 20 a frame that has not come is late (R103). [log entry 34 DEDUCED] -/
def missingFrames (s : State) : State :=
  (linkedDies s).foldl (fun s d =>
    if frameHere s d || frameTold s d then s else raiseFault (noteFrame s (d + 4)) Flt.TICK.UNITLATE d 2) s

/-- Ticks without a valid frame are counted for each die (R19). -/
def countMisses (s : State) : State :=
  let live := linkedDies s
  { s with seq := { s.seq with dieMiss := (upTo 4).foldl (fun m d =>
      smapSet (fun _ => 0) m d (if live.contains d && !frameHere s d then smapGet (fun _ => 0) m d + 1 else 0)) s.seq.dieMiss } }

/-! ### The snapshot (R46, R360) -/

/-- The input part: offset in the snapshot area, number of units, and the registers copied for each unit in turn. -/
def snapTable : List (Nat × Nat × List Field) := [
  (0x010, 1, [Reg.TICK.STATUS.REG, Reg.FAULT.STATUS.REG, Reg.POWER.STATUS.REG, Reg.POWER.WAKEREASON.REG]),
  (0x020, 2, [Reg.INPUT.SILVL.REG]),
  (0x028, 2, [Reg.INPUT.SICHG.REG]),
  (0x030, 24, [Reg.INPUT.AIVAL.REG]),
  (0x090, 24, [Reg.INPUT.AITEMP.REG]),
  (0x0F0, 1, [Reg.TIME.CMPEV0.REG, Reg.TIME.CMPEV1.REG, Reg.TIME.UDCEV.REG, Reg.TIME.CAPEV.REG]),
  (0x100, 32, [Reg.TIME.CAP_RISE.REG, Reg.TIME.CAP_FALL.REG, Reg.TIME.CAP_PERIOD.REG, Reg.TIME.CAP_HIGH.REG,
    Reg.TIME.CAP_EDGES.REG, Reg.TIME.CAP_STAT.REG]),
  (0x400, 16, [Reg.TIME.UDC_COUNT.REG, Reg.TIME.UDC_CTRL.REG]),
  (0x480, 96, [Reg.LSW.STAT.REG]),
  (0x600, 96, [Reg.LSW.IMEAS.REG]),
  (0x780, 16, [Reg.HBR.STAT.REG, Reg.HBR.IMEAS.REG, Reg.HBR.POS.REG, Reg.HBR.RIPSTAT.REG]),
  (0x880, 24, [Reg.VALVE.PSTAT.REG, Reg.VALVE.STAT.REG, Reg.VALVE.IMEAS.REG, Reg.VALVE.THETA.REG]),
  (0xA00, 4, [Reg.VALVE.BANKSTAT.REG]),
  (0xA10, 1, [Reg.VALVE.PKSSTAT.REG]),
  (0xA20, 32, [Reg.LIGHT.SINKSTAT.REG, Reg.LIGHT.SINKMEAS.REG]),
  (0xB20, 4, [Reg.LIGHT.STAGESTAT.REG]),
  (0xB30, 4, [Reg.LIGHT.STAGEMEAS.REG]),
  (0xB40, 1, [Reg.LIGHT.MXSTAT.REG, Reg.LIGHT.MXDIAG.REG]),
  (0xB50, 1, [Reg.LEDGER.STATUS.REG]),
  (0xB54, 2, [Reg.LEDGER.INSTAT.REG]),
  (0xB60, 120, [Reg.LEDGER.RESV.REG]),
  (0xD40, 1, [Reg.ACCESS.STATUS.REG, Reg.ACCESS.RESULT.REG, Reg.ACCESS.RESTOK.REG])]

/-- Place in the area and offset of every register copied. -/
def snapWords : List (Nat × Nat) :=
  snapTable.flatMap fun p => (upTo p.2.1).flatMap fun u => p.2.2.zipIdx.map fun q => (p.1 + 4 * (u * p.2.2.length + q.2), q.1.off u)

/-- The snapshot area in shared memory. -/
def snapBase : Nat := 0x1E0000

/-- The input part for col `n` at count `c`: copies of the registers as they stand at the end of count `c − 1`. -/
def snapInput (s : State) (n c : Nat) : State :=
  let t := { s with now := c - 1 }
  let m := clearBytes s.shared snapBase 0x7FE0
  let m := wrLE (wrLE m snapBase n 8) (snapBase + 8) c 8
  { s with shared := snapWords.foldl (fun m p => wrLE m (snapBase + p.1) (regPeek t p.2).toNat 4) m }

/-- COUNT and the col number, as port B writes them at C + 400. -/
def countBytes (k n : Nat) : List Byte := (beBytes k 4).reverse ++ [0, 0, 0, 0] ++ (beBytes n 8).reverse

/-- The journal part, with the write of its COUNT on its way. [log entry 48 DEDUCED] -/
def snapJournal (s : State) (n c : Nat) : State :=
  let s := jSnapshot s n c
  let s := { s with laneEv := s.laneEv.filter fun e => match e.act with | .portB _ _ => false | _ => true }
  inFlight s 4 s.seq.tickCyc (s.seq.tickCyc + 400 * s.seq.k) (.portB 0x1E7FE0 (countBytes s.journal.snap.length n))

/-! ### Taking over the output set (R43, R47, R145) -/

/-- The power die whose unit a word belongs to; none for words that several dies or the networks act on.
[log entry 35 DESIGN CHOICE] -/
def wordDie (o : Nat) : Option Nat :=
  if 0x100000 ≤ o ∧ o < 0x101800 then some (lswDie ((o - 0x100000) / 0x40))
  else if 0x130000 ≤ o ∧ o < 0x130400 then some (hbDie ((o - 0x130000) / 0x40))
  else if 0x140000 ≤ o ∧ o < 0x140C00 then some (vdDie ((o - 0x140000) / 0x80))
  else if 0x14F000 ≤ o ∧ o < 0x14F100 then some (vbDie ((o - 0x14F000) / 0x40))
  else if 0x14F100 ≤ o ∧ o < 0x150000 then some 0
  else if 0x160000 ≤ o ∧ o < 0x160400 then some (sinkDie ((o - 0x160000) / 0x20))
  else if 0x161000 ≤ o ∧ o < 0x161100 then some (stageDie ((o - 0x161000) / 0x40))
  else if 0x162000 ≤ o ∧ o < 0x162200 then some 2
  else none

/-- Does a commit reach the part that acts on a word? Words of the networks are taken over without a die link; words that several
dies act on, when any die has its frame. -/
def wordReached (s : State) (o : Nat) : Bool :=
  match wordDie o with
  | some d => frameHere s d
  | none => 0x200000 ≤ o || (upTo 4).any (frameHere s)

/-- A word that is configuration rather than a channel's command: PGPER counts as such (R146). -/
def isConfig (o : Nat) : Bool :=
  match regRow o with
  | some r => r.latched && (r.rw == 0 || (0x10F000 ≤ o && o < 0x10F030))
  | none => false

/-- Configuration takes effect (R145); PAIRCFG only for pairs whose halves are both in COAST (R206). [log entry 36 DEDUCED] -/
def commitConfig (s : State) : State :=
  let words := ((s.frz.map Prod.fst ++ s.eff.map Prod.fst).eraseDups).filter fun o =>
    isConfig o && wordReached s o && o != Reg.HBR.PAIRCFG.REG.base
  let s := words.foldl (fun s o => s.setEffWord o (s.frzWord o)) s
  let was := s.effFld Reg.HBR.PAIRCFG.PAIR 0
  let new := getBits (s.frzWord Reg.HBR.PAIRCFG.REG.base) Reg.HBR.PAIRCFG.PAIR.lo Reg.HBR.PAIRCFG.PAIR.len
  let mask := (if frameHere s 2 then 0x0F else 0) + (if frameHere s 3 then 0xF0 else 0)
  pairCommit s ((was &&& (0xFF - mask)) ||| (new &&& mask))

/-- Group counters restart at the dies' apply count when a committed period differs from the running one, and at the first commit
after power-up (R146, R264). Keys are 12 × die + group, then 48 + stage. [log entry 50 DESIGN CHOICE] -/
def restartGroups (old s : State) (c : Nat) : State :=
  let same := fun (F : Field) (g : Nat) => old.effFld F g == s.effFld F g
  let keep := fun (k : Nat) (eq : Bool) => eq && smapGet (fun _ => 0) s.groupAt k != 0
  let at' := (upTo 48).foldl (fun m k =>
    if frameHere s (k / 12) && !keep k (same Reg.LSW.PGPER.PERIOD (k % 12)) then smapSet (fun _ => 0) m k (c + 4) else m) s.groupAt
  let at' := (upTo 4).foldl (fun m g =>
    if frameHere s (stageDie g) && !keep (48 + g) (same Reg.LIGHT.STAGEDIM.DPER g) then smapSet (fun _ => 0) m (48 + g) (c + 4)
    else m) at'
  { s with groupAt := at' }

/-- A command word of a unit in the output set. -/
def State.set (s : State) (F : Field) (n : Nat) : Word32 := s.frzWord (F.off n)

/-- Commits of one unit from a set of words; an output that the safe zone or a hold keeps is passed over (R460, R463).
[log entry 37 DEDUCED] -/
def lswTake (s : State) (n : Nat) (set : Nat → Word32) : State :=
  if s.zoneSafe || held s (.lsw n) then lswApply s n else lswCommit s n (set (Reg.LSW.CTRL.REG.off n))
def hbTake (s : State) (n : Nat) (set : Nat → Word32) : State :=
  if s.zoneSafe || (hbHalves s (hbMaster s n)).any (fun h => held s (.bridge h)) then s
  else hbCommit s n (set (Reg.HBR.CTRL.REG.off n)) (set (Reg.HBR.STOPPOS.REG.off n))
def vdTake (s : State) (n : Nat) (set : Nat → Word32) : State :=
  if vdKeptSafe s n then s else s.setEffWord (Reg.VALVE.CMD.REG.off n) (set (Reg.VALVE.CMD.REG.off n))
def sinkTake (s : State) (n : Nat) (set : Nat → Word32) : State :=
  if s.zoneSafe || held s (.sink n) || held s (.stage (sinkStage n)) then s
  else sinkCommit s n (set (Reg.LIGHT.SINKCTRL.REG.off n)) (set (Reg.LIGHT.SINKDIM.REG.off n))
def stageTake (s : State) (g : Nat) (set : Nat → Word32) : State :=
  if s.zoneSafe || held s (.stage g) then s else stageCommit s g (set (Reg.LIGHT.STAGECTRL.REG.off g))
def matrixTake (s : State) (set : Nat → Word32) : State :=
  if s.zoneSafe || held s .matrix then s
  else matrixCommit s (set (Reg.LIGHT.MXCTRL.REG.off 0)) ((upTo 48).map fun k => (Reg.LIGHT.PIX.REG.off k, set (Reg.LIGHT.PIX.REG.off k)))

/-- The grant of a valve bank is used when a profile of it runs or a START has been committed (R196). [log entry 44 DEDUCED] -/
def bankGrant (s : State) (b : Nat) : State :=
  grantUsed s (112 + b) (bankActive s b || (bankChans b).any fun n => s.effBit Reg.VALVE.CMD.START n)

/-- A bank has a channel in edge mode. -/
def bankEdged (s : State) (b : Nat) : Bool := (bankChans b).any fun n => s.edgeMode (112 + n)

/-- Bring the outputs of a die to what they should do now. -/
def dieOutputs (s : State) (d : Nat) : State :=
  let s := s.each lswApply ((upTo 96).filter fun n => lswDie n == d)
  let s := s.each hbApply ((upTo 16).filter fun n => hbDie n == d && hbMaster s n == n)
  let s := s.each bankSwitch ((upTo 4).filter fun b => vbDie b == d)
  let s := if d = 2 then matrixApply s else s
  s.each stageApply ((upTo 4).filter fun g => stageDie g == d)

/-- The ledger channels of the units of a die (R182). -/
def dieChans (d : Nat) : List Nat :=
  (upTo 96).filter (fun n => lswDie n == d) ++ ((upTo 16).filter fun n => hbDie n == d).map (96 + ·) ++
    ((upTo 4).filter fun b => vbDie b == d).map (112 + ·) ++ ((upTo 4).filter fun g => stageDie g == d).map (116 + ·)

/-- A die takes over the col-mode part of its output set, and of the whole set when the safe zone ends (R47, R468). -/
def dieCommit (s : State) (d : Nat) (all : Bool) : State :=
  let set := s.frzWord
  let takes := fun (b : Nat) => all || !s.edgeMode b
  let s := (dieChans d).foldl ledgerEff s
  let s := if d = 0 then pksApply s else s
  let s := s.each (fun s n => let s := if takes n then lswTake s n set else s
                              if (s.lswCh n).reload = 2 then lswReloadNow s n else s) ((upTo 96).filter fun n => lswDie n == d)
  let s := s.each (fun s n => if takes (96 + n) then hbTake s n set else s) ((upTo 16).filter fun n => hbDie n == d)
  let s := s.each (fun s n => vdCol (if takes (112 + n) then vdTake s n set else s) n) ((upTo 24).filter fun n => vdDie n == d)
  let s := s.each (fun s b => if bankEdged s b then s else bankGrant s b) ((upTo 4).filter fun b => vbDie b == d)
  let s := if d = 2 then matrixTake s set else s
  let s := s.each (fun s g => stageTake s g set) ((upTo 4).filter fun g => stageDie g == d)
  s.each (fun s n => if takes (136 + n) then sinkTake s n set else s) ((upTo 32).filter fun n => sinkDie n == d)

/-! ### Reclaim (R19, R41, R175, R213, R282) -/

/-- Outputs leave the configured safe state, but for a safe zone in force. [log entry 49 DEDUCED] -/
def leaveSafe (s : State) (d : Nat) : State :=
  if s.zoneSafe then s
  else
    let s := s.each (fun s n => s.setBit Reg.LSW.STAT.SAFE n false) ((upTo 96).filter fun n => lswDie n == d)
    let s := s.each (fun s n => s.setBit Reg.HBR.STAT.SAFE n false) ((upTo 16).filter fun n => hbDie n == d)
    let s := s.each (fun s n => s.setBit Reg.LIGHT.SINKSTAT.SAFE n false) ((upTo 32).filter fun n => sinkDie n == d)
    if d = 2 then s.setBit Reg.LIGHT.MXSTAT.SAFE 0 false else s

/-- The plan reclaims the outputs of a die: each keeps its held state or, after an expiry, its safe state; bridges become committed
with the staged command. -/
def dieReclaim (s : State) (d : Nat) : State :=
  let s := leaveSafe s d
  let s := (dieChans d).foldl ledgerEff s
  let s := if d = 0 then pksApply s else s
  let s := s.each lswReclaim ((upTo 96).filter fun n => lswDie n == d)
  let s := s.each sinkReclaim ((upTo 32).filter fun n => sinkDie n == d)
  let s := if d = 2 then matrixReclaim s else s
  let s := s.each vdCol ((upTo 24).filter fun n => vdDie n == d)
  s.each (fun s n => hbTake (hbReclaim s n) n s.word) ((upTo 16).filter fun n => hbDie n == d)

/-! ### What else a col does -/

/-- HELD entries are freed once the class-F1 flag of their SOURCE and UNIT is clear (R463). -/
def freeHeld (s : State) : State :=
  showHeld (s.each (fun s k =>
    let f : FaultFlag := ⟨s.fld Reg.FAULT.HELD.SOURCE k, s.fld Reg.FAULT.HELD.UNIT k, 1⟩
    if s.bit Reg.FAULT.HELD.VALID k && !decide (f ∈ s.flags) then s.setWord (Reg.FAULT.HELD.REG.off k) 0 else s) (upTo 16))

/-- The safe zone ends at this strobe (R468). -/
def zoneEnds (s : State) : Bool := s.zoneExit == 2

/-- The figures of the tick just ended (R156, R157, R210, R218, R254, R281, R499). -/
def measure (m : ColIn) (s : State) : State :=
  let s := s.each (lswMeasure m) (upTo 96)
  let s := s.each (hbMeasure m) (upTo 16)
  let s := s.each (vdMeasure m) (upTo 24)
  let s := s.each (vbMeasure m) (upTo 4)
  let s := s.each (stageMeasure m) (upTo 4)
  { s with dieRef := (upTo 4).foldl (fun r d =>
      match m.dieRef[d]? with
      | some t => if s.dom.pwr.getLsbD d then smapSet (fun _ => 0) r d t else r
      | none => r) s.dieRef }

/-- Lanes in service start a variant afresh: both banks zero, no reservation, no saved plains context (R108). -/
def freshLanes (s : State) : State :=
  s.each (fun s n =>
    (s.setLane n { s.lane n with gS := [], gP := [], pS := 0, pP := 0, resv := none }).setFld Reg.SYS.LANE_PSAVE.REG n 0) (lanesIn s)

/-- The unit that a register offset belongs to. -/
def unitAt (o : Nat) : Option OutUnit :=
  if 0x100000 ≤ o ∧ o < 0x101800 then some (.lsw (finOf 96 ((o - 0x100000) / 0x40) (by decide)))
  else if 0x130000 ≤ o ∧ o < 0x130400 then some (.hbr (finOf 16 ((o - 0x130000) / 0x40) (by decide)))
  else if 0x140000 ≤ o ∧ o < 0x140C00 then some (.vd (finOf 24 ((o - 0x140000) / 0x80) (by decide)))
  else if 0x160000 ≤ o ∧ o < 0x160400 then some (.sink (finOf 32 ((o - 0x160000) / 0x20) (by decide)))
  else if 0x161000 ≤ o ∧ o < 0x161100 then some (.stage (finOf 4 ((o - 0x161000) / 0x40) (by decide)))
  else if 0x162000 ≤ o ∧ o < 0x162200 then some .matrix
  else none

/-- Offsets in the image of the manifest records whose objects are shed in the narrows, in the order of shedding (R57, R65). -/
def shedRecords (p : Plan) : List Nat :=
  let (o, n) := p.sec 5 0xFF 0xFF
  (((upTo (n / 32)).map fun i => o + 32 * i).filter fun r => (p.be (r + 5) 1).testBit 1 && p.be (r + 6) 2 != 0).mergeSort
    fun a b => p.be (a + 6) 2 ≤ p.be (b + 6) 2

/-- The output units of a manifest record. -/
def recordUnits (p : Plan) (r : Nat) : List OutUnit :=
  let lo := p.be (r + 2) 1
  (((upTo (p.be (r + 3) 1 + 1 - lo)).filterMap fun i => entryOffset (p.be r 2) (lo + i)).filterMap unitAt).eraseDups

/-- Words are no longer staged by a lane: the power dies keep what is committed. -/
def dropOwners (s : State) (l : List Nat) : State :=
  { s with seq := { s.seq with owner := s.seq.owner.filter fun p => !l.contains p.1 } }

/-- A sink's committed command becomes its configured safe state. -/
def sinkShed (s : State) (n : Nat) : State :=
  let s := match s.effFld Reg.LIGHT.SINKCFG.SAFE n with
    | 1 => (s.setEff Reg.LIGHT.SINKCTRL.CODE n (s.effFld Reg.LIGHT.SINKSAFE.SAFECODE n)).setEff Reg.LIGHT.SINKDIM.DUTY n 1024
    | 2 => s
    | _ => s.setEff Reg.LIGHT.SINKCTRL.CODE n 0
  sinkApply (dropOwners s [Reg.LIGHT.SINKCTRL.REG.off n, Reg.LIGHT.SINKDIM.REG.off n]) n

/-- A shed channel goes to its configured safe state, which becomes its committed command (R65, R174, R217, R256, R282). -/
def unitShed (s : State) (u : OutUnit) : State :=
  match u with
  | .lsw n =>
    let o := Reg.LSW.CTRL.REG.off n.val
    let s := match s.effFld Reg.LSW.CFG.SAFE n.val with
      | 1 => s.setEffWord o (putBits (regReset o) Reg.LSW.CTRL.EN.lo 1 1)
      | 2 => s
      | _ => s.setEffWord o (regReset o)
    lswApply (dropOwners s [o]) n.val
  | .hbr n =>
    let m := hbMaster s n.val
    let s := s.setEff Reg.HBR.CTRL.MODE m (if s.effBit Reg.HBR.CFG.SAFE m then 0 else hbBrake (hbPaired s m))
    hbApply (hbSet (dropOwners s [Reg.HBR.CTRL.REG.off m, Reg.HBR.STOPPOS.REG.off m]) m Reg.HBR.STAT.REVERSING false) m
  | .vd n => vdSafe (dropOwners s [Reg.VALVE.CMD.REG.off n.val]) n.val
  | .vb b => s.each vdSafe (bankChans b.val)
  | .sink n => sinkShed s n.val
  | .stage g => s.each sinkShed (stageSinks g.val)
  | .matrix =>
    let s := dropOwners s (Reg.LIGHT.MXCTRL.REG.off 0 :: (upTo 48).map Reg.LIGHT.PIX.REG.off)
    if s.effBit Reg.LIGHT.MXRAIL.SAFE 0 then s.setBit Reg.LIGHT.MXSTAT.HOLDOVER 0 true
    else matrixApply (s.setEff Reg.LIGHT.MXCTRL.EN 0 0)

/-- Every shed object's channels go to their safe state, by rising SHED_PRIO (R65). [log entry 45 DEDUCED] -/
def shedAll (s : State) : State :=
  settleRaises (((shedRecords s.plan).flatMap (recordUnits s.plan)).foldl unitShed s)

/-- The narrows variant comes into force: its tables, its lanes' fetch and data, its shed objects (R32, R61, R64, R65). -/
def toNarrows (s : State) : State :=
  narrowsLanes { s.enter seqNarrows with seq := { s.seq with narrows := true, lossAt := none } }

/-- Named-col commands whose col has passed are settled COL_PASSED, and so are handover commands that a start has left behind
(R75, R359). -/
def passNamed (s : State) (n : Nat) (first : Bool) : State :=
  ((unsettled s).filter fun e => e.index == 0x1001 && (decide (beNat e.value < n) || (first && e.sub == 3))).foldl
    (fun s e => ownPost s e.seq 5 n []) s

/-- Settlements of the sequencer's own that could not be written are made again. [log entry 123 DEDUCED] -/
def postAgain (s : State) : State :=
  { s with journal := { s.journal with posts := s.journal.posts ++ s.journal.again, again := [] } }

/-- The col is the parking col of a descent (R378, R379). [log entry 39 DEDUCED] -/
def parksAt (s : State) (n c : Nat) : Bool :=
  (s.power.descent == .stopped && s.power.stopAt < c) ||
    (s.power.descent == .waiting && wsCol s + max (s.fld Reg.POWER.DESCENT.COLS 0) 2 ≤ n)

/-- Outcomes of the col's own that are still queued when it opens are late (R358). -/
def outcomesLate (s : State) (n : Nat) : Bool := s.journal.posts.any fun p => !p.own && p.col == n

/-! ### The col -/

/-- A col opens: its number, its count, and the tick of lane cycles that begins with it. Plains code stops (R42, R97). -/
def colOpen (s : State) (n c : Nat) : State :=
  let cyc := if s.seq.firstCol.isSome then s.seq.tickCyc else s.seq.tickCyc + s.seq.k * s.seq.period
  let s := s.each (fun s l => plainStop s l (cyc + 16)) (upTo 4)
  let s := s.setPair Reg.TICK.COL_LO.COUNT Reg.TICK.COL_HI.COUNT 0 c
  let s := s.setPair Reg.TICK.COLNUM_LO.NUMBER Reg.TICK.COLNUM_HI.NUMBER 0 n
  { s with seq := { s.seq with
      tickCyc := cyc, firstCol := none, overrun := [], withheld := [], staged := [], cutDone := false, passOff := 0 } }

/-- The sequencer's state in the tick that opens (R51, R62, R66, R108). -/
def colState (s : State) (was : Nat) : State :=
  let left := (lanesIn s).length
  if left < 3 then s.enter seqStopped
  else if was = seqArmed ∨ was = seqHandover then
    let s := freshLanes { s with seq := { s.seq with lossAt := none } }
    if left = 4 ∧ !s.seq.narrows then s.enter seqRun else shedAll (toNarrows s)
  else s

/-- What the power dies do at the strobe. -/
def strobe (s : State) (first : Bool) (c : Nat) : State :=
  let ends := zoneEnds s
  let s := freeHeld s
  let s := if ends then { s with zoneExit := 0 }.setBit Reg.FAULT.STATUS.ZONE_SAFE 0 false else s
  let ready := (linkedDies s).filter (frameHere s)
  let wait := s.dom.wait &&& ~~~(BitVec.ofNat 4 (bitsOf ready))
  let s := { s with dom := { s.dom with wait := wait } }
  let old := s
  let s := restartGroups old (commitConfig s) c
  let s :=
    if first then s.each dieReclaim (upTo 4)
    else
      let back := s.seq.linkHeld.filter (frameHere s)
      let s := { s with seq := { s.seq with linkHeld := s.seq.linkHeld.filter fun d => !back.contains d } }
      s.each (fun s d => if back.contains d then dieReclaim s d else dieCommit s d ends) ready
  settleRaises (s.each dieOutputs ready)

/-- A commit: LAST_COMMIT takes the col's number (R364), and EDGE passes of the tick apply the set frozen for it (R47). -/
def committed (s : State) (n : Nat) : State :=
  jShow { s with edge := s.frz, journal := { s.journal with lastCommit := n } }

/-- The tick begins for the networks, the ledger and the dictionary (R330, R341 to R344, R193). [log entry 43 DEDUCED] -/
def tickBegins (s : State) (was c : Nat) : State :=
  let s := netCol (linCol (mbCol s c))
  let s := { s with ledger := { s.ledger with updated := false } }
  settleRaises (if was = seqHandover then releaseReads s else s)

/-- What comes first at the first col after a load: base, timers, ledger (R62, R200, R388, R389).
[log entries 40 DEDUCED, 41 DEDUCED] -/
def firstOpens (s : State) (n c : Nat) (aligned : Bool) : State :=
  { s with seq := { s.seq with baseN := n, baseC := c } }.setBit Reg.TICK.STATUS.BASE_AL 0 aligned

/-- A col in a state that commits. -/
def colRuns (m : ColIn) (s : State) : State :=
  let (n, c) := nextCol s
  let first := s.seq.firstCol
  let was := s.seqState
  let s := missingFrames ((settleCount s (c - 20)).reach (c - 20))
  let s := countMisses (settleCount s c)
  let s := if outcomesLate s n then raiseFault s Flt.TICK.UNITLATE noUnit 2 else s
  let s := snapInput s n c
  let s := colOpen (s.reach c) n c
  let s := match first with
    | some (_, _, al) => firstOpens s n c al
    | none => measure m s
  let s := s.setFld Reg.TICK.SKEW.SPREAD 0 (min m.spread 2)
  let s := colState s was
  let s := if s.seqState = seqStopped ∨ parksAt s n c then s else committed (strobe s first.isSome c) n
  let s := if first.isSome then ledgerFirst (awakeTimers s c) else s
  let s := snapJournal (passNamed (postAgain s) n first.isSome) n c
  let s := breakResv s 4 snapBase 0x20000
  let s := { s with seq := { s.seq with dieReady := [] } }
  tickBegins s was c

/-- COL (R43, R52): the coming col opens, after its stage cutoff. In STOPPED cols go on opening and nothing is committed. -/
def execCol (m : ColIn) (s : State) : Result :=
  if opensCols s then
    let (n, c) := nextCol s
    .next (colOpen ((settleCount s c).reach c) n c)
  else if commitsCols s && s.seq.cutDone then .next (colRuns m s)
  else .next s

/-! ### The narrows switch (R64, R65, R108, R130) -/

/-- NARROWS_SWITCH (R64): the col in force is the first at least 200 counts after the loss. -/
def execNarrowsSwitch (s : State) : Result :=
  match s.seq.lossAt with
  | none => .next s
  | some d =>
    if s.seqState = seqRun ∧ d + 200 ≤ s.colCount then
      .next (snapJournal (shedAll (freshLanes (dropContexts (toNarrows s)))) s.colNum s.colCount)
    else .next s

end Sys2Proof.Machine
end

