-- ==== Sys2Proof/Machine/LaneOps.lean ====
section
/-!
DEFINITION. The meaning of each lane operation: its syllable joins the lane's bundle, which issues when it is whole (R81, R109
to R115).
-/
namespace Sys2Proof.Machine

/-- NOP (R115): does nothing. -/
def execLaneNop (op : Op) (s : State) : Result := .next (laneOp .nop op s)

/-- ADD (R115): rd ← ra + rb modulo 2^64. -/
def execLaneAdd (op : Op) (s : State) : Result := .next (laneOp .add op s)

/-- ADDI (R115): rd ← ra + immediate. -/
def execLaneAddi (op : Op) (s : State) : Result := .next (laneOp .addi op s)

/-- SUB (R115): rd ← ra − rb modulo 2^64. -/
def execLaneSub (op : Op) (s : State) : Result := .next (laneOp .sub op s)

/-- AND (R115): bitwise AND. -/
def execLaneAnd (op : Op) (s : State) : Result := .next (laneOp .and op s)

/-- ANDI (R115): bitwise AND with an immediate. -/
def execLaneAndi (op : Op) (s : State) : Result := .next (laneOp .andi op s)

/-- OR (R115): bitwise OR. -/
def execLaneOr (op : Op) (s : State) : Result := .next (laneOp .or op s)

/-- ORI (R115): bitwise OR with an immediate. -/
def execLaneOri (op : Op) (s : State) : Result := .next (laneOp .ori op s)

/-- XOR (R115): bitwise XOR. -/
def execLaneXor (op : Op) (s : State) : Result := .next (laneOp .xor op s)

/-- XORI (R115): bitwise XOR with an immediate. -/
def execLaneXori (op : Op) (s : State) : Result := .next (laneOp .xori op s)

/-- SHL (R115): shift left by rb[5:0]. -/
def execLaneShl (op : Op) (s : State) : Result := .next (laneOp .shl op s)

/-- SHLI (R115): shift left by SH6. -/
def execLaneShli (op : Op) (s : State) : Result := .next (laneOp .shli op s)

/-- SHR (R115): logical shift right by rb[5:0]. -/
def execLaneShr (op : Op) (s : State) : Result := .next (laneOp .shr op s)

/-- SHRI (R115): logical shift right by SH6. -/
def execLaneShri (op : Op) (s : State) : Result := .next (laneOp .shri op s)

/-- SAR (R115): arithmetic shift right by rb[5:0]. -/
def execLaneSar (op : Op) (s : State) : Result := .next (laneOp .sar op s)

/-- SARI (R115): arithmetic shift right by SH6. -/
def execLaneSari (op : Op) (s : State) : Result := .next (laneOp .sari op s)

/-- MOV (R115): rd ← ra. -/
def execLaneMov (op : Op) (s : State) : Result := .next (laneOp .mov op s)

/-- LI (R111): rd ← a sign-extended immediate, widened by extension syllables. -/
def execLaneLi (op : Op) (s : State) : Result := .next (laneOp .li op s)

/-- LIH (R115): sets rd[63:52] to IMM12 and keeps the other bits. -/
def execLaneLih (op : Op) (s : State) : Result := .next (laneOp .lih op s)

/-- SEL (R114): selects ra or rb by its guard predicate and always executes. -/
def execLaneSel (op : Op) (s : State) : Result := .next (laneOp .sel op s)

/-- MIN (R115): signed minimum. -/
def execLaneMin (op : Op) (s : State) : Result := .next (laneOp .min op s)

/-- MAX (R115): signed maximum. -/
def execLaneMax (op : Op) (s : State) : Result := .next (laneOp .max op s)

/-- MINU (R115): unsigned minimum. -/
def execLaneMinu (op : Op) (s : State) : Result := .next (laneOp .minu op s)

/-- MAXU (R115): unsigned maximum. -/
def execLaneMaxu (op : Op) (s : State) : Result := .next (laneOp .maxu op s)

/-- ABS (R115): magnitude of ra, with −2^63 giving 2^63 − 1. -/
def execLaneAbs (op : Op) (s : State) : Result := .next (laneOp .abs op s)

/-- CLZ (R115): counts the leading zero bits of ra. -/
def execLaneClz (op : Op) (s : State) : Result := .next (laneOp .clz op s)

/-- POPC (R115): counts the one bits of ra. -/
def execLanePopc (op : Op) (s : State) : Result := .next (laneOp .popc op s)

/-- SEXT (R115): sign-extends ra from bit SH6. -/
def execLaneSext (op : Op) (s : State) : Result := .next (laneOp .sext op s)

/-- ADDS (R115): saturating signed add. -/
def execLaneAdds (op : Op) (s : State) : Result := .next (laneOp .adds op s)

/-- SUBS (R115): saturating signed subtract. -/
def execLaneSubs (op : Op) (s : State) : Result := .next (laneOp .subs op s)

/-- CMPEQ (R115): pd ← (ra = rb). -/
def execLaneCmpeq (op : Op) (s : State) : Result := .next (laneOp .cmpeq op s)

/-- CMPNE (R115): pd ← (ra ≠ rb). -/
def execLaneCmpne (op : Op) (s : State) : Result := .next (laneOp .cmpne op s)

/-- CMPLT (R115): pd ← signed ra < rb. -/
def execLaneCmplt (op : Op) (s : State) : Result := .next (laneOp .cmplt op s)

/-- CMPLE (R115): pd ← signed ra ≤ rb. -/
def execLaneCmple (op : Op) (s : State) : Result := .next (laneOp .cmple op s)

/-- CMPLTU (R115): pd ← unsigned ra < rb. -/
def execLaneCmpltu (op : Op) (s : State) : Result := .next (laneOp .cmpltu op s)

/-- CMPLEU (R115): pd ← unsigned ra ≤ rb. -/
def execLaneCmpleu (op : Op) (s : State) : Result := .next (laneOp .cmpleu op s)

/-- CMPEQI (R115): pd ← (ra = immediate). -/
def execLaneCmpeqi (op : Op) (s : State) : Result := .next (laneOp .cmpeqi op s)

/-- CMPLTI (R115): pd ← signed ra < immediate. -/
def execLaneCmplti (op : Op) (s : State) : Result := .next (laneOp .cmplti op s)

/-- TSTB (R115): pd ← bit IMM6 of ra. -/
def execLaneTstb (op : Op) (s : State) : Result := .next (laneOp .tstb op s)

/-- PAND (R115): predicate AND. -/
def execLanePand (op : Op) (s : State) : Result := .next (laneOp .pand op s)

/-- POR (R115): predicate OR. -/
def execLanePor (op : Op) (s : State) : Result := .next (laneOp .por op s)

/-- PNOT (R115): predicate NOT. -/
def execLanePnot (op : Op) (s : State) : Result := .next (laneOp .pnot op s)

/-- PGET (R115): copies p7–p0 into rd[7:0]. -/
def execLanePget (op : Op) (s : State) : Result := .next (laneOp .pget op s)

/-- PSET (R115): sets p1–p7 from ra[7:1]. -/
def execLanePset (op : Op) (s : State) : Result := .next (laneOp .pset op s)

/-- MUL (R115): low 64 bits of the product, with latency 3. -/
def execLaneMul (op : Op) (s : State) : Result := .next (laneOp .mul op s)

/-- MULHS (R115): high 64 bits of the signed product. -/
def execLaneMulhs (op : Op) (s : State) : Result := .next (laneOp .mulhs op s)

/-- MULHU (R115): high 64 bits of the unsigned product. -/
def execLaneMulhu (op : Op) (s : State) : Result := .next (laneOp .mulhu op s)

/-- DIV (R116): signed quotient with latency 20, with defined edge values for division by zero and overflow. -/
def execLaneDiv (op : Op) (s : State) : Result := .next (laneOp .div op s)

/-- DIVU (R116): unsigned quotient with latency 20. -/
def execLaneDivu (op : Op) (s : State) : Result := .next (laneOp .divu op s)

/-- REM (R116): signed remainder with latency 20. -/
def execLaneRem (op : Op) (s : State) : Result := .next (laneOp .rem op s)

/-- REMU (R116): unsigned remainder with latency 20. -/
def execLaneRemu (op : Op) (s : State) : Result := .next (laneOp .remu op s)

/-- LDB (R117): loads a sign-extended byte, with timing set by the window. -/
def execLaneLdb (op : Op) (s : State) : Result := .next (laneOp .ldb op s)

/-- LDBU (R117): loads a zero-extended byte. -/
def execLaneLdbu (op : Op) (s : State) : Result := .next (laneOp .ldbu op s)

/-- LDH (R117): loads a sign-extended 16-bit value. -/
def execLaneLdh (op : Op) (s : State) : Result := .next (laneOp .ldh op s)

/-- LDHU (R117): loads a zero-extended 16-bit value. -/
def execLaneLdhu (op : Op) (s : State) : Result := .next (laneOp .ldhu op s)

/-- LDW (R117): loads a sign-extended 32-bit value. -/
def execLaneLdw (op : Op) (s : State) : Result := .next (laneOp .ldw op s)

/-- LDWU (R117): loads a zero-extended 32-bit value. -/
def execLaneLdwu (op : Op) (s : State) : Result := .next (laneOp .ldwu op s)

/-- LDD (R117): loads a 64-bit value. -/
def execLaneLdd (op : Op) (s : State) : Result := .next (laneOp .ldd op s)

/-- LDDX (R117): loads a 64-bit value at ra + rb. -/
def execLaneLddx (op : Op) (s : State) : Result := .next (laneOp .lddx op s)

/-- STB (R498): stores a byte, as a read-modify-write of the aligned word in SECDED arrays. -/
def execLaneStb (op : Op) (s : State) : Result := .next (laneOp .stb op s)

/-- STH (R498): stores 16 bits. -/
def execLaneSth (op : Op) (s : State) : Result := .next (laneOp .sth op s)

/-- STW (R498): stores 32 bits. -/
def execLaneStw (op : Op) (s : State) : Result := .next (laneOp .stw op s)

/-- STD (R117): stores 64 bits. -/
def execLaneStd (op : Op) (s : State) : Result := .next (laneOp .std op s)

/-- STDX (R117): stores 64 bits at ra + rb. -/
def execLaneStdx (op : Op) (s : State) : Result := .next (laneOp .stdx op s)

/-- TAS (R121): test-and-set of bit 0 of a shared-memory word in one slot. -/
def execLaneTas (op : Op) (s : State) : Result := .next (laneOp .tas op s)

/-- LR (R122): load-reserved, which sets the lane's reservation on the granule. -/
def execLaneLr (op : Op) (s : State) : Result := .next (laneOp .lr op s)

/-- SC (R122): store-conditional, which writes only while the reservation holds, reports success in pd and clears the reservation. -/
def execLaneSc (op : Op) (s : State) : Result := .next (laneOp .sc op s)

/-- BR (R82): relative branch with two delay-slot bundles. -/
def execLaneBr (op : Op) (s : State) : Result := .next (laneOp .br op s)

/-- BRL (R115): relative branch that writes the return address to g63. -/
def execLaneBrl (op : Op) (s : State) : Result := .next (laneOp .brl op s)

/-- BRI (R115): indirect branch to the address in ra. -/
def execLaneBri (op : Op) (s : State) : Result := .next (laneOp .bri op s)

/-- BRIL (R115): indirect branch that writes the return address to g63. -/
def execLaneBril (op : Op) (s : State) : Result := .next (laneOp .bril op s)

/-- ENDB (R124): ends the block or plain and puts the lane at its end-of-block wait. -/
def execLaneEndb (op : Op) (s : State) : Result := .next (laneOp .endb op s)

/-- WAIT (R125): ends the block and marks the lane as waiting for the valley selected in PWR_MODE. -/
def execLaneWait (op : Op) (s : State) : Result := .next (laneOp .wait op s)

/-- DROPP (R126): puts the lane into unprivileged mode. -/
def execLaneDropp (op : Op) (s : State) : Result := .next (laneOp .dropp op s)

/-- RDCYC (R115): reads the lane cycle index within the tick. -/
def execLaneRdcyc (op : Op) (s : State) : Result := .next (laneOp .rdcyc op s)

/-- RDLANE (R115): reads the lane identity bits. -/
def execLaneRdlane (op : Op) (s : State) : Result := .next (laneOp .rdlane op s)

/-- TRAP (R132): raises a software trap with code IMM12. -/
def execLaneTrap (op : Op) (s : State) : Result := .next (laneOp .trap op s)

/-- ILLEGAL_ENCODING (R109 to R111, R132, R497): a bundle as its words; one with an illegal encoding is suppressed and traps. An
extension syllable before any operation makes a bundle illegal. -/
def execIllegalEncoding (lane : Fin 4) (words : List Word32) (s : State) : Result :=
  let l := s.lane lane.val
  let ws := bundleWords 8 words
  if !(l.running && l.inService && l.cur.isEmpty) || ws.isEmpty then .next s
  else
    let ys := joinWords lane ws
    let bad := if ws.any illegalWord then 0x08 else if (ws.take 1).any isExt then 0x09 else bundleCause ys
    .next (issue s lane.val ys ws.length bad)

end Sys2Proof.Machine
end

