-- ==== Sys2Proof/Machine/Pass.lean ====
section
/-!
DEFINITION. Passes (R48 to R50, R63, R93 to R97, R127, R378), the suspension of plains and lane faults (R97, R136).
-/
namespace Sys2Proof.Machine

/-! ### Issue -/

/-- The pass table of the variant in force lists a pass with these fields (R48, R49). [log entry 29 DEDUCED] -/
def passListed (s : State) (off kind lane arg : Nat) : Bool :=
  let o := (s.plan.sec 3 s.variant 0xFF).1
  let w := off * 2 ^ 45 + kind * 2 ^ 41 + lane * 2 ^ 39 + arg
  (upTo (s.plan.be o 4 - 1)).any fun i => s.plan.be (o + 16 + 8 * i) 8 == w

/-- The physical lane that runs a logical lane and is in service (R61, R63). -/
def passLane (s : State) (lane : Nat) : Option Nat := (lanesIn s).find? fun n => (s.lane n).logical == lane

/-- Passes of a kind issue now: in the handover tick only those that need no code of the plan, and none after count A of a
descent (R68, R378). [log entry 30 DEDUCED] -/
def passesRun (s : State) (kind : Nat) : Bool :=
  (s.seqState == seqRun || s.seqState == seqNarrows || (s.seqState == seqHandover && [0, 4, 5, 6, 7].contains kind)) &&
    (s.power.descent == .none || s.power.descent == .waiting) && s.boot == 0 && s.dom.logic

/-- A pass issues at its offset, behind the passes of the tick so far, on the physical lane of its owner: `act` is given the lane
and the count (R48, R93). -/
def passAt (s : State) (kind off lane arg : Nat) (act : State → Nat → Nat → State) : State :=
  match passLane s lane with
  | none => s
  | some n =>
    if passesRun s kind && decide (s.seq.passOff < off) && decide (off < s.seq.period) && passListed s off kind lane arg then
      let p := s.colCount + off
      let s := (settleCount s p).reach p
      act { s with seq := { s.seq with passOff := off } } n p
    else s

/-- PASS_NOP (R49). -/
def execPassNop (off : Nat) (lane : Fin 4) (s : State) : Result := .next (passAt s 0 off lane.val 0 fun s _ _ => s)

/-! ### Lanes (R50, R93, R94, R127) -/

/-- A lane is at its end-of-block wait at count `p` (R94). -/
def atWait (s : State) (n p : Nat) : Bool := !(s.lane n).running && decide ((s.lane n).endedAt ≤ cycleAt s p)

/-- FLT_TICK_OVERRUN of a lane and block; the lane's later blocks of the tick are withheld (R50). -/
def overrun (s : State) (n block : Nat) : State :=
  let s := s.setFlds [(Reg.TICK.OVERRUN.BLOCK, 0, block), (Reg.TICK.OVERRUN.LANE, 0, s.fld Reg.TICK.OVERRUN.LANE 0 ||| 2 ^ n)]
  raiseWith { s with seq := { s.seq with overrun := n :: s.seq.overrun } } Flt.TICK.OVERRUN n 2 (detail16 block) false

/-- A lane begins to issue 4 cycles after the first cycle of count `p` (R93). -/
def laneBegin (s : State) (n p pc : Nat) (priv plain : Bool) : State :=
  s.setLane n { s.lane n with
    running := true, plain := plain, priv := priv, pc := BitVec.ofNat 32 pc, cyc := cycleAt s p + 4, redirects := [], cur := [],
    waiting := false }

/-- A CODE pass: a block is no longer finished once its pass has issued. [log entry 27 DEDUCED] -/
def passCode (s : State) (n p block entry : Nat) : State :=
  let l := s.lane n
  let s := s.setLane n { l with done := l.done.filter (· != block) }
  if s.seq.overrun.contains n then { s with seq := { s.seq with withheld := (n, block) :: s.seq.withheld } }
  else if !atWait s n p then overrun { s with seq := { s.seq with withheld := (n, block) :: s.seq.withheld } } n block
  else laneBegin (s.setLane n { s.lane n with block := block }) n p (4 * entry) true false

/-- PASS_CODE (R49, R50, R93, R124). -/
def execPassCode (off : Nat) (lane : Fin 4) (block entry : BitVec 16) (s : State) : Result :=
  .next (passAt s 1 off lane.val (block.toNat * 2 ^ 16 + entry.toNat) fun s n p => passCode s n p block.toNat entry.toNat)

/-- PASS_MARK (R50, R93): the block must have finished before the first cycle of the count. [log entry 28 DEDUCED] -/
def execPassMark (off : Nat) (lane : Fin 4) (block : BitVec 16) (s : State) : Result :=
  .next (passAt s 8 off lane.val (block.toNat * 2 ^ 16) fun s n p =>
    let l := s.lane n
    if s.seq.withheld.contains (n, block.toNat) || (l.done.contains block.toNat && decide (l.endedAt ≤ cycleAt s p)) then s
    else overrun s n block.toNat)

/-- A PLAIN pass of a length in lane cycles: the saved context resumes, or plains code starts at its entry in privileged mode. -/
def passPlain (s : State) (n p len : Nat) : State :=
  if !atWait s n p then overrun s n (s.lane n).block
  else
    let saved := s.bit Reg.SYS.LANE_PSAVE.VALID n
    let pc := if saved then 4 * s.fld Reg.SYS.LANE_PSAVE.ADDR n else plainsEntry s
    let priv := !saved || s.bit Reg.SYS.LANE_PSAVE.PRIV n
    let s := laneBegin (s.setBit Reg.SYS.LANE_PSAVE.VALID n false) n p pc priv true
    s.setLane n { s.lane n with plainEnd := (s.lane n).cyc + len - 16 }

/-- PASS_PLAIN (R97, R127). [log entry 31 DEDUCED] -/
def execPassPlain (off : Nat) (lane : Fin 4) (len : BitVec 20) (s : State) : Result :=
  .next (passAt s 9 off lane.val len.toNat fun s n p => passPlain s n p len.toNat)

/-! ### Outputs, inputs, networks (R47, R93, R278, R305, R339, R343, R398) -/

/-- The number of a channel among the unit kinds of an EDGE pass, its bit in the edge-mode map, and its die. -/
def edgeUnit : OutUnit → Option (Nat × Nat × Nat)
  | .lsw n => some (n.val, n.val, lswDie n.val)
  | .hbr n => some (2 ^ 24 + n.val, 96 + n.val, hbDie n.val)
  | .vd n => some (2 * 2 ^ 24 + n.val, 112 + n.val, vdDie n.val)
  | .sink n => some (3 * 2 ^ 24 + n.val, 136 + n.val, sinkDie n.val)
  | _ => none

/-- The frozen value of an edge-mode channel takes effect at its die. -/
def edgeTake (s : State) (u : OutUnit) : State :=
  let set := smapGet regReset s.edge
  match u with
  | .lsw n => lswTake s n.val set
  | .hbr n => hbTake s n.val set
  | .vd n => bankGrant (vdTake s n.val set) (vdBank n.val)
  | .sink n => sinkTake s n.val set
  | _ => s

/-- PASS_EDGE (R47, R93): 4 counts later the power die applies the channel's frozen value, unless no frame has brought it.
[log entry 32 DEDUCED] -/
def execPassEdge (off : Nat) (lane : Fin 4) (chan : OutUnit) (s : State) : Result :=
  match edgeUnit chan with
  | none => .next s
  | some (arg, bit, die) =>
    .next (passAt s 2 off lane.val arg fun s _ p =>
      let s := s.reach (p + 4)
      if s.edgeMode bit && (linkedDies s).contains die && smapGet (fun _ => 0) s.seq.dieMiss die == 0 then
        settleRaises (edgeTake s chan)
      else s)

/-- PASS_SAMPLE (R93, R305). -/
def execPassSample (off : Nat) (lane : Fin 4) (group : Byte) (s : State) : Result :=
  .next (passAt s 3 off lane.val group.toNat fun s _ p => sampleStart s p group.toNat)

/-- PASS_BUS_TX (R93, R339): the frame is in its queue 3 counts later. -/
def execPassBusTx (off : Nat) (lane : Fin 4) (entry : BitVec 16) (s : State) : Result :=
  .next (passAt s 4 off lane.val entry.toNat fun s _ p => busTx (s.reach (p + 3)) entry.toNat)

/-- PASS_LIN_SLOT (R93, R343). -/
def execPassLinSlot (off : Nat) (lane : Fin 4) (entry : BitVec 16) (port : Fin 12) (s : State) : Result :=
  .next (passAt s 5 off lane.val (entry.toNat * 2 ^ 8 + port.val) fun s _ p => linSlot s port.val entry.toNat p)

/-- PASS_SCAN (R93, R278). -/
def execPassScan (off : Nat) (lane : Fin 4) (line : Option (Fin 12)) (s : State) : Result :=
  .next (passAt s 6 off lane.val (match line with | none => 0xFF | some l => l.val) fun s _ p => mxScan s p (line.map Fin.val))

/-- PASS_ACCESS (R93, R398). -/
def execPassAccess (off : Nat) (lane : Fin 4) (entry : BitVec 16) (s : State) : Result :=
  .next (passAt s 7 off lane.val entry.toNat fun s _ p =>
    match s.tableEntry 6 entry.toNat with
    | some e => accessPass s p e
    | none => s)

/-! ### Plains and lane faults -/

/-- PLAIN_SUSPEND (R97, R127): the plain's time is over, or the col has come; plains code stops at a bundle boundary. -/
def execPlainSuspend (lane : Fin 4) (s : State) : Result :=
  let n := lane.val
  let l := s.lane n
  if !(l.running && l.plain) then .next s
  else
    let next := s.seq.tickCyc + s.seq.k * s.seq.period
    let c := min l.plainEnd next
    let s := (settleTo s (c - 1)).reach (countOf s c)
    .next (plainStop s n (min (l.plainEnd + 16) (next + 16)))

/-- LANE_FAULT (R63, R135 to R137): a fault of a lane is found at the present count. [log entry 26 DEDUCED] -/
def execLaneFault (lane : Fin 4) (kind : LaneFaultKind) (s : State) : Result :=
  .next (laneLoss (settleCount s s.now) lane.val kind)

end Sys2Proof.Machine
end

