-- ==== Sys2Proof/Machine/Dispatch.lean ====
section
/-!
DEFINITION. Which meaning each command has: one arm per constructor of Instr.
-/
namespace Sys2Proof.Machine

/-- The effect of a command on everything but the queue. -/
def exec (i : Instr) (s : State) : Host.Outcome State Fault Refusal :=
  match i with
  | .registerWrite by_ off val => Sys2Proof.Machine.execRegisterWrite by_ off val s
  | .readClear by_ off => Sys2Proof.Machine.execReadClear by_ off s
  | .groupFirstRead by_ off => Sys2Proof.Machine.execGroupFirstRead by_ off s
  | .pairHighWrite by_ off val => Sys2Proof.Machine.execPairHighWrite by_ off val s
  | .stageCutoff => Sys2Proof.Machine.execStageCutoff s
  | .dieLinkFrame die crcOk inTime => Sys2Proof.Machine.execDieLinkFrame die crcOk inTime s
  | .dieLinkLoss die => Sys2Proof.Machine.execDieLinkLoss die s
  | .col m => Sys2Proof.Machine.execCol m s
  | .ledgerUpdate m => Sys2Proof.Machine.execLedgerUpdate m s
  | .passNop off lane => Sys2Proof.Machine.execPassNop off lane s
  | .passCode off lane block entry => Sys2Proof.Machine.execPassCode off lane block entry s
  | .passEdge off lane chan => Sys2Proof.Machine.execPassEdge off lane chan s
  | .passSample off lane group => Sys2Proof.Machine.execPassSample off lane group s
  | .passBusTx off lane entry => Sys2Proof.Machine.execPassBusTx off lane entry s
  | .passLinSlot off lane entry port => Sys2Proof.Machine.execPassLinSlot off lane entry port s
  | .passScan off lane line => Sys2Proof.Machine.execPassScan off lane line s
  | .passAccess off lane entry => Sys2Proof.Machine.execPassAccess off lane entry s
  | .passMark off lane block => Sys2Proof.Machine.execPassMark off lane block s
  | .passPlain off lane len => Sys2Proof.Machine.execPassPlain off lane len s
  | .plainSuspend lane => Sys2Proof.Machine.execPlainSuspend lane s
  | .load by_ => Sys2Proof.Machine.execLoad by_ s
  | .planLoadDone => Sys2Proof.Machine.execPlanLoadDone s
  | .laneFault lane kind => Sys2Proof.Machine.execLaneFault lane kind s
  | .narrowsSwitch => Sys2Proof.Machine.execNarrowsSwitch s
  | .hoArm by_ => Sys2Proof.Machine.execHoArm by_ s
  | .hoAbort by_ => Sys2Proof.Machine.execHoAbort by_ s
  | .handover => Sys2Proof.Machine.execHandover s
  | .laneNop op => Sys2Proof.Machine.execLaneNop op s
  | .laneAdd op => Sys2Proof.Machine.execLaneAdd op s
  | .laneAddi op => Sys2Proof.Machine.execLaneAddi op s
  | .laneSub op => Sys2Proof.Machine.execLaneSub op s
  | .laneAnd op => Sys2Proof.Machine.execLaneAnd op s
  | .laneAndi op => Sys2Proof.Machine.execLaneAndi op s
  | .laneOr op => Sys2Proof.Machine.execLaneOr op s
  | .laneOri op => Sys2Proof.Machine.execLaneOri op s
  | .laneXor op => Sys2Proof.Machine.execLaneXor op s
  | .laneXori op => Sys2Proof.Machine.execLaneXori op s
  | .laneShl op => Sys2Proof.Machine.execLaneShl op s
  | .laneShli op => Sys2Proof.Machine.execLaneShli op s
  | .laneShr op => Sys2Proof.Machine.execLaneShr op s
  | .laneShri op => Sys2Proof.Machine.execLaneShri op s
  | .laneSar op => Sys2Proof.Machine.execLaneSar op s
  | .laneSari op => Sys2Proof.Machine.execLaneSari op s
  | .laneMov op => Sys2Proof.Machine.execLaneMov op s
  | .laneLi op => Sys2Proof.Machine.execLaneLi op s
  | .laneLih op => Sys2Proof.Machine.execLaneLih op s
  | .laneSel op => Sys2Proof.Machine.execLaneSel op s
  | .laneMin op => Sys2Proof.Machine.execLaneMin op s
  | .laneMax op => Sys2Proof.Machine.execLaneMax op s
  | .laneMinu op => Sys2Proof.Machine.execLaneMinu op s
  | .laneMaxu op => Sys2Proof.Machine.execLaneMaxu op s
  | .laneAbs op => Sys2Proof.Machine.execLaneAbs op s
  | .laneClz op => Sys2Proof.Machine.execLaneClz op s
  | .lanePopc op => Sys2Proof.Machine.execLanePopc op s
  | .laneSext op => Sys2Proof.Machine.execLaneSext op s
  | .laneAdds op => Sys2Proof.Machine.execLaneAdds op s
  | .laneSubs op => Sys2Proof.Machine.execLaneSubs op s
  | .laneCmpeq op => Sys2Proof.Machine.execLaneCmpeq op s
  | .laneCmpne op => Sys2Proof.Machine.execLaneCmpne op s
  | .laneCmplt op => Sys2Proof.Machine.execLaneCmplt op s
  | .laneCmple op => Sys2Proof.Machine.execLaneCmple op s
  | .laneCmpltu op => Sys2Proof.Machine.execLaneCmpltu op s
  | .laneCmpleu op => Sys2Proof.Machine.execLaneCmpleu op s
  | .laneCmpeqi op => Sys2Proof.Machine.execLaneCmpeqi op s
  | .laneCmplti op => Sys2Proof.Machine.execLaneCmplti op s
  | .laneTstb op => Sys2Proof.Machine.execLaneTstb op s
  | .lanePand op => Sys2Proof.Machine.execLanePand op s
  | .lanePor op => Sys2Proof.Machine.execLanePor op s
  | .lanePnot op => Sys2Proof.Machine.execLanePnot op s
  | .lanePget op => Sys2Proof.Machine.execLanePget op s
  | .lanePset op => Sys2Proof.Machine.execLanePset op s
  | .laneMul op => Sys2Proof.Machine.execLaneMul op s
  | .laneMulhs op => Sys2Proof.Machine.execLaneMulhs op s
  | .laneMulhu op => Sys2Proof.Machine.execLaneMulhu op s
  | .laneDiv op => Sys2Proof.Machine.execLaneDiv op s
  | .laneDivu op => Sys2Proof.Machine.execLaneDivu op s
  | .laneRem op => Sys2Proof.Machine.execLaneRem op s
  | .laneRemu op => Sys2Proof.Machine.execLaneRemu op s
  | .laneLdb op => Sys2Proof.Machine.execLaneLdb op s
  | .laneLdbu op => Sys2Proof.Machine.execLaneLdbu op s
  | .laneLdh op => Sys2Proof.Machine.execLaneLdh op s
  | .laneLdhu op => Sys2Proof.Machine.execLaneLdhu op s
  | .laneLdw op => Sys2Proof.Machine.execLaneLdw op s
  | .laneLdwu op => Sys2Proof.Machine.execLaneLdwu op s
  | .laneLdd op => Sys2Proof.Machine.execLaneLdd op s
  | .laneLddx op => Sys2Proof.Machine.execLaneLddx op s
  | .laneStb op => Sys2Proof.Machine.execLaneStb op s
  | .laneSth op => Sys2Proof.Machine.execLaneSth op s
  | .laneStw op => Sys2Proof.Machine.execLaneStw op s
  | .laneStd op => Sys2Proof.Machine.execLaneStd op s
  | .laneStdx op => Sys2Proof.Machine.execLaneStdx op s
  | .laneTas op => Sys2Proof.Machine.execLaneTas op s
  | .laneLr op => Sys2Proof.Machine.execLaneLr op s
  | .laneSc op => Sys2Proof.Machine.execLaneSc op s
  | .laneBr op => Sys2Proof.Machine.execLaneBr op s
  | .laneBrl op => Sys2Proof.Machine.execLaneBrl op s
  | .laneBri op => Sys2Proof.Machine.execLaneBri op s
  | .laneBril op => Sys2Proof.Machine.execLaneBril op s
  | .laneEndb op => Sys2Proof.Machine.execLaneEndb op s
  | .laneWait op => Sys2Proof.Machine.execLaneWait op s
  | .laneDropp op => Sys2Proof.Machine.execLaneDropp op s
  | .laneRdcyc op => Sys2Proof.Machine.execLaneRdcyc op s
  | .laneRdlane op => Sys2Proof.Machine.execLaneRdlane op s
  | .laneTrap op => Sys2Proof.Machine.execLaneTrap op s
  | .injEcc2 by_ n => Sys2Proof.Machine.execInjEcc2 by_ n s
  | .injEcc1 by_ n => Sys2Proof.Machine.execInjEcc1 by_ n s
  | .injResidue by_ n => Sys2Proof.Machine.execInjResidue by_ n s
  | .nandHot t0 t1 => Sys2Proof.Machine.execNandHot t0 t1 s
  | .pulseGroupPhasePoint chan start => Sys2Proof.Machine.execPulseGroupPhasePoint chan start s
  | .dinEdge pin level => Sys2Proof.Machine.execDinEdge pin level s
  | .mirrorScanConversion code pins last => Sys2Proof.Machine.execMirrorScanConversion code pins last s
  | .fwTest n => Sys2Proof.Machine.execFwTest n s
  | .fwTestEnd n vmin current => Sys2Proof.Machine.execFwTestEnd n vmin current s
  | .limitTimeout n => Sys2Proof.Machine.execLimitTimeout n s
  | .hardShort n => Sys2Proof.Machine.execHardShort n s
  | .overTemperatureTrip n => Sys2Proof.Machine.execOverTemperatureTrip n s
  | .openLoadOn n => Sys2Proof.Machine.execOpenLoadOn n s
  | .offStateDiag n vout => Sys2Proof.Machine.execOffStateDiag n vout s
  | .clampTrip n => Sys2Proof.Machine.execClampTrip n s
  | .thermalLatchClear chan => Sys2Proof.Machine.execThermalLatchClear chan s
  | .retryRestart n => Sys2Proof.Machine.execRetryRestart n s
  | .retryRefill n => Sys2Proof.Machine.execRetryRefill n s
  | .reload n => Sys2Proof.Machine.execReload n s
  | .holdoverExpiry chan => Sys2Proof.Machine.execHoldoverExpiry chan s
  | .lswForceClamp by_ n => Sys2Proof.Machine.execLswForceClamp by_ n s
  | .lswForceTherm by_ n => Sys2Proof.Machine.execLswForceTherm by_ n s
  | .lswForceShort by_ n => Sys2Proof.Machine.execLswForceShort by_ n s
  | .lswForceOpen by_ n => Sys2Proof.Machine.execLswForceOpen by_ n s
  | .ledgerAdmit lane ch ist => Sys2Proof.Machine.execLedgerAdmit lane ch ist s
  | .ledgerRelease lane ch => Sys2Proof.Machine.execLedgerRelease lane ch s
  | .inrushEnd ch => Sys2Proof.Machine.execInrushEnd ch s
  | .ledgerForceSegtrip by_ seg => Sys2Proof.Machine.execLedgerForceSegtrip by_ seg s
  | .reversalBrakeEnd n => Sys2Proof.Machine.execReversalBrakeEnd n s
  | .brakeLimit n => Sys2Proof.Machine.execBrakeLimit n s
  | .bridgeShort n => Sys2Proof.Machine.execBridgeShort n s
  | .bridgeOverTemperature n => Sys2Proof.Machine.execBridgeOverTemperature n s
  | .stall n => Sys2Proof.Machine.execStall n s
  | .supbOvervoltage above => Sys2Proof.Machine.execSupbOvervoltage above s
  | .gateDriverFault chan => Sys2Proof.Machine.execGateDriverFault chan s
  | .rippleAccept n count mean ampl => Sys2Proof.Machine.execRippleAccept n count mean ampl s
  | .rippleInsert n => Sys2Proof.Machine.execRippleInsert n s
  | .rippleExtrapolate n => Sys2Proof.Machine.execRippleExtrapolate n s
  | .rippleExtrapExpiry n => Sys2Proof.Machine.execRippleExtrapExpiry n s
  | .posWrite by_ n val => Sys2Proof.Machine.execPosWrite by_ n val s
  | .hbrForceStall by_ n => Sys2Proof.Machine.execHbrForceStall by_ n s
  | .hbrForceTherm by_ n => Sys2Proof.Machine.execHbrForceTherm by_ n s
  | .hbrForceShort by_ n => Sys2Proof.Machine.execHbrForceShort by_ n s
  | .valveStart n => Sys2Proof.Machine.execValveStart n s
  | .valveOff n => Sys2Proof.Machine.execValveOff n s
  | .valveRearm n => Sys2Proof.Machine.execValveRearm n s
  | .microcodeWrite by_ bank word high val => Sys2Proof.Machine.execMicrocodeWrite by_ bank word high val s
  | .ucNop n x => Sys2Proof.Machine.execUcNop n x s
  | .ucSeti n x => Sys2Proof.Machine.execUcSeti n x s
  | .ucRamp n x => Sys2Proof.Machine.execUcRamp n x s
  | .ucPeak n x => Sys2Proof.Machine.execUcPeak n x s
  | .ucHold n x => Sys2Proof.Machine.execUcHold n x s
  | .ucRel n x => Sys2Proof.Machine.execUcRel n x s
  | .ucEnd n x => Sys2Proof.Machine.execUcEnd n x s
  | .ucWaitt n x => Sys2Proof.Machine.execUcWaitt n x s
  | .ucWaiti n x => Sys2Proof.Machine.execUcWaiti n x s
  | .ucWaitp n x => Sys2Proof.Machine.execUcWaitp n x s
  | .ucBrdl n x => Sys2Proof.Machine.execUcBrdl n x s
  | .ucJmp n x => Sys2Proof.Machine.execUcJmp n x s
  | .ucSetn n x => Sys2Proof.Machine.execUcSetn n x s
  | .ucLoop n x => Sys2Proof.Machine.execUcLoop n x s
  | .ucMark n x => Sys2Proof.Machine.execUcMark n x s
  | .peakCut n => Sys2Proof.Machine.execPeakCut n s
  | .runmaxExpiry n => Sys2Proof.Machine.execRunmaxExpiry n s
  | .coilModelUpdate n irms => Sys2Proof.Machine.execCoilModelUpdate n irms s
  | .pksCapMeasure cap => Sys2Proof.Machine.execPksCapMeasure cap s
  | .pksOvervoltage vpks => Sys2Proof.Machine.execPksOvervoltage vpks s
  | .vdShort n => Sys2Proof.Machine.execVdShort n s
  | .openCoil n => Sys2Proof.Machine.execOpenCoil n s
  | .vdOverTemperature n => Sys2Proof.Machine.execVdOverTemperature n s
  | .longClamp n => Sys2Proof.Machine.execLongClamp n s
  | .vbProtection b thermal => Sys2Proof.Machine.execVbProtection b thermal s
  | .valveForceCoilhot by_ n => Sys2Proof.Machine.execValveForceCoilhot by_ n s
  | .valveForceTherm by_ n => Sys2Proof.Machine.execValveForceTherm by_ n s
  | .valveForceOpen by_ n => Sys2Proof.Machine.execValveForceOpen by_ n s
  | .valveForceShort by_ n => Sys2Proof.Machine.execValveForceShort by_ n s
  | .ledModelUpdate n irms ref => Sys2Proof.Machine.execLedModelUpdate n irms ref s
  | .headroomMeasure n hr vout => Sys2Proof.Machine.execHeadroomMeasure n hr vout s
  | .setpointStep s_ vout => Sys2Proof.Machine.execSetpointStep s_ vout s
  | .stageReady s_ vout => Sys2Proof.Machine.execStageReady s_ vout s
  | .openString n => Sys2Proof.Machine.execOpenString n s
  | .stringShort n => Sys2Proof.Machine.execStringShort n s
  | .sinkOverTemperature n => Sys2Proof.Machine.execSinkOverTemperature n s
  | .stageProtection s_ trip => Sys2Proof.Machine.execStageProtection s_ trip s
  | .sinkRearm n => Sys2Proof.Machine.execSinkRearm n s
  | .stageRearm s_ => Sys2Proof.Machine.execStageRearm s_ s
  | .matrixRearm => Sys2Proof.Machine.execMatrixRearm s
  | .matrixFrameEnd => Sys2Proof.Machine.execMatrixFrameEnd s
  | .matrixDiag d => Sys2Proof.Machine.execMatrixDiag d s
  | .matrixHoldoverFrame => Sys2Proof.Machine.execMatrixHoldoverFrame s
  | .lightForceLeak by_ n => Sys2Proof.Machine.execLightForceLeak by_ n s
  | .lightForceTherm by_ n => Sys2Proof.Machine.execLightForceTherm by_ n s
  | .lightForceShort by_ n => Sys2Proof.Machine.execLightForceShort by_ n s
  | .lightForceOpen by_ n => Sys2Proof.Machine.execLightForceOpen by_ n s
  | .timeBaseCarry => Sys2Proof.Machine.execTimeBaseCarry s
  | .slowratioMeasure ratio => Sys2Proof.Machine.execSlowratioMeasure ratio s
  | .syncMessage port pdelay ns => Sys2Proof.Machine.execSyncMessage port pdelay ns s
  | .compareFire n => Sys2Proof.Machine.execCompareFire n s
  | .counterStep n dirHigh => Sys2Proof.Machine.execCounterStep n dirHigh s
  | .udcstart by_ mask => Sys2Proof.Machine.execUdcstart by_ mask s
  | .captureEdge n count level => Sys2Proof.Machine.execCaptureEdge n count level s
  | .siLevelChange n level => Sys2Proof.Machine.execSiLevelChange n level s
  | .siValleyPoll n level => Sys2Proof.Machine.execSiValleyPoll n level s
  | .aiConversionDone n code => Sys2Proof.Machine.execAiConversionDone n code s
  | .dictRead f => Sys2Proof.Machine.execDictRead f s
  | .dictWrite f => Sys2Proof.Machine.execDictWrite f s
  | .dictInvoke f => Sys2Proof.Machine.execDictInvoke f s
  | .dictDescribe f => Sys2Proof.Machine.execDictDescribe f s
  | .dictBlobRead f => Sys2Proof.Machine.execDictBlobRead f s
  | .jStatus f => Sys2Proof.Machine.execJStatus f s
  | .jByCseq f => Sys2Proof.Machine.execJByCseq f s
  | .jRead f => Sys2Proof.Machine.execJRead f s
  | .jScan f => Sys2Proof.Machine.execJScan f s
  | .jStarts f => Sys2Proof.Machine.execJStarts f s
  | .commandAcceptance fail => Sys2Proof.Machine.execCommandAcceptance fail s
  | .answerTransmit port => Sys2Proof.Machine.execAnswerTransmit port s
  | .busFrameReceive f => Sys2Proof.Machine.execBusFrameReceive f s
  | .linHeaderReceive l fid good => Sys2Proof.Machine.execLinHeaderReceive l fid good s
  | .neighbourSolicitation port target source claim => Sys2Proof.Machine.execNeighbourSolicitation port target source claim s
  | .echoRequest port target source data => Sys2Proof.Machine.execEchoRequest port target source data s
  | .linkLoss port => Sys2Proof.Machine.execLinkLoss port s
  | .plcaLost => Sys2Proof.Machine.execPlcaLost s
  | .transmitOpportunity => Sys2Proof.Machine.execTransmitOpportunity s
  | .canBusOff c => Sys2Proof.Machine.execCanBusOff c s
  | .busOffRecovery c => Sys2Proof.Machine.execBusOffRecovery c s
  | .canRecover by_ c => Sys2Proof.Machine.execCanRecover by_ c s
  | .outPost by_ outcome reason bind => Sys2Proof.Machine.execOutPost by_ outcome reason bind s
  | .outcomeJournaled fail => Sys2Proof.Machine.execOutcomeJournaled fail s
  | .namedColSnapshot => Sys2Proof.Machine.execNamedColSnapshot s
  | .barrierReport => Sys2Proof.Machine.execBarrierReport s
  | .stagedControllerReset => Sys2Proof.Machine.execStagedControllerReset s
  | .drainChunk fail => Sys2Proof.Machine.execDrainChunk fail s
  | .persistentStore => Sys2Proof.Machine.execPersistentStore s
  | .journalForceBank1 by_ => Sys2Proof.Machine.execJournalForceBank1 by_ s
  | .journalForceBank0 by_ => Sys2Proof.Machine.execJournalForceBank0 by_ s
  | .sleepArm by_ => Sys2Proof.Machine.execSleepArm by_ s
  | .watershed => Sys2Proof.Machine.execWatershed s
  | .descentStart => Sys2Proof.Machine.execDescentStart s
  | .forcedEntry => Sys2Proof.Machine.execForcedEntry s
  | .parkingCol => Sys2Proof.Machine.execParkingCol s
  | .valleyEntryComplete => Sys2Proof.Machine.execValleyEntryComplete s
  | .tc10Timeout port => Sys2Proof.Machine.execTc10Timeout port s
  | .valleyExit => Sys2Proof.Machine.execValleyExit s
  | .wakeLinePulse => Sys2Proof.Machine.execWakeLinePulse s
  | .wakeLineStuck => Sys2Proof.Machine.execWakeLineStuck s
  | .canSelectiveWake c ev => Sys2Proof.Machine.execCanSelectiveWake c ev s
  | .ethernetWake port tc10 => Sys2Proof.Machine.execEthernetWake port tc10 s
  | .linWake l => Sys2Proof.Machine.execLinWake l s
  | .sbsAddress addr read => Sys2Proof.Machine.execSbsAddress addr read s
  | .noTrafficExpiry => Sys2Proof.Machine.execNoTrafficExpiry s
  | .maxawakeExpiry => Sys2Proof.Machine.execMaxawakeExpiry s
  | .powerPulse by_ => Sys2Proof.Machine.execPowerPulse by_ s
  | .powerKeep by_ => Sys2Proof.Machine.execPowerKeep by_ s
  | .powerAbort by_ => Sys2Proof.Machine.execPowerAbort by_ s
  | .laneSupplyFault outside => Sys2Proof.Machine.execLaneSupplyFault outside s
  | .powerForceDescent by_ => Sys2Proof.Machine.execPowerForceDescent by_ s
  | .powerForceMaxawake by_ => Sys2Proof.Machine.execPowerForceMaxawake by_ s
  | .powerForceFalsewake by_ => Sys2Proof.Machine.execPowerForceFalsewake by_ s
  | .powerForceWakeline by_ => Sys2Proof.Machine.execPowerForceWakeline by_ s
  | .powerForceVlane by_ => Sys2Proof.Machine.execPowerForceVlane by_ s
  | .uhfAnswer f => Sys2Proof.Machine.execUhfAnswer f s
  | .roundEnd => Sys2Proof.Machine.execRoundEnd s
  | .roundAbort by_ => Sys2Proof.Machine.execRoundAbort by_ s
  | .aerialFault a ev => Sys2Proof.Machine.execAerialFault a ev s
  | .lockoutEnd => Sys2Proof.Machine.execLockoutEnd s
  | .lockoutLevelClear => Sys2Proof.Machine.execLockoutLevelClear s
  | .immoGo by_ => Sys2Proof.Machine.execImmoGo by_ s
  | .immoWindowExpiry => Sys2Proof.Machine.execImmoWindowExpiry s
  | .accessPoll => Sys2Proof.Machine.execAccessPoll s
  | .pollAnswer bytes => Sys2Proof.Machine.execPollAnswer bytes s
  | .accessForceRelay by_ => Sys2Proof.Machine.execAccessForceRelay by_ s
  | .accessForceAerial by_ => Sys2Proof.Machine.execAccessForceAerial by_ s
  | .accessForceFail by_ => Sys2Proof.Machine.execAccessForceFail by_ s
  | .keyImport by_ slot src => Sys2Proof.Machine.execKeyImport by_ slot src s
  | .keyGenerate by_ slot cls attr => Sys2Proof.Machine.execKeyGenerate by_ slot cls attr s
  | .keyDerive by_ slot src attr => Sys2Proof.Machine.execKeyDerive by_ slot src attr s
  | .keyExport by_ slot src => Sys2Proof.Machine.execKeyExport by_ slot src s
  | .keyErase by_ slot => Sys2Proof.Machine.execKeyErase by_ slot s
  | .keyLock by_ slot => Sys2Proof.Machine.execKeyLock by_ slot s
  | .keyRenewFb by_ => Sys2Proof.Machine.execKeyRenewFb by_ s
  | .keyZeroise by_ => Sys2Proof.Machine.execKeyZeroise by_ s
  | .keyOperationDone => Sys2Proof.Machine.execKeyOperationDone s
  | .keyRecordCheck bad => Sys2Proof.Machine.execKeyRecordCheck bad s
  | .tamper src => Sys2Proof.Machine.execTamper src s
  | .trngFail => Sys2Proof.Machine.execTrngFail s
  | .crqCmac by_ slot => Sys2Proof.Machine.execCrqCmac by_ slot s
  | .crqEncrypt by_ slot => Sys2Proof.Machine.execCrqEncrypt by_ slot s
  | .crqSha256 by_ => Sys2Proof.Machine.execCrqSha256 by_ s
  | .crqAttest by_ => Sys2Proof.Machine.execCrqAttest by_ s
  | .crqDone => Sys2Proof.Machine.execCrqDone s
  | .keysForceTamper by_ => Sys2Proof.Machine.execKeysForceTamper by_ s
  | .keysForceSlotfail by_ => Sys2Proof.Machine.execKeysForceSlotfail by_ s
  | .keysForceTrng by_ => Sys2Proof.Machine.execKeysForceTrng by_ s
  | .updateBegin by_ => Sys2Proof.Machine.execUpdateBegin by_ s
  | .eraseDone => Sys2Proof.Machine.execEraseDone s
  | .updateVerify by_ => Sys2Proof.Machine.execUpdateVerify by_ s
  | .verifyDone => Sys2Proof.Machine.execVerifyDone s
  | .updateAbort by_ => Sys2Proof.Machine.execUpdateAbort by_ s
  | .updateRecover by_ => Sys2Proof.Machine.execUpdateRecover by_ s
  | .stagingPush by_ => Sys2Proof.Machine.execStagingPush by_ s
  | .chunkWrite fail => Sys2Proof.Machine.execChunkWrite fail s
  | .activationConfirm => Sys2Proof.Machine.execActivationConfirm s
  | .sbsStatus crcOk => Sys2Proof.Machine.execSbsStatus crcOk s
  | .sbsBegin crcOk => Sys2Proof.Machine.execSbsBegin crcOk s
  | .sbsChunk crcOk off data fail => Sys2Proof.Machine.execSbsChunk crcOk off data fail s
  | .sbsVerify crcOk => Sys2Proof.Machine.execSbsVerify crcOk s
  | .sbsActivate crcOk => Sys2Proof.Machine.execSbsActivate crcOk s
  | .sbsRecover crcOk arg => Sys2Proof.Machine.execSbsRecover crcOk arg s
  | .sbsRead at_ => Sys2Proof.Machine.execSbsRead at_ s
  | .updateForceSelector by_ => Sys2Proof.Machine.execUpdateForceSelector by_ s
  | .updateForceDigest by_ => Sys2Proof.Machine.execUpdateForceDigest by_ s
  | .updateForceStore by_ => Sys2Proof.Machine.execUpdateForceStore by_ s
  | .faultForce by_ src cls unit => Sys2Proof.Machine.execFaultForce by_ src cls unit s
  | .faultAck by_ classes => Sys2Proof.Machine.execFaultAck by_ classes s
  | .faultAckone by_ src unit => Sys2Proof.Machine.execFaultAckone by_ src unit s
  | .refclkFault => Sys2Proof.Machine.execRefclkFault s
  | .terminalDumpDone => Sys2Proof.Machine.execTerminalDumpDone s
  | .logClear by_ => Sys2Proof.Machine.execLogClear by_ s
  | .logClrdump by_ => Sys2Proof.Machine.execLogClrdump by_ s
  | .terminalLatchClear => Sys2Proof.Machine.execTerminalLatchClear s
  | .supplyRise supA supB => Sys2Proof.Machine.execSupplyRise supA supB s
  | .supplyFall supA supB => Sys2Proof.Machine.execSupplyFall supA supB s
  | .supplyUndervoltage die under => Sys2Proof.Machine.execSupplyUndervoltage die under s
  | .pwrDomainOn die ref => Sys2Proof.Machine.execPwrDomainOn die ref s
  | .rstnLow low => Sys2Proof.Machine.execRstnLow low s
  | .controllerReset => Sys2Proof.Machine.execControllerReset s
  | .start x => Sys2Proof.Machine.execStart x s
  | .illegalEncoding lane words => Sys2Proof.Machine.execIllegalEncoding lane words s
  | .unsupportedOperation f => Sys2Proof.Machine.execUnsupportedOperation f s
  | .linkUp port => Sys2Proof.Machine.execLinkUp port s
  | .plcaInStep => Sys2Proof.Machine.execPlcaInStep s
  | .timeAwareNeighbourLoss => Sys2Proof.Machine.execTimeAwareNeighbourLoss s
  | .tc10SleepHandshake port => Sys2Proof.Machine.execTc10SleepHandshake port s
  | .wakeLineRecovery => Sys2Proof.Machine.execWakeLineRecovery s
  | .wakePulseEnd => Sys2Proof.Machine.execWakePulseEnd s
  | .cleaningPulseEnd n => Sys2Proof.Machine.execCleaningPulseEnd n s
  | .loadDump input above => Sys2Proof.Machine.execLoadDump input above s
  | .currentLimit n limiting => Sys2Proof.Machine.execCurrentLimit n limiting s
  | .pksReady vpks => Sys2Proof.Machine.execPksReady vpks s
  | .testAccessPort tms trstnLow => Sys2Proof.Machine.execTestAccessPort tms trstnLow s

end Sys2Proof.Machine
end

