-- ==== Sys2Proof/Machine/Idle.lean ====
section
/-!
DEFINITION. What passes without a command: one count of the time base, and what the lanes have in flight.
-/
namespace Sys2Proof.Machine

/-- One count passes where the time base runs (R288), and the operations in flight of the counts before act. -/
def idle (s : State) : State :=
  if timeRuns s then settleCount (s.later 1) (s.now + 1) else s

end Sys2Proof.Machine
end

