-- ==== Sys2Proof/Safety.lean ====
section
/-!
DEFINITION. What claims about the Z96 speak of: the queue and the byte memories as one value, the canonical form of every
memory, a command that completes, outputs that are off.
-/
namespace Sys2Proof.Machine

/-- The queue, then instruction, data and shared memory and the calibration copy. -/
abbrev Held := List Instr × List (Nat × Byte) × List (Nat × Byte) × List (Nat × Byte) × List (Nat × Byte)

/-- The queue and the byte memories of a state. -/
def State.held (s : State) : Held := (s.pending, s.imem, s.dmem, s.shared, s.calCopy)

/-- Every byte memory has its canonical form. -/
def State.memOk (s : State) : Bool := Memory.wf s.imem && Memory.wf s.dmem && Memory.wf s.shared && Memory.wf s.calCopy

/-- `t` has the queue of `s`, and its memories keep their canonical form. -/
structure Keeps (s t : State) : Prop where
  pending : t.pending = s.pending
  mem : s.memOk = true → t.memOk = true

/-- A command has a next state, whose queue and memories are `x`. -/
def Res.held (r : Result) (x : Held) : Prop := ∃ t, r = .next t ∧ t.held = x

/-- A command has a next state, which keeps the queue and the canonical form of the memories. -/
def Res.keeps (s : State) (r : Result) : Prop := ∃ t, r = .next t ∧ Keeps s t

/-! ### Lane operations (R78 to R135) -/

/-- The lane of an operation, and its next cycle. -/
def Op.at (op : Op) (s : State) : Lane := s.lane op.lane.val
def Op.cyc (op : Op) (s : State) : Nat := (op.at s).cyc

/-- Sources as the lane's bank in use holds them: g0 reads 0 and p0 reads 1 (R107, R113). -/
def Op.srcA (op : Op) (s : State) : Word := (op.at s).gpr (op.at s).plain op.ra
def Op.srcB (op : Op) (s : State) : Word := (op.at s).gpr (op.at s).plain op.rb
def Op.srcD (op : Op) (s : State) : Word := (op.at s).gpr (op.at s).plain op.rd
def Op.prd (op : Op) (s : State) (p : Nat) : Bool := (op.at s).prd (op.at s).plain p

/-- The guard p[PR] XOR PN (R114). -/
def Op.guard (op : Op) (s : State) : Bool := op.prd s op.pred.val != op.neg

/-- A lane runs in service and is about to issue a legal bundle of this one operation: nothing in flight is due before its next
cycle, no branch is under way, its bundle stands in the code window, a plain has time left, and no injected error waits. -/
structure Ready (s : State) (k : OpKind) (op : Op) : Prop where
  runs : (op.at s).running = true
  service : (op.at s).inService = true
  first : (op.at s).cur = []
  stop : op.stop = true
  flight : ∀ e ∈ s.laneEv, op.cyc s < e.due
  straight : (op.at s).redirects = []
  window : plainsEntry s ≤ (op.at s).pc.toNat ∧ (op.at s).pc.toNat + 4 * (1 + op.ext.length) ≤ windowEnd s
  aligned : (op.at s).pc.toNat % 4 = 0
  legal : bundleCause [{ kind := k, op := op }] = 0
  time : (op.at s).plain = true → op.cyc s + 1 < (op.at s).plainEnd
  clean : (op.at s).residue = false

/-- The lane behind the bundle: the next address and cycle, nothing else changed. -/
def Op.after (op : Op) (s : State) : Lane :=
  { op.at s with pc := BitVec.ofNat 32 ((op.at s).pc.toNat + 4 * (1 + op.ext.length)), cyc := op.cyc s + 1 }

/-- From `s` to `t` the operation's lane has become `l` and the operations in flight `ev`; the time base has reached the bundle's
cycle, and nothing else has changed: no other lane, no register, no memory. -/
structure Issued (s t : State) (op : Op) (l : Lane) (ev : List LaneEv) : Prop where
  lane : t.lane op.lane.val = l
  others : ∀ m, m ≠ op.lane.val → t.lane m = s.lane m
  flight : t.laneEv = ev
  now : t.now = max s.now (countOf s (op.cyc s))
  rest : t = { s with now := t.now, lanes := t.lanes, laneEv := t.laneEv }

/-- An act of the operation put among those in flight, in the order in which they act. -/
def Op.fly (op : Op) (s : State) (due : Nat) (a : LaneAct) : List LaneEv :=
  evInsert { due := due, prio := actPrio a, issue := op.cyc s, lane := op.lane.val, act := a } s.laneEv

/-- The operation completes: its result comes `lat` cycles after its issue. -/
def Completes (i : Instr) (s : State) (op : Op) (l : Lane) (ev : List LaneEv) : Prop :=
  ∃ t, exec i s = .next t ∧ Issued s t op l ev

/-- A number held in the range of a signed 64-bit word (R115). -/
def clamp64 (v : Int) : Word := BitVec.ofInt 64 (max (-2 ^ 63) (min v (2 ^ 63 - 1)))

/-- The operations of one cycle on general registers, with their results as R115 and R116 give them. -/
def aluRows : List ((Op → Instr) × OpKind × (State → Op → Word)) := [
  (.laneAdd, .add, fun s o => BitVec.ofNat 64 ((o.srcA s).toNat + (o.srcB s).toNat)),
  (.laneAddi, .addi, fun s o => BitVec.ofNat 64 ((o.srcA s).toNat + o.imm6.toNat)),
  (.laneSub, .sub, fun s o => BitVec.ofInt 64 ((o.srcA s).toInt - (o.srcB s).toInt)),
  (.laneAnd, .and, fun s o => o.srcA s &&& o.srcB s),
  (.laneAndi, .andi, fun s o => o.srcA s &&& o.imm6),
  (.laneOr, .or, fun s o => o.srcA s ||| o.srcB s),
  (.laneOri, .ori, fun s o => o.srcA s ||| o.imm6),
  (.laneXor, .xor, fun s o => o.srcA s ^^^ o.srcB s),
  (.laneXori, .xori, fun s o => o.srcA s ^^^ o.imm6),
  (.laneShl, .shl, fun s o => BitVec.ofNat 64 ((o.srcA s).toNat * 2 ^ ((o.srcB s).toNat % 64))),
  (.laneShli, .shli, fun s o => BitVec.ofNat 64 ((o.srcA s).toNat * 2 ^ o.sh)),
  (.laneShr, .shr, fun s o => BitVec.ofNat 64 ((o.srcA s).toNat / 2 ^ ((o.srcB s).toNat % 64))),
  (.laneShri, .shri, fun s o => BitVec.ofNat 64 ((o.srcA s).toNat / 2 ^ o.sh)),
  (.laneSar, .sar, fun s o => BitVec.ofInt 64 ((o.srcA s).toInt / 2 ^ ((o.srcB s).toNat % 64))),
  (.laneSari, .sari, fun s o => BitVec.ofInt 64 ((o.srcA s).toInt / 2 ^ o.sh)),
  (.laneMov, .mov, fun s o => o.srcA s),
  (.laneLi, .li, fun _ o => o.imm12),
  (.laneLih, .lih, fun s o => BitVec.ofNat 64 (o.opnd.toNat % 2 ^ 12 * 2 ^ 52 + (o.srcD s).toNat % 2 ^ 52)),
  (.laneMin, .min, fun s o => if (o.srcA s).toInt ≤ (o.srcB s).toInt then o.srcA s else o.srcB s),
  (.laneMax, .max, fun s o => if (o.srcA s).toInt ≤ (o.srcB s).toInt then o.srcB s else o.srcA s),
  (.laneMinu, .minu, fun s o => if (o.srcA s).toNat ≤ (o.srcB s).toNat then o.srcA s else o.srcB s),
  (.laneMaxu, .maxu, fun s o => if (o.srcA s).toNat ≤ (o.srcB s).toNat then o.srcB s else o.srcA s),
  (.laneAbs, .abs, fun s o => if (o.srcA s).toInt = -2 ^ 63 then BitVec.ofNat 64 (2 ^ 63 - 1) else BitVec.ofNat 64 (o.srcA s).toInt.natAbs),
  (.laneClz, .clz, fun s o => BitVec.ofNat 64 ((List.range 64).countP fun i => (o.srcA s).toNat < 2 ^ i)),
  (.lanePopc, .popc, fun s o => BitVec.ofNat 64 ((List.range 64).countP fun i => (o.srcA s).getLsbD i)),
  (.laneSext, .sext, fun s o => ((o.srcA s).setWidth (o.sh + 1)).signExtend 64),
  (.laneAdds, .adds, fun s o => clamp64 ((o.srcA s).toInt + (o.srcB s).toInt)),
  (.laneSubs, .subs, fun s o => clamp64 ((o.srcA s).toInt - (o.srcB s).toInt)),
  (.lanePget, .pget, fun s o => BitVec.ofNat 64 (((List.range 8).map fun i => if o.prd s i then 2 ^ i else 0).sum)),
  (.laneRdcyc, .rdcyc, fun s o => BitVec.ofNat 64 (o.cyc s - s.seq.tickCyc)),
  (.laneRdlane, .rdlane, fun s o => BitVec.ofNat 64 (o.lane.val + 4 * ((o.at s).logical % 4) + 16 * s.seq.narrows.toNat +
    32 * (o.at s).priv.toNat + 64 * (o.at s).plain.toNat))]

/-- The operations that write a predicate, with their results (R115). -/
def predRows : List ((Op → Instr) × OpKind × (State → Op → Bool)) := [
  (.laneCmpeq, .cmpeq, fun s o => decide (o.srcA s = o.srcB s)),
  (.laneCmpne, .cmpne, fun s o => decide (o.srcA s ≠ o.srcB s)),
  (.laneCmplt, .cmplt, fun s o => decide ((o.srcA s).toInt < (o.srcB s).toInt)),
  (.laneCmple, .cmple, fun s o => decide ((o.srcA s).toInt ≤ (o.srcB s).toInt)),
  (.laneCmpltu, .cmpltu, fun s o => decide ((o.srcA s).toNat < (o.srcB s).toNat)),
  (.laneCmpleu, .cmpleu, fun s o => decide ((o.srcA s).toNat ≤ (o.srcB s).toNat)),
  (.laneCmpeqi, .cmpeqi, fun s o => decide (o.srcA s = o.imm6)),
  (.laneCmplti, .cmplti, fun s o => decide ((o.srcA s).toInt < o.imm6.toInt)),
  (.laneTstb, .tstb, fun s o => decide ((o.srcA s).toNat / 2 ^ (o.opnd.toNat % 64) % 2 = 1)),
  (.lanePand, .pand, fun s o => o.prd s o.pa && o.prd s o.pb),
  (.lanePor, .por, fun s o => o.prd s o.pa || o.prd s o.pb),
  (.lanePnot, .pnot, fun s o => !o.prd s o.pa)]

/-- Multiplications, with their results (R115, R116). -/
def mulRows : List ((Op → Instr) × OpKind × (State → Op → Word)) := [
  (.laneMul, .mul, fun s o => BitVec.ofNat 64 ((o.srcA s).toNat * (o.srcB s).toNat)),
  (.laneMulhs, .mulhs, fun s o => BitVec.ofInt 64 ((o.srcA s).toInt * (o.srcB s).toInt / 2 ^ 64)),
  (.laneMulhu, .mulhu, fun s o => BitVec.ofNat 64 ((o.srcA s).toNat * (o.srcB s).toNat / 2 ^ 64))]

/-- Divisions, with their results, the edge values of R116 among them. -/
def divRows : List ((Op → Instr) × OpKind × (State → Op → Word)) := [
  (.laneDiv, .div, fun s o =>
    if (o.srcB s).toNat = 0 then BitVec.ofNat 64 (2 ^ 64 - 1)
    else if (o.srcA s).toInt = -2 ^ 63 ∧ (o.srcB s).toInt = -1 then BitVec.ofInt 64 (-2 ^ 63)
    else BitVec.ofInt 64 ((o.srcA s).toInt.tdiv (o.srcB s).toInt)),
  (.laneDivu, .divu, fun s o =>
    if (o.srcB s).toNat = 0 then BitVec.ofNat 64 (2 ^ 64 - 1) else BitVec.ofNat 64 ((o.srcA s).toNat / (o.srcB s).toNat)),
  (.laneRem, .rem, fun s o =>
    if (o.srcB s).toNat = 0 then o.srcA s
    else if (o.srcA s).toInt = -2 ^ 63 ∧ (o.srcB s).toInt = -1 then 0
    else BitVec.ofInt 64 ((o.srcA s).toInt.tmod (o.srcB s).toInt)),
  (.laneRemu, .remu, fun s o =>
    if (o.srcB s).toNat = 0 then o.srcA s else BitVec.ofNat 64 ((o.srcA s).toNat % (o.srcB s).toNat))]

/-- Loads of format M: constructor, operation, bytes, sign extension (R115, R117). -/
def loadRows : List ((Op → Instr) × OpKind × Nat × Bool) := [
  (.laneLdb, .ldb, 1, true), (.laneLdbu, .ldbu, 1, false), (.laneLdh, .ldh, 2, true), (.laneLdhu, .ldhu, 2, false),
  (.laneLdw, .ldw, 4, true), (.laneLdwu, .ldwu, 4, false), (.laneLdd, .ldd, 8, false), (.laneLddx, .lddx, 8, false)]

/-- Stores: constructor, operation, bytes (R115, R117). -/
def storeRows : List ((Op → Instr) × OpKind × Nat) := [
  (.laneStb, .stb, 1), (.laneSth, .sth, 2), (.laneStw, .stw, 4), (.laneStd, .std, 8), (.laneStdx, .stdx, 8)]

/-- Atomic operations (R121, R122): constructor, operation, whether they write. -/
def atomicRows : List ((Op → Instr) × OpKind × Bool) := [
  (.laneTas, .tas, true), (.laneLr, .lr, false), (.laneSc, .sc, true)]

/-- The address of a memory operation by its format (R117): ra + rb for MX, ra for MS, ra + imm × size for M. -/
def memAddr (s : State) (k : OpKind) (op : Op) (size : Nat) : Word :=
  if k = .lddx ∨ k = .stdx then op.srcA s + op.srcB s
  else if k = .sc then op.srcA s
  else op.srcA s + op.imm6 * BitVec.ofNat 64 size

/-- The context in which the operation issues. -/
def Op.ctx (op : Op) (s : State) : Ctx :=
  { n := op.lane.val, c := op.cyc s, l := op.at s, pc := (op.at s).pc.toNat,
    next := (op.at s).pc.toNat + 4 * (1 + op.ext.length), inSlot := false }

/-- R497 names no trap for the access, and no other operation holds the shared path. -/
def accessOk (s : State) (k : OpKind) (op : Op) (size : Nat) (writes atomic : Bool) : Prop :=
  memCause (op.ctx s) s op.slot (memAddr s k op size) size writes atomic = 0

/-- The window of a memory operation and the offset in it. -/
def memWin (s : State) (k : OpKind) (op : Op) (size : Nat) : Window × Nat :=
  windowOf ((memAddr s k op size).toNat % 2 ^ 32)

/-- The slot of the lane's next shared access (R86). -/
def Op.wheel (op : Op) (s : State) : Nat := nextSlot s op.lane.val (op.cyc s)

/-- The lane behind a shared access: the path is held up to the access's slot, or its data of MRAM (R83, R117). -/
def Op.afterShared (op : Op) (s : State) (until' : Nat) : Lane :=
  { op.after s with pathUntil := max (op.at s).pathUntil until' }

/-! ### Faults (R456 to R471) -/

/-- The collector takes raises: it is up, class F3 is not in force, and no raise waits. -/
structure Live (s : State) : Prop where
  up : s.collectorUp = true
  open' : s.bit Reg.FAULT.STATUS.TERMINAL 0 = false
  quiet : s.raiseQ = []

/-- The flag of a source, unit and class is pending (R461). -/
def Flagged (t : State) (src unit cls : Nat) : Prop := (⟨src, unit, cls⟩ : FaultFlag) ∈ t.flags

/-- The command completes, and the flag is pending behind it. -/
def Raises (i : Instr) (s : State) (src unit cls : Nat) : Prop :=
  ∃ t, exec i s = .next t ∧ Flagged t src unit cls

/-- The command completes in a state of which `P` holds. -/
def Ends (i : Instr) (s : State) (P : State → Prop) : Prop := ∃ t, exec i s = .next t ∧ P t

/-- A force or injection is let through: privileged, with the force enable set (R470). -/
structure Forced (s : State) (b : By) : Prop where
  priv : b.priv = true
  enabled : s.bit Reg.FAULT.CTRL.FORCE_EN 0 = true

/-- No flag of the source and unit is pending, so that a raise is not escalated (R462). -/
def Fresh (s : State) (src unit : Nat) : Prop := ∀ f ∈ s.flags, ¬(f.src = src ∧ f.unit = unit)

/-- Nothing waits to be raised, and no clamp trip is armed on a load switch. -/
def Calm (s : State) : Prop := s.raiseQ = [] ∧ ∀ n, (s.lswCh n).forceClamp = false

/-! ### Valves (R228 to R259) -/

/-- The step at which the word that a profile issues next may issue, given the coil input (R237). -/
def ucStep (s : State) (n : Nat) (x : CoilIn) : Nat := max (max (stepAt s.now) (stepAt x.now)) (s.vdCh n).next

/-- The word that a profile issues next. -/
def ucNext (s : State) (n : Nat) : Nat := ucWord s (vdBank n) (s.vdCh n).succ

/-- Channel `n` runs a profile that waits for nothing, and its next word is a sound instruction of opcode `op`. -/
structure UcReady (s : State) (n op : Nat) : Prop where
  runs : vdPhase s n ≠ vdIdle
  free : (s.vdCh n).wait = .none
  sound : (s.vdCh n).succ ∉ (s.bank (vdBank n)).bad
  good : ucBad (s.vdCh n).succ (ucNext s n) = false
  opcode : ucOp (ucNext s n) = op
  quiet : s.raiseQ = []

/-- The start of a profile is not refused (R234). -/
structure StartOk (s : State) (n : Nat) : Prop where
  store : s.bit Reg.VALVE.PSTAT.UC_BLOCK n = false
  coil : s.bit Reg.VALVE.PSTAT.COIL_BLOCK n = false
  bank : s.bit Reg.VALVE.PSTAT.VB_BLOCK n = false
  prot : s.bit Reg.VALVE.PSTAT.PROT_OFF n = false
  valid : descValid (ucWord s (vdBank n) (s.effFld Reg.VALVE.CMD.PROF n)) = true

/-! ### Wakes (R375, R376) -/

/-- An event of wake source `b` counts: a sleep is armed or passed, and the source is enabled or cannot be disabled. -/
structure WakeOn (s : State) (b : Nat) : Prop where
  asleep : sleepState s ≠ sleepIdle
  enabled : (s.fld Reg.POWER.WAKEEN.EN 0).testBit b = true ∨ 10 ≤ b

/-- The command completes as a wake event of source `b`: its reason bit is set, and a sleep that was armed is aborted. -/
def Wakes (i : Instr) (s : State) (b : Nat) : Prop :=
  ∃ t, exec i s = .next t ∧ (t.fld Reg.POWER.WAKEREASON.REASON 0).testBit b = true ∧
    (sleepState s = sleepArmed → sleepState t = sleepIdle ∧ t.bit Reg.POWER.STATUS.ABORTED 0 = true)

/-! ### Dictionary frames (R321 to R332) -/

/-- A frame passes checks 1 to 4 for a client of a role, under its key. -/
structure Authentic (s : State) (g : DictFrame) (role : Nat) (key : List Byte) : Prop where
  up : dictUp s = true
  whole : frameOk s g = true
  client : clientOk s g = some (role, key)
  known : supported g = true

/-- The answer to a frame under a key (R321, R322). -/
def answerOf (g : DictFrame) (key : List Byte) (status flags : Nat) (body : List Byte) : Answer :=
  { form := g.form.val, brs := g.brs, client := g.client.toNat, op := g.op.toNat, flags := 1 + flags, status := status,
    cseq := g.cseq.toNat, index := g.index.toNat, sub := g.sub.toNat, vtype := g.vtype.toNat, body := body,
    tag := tagOf key (canonical g.client.toNat g.op.toNat (1 + flags) status 1 g.cseq.toNat g.index.toNat g.sub.toNat g.vtype.toNat body) }

/-- From `s` to `t` one answer has joined the queue of the frame's port. -/
def Answered (s t : State) (g : DictFrame) (key : List Byte) (status flags : Nat) (body : List Byte) : Prop :=
  txQueue t g.port.val = txInsert (.answer (decide (flags / 8 % 2 = 1)) (answerOf g key status flags body)) (txQueue s g.port.val)

/-- The command completes with one answer to the frame, and no register outside the POWER and NET blocks changes. -/
def Answers (i : Instr) (s : State) (g : DictFrame) (key : List Byte) (status flags : Nat) (body : List Byte) : Prop :=
  ∃ t, exec i s = .next t ∧ Answered s t g key status flags body ∧ t.journal = s.journal ∧
    ∀ o, o < 0x200000 → t.word o = s.word o

/-! ### Passes (R48, R49, R93) -/

/-- A pass of this kind, offset, lane and argument issues on physical lane `n`; no operation is in flight. -/
structure PassReady (s : State) (kind off lane arg n : Nat) : Prop where
  owner : passLane s lane = some n
  runs : passesRun s kind = true
  order : s.seq.passOff < off ∧ off < s.seq.period
  listed : passListed s off kind lane arg = true
  quiet : s.laneEv = []

/-- The pass has issued: its offset is the latest of the tick, and the time base has reached its count. -/
structure Passed (s t : State) (off : Nat) : Prop where
  latest : t.seq.passOff = off
  now : s.colCount + off ≤ t.now

/-! ### Memories -/

/-- The commands that can change a byte of instruction, data or shared memory or of the calibration copy: those in whose course
what the lanes have in flight acts, and those that load, snapshot or lose memory. -/
def writesMemory : Instr → Bool
  | .illegalEncoding .. | .stageCutoff | .col .. | .narrowsSwitch | .passNop .. | .passCode .. | .passMark .. | .passPlain .. |
    .passEdge .. | .passSample .. | .passBusTx .. | .passLinSlot .. | .passScan .. | .passAccess .. | .plainSuspend .. | .laneFault .. |
    .supplyFall .. | .planLoadDone | .start .. | .handover |
    .laneNop .. | .laneAdd .. | .laneAddi .. | .laneSub .. | .laneAnd .. | .laneAndi .. | .laneOr .. | .laneOri .. |
    .laneXor .. | .laneXori .. | .laneShl .. | .laneShli .. | .laneShr .. | .laneShri .. | .laneSar .. |
    .laneSari .. | .laneMov .. | .laneLi .. | .laneLih .. | .laneSel .. | .laneMin .. | .laneMax .. | .laneMinu .. |
    .laneMaxu .. | .laneAbs .. | .laneClz .. | .lanePopc .. | .laneSext .. | .laneAdds .. | .laneSubs .. |
    .laneCmpeq .. | .laneCmpne .. | .laneCmplt .. | .laneCmple .. | .laneCmpltu .. | .laneCmpleu .. |
    .laneCmpeqi .. | .laneCmplti .. | .laneTstb .. | .lanePand .. | .lanePor .. | .lanePnot .. | .lanePget .. |
    .lanePset .. | .laneMul .. | .laneMulhs .. | .laneMulhu .. | .laneDiv .. | .laneDivu .. | .laneRem .. |
    .laneRemu .. | .laneLdb .. | .laneLdbu .. | .laneLdh .. | .laneLdhu .. | .laneLdw .. | .laneLdwu .. |
    .laneLdd .. | .laneLddx .. | .laneStb .. | .laneSth .. | .laneStw .. | .laneStd .. | .laneStdx .. | .laneTas .. |
    .laneLr .. | .laneSc .. | .laneBr .. | .laneBrl .. | .laneBri .. | .laneBril .. | .laneEndb .. | .laneWait .. |
    .laneDropp .. | .laneRdcyc .. | .laneRdlane .. | .laneTrap .. => true
  | _ => false

/-! ### Which commands can change what -/

/-- Accesses to a register of any block, and resets of D-LOGIC. -/
def general : Instr → Bool
  | .registerWrite .. | .pairHighWrite .. | .readClear .. | .groupFirstRead .. | .controllerReset | .rstnLow .. | .sbsRead .. |
    .stagedControllerReset | .updateRecover .. => true
  | _ => false

/-- The commands that can change the key store's contents. -/
def onKeys : Instr → Bool
  | .crqAttest .. | .crqCmac .. | .crqDone | .crqEncrypt .. | .crqSha256 .. | .keyDerive .. | .keyErase .. | .keyExport .. |
    .keyGenerate .. | .keyImport .. | .keyLock .. | .keyOperationDone | .keyRecordCheck .. | .keyRenewFb .. | .keyZeroise .. |
    .keysForceSlotfail .. | .keysForceTamper .. | .tamper .. => true
  | _ => false

/-- The commands that can change the update engine, the image slots and the selector record. -/
def onUpdate : Instr → Bool
  | .activationConfirm | .chunkWrite .. | .commandAcceptance .. | .eraseDone | .hoAbort .. | .hoArm .. | .parkingCol |
    .sbsActivate .. | .sbsBegin .. | .sbsChunk .. | .sbsRecover .. | .sbsStatus .. | .sbsVerify .. | .stagingPush .. |
    .updateAbort .. | .updateBegin .. | .updateForceDigest .. | .updateForceSelector .. | .updateForceStore .. |
    .updateVerify .. | .verifyDone => true
  | _ => false

/-- The commands that can change what the timers and inputs hold besides their registers. -/
def onTimers : Instr → Bool
  | .aiConversionDone .. | .captureEdge .. | .cleaningPulseEnd .. | .compareFire .. | .counterStep .. | .parkingCol |
    .siLevelChange .. | .siValleyPoll .. | .timeBaseCarry | .udcstart .. => true
  | _ => false

/-- The commands that can change the journal. -/
def onJournal : Instr → Bool
  | .barrierReport | .commandAcceptance .. | .drainChunk .. | .journalForceBank0 .. | .journalForceBank1 .. |
    .namedColSnapshot | .outPost .. | .outcomeJournaled .. | .persistentStore | .watershed => true
  | _ => false

/-- The commands that can change the sequencer besides its registers. -/
def onSequencer : Instr → Bool
  | .dieLinkFrame .. | .dieLinkLoss .. | .load .. => true
  | _ => false

/-- The commands that can change the ledger engine. -/
def onLedger : Instr → Bool
  | .ledgerAdmit .. | .ledgerForceSegtrip .. | .ledgerRelease .. | .ledgerUpdate .. | .parkingCol => true
  | _ => false

/-- The commands that can change the matrix. -/
def onMatrix : Instr → Bool
  | .dieLinkLoss .. | .holdoverExpiry .. | .matrixDiag .. | .matrixHoldoverFrame => true
  | _ => false

/-- The commands that can switch a power domain. -/
def onDomains : Instr → Bool
  | .pwrDomainOn .. | .supplyUndervoltage .. | .valleyEntryComplete | .valleyExit => true
  | _ => false

/-- The commands that can change what the power dies act on. -/
def onActing : Instr → Bool
  | .fwTest .. | .matrixRearm | .sinkRearm .. | .stageRearm .. | .valveOff .. | .valveRearm .. | .valveStart .. => true
  | _ => false

/-- The commands that can change a register of the timers. -/
def setsTime : Instr → Bool
  | .captureEdge .. | .compareFire .. | .counterStep .. | .linkLoss .. | .slowratioMeasure .. | .syncMessage .. |
    .timeAwareNeighbourLoss | .udcstart .. => true
  | _ => false

/-- The commands that can change a register of the inputs. -/
def setsInput : Instr → Bool
  | .aiConversionDone .. | .pwrDomainOn .. | .siLevelChange .. => true
  | _ => false

/-- The commands that can change a register of the journal. -/
def setsJournal : Instr → Bool
  | .barrierReport | .commandAcceptance .. | .drainChunk .. | .namedColSnapshot | .nandHot .. | .outPost .. |
    .outcomeJournaled .. | .parkingCol | .persistentStore => true
  | _ => false

/-- The commands that can change a register of the update engine. -/
def setsUpdate : Instr → Bool
  | .activationConfirm | .chunkWrite .. | .commandAcceptance .. | .eraseDone | .hoAbort .. | .hoArm .. | .parkingCol |
    .sbsActivate .. | .sbsBegin .. | .sbsChunk .. | .sbsVerify .. | .stagingPush .. | .updateAbort .. | .updateBegin .. |
    .updateVerify .. | .verifyDone => true
  | _ => false

/-- The commands that can change a register of the key store. -/
def setsKeys : Instr → Bool
  | .crqAttest .. | .crqCmac .. | .crqDone | .crqEncrypt .. | .crqSha256 .. | .keyDerive .. | .keyErase .. | .keyExport .. |
    .keyGenerate .. | .keyImport .. | .keyLock .. | .keyOperationDone | .keyRecordCheck .. | .keyRenewFb .. | .keyZeroise .. |
    .keysForceTamper .. | .keysForceTrng .. | .tamper .. | .trngFail => true
  | _ => false

/-- The commands that can change a register of the networks. -/
def setsNet : Instr → Bool
  | .busFrameReceive .. | .busOffRecovery .. | .canBusOff .. | .canRecover .. | .canSelectiveWake .. | .commandAcceptance .. |
    .dictBlobRead .. | .dictDescribe .. | .dictInvoke .. | .dictRead .. | .dictWrite .. | .jByCseq .. | .jRead .. | .jScan .. |
    .jStarts .. | .jStatus .. | .linHeaderReceive .. | .linkLoss .. | .linkUp .. | .plcaInStep | .plcaLost | .syncMessage .. |
    .tc10Timeout .. | .timeAwareNeighbourLoss | .unsupportedOperation .. | .valleyEntryComplete => true
  | _ => false

end Sys2Proof.Machine
end

