-- ==== Sys2Proof/Certificates/Slice0/Obligations.lean ====
section
/-!
DEFINITION. Statements about the Z96 for the provers, family by family; each says which rules it formalises.
-/
open Sys2Proof Sys2Proof.Machine

/-- R115, R82: every operation of latency 1 on general registers delivers its result one cycle after its bundle, and changes
nothing else.
R115: multiplications deliver after 3 cycles; divisions after 20, during which the divider is in use. R116: with the rows' integer
edge values, and with no trap. -/
def Obligations.RegisterOperationsDeliver : Prop :=
  (∀ r ∈ aluRows, ∀ (s : State) (op : Op), Ready s r.2.1 op → op.guard s = true →
    Completes (r.1 op) s op (op.after s) (op.fly s (op.cyc s + 1) (.gpr (op.at s).plain op.rd (r.2.2 s op)))) ∧
  ((∀ r ∈ mulRows, ∀ (s : State) (op : Op), Ready s r.2.1 op → op.guard s = true →
    Completes (r.1 op) s op (op.after s) (op.fly s (op.cyc s + 3) (.gpr (op.at s).plain op.rd (r.2.2 s op)))) ∧
  (∀ r ∈ divRows, ∀ (s : State) (op : Op), Ready s r.2.1 op → op.guard s = true → (op.at s).divUntil ≤ op.cyc s →
    Completes (r.1 op) s op { op.after s with divUntil := op.cyc s + 20 }
      (op.fly s (op.cyc s + 20) (.gpr (op.at s).plain op.rd (r.2.2 s op)))))

/-- R115: compares, bit test and predicate logic deliver their predicate one cycle later; PSET writes p1 to p7 from ra[7:1]; NOP
does nothing.
R114: SEL reads its guard as a selector and always executes. -/
def Obligations.PredicatesAndSelDeliver : Prop :=
  ((∀ r ∈ predRows, ∀ (s : State) (op : Op), Ready s r.2.1 op → op.guard s = true →
    Completes (r.1 op) s op (op.after s) (op.fly s (op.cyc s + 1) (.pred (op.at s).plain op.pd (r.2.2 s op)))) ∧
  (∀ (s : State) (op : Op), Ready s .pset op → op.guard s = true →
    ∃ ev, Completes (.lanePset op) s op (op.after s) ev ∧
      (∀ e, e ∈ ev ↔ e ∈ s.laneEv ∨ ∃ i, 1 ≤ i ∧ i ≤ 7 ∧
        e = { due := op.cyc s + 1, prio := 4, issue := op.cyc s, lane := op.lane.val,
              act := .pred (op.at s).plain i (decide ((op.srcA s).toNat / 2 ^ i % 2 = 1)) })) ∧
  (∀ (s : State) (op : Op), Ready s .nop op → Completes (.laneNop op) s op (op.after s) s.laneEv)) ∧
  (∀ (s : State) (op : Op), Ready s .sel op →
    Completes (.laneSel op) s op (op.after s)
      (op.fly s (op.cyc s + 1) (.gpr (op.at s).plain op.rd (if op.guard s then op.srcA s else op.srcB s))))

/-- R114: an operation whose guard is false writes nothing; a divide still occupies the divider. -/
def Obligations.FalseGuardDoesNothing : Prop :=
  (∀ (k : OpKind) (f : Op → Instr), (f, k) ∈ (aluRows.map fun r => (r.1, r.2.1)) ++ (mulRows.map fun r => (r.1, r.2.1)) ++
      (predRows.map fun r => (r.1, r.2.1)) ++ [(.lanePset, .pset), (.laneEndb, .endb), (.laneWait, .wait), (.laneDropp, .dropp), (.laneTrap, .trap)] →
    ∀ (s : State) (op : Op), Ready s k op → op.guard s = false → Completes (f op) s op (op.after s) s.laneEv) ∧
  (∀ r ∈ divRows, ∀ (s : State) (op : Op), Ready s r.2.1 op → op.guard s = false →
    Completes (r.1 op) s op { op.after s with divUntil := op.cyc s + 20 } s.laneEv)

/-- R117, R120, R82: a load reads local data memory at its issue and delivers at c + 3; it reads the plan tables for c + 4; in the
other windows its access takes the lane's next slot.
R117, R120, R82: a store of local data memory is written at c + 1, of shared memory two cycles after the lane's next slot, of a
register three cycles after it. -/
def Obligations.LoadsAndStoresAccessTheirWindow : Prop :=
  (∀ r ∈ loadRows, ∀ (s : State) (op : Op), let k := r.2.1; let size := r.2.2.1; let sgn := r.2.2.2
    Ready s k op → op.guard s = true → accessOk s k op size false false →
    let off := (memWin s k op size).2
    let slot := op.wheel s
    match (memWin s k op size).1 with
    | .dmem => dmemErrAt s op.lane.val off = 0 →
        Completes (r.1 op) s op (op.after s) (op.fly s (op.cyc s + 3) (.gpr (op.at s).plain op.rd
          (extendTo size sgn (rdLE s.dmem (op.lane.val * laneSize + off) size))))
    | .plan => Completes (r.1 op) s op (op.after s) (op.fly s (op.cyc s + 4) (.gpr (op.at s).plain op.rd
          (extendTo size sgn (leNat ((List.range size).map fun i => planByte s (off + i))))))
    | .shared => Completes (r.1 op) s op (op.afterShared s slot) (op.fly s slot (.shLoad (op.at s).plain op.rd off size sgn))
    | .regs priv => Completes (r.1 op) s op (op.afterShared s slot) (op.fly s slot (.regRead (op.at s).plain op.rd off priv sgn))
    | .mram => Completes (r.1 op) s op (op.afterShared s (slot + 48)) (op.fly s slot (.mramLoad (op.at s).plain op.rd off size sgn))
    | _ => True) ∧
  (∀ r ∈ storeRows, ∀ (s : State) (op : Op), let k := r.2.1; let size := r.2.2
    Ready s k op → op.guard s = true → accessOk s k op size true false →
    let off := (memWin s k op size).2
    let slot := op.wheel s
    match (memWin s k op size).1 with
    | .dmem => Completes (r.1 op) s op (op.after s) (op.fly s (op.cyc s + 1) (.dstore off size (op.srcD s)))
    | .shared => Completes (r.1 op) s op (op.afterShared s slot) (op.fly s (slot + 2) (.land off size (op.srcD s)))
    | .regs priv => Completes (r.1 op) s op (op.afterShared s slot)
        (op.fly s (slot + 3) (.regWrite (op.at s).plain priv off ((op.srcD s).setWidth 32)))
    | _ => True)

/-- R121, R122: TAS, LR and SC take the lane's next slot of shared memory. -/
def Obligations.AtomicsTakeTheSlot : Prop :=
  ∀ r ∈ atomicRows, ∀ (s : State) (op : Op), let k := r.2.1
    Ready s k op → op.guard s = true → accessOk s k op 8 r.2.2 true →
    let off := (memWin s k op 8).2
    let slot := op.wheel s
    (memWin s k op 8).1 = .shared ∧
    Completes (r.1 op) s op (op.afterShared s slot)
      (op.fly s slot (if k = .tas then .tas (op.at s).plain op.rd off
        else if k = .lr then .lr (op.at s).plain op.rd off
        else .sc (op.at s).plain op.pd off (op.srcB s)))

/-- R82, R88, R121 to R123: what acts at the slot: a load samples shared memory and delivers 5 cycles later; TAS returns the old
word and sets its bit 0; LR reserves its granule; SC writes only while the reservation on the granule stands, clears it and
reports success.
R8, R120, R123: bytes that land in shared memory, least significant first, and no others; a reservation of another lane on a
granule they touch is broken, the writer's own is not.
R82, R498: a store of local data memory without an error in its word writes its bytes, least significant first, into the memory
of its own lane, and no other byte.
R107, R113: a result that is due is written to its bank; a write to g0 or p0 is discarded, and these read as 0 and 1. -/
def Obligations.OperationsInFlightAct : Prop :=
  (∀ (s : State) (e : LaneEv) (p : Bool) (rd a : Nat),
    (∀ size sgn, e.act = .shLoad p rd a size sgn →
      laneAct s e = inFlight s e.lane e.issue (e.due + 5) (.gpr p rd (extendTo size sgn (rdLE s.shared a size)))) ∧
    (e.act = .tas p rd a →
      let old := extendTo 8 false (rdLE s.shared a 8)
      laneAct s e = inFlight (inFlight s e.lane e.issue (e.due + 5) (.gpr p rd old)) e.lane e.issue (e.due + 2) (.land a 8 (old ||| 1))) ∧
    (e.act = .lr p rd a →
      ((laneAct s e).lane e.lane).resv = some { gran := a / 8, slot := e.due, broken := false } ∧
      { due := e.due + 5, prio := 4, issue := e.issue, lane := e.lane, act := .gpr p rd (extendTo 8 false (rdLE s.shared a 8)) } ∈
        (laneAct s e).laneEv) ∧
    (∀ v, e.act = .sc p rd a v →
      ((laneAct s e).lane e.lane).resv = none ∧
      let ok := decide (∃ r, (s.lane e.lane).resv = some r ∧ r.gran = a / 8 ∧ r.broken = false)
      ({ due := e.due + 5, prio := 4, issue := e.issue, lane := e.lane, act := .pred p rd ok } ∈ (laneAct s e).laneEv) ∧
      (ok = true → { due := e.due + 2, prio := 2, issue := e.issue, lane := e.lane, act := .land a 8 v } ∈ (laneAct s e).laneEv) ∧
      (ok = false → ∀ x ∈ (laneAct s e).laneEv, x ∈ s.laneEv ∨ x.act = .pred p rd false))) ∧
  (∀ (s : State) (e : LaneEv) (a size : Nat) (v : Word), e.act = .land a size v →
    (∀ i, i < size → rdByte (laneAct s e).shared (a + i) = BitVec.ofNat 8 (v.toNat / 256 ^ i)) ∧
    (∀ b, b < a ∨ a + size ≤ b → rdByte (laneAct s e).shared b = rdByte s.shared b) ∧
    (∀ n, n < 4 → n ≠ e.lane → ∀ r, (s.lane n).resv = some r →
      ((laneAct s e).lane n).resv = some { r with broken := r.broken || (decide (a / 8 ≤ r.gran) && decide (r.gran ≤ (a + size - 1) / 8)) }) ∧
    ((laneAct s e).lane e.lane = s.lane e.lane) ∧
    (laneAct s e).imem = s.imem ∧ (laneAct s e).dmem = s.dmem ∧ (laneAct s e).regs = s.regs) ∧
  (∀ (s : State) (e : LaneEv) (a size : Nat) (v : Word), e.act = .dstore a size v → dmemErrAt s e.lane a = 0 →
    (∀ i, i < size → rdByte (laneAct s e).dmem (e.lane * laneSize + a + i) = BitVec.ofNat 8 (v.toNat / 256 ^ i)) ∧
    (∀ b, b < e.lane * laneSize + a ∨ e.lane * laneSize + a + size ≤ b → rdByte (laneAct s e).dmem b = rdByte s.dmem b) ∧
    (laneAct s e).imem = s.imem ∧ (laneAct s e).shared = s.shared ∧ (laneAct s e).regs = s.regs ∧
    (laneAct s e).laneEv = s.laneEv) ∧
  (∀ (s : State) (e : LaneEv) (p : Bool),
    (∀ (rd : Nat) (v : Word), e.act = .gpr p rd v →
      (∀ q r, ((laneAct s e).lane e.lane).gpr q r = if r = 0 then 0 else if q = p ∧ r = rd then v else (s.lane e.lane).gpr q r) ∧
      (∀ q i, ((laneAct s e).lane e.lane).prd q i = (s.lane e.lane).prd q i) ∧
      laneAct s e = { s with lanes := (laneAct s e).lanes }) ∧
    (∀ (pd : Nat) (v : Bool), pd < 8 → e.act = .pred p pd v →
      (∀ q i, i < 8 → ((laneAct s e).lane e.lane).prd q i = if i = 0 then true else if q = p ∧ i = pd then v else (s.lane e.lane).prd q i) ∧
      (∀ q r, ((laneAct s e).lane e.lane).gpr q r = (s.lane e.lane).gpr q r) ∧
      laneAct s e = { s with lanes := (laneAct s e).lanes }))

/-- R82, R115: a branch sends its lane to the target three cycles later, after two delay-slot bundles, whether it is taken or not;
BRL and BRIL deliver the return address in g63 one cycle later.
R124 to R127: in a scheduled block ENDB puts the lane at its end-of-block wait with its reservation cleared and the block among
those that have ended, WAIT does the same and waits for the valley that PWR_MODE selects; in a plain ENDB saves the plain's
context; DROPP takes the lane out of privileged mode. -/
def Obligations.BranchesAndBlockEnds : Prop :=
  ((∀ (s : State) (op : Op), Ready s .br op →
    Completes (.laneBr op) s op { op.after s with redirects := [{
      due := op.cyc s + 3, target := if op.guard s then some (BitVec.ofInt 64 ((((op.at s).pc.toNat : Int) + 4 * op.opnd.toInt) % 2 ^ 32)) else none, trap := false }] } s.laneEv) ∧
  (∀ (s : State) (op : Op), Ready s .bri op →
    Completes (.laneBri op) s op { op.after s with redirects := [{
      due := op.cyc s + 3, target := if op.guard s then some (op.srcA s) else none, trap := false }] } s.laneEv) ∧
  (∀ (s : State) (op : Op), Ready s .brl op →
    Completes (.laneBrl op) s op { op.after s with redirects := [{
      due := op.cyc s + 3, target := if op.guard s then some (BitVec.ofInt 64 ((((op.at s).pc.toNat : Int) + 4 * op.opnd.toInt) % 2 ^ 32)) else none, trap := false }] }
      (if op.guard s then op.fly s (op.cyc s + 1) (.gpr (op.at s).plain 63 (returnAddr s op.lane.val ((op.at s).pc.toNat + 4))) else s.laneEv)) ∧
  (∀ (s : State) (op : Op), Ready s .bril op →
    Completes (.laneBril op) s op { op.after s with redirects := [{
      due := op.cyc s + 3, target := if op.guard s then some (op.srcA s) else none, trap := false }] }
      (if op.guard s then op.fly s (op.cyc s + 1) (.gpr (op.at s).plain 63 (returnAddr s op.lane.val ((op.at s).pc.toNat + 4))) else s.laneEv))) ∧
  ((∀ (s : State) (op : Op) (w : Bool), Ready s (if w then .wait else .endb) op → op.guard s = true → (op.at s).plain = false →
    Completes (if w then .laneWait op else .laneEndb op) s op
      { op.after s with
        running := false, priv := true, resv := none, endedAt := op.cyc s + 1, done := (op.at s).block :: (op.at s).done,
        waiting := w && decide (s.fld Reg.POWER.PWR_MODE.MODE 0 ≠ 0) } s.laneEv) ∧
  (∀ (s : State) (op : Op), Ready s .endb op → op.guard s = true → (op.at s).plain = true →
    ∃ t, exec (.laneEndb op) s = .next t ∧ (t.lane op.lane.val).running = false ∧ (t.lane op.lane.val).plain = false ∧
      (t.lane op.lane.val).endedAt = op.cyc s + 1 ∧ t.bit Reg.SYS.LANE_PSAVE.VALID op.lane.val = true ∧
      t.fld Reg.SYS.LANE_PSAVE.ADDR op.lane.val = ((op.at s).pc.toNat + 4) / 4 % 2 ^ Reg.SYS.LANE_PSAVE.ADDR.len ∧
      t.bit Reg.SYS.LANE_PSAVE.PRIV op.lane.val = (op.at s).priv ∧ t.dmem = s.dmem ∧ t.shared = s.shared ∧ t.flags = s.flags) ∧
  (∀ (s : State) (op : Op), Ready s .dropp op → op.guard s = true →
    Completes (.laneDropp op) s op { op.after s with priv := false } s.laneEv))

/-- R132 to R135, R109: TRAP and a bundle with an illegal encoding raise FLT_SYS_LANETRAP, in class F2 from a scheduled block and
F0 from a plain, where the lane goes to the trap vector and the first cause is recorded; nothing of the bundle reaches a register
or a memory. -/
def Obligations.TrapsAreRecorded : Prop :=
  (∀ (s : State) (op : Op), Ready s .trap op → op.guard s = true → Live s →
    ∃ t, exec (.laneTrap op) s = .next t ∧ Flagged t Flt.SYS.LANETRAP op.lane.val (if (op.at s).plain then 0 else 2) ∧
      t.dmem = s.dmem ∧ t.shared = s.shared ∧ (∀ e ∈ t.laneEv, e ∈ s.laneEv) ∧
      ((op.at s).plain = true → s.bit Reg.SYS.LANE_TRAP.VALID op.lane.val = false →
        t.fld Reg.SYS.LANE_TRAP.CAUSE op.lane.val = 0x0D ∧ t.fld Reg.SYS.LANE_TPC.ADDR op.lane.val = (op.at s).pc.toNat ∧
        (t.lane op.lane.val).redirects = [{ due := op.cyc s + 3, target := some (BitVec.ofNat 64 (plainsEntry s + 0x40)), trap := true }])) ∧
  (∀ (s : State) (lane : Fin 4) (words : List Word32), let l := s.lane lane.val; let ws := bundleWords 8 words
    l.running = true → l.inService = true → l.cur = [] → ws.any illegalWord = true → (∀ e ∈ s.laneEv, l.cyc < e.due) →
    l.redirects = [] → plainsEntry s ≤ l.pc.toNat → l.pc.toNat + 4 * ws.length ≤ windowEnd s → l.pc.toNat % 4 = 0 → Live s →
    ∃ t, exec (.illegalEncoding lane words) s = .next t ∧ Flagged t Flt.SYS.LANETRAP lane.val (if l.plain then 0 else 2) ∧
      t.dmem = s.dmem ∧ t.shared = s.shared ∧ (∀ e ∈ t.laneEv, e ∈ s.laneEv) ∧
      (l.plain = true → s.bit Reg.SYS.LANE_TRAP.VALID lane.val = false →
        t.fld Reg.SYS.LANE_TRAP.CAUSE lane.val = 0x08 ∧ t.fld Reg.SYS.LANE_TPC.ADDR lane.val = l.pc.toNat))

/-- R136, R137: a lane fault takes its lane out of service, stops it and raises the source of its kind.
R140, R470: with FORCE_EN set an injection arms the error of its lane and nothing else; with it clear the injection is ignored and
FLT_SYS_PRIVWRITE is raised. -/
def Obligations.LaneFaultsAndInjections : Prop :=
  (∀ (s : State) (lane : Fin 4) (k : LaneFaultKind), Live s → (s.lane lane.val).inService = true → s.boot = 0 → s.laneEv = [] →
    ∃ t, exec (.laneFault lane k) s = .next t ∧ (t.lane lane.val).inService = false ∧ (t.lane lane.val).running = false ∧
      t.dmem = s.dmem ∧ t.shared = s.shared ∧ t.imem = s.imem ∧
      (match k with
       | .residue => Flagged t Flt.SYS.LANERES lane.val 1
       | .uncorrectable => Flagged t Flt.SYS.LANEUNCORR lane.val 1
       | .memory => Flagged t Flt.SYS.MEMUNCORR lane.val 2
       | .clock => Flagged t Flt.SYS.LANECLK lane.val 1)) ∧
  (∀ (s : State) (b : By) (n : Fin 4),
    (Forced s b → exec (.injEcc1 b n) s = .next (s.setLane n.val { s.lane n.val with ecc1 := true }) ∧
      exec (.injEcc2 b n) s = .next (s.setLane n.val { s.lane n.val with ecc2 := true }) ∧
      exec (.injResidue b n) s = .next (s.setLane n.val { s.lane n.val with residue := true })) ∧
    (s.bit Reg.FAULT.CTRL.FORCE_EN 0 = false → Live s → ∀ i ∈ [Instr.injEcc1 b n, .injEcc2 b n, .injResidue b n],
      Ends i s fun t => Flagged t Flt.SYS.PRIVWRITE b.lane.val 0 ∧ t.lane n.val = s.lane n.val))

/-- R50, R93, R94, R124: a CODE pass starts its block 4 cycles after the first cycle of its count, in privileged mode with bank S; on a
lane that is not at its end-of-block wait it raises FLT_TICK_OVERRUN and the block is withheld; a MARK checks that its block has
finished; a PLAIN pass resumes the saved context, or starts plains code at its entry, until its time is over.
R97, R127: when a plain's time is over it stops at the bundle boundary: its context is saved in LANE_PSAVE and the lane waits. -/
def Obligations.LanePassesRunCode : Prop :=
  ((∀ (s : State) (off n : Nat) (lane : Fin 4), PassReady s 0 off lane.val 0 n → Ends (.passNop off lane) s fun t =>
    Passed s t off ∧ t.lanes = s.lanes ∧ t.regs = s.regs) ∧
  (∀ (s : State) (off n : Nat) (lane : Fin 4) (block entry : BitVec 16),
    PassReady s 1 off lane.val (block.toNat * 2 ^ 16 + entry.toNat) n → s.seq.overrun.contains n = false →
    (atWait s n (s.colCount + off) = true → Ends (.passCode off lane block entry) s fun t => Passed s t off ∧
      (t.lane n).running = true ∧ (t.lane n).plain = false ∧ (t.lane n).priv = true ∧ (t.lane n).block = block.toNat ∧
      (t.lane n).pc = BitVec.ofNat 32 (4 * entry.toNat) ∧ (t.lane n).cyc = cycleAt s (s.colCount + off) + 4 ∧
      (t.lane n).gS = (s.lane n).gS ∧ t.regs = s.regs) ∧
    (atWait s n (s.colCount + off) = false → Live s → Ends (.passCode off lane block entry) s fun t => Passed s t off ∧
      Flagged t Flt.TICK.OVERRUN n 2 ∧ t.fld Reg.TICK.OVERRUN.BLOCK 0 = block.toNat ∧ (n, block.toNat) ∈ t.seq.withheld)) ∧
  (∀ (s : State) (off n : Nat) (lane : Fin 4) (block : BitVec 16), PassReady s 8 off lane.val (block.toNat * 2 ^ 16) n →
    (n, block.toNat) ∉ s.seq.withheld →
    (block.toNat ∈ (s.lane n).done → (s.lane n).endedAt ≤ cycleAt s (s.colCount + off) → Ends (.passMark off lane block) s fun t =>
      Passed s t off ∧ t.lanes = s.lanes ∧ t.regs = s.regs) ∧
    (block.toNat ∉ (s.lane n).done → Live s → Ends (.passMark off lane block) s fun t => Passed s t off ∧
      Flagged t Flt.TICK.OVERRUN n 2 ∧ t.fld Reg.TICK.OVERRUN.BLOCK 0 = block.toNat)) ∧
  (∀ (s : State) (off n : Nat) (lane : Fin 4) (len : BitVec 20), PassReady s 9 off lane.val len.toNat n → n < 4 →
    atWait s n (s.colCount + off) = true → Ends (.passPlain off lane len) s fun t => Passed s t off ∧
      (t.lane n).running = true ∧ (t.lane n).plain = true ∧ t.bit Reg.SYS.LANE_PSAVE.VALID n = false ∧
      (t.lane n).pc = BitVec.ofNat 32 (if s.bit Reg.SYS.LANE_PSAVE.VALID n then 4 * s.fld Reg.SYS.LANE_PSAVE.ADDR n else plainsEntry s) ∧
      (t.lane n).priv = (!s.bit Reg.SYS.LANE_PSAVE.VALID n || s.bit Reg.SYS.LANE_PSAVE.PRIV n) ∧
      (t.lane n).plainEnd = cycleAt s (s.colCount + off) + 4 + len.toNat - 16)) ∧
  (∀ (s : State) (lane : Fin 4), s.laneEv = [] →
    ((s.lane lane.val).running = true → (s.lane lane.val).plain = true → (s.lane lane.val).redirects = [] → Ends (.plainSuspend lane) s fun t =>
      (t.lane lane.val).running = false ∧ (t.lane lane.val).plain = false ∧ t.bit Reg.SYS.LANE_PSAVE.VALID lane.val = true ∧
      t.fld Reg.SYS.LANE_PSAVE.ADDR lane.val = (s.lane lane.val).pc.toNat / 4 % 2 ^ Reg.SYS.LANE_PSAVE.ADDR.len ∧
      t.bit Reg.SYS.LANE_PSAVE.PRIV lane.val = (s.lane lane.val).priv ∧
      (t.lane lane.val).gP = (s.lane lane.val).gP ∧ ∀ m, m ≠ lane.val → t.lane m = s.lane m) ∧
    ((s.lane lane.val).running = false ∨ (s.lane lane.val).plain = false → exec (.plainSuspend lane) s = .next s))

/-- R47, R93, R305, R339, R343, R278, R398: an EDGE pass applies the frozen value of an edge-mode channel; a SAMPLE pass starts its
conversions or sets OVERLAP; a BUS_TX pass queues its frame; a LIN_SLOT pass of a busy port sets OVERLAP and on a free
responder port arms its entry; a SCAN pass starts a frame; an ACCESS pass starts a round. -/
def Obligations.UnitPassesAct : Prop :=
  (∀ (s : State) (off n : Nat) (lane : Fin 4), s.raiseQ = [] → s.zoneSafe = false → (∀ k, k < 16 → s.bit Reg.FAULT.HELD.VALID k = false) →
    (∀ c : Fin 96, PassReady s 2 off lane.val c.val n → s.edgeMode c.val = true → lswDie c.val ∈ linkedDies s →
      smapGet (fun _ => 0) s.seq.dieMiss (lswDie c.val) = 0 → Ends (.passEdge off lane (.lsw c)) s fun t => Passed s t off ∧
        t.effWord (Reg.LSW.CTRL.REG.off c.val) = smapGet regReset s.edge (Reg.LSW.CTRL.REG.off c.val)) ∧
    (∀ c : Fin 16, PassReady s 2 off lane.val (2 ^ 24 + c.val) n → s.edgeMode (96 + c.val) = true → hbDie c.val ∈ linkedDies s →
      smapGet (fun _ => 0) s.seq.dieMiss (hbDie c.val) = 0 → Ends (.passEdge off lane (.hbr c)) s fun t => Passed s t off ∧
        t.effWord (Reg.HBR.STOPPOS.REG.off c.val) = smapGet regReset s.edge (Reg.HBR.STOPPOS.REG.off c.val)) ∧
    (∀ c : Fin 24, PassReady s 2 off lane.val (2 * 2 ^ 24 + c.val) n → s.edgeMode (112 + c.val) = true → vdDie c.val ∈ linkedDies s →
      smapGet (fun _ => 0) s.seq.dieMiss (vdDie c.val) = 0 → Ends (.passEdge off lane (.vd c)) s fun t => Passed s t off ∧
        t.effWord (Reg.VALVE.CMD.REG.off c.val) = smapGet regReset s.edge (Reg.VALVE.CMD.REG.off c.val)) ∧
    (∀ c : Fin 32, PassReady s 2 off lane.val (3 * 2 ^ 24 + c.val) n → s.edgeMode (136 + c.val) = true → sinkDie c.val ∈ linkedDies s →
      smapGet (fun _ => 0) s.seq.dieMiss (sinkDie c.val) = 0 → Ends (.passEdge off lane (.sink c)) s fun t => Passed s t off ∧
        t.effWord (Reg.LIGHT.SINKDIM.REG.off c.val) = smapGet regReset s.edge (Reg.LIGHT.SINKDIM.REG.off c.val))) ∧
  (∀ (s : State) (off n : Nat) (lane : Fin 4) (i : Fin 24), PassReady s 3 off lane.val (0x20 + i.val) n →
    (smapGet (fun _ => 0) s.timers.aiUntil (aiDie i.val) ≤ s.colCount + off →
      Ends (.passSample off lane (BitVec.ofNat 8 (0x20 + i.val))) s fun t => Passed s t off ∧
        (i.val, s.colCount + off + 2 + aiTime s) ∈ t.timers.conv ∧ t.regs = s.regs) ∧
    (s.colCount + off < smapGet (fun _ => 0) s.timers.aiUntil (aiDie i.val) →
      Ends (.passSample off lane (BitVec.ofNat 8 (0x20 + i.val))) s fun t => Passed s t off ∧
        t.bit Reg.INPUT.INSTAT.OVERLAP 0 = true ∧ t.timers.conv = s.timers.conv)) ∧
  (∀ (s : State) (off n e : Nat) (lane : Fin 4) (entry : BitVec 16), PassReady s 4 off lane.val entry.toNat n →
    s.tableEntry 1 entry.toNat = some e → s.plan.be e 1 < 8 → s.fld Reg.NET.CANSTAT.STATE (s.plan.be e 1) ≠ 2 →
    let q := busPort (s.plan.be e 1)
    let x := TxItem.bus entry.toNat (s.plan.be (e + 4) 4) (s.plan.be (e + 1) 1) [] (rdBytes s.shared (s.plan.be (e + 8) 4) (s.plan.be (e + 2) 2))
    (txHolds entry.toNat (txQueue s q) = false → Ends (.passBusTx off lane entry) s fun t => Passed s t off ∧
      txQueue t q = txInsert x (txQueue s q) ∧ t.flags = s.flags) ∧
    (txHolds entry.toNat (txQueue s q) = true → Live s → Ends (.passBusTx off lane entry) s fun t => Passed s t off ∧
      txQueue t q = txReplace entry.toNat x (txQueue s q) ∧ Flagged t Flt.NET.TXLATE (s.plan.be e 1) 0)) ∧
  (∀ (s : State) (off n e : Nat) (lane : Fin 4) (entry : BitVec 16) (port : Fin 12), PassReady s 5 off lane.val (entry.toNat * 2 ^ 8 + port.val) n →
    s.tableEntry 3 entry.toNat = some e → linUp s port.val = true →
    (s.colCount + off < (linPort s port.val).busyTo → Ends (.passLinSlot off lane entry port) s fun t => Passed s t off ∧
      t.bit Reg.NET.LINSTAT.OVERLAP port.val = true ∧ t.net = s.net) ∧
    ((linPort s port.val).busyTo ≤ s.colCount + off → s.effBit Reg.NET.LINCFG.CMDR port.val = false →
      Ends (.passLinSlot off lane entry port) s fun t => Passed s t off ∧
        (linPort t port.val).armed = (entry.toNat, rdBytes s.shared (s.plan.be (e + 4) 4) (s.plan.be (e + 3) 1)) :: (linPort s port.val).armed)) ∧
  (∀ (s : State) (off n : Nat) (lane : Fin 4), PassReady s 6 off lane.val 0xFF n → matrixRail s = true →
    (mxBusy s = false → Ends (.passScan off lane none) s fun t => Passed s t off ∧ t.bit Reg.LIGHT.MXSTAT.FRAME_BUSY 0 = true ∧
      t.matrix.start = s.colCount + off + 2 ∧ t.matrix.buf = mxPixels s) ∧
    (mxBusy s = true → Ends (.passScan off lane none) s fun t => Passed s t off ∧ t.bit Reg.LIGHT.MXSTAT.OVERLAP 0 = true ∧ t.matrix = s.matrix)) ∧
  (∀ (s : State) (off n : Nat) (lane : Fin 4) (l : Fin 12), PassReady s 6 off lane.val l.val n → matrixRail s = true → mxBusy s = false →
    Ends (.passScan off lane (some l)) s fun t => Passed s t off ∧ t.bit Reg.LIGHT.MXSTAT.LINE_BUSY 0 = true ∧
      t.fld Reg.LIGHT.MXSTAT.LINE 0 = l.val ∧ t.matrix.start = s.colCount + off + 2) ∧
  (∀ (s : State) (off n e : Nat) (lane : Fin 4) (entry : BitVec 16), PassReady s 7 off lane.val entry.toNat n →
    s.tableEntry 6 entry.toNat = some e → s.bit Reg.ACCESS.CTRL.EN 0 = true →
    (s.access.round = none → s.bit Reg.KEYS.STATUS.TRNG_OK 0 = true → Ends (.passAccess off lane entry) s fun t => Passed s t off ∧
      t.bit Reg.ACCESS.STATUS.RUNNING 0 = true ∧ (∃ r, t.access.round = some r ∧ r.start = s.colCount + off + 5 ∧ r.challenge.length = 6 ∧
        r.txmask = s.plan.be (e + 1) 1 ∧ r.slotb = s.plan.be (e + 3) 1 ∧ r.valid = [] ∧ r.granted = false)) ∧
    (s.access.round ≠ none → Ends (.passAccess off lane entry) s fun t => Passed s t off ∧
      t.bit Reg.ACCESS.STATUS.OVERLAP 0 = true ∧ t.access = s.access))

/-- R18, R43, R103: the stage cutoff freezes the output set 100 counts before the col and clears the one-shot requests; a die that
receives its frame in time is ready, a frame with a wrong CRC raises FLT_SYS_DIELINK and a late one FLT_TICK_UNITLATE. -/
def Obligations.OutputSetIsFrozenAndSent : Prop :=
  (∀ (s : State), commitsCols s = true → s.seq.cutDone = false → s.laneEv = [] → Ends .stageCutoff s fun t =>
    t.seq.cutDone = true ∧ t.seq.dieReady = [] ∧ (nextCol s).2 - 100 ≤ t.now ∧ t.eff = s.eff ∧
    (∀ o r, regRow o = some r → r.latched = true → t.frzWord o = frozenWord s o) ∧
    (∀ n, n < 96 → t.bit Reg.LSW.CTRL.FWTEST n = false) ∧ (∀ n, n < 24 → t.bit Reg.VALVE.CMD.START n = false)) ∧
  (∀ (s : State) (d : Fin 4), commitsCols s = true → s.seq.cutDone = true → d.val ∈ linkedDies s → frameHere s d.val = false →
    frameTold s d.val = false →
    (Ends (.dieLinkFrame d true true) s fun t => frameHere t d.val = true ∧ t.regs = s.regs ∧ t.eff = s.eff) ∧
    (∀ inTime, Live s → Ends (.dieLinkFrame d false inTime) s fun t =>
      Flagged t Flt.SYS.DIELINK d.val 1 ∧ frameHere t d.val = false) ∧
    (Live s → Ends (.dieLinkFrame d true false) s fun t => Flagged t Flt.TICK.UNITLATE d.val 2 ∧ frameHere t d.val = false))

/-- R42, R52, R364: a col opens with its number and count after its stage cutoff; a set is committed, and LAST_COMMIT takes the col's
number, unless the sequencer stands in STOPPED or the col is a parking col. -/
def Obligations.ColsOpenInOrder : Prop :=
  ∀ (s : State) (m : ColIn), s.laneEv = [] →
    (commitsCols s = true → opensCols s = false → s.seq.cutDone = true → Ends (.col m) s fun t =>
      t.colNum = (nextCol s).1 % 2 ^ 64 ∧ t.colCount = (nextCol s).2 % 2 ^ 64 ∧ (nextCol s).2 ≤ t.now ∧
      t.seq.cutDone = false ∧ t.seq.passOff = 0 ∧ t.seq.firstCol = none ∧ t.plan = s.plan ∧
      (t.journal.lastCommit = (nextCol s).1 ∨ t.journal.lastCommit = s.journal.lastCommit) ∧
      ((lanesIn s).length < 3 → t.seqState = seqStopped ∧ t.journal.lastCommit = s.journal.lastCommit)) ∧
    (opensCols s = true → Ends (.col m) s fun t =>
      t.colNum = (s.colNum + 1) % 2 ^ 64 ∧ t.colCount = (s.colCount + s.seq.period) % 2 ^ 64 ∧ t.eff = s.eff ∧
      t.journal = s.journal ∧ t.seqState = seqStopped)

/-- R56, R61, R64, R65: at the first col at least 200 counts after the loss of a lane the narrows variant comes into force, and the
surviving lanes in ascending order run logical lanes 0 to 2. -/
def Obligations.NarrowsFollowsALaneLoss : Prop :=
  ∀ (s : State) (d : Nat), s.seq.lossAt = some d → s.seqState = seqRun →
    (d + 200 ≤ s.colCount → Ends .narrowsSwitch s fun t =>
      t.seq.narrows = true ∧ t.seq.lossAt = none ∧ (∀ p ∈ (lanesIn s).zipIdx, (t.lane p.1).logical = p.2) ∧
      (shedRecords s.plan = [] → s.raiseQ = [] → t.seqState = seqNarrows) ∧
      (∀ n, n < 4 → t.fld Reg.SYS.LANE_PSAVE.REG n = 0)) ∧
    (s.colCount < d + 200 → exec .narrowsSwitch s = .next s)

/-- R67 to R70, R58: an arm is taken for a col at least two ahead with a shadow plan, else refused; an abort before the col ahead of H
cancels it and raises FLT_TICK_HANDOVER; at col H the shadow plan comes into force, the snapshot area stands and the plains
contexts are dropped. -/
def Obligations.HandoversChangeThePlan : Prop :=
  (∀ (s : State) (b : By), b.priv = true → hoArmed s = false →
    (hoRefused s (hoCol s) = true → Ends (.hoArm b) s fun t =>
      hoArmed t = false ∧ t.bit Reg.TICK.STATUS.HO_REFUSED 0 = true ∧ t.bit Reg.TICK.CTRL.HO_ARM 0 = false ∧ t.power = s.power) ∧
    (hoRefused s (hoCol s) = false → updState s ≠ updLoaded → Ends (.hoArm b) s fun t =>
      hoArmed t = true ∧ hoCol t = hoCol s ∧ t.shadow = s.shadow ∧ t.update = s.update) ∧
    (hoRefused s (hoCol s) = false → updState s = updLoaded → s.update.failSel = false → Ends (.hoArm b) s fun t =>
      hoArmed t = true ∧ updState t = updArmed ∧ t.update.sel.pending = true ∧ t.update.sel.pendCol = hoCol s ∧ t.update.viaReset = false)) ∧
  (∀ (s : State) (b : By), b.priv = true → hoArmed s = true →
    (s.colNum + 1 < hoCol s → Live s → Ends (.hoAbort b) s fun t =>
      hoArmed t = false ∧ Flagged t Flt.TICK.HANDOVER noUnit 0 ∧
      (s.update.sel.pending = true → s.update.viaReset = false → s.update.failSel = false → t.update.sel.pending = false)) ∧
    (hoCol s ≤ s.colNum + 1 → exec (.hoAbort b) s = .next s)) ∧
  (∀ (s : State), hoArmed s = true → s.colNum = hoCol s → s.seqState = seqRun ∨ s.seqState = seqNarrows → s.memOk = true →
    Ends .handover s fun t =>
      t.seqState = seqHandover ∧ t.plan = s.shadow ∧ t.shadow = Plan.empty ∧ hoArmed t = false ∧
      t.fld Reg.TICK.PERIOD.T 0 = s.shadow.ticks % 2 ^ 19 ∧ t.seq.k = levelK s.shadow.level ∧
      (s.shadow.ticks ≠ s.plan.ticks → t.seq.baseN = s.colNum ∧ t.seq.baseC = s.colCount ∧ t.bit Reg.TICK.STATUS.BASE_AL 0 = false) ∧
      (∀ a, 0x1E0000 ≤ a → a < 0x200000 → rdByte t.shared a = rdByte s.shared a) ∧
      (∀ n, n < 4 → t.fld Reg.SYS.LANE_PSAVE.REG n = 0))

/-- R451 to R453: the SBS port drops frames with a wrong CRC; a taken request leaves its response, ready after 5 ms; in recovery it
stages, verifies and activates an image; a read of the response of RECOVER or ACTIVATE begins the reset. -/
def Obligations.SbsPortServesRequests : Prop :=
  (∀ (s : State) (off arg : Word32) (data : List Byte) (fail : BitVec 2),
    ∀ i ∈ [Instr.sbsStatus false, .sbsBegin false, .sbsChunk false off data fail, .sbsVerify false, .sbsActivate false, .sbsRecover false arg],
      exec i s = .next s) ∧
  (∀ (s : State), sbsOpen s = true →
    (Ends (.sbsStatus true) s fun t => t.update.sbs = some (0, sbsStatus s) ∧ t.update.sbsReady = s.now + 500000 ∧ t.regs = s.regs) ∧
    (inRecovery s = true → updState s ≠ updArmed → s.update.failSel = false → Ends (.sbsBegin true) s fun t =>
      updState t = updErasing ∧ t.update.sbs = some (0, []) ∧ t.update.sbsReady = s.now + 500000) ∧
    (∀ (off : Word32) (data : List Byte) (fail : BitVec 2), updState s = updReceiving → 1 ≤ data.length → data.length ≤ 256 →
      s.storeHot = false →
      (off.toNat + data.length ≤ slotSize → fail ≠ 3 → s.update.failStore = false → Ends (.sbsChunk true off data fail) s fun t =>
        t.update.slots = wrBytes s.update.slots (stagingSlot s * slotSize + off.toNat) data ∧ t.update.sbs = some (0, [])) ∧
      (slotSize < off.toNat + data.length → Ends (.sbsChunk true off data fail) s fun t =>
        t.update.slots = s.update.slots ∧ t.update.sbs = some (2, []))) ∧
    (inRecovery s = true → updState s = updIdle ∨ updState s = updReceiving ∨ updState s = updFailed → Ends (.sbsVerify true) s fun t =>
      updState t = updVerifying ∧ t.update.sbs = some (0, [])) ∧
    (inRecovery s = true → updState s = updVerified ∨ updState s = updLoaded → s.update.failSel = false → Ends (.sbsActivate true) s fun t =>
      t.update.sel.slot = stagingSlot s ∧ t.update.recoverReq = false ∧ t.update.sbs = some (0, []) ∧ t.update.sbsAfter = 2) ∧
    (∀ arg : Word32, inRecovery s = false → s.bit Reg.UPDATE.CTRL.SBSREC 0 = true → arg.toNat = unitId % 2 ^ 32 → s.terminalLatch = false →
      Ends (.sbsRecover true arg) s fun t => t.update.sbs = some (0, []) ∧ t.update.sbsAfter = 1)) ∧
  (∀ (s : State) (c : Nat) (r : Nat × List Byte), s.bit Reg.POWER.SBSCFG.EN 0 = true → s.dom.logic = true → s.boot = 0 →
    s.update.sbsReady ≤ c → s.update.sbs = some r →
    (s.update.sbsAfter = 0 → exec (.sbsRead c) s = .next (s.reach c)) ∧
    (s.update.sbsAfter = 1 → Ends (.sbsRead c) s fun t => t.boot = 2 ∧ t.update.recoverReq = true ∧ t.update.sbs = none) ∧
    (s.update.sbsAfter = 2 → Ends (.sbsRead c) s fun t => t.boot = 2 ∧ t.update.recoverReq = s.update.recoverReq ∧ t.update.sbs = none))

/-- R12, R15, R43, R98: a write of a load switch's CTRL by a scheduled block is staged: the register takes its RW fields and the lane is
noted, and what the power die acts on stands until a commit; from plains code it is refused with FLT_TICK_PLAINSTAGE. A
privileged register written through the unprivileged alias keeps its value, with FLT_SYS_PRIVWRITE; where no register is named
a write has no effect. -/
def Obligations.RegisterWritesAreStaged : Prop :=
  (∀ (s : State) (b : By) (n : Fin 96) (v : Word32), let off : BitVec 22 := BitVec.ofNat 22 (0x100000 + 0x40 * n.val)
    (b.plain = false → Ends (.registerWrite b off v) s fun t =>
      t.bit Reg.LSW.CTRL.EN n.val = v.getLsbD Reg.LSW.CTRL.EN.lo ∧ t.eff = s.eff ∧ t.flags = s.flags ∧
      smapGet (fun _ => 0) t.seq.owner off.toNat = b.lane.val + 1 ∧ (∀ o, o ≠ off.toNat → t.word o = s.word o)) ∧
    (b.plain = true → Live s → Ends (.registerWrite b off v) s fun t =>
      Flagged t Flt.TICK.PLAINSTAGE b.lane.val 0 ∧ t.word off.toNat = s.word off.toNat ∧ t.eff = s.eff ∧ t.seq = s.seq)) ∧
  (∀ (s : State) (b : By) (off : BitVec 22) (v : Word32) (r : RegRow), regRow (off.toNat / 4 * 4) = some r → isUcode (off.toNat / 4 * 4) = false →
    r.shown = 0 → b.priv = false → (b.plain = true → isStaged r = false) → v ≠ 0 → ¬(0x30000 ≤ off.toNat ∧ off.toNat < 0x50000) → Live s →
    Ends (.registerWrite b off v) s fun t => Flagged t Flt.SYS.PRIVWRITE b.lane.val 0 ∧
      t.word (off.toNat / 4 * 4) = s.word (off.toNat / 4 * 4)) ∧
  (∀ (s : State) (b : By) (off : BitVec 22) (v : Word32), regRow (off.toNat / 4 * 4) = none → isUcode (off.toNat / 4 * 4) = false →
    exec (.registerWrite b off v) s = .next s)

/-- R12, R292, R293: the low word of a pair goes to the holding register of the lane's bank and the high word commits both; a read
clears the RC fields of its register and no other; the first word of a latched group loads the latch. -/
def Obligations.PairsAndReadsClear : Prop :=
  (∀ (s : State) (b : By) (off : BitVec 22) (v : Word32) (r : RegRow), b.priv = true → regRow (off.toNat / 4 * 4) = some r →
    isUcode (off.toNat / 4 * 4) = false → isForce (off.toNat / 4 * 4) = false → (b.plain = true → isStaged r = false) →
    (pairLow (off.toNat / 4 * 4) = true → Ends (.registerWrite b off v) s fun t => t.regs = s.regs ∧
      smapGet (fun _ => (0 : Word32)) t.timers.holding (bankKey b.lane.val b.plain) = v) ∧
    (pairLow (off.toNat / 4 * 4) = false → 4 ≤ off.toNat / 4 * 4 → pairLow (off.toNat / 4 * 4 - 4) = true →
      Ends (.pairHighWrite b off v) s fun t => t.word (off.toNat / 4 * 4) = v ∧
        t.word (off.toNat / 4 * 4 - 4) = smapGet (fun _ => (0 : Word32)) s.timers.holding (bankKey b.lane.val b.plain) ∧
        (∀ o, o ≠ off.toNat / 4 * 4 → o ≠ off.toNat / 4 * 4 - 4 → t.word o = s.word o))) ∧
  (∀ (s : State) (b : By) (off : BitVec 22), b.priv = true → groupOf (off.toNat / 4 * 4) = none → Ends (.readClear b off) s fun t =>
    t.word (off.toNat / 4 * 4) = s.word (off.toNat / 4 * 4) &&& ~~~(BitVec.ofNat 32 (rcBits (off.toNat / 4 * 4))) ∧
    (∀ o, o ≠ off.toNat / 4 * 4 → t.word o = s.word o) ∧ t.timers = s.timers) ∧
  (∀ (s : State) (b : By) (off : BitVec 22) (n : Nat), groupOf (off.toNat / 4 * 4) = some (off.toNat / 4 * 4, n) →
    Ends (.groupFirstRead b off) s fun t =>
      (t.latch (bankKey b.lane.val b.plain)).group = some (off.toNat / 4 * 4) ∧
      ∀ i, i < n → (off.toNat / 4 * 4 + 4 * i, regView s b.priv (off.toNat / 4 * 4 + 4 * i)) ∈ (t.latch (bankKey b.lane.val b.plain)).words)

/-- R457 to R462, R464: a raise sets its flag, counts, and writes the next record of the log with its SOURCE, UNIT, COUNT and class; a raise
whose flag is set is escalated by one class; F1 degrades, F2 puts the safe zone in force, F3 is terminal: the lanes halt, the
sequencer stops, the latch is set and the latest 256 records go to the dump. -/
def Obligations.RaisesAreActedOn : Prop :=
  (∀ (s : State) (src unit cls : Nat) (detail : BitVec 48) (forced : Bool), Live s → cls < 3 → src < 0x10000 → unit < 0x4000 →
    (⟨src, unit, cls⟩ : FaultFlag) ∉ s.flags → let t := raiseWith s src unit cls detail forced
      Flagged t src unit cls ∧ (cls = 1 → t.bit Reg.FAULT.STATUS.DEGRADED 0 = true) ∧ (cls = 2 → t.zoneSafe = true) ∧
      (cls < 2 → t.fld Reg.FAULT.LAST.SOURCE 0 = src ∧ t.fld Reg.FAULT.LAST.UNIT 0 = unit ∧ t.fld Reg.FAULT.LASTCLS.CLASS 0 = cls + 16 * cls ∧
        t.flags = s.flags ++ [⟨src, unit, cls⟩] ∧
        (s.log.length < 4096 → ∃ r, t.log = s.log ++ [r] ∧ r.src = src ∧ r.unit = unit ∧ r.count = s.now ∧ r.cls = cls ∧ r.own = cls ∧
          r.detail = detail ∧ r.forced = forced ∧ r.escalated = false ∧ r.recNo = s.fld Reg.LOG.NEXT.VALUE 0))) ∧
  (∀ (s : State) (src unit cls : Nat), Live s → cls < 3 → (⟨src, unit, cls⟩ : FaultFlag) ∈ s.flags →
    Flagged (raiseFault s src unit cls) src unit (cls + 1) ∧
    (cls = 0 → (raiseFault s src unit cls).bit Reg.FAULT.STATUS.DEGRADED 0 = true) ∧
    (cls = 1 → (raiseFault s src unit cls).zoneSafe = true) ∧
    (cls = 2 → (raiseFault s src unit cls).bit Reg.FAULT.STATUS.TERMINAL 0 = true)) ∧
  (∀ (s : State), Live s → Ends .refclkFault s fun t =>
    Flagged t Flt.SYS.REFCLK noUnit 3 ∧ t.bit Reg.FAULT.STATUS.TERMINAL 0 = true ∧ t.terminalLatch = true ∧ t.seqState = seqStopped ∧
    t.hwSafe = true ∧ t.net.tx = [] ∧ (∀ n, n < 4 → (t.lane n).running = false) ∧
    (s.storeHot = false → ∃ d, t.dumpNext = some d ∧ d.length ≤ 256))

/-- R461, R467 to R471, R473: ACK clears the flags of the named classes, of F2 unless that is refused; ACKONE those of one SOURCE and
UNIT; a force raises the named source at a class its rule gives it; CLEAR empties the ring, CLRDUMP the dump; the dump is taken;
the terminal latch clears only below 2.5 V on both supplies. -/
def Obligations.FlagsAndLogAreCleared : Prop :=
  (∀ (s : State) (b : By) (c : BitVec 4), b.priv = true →
    (c.getLsbD 2 = false ∨ ackRefused s = false → Ends (.faultAck b c) s fun t =>
      (∀ f : FaultFlag, f ∈ t.flags ↔ f ∈ s.flags ∧ ¬(f.cls < 3 ∧ c.getLsbD f.cls = true)) ∧ t.log = s.log) ∧
    (c.getLsbD 2 = true → ackRefused s = true → Ends (.faultAck b c) s fun t =>
      t.bit Reg.FAULT.STATUS.ACKREF 0 = true ∧ (∀ f : FaultFlag, f ∈ t.flags ↔ f ∈ s.flags ∧ ¬(f.cls < 2 ∧ c.getLsbD f.cls = true)))) ∧
  (∀ (s : State) (b : By) (src : BitVec 16) (unit : BitVec 14), b.priv = true →
    ((∀ f ∈ s.flags, f.src = src.toNat → f.unit = unit.toNat → f.cls = 2 → ackRefused s = false) → Ends (.faultAckone b src unit) s fun t =>
      ∀ f : FaultFlag, f ∈ t.flags ↔ f ∈ s.flags ∧ ¬(f.src = src.toNat ∧ f.unit = unit.toNat ∧ f.cls < 3))) ∧
  (∀ (s : State) (b : By) (src : BitVec 16) (cls : Fin 4) (unit : BitVec 14), Forced s b →
    (Live s → isSource src.toNat = true → classAllowed src.toNat cls.val = true → Raises (.faultForce b src cls unit) s src.toNat unit.toNat cls.val) ∧
    (isSource src.toNat = false ∨ classAllowed src.toNat cls.val = false → exec (.faultForce b src cls unit) s = .next s)) ∧
  (∀ (s : State) (b : By), b.priv = true →
    (Ends (.logClear b) s fun t => t.log = [] ∧ t.fld Reg.LOG.STATUS.FILL 0 = 0 ∧ t.bit Reg.LOG.STATUS.STOPPED 0 = false ∧
      t.fld Reg.LOG.NEXT.VALUE 0 = s.fld Reg.LOG.NEXT.VALUE 0 ∧ t.dump = s.dump) ∧
    (Ends (.logClrdump b) s fun t => t.dump = [] ∧ t.bit Reg.LOG.STATUS.DUMP_VALID 0 = false ∧ t.log = s.log)) ∧
  (∀ (s : State) (d : List LogRec), s.dumpNext = some d → s.storeHot = false → exec .terminalDumpDone s = .next { s with dump := d, dumpNext := none }) ∧
  (∀ (s : State), (s.supA < 2500 → s.supB < 2500 → exec .terminalLatchClear s = .next { s with terminalLatch := false }) ∧
    (2500 ≤ s.supA ∨ 2500 ≤ s.supB → exec .terminalLatchClear s = .next s))

/-- R13, R15, R461, R470: the same requests from unprivileged code change no flag, log or dump and raise FLT_SYS_PRIVWRITE; so does a
force while FORCE_EN is 0. -/
def Obligations.UnprivilegedRequestsAreRefused : Prop :=
  ∀ (s : State) (b : By), Live s →
    (b.priv = false → ∀ i ∈ ([.logClear b, .logClrdump b, .faultAck b 0xF, .sleepArm b, .powerPulse b, .powerKeep b, .powerAbort b,
        .roundAbort b, .immoGo b, .updateBegin b, .updateVerify b, .updateAbort b, .updateRecover b, .stagingPush b, .hoArm b, .hoAbort b,
        .load b, .keyZeroise b, .canRecover b 0] : List Instr),
      Ends i s fun t => Flagged t Flt.SYS.PRIVWRITE b.lane.val 0 ∧ (∀ f ∈ s.flags, f ∈ t.flags) ∧ t.dump = s.dump ∧
        t.access = s.access ∧ t.update = s.update ∧ t.keys = s.keys ∧ t.power = s.power ∧ t.seq = s.seq) ∧
    (s.bit Reg.FAULT.CTRL.FORCE_EN 0 = false → ∀ i ∈ ([.faultForce b 0x0101 2 0, .updateForceStore b, .accessForceRelay b, .keysForceTrng b,
        .powerForceVlane b, .journalForceBank0 b, .lswForceOpen b 0, .hbrForceShort b 0, .valveForceOpen b 0, .lightForceOpen b 0,
        .ledgerForceSegtrip b 0, .injEcc1 b 0] : List Instr),
      Ends i s fun t => Flagged t Flt.SYS.PRIVWRITE b.lane.val 0 ∧ (∀ f ∈ s.flags, f ∈ t.flags) ∧ t.access = s.access ∧ t.update = s.update ∧
        t.keys = s.keys ∧ t.lanes = s.lanes ∧ t.ledger = s.ledger)

/-- R161: each protection of a load switch that has a retry left raises its source in class F0, and the clamp trip in class F1.
R165, R166, R164: a protective switch-off with a retry left leaves the committed command as it is, reads ON = 0 and shows the
pending restart; a thermal trip sets the latch; the locked channel of a last retry raises FLT_LSW_LOCKOUT. -/
def Obligations.LoadSwitchProtections : Prop :=
  (∀ (s : State) (n : Fin 96), Live s → Calm s →
    (s.fld Reg.LSW.RETRY.RETRY_LEFT n.val ≠ 0 →
      (s.bit Reg.LSW.STAT.IN_LIMIT n.val = true → s.effFld Reg.LSW.ILIM.TLIM n.val ≠ 0 →
        Raises (.limitTimeout n) s Flt.LSW.LIMTO n.val 0) ∧
      (s.bit Reg.LSW.STAT.ON n.val = true → Raises (.hardShort n) s Flt.LSW.SHORT n.val 0) ∧
      (s.allOff = false → Raises (.overTemperatureTrip n) s Flt.LSW.THERM n.val 0) ∧
      (∀ by_, Forced s by_ → Raises (.lswForceTherm by_ n) s Flt.LSW.THERM n.val 0 ∧ Raises (.lswForceShort by_ n) s Flt.LSW.SHORT n.val 0)) ∧
    (s.bit Reg.LSW.STAT.ON n.val = true → s.effFld Reg.LSW.ILIM.IOL n.val ≠ 0 → Raises (.openLoadOn n) s Flt.LSW.OPEN n.val 0) ∧
    (∀ vout : Int, s.effBit Reg.LSW.CFG.OFFDIAG n.val = true → s.bit Reg.LSW.STAT.ON n.val = false → s.allOff = false →
      (6000 < vout → Raises (.offStateDiag n vout) s Flt.LSW.STB n.val 0) ∧
      (1500 ≤ vout → vout ≤ 6000 → Raises (.offStateDiag n vout) s Flt.LSW.OPEN n.val 0) ∧
      (vout < 1500 → Ends (.offStateDiag n vout) s fun t => t.flags = s.flags ∧ t.log = s.log)) ∧
    Raises (.clampTrip n) s Flt.LSW.FREEWHEEL n.val 1 ∧
    (∀ by_, Forced s by_ → Raises (.lswForceOpen by_ n) s Flt.LSW.OPEN n.val 0)) ∧
  (∀ (s : State) (n : Fin 96) (i : Instr) (src : Nat),
    ((i = .limitTimeout n ∧ src = Flt.LSW.LIMTO ∧ s.bit Reg.LSW.STAT.IN_LIMIT n.val = true ∧ s.effFld Reg.LSW.ILIM.TLIM n.val ≠ 0) ∨
      (i = .hardShort n ∧ src = Flt.LSW.SHORT ∧ s.bit Reg.LSW.STAT.ON n.val = true) ∨
      (i = .overTemperatureTrip n ∧ src = Flt.LSW.THERM ∧ s.allOff = false)) →
    Live s → Calm s → Fresh s src n.val →
    (s.fld Reg.LSW.RETRY.RETRY_LEFT n.val ≠ 0 → Ends i s fun t =>
      t.eff = s.eff ∧ t.bit Reg.LSW.STAT.ON n.val = false ∧
      t.bit Reg.LSW.STAT.RETRY_PEND n.val = (s.effBit Reg.LSW.CTRL.EN n.val || (s.bit Reg.LSW.STAT.SAFE n.val && s.effFld Reg.LSW.CFG.SAFE n.val == 1)) ∧
      (i = .overTemperatureTrip n → t.bit Reg.LSW.STAT.TLATCH n.val = true) ∧
      t.fld Reg.LSW.RETRY.RETRY_LEFT n.val = s.fld Reg.LSW.RETRY.RETRY_LEFT n.val ∧
      (∀ m, m < 96 → m ≠ n.val → t.word (Reg.LSW.STAT.REG.off m) = s.word (Reg.LSW.STAT.REG.off m))) ∧
    (s.fld Reg.LSW.RETRY.RETRY_LEFT n.val = 0 → Raises i s Flt.LSW.LOCKOUT n.val 1))

/-- R166, R167, R170, R171: a restart uses up one retry after the delay; enough on-time refills the retries; a RELOAD waits for its
col; a free-wheel test runs its pulse and stores its result; a forced clamp waits for the next off edge.
R150, R154, R161: the limiter's state, the level of a direct input and the codes of a mirror scan are shown. -/
def Obligations.LoadSwitchRetriesAndInputs : Prop :=
  (∀ (s : State) (n : Fin 96), Calm s →
    ((s.lswCh n.val).prot = true → s.bit Reg.LSW.STAT.LOCKED n.val = false → s.bit Reg.LSW.STAT.TLATCH n.val = false →
      s.fld Reg.LSW.RETRY.RETRY_LEFT n.val ≠ 0 → Ends (.retryRestart n) s fun t =>
        t.fld Reg.LSW.RETRY.RETRY_LEFT n.val + 1 = s.fld Reg.LSW.RETRY.RETRY_LEFT n.val ∧ t.bit Reg.LSW.STAT.RETRY_PEND n.val = false ∧
        (t.lswCh n.val).prot = false ∧ (s.lswCh n.val).offAt + max (s.effFld Reg.LSW.RETRY.TRETRY n.val) 1 * 100000 ≤ t.now) ∧
    (s.effFld Reg.LSW.RETRY.REFILL n.val ≠ 0 → s.bit Reg.LSW.STAT.ON n.val = true → Ends (.retryRefill n) s fun t =>
        t.fld Reg.LSW.RETRY.RETRY_LEFT n.val = s.effFld Reg.LSW.RETRY.RETRY_MAX n.val ∧ (t.lswCh n.val).onTime = 0) ∧
    (Ends (.reload n) s fun t => (t.lswCh n.val).reload = 1 ∧ t.regs = s.regs ∧ t.eff = s.eff) ∧
    (s.effBit Reg.LSW.CTRL.FWTEST n.val = true → s.effBit Reg.LSW.CTRL.EN n.val = false →
      Ends (.fwTest n) s fun t => t.effBit Reg.LSW.CTRL.FWTEST n.val = false ∧
        (if s.bit Reg.LSW.STAT.HOLDOVER n.val || s.bit Reg.LSW.STAT.LOCKED n.val || s.bit Reg.LSW.STAT.TLATCH n.val then
          t.fld Reg.LSW.FW.FW_RESULT n.val = 3 else t.bit Reg.LSW.FW.FW_BUSY n.val = true ∧ (t.lswCh n.val).fwBusy = true)) ∧
    (∀ (vmin : Int) (current : Nat), s.bit Reg.LSW.FW.FW_BUSY n.val = true → Ends (.fwTestEnd n vmin current) s fun t =>
        t.bit Reg.LSW.FW.FW_BUSY n.val = false ∧
        (vmin < -2500 → t.fld Reg.LSW.FW.FW_RESULT n.val = 2 ∧ t.bit Reg.LSW.FW.FW_OK n.val = false) ∧
        (-2500 ≤ vmin → current < lswFwMin n.val → t.fld Reg.LSW.FW.FW_RESULT n.val = 3 ∧
          t.bit Reg.LSW.FW.FW_OK n.val = s.bit Reg.LSW.FW.FW_OK n.val) ∧
        (-2500 ≤ vmin → vmin ≤ -200 → lswFwMin n.val ≤ current → t.fld Reg.LSW.FW.FW_RESULT n.val = 1 ∧
          t.bit Reg.LSW.FW.FW_OK n.val = true)) ∧
    (∀ by_, Forced s by_ → Ends (.lswForceClamp by_ n) s fun t => (t.lswCh n.val).forceClamp = true ∧ t.regs = s.regs)) ∧
  ((∀ (s : State) (n : Fin 96) (limiting : Bool), Ends (.currentLimit n limiting) s fun t =>
    t.bit Reg.LSW.STAT.IN_LIMIT n.val = (limiting && s.bit Reg.LSW.STAT.ON n.val) ∧
    (∀ o, o ≠ Reg.LSW.STAT.REG.off n.val → t.word o = s.word o)) ∧
  (∀ (s : State) (pin : Fin 24) (level : Bool), Calm s → Ends (.dinEdge pin level) s fun t =>
    ∀ q, q < 24 → (t.fld Reg.LSW.DINSTAT.LEVEL 0).testBit q = if q = pin.val then level else (s.fld Reg.LSW.DINSTAT.LEVEL 0).testBit q) ∧
  (∀ (s : State) (code : Fin 14) (pins : List Nat) (last : Bool) (a : Nat), s.scanAt = some a → Ends (.mirrorScanConversion code pins last) s fun t =>
    (code.val < 12 → ∀ p, p < 8 → t.fld Reg.LSW.ISENSE.CODE (p / 2 * 24 + p % 2 * 12 + code.val) = min (pins.getD p 0) 0xFFF) ∧
    (last = true → t.bit Reg.LSW.SENSESTAT.SCAN_BUSY 0 = false ∧ t.scanAt = none)) ∧
  (∀ (s : State) (code : Fin 14) (pins : List Nat) (last : Bool) (a p : Nat), s.scanAt = some a → Live s → p < 8 →
    ((code.val = 12 → 20 * 10000 < min (pins.getD p 0) 0xFFF * 12207 → Raises (.mirrorScanConversion code pins last) s Flt.LSW.SENSEPIN p 0) ∧
     (code.val = 13 → min (pins.getD p 0) 0xFFF * 12207 < 19600000 → Raises (.mirrorScanConversion code pins last) s Flt.LSW.SENSEPIN p 0))))

/-- R188, R193 to R196, R203: the update at C + 400 answers what waited and shows the input's current; a request before it waits; one
after it that every check passes is granted and its answer readable 8 counts later; a release frees the reservation; an inrush
window ends at the steady value; an armed segment trip waits for the update. -/
def Obligations.LedgerServesRequests : Prop :=
  (∀ (s : State) (m : LedgerIn), s.planRuns = true → s.ledger.updated = false → s.ledger.waiting = [] → m.inTime = true →
    Ends (.ledgerUpdate m) s fun t => t.ledger.updated = true ∧ t.ledger.trip = false ∧ s.colCount + 400 ≤ t.now ∧
      t.fld Reg.LEDGER.INMEAS.I 0 = m.supA / 100 % 2 ^ Reg.LEDGER.INMEAS.I.len ∧
      t.fld Reg.LEDGER.INMEAS.I 1 = m.supB / 100 % 2 ^ Reg.LEDGER.INMEAS.I.len) ∧
  (∀ (s : State) (lane : Fin 4) (ch : BitVec 7) (ist : BitVec 16), ledgerUp s = true →
    (s.ledger.updated = false → Ends (.ledgerAdmit lane ch ist) s fun t =>
      (lane.val, ch.toNat, ist.toNat) ∈ t.ledger.waiting ∧ t.regs = s.regs) ∧
    (s.ledger.updated = true → 120 ≤ ch.toNat → Ends (.ledgerAdmit lane ch ist) s fun t =>
      (lane.val, s.now + 8, admitWord 3 7 0xFF 0) ∈ t.ledger.answers ∧ t.regs = s.regs) ∧
    (s.ledger.updated = true → ch.toNat < 120 →
      let e := chEntry s ch.toNat
      let st := if ist.toNat = 0 then e.steady else ist.toNat
      let rush := decide (e.tInrush ≠ 0) && decide (st < e.inrush)
      admitCheck s ch.toNat st (if rush then e.inrush else st) (if rush then e.tInrush else 0) = none →
      Ends (.ledgerAdmit lane ch ist) s fun t =>
        (lane.val, s.now + 8, admitWord 1 0 0xFF st) ∈ t.ledger.answers ∧
        t.fld Reg.LEDGER.RESV.RESV ch.toNat = (if rush then e.inrush else st) % 2 ^ Reg.LEDGER.RESV.RESV.len ∧
        t.bit Reg.LEDGER.RESV.INRUSH ch.toNat = rush) ∧
    (ch.toNat < 120 → Calm s → Ends (.ledgerRelease lane ch) s fun t =>
      t.fld Reg.LEDGER.RESV.RESV ch.toNat = 0 ∧ t.bit Reg.LEDGER.RESV.INRUSH ch.toNat = false ∧
      (lane.val, s.now + 8, admitWord 4 0 0xFF 0) ∈ t.ledger.answers)) ∧
  (∀ (s : State) (ch : Fin 120) (u : Nat), (s.ledger1 ch.val).until' = some u → Calm s → Ends (.inrushEnd ch) s fun t =>
    t.fld Reg.LEDGER.RESV.RESV ch.val = (s.ledger1 ch.val).steady % 2 ^ Reg.LEDGER.RESV.RESV.len ∧
    t.bit Reg.LEDGER.RESV.INRUSH ch.val = false ∧ u ≤ t.now) ∧
  (∀ (s : State) (b : By) (seg : Byte), Forced s b → Ends (.ledgerForceSegtrip b seg) s fun t =>
    t.ledger.trip = true ∧ t.fld Reg.LEDGER.FORCE.SEG 0 = seg.toNat)

/-- R212, R214, R215, R222: each protection of a half-bridge raises its source; a short or an over-temperature puts the whole bridge
into COAST with PROT_OFF and leaves the committed command as it is; overvoltage is shown in every half. -/
def Obligations.BridgeProtectionsReact : Prop :=
  (∀ (s : State) (n : Fin 16), Live s →
    let m := hbMaster s n.val
    (s.fld Reg.HBR.STAT.APPLIED n.val ≠ 0 → Raises (.bridgeShort n) s Flt.HBR.SHORT n.val 0 ∧
      (Fresh s Flt.HBR.SHORT n.val → Ends (.bridgeShort n) s fun t =>
        t.eff = s.eff ∧ t.bit Reg.HBR.STAT.EV_SHORT n.val = true ∧
        ∀ h ∈ hbHalves s m, t.bit Reg.HBR.STAT.PROT_OFF h = true ∧ t.fld Reg.HBR.STAT.APPLIED h = 0)) ∧
    (s.allOff = false → Raises (.bridgeOverTemperature n) s Flt.HBR.THERM n.val 0 ∧
      (Fresh s Flt.HBR.THERM n.val → Ends (.bridgeOverTemperature n) s fun t =>
        t.eff = s.eff ∧ t.bit Reg.HBR.STAT.TLATCH n.val = true ∧
        ∀ h ∈ hbHalves s m, t.bit Reg.HBR.STAT.PROT_OFF h = true ∧ t.fld Reg.HBR.STAT.APPLIED h = 0)) ∧
    (s.fld Reg.HBR.STAT.APPLIED n.val ∈ (if hbPaired s n.val then [3, 4] else [2]) →
      Raises (.brakeLimit n) s Flt.HBR.BRKLIM n.val 0) ∧
    (s.bit Reg.HBR.STAT.DRIVING m = true → s.effFld Reg.HBR.CFG.TSTALL m ≠ 0 → Raises (.stall n) s Flt.HBR.STALL m 0 ∧
      (Fresh s Flt.HBR.STALL m → s.effBit Reg.HBR.CFG.STALL_BRAKE m = true → Ends (.stall n) s fun t =>
        t.eff = s.eff ∧ t.bit Reg.HBR.STAT.STOPPED m = true)) ∧
    (∀ by_, Forced s by_ → Raises (.hbrForceStall by_ n) s Flt.HBR.STALL m 0 ∧
      Raises (.hbrForceTherm by_ n) s Flt.HBR.THERM n.val 0 ∧ Raises (.hbrForceShort by_ n) s Flt.HBR.SHORT n.val 0)) ∧
  (∀ (s : State) (above : Bool), Live s → (∀ n, n < 16 → Fresh s Flt.HBR.OV n) → Ends (.supbOvervoltage above) s fun t =>
    ∀ n, n < 16 → t.bit Reg.HBR.STAT.OV n = above ∧
      (above = true → s.bit Reg.HBR.STAT.OV n = false → Flagged t Flt.HBR.OV n 0 ∧ t.bit Reg.HBR.STAT.EV_OV n = true))

/-- The position of a bridge counts one ripple in the direction of its last drive, modulo 2^32 (R221, R223).
R211, R223, R15, R227: the end of a reversal brake drops the brake, not before its time; a privileged POS write sets the count
and POS_VALID; an unprivileged one that would change it is ignored and raises FLT_SYS_PRIVWRITE. -/
def Obligations.BridgePositionAndBrakes : Prop :=
  (∀ (s : State) (n : Fin 16),
    let m := n.val / 2 * 2
    let c := s.hbCh m
    let moved := (s.fld Reg.HBR.POS.POS m + (if c.fwd then 1 else 2 ^ 32 - 1)) % 2 ^ 32
    let last := c.lastRip.getD 0
    (∀ count mean ampl, hbPaired s m = true → s.fld Reg.HBR.STAT.APPLIED m ≠ 0 → 300 ≤ mean → 3 * mean ≤ ampl * 100 →
      ((c.moving = false ∨ max 10 (min (s.effFld Reg.HBR.RIPCFG.RIP_MIN m) 90) * s.fld Reg.HBR.PERIOD.COUNTS m ≤ (count - last) * 100) →
        Ends (.rippleAccept n count mean ampl) s fun t => t.fld Reg.HBR.POS.POS m = moved ∧ (t.hbCh m).lastRip = some count) ∧
      (c.moving = true → (count - last) * 100 < max 10 (min (s.effFld Reg.HBR.RIPCFG.RIP_MIN m) 90) * s.fld Reg.HBR.PERIOD.COUNTS m →
        Ends (.rippleAccept n count mean ampl) s fun t => t.fld Reg.HBR.POS.POS m = s.fld Reg.HBR.POS.POS m ∧
          t.fld Reg.HBR.RIPSTAT.REJECTED m = min (s.fld Reg.HBR.RIPSTAT.REJECTED m + 1) 255)) ∧
    (c.lastRip.isSome = true → hbPaired s m = true → s.bit Reg.HBR.STAT.DRIVING m = true → c.moving = true →
      Ends (.rippleInsert n) s fun t => t.fld Reg.HBR.POS.POS m = moved ∧
        t.fld Reg.HBR.RIPSTAT.INSERTED m = min (s.fld Reg.HBR.RIPSTAT.INSERTED m + 1) 255) ∧
    (s.fld Reg.HBR.STAT.APPLIED m = 0 → hbExtrapolates s m = true →
      (Ends (.rippleExtrapolate n) s fun t => t.fld Reg.HBR.POS.POS m = moved ∧
        (t.hbCh m).lastRip = some (last + s.fld Reg.HBR.PERIOD.COUNTS m)) ∧
      (Live s → Raises (.rippleExtrapExpiry n) s Flt.HBR.RIPPLE m 0 ∧
        (Fresh s Flt.HBR.RIPPLE m → Ends (.rippleExtrapExpiry n) s fun t => t.bit Reg.HBR.RIPSTAT.POS_VALID m = false ∧
          t.fld Reg.HBR.POS.POS m = s.fld Reg.HBR.POS.POS m)))) ∧
  (∀ (s : State) (n : Fin 16),
    (let m := hbMaster s n.val
     s.bit Reg.HBR.STAT.REVERSING m = true → Ends (.reversalBrakeEnd n) s fun t =>
      t.bit Reg.HBR.STAT.REVERSING m = false ∧ (t.hbCh m).pend = 0 ∧
      (s.hbCh m).brakeFrom + s.effFld Reg.HBR.CFG.REVBRAKE m * 100000 ≤ t.now) ∧
    (∀ (b : By) (val : Word32), b.priv = true → ¬(hbPaired s n.val = true ∧ n.val % 2 = 1) → Ends (.posWrite b n val) s fun t =>
      t.fld Reg.HBR.POS.POS n.val = val.toNat ∧ t.bit Reg.HBR.RIPSTAT.POS_VALID n.val = true) ∧
    (∀ (b : By) (val : Word32), b.priv = false → s.fld Reg.HBR.POS.POS n.val ≠ val.toNat → Live s → Ends (.posWrite b n val) s fun t =>
      Flagged t Flt.SYS.PRIVWRITE b.lane.val 0 ∧ t.fld Reg.HBR.POS.POS n.val = s.fld Reg.HBR.POS.POS n.val))

/-- R233 to R236, R238, R253: words are stored as two halves while no channel of the bank runs; a START begins the committed
profile in PRE, is queued in RELEASE, extends D of a running profile, and is refused with its reason; OFF sends a running profile to
its RELEASE address; a rearm leaves PROT_OFF. -/
def Obligations.ValveCommandsAct : Prop :=
  (∀ (s : State) (b : By) (bank : Fin 4) (word : BitVec 9) (val : Word32), b.priv = true → bankActive s bank.val = false →
    (Ends (.microcodeWrite b bank word false val) s fun t => (t.bank bank.val).low = (word.toNat, val) ∧ t.ucode = s.ucode) ∧
    ((s.bank bank.val).low.1 = word.toNat → Ends (.microcodeWrite b bank word true val) s fun t =>
      ucWord t bank.val word.toNat = (s.bank bank.val).low.2.toNat + val.toNat * 2 ^ 32 ∧
      ∀ c w, c < 4 → w < 512 → ¬(c = bank.val ∧ w = word.toNat) → ucWord t c w = ucWord s c w)) ∧
  (∀ (s : State) (b : By) (bank : Fin 4) (word : BitVec 9) (high : Bool) (val : Word32), b.priv = true → bankActive s bank.val = true → Live s →
    Ends (.microcodeWrite b bank word high val) s fun t => Flagged t Flt.VALVE.CFG bank.val 0 ∧ t.ucode = s.ucode) ∧
  (∀ (s : State) (n : Fin 24), s.effBit Reg.VALVE.CMD.START n.val = true → s.effBit Reg.VALVE.CMD.OFF n.val = false → s.allOff = false →
    vdKeptSafe s n.val = false →
    let x := stepAt (max s.now (s.colCount + 4))
    let d := vdDeadline s n.val x
    (StartOk s n.val → vdPhase s n.val = vdIdle → Ends (.valveStart n) s fun t =>
      vdPhase t n.val = vdPre ∧ t.fld Reg.VALVE.PSTAT.PROF n.val = s.effFld Reg.VALVE.CMD.PROF n.val ∧
      t.fld Reg.VALVE.PSTAT.PC n.val = descEntry (ucWord s (vdBank n.val) (s.effFld Reg.VALVE.CMD.PROF n.val)) ∧
      vdD t n.val = d % 2 ^ 64 ∧ t.effBit Reg.VALVE.CMD.START n.val = false) ∧
    (StartOk s n.val → vdPhase s n.val = vdRelease → Ends (.valveStart n) s fun t =>
      t.bit Reg.VALVE.PSTAT.QUEUED n.val = true ∧ (t.vdCh n.val).qProf = s.effFld Reg.VALVE.CMD.PROF n.val ∧ vdPhase t n.val = vdRelease) ∧
    (StartOk s n.val → vdPhase s n.val = vdHold → Ends (.valveStart n) s fun t => vdD t n.val = max (vdD s n.val) d % 2 ^ 64 ∧ vdPhase t n.val = vdHold) ∧
    (s.bit Reg.VALVE.PSTAT.UC_BLOCK n.val = true → Ends (.valveStart n) s fun t =>
      t.bit Reg.VALVE.STAT.EV_REFUSED n.val = true ∧ t.fld Reg.VALVE.STAT.REASON n.val = 1 ∧ vdPhase t n.val = vdPhase s n.val)) ∧
  (∀ (s : State) (n : Fin 24), s.effBit Reg.VALVE.CMD.OFF n.val = true →
    (vdPhase s n.val ≠ vdIdle → vdPhase s n.val ≠ vdRelease → Ends (.valveOff n) s fun t =>
      vdPhase t n.val = vdRelease ∧ t.fld Reg.VALVE.PSTAT.PC n.val = descRelease (vdDesc s n.val) ∧
      t.bit Reg.VALVE.STAT.LS_ON n.val = false ∧ t.effBit Reg.VALVE.CMD.OFF n.val = false) ∧
    (vdPhase s n.val = vdRelease → Ends (.valveOff n) s fun t =>
      t.bit Reg.VALVE.PSTAT.QUEUED n.val = false ∧ vdPhase t n.val = vdRelease)) ∧
  (∀ (s : State) (n : Fin 24), s.effBit Reg.VALVE.CMD.REARM n.val = true → s.bit Reg.VALVE.STAT.TLATCH n.val = false →
    (s.bank (vdBank n.val)).latch = false → Ends (.valveRearm n) s fun t =>
      t.bit Reg.VALVE.PSTAT.PROT_OFF n.val = false ∧ t.bit Reg.VALVE.BANKSTAT.VB_PROT (vdBank n.val) = false)

/-- R240: what each instruction of the profile engine does to its channel: it issues at the step given, moves to the next word or
its branch target, and sets the target, window, ramp, wait, counter or phase that it names.
R238, R240: a parity fault on fetch raises FLT_VALVE_UCODE for the bank in class F1; an instruction that is no instruction
raises it for the channel in class F0 and shows REL_TO. -/
def Obligations.ProfilesRun : Prop :=
  (∀ (s : State) (n : Fin 24) (x : CoilIn),
    let c := s.vdCh n.val
    let y := ucStep s n.val x
    let w := ucNext s n.val
    let succ := (c.succ + 1) % 512
    let b := vdBank n.val
    (UcReady s n.val 0x00 → Ends (.ucNop n x) s fun t => (t.vdCh n.val).succ = succ ∧ (t.vdCh n.val).next = y + 1 ∧
      t.fld Reg.VALVE.PSTAT.PC n.val = c.succ % 512 ∧ 100 * y ≤ t.now) ∧
    (UcReady s n.val 0x01 → Ends (.ucSeti n x) s fun t => (t.vdCh n.val).target = ucI w ∧
      (t.vdCh n.val).hyst = (if ucT w % 256 = 0 then 5 else ucT w % 256) ∧ (t.vdCh n.val).succ = succ) ∧
    (UcReady s n.val 0x02 → Ends (.ucRamp n x) s fun t => (t.vdCh n.val).target = ucI w ∧ (t.vdCh n.val).rampLen = ucT w ∧
      (t.vdCh n.val).rampFrom = vdTargetAt s n.val y ∧ (t.vdCh n.val).next = y + ucT w ∧ (t.vdCh n.val).succ = succ) ∧
    (UcReady s n.val 0x03 → s.fld Reg.VALVE.BANKSTAT.HOLDER b = 7 → (s.bank b).queue = [] → Ends (.ucPeak n x) s fun t =>
      vdPhase t n.val = vdPeak ∧ t.fld Reg.VALVE.BANKSTAT.HOLDER b = n.val % 6 ∧ (t.vdCh n.val).granted = some y ∧
      (t.vdCh n.val).battery = (ucFlg w % 2 == 1)) ∧
    (UcReady s n.val 0x03 → s.fld Reg.VALVE.BANKSTAT.HOLDER b ≠ 7 → s.fld Reg.VALVE.BANKSTAT.HOLDER b ≠ n.val % 6 → Ends (.ucPeak n x) s fun t =>
      vdPhase t n.val = vdWaitPeak ∧ n.val ∈ (t.bank b).queue ∧ (t.vdCh n.val).wait = .peak y ∧
      t.fld Reg.VALVE.BANKSTAT.HOLDER b = s.fld Reg.VALVE.BANKSTAT.HOLDER b) ∧
    (UcReady s n.val 0x04 → Ends (.ucHold n x) s fun t => vdPhase t n.val = vdHold ∧ (t.vdCh n.val).target = ucI w ∧
      (t.vdCh n.val).wait = .hold (y + ucT w)) ∧
    (UcReady s n.val 0x05 → Ends (.ucRel n x) s fun t => vdPhase t n.val = vdRelease ∧ t.bit Reg.VALVE.STAT.LS_ON n.val = false) ∧
    (UcReady s n.val 0x06 → s.bit Reg.VALVE.PSTAT.QUEUED n.val = false → Ends (.ucEnd n x) s fun t =>
      vdPhase t n.val = vdIdle ∧ t.bit Reg.VALVE.STAT.LS_ON n.val = false) ∧
    (UcReady s n.val 0x06 → s.bit Reg.VALVE.PSTAT.QUEUED n.val = true → Ends (.ucEnd n x) s fun t =>
      vdPhase t n.val = vdPre ∧ t.bit Reg.VALVE.PSTAT.QUEUED n.val = false ∧ (t.vdCh n.val).next = y + 1 ∧
      (t.vdCh n.val).succ = descEntry (ucWord s b c.qProf)) ∧
    (UcReady s n.val 0x08 → Ends (.ucWaitt n x) s fun t => (t.vdCh n.val).next = y + max (ucT w) 1 ∧ (t.vdCh n.val).succ = succ) ∧
    (UcReady s n.val 0x09 → Ends (.ucWaiti n x) s fun t =>
      (t.vdCh n.val).wait = .waiti (ucFlg w % 2 == 1) (ucI w) (y + ucT w) (ucAddr w) ∧ (t.vdCh n.val).succ = succ) ∧
    (UcReady s n.val 0x0A → Ends (.ucWaitp n x) s fun t =>
      (t.vdCh n.val).wait = .waitp (ucFlg w % 4) (y + ucT w) (ucAddr w) ∧ (t.vdCh n.val).succ = succ) ∧
    (UcReady s n.val 0x0B → Ends (.ucBrdl n x) s fun t =>
      (t.vdCh n.val).succ = if vdD s n.val ≤ 100 * y then ucAddr w else succ) ∧
    (UcReady s n.val 0x0C → Ends (.ucJmp n x) s fun t => (t.vdCh n.val).succ = ucAddr w ∧ (t.vdCh n.val).next = y + 1) ∧
    (UcReady s n.val 0x0D → Ends (.ucSetn n x) s fun t => (t.vdCh n.val).loop = ucT w % 2 ^ 16 ∧ (t.vdCh n.val).succ = succ) ∧
    (UcReady s n.val 0x0E → Ends (.ucLoop n x) s fun t =>
      (t.vdCh n.val).loop = (c.loop + 0xFFFF) % 2 ^ 16 ∧
      (t.vdCh n.val).succ = if (c.loop + 0xFFFF) % 2 ^ 16 = 0 then succ else ucAddr w) ∧
    (UcReady s n.val 0x0F → Ends (.ucMark n x) s fun t => t.fld Reg.VALVE.PSTAT.MARK n.val = ucT w % 256 ∧
      (ucFlg w % 2 = 1 → t.bit Reg.VALVE.STAT.EV_MARK n.val = true) ∧ (t.vdCh n.val).succ = succ)) ∧
  (∀ (s : State) (n : Fin 24) (x : CoilIn), Live s → vdPhase s n.val ≠ vdIdle → (s.vdCh n.val).wait = .none →
    ((s.vdCh n.val).succ ∈ (s.bank (vdBank n.val)).bad → Raises (.ucNop n x) s Flt.VALVE.UCODE (vdBank n.val) 1) ∧
    ((s.vdCh n.val).succ ∉ (s.bank (vdBank n.val)).bad → ucBad (s.vdCh n.val).succ (ucNext s n.val) = true →
      Raises (.ucNop n x) s Flt.VALVE.UCODE n.val 0))

/-- R242, R245, R251, R252: the protections of the valve channels and banks raise their sources; where the raise is not escalated
the profile has ended with its low side open and PROT_OFF, or gone to RELEASE.
R230, R231, R252: the peak supply reports ready within 1 V of V_lim; a measured capacitance is shown, and one more than a fifth
above its setting raises FLT_VALVE_PKS; an overvoltage stops the charger and raises it in class F1. -/
def Obligations.ValveProtectionsReact : Prop :=
  ((∀ (s : State) (n : Fin 24), Live s →
    let ended : State → Prop := fun t => vdPhase t n.val = vdIdle ∧ t.bit Reg.VALVE.PSTAT.PROT_OFF n.val = true ∧
      t.bit Reg.VALVE.STAT.LS_ON n.val = false
    (vdPhase s n.val ≠ vdIdle → s.allOff = false → Raises (.vdShort n) s Flt.VALVE.SHORT n.val 0 ∧
      (Fresh s Flt.VALVE.SHORT n.val → Ends (.vdShort n) s ended)) ∧
    (vdPhase s n.val = vdPeak ∨ vdPhase s n.val = vdHold → s.allOff = false → Raises (.openCoil n) s Flt.VALVE.OPEN n.val 0 ∧
      (Fresh s Flt.VALVE.OPEN n.val → Ends (.openCoil n) s ended)) ∧
    (s.allOff = false → Raises (.vdOverTemperature n) s Flt.VALVE.THERM n.val 0 ∧
      (Fresh s Flt.VALVE.THERM n.val → Ends (.vdOverTemperature n) s fun t => ended t ∧ t.bit Reg.VALVE.STAT.TLATCH n.val = true)) ∧
    (s.allOff = false → Raises (.longClamp n) s Flt.VALVE.CLAMP n.val 0) ∧
    (∀ g, (s.vdCh n.val).granted = some g → s.fld Reg.VALVE.BANKSTAT.HOLDER (vdBank n.val) = n.val % 6 →
      Raises (.peakCut n) s Flt.VALVE.PEAKCUT n.val 0 ∧
      (Fresh s Flt.VALVE.PEAKCUT n.val → (s.bank (vdBank n.val)).queue = [] → Ends (.peakCut n) s fun t =>
        t.fld Reg.VALVE.BANKSTAT.HOLDER (vdBank n.val) = 7 ∧ t.bit Reg.VALVE.PSTAT.PK_CUT n.val = true ∧
        100 * (g + descPkMax (vdDesc s n.val)) ≤ t.now)) ∧
    (vdPhase s n.val ≠ vdIdle → (s.vdCh n.val).ranOut = false → ¬(vdPhase s n.val = vdHold ∧ vdD s n.val = dForever) →
      Raises (.runmaxExpiry n) s Flt.VALVE.RUNMAX n.val 0 ∧
      (Fresh s Flt.VALVE.RUNMAX n.val → Ends (.runmaxExpiry n) s fun t => vdPhase t n.val = vdRelease ∧
        t.bit Reg.VALVE.STAT.RUN_TO n.val = true)) ∧
    (∀ irms, s.dom.pwr.getLsbD (vdDie n.val) = true → Fresh s Flt.VALVE.COILHOT n.val → Ends (.coilModelUpdate n irms) s fun t =>
      t.fld Reg.VALVE.THETA.THETA n.val = unsigned 16 (if (s.vdCh n.val).forceHot then coilMax s n.val else coilStep s n.val 100000 irms) ∧
      (t.vdCh n.val).forceHot = false) ∧
    (∀ irms, s.dom.pwr.getLsbD (vdDie n.val) = true → (s.vdCh n.val).forceHot = true →
      Raises (.coilModelUpdate n irms) s Flt.VALVE.COILHOT n.val 0) ∧
    (∀ by_, Forced s by_ → Raises (.valveForceTherm by_ n) s Flt.VALVE.THERM n.val 0 ∧
      Raises (.valveForceOpen by_ n) s Flt.VALVE.OPEN n.val 0 ∧ Raises (.valveForceShort by_ n) s Flt.VALVE.SHORT n.val 0 ∧
      (Ends (.valveForceCoilhot by_ n) s fun t => (t.vdCh n.val).forceHot = true ∧ t.regs = s.regs))) ∧
  (∀ (s : State) (b : Fin 4) (thermal : Bool), Live s → s.allOff = false → s.bit Reg.VALVE.BANKSTAT.VB_ON b.val = true ∨ thermal = true →
    Raises (.vbProtection b thermal) s (if thermal then Flt.VALVE.VBTHERM else Flt.VALVE.VBSHORT) b.val 0 ∧
    (Fresh s (if thermal then Flt.VALVE.VBTHERM else Flt.VALVE.VBSHORT) b.val → Ends (.vbProtection b thermal) s fun t =>
      t.bit Reg.VALVE.BANKSTAT.VB_PROT b.val = true ∧ t.bit Reg.VALVE.BANKSTAT.VB_ON b.val = false))) ∧
  (∀ (s : State),
    (∀ vpks, pksRuns s = true → s.loadDump.getLsbD 0 = false → pksVlim s * 250 ≤ vpks + 1000 → vpks ≤ pksVlim s * 250 + 1000 →
      Ends (.pksReady vpks) s fun t => t.fld Reg.VALVE.PKSSTAT.VPKS 0 = vpks / 250 ∧ t.bit Reg.VALVE.PKSSTAT.READY 0 = true) ∧
    (∀ cap, pksRuns s = true → cap * 100 ≤ s.effFld Reg.VALVE.PKSCFG.CAP 0 * 120 → Ends (.pksCapMeasure cap) s fun t =>
      t.fld Reg.VALVE.PKSSTAT.CMEAS 0 = min cap 0xFFF ∧ t.bit Reg.VALVE.PKSSTAT.CMEAS_VALID 0 = true ∧ t.flags = s.flags) ∧
    (∀ cap, pksRuns s = true → Live s → s.effFld Reg.VALVE.PKSCFG.CAP 0 * 120 < cap * 100 →
      Raises (.pksCapMeasure cap) s Flt.VALVE.PKS noUnit 0) ∧
    (∀ vpks, pksVlim s * 250 + 3000 < vpks → Live s → Fresh s Flt.VALVE.PKS noUnit → (∀ n, n < 24 → Fresh s Flt.VALVE.PEAKCUT n) →
      (∀ b, b < 4 → s.bit Reg.VALVE.BANKSTAT.SRC_PKS b = true → s.fld Reg.VALVE.BANKSTAT.HOLDER b < 6) →
      Ends (.pksOvervoltage vpks) s fun t => Flagged t Flt.VALVE.PKS noUnit 1 ∧ t.bit Reg.VALVE.PKSSTAT.OV 0 = true ∧
        t.bit Reg.VALVE.PKSSTAT.READY 0 = false ∧ t.bit Reg.VALVE.PKSSTAT.BLEED 0 = true))

/-- R275, R280: each protection of the lighting drive raises its source; a protected sink or stage goes off with PROT_OFF while its
committed command stays.
R272, R273, R274, R276, R278: rearms end PROT_OFF; a headroom measurement keeps the string's forward voltage; the setpoint moves
towards the target by at most 50 mV; READY within 0.5 V of it; the model stores the LED's rise; a frame ends dark and is counted. -/
def Obligations.LightingReacts : Prop :=
  ((∀ (s : State) (n : Fin 32), Live s →
    (s.bit Reg.LIGHT.STAGESTAT.RUN (sinkStage n.val) = true → sinkAsked s n.val ≠ 0 →
      (s.bit Reg.LIGHT.SINKSTAT.EXCLUDED n.val = false → Raises (.openString n) s Flt.LIGHT.OPEN n.val 0 ∧
        (Fresh s Flt.LIGHT.OPEN n.val → Ends (.openString n) s fun t => t.bit Reg.LIGHT.SINKSTAT.EXCLUDED n.val = true ∧ t.eff = s.eff)) ∧
      Raises (.stringShort n) s Flt.LIGHT.SHORT n.val 0 ∧
      (Fresh s Flt.LIGHT.SHORT n.val → Ends (.stringShort n) s fun t => t.eff = s.eff ∧ t.bit Reg.LIGHT.SINKSTAT.EV_SHORT n.val = true ∧
        (s.effBit Reg.LIGHT.SINKCFG.SHRT_ACT n.val = true →
          t.bit Reg.LIGHT.SINKSTAT.PROT_OFF n.val = true ∧ t.bit Reg.LIGHT.SINKSTAT.ON n.val = false))) ∧
    (s.allOff = false → Raises (.sinkOverTemperature n) s Flt.LIGHT.THERM n.val 0 ∧
      (Fresh s Flt.LIGHT.THERM n.val → Ends (.sinkOverTemperature n) s fun t => t.eff = s.eff ∧
        t.bit Reg.LIGHT.SINKSTAT.TLATCH n.val = true ∧ t.bit Reg.LIGHT.SINKSTAT.PROT_OFF n.val = true ∧
        t.bit Reg.LIGHT.SINKSTAT.ON n.val = false)) ∧
    (∀ by_, Forced s by_ → Raises (.lightForceLeak by_ n) s Flt.LIGHT.LEAK (sinkStage n.val) 1 ∧
      Raises (.lightForceTherm by_ n) s Flt.LIGHT.THERM n.val 0 ∧ Raises (.lightForceShort by_ n) s Flt.LIGHT.SHORT n.val 0 ∧
      Raises (.lightForceOpen by_ n) s Flt.LIGHT.OPEN n.val 0)) ∧
  (∀ (s : State) (g : Fin 4) (trip : StageTrip), Live s →
    (if trip = .thermal then s.allOff = false
      else s.bit Reg.LIGHT.STAGESTAT.RUN g.val = true ∧ (trip = .short → s.bit Reg.LIGHT.STAGESTAT.READY g.val = true)) →
    let src := if trip = .leak then Flt.LIGHT.LEAK else Flt.LIGHT.STAGE
    Raises (.stageProtection g trip) s src g.val (if trip = .leak then 1 else 0) ∧
    (Fresh s src g.val → Ends (.stageProtection g trip) s fun t => t.eff = s.eff ∧
      t.bit Reg.LIGHT.STAGESTAT.PROT_OFF g.val = true ∧ t.bit Reg.LIGHT.STAGESTAT.RUN g.val = false ∧
      (trip = .thermal → t.bit Reg.LIGHT.STAGESTAT.TLATCH g.val = true))) ∧
  (∀ (s : State), Live s →
    (s.bit Reg.LIGHT.MXSTAT.FRAME_BUSY 0 = true ∨ s.bit Reg.LIGHT.MXSTAT.LINE_BUSY 0 = true →
      (∀ c, Raises (.matrixDiag (.column c)) s Flt.LIGHT.MXCOL c.val 0) ∧ (∀ l, Raises (.matrixDiag (.line l)) s Flt.LIGHT.MXLINE l.val 0)) ∧
    (matrixRail s = true → Ends (.matrixDiag .rail) s fun t =>
      t.bit Reg.LIGHT.MXSTAT.PROT_OFF 0 = true ∧ t.bit Reg.LIGHT.MXSTAT.RAIL_OK 0 = false))) ∧
  ((∀ (s : State) (n : Fin 32), s.effBit Reg.LIGHT.SINKCTRL.REARM n.val = true → s.bit Reg.LIGHT.SINKSTAT.TLATCH n.val = false →
    Ends (.sinkRearm n) s fun t => t.bit Reg.LIGHT.SINKSTAT.PROT_OFF n.val = false ∧ t.bit Reg.LIGHT.SINKSTAT.EXCLUDED n.val = false ∧
      t.effBit Reg.LIGHT.SINKCTRL.REARM n.val = false) ∧
  (∀ (s : State) (g : Fin 4), s.effBit Reg.LIGHT.STAGECTRL.REARM g.val = true → s.bit Reg.LIGHT.STAGESTAT.TLATCH g.val = false → s.raiseQ = [] →
    Ends (.stageRearm g) s fun t => t.bit Reg.LIGHT.STAGESTAT.PROT_OFF g.val = false ∧ t.effBit Reg.LIGHT.STAGECTRL.REARM g.val = false) ∧
  (∀ (s : State), s.effBit Reg.LIGHT.MXCTRL.REARM 0 = true →
    Ends .matrixRearm s fun t => t.bit Reg.LIGHT.MXSTAT.PROT_OFF 0 = false ∧ t.effBit Reg.LIGHT.MXCTRL.REARM 0 = false) ∧
  (∀ (s : State) (n : Fin 32) (hr vout : Nat), s.bit Reg.LIGHT.STAGESTAT.RUN (sinkStage n.val) = true → sinkAsked s n.val ≠ 0 →
    Ends (.headroomMeasure n hr vout) s fun t => (t.sink n.val).vf = some (vout - hr) ∧
      t.fld Reg.LIGHT.SINKMEAS.HR n.val = min (hr / 10) 0xFFF ∧ t.bit Reg.LIGHT.SINKMEAS.VALID n.val = true ∧
      t.bit Reg.LIGHT.SINKSTAT.DROPOUT n.val = decide (hr + 200 < stageHR s (sinkStage n.val))) ∧
  (∀ (s : State) (g : Fin 4) (vout : Nat), s.bit Reg.LIGHT.STAGESTAT.RUN g.val = true →
    Ends (.setpointStep g vout) s fun t =>
      let p := (s.stage g.val).setp; let q := (t.stage g.val).setp; let v := stageTarget s g.val
      (t.stage g.val).target = v ∧ q ≤ p + 50 ∧ p ≤ q + 50 ∧ (p ≤ v → p ≤ q ∧ q ≤ v) ∧ (v ≤ p → v ≤ q ∧ q ≤ p)) ∧
  (∀ (s : State) (g : Fin 4) (vout : Nat), s.bit Reg.LIGHT.STAGESTAT.RUN g.val = true → stageTarget s g.val ≤ vout + 500 →
    vout ≤ stageTarget s g.val + 500 → Ends (.stageReady g vout) s fun t => t.bit Reg.LIGHT.STAGESTAT.READY g.val = true) ∧
  (∀ (s : State) (n : Fin 32) (irms : Nat) (ref : Int), s.dom.pwr.getLsbD (sinkDie n.val) = true → Live s → Fresh s Flt.LIGHT.LEDHOT n.val →
    Ends (.ledModelUpdate n irms ref) s fun t => (t.sink n.val).rise = ledRise s n.val 100000 irms ∧
      (sinkSource s n.val = none → t.fld Reg.LIGHT.LEDTH.THETA n.val = unsigned 16 (ref - -(ledRise s n.val 100000 irms) / 2 ^ 32))) ∧
  (∀ (s : State), s.bit Reg.LIGHT.MXSTAT.FRAME_BUSY 0 = true → Ends .matrixFrameEnd s fun t =>
    t.bit Reg.LIGHT.MXSTAT.FRAME_BUSY 0 = false ∧ t.fld Reg.LIGHT.MXSTAT.FRAMES 0 = (s.fld Reg.LIGHT.MXSTAT.FRAMES 0 + 1) % 2 ^ 16 ∧
    s.matrix.start + 12 * (mxBlank s + mxOn s) ≤ t.now) ∧
  (∀ (s : State), (s.bit Reg.LIGHT.MXSTAT.HOLDOVER 0 = true ∨ (s.bit Reg.LIGHT.MXSTAT.SAFE 0 = true ∧ s.effBit Reg.LIGHT.MXRAIL.SAFE 0 = true)) →
    matrixRail s = true → mxBusy s = false → s.matrix.starts ≠ [] → Ends .matrixHoldoverFrame s fun t =>
      t.bit Reg.LIGHT.MXSTAT.FRAME_BUSY 0 = true ∧ t.matrix.start = max s.now (s.matrix.starts.getLastD 0 + mxInterval s)))

/-- R147, R164, R174, R214, R252, R275, R282, R480: what happens to an output of any block. -/
def Obligations.OutputEventsAct : Prop :=
  (∀ (s : State) (n : Fin 96), Calm s → lswPulsed s n.val = true → Ends (.pulseGroupPhasePoint (.lsw n) true) s fun t =>
    (t.lswCh n.val).win = (decide (lswMinWindow n.val ≤ lswWindow s n.val) && s.effBit Reg.LSW.CTRL.EN n.val)) ∧
  (∀ (s : State) (n : Fin 32), sinkDimmed s n.val = true → Ends (.pulseGroupPhasePoint (.sink n) true) s fun t =>
    (t.sink n.val).win = decide (200 ≤ sinkWindow s n.val)) ∧
  (∀ (s : State) (n : Fin 96) (h : Nat), Calm s → (s.lswCh n.val).holdFrom = some h → Ends (.holdoverExpiry (.lsw n)) s fun t =>
    t.bit Reg.LSW.STAT.SAFE n.val = true ∧ t.bit Reg.LSW.STAT.HOLDOVER n.val = false ∧ t.bit Reg.LSW.STAT.EV_HOLDEXP n.val = true ∧
    h + min (s.effFld Reg.LSW.HOLD.HOLD n.val) 2000 * 100000 ≤ t.now) ∧
  (∀ (s : State) (n : Fin 32) (h : Nat), (s.sink n.val).holdFrom = some h → Ends (.holdoverExpiry (.sink n)) s fun t =>
    t.bit Reg.LIGHT.SINKSTAT.SAFE n.val = true ∧ t.bit Reg.LIGHT.SINKSTAT.HOLDOVER n.val = false ∧
    t.bit Reg.LIGHT.SINKSTAT.EV_HOLDEXP n.val = true) ∧
  (∀ (s : State) (h : Nat), s.matrix.holdFrom = some h → Ends (.holdoverExpiry .matrix) s fun t =>
    t.bit Reg.LIGHT.MXSTAT.SAFE 0 = true ∧ t.bit Reg.LIGHT.MXSTAT.HOLDOVER 0 = false ∧ t.bit Reg.LIGHT.MXSTAT.EV_HOLDEXP 0 = true) ∧
  (∀ (s : State) (n : Fin 96), Calm s → Ends (.thermalLatchClear (.lsw n)) s fun t => t.bit Reg.LSW.STAT.TLATCH n.val = false) ∧
  (∀ (s : State) (n : Fin 16), Ends (.thermalLatchClear (.hbr n)) s fun t => t.bit Reg.HBR.STAT.TLATCH n.val = false ∧
    t.bit Reg.HBR.STAT.PROT_OFF n.val = s.bit Reg.HBR.STAT.PROT_OFF n.val) ∧
  (∀ (s : State) (n : Fin 24), Ends (.thermalLatchClear (.vd n)) s fun t => t.bit Reg.VALVE.STAT.TLATCH n.val = false ∧
    t.bit Reg.VALVE.PSTAT.PROT_OFF n.val = s.bit Reg.VALVE.PSTAT.PROT_OFF n.val) ∧
  (∀ (s : State) (n : Fin 16), Live s → Raises (.gateDriverFault (.hbr n)) s Flt.HBR.GATE n.val 1 ∧
    (Fresh s Flt.HBR.GATE n.val → Ends (.gateDriverFault (.hbr n)) s fun t => (t.hbCh n.val).out = true ∧
      t.fld Reg.HBR.STAT.APPLIED n.val = 0)) ∧
  (∀ (s : State) (n : Fin 24), Live s → Raises (.gateDriverFault (.vd n)) s Flt.VALVE.GATE n.val 1) ∧
  (∀ (s : State) (b : Fin 4), Live s → Raises (.gateDriverFault (.vb b)) s Flt.VALVE.GATE b.val 1) ∧
  (∀ (s : State) (g : Fin 4), Live s → Raises (.gateDriverFault (.stage g)) s Flt.LIGHT.GATE g.val 1) ∧
  (∀ (s : State) (input : Fin 2) (above : Bool), Ends (.loadDump input above) s fun t =>
    ∀ i, i < 2 → t.loadDump.getLsbD i = if i = input.val then above else s.loadDump.getLsbD i) ∧
  (∀ (s : State) (die : Fin 4) (under : Bool), Calm s → Ends (.supplyUndervoltage die under) s fun t =>
    (∀ i, i < 4 → t.dom.uv.getLsbD i = if i = die.val then under else s.dom.uv.getLsbD i) ∧
    (∀ n, n < 96 → lswDie n = die.val → t.bit Reg.LSW.STAT.UV n = under) ∧
    (∀ n, n < 16 → hbDie n = die.val → t.bit Reg.HBR.STAT.UV n = under) ∧
    (∀ g, g < 4 → stageDie g = die.val → t.bit Reg.LIGHT.STAGESTAT.UV g = under))

/-- R289 to R291: a carry writes the time-base word to the side areas; a slow-base ratio within 2 % is taken and any other raises
FLT_TIME_SLOWBASE; while a plan runs a grandmaster time within 10 µs locks the rate and a farther one raises FLT_TIME_SYNCLOST;
with no plan running a later time steps the base and an earlier one raises FLT_TIME_STEPBACK.
R295 to R301: an armed compare channel fires at its value, disarms, or moves its value on by its period modulo 2^64; counters
step in their mode; UDCSTART sets RUN of the counters named; a capture unit keeps the counts of its edges and the times between. -/
def Obligations.TimeBaseAndTimersCount : Prop :=
  ((∀ (s : State), timeRuns s = true → Ends .timeBaseCarry s fun t =>
    t.timers.timeWord = some (t.now / 2 ^ 32) ∧ t.regs = s.regs ∧
    (s.timers.timeWord = some (s.now / 2 ^ 32) → t.now = (s.now / 2 ^ 32 + 1) * 2 ^ 32)) ∧
  (∀ (s : State) (ratio : Nat), timeRuns s = true →
    (slowNominal * 98 ≤ ratio * 100 → ratio * 100 ≤ slowNominal * 102 → Ends (.slowratioMeasure ratio) s fun t =>
      t.fld Reg.TIME.SLOWRATIO.VALUE 0 = ratio ∧ t.flags = s.flags) ∧
    (Live s → ratio * 100 < slowNominal * 98 ∨ slowNominal * 102 < ratio * 100 →
      Raises (.slowratioMeasure ratio) s Flt.TIME.SLOWBASE noUnit 0)) ∧
  (∀ (s : State) (port : Fin 3) (pdelay ns : Nat), s.effBit Reg.NET.GPTP.EN 0 = true → s.effFld Reg.NET.GPTP.PORT 0 = port.val →
    pdelay ≤ s.effFld Reg.NET.GPTP.PDMAX 0 → s.dom.net = true → s.dom.logic = true →
    (s.planRuns = true → ((ns / 10 : Nat) : Int) - s.now ≤ 1000 → (s.now : Int) - (ns / 10 : Nat) ≤ 1000 →
      Ends (.syncMessage port pdelay ns) s fun t => t.bit Reg.TIME.SYNC.LOCK 0 = true ∧ t.now = s.now ∧ t.flags = s.flags ∧
        t.fld Reg.TIME.SYNCOFS.OFS 0 = unsigned 32 (((ns / 10 : Nat) : Int) - s.now)) ∧
    (s.planRuns = true → Live s → 1000 < ((((ns / 10 : Nat) : Int) - s.now).natAbs) →
      Raises (.syncMessage port pdelay ns) s Flt.TIME.SYNCLOST noUnit 0) ∧
    (s.seqState = seqNoPlan ∨ s.seqState = seqArmed → s.now < ns / 10 → Ends (.syncMessage port pdelay ns) s fun t =>
      t.now = ns / 10 ∧ t.bit Reg.TIME.SYNC.STEPPED 0 = true) ∧
    (s.seqState = seqNoPlan ∨ s.seqState = seqArmed → Live s → ns / 10 < s.now → Ends (.syncMessage port pdelay ns) s fun t =>
      Flagged t Flt.TIME.STEPBACK noUnit 0 ∧ t.now = s.now ∧ t.bit Reg.TIME.SYNC.BEHIND 0 = true))) ∧
  ((∀ (s : State) (n : Fin 48), inValley s = false → s.dom.logic = true → s.bit Reg.TIME.CMP_CTRL.ARM n.val = true →
    Ends (.compareFire n) s fun t =>
      (if n.val < 32 then (t.fld Reg.TIME.CMPEV0.EV 0).testBit n.val else (t.fld Reg.TIME.CMPEV1.EV 0).testBit (n.val - 32)) = true ∧
      (s.fld Reg.TIME.CMP_PER.PERIOD n.val = 0 → t.bit Reg.TIME.CMP_CTRL.ARM n.val = false) ∧
      (s.fld Reg.TIME.CMP_PER.PERIOD n.val ≠ 0 → cmpV t n.val = (cmpV s n.val + s.fld Reg.TIME.CMP_PER.PERIOD n.val) % 2 ^ 64 ∧
        t.bit Reg.TIME.CMP_CTRL.ARM n.val = true) ∧
      (cmpAhead (cmpV s n.val) s.now = true → cmpV s n.val ≤ t.now)) ∧
  (∀ (s : State) (n : Fin 16) (dirHigh : Bool), s.dom.logic = true → s.bit Reg.TIME.UDC_CTRL.RUN n.val = true →
    let mode := s.fld Reg.TIME.UDC_CTRL.MODE n.val
    let c := s.fld Reg.TIME.UDC_COUNT.VALUE n.val
    let top := s.fld Reg.TIME.UDC_TOP.VALUE n.val
    (mode = 1 ∨ (mode = 4 ∧ dirHigh = true) → Ends (.counterStep n dirHigh) s fun t =>
      t.fld Reg.TIME.UDC_COUNT.VALUE n.val = (if c = top then 0 else (c + 1) % 2 ^ 32) ∧
      (c = top → t.bit Reg.TIME.UDC_CTRL.OVF n.val = true)) ∧
    (mode = 2 ∨ (mode = 4 ∧ dirHigh = false) → Ends (.counterStep n dirHigh) s fun t =>
      t.fld Reg.TIME.UDC_COUNT.VALUE n.val = (if c = 0 then top else c - 1) ∧ (c = 0 → t.bit Reg.TIME.UDC_CTRL.OVF n.val = true)) ∧
    (mode = 3 → s.bit Reg.TIME.UDC_CTRL.DIR n.val = false → c < top → Ends (.counterStep n dirHigh) s fun t =>
      t.fld Reg.TIME.UDC_COUNT.VALUE n.val = c + 1) ∧
    (mode = 3 → s.bit Reg.TIME.UDC_CTRL.DIR n.val = false → c = top → 0 < top → Ends (.counterStep n dirHigh) s fun t =>
      t.fld Reg.TIME.UDC_COUNT.VALUE n.val = c - 1 ∧ t.bit Reg.TIME.UDC_CTRL.TURN n.val = true ∧ t.bit Reg.TIME.UDC_CTRL.DIR n.val = true)) ∧
  (∀ (s : State) (b : By) (mask : BitVec 16), Ends (.udcstart b mask) s fun t =>
    ∀ n, n < 16 → t.bit Reg.TIME.UDC_CTRL.RUN n = (s.bit Reg.TIME.UDC_CTRL.RUN n || mask.getLsbD n)) ∧
  (∀ (s : State) (n : Fin 32) (count : Nat), s.dom.logic = true → s.bit Reg.TIME.CAP_CFG.EN n.val = true → s.fld Reg.TIME.CAP_CFG.SRC n.val < 112 →
    let c := smapGet (fun _ => CapCh.init) s.timers.cap n.val
    (Ends (.captureEdge n count true) s fun t =>
      t.fld Reg.TIME.CAP_RISE.VALUE n.val = count % 2 ^ 32 ∧ (smapGet (fun _ => CapCh.init) t.timers.cap n.val).rise = some count ∧
      (∀ r, c.rise = some r → t.fld Reg.TIME.CAP_PERIOD.VALUE n.val = (count - r) % 2 ^ 32 ∧ t.bit Reg.TIME.CAP_STAT.PVALID n.val = true) ∧
      t.fld Reg.TIME.CAP_EDGES.VALUE n.val = (s.fld Reg.TIME.CAP_EDGES.VALUE n.val + 1) % 2 ^ 32 ∧ t.bit Reg.TIME.CAP_STAT.LEVEL n.val = true) ∧
    (Ends (.captureEdge n count false) s fun t =>
      t.fld Reg.TIME.CAP_FALL.VALUE n.val = count % 2 ^ 32 ∧
      (∀ r, c.rise = some r → t.fld Reg.TIME.CAP_HIGH.VALUE n.val = (count - r) % 2 ^ 32 ∧ t.bit Reg.TIME.CAP_STAT.HVALID n.val = true) ∧
      t.fld Reg.TIME.CAP_EDGES.VALUE n.val = (s.fld Reg.TIME.CAP_EDGES.VALUE n.val + 1) % 2 ^ 32 ∧ t.bit Reg.TIME.CAP_STAT.LEVEL n.val = false)))

/-- R302 to R306: a switch input's new level and its change bit are shown; a cleaning pulse ends 5 ms after the closure; in a valley
the second of two polls that differ is a wake; a conversion shows its code, and an open or shorted NTC raises FLT_INPUT_NTC. -/
def Obligations.InputsAreShown : Prop :=
  (∀ (s : State) (n : Fin 64) (level : Bool), inValley s = false → siLevel s n.val = !level → Ends (.siLevelChange n level) s fun t =>
    siLevel t n.val = level ∧ (t.fld Reg.INPUT.SICHG.CHG (n.val / 32)).testBit (n.val % 32) = true ∧
    (∀ m, m < 64 → m ≠ n.val → siLevel t m = siLevel s m)) ∧
  (∀ (s : State) (n : Fin 64), smapGet (fun _ => 0) s.timers.clean n.val ≠ 0 → Ends (.cleaningPulseEnd n) s fun t =>
    smapGet (fun _ => 0) t.timers.clean n.val = 0 ∧ smapGet (fun _ => 0) s.timers.clean n.val - 1 + 500000 ≤ t.now ∧ t.regs = s.regs) ∧
  (∀ (s : State) (n : Fin 64) (level : Bool), inValley s = true → s.bit Reg.INPUT.SICFG.VWAKE n.val = true → siLevel s n.val = !level →
    (n.val ∉ s.timers.polled → Ends (.siValleyPoll n level) s fun t => n.val ∈ t.timers.polled ∧ t.power = s.power) ∧
    (n.val ∈ s.timers.polled → (s.fld Reg.POWER.WAKEEN.EN 0).testBit 6 = true → sleepState s = sleepPassed → s.power.exitAt = none →
      Ends (.siValleyPoll n level) s fun t => n.val ∉ t.timers.polled ∧ t.power.exitAt = some s.now ∧
        (t.fld Reg.POWER.WAKEREASON.REASON 0).testBit 6 = true)) ∧
  (∀ (s : State) (n : Fin 24) (code : BitVec 12), (∃ p ∈ s.timers.conv, p.1 = n.val) →
    (s.fld Reg.INPUT.AICFG.MODE n.val ≠ 1 → Ends (.aiConversionDone n code) s fun t =>
      t.fld Reg.INPUT.AIVAL.CODE n.val = code.toNat ∧ t.bit Reg.INPUT.AIVAL.VALID n.val = true ∧ (∀ p ∈ t.timers.conv, p.1 ≠ n.val)) ∧
    (s.fld Reg.INPUT.AICFG.MODE n.val = 1 → Live s → code.toNat ≤ 15 ∨ 4080 ≤ code.toNat →
      Raises (.aiConversionDone n code) s Flt.INPUT.NTC n.val 0))

/-- R332, R336: a port sends the head of its queue; TS under PLCA sends up to BURST frames more at its transmit opportunity.
R335 to R337, R345: a lost link is shown and raises FLT_NET_LINK; a port that is on takes its link up; the loss of the time-aware
neighbour ends the lock; a PLCA follower without beacon raises FLT_NET_PLCA; bus-off drops the queue, raises FLT_NET_BUSOFF and
is left by AUTOREC or by CAN_RECOVER. -/
def Obligations.PortsFollowTheirBus : Prop :=
  ((∀ (s : State) (port : Fin 11) (x : TxItem) (l : List TxItem), portUp s port.val = true →
    (port.val = 2 → plcaRuns s = false) → txQueue s port.val = x :: l → Ends (.answerTransmit port) s fun t =>
      txQueue t port.val = l ∧ (port.val, x) ∈ t.net.sent ∧ t.regs = s.regs ∧ ∀ q, q ≠ port.val → txQueue t q = txQueue s q) ∧
  (∀ (s : State), portUp s 2 = true → plcaRuns s = true → Ends .transmitOpportunity s fun t =>
    txQueue t 2 = (txQueue s 2).drop (1 + s.effFld Reg.NET.TSCFG.BURST 0) ∧ t.regs = s.regs ∧ (∀ q, q ≠ 2 → txQueue t q = txQueue s q) ∧
    ∀ x, ((txQueue s 2).take (1 + s.effFld Reg.NET.TSCFG.BURST 0)).getLast? = some x → (2, x) ∈ t.net.sent)) ∧
  ((∀ (s : State) (e : Fin 2),
    (s.dom.net = true → s.bit Reg.NET.ETSTAT.LINK e.val = true → Live s → Ends (.linkLoss e) s fun t =>
      t.bit Reg.NET.ETSTAT.LINK e.val = false ∧ Flagged t Flt.NET.LINK (9 + e.val) 0) ∧
    (s.dom.net = true → s.effBit Reg.NET.ETCFG.EN e.val = true → Ends (.linkUp e) s fun t =>
      t.bit Reg.NET.ETSTAT.LINK e.val = true ∧ e.val ∉ t.power.asleep ∧ t.flags = s.flags)) ∧
  (∀ (s : State), s.effBit Reg.NET.GPTP.EN 0 = true → Ends .timeAwareNeighbourLoss s fun t =>
    t.bit Reg.TIME.SYNC.LOCK 0 = false ∧ t.flags = s.flags) ∧
  (∀ (s : State), portUp s 2 = true →
    (plcaRuns s = true → s.effFld Reg.NET.TSCFG.NODEID 0 ≠ 0 → Live s → Ends .plcaLost s fun t =>
      Flagged t Flt.NET.PLCA 8 0 ∧ t.net.plcaLost = true ∧ t.bit Reg.NET.TSSTAT.PLCA_LOST 0 = true ∧ t.bit Reg.NET.TSSTAT.BEACON 0 = false) ∧
    (s.effBit Reg.NET.TSCFG.PLCA 0 = true → Ends .plcaInStep s fun t => t.net.plcaLost = false ∧ t.bit Reg.NET.TSSTAT.BEACON 0 = true)) ∧
  (∀ (s : State) (c : Fin 8),
    (s.dom.net = true → s.fld Reg.NET.CANSTAT.STATE c.val < 2 → Live s → Ends (.canBusOff c) s fun t =>
      t.fld Reg.NET.CANSTAT.STATE c.val = 2 ∧ txQueue t (c.val + 3) = [] ∧ Flagged t Flt.NET.BUSOFF c.val 0) ∧
    (s.effBit Reg.NET.CANCFG.AUTOREC c.val = true → s.fld Reg.NET.CANSTAT.STATE c.val = 2 → Ends (.busOffRecovery c) s fun t =>
      t.fld Reg.NET.CANSTAT.STATE c.val = 0 ∧ t.fld Reg.NET.CANSTAT.TEC c.val = 0 ∧ t.fld Reg.NET.CANSTAT.REC c.val = 0) ∧
    (s.effBit Reg.NET.CANCFG.AUTOREC c.val = false → exec (.busOffRecovery c) s = .next s) ∧
    (∀ b : By, b.priv = true → s.fld Reg.NET.CANSTAT.STATE c.val = 2 → Ends (.canRecover b c) s fun t =>
      t.fld Reg.NET.CANSTAT.STATE c.val = 0 ∧ t.fld Reg.NET.CANSTAT.TEC c.val = 0 ∧ t.fld Reg.NET.CANSTAT.REC c.val = 0)))

/-- R334, R341, R343, R345: a good frame of a port is routed by the first bus receive entry that takes it, cut to the entry's length, and
discarded where none does; a LIN header is answered from the armed entry of its frame id, and one in error raises FLT_NET_LINERR;
solicitations and echo requests for an address of the port are answered. -/
def Obligations.FramesReceivedAreRouted : Prop :=
  (∀ (s : State) (f : BusFrame), f.port.val < 11 → portUp s (busPort f.port.val) = true → f.supported = true → f.intact = true →
    dictIdent s f = false →
    (∀ e, rxEntry s f = some e → Ends (.busFrameReceive f) s fun t =>
      t.net.mbNew = s.net.mbNew ++ [(s.plan.be (e + 12) 2,
        { ident := f.ident.toNat, data := f.data.take (s.plan.be (e + 2) 2), trunc := decide (s.plan.be (e + 2) 2 < f.data.length),
          noresp := false, cksum := false, eof := s.now })] ∧ t.power.ntFrom = none) ∧
    (rxEntry s f = none → Ends (.busFrameReceive f) s fun t => t.net = s.net ∧ t.power = s.power)) ∧
  (∀ (s : State) (l : Fin 12) (fid : BitVec 6), linUp s l.val = true → s.effBit Reg.NET.LINCFG.CMDR l.val = false →
    (Live s → Ends (.linHeaderReceive l fid false) s fun t => Flagged t Flt.NET.LINERR (11 + l.val) 0 ∧ t.net = s.net) ∧
    (∀ k e data, (linPort s l.val).armed = [(k, data)] → s.tableEntry 3 k = some e → s.plan.be (e + 2) 1 = fid.toNat →
      (s.plan.be (e + 1) 1).testBit 0 = true → Ends (.linHeaderReceive l fid true) s fun t =>
        (11 + l.val, TxItem.bus k fid.toNat (s.plan.be (e + 1) 1) [] data) ∈ t.net.sent ∧ (linPort t l.val).armed = [] ∧ t.regs = s.regs)) ∧
  (∀ (s : State) (port : Fin 3) (target source : BitVec 128) (data : List Byte), portUp s port.val = true →
    ownAddr s port.val target.toNat = true → dupKey port.val target.toNat ∉ s.net.dupAddr →
    (Ends (.neighbourSolicitation port target source false) s fun t =>
      txQueue t port.val = txInsert (.advert target.toNat source.toNat) (txQueue s port.val) ∧ t.regs = s.regs) ∧
    (Live s → Ends (.neighbourSolicitation port target source true) s fun t =>
      dupKey port.val target.toNat ∈ t.net.dupAddr ∧ Flagged t Flt.NET.ADDR (portUnit port.val) 0 ∧ t.net.tx = s.net.tx) ∧
    (Ends (.echoRequest port target source data) s fun t =>
      txQueue t port.val = txInsert (.echo source.toNat data) (txQueue s port.val) ∧ t.regs = s.regs))

/-- R326, R330: a READ of an entry that the role may read is answered with its value; a missing entry, a missing right and a wrong type
are answered NO_ENTRY, DENIED and TYPE; another VER or OP UNSUPPORTED; a frame that no client's key covers is counted, never
answered. -/
def Obligations.ReadsAreAnswered : Prop :=
  (∀ (s : State) (f : DictFrame) (role : Nat) (key : List Byte), Authentic s { f with op := 1 } role key →
    (∀ e, entryAt s f.index.toNat f.sub.toNat = some e → rightOf e.rights role % 2 = 1 → f.vtype.toNat = e.type → f.body = [] →
      e.type < 0x0C → e.resp = true → s.seqState ≠ seqHandover → (s.net.resp.filter fun c => s.now < c).length < 32 →
      (entryValue (ntStop s) e role f.sub.toNat).length ≤ maxBody f.form.val →
      Answers (.dictRead f) s { f with op := 1 } key stOk 0 (entryValue (ntStop s) e role f.sub.toNat)) ∧
    (entryAt s f.index.toNat f.sub.toNat = none → Answers (.dictRead f) s { f with op := 1 } key stNoEntry 0 []) ∧
    (∀ e, entryAt s f.index.toNat f.sub.toNat = some e → rightOf e.rights role % 2 = 0 →
      Answers (.dictRead f) s { f with op := 1 } key stDenied 0 []) ∧
    (∀ e, entryAt s f.index.toNat f.sub.toNat = some e → rightOf e.rights role % 2 = 1 → f.vtype.toNat ≠ e.type →
      Answers (.dictRead f) s { f with op := 1 } key stType 0 [])) ∧
  (∀ (s : State) (f : DictFrame) (role : Nat) (key : List Byte), dictUp s = true → frameOk s f = true → clientOk s f = some (role, key) →
    supported f = false → Answers (.unsupportedOperation f) s f key stUnsupported 0 []) ∧
  (∀ (s : State) (f : DictFrame), dictUp s = true → frameOk s { f with op := 1 } = true → clientOk s { f with op := 1 } = none →
    Ends (.dictRead f) s fun t => t.net.tx = s.net.tx ∧
      t.fld Reg.NET.DICTCNT0.AUTHFAIL 0 = min (s.fld Reg.NET.DICTCNT0.AUTHFAIL 0 + 1) (2 ^ Reg.NET.DICTCNT0.AUTHFAIL.len - 1) ∧
      (Live s → smapGet (fun _ => 0) s.net.authAt f.port.val = 0 → Flagged t Flt.NET.AUTHFAIL (portUnit f.port.val) 0))

/-- R313, R326, R355: a WRITE or INVOKE that passes its checks waits for acceptance with the bits its role can write; while the journal
takes no command it is answered BUSY; a client sequence taken before is answered with its SEQ, and one far behind STALE.
R21, R353 to R355: acceptance writes the command that waits first to the journal, gives it the next SEQ, notes its client sequence
and answers OK with the SEQ; a command whose sequence was taken meanwhile is answered as a duplicate. -/
def Obligations.CommandsAreAccepted : Prop :=
  (∀ (s : State) (f : DictFrame) (role : Nat) (key : List Byte) (w : Bool), let op : Byte := if w then 2 else 3
    let i : Instr := if w then .dictWrite f else .dictInvoke f
    Authentic s { f with op := op } role key →
    (∀ e, judgeSeq s f.client.toNat f.cseq.toNat = .new → entryAt s f.index.toNat f.sub.toNat = some e →
      rightOf e.rights role / 2 % 2 = 1 → f.vtype.toNat = e.type → e.type ≠ 0x0D → f.body.length = e.len →
      (w = true → e.type ≠ 0x0C ∧ valueBad e f.body = false ∧ (writeMask e role f.body).any (· != 0) = true) → (w = false → e.type = 0x0C) →
      (s.manifest f.index.toNat f.sub.toNat).isSome = true →
      (journalBusy s = false → Ends i s fun t =>
        t.net.waiting = waitInsert {
          frame := { f with op := op }, key := key, role := role, vtype := f.vtype.toNat,
          value := if w then writeMask e role f.body else f.body, verified := s.now } s.net.waiting ∧
        t.net.tx = s.net.tx ∧ t.journal = s.journal) ∧
      (journalBusy s = true → Answers i s { f with op := op } key stBusy 0 [])) ∧
    (∀ q, judgeSeq s f.client.toNat f.cseq.toNat = .dup q → Answers i s { f with op := op } key stOk flDup (beBytes q 8)) ∧
    (judgeSeq s f.client.toNat f.cseq.toNat = .stale → Answers i s { f with op := op } key stStale 0 [])) ∧
  (∀ (s : State) (w : Waiting) (rest : List Waiting), s.net.waiting = w :: rest →
    (judgeSeq s w.frame.client.toNat w.frame.cseq.toNat = .new → w.frame.index.toNat ≠ 0x1001 →
      s.journal.failNext = 0 → s.bit Reg.JOURNAL.STATUS.BANK0_OK 0 = true →
      s.journal.wr + (48 + w.value.length + 63) / 64 ≤ bankUnits → ringUsed s + (48 + w.value.length + 63) / 64 ≤ bankUnits →
      Ends (.commandAcceptance 0) s fun t =>
        (∃ e, t.journal.ring = s.journal.ring ++ [(s.journal.wr, .entry e)] ∧ e.seq = s.journal.nextSeq ∧ e.accept = s.now ∧
          e.client = w.frame.client.toNat ∧ e.cseq = w.frame.cseq.toNat ∧ e.index = w.frame.index.toNat ∧ e.sub = w.frame.sub.toNat ∧
          e.value = w.value) ∧
        t.journal.nextSeq = s.journal.nextSeq + 1 ∧ t.net.waiting = rest ∧
        windowAt t w.frame.client.toNat w.frame.cseq.toNat = s.journal.nextSeq ∧
        Answered s t w.frame w.key stOk 0 (beBytes s.journal.nextSeq 8)) ∧
    (∀ q, judgeSeq s w.frame.client.toNat w.frame.cseq.toNat = .dup q → Ends (.commandAcceptance 0) s fun t =>
      t.journal = s.journal ∧ t.net.waiting = rest ∧ Answered s t w.frame w.key stOk flDup (beBytes q 8)))

/-- R317, R323, R324, R365: DESCRIBE, BLOB_READ and the journal queries are answered in the plains, and SLOW when expedited. -/
def Obligations.PlainsServeQueries : Prop :=
  (∀ (s : State) (f : DictFrame) (role : Nat) (key : List Byte) (e : Entry), f.flags.getLsbD 1 = false →
    entryAt s f.index.toNat f.sub.toNat = some e → f.vtype.toNat = e.type →
    (Authentic s { f with op := 4 } role key → rightOf e.rights role ≠ 0 → f.body = [] →
      Answers (.dictDescribe f) s { f with op := 4 } key stOk flPlains
        (beBytes e.type 1 ++ beBytes e.rights 1 ++ beBytes e.persist 1 ++ beBytes (entryClass s f.index.toNat f.sub.toNat) 1 ++
          beBytes (if e.resp then 1 else 0) 1 ++ [0] ++ beBytes e.len 2 ++ beBytes (if e.kind = .blob then blobLen s f.index.toNat else 0) 4)) ∧
    (Authentic s { f with op := 5 } role key → rightOf e.rights role % 2 = 1 → e.type = 0x0D → f.body.length = 6 →
      beAt f.body 0 4 + beAt f.body 4 2 ≤ blobLen s f.index.toNat → beAt f.body 4 2 ≤ maxBody f.form.val →
      Answers (.dictBlobRead f) s { f with op := 5 } key stOk flPlains
        ((upTo (beAt f.body 4 2)).map fun k => Config.blobByte f.index.toNat s.now (beAt f.body 0 4 + k)))) ∧
  (∀ (s : State) (f : DictFrame) (role : Nat) (key : List Byte), f.flags.getLsbD 1 = true →
    ∀ r ∈ ([(.jStatus f, 0x10), (.jByCseq f, 0x11), (.jRead f, 0x12), (.jScan f, 0x13), (.jStarts f, 0x14)] : List (Instr × Byte)),
      Authentic s { f with op := r.2 } role key → Answers r.1 s { f with op := r.2 } key stSlow 0 []) ∧
  (∀ (s : State) (f : DictFrame) (role : Nat) (key : List Byte), f.flags.getLsbD 1 = false → f.form.val ≠ 2 →
    (Authentic s { f with op := 0x10 } role key → f.body = [] → ∃ rest : List Byte, rest.length = 14 ∧
      Answers (.jStatus f) s { f with op := 0x10 } key stOk flPlains
        (beBytes (oldestHeld s) 8 ++ beBytes (firstSeq (s.journal.ring.map Prod.snd)) 8 ++ beBytes s.journal.nextSeq 8 ++
          beBytes s.journal.lastCommit 8 ++ beBytes (jFill s) 2 ++ rest)) ∧
    (∀ h, Authentic s { f with op := 0x11 } role key → f.body.length = 4 → smapGet (fun _ => none) s.journal.highest f.client.toNat = some h →
      -4095 ≤ seqGap (beAt f.body 0 4) h → seqGap (beAt f.body 0 4) h ≤ 0 →
      Answers (.jByCseq f) s { f with op := 0x11 } key stOk flPlains (beBytes h 4 ++ beBytes (windowAt s f.client.toNat (beAt f.body 0 4)) 8)) ∧
    (Authentic s { f with op := 0x12 } role key → f.body.length = 9 →
      (entryOf s (beAt f.body 0 8) = none → Answers (.jRead f) s { f with op := 0x12 } key stNoEntry flPlains []) ∧
      (∀ e, entryOf s (beAt f.body 0 8) = some e → role = 3 ∨ e.client = f.client.toNat → outcomesOf s (beAt f.body 0 8) = [] →
        beAt f.body 8 1 = 0 → Answers (.jRead f) s { f with op := 0x12 } key stOk flPlains (recHead (.entry e)))) ∧
    (Authentic s { f with op := 0x13 } role key → f.body.length = 10 → 1 ≤ beAt f.body 8 2 → beAt f.body 8 2 ≤ 64 →
      oldestHeld s ≤ beAt f.body 0 8 →
      let es := (((jRecords s).filterMap JRec.entry?).filter fun e =>
        beAt f.body 0 8 ≤ e.seq && (role == 3 || e.client == f.client.toNat)).take (min (beAt f.body 8 2) ((maxBody f.form.val - 2) / 24))
      Answers (.jScan f) s { f with op := 0x13 } key stOk flPlains (beBytes es.length 2 ++ (es.map (summary s)).flatten)) ∧
    (Authentic s { f with op := 0x14 } role key → f.body = [] → ∃ ms : List JStart, ms.length ≤ 8 ∧
      (∃ l, (jRecords s).filterMap JRec.start? = l ++ ms) ∧
      Answers (.jStarts f) s { f with op := 0x14 } key stOk flPlains
        (beBytes ms.length 2 ++ (ms.map fun m => recHead (.start m)).flatten)))

/-- R316, R352, R358, R361, R366, R367: a post of a snapshot's SEQ by a scheduled block is queued, any other is rejected with
FLT_JOURNAL_OUTPORT; the oldest post is written at the write pointer of the ring; a write that fails in both banks raises
FLT_JOURNAL_WRITE; a full ring raises FLT_JOURNAL_FULL; a chunk of up to 64 KiB is drained into the archive; an applied write of a
PERSISTENT entry is stored with its SEQ. R359: a snapshot and a barrier command of the col in force are settled APPLIED with their data;
a staged reset is settled APPLIED, then a controller reset begins. -/
def Obligations.JournalSettlesAndDrains : Prop :=
  (∀ (s : State) (b : By) (outcome reason : Byte) (bind : BitVec 16), b.priv = true →
    let q := s.pair Reg.JOURNAL.OUT_SEQ_LO.SEQ Reg.JOURNAL.OUT_SEQ_HI.SEQ b.lane.val
    (b.plain = false → outcome.toNat ∈ [1, 2, 3, 6] → q ∈ s.journal.snap → isSettled s q = false → q ∉ s.journal.postedNow →
      (s.journal.posts.filter fun p => !p.own).length < 256 → Ends (.outPost b outcome reason bind) s fun t =>
        (∃ p, t.journal.posts = s.journal.posts ++ [p] ∧ p.seq = q ∧ p.outcome = outcome.toNat ∧ p.reason = reason.toNat ∧
          p.bind = (if outcome.toNat = 2 ∨ outcome.toNat = 3 then bind.toNat else 0xFFFF) ∧ p.col = s.colNum + 1 ∧ p.own = false) ∧
        q ∈ t.journal.postedNow ∧ t.journal.ring = s.journal.ring) ∧
    (Live s → (b.plain = true ∨ outcome.toNat ∉ [1, 2, 3, 6] ∨ q ∉ s.journal.snap) → Ends (.outPost b outcome reason bind) s fun t =>
        Flagged t Flt.JOURNAL.OUTPORT noUnit 0 ∧ t.journal = s.journal)) ∧
  (∀ (s : State) (fail : BitVec 2) (p : JPost) (rest : List JPost), s.journal.posts = p :: rest → isSettled s p.seq = false →
    let u := (48 + p.data.length + 63) / 64
    (fail = 0 → s.journal.failNext = 0 → s.bit Reg.JOURNAL.STATUS.BANK0_OK 0 = true → s.journal.wr + u ≤ bankUnits → ringUsed s + u ≤ bankUnits →
      Ends (.outcomeJournaled fail) s fun t =>
        ∃ o, t.journal.ring = s.journal.ring ++ [(s.journal.wr, .outcome o)] ∧ o.seq = p.seq ∧ o.outcome = p.outcome ∧ o.col = p.col ∧
          o.data = p.data ∧ o.void = false ∧ t.journal.posts = rest ∧ t.journal.wr = (s.journal.wr + u) % bankUnits) ∧
    (Live s → fail = 3 → s.journal.wr + u ≤ bankUnits → ringUsed s + u ≤ bankUnits →
      Ends (.outcomeJournaled fail) s fun t => Flagged t Flt.JOURNAL.WRITE noUnit 2 ∧ t.journal.ring = s.journal.ring) ∧
    (Live s → s.bit Reg.JOURNAL.STATUS.FULL 0 = false → s.journal.wr + u ≤ bankUnits → bankUnits < ringUsed s + u →
      Ends (.outcomeJournaled fail) s fun t => Flagged t Flt.JOURNAL.FULL noUnit 2 ∧ t.journal.ring = s.journal.ring)) ∧
  (∀ (s : State), s.bit Reg.JOURNAL.STATUS.ARCH_DOWN 0 = false → Live s →
    (let todo := s.journal.ring.drop s.journal.archived
     let n := chunkCount 1024 todo
     ((s.journal.archive ++ (todo.take n).map Prod.snd).map JRec.units).sum ≤ archiveUnits →
      Ends (.drainChunk 0) s fun t => t.journal.archive = s.journal.archive ++ (todo.take n).map Prod.snd ∧
        ((todo.take n).map fun p => p.2.units).sum ≤ 1024 ∧ t.flags = s.flags) ∧
    (Ends (.drainChunk 3) s fun t => Flagged t Flt.JOURNAL.ARCHIVE noUnit 0 ∧ t.journal.archive = s.journal.archive)) ∧
  (∀ (s : State) (o : JOutcome) (e : JEntry), s.storeHot = false → s.collectorUp = true →
    (s.journal.ring.findSome? fun p => p.2.outcome?.filter fun o => !jPasses s (.outcome o)) = some o → entryOf s o.seq = some e →
    Ends .persistentStore s fun t => smapGet (fun _ => (0, [])) t.net.values (e.index * 256 + e.sub) = (e.seq, e.value) ∧
      o.seq ∈ t.journal.stored ∧ t.net.clients = s.net.clients) ∧
  (∀ (s : State) (b : By), Forced s b →
    (Ends (.journalForceBank0 b) s fun t => t.journal.failNext.getLsbD 0 = true ∧ t.journal.ring = s.journal.ring) ∧
    (Ends (.journalForceBank1 b) s fun t => t.journal.failNext.getLsbD 1 = true ∧ t.journal.ring = s.journal.ring)) ∧
  (∀ (s : State) (e : JEntry), s.planRuns = true → isSettled s e.seq = false → (∀ p ∈ s.journal.posts, p.seq ≠ e.seq) →
    (namedFor s 0 s.colNum = [e] → Ends .namedColSnapshot s fun t => ∃ p, t.journal.posts = s.journal.posts ++ [p] ∧ p.seq = e.seq ∧
      p.outcome = 1 ∧ p.col = s.colNum ∧ p.data = snapshotData s) ∧
    (namedFor s 1 s.colNum = [e] → Ends .barrierReport s fun t => ∃ p, t.journal.posts = s.journal.posts ++ [p] ∧ p.seq = e.seq ∧
      p.outcome = 1 ∧ p.col = s.colNum ∧ p.data = barrierData s) ∧
    (namedFor s 2 s.colNum = [e] → s.dom.logic = true → s.journal.failNext = 0 → s.bit Reg.JOURNAL.STATUS.BANK0_OK 0 = true →
      s.journal.wr + 1 ≤ bankUnits → ringUsed s + 1 ≤ bankUnits → Ends .stagedControllerReset s fun t => t.boot = 2 ∧
        ∃ o, t.journal.ring = s.journal.ring ++ [(s.journal.wr, .outcome o)] ∧ o.seq = e.seq ∧ o.outcome = 1 ∧ o.col = s.colNum))

/-- R374, R376: a sleep is armed when its watershed col lies at least two cols ahead, no wake reason stands, the journal is settled,
no handover is armed and a plan runs; else REFUSE gives the first condition that fails. The watershed col passes an armed sleep.
R378 to R380, R386: the descent stops the passes when every lane in service waits, or is forced at its col with
FLT_POWER_DESCENT; the parking col switches every load switch off and releases every reservation; valley entry takes the logic
and power dies off; the exit brings the domains back and ends the sleep. -/
def Obligations.SleepReachesTheValley : Prop :=
  ((∀ (s : State) (b : By), b.priv = true →
    (s.colNum + 2 ≤ wsCol s → s.fld Reg.POWER.WAKEREASON.REASON 0 = 0 → unsettled s = [] → s.bit Reg.TICK.STATUS.HO_ARMED 0 = false →
      s.seqState = seqRun ∨ s.seqState = seqNarrows → s.bit Reg.FAULT.STATUS.TERMINAL 0 = false → Ends (.sleepArm b) s fun t =>
        sleepState t = sleepArmed ∧ t.bit Reg.POWER.SLEEPCTL.ARM 0 = true ∧ t.fld Reg.POWER.SLEEPCTL.REFUSE 0 = 0) ∧
    (wsCol s < s.colNum + 2 → Ends (.sleepArm b) s fun t => sleepState t = sleepState s ∧ t.fld Reg.POWER.SLEEPCTL.REFUSE 0 = 1) ∧
    (s.colNum + 2 ≤ wsCol s → s.fld Reg.POWER.WAKEREASON.REASON 0 ≠ 0 → Ends (.sleepArm b) s fun t =>
      sleepState t = sleepState s ∧ t.fld Reg.POWER.SLEEPCTL.REFUSE 0 = 2) ∧
    (s.colNum + 2 ≤ wsCol s → s.fld Reg.POWER.WAKEREASON.REASON 0 = 0 → unsettled s ≠ [] → Ends (.sleepArm b) s fun t =>
      sleepState t = sleepState s ∧ t.fld Reg.POWER.SLEEPCTL.REFUSE 0 = 3)) ∧
  (∀ (s : State), sleepState s = sleepArmed → wsCol s ≤ s.colNum → s.planRuns = true → Ends .watershed s fun t =>
    sleepState t = sleepPassed ∧ t.power.descent = .waiting ∧ t.power.wsAt = s.colCount ∧ t.journal.watershed = some s.colCount)) ∧
  ((∀ (s : State), s.power.descent = .waiting → 2 ≤ pwrMode s → (∀ n, n < 4 → (s.lane n).inService = true → (s.lane n).waiting = true) →
    Ends .descentStart s fun t => t.power.descent = .stopped ∧ t.power.target = pwrMode s ∧ t.power.stopAt = s.now ∧ t.regs = s.regs) ∧
  (∀ (s : State), s.power.descent = .waiting → wsCol s + max (s.fld Reg.POWER.DESCENT.COLS 0) 2 ≤ s.colNum → Live s →
    Raises .forcedEntry s Flt.POWER.DESCENT noUnit 0 ∧
    (Fresh s Flt.POWER.DESCENT noUnit → Ends .forcedEntry s fun t => t.power.descent = .stopped ∧ t.bit Reg.POWER.STATUS.FORCED 0 = true)) ∧
  (∀ (s : State), s.power.descent = .stopped → s.power.stopAt < s.colCount → Calm s → s.bit Reg.TICK.STATUS.HO_ARMED 0 = false →
    Ends .parkingCol s fun t => t.parked = true ∧ t.power.descent = .parked ∧ t.power.parkAt = s.colCount ∧
      (∀ c, c < 120 → t.fld Reg.LEDGER.RESV.RESV c = 0) ∧ (∀ n, n < 96 → t.bit Reg.LSW.STAT.ON n = false)) ∧
  (∀ (s : State) (port : Fin 2), port.val ∈ s.power.tc10 →
    (Ends (.tc10SleepHandshake port) s fun t => port.val ∉ t.power.tc10 ∧ port.val ∈ t.power.asleep ∧ t.regs = s.regs) ∧
    (Ends (.tc10Timeout port) s fun t => port.val ∉ t.power.tc10 ∧ t.bit Reg.NET.ETSTAT.LINK port.val = false)) ∧
  (∀ (s : State), s.power.descent = .parked → Ends .valleyEntryComplete s fun t =>
    t.power.descent = .valley ∧ t.dom.logic = false ∧ t.dom.net = (s.power.target != 3) ∧ t.dom.pwr = 0 ∧ t.collectorUp = false ∧
    s.power.parkAt + (if s.power.target = 3 then 3000 else 2000) ≤ t.now) ∧
  (∀ (s : State) (x : Nat), s.power.descent = .valley → s.power.exitAt = some x → Ends .valleyExit s fun t =>
    t.power.descent = .none ∧ t.dom.logic = true ∧ t.dom.net = true ∧ sleepState t = sleepIdle ∧
    t.boot = (if s.power.target = 3 then 4 else 3) ∧ t.fld Reg.POWER.STATUS.LAST 0 = s.power.target % 4 ∧
    t.fld Reg.POWER.COUNT.WAKES 0 = min (s.fld Reg.POWER.COUNT.WAKES 0 + 1) (2 ^ Reg.POWER.COUNT.WAKES.len - 1)))

/-- R381 to R385, R375: every wake source sets its reason bit and aborts a sleep that is only armed.
R372, R381, R388, R389, R393: the Z96's own WAKE pulse; a stuck line; the no-traffic and maximum-awake timers raise their source
and arm a sleep two cols ahead; KEEP stops the one and restarts the other; a fault of the lane supply is of class F2. -/
def Obligations.WakeSourcesAndAwakeTimers : Prop :=
  (∀ (s : State),
    (s.power.stuck = false → s.power.ignoreTo ≤ s.now → s.power.drive = false → WakeOn s 0 → Wakes .wakeLinePulse s 0) ∧
    (∀ c : Fin 8, s.bit Reg.NET.CANSWCFG.EN c.val = true → WakeOn s 1 →
      (s.bit Reg.NET.CANSWCFG.WUF_EN c.val = false → Wakes (.canSelectiveWake c .pattern) s 1) ∧
      (∀ ext ident dlc data, s.bit Reg.NET.CANSWCFG.WUF_EN c.val = true → wufMatches s c.val ext ident dlc data = true →
        Wakes (.canSelectiveWake c (.frame ext ident dlc data)) s 1) ∧
      (s.bit Reg.NET.CANSWCFG.WUF_EN c.val = true → 31 ≤ s.fld Reg.NET.CANSWSTAT.FEC c.val → Wakes (.canSelectiveWake c .error) s 1)) ∧
    (∀ e : Fin 3, e.val ≠ 2 → s.effBit Reg.NET.ETCFG.TC10 e.val = true → WakeOn s 2 → Wakes (.ethernetWake e true) s 2) ∧
    (s.effBit Reg.NET.TSCFG.EN 0 = true → asInValley s = false → WakeOn s 3 → Wakes (.ethernetWake 2 false) s 3) ∧
    (∀ l : Fin 12, s.effBit Reg.NET.LINCFG.EN l.val = true → WakeOn s 4 → Wakes (.linWake l) s 4) ∧
    (∀ (a : BitVec 7) (r : Bool), s.bit Reg.POWER.SBSCFG.EN 0 = true → s.fld Reg.POWER.SBSCFG.ADDR 0 = a.toNat → WakeOn s 5 →
      Wakes (.sbsAddress a r) s 5) ∧
    (∀ b : By, b.priv = true → WakeOn s 11 → Wakes (.powerAbort b) s 11)) ∧
  ((∀ (s : State) (b : By), b.priv = true →
    (Ends (.powerPulse b) s fun t => t.power.drive = true ∧ s.now < t.power.ignoreTo ∧ t.regs = s.regs) ∧
    (Ends (.powerKeep b) s fun t => t.power.ntFrom = none ∧ t.bit Reg.POWER.STATUS.NT_RUN 0 = false ∧
      t.power.maFrom = s.power.maFrom.map fun _ => s.now)) ∧
  (∀ (s : State), s.power.drive = true → Ends .wakePulseEnd s fun t => t.power.drive = false ∧ s.power.ignoreTo ≤ t.now) ∧
  (∀ (s : State), Ends .wakeLineRecovery s fun t => t.power.stuck = false ∧ t.regs = s.regs) ∧
  (∀ (s : State), Live s → s.power.stuck = false → Ends .wakeLineStuck s fun t =>
    Flagged t Flt.POWER.WAKELINE noUnit 0 ∧ t.power.stuck = true) ∧
  (∀ (s : State) (f : Nat), Live s → Fresh s Flt.POWER.FALSEWAKE noUnit → s.power.ntFrom = some f → Ends .noTrafficExpiry s fun t =>
    Flagged t Flt.POWER.FALSEWAKE noUnit 0 ∧ t.power.ntFrom = none ∧ sleepState t = sleepArmed ∧ wsCol t = (s.colNum + 2) % 2 ^ 64 ∧
    pwrMode t = s.fld Reg.POWER.STATUS.LAST 0 ∧ f + s.fld Reg.POWER.AWAKECFG.NOTRAFFIC 0 * 100000 ≤ t.now) ∧
  (∀ (s : State) (f : Nat), Live s → Fresh s Flt.POWER.MAXAWAKE noUnit → s.power.maFrom = some f → sleepState s = sleepIdle →
    s.fld Reg.POWER.AWAKECFG.MAXAWAKE 0 ≠ 0 → Ends .maxawakeExpiry s fun t =>
      Flagged t Flt.POWER.MAXAWAKE noUnit 0 ∧ t.bit Reg.POWER.STATUS.MAXAWAKE 0 = true ∧ sleepState t = sleepArmed ∧ pwrMode t = 3) ∧
  (∀ (s : State), Live s → ¬(s.power.supFrom ≤ s.now ∧ s.now < s.power.supTo) → Ends (.laneSupplyFault true) s fun t =>
    Flagged t Flt.POWER.VLANE noUnit 2 ∧ t.vlaneBad = true) ∧
  (∀ (s : State), Ends (.laneSupplyFault false) s fun t => t.vlaneBad = false ∧ t.regs = s.regs) ∧
  (∀ (s : State) (b : By), Live s → Forced s b →
    Raises (.powerForceDescent b) s Flt.POWER.DESCENT noUnit 0 ∧
    (s.power.maFrom.isSome = true → sleepState s = sleepIdle → Raises (.powerForceMaxawake b) s Flt.POWER.MAXAWAKE noUnit 0) ∧
    (s.power.ntFrom.isSome = true → Raises (.powerForceFalsewake b) s Flt.POWER.FALSEWAKE noUnit 0) ∧
    Raises (.powerForceWakeline b) s Flt.POWER.WAKELINE noUnit 0 ∧ Raises (.powerForceVlane b) s Flt.POWER.VLANE noUnit 2))

/-- R398, R400, R406, R408: a frame of an answer slot is judged and its verdict published, a valid one grants, a failing one
counts as a failed attempt; the end of a round publishes its result; an abort ends it at once and raises FLT_ACCESS_ROUND; an
aerial with an event drops out of the round. -/
def Obligations.AccessRoundsJudgeAnswers : Prop :=
  (∀ (s : State) (r : Round) (f : UhfFrame), s.access.round = some r → f.slot.val < 2 ^ r.slotb → Live s →
    Ends (.uhfAnswer f) s fun t =>
      t.fld Reg.ACCESS.ANS_VERD.VERDICT f.slot.val = verdict s r f ∧ t.fld Reg.ACCESS.ANS_ID.ID f.slot.val = beAt f.bytes 1 4 % 2 ^ 32 ∧
      (verdict s r f = vValid → t.access.round = some { r with valid := r.valid ++ [f.slot.val], granted := true } ∧
        t.bit Reg.ACCESS.RESULT.GRANTED 0 = true ∧ t.access.fails = s.access.fails) ∧
      (verdict s r f ∈ [vUnknown, vWrongSlot, vBadTag, vRelay] → t.access.round = some { r with failed := r.failed + 1 } ∧
        t.access.lastFail = some s.now ∧
        t.fld Reg.ACCESS.FAILCNT.FAILS 0 = min (s.fld Reg.ACCESS.FAILCNT.FAILS 0 + 1) 0xFFFF) ∧
      (verdict s r f ∈ [vNoise, vKeyFail, vLocked] → t.access = s.access) ∧
      (verdict s r f = vRelay → Flagged t Flt.ACCESS.RELAY noUnit 0)) ∧
  (∀ (s : State) (r : Round), s.access.round = some r → Ends .roundEnd s fun t =>
    t.access.round = none ∧ r.endAt ≤ t.now ∧ t.bit Reg.ACCESS.STATUS.RUNNING 0 = false ∧ t.bit Reg.ACCESS.STATUS.EV_DONE 0 = true ∧
    t.bit Reg.ACCESS.RESULT.GRANTED 0 = r.granted ∧ t.bit Reg.ACCESS.RESULT.ABORTED 0 = false ∧
    t.fld Reg.ACCESS.RESULT.VALID 0 = r.valid.length % 256 ∧ t.fld Reg.ACCESS.RESULT.FAILED 0 = r.failed % 256 ∧
    (r.valid = [] → t.fld Reg.ACCESS.RESULT.ZONE 0 = 15 ∧ t.fld Reg.ACCESS.RESULT.SLOT 0 = 15 ∧ t.fld Reg.ACCESS.RESTOK.ID 0 = 0) ∧
    (∀ k, r.valid = [k] → k < 16 → t.fld Reg.ACCESS.RESULT.SLOT 0 = k ∧
      t.fld Reg.ACCESS.RESTOK.ID 0 = s.fld Reg.ACCESS.ANS_ID.ID k ∧
      t.fld Reg.ACCESS.RESULT.ZONE 0 = zoneOf s r.zonemask (reports s k))) ∧
  (∀ (s : State) (r : Round) (b : By), s.access.round = some r → b.priv = true → Live s → Ends (.roundAbort b) s fun t =>
    t.access.round = none ∧ t.bit Reg.ACCESS.RESULT.ABORTED 0 = true ∧ t.bit Reg.ACCESS.STATUS.RUNNING 0 = false ∧
    Flagged t Flt.ACCESS.ROUND noUnit 0) ∧
  (∀ (s : State) (a : Fin 6) (ev : AerialEvent), Live s → Raises (.aerialFault a ev) s Flt.ACCESS.AERIAL a.val 0 ∧
    (Fresh s Flt.ACCESS.AERIAL a.val → Ends (.aerialFault a ev) s fun t =>
      t.bit (match ev with | .open' => Reg.ACCESS.AERIAL.EV_OPEN | .short => Reg.ACCESS.AERIAL.EV_SHORT | .thermal => Reg.ACCESS.AERIAL.EV_THERM)
        a.val = true ∧
      (∀ r, s.access.round = some r → t.access.round = some { r with lost := a.val :: r.lost })))

/-- R410, R411, R429: the fifth failed attempt within 60 s starts a lockout of 300 s × 2^L and raises FLT_ACCESS_LOCKOUT; a lockout
ends at its count; the level falls to 0 after the hours of LOCKCLR.
R414, R416: IMMO_CTRL.GO answers 2 with the window closed, 3 without a usable key, and otherwise 1 with the first 8 bytes of the
CMAC of challenge and UNIT_ID; the window closes at its end; a poll listens on the next aerial of POLLMASK; a sound answer of
an enabled token is a wake event. -/
def Obligations.AccessLocksAndPolls : Prop :=
  ((∀ (s : State) (b : By), Live s → Forced s b → lockedOut s = false →
    4 ≤ (s.access.fails.filter fun c => s.now ≤ c + 6000000000).length → Ends (.accessForceFail b) s fun t =>
      Flagged t Flt.ACCESS.LOCKOUT noUnit 0 ∧ t.bit Reg.ACCESS.STATUS.LOCKED 0 = true ∧ t.access.fails = [] ∧
      t.fld Reg.ACCESS.STATUS.LEVEL 0 = min (s.fld Reg.ACCESS.STATUS.LEVEL 0 + 1) 3 ∧
      lockEnd t = (s.now + 30000000000 * 2 ^ s.fld Reg.ACCESS.STATUS.LEVEL 0) % 2 ^ 64) ∧
  (∀ (s : State) (b : By), Forced s b → lockedOut s = false →
    (s.access.fails.filter fun c => s.now ≤ c + 6000000000).length < 4 → Ends (.accessForceFail b) s fun t =>
      t.access.lastFail = some s.now ∧ s.now ∈ t.access.fails ∧ t.flags = s.flags ∧ lockEnd t = lockEnd s) ∧
  (∀ (s : State), lockEnd s ≠ 0 → Ends .lockoutEnd s fun t =>
    lockEnd t = 0 ∧ t.bit Reg.ACCESS.STATUS.LOCKED 0 = false ∧ lockEnd s ≤ t.now) ∧
  (∀ (s : State) (f : Nat), s.access.lastFail = some f → Ends .lockoutLevelClear s fun t =>
    t.fld Reg.ACCESS.STATUS.LEVEL 0 = 0 ∧ f + max (s.fld Reg.ACCESS.LOCKCFG.LOCKCLR 0) 1 * 360000000000 ≤ t.now) ∧
  (∀ (s : State) (b : By), Forced s b →
    (Ends (.accessForceRelay b) s fun t => t.access = { s.access with forceRelay := true } ∧ t.regs = s.regs) ∧
    (Live s → Raises (.accessForceAerial b) s Flt.ACCESS.AERIAL 0 0))) ∧
  ((∀ (s : State) (b : By), b.priv = true →
    ((∀ e, s.access.immoEnd = some e → e ≤ s.now) → Ends (.immoGo b) s fun t => t.fld Reg.ACCESS.IMMO_CTRL.RESULT 0 = 2 ∧
      t.pair Reg.ACCESS.IMMO_RESP_LO.VALUE Reg.ACCESS.IMMO_RESP_HI.VALUE 0 = 0) ∧
    (∀ e, s.access.immoEnd = some e → s.now < e →
      (keyFor s (s.fld Reg.ACCESS.IMMOCFG.SLOT 0) keyImmo = none → Ends (.immoGo b) s fun t => t.fld Reg.ACCESS.IMMO_CTRL.RESULT 0 = 3) ∧
      (∀ k, keyFor s (s.fld Reg.ACCESS.IMMOCFG.SLOT 0) keyImmo = some k → Ends (.immoGo b) s fun t =>
        t.fld Reg.ACCESS.IMMO_CTRL.RESULT 0 = 1 ∧
        t.pair Reg.ACCESS.IMMO_RESP_LO.VALUE Reg.ACCESS.IMMO_RESP_HI.VALUE 0 =
          beNat ((aesCmac k (beBytes (s.pair Reg.ACCESS.IMMO_CHAL_LO.VALUE Reg.ACCESS.IMMO_CHAL_HI.VALUE 0) 8 ++ unitIdBytes)).take 8)))) ∧
  (∀ (s : State) (e : Nat), s.access.immoEnd = some e → Ends .immoWindowExpiry s fun t =>
    t.access.immoEnd = none ∧ t.bit Reg.ACCESS.STATUS.IMMO_OPEN 0 = false ∧ e ≤ t.now) ∧
  (∀ (s : State) (a : Nat), s.access.polling = true → inValley s = true → lockedOut s = false →
    (s.fld Reg.ACCESS.POLLCFG2.POLLSTOP 0 = 0 → nextAerial s s.access.aerial = some a → Ends .accessPoll s fun t =>
      t.access.listen = some a ∧ t.access.aerial = (a + 1) % 6 ∧
      t.fld Reg.ACCESS.POLLSTAT.POLLS 0 = min (s.fld Reg.ACCESS.POLLSTAT.POLLS 0 + 1) 0xFFFF ∧
      t.fld Reg.ACCESS.POLLSTAT.PERIOD 0 =
        if (s.access.polls + 1) % max (s.fld Reg.ACCESS.POLLCFG.POLLGROW 0) 1 = 0 then
          min (2 * s.fld Reg.ACCESS.POLLSTAT.PERIOD 0) (max (min (s.fld Reg.ACCESS.POLLCFG.POLLMAX 0) 4000) (pollMin s))
        else s.fld Reg.ACCESS.POLLSTAT.PERIOD 0) ∧
    (s.fld Reg.ACCESS.POLLCFG2.POLLSTOP 0 ≠ 0 →
      s.access.pollEntry + s.fld Reg.ACCESS.POLLCFG2.POLLSTOP 0 * 360000000000 ≤ s.now → Ends .accessPoll s fun t =>
        t.access.polling = false ∧ t.regs = s.regs)) ∧
  (∀ (s : State) (a : Nat) (bytes : List Byte), s.access.listen = some a → bytes.length = 8 →
    crc16 (bytes.take 6) = BitVec.ofNat 16 (beAt bytes 6 2) → byteAt bytes 0 = 2 → (tokenOf s (beAt bytes 1 4)).isSome = true →
    WakeOn s 8 → Wakes (.pollAnswer bytes) s 8))

/-- R424: a privileged write of KEYS.CMD starts its operation while none runs; while one runs it is ignored with ERR 1; an
unprivileged one raises FLT_SYS_PRIVWRITE.
R418 to R424, R426: what a key operation does when it is done: slots 0 to 3 are refused with ERR 2, a locked slot with ERR 3 but
for EXPORT; ERASE empties its slot and keeps GEN, LOCK sets LOCKED, GENERATE gives the slot its class, attributes and a key of
random bytes; ZEROISE empties every stored slot and raises FLT_KEYS_ZEROISE. -/
def Obligations.KeyOperationsTakeEffect : Prop :=
  (∀ (s : State) (b : By) (slot src : BitVec 6) (cls : BitVec 3) (attr : BitVec 2),
    ∀ r ∈ ([(.keyImport b slot src, { op := 1, slot := slot.toNat, src := src.toNat, cls := 0, attr := 0 }),
            (.keyGenerate b slot cls attr, { op := 2, slot := slot.toNat, src := 0, cls := cls.toNat, attr := attr.toNat }),
            (.keyDerive b slot src attr, { op := 3, slot := slot.toNat, src := src.toNat, cls := 0, attr := attr.toNat }),
            (.keyExport b slot src, { op := 4, slot := slot.toNat, src := src.toNat, cls := 0, attr := 0 }),
            (.keyErase b slot, { op := 5, slot := slot.toNat, src := 0, cls := 0, attr := 0 }),
            (.keyLock b slot, { op := 6, slot := slot.toNat, src := 0, cls := 0, attr := 0 }),
            (.keyRenewFb b, { op := 7, slot := 0, src := 0, cls := 0, attr := 0 }),
            (.keyZeroise b, { op := 8, slot := 0, src := 0, cls := 0, attr := 0 })] : List (Instr × KeyOp)),
      (b.priv = true → s.bit Reg.KEYS.STATUS.BUSY 0 = false → Ends r.1 s fun t =>
        t.keys.op = some r.2 ∧ t.bit Reg.KEYS.STATUS.BUSY 0 = true ∧ t.keys.mat = s.keys.mat ∧
        (∀ o, o ≠ Reg.KEYS.STATUS.REG.off 0 → t.word o = s.word o)) ∧
      (b.priv = true → s.bit Reg.KEYS.STATUS.BUSY 0 = true → Ends r.1 s fun t =>
        t.keys.op = s.keys.op ∧ t.fld Reg.KEYS.STATUS.ERR 0 = 1 ∧ t.keys.mat = s.keys.mat) ∧
      (b.priv = false → Live s → Ends r.1 s fun t =>
        Flagged t Flt.SYS.PRIVWRITE b.lane.val 0 ∧ t.keys = s.keys)) ∧
  (∀ (s : State) (o : KeyOp), s.keys.op = some o →
    (o.op ≤ 6 → o.slot < 4 → Ends .keyOperationDone s fun t =>
      t.fld Reg.KEYS.STATUS.ERR 0 = 2 ∧ t.bit Reg.KEYS.STATUS.BUSY 0 = false ∧ t.keys.mat = s.keys.mat) ∧
    (o.op ≤ 6 → o.op ≠ 4 → 4 ≤ o.slot → 2 ≤ s.fld Reg.KEYS.SLOT.ATTR o.slot → Ends .keyOperationDone s fun t =>
      t.fld Reg.KEYS.STATUS.ERR 0 = 3 ∧ t.bit Reg.KEYS.STATUS.BUSY 0 = false ∧ t.keys.mat = s.keys.mat) ∧
    (4 ≤ o.slot → o.slot < 64 → s.fld Reg.KEYS.SLOT.ATTR o.slot < 2 →
      (o.op = 5 → Ends .keyOperationDone s fun t =>
        t.fld Reg.KEYS.SLOT.CLASS o.slot = 0 ∧ t.fld Reg.KEYS.SLOT.GEN o.slot = s.fld Reg.KEYS.SLOT.GEN o.slot ∧ keyMat t o.slot = [] ∧
        t.fld Reg.KEYS.STATUS.ERR 0 = 0 ∧ t.bit Reg.KEYS.STATUS.DONE 0 = true ∧
        (∀ k, k < 64 → k ≠ o.slot → t.word (Reg.KEYS.SLOT.REG.off k) = s.word (Reg.KEYS.SLOT.REG.off k) ∧ keyMat t k = keyMat s k)) ∧
      (o.op = 6 → Ends .keyOperationDone s fun t =>
        t.fld Reg.KEYS.SLOT.ATTR o.slot = s.fld Reg.KEYS.SLOT.ATTR o.slot + 2 ∧ t.keys.mat = s.keys.mat ∧ t.bit Reg.KEYS.STATUS.DONE 0 = true) ∧
      (o.op = 2 → o.cls ∈ [keyClient, keyUnit, keyGeneral, keyTransport] → o.attr < 4 → attrAllowed o.cls o.attr = true →
        s.bit Reg.KEYS.STATUS.PUF_OK 0 = true → Ends .keyOperationDone s fun t =>
          t.fld Reg.KEYS.SLOT.CLASS o.slot = o.cls ∧ t.fld Reg.KEYS.SLOT.ATTR o.slot = o.attr ∧ t.fld Reg.KEYS.SLOT.ORIGIN o.slot = 3 ∧
          t.fld Reg.KEYS.SLOT.GEN o.slot = s.fld Reg.KEYS.SLOT.GEN o.slot ∧ (keyMat t o.slot).length = 16 ∧ t.bit Reg.KEYS.STATUS.DONE 0 = true)) ∧
    (o.op = 8 → Live s → Raises .keyOperationDone s Flt.KEYS.ZEROISE noUnit 1 ∧
      (Fresh s Flt.KEYS.ZEROISE noUnit → Ends .keyOperationDone s fun t =>
        (∀ k, 4 ≤ k → k < 64 → t.fld Reg.KEYS.SLOT.CLASS k = 0 ∧ keyMat t k = []) ∧ t.keys.fb = none ∧
        t.bit Reg.KEYS.STATUS.ZEROISED 0 = true)))

/-- R425, R426, R428, R430: a stored record that fails its check is marked FAILED and raises FLT_KEYS_SLOT; a tamper source is seen,
raises FLT_KEYS_TAMPER and zeroises where its action says so; a failed health test raises FLT_KEYS_TRNG. -/
def Obligations.KeyStoreGuardsItself : Prop :=
  (∀ (s : State) (bad : List Nat), Live s → (∀ k, k < 64 → Fresh s Flt.KEYS.SLOT k) → Ends (.keyRecordCheck bad) s fun t =>
    ∀ k, 4 ≤ k → k < 64 → s.fld Reg.KEYS.SLOT.CLASS k ≠ 0 → s.bit Reg.KEYS.SLOT.FAILED k = false → k ∈ bad →
      t.bit Reg.KEYS.SLOT.FAILED k = true ∧ Flagged t Flt.KEYS.SLOT k 1) ∧
  (∀ (s : State) (src : Fin 5), Live s → 4500 ≤ s.supA ∨ 4500 ≤ s.supB → Raises (.tamper src) s Flt.KEYS.TAMPER src.val 0 ∧
    (2 ≤ s.fld Reg.KEYS.TAMPCFG.ACTION 0 / 4 ^ src.val % 4 → Raises (.tamper src) s Flt.KEYS.ZEROISE noUnit 1)) ∧
  (∀ (s : State), Live s → Raises .trngFail s Flt.KEYS.TRNG noUnit 1 ∧
    (Fresh s Flt.KEYS.TRNG noUnit → s.access.round = none → Ends .trngFail s fun t => t.bit Reg.KEYS.STATUS.TRNG_OK 0 = false)) ∧
  (∀ (s : State) (b : By), Live s → Forced s b → Raises (.keysForceTamper b) s Flt.KEYS.TAMPER 0 0 ∧
    Raises (.keysForceTrng b) s Flt.KEYS.TRNG noUnit 1 ∧
    (Ends (.keysForceSlotfail b) s fun t => s.keys.lastSlot ∈ t.keys.failNext ∧ t.regs = s.regs))

/-- R427: a crypto request from plains code starts; one from a scheduled block is ignored with FLT_KEYS_CRQ; done, SHA256 puts the
digest of its bytes into CRQ_RES, and a slot of the wrong class is refused with ERR 4. -/
def Obligations.CryptoRequestsAreServed : Prop :=
  (∀ (s : State) (b : By) (slot : BitVec 6), b.priv = true →
    ∀ r ∈ ([(.crqCmac b slot, 1, slot.toNat), (.crqEncrypt b slot, 2, slot.toNat), (.crqSha256 b, 3, 0), (.crqAttest b, 4, 2)] : List (Instr × Nat × Nat)),
      (b.plain = true → s.fld Reg.KEYS.CRQ_STAT.STATE 0 ≠ 1 → Ends r.1 s fun t =>
        t.keys.crq = some r.2 ∧ t.fld Reg.KEYS.CRQ_STAT.STATE 0 = 1 ∧ t.fld Reg.KEYS.CRQ_STAT.ERR 0 = 0) ∧
      (b.plain = false → Live s → Ends r.1 s fun t => Flagged t Flt.KEYS.CRQ b.lane.val 0 ∧ t.keys = s.keys)) ∧
  (∀ (s : State) (slot : Nat), s.keys.crq = some (3, slot) →
    crqInRange (s.fld Reg.KEYS.CRQ_ADDR.VALUE 0) (s.fld Reg.KEYS.CRQ_LEN.VALUE 0) = true → Ends .crqDone s fun t =>
      t.keys.crq = none ∧ t.fld Reg.KEYS.CRQ_STAT.STATE 0 = 2 ∧ t.fld Reg.KEYS.CRQ_STAT.ERR 0 = 0 ∧
      (∀ w, w < 8 → t.fld Reg.KEYS.CRQ_RES.RES w =
        beAt (sha256 (rdBytes s.shared (s.fld Reg.KEYS.CRQ_ADDR.VALUE 0) (s.fld Reg.KEYS.CRQ_LEN.VALUE 0))) (4 * w) 4)) ∧
  (∀ (s : State) (op slot : Nat), s.keys.crq = some (op, slot) → op = 1 ∨ op = 2 → s.fld Reg.KEYS.SLOT.CLASS slot ≠ keyGeneral →
    Ends .crqDone s fun t => t.keys.crq = none ∧ t.fld Reg.KEYS.CRQ_STAT.STATE 0 = 3 ∧ t.fld Reg.KEYS.CRQ_STAT.ERR 0 = 4)

/-- R440 to R442: BEGIN erases unless an activation is armed; the erase clears the staging slot and half; a pushed chunk joins the
FIFO, and one at a wrong range or with the FIFO full is refused with its ERR; chunks are written in order; a write that fails on
both dies raises FLT_UPDATE_STORE; VERIFY is taken in IDLE, RECEIVING and FAILED.
R440, R448, R451: ABORT in IDLE is refused with ERR 1, elsewhere before an activation it returns to IDLE, and an armed activation
is cancelled while its col lies ahead; RECOVER begins a controller reset into recovery. -/
def Obligations.StagingReceivesAndAborts : Prop :=
  ((∀ (s : State) (b : By), b.priv = true →
    (updState s ≠ updArmed → Ends (.updateBegin b) s fun t =>
      updState t = updErasing ∧ t.update.fifo = [] ∧ t.fld Reg.UPDATE.RECEIVED.BYTES 0 = 0 ∧ t.update.slots = s.update.slots) ∧
    (updState s = updArmed → Ends (.updateBegin b) s fun t => t.fld Reg.UPDATE.STATUS.ERR 0 = 1 ∧ updState t = updArmed ∧ t.update = s.update) ∧
    (updState s = updIdle ∨ updState s = updReceiving ∨ updState s = updFailed → Ends (.updateVerify b) s fun t =>
      updState t = updVerifying ∧ t.update.slots = s.update.slots) ∧
    (updState s = updErasing ∨ updState s = updVerified ∨ updState s = updLoaded ∨ updState s = updArmed → Ends (.updateVerify b) s fun t =>
      t.fld Reg.UPDATE.STATUS.ERR 0 = 1 ∧ updState t = updState s)) ∧
  (∀ (s : State), updState s = updErasing → s.storeHot = false → Ends .eraseDone s fun t =>
    updState t = updReceiving ∧
    (∀ a, stagingSlot s * slotSize ≤ a → a < stagingSlot s * slotSize + slotSize → rdByte t.update.slots a = 0) ∧
    (∀ a, a < stagingSlot s * slotSize ∨ stagingSlot s * slotSize + slotSize ≤ a → rdByte t.update.slots a = rdByte s.update.slots a)) ∧
  (∀ (s : State) (b : By), b.priv = true → updState s = updErasing ∨ updState s = updReceiving →
    let d := (upTo 256).flatMap fun w => beBytes (s.fld Reg.UPDATE.STGBUF.DATA w) 4
    let off := beAt d 0 4
    let len := beAt d 4 2
    (off + len ≤ slotSize → 1 ≤ len → len ≤ 1016 → s.update.fifo.length < 4 → Ends (.stagingPush b) s fun t =>
      t.update.fifo = s.update.fifo ++ [(off, sliceBytes d 8 len)] ∧ t.fld Reg.UPDATE.STATUS.FIFO 0 = s.update.fifo.length + 1) ∧
    (slotSize < off + len ∨ len = 0 ∨ 1016 < len → Ends (.stagingPush b) s fun t =>
      t.fld Reg.UPDATE.STATUS.ERR 0 = 2 ∧ t.update = s.update) ∧
    (off + len ≤ slotSize → 1 ≤ len → len ≤ 1016 → 4 ≤ s.update.fifo.length → Ends (.stagingPush b) s fun t =>
      t.fld Reg.UPDATE.STATUS.ERR 0 = 3 ∧ t.update = s.update)) ∧
  (∀ (s : State) (fail : BitVec 2) (off : Nat) (d : List Byte) (rest : List (Nat × List Byte)), s.update.fifo = (off, d) :: rest →
    s.storeHot = false → updState s = updReceiving ∨ updState s = updVerifying →
    (fail ≠ 3 → s.update.failStore = false → Ends (.chunkWrite fail) s fun t =>
      t.update.fifo = rest ∧ t.update.slots = wrBytes s.update.slots (stagingSlot s * slotSize + off) d ∧
      t.fld Reg.UPDATE.RECEIVED.BYTES 0 = min (s.fld Reg.UPDATE.RECEIVED.BYTES 0 + d.length) (2 ^ 32 - 1)) ∧
    (fail = 3 → Live s → Ends (.chunkWrite fail) s fun t =>
      Flagged t Flt.UPDATE.STORE noUnit 0 ∧ updState t = updFailed ∧ t.fld Reg.UPDATE.STATUS.ERR 0 = 14 ∧
      t.update.slots = s.update.slots))) ∧
  (∀ (s : State) (b : By), b.priv = true →
    (updState s = updIdle → Ends (.updateAbort b) s fun t => t.fld Reg.UPDATE.STATUS.ERR 0 = 1 ∧ t.update = s.update) ∧
    (updState s ≠ updIdle → updState s ≠ updArmed → Ends (.updateAbort b) s fun t =>
      updState t = updIdle ∧ t.update.fifo = [] ∧ t.update.slots = s.update.slots) ∧
    (updState s = updArmed → s.update.sel.pendCol ≤ s.colNum + 1 → Ends (.updateAbort b) s fun t =>
      t.fld Reg.UPDATE.STATUS.ERR 0 = 1 ∧ t.update = s.update) ∧
    (updState s = updArmed → s.colNum + 1 < s.update.sel.pendCol → s.update.viaReset = true → s.update.sel.pending = true →
      s.update.failSel = false → Ends (.updateAbort b) s fun t =>
        t.update.sel.pending = false ∧ updState t = (if s.update.hasCal then updVerified else updLoaded)) ∧
    (s.dom.logic = true → Ends (.updateRecover b) s fun t => t.boot = 2 ∧ t.update.recoverReq = true ∧ t.update.slots = s.update.slots))

/-- R438, R443, R447, R455: VERIFY ends in FAILED with the ERR of the first check that fails and FLT_UPDATE_VERIFY, or in VERIFIED,
or in LOADED with the plan of the running level in shadow plan memory; a confirmed activation makes the staging slot the
committed one and raises ARB; forces act on the next selector write, digest check and chunk write. -/
def Obligations.ImagesAreVerifiedAndActivated : Prop :=
  (∀ (s : State), updState s = updVerifying → s.update.fifo = [] →
    Live s → Ends .verifyDone s fun t =>
      (imageCheck s (stagingSlot s) ≠ 0 → Flagged t Flt.UPDATE.VERIFY noUnit 0 ∧ updState t = updFailed ∧
        t.fld Reg.UPDATE.STATUS.ERR 0 = imageCheck s (stagingSlot s) ∧ t.update.sel = s.update.sel ∧ t.shadow = s.shadow) ∧
      (imageCheck s (stagingSlot s) = 0 → carriesCal s (stagingSlot s) = true →
        updState t = updVerified ∧ t.update.hasCal = true ∧ t.update.sel = s.update.sel ∧ t.shadow = s.shadow) ∧
      (imageCheck s (stagingSlot s) = 0 → carriesCal s (stagingSlot s) = false →
        match planPart s (stagingSlot s) (s.fld Reg.POWER.PERF.CUR 0) with
        | some p => planCheck (partPlan s (stagingSlot s) p) (s.fld Reg.POWER.PERF.REQ 0) = 0 →
            updState t = updLoaded ∧ t.shadow = partPlan s (stagingSlot s) p ∧ t.plan = s.plan
        | none => True)) ∧
  (∀ (s : State), s.update.sel.pending = true → s.update.viaReset = false → s.update.failSel = false → s.update.sel.pendCol < s.colNum →
    s.planRuns = true → updState s = updArmed → Ends .activationConfirm s fun t =>
      updState t = updIdle ∧ t.update.sel.pending = false ∧ t.update.sel.prevOk = true ∧
      t.update.sel.slot = (if s.update.sel.pendSlot then 1 - s.update.sel.slot else s.update.sel.slot) ∧
      t.update.sel.half = (if s.update.sel.pendHalf then 1 - s.update.sel.half else s.update.sel.half) ∧
      s.update.sel.arb ≤ t.update.sel.arb ∧ slotBe s t.update.sel.slot 32 4 ≤ t.update.sel.arb) ∧
  (∀ (s : State) (b : By), Forced s b →
    (Ends (.updateForceSelector b) s fun t => t.update = { s.update with failSel := true } ∧ t.regs = s.regs) ∧
    (Ends (.updateForceDigest b) s fun t => t.update = { s.update with failDigest := true } ∧ t.regs = s.regs) ∧
    (Ends (.updateForceStore b) s fun t => t.update = { s.update with failStore := true } ∧ t.regs = s.regs))

/-- R10, R37, R478: a controller reset puts every register of D-LOGIC that has no bits kept through it at its reset value, stops the
lanes and makes a start due; it touches no memory and no image slot. RSTN low begins one.
R477: TRSTN low holds the test access port's controller in Test-Logic-Reset, which five edges with TMS high also reach from any of
its 16 states; the port changes nothing else. -/
def Obligations.ResetsAndTestPort : Prop :=
  (∀ (s : State), s.dom.logic = true →
    ∀ i ∈ [Instr.controllerReset, Instr.rstnLow true], Ends i s fun t =>
      t.boot = 2 ∧ t.lanes = [] ∧ t.laneEv = [] ∧ t.flags = [] ∧ t.collectorUp = false ∧ t.seq = Seq.init ∧
      (∀ o, keepMask o = 0 → o ∉ [Reg.NET.ETSTAT.LINK.off 0, Reg.NET.ETSTAT.LINK.off 1, Reg.NET.STATUS.ETA_LINK.off 0] →
        t.word o = regReset o) ∧
      t.imem = s.imem ∧ t.dmem = s.dmem ∧ t.shared = s.shared ∧ t.plan = s.plan ∧ t.dom = s.dom ∧
      t.update.slots = s.update.slots ∧ t.log = s.log ∧ t.rstnLow = (s.rstnLow || i == .rstnLow true)) ∧
  (∀ (s : State),
    (∀ tms, exec (.testAccessPort tms true) s = .next { s with tap := 0 }) ∧
    (∀ tms, exec (.testAccessPort tms false) s = .next { s with tap := tapNext s.tap tms }) ∧
    (s.tap < 16 → tapNext (tapNext (tapNext (tapNext (tapNext s.tap true) true) true) true) true = 0 ∧
      ∀ tms, tapNext s.tap tms < 16))

/-- R19, R20, R482, R483, R488: supplies bring D-ALW, D-KEEP, D-LOGIC and D-NET on and make a start due; below 4.40 V on both inputs
all that MRAM, the store and the key store do not hold is lost; a power domain comes on above 6.0 V and waits for a commit strobe;
a die without a valid frame for 4 ticks holds its load switches; a hot NAND die stops programming and raises FLT_STORE_HOT. -/
def Obligations.DomainsFollowTheirSupplies : Prop :=
  (∀ (s : State) (a b : Nat), 5000 ≤ a ∨ 5000 ≤ b → s.dom.logic = false → inValley s = false → Ends (.supplyRise a b) s fun t =>
    t.dom.keep = true ∧ t.dom.logic = true ∧ t.dom.net = true ∧ t.boot = 1 ∧ t.supA = max s.supA a ∧ t.supB = max s.supB b) ∧
  (∀ (s : State) (a b : Nat), max (min s.supA a) (min s.supB b) < 4400 → Ends (.supplyFall a b) s fun t =>
    t.dom.keep = false ∧ t.dom.logic = false ∧ t.dom.net = false ∧ t.dom.pwr = 0 ∧ t.imem = [] ∧ t.dmem = [] ∧ t.shared = [] ∧ t.flags = [] ∧
    t.eff = [] ∧ (∀ o, nonvolatileMask o = 0 → t.word o = regReset o) ∧ t.terminalLatch = s.terminalLatch ∧
    t.journal = s.journal ∧ t.update.slots = s.update.slots ∧ t.update.sel = s.update.sel ∧ t.keys.mat = s.keys.mat) ∧
  (∀ (s : State) (a b : Nat), 4400 ≤ max (min s.supA a) (min s.supB b) → Ends (.supplyFall a b) s fun t =>
    t.supA = min s.supA a ∧ t.supB = min s.supB b ∧ t.dom.logic = s.dom.logic ∧
    (∀ d, d < 4 → t.dom.pwr.getLsbD d = (s.dom.pwr.getLsbD d && decide (4400 ≤ if d < 2 then min s.supA a else min s.supB b)))) ∧
  (∀ (s : State) (d : Fin 4) (ref : Int), s.dom.logic = true → s.dom.pwr.getLsbD d.val = false →
    6000 < (if d.val < 2 then s.supA else s.supB) → Ends (.pwrDomainOn d ref) s fun t =>
      t.dom.pwr.getLsbD d.val = true ∧ t.dieDrives d.val = false ∧
      (∀ k, k < 24 → aiDie k = d.val → t.word (Reg.INPUT.AIVAL.REG.off k) = regReset (Reg.INPUT.AIVAL.REG.off k))) ∧
  (∀ (s : State) (d : Fin 4), 4 ≤ smapGet (fun _ => 0) s.seq.dieMiss d.val → d.val ∉ s.seq.linkHeld → holdsOutputs s = true →
    s.raiseQ = [] → Ends (.dieLinkLoss d) s fun t => d.val ∈ t.seq.linkHeld ∧
      (∀ n, n < 96 → lswDie n = d.val → (s.lswCh n).holdFrom = none → (s.lswCh n).expired = false →
        (t.lswCh n).holdFrom = some (s.colCount - smapGet (fun _ => 0) s.seq.dieMiss d.val * s.seq.period))) ∧
  (∀ (s : State) (t0 t1 : Int),
    (120 < t0 ∨ 120 < t1 → s.storeHot = false → Live s → Ends (.nandHot t0 t1) s fun t =>
      t.storeHot = true ∧ Flagged t Flt.STORE.HOT (if 120 < t0 then 0 else 1) 0 ∧ t.bit Reg.JOURNAL.STATUS.ARCH_DOWN 0 = true) ∧
    (t0 < 115 → t1 < 115 → Ends (.nandHot t0 t1) s fun t =>
      t.storeHot = false ∧ t.bit Reg.JOURNAL.STATUS.ARCH_DOWN 0 = false ∧ t.flags = s.flags))

/-- R59 to R62, R446, R450, R465, R469: a start that is due takes place once: the collector comes up, the time base is restored, a
set terminal latch keeps class F3 in force, and a recovery request ends in recovery with no plan; a load whose checks pass puts the
plan in force and arms its first col, and one that fails raises FLT_TICK_PLANLOAD and touches no plan. -/
def Obligations.StartsAndPlanLoads : Prop :=
  (∀ (s : State) (x : StartIn), s.boot = 0 ∨ s.rstnLow = true ∨ s.dom.logic = false → exec (.start x) s = .next s) ∧
  (∀ (s : State) (x : StartIn), s.boot ≠ 0 → s.rstnLow = false → s.dom.logic = true → Ends (.start x) s fun t =>
    t.boot = 0 ∧ t.collectorUp = true ∧ t.deferred = [] ∧
    (s.boot = 1 → t.now = match s.timers.timeWord with | none => 0 | some w => (w + 1) * 2 ^ 32) ∧
    (s.boot = 2 → t.now = s.now) ∧
    (s.terminalLatch = true → t.bit Reg.FAULT.STATUS.TERMINAL 0 = true) ∧
    (s.update.recoverReq = true → t.terminalLatch = true ∨ (t.bit Reg.UPDATE.STATUS.RECOVERY 0 = true ∧ t.seqState = seqNoPlan))) ∧
  (∀ (s : State), s.seq.loading = true → s.seqState = seqLoading → Live s → Ends .planLoadDone s fun t =>
    match loadCheck s s.seq.loadLevel with
    | (0, some p) => t.seqState = seqArmed ∧ t.plan = p ∧ t.seq.firstCol = some (firstCol { s with plan := p }) ∧
        t.fld Reg.TICK.PERIOD.T 0 = p.ticks % 2 ^ 19 ∧ t.fld Reg.TICK.LOADERR.CHECK 0 = 0 ∧ t.seq.loading = false
    | (c, _) => c ≠ 0 → Flagged t Flt.TICK.PLANLOAD noUnit 1 ∧ t.seqState = seqNoPlan ∧ t.plan = s.plan ∧ t.imem = s.imem ∧
        t.fld Reg.TICK.LOADERR.CHECK 0 = c % 16) ∧
  (∀ (s : State) (b : By), b.priv = true →
    (s.seqState = seqNoPlan → s.bit Reg.UPDATE.STATUS.RECOVERY 0 = false → s.boot = 0 → Ends (.load b) s fun t =>
      t.seqState = seqLoading ∧ t.seq.loading = true ∧ t.seq.loadLevel = s.fld Reg.POWER.PERF.REQ 0 ∧ t.plan = s.plan) ∧
    (s.seqState ≠ seqNoPlan → exec (.load b) s = .next s))

/-- The model's queue (not of the spec): a step takes the command at the front, which acts on the state with the rest of the queue. -/
def Obligations.StepRunsTheFrontCommand : Prop :=
  ∀ (c : Instr) (rest : List Instr) (s : State), step { s with pending := c :: rest } = exec c { s with pending := rest }

/-- The model's idle step (log entry 2): on an empty queue one count passes where the time base runs, in which what the lanes have in
flight acts; with nothing in flight only time moves, and where the time base stands nothing does. -/
def Obligations.IdleStepPassesACount : Prop :=
  ∀ (s : State), s.pending = [] →
    (timeRuns s = false → step s = .next s) ∧
    (timeRuns s = true → s.laneEv = [] → step s = .next (s.later 1)) ∧
    (∃ t, step s = .next t ∧ t.imem = s.imem)

/-- The spec names no condition that stops the Z96: every command completes in every state, and leaves the queue as it was. -/
def Obligations.EveryCommandCompletes : Prop :=
  ∀ (c : Instr) (s : State), ∃ t, exec c s = .next t ∧ t.pending = s.pending

/-- The canonical form of the byte memories is an invariant: a step that starts with it ends with it, in every state. -/
def Obligations.StepsKeepMemories : Prop :=
  ∀ (s t : State), s.memOk = true → step s = .next t → t.memOk = true

/-- Only these commands can change a byte of instruction, data or shared memory or of the calibration copy: lane operations, whose stores land in
program order, cols and the narrows switch, starts, loads, handovers, resets of supply, and faults of a lane. -/
def Obligations.OtherCommandsLeaveMemories : Prop :=
  ∀ (c : Instr) (s t : State), writesMemory c = false → exec c s = .next t →
    t.imem = s.imem ∧ t.dmem = s.dmem ∧ t.shared = s.shared ∧ t.calCopy = s.calCopy

/-- Reset: every register reads its reset value, every byte 0, every field that the spec gives no value for its value of the log, and a
start is due. -/
def Obligations.ResetState : Prop :=
  (∀ o, State.reset.word o = regReset o ∧ State.reset.effWord o = regReset o) ∧
  (∀ a, rdByte State.reset.imem a = 0 ∧ rdByte State.reset.dmem a = 0 ∧ rdByte State.reset.shared a = 0 ∧ rdByte State.reset.calCopy a = 0) ∧
  (∀ n, State.reset.lane n = Lane.init n) ∧ State.reset.pending = [] ∧ State.reset.flags = [] ∧ State.reset.log = [] ∧ State.reset.boot = 1 ∧
  State.reset.memOk = true ∧ State.reset.seqState = seqNoPlan

/-- R7, R8 (of the model's registers): a field holds what is written to it, a write to it leaves every bit outside it and every other
register alone, and reading n bytes that were written gives them back. -/
def Obligations.RegistersAndBytesHold : Prop :=
  (∀ (s : State) (F : Field) (n v : Nat), F.lo + F.len ≤ 32 → (s.setFld F n v).fld F n = v % 2 ^ F.len) ∧
  (∀ (s : State) (F G : Field) (n m v : Nat), F.lo + F.len ≤ 32 → F.off n ≠ G.off m ∨ F.lo + F.len ≤ G.lo ∨ G.lo + G.len ≤ F.lo →
    (s.setFld F n v).fld G m = s.fld G m) ∧
  (∀ (m : List (Nat × Byte)) (a v n : Nat), rdLE (wrLE m a v n) a n = v % 256 ^ n) ∧
  (∀ (m : List (Nat × Byte)) (a v n c : Nat), c < a ∨ a + n ≤ c → rdByte (wrLE m a v n) c = rdByte m c)

/-- Frames, for all commands but those of lanes and cols: plan memory, the harness model, the calibrations and the dimming groups hold;
but for accesses of registers and resets, so do the key store, the image slots and the update engine, the timers, the journal, the
sequencer, the ledger, the matrix, the power domains and what the power dies act on, for every command not named as one of theirs. -/
def Obligations.StoresHaveTheirCommands : Prop :=
  ∀ (c : Instr) (s t : State), writesMemory c = false → exec c s = .next t →
    t.plan = s.plan ∧ t.model = s.model ∧ t.lswCal = s.lswCal ∧ t.sinkCal = s.sinkCal ∧ t.groupAt = s.groupAt ∧ t.dmemErr = s.dmemErr ∧
    (onDomains c = false → t.dom = s.dom) ∧ (onActing c = false → t.eff = s.eff) ∧
    (general c = false → t.frz = s.frz ∧ t.edge = s.edge ∧
      (onKeys c = false → t.keys = s.keys) ∧ (onUpdate c = false → t.update = s.update) ∧ (onTimers c = false → t.timers = s.timers) ∧
      (onJournal c = false → t.journal = s.journal) ∧ (onSequencer c = false → t.seq = s.seq) ∧
      (onLedger c = false → t.ledger = s.ledger) ∧ (onMatrix c = false → t.matrix = s.matrix))

/-- R34 (the block map), as frames: but for lanes, cols, accesses of registers and resets, no command changes a register of SYS, and the
registers of TIME, INPUT, NET, JOURNAL, KEYS and UPDATE are changed by the commands of their own chapters alone. -/
def Obligations.RegistersHaveTheirCommands : Prop :=
  ∀ (c : Instr) (s t : State) (o : Nat), writesMemory c = false → general c = false → exec c s = .next t →
    (o < 0x10000 → t.word o = s.word o) ∧
    (setsTime c = false → 0x20000 ≤ o → o < 0x30000 → t.word o = s.word o) ∧
    (setsJournal c = false → 0x50000 ≤ o → o < 0x60000 → t.word o = s.word o) ∧
    (setsInput c = false → 0x180000 ≤ o → o < 0x200000 → t.word o = s.word o) ∧
    (setsNet c = false → 0x200000 ≤ o → o < 0x280000 → t.word o = s.word o) ∧
    (setsKeys c = false → 0x2A0000 ≤ o → o < 0x2C0000 → t.word o = s.word o) ∧
    (setsUpdate c = false → 0x2C0000 ≤ o → o < 0x2E0000 → t.word o = s.word o)
end

