-- ==== Sys2Proof/Laws/Crypto.lean ====
section
/-!
SUPPORT. Lengths of what the cipher and the message authentication code give, and big-endian bytes read back.
-/
namespace Sys2Proof.Machine

@[simp] theorem beBytes_length (v n : Nat) : (beBytes v n).length = n := by
  induction n with
  | zero => rfl
  | succ n ih => simp [beBytes, ih]

theorem beBytes_mod (v n : Nat) : beBytes (v % 256 ^ n) n = beBytes v n := by
  suffices h : ∀ m, m ≤ n → beBytes (v % 256 ^ n) m = beBytes v m from h n (Nat.le_refl n)
  intro m
  induction m with
  | zero => intro _; rfl
  | succ m ih =>
    intro hm
    have hd : (256 : Nat) ^ n = 256 ^ m * (256 * 256 ^ (n - (m + 1))) := by
      rw [← Nat.pow_succ', ← Nat.pow_add]; congr 1; omega
    simp only [beBytes, ih (by omega)]
    congr 1
    apply BitVec.eq_of_toNat_eq
    simp only [BitVec.toNat_ofNat]
    rw [hd, Nat.mod_mul_right_div_self, Nat.mod_mul_right_mod]

theorem beNat_foldl (l : List Byte) (a : Nat) : l.foldl (fun a b => a * 256 + b.toNat) a = a * 256 ^ l.length + beNat l := by
  induction l generalizing a with
  | nil => simp [beNat]
  | cons b l ih =>
    rw [beNat, List.foldl_cons, List.foldl_cons, ih, ih]
    simp only [List.length_cons, Nat.pow_succ]
    ring

theorem beNat_lt (l : List Byte) : beNat l < 256 ^ l.length := by
  induction l with
  | nil => simp [beNat]
  | cons b l ih =>
    rw [beNat, List.foldl_cons, beNat_foldl, List.length_cons, Nat.pow_succ]
    have : b.toNat < 256 := b.isLt
    nlinarith

theorem beNat_cons (b : Byte) (l : List Byte) : beNat (b :: l) = b.toNat * 256 ^ l.length + beNat l := by
  rw [beNat, List.foldl_cons, beNat_foldl]; simp

/-- Bytes read as a number and written back are the bytes. -/
theorem beBytes_beNat (l : List Byte) : beBytes (beNat l) l.length = l := by
  induction l with
  | nil => rfl
  | cons b l ih =>
    have hlt := beNat_lt l
    have hp : 0 < 256 ^ l.length := by positivity
    simp only [List.length_cons, beBytes, beNat_cons]
    congr 1
    · apply BitVec.eq_of_toNat_eq
      rw [Nat.mul_comm, Nat.mul_add_div hp, Nat.div_eq_of_lt hlt]
      simp
    · rw [← beBytes_mod, Nat.mul_add_mod', Nat.mod_eq_of_lt hlt, ih]

theorem aesExpand_length (n : Nat) (rc : Byte) (k : List Byte) (hk : k.length = 16) :
    ∀ x ∈ aesExpand n rc k, x.length = 16 := by
  induction n generalizing rc k with
  | zero => intro x hx; simp [aesExpand] at hx; rw [hx, hk]
  | succ n ih =>
    intro x hx
    simp only [aesExpand, List.mem_cons] at hx
    rcases hx with rfl | hx
    · exact hk
    · refine ih _ _ ?_ x hx
      simp [xorBytes, hk]

theorem aesRounds_length (ks : List (List Byte)) (l : List Byte) (h : ks ≠ []) (hk : ∀ x ∈ ks, x.length = 16) :
    (aesRounds ks l).length = 16 := by
  induction ks generalizing l with
  | nil => exact absurd rfl h
  | cons k ks ih =>
    cases ks with
    | nil => simp [aesRounds, xorBytes, aesShift, upTo, hk k (by simp)]
    | cons k' ks => exact ih _ (by simp) (fun x hx => hk x (by simp_all))

theorem aesExpand_ne (n : Nat) (rc : Byte) (k : List Byte) : aesExpand n rc k ≠ [] := by
  cases n <;> simp [aesExpand]

/-- AES under a 16-byte key gives 16 bytes. -/
theorem aesEncrypt_length (key block : List Byte) (hk : key.length = 16) : (aesEncrypt key block).length = 16 := by
  have h : ∀ x ∈ aesKeys key, x.length = 16 := aesExpand_length 10 1 key hk
  have h2 : ∃ rc k', aesKeys key = key :: aesExpand 9 rc k' := ⟨_, _, by rw [aesKeys, aesExpand]⟩
  obtain ⟨rc, k', e⟩ := h2
  unfold aesEncrypt
  rw [e] at h ⊢
  exact aesRounds_length _ _ (aesExpand_ne _ _ _) fun x hx => h x (List.mem_cons_of_mem _ hx)

theorem cmacChain_length (key k1 k2 : List Byte) (n : Nat) (x m : List Byte) (hk : key.length = 16) (hx : x.length = 16) :
    (cmacChain key k1 k2 n x m).length = 16 := by
  induction n generalizing x m with
  | zero => exact hx
  | succ n ih =>
    simp only [cmacChain]
    split
    · exact ih _ _ (aesEncrypt_length _ _ hk)
    · exact aesEncrypt_length _ _ hk

/-- An AES-CMAC has 16 bytes. -/
theorem aesCmac_length (key msg : List Byte) (hk : key.length = 16) : (aesCmac key msg).length = 16 :=
  cmacChain_length _ _ _ _ _ _ hk (List.length_replicate ..)

/-- A request with the tag that its key gives it. -/
def signedBy (key : List Byte) (f : DictFrame) : DictFrame := { f with tag := BitVec.ofNat 64 (beNat (requestTag key f)) }

/-- A tag does not depend on the tag that the frame carries. -/
theorem requestTag_tag (key : List Byte) (f : DictFrame) (t : BitVec 64) :
    requestTag key { f with tag := t } = requestTag key f := by
  unfold requestTag frameVer; rfl

theorem requestTag_length (key : List Byte) (f : DictFrame) (hk : key.length = 16) : (requestTag key f).length = 8 := by
  unfold requestTag tagOf
  rw [List.length_take, aesCmac_length _ _ hk]; rfl

/-- The tag of a signed request is the one its key gives it. -/
theorem signedBy_tag (key : List Byte) (f : DictFrame) (hk : key.length = 16) :
    requestTag key (signedBy key f) = beBytes (signedBy key f).tag.toNat 8 := by
  have hl := requestTag_length key f hk
  rw [signedBy, requestTag_tag]
  generalize requestTag key f = l at hl
  have h := beBytes_beNat l
  have hlt := beNat_lt l
  rw [hl] at h hlt
  rw [BitVec.toNat_ofNat, Nat.mod_eq_of_lt (Nat.lt_of_lt_of_eq hlt (by norm_num)), h]

end Sys2Proof.Machine
end

