-- ==== Sys2Proof/Laws/Held.lean ====
section
/-!
SUPPORT. How an operation leaves the queue and the byte memories: the rules from which the lemmas `<operation>_held` follow.
-/
namespace Sys2Proof.Machine

/-- Rebuilding a state around another's queue and memories leaves them. -/
theorem mk_held (s : State) (nowX : Nat) (freshX : Nat) (regsX : List (Nat × Word32)) (frzX : List (Nat × Word32)) (edgeX :
    List (Nat × Word32)) (effX : List (Nat × Word32)) (seqX : Seq) (planX : Plan) (shadowX : Plan) (lanesX : List (Nat × Lane))
        (laneEvX : List LaneEv) (dmemErrX : List (Nat × Nat)) (lswX : List (Nat × LswCh)) (groupAtX : List (Nat × Nat))
            (scanAtX : Option Nat) (hbrX : List (Nat × HbCh)) (vdX : List (Nat × VdCh)) (vbankX : List (Nat × VBank)) (ucodeX :
                List (Nat × Word)) (sinksX : List (Nat × Sink)) (stagesX : List (Nat × Stage)) (matrixX : Matrix) (modelX :
                    Model) (ledgerX : Ledger) (ledgerChX : List (Nat × LedgerCh)) (lswCalX : List (Nat × LswCal)) (sinkCalX :
                        List (Nat × SinkCal)) (dieRefX : List (Nat × Int)) (flagsX : List FaultFlag) (logX : List LogRec)
                            (dumpX : List LogRec) (dumpNextX : Option (List LogRec)) (deferredX : List (Nat × Raise))
                                (deferLostX : List (Nat × Nat)) (collectorUpX : Bool) (terminalLatchX : Bool) (raiseQX : List
                                    Raise) (zoneExitX : Nat) (domX : Domains) (supAX : Nat) (supBX : Nat) (loadDumpX : BitVec
                                        2) (storeHotX : Bool) (vlaneBadX : Bool) (slowRefX : Nat) (slowBaseX : Nat) (timersX :
                                            Timers) (powerX : Power) (journalX : Journal) (netX : Net) (accessX : Access)
                                                (keysX : Keys) (updateX : Update) (parkedX : Bool) (bootX : Nat) (rstnLowX :
                                                    Bool) (tapX : Nat) (hwSafeX : Bool) :
    (State.mk s.pending nowX freshX regsX frzX edgeX effX seqX planX shadowX lanesX laneEvX s.imem s.dmem s.shared dmemErrX
        lswX groupAtX scanAtX hbrX vdX vbankX ucodeX sinksX stagesX matrixX modelX ledgerX ledgerChX lswCalX sinkCalX s.calCopy
            dieRefX flagsX logX dumpX dumpNextX deferredX deferLostX collectorUpX terminalLatchX raiseQX zoneExitX domX supAX
                supBX loadDumpX storeHotX vlaneBadX slowRefX slowBaseX timersX powerX journalX netX accessX keysX updateX
                    parkedX bootX rstnLowX tapX hwSafeX).held = s.held := rfl
/-- A fold whose body leaves the queue and memories leaves them. -/
theorem foldl_held {α : Type} (f : State → α → State) (h : ∀ s a, (f s a).held = s.held) (l : List α) (s : State) :
    (l.foldl f s).held = s.held := by
  induction l generalizing s with
  | nil => rfl
  | cons a l ih => exact (ih _).trans (h s a)
/-- The same of a fold over pairs with the state first. -/
theorem foldlFst_held {α β : Type} (f : State × β → α → State × β) (h : ∀ p a, (f p a).1.held = p.1.held) (l : List α) (p :
    State × β) :
    (l.foldl f p).1.held = p.1.held := by
  induction l generalizing p with
  | nil => rfl
  | cons a l ih => exact (ih _).trans (h p a)
/-- The same of a fold over pairs with the state second. -/
theorem foldlSnd_held {α β : Type} (f : β × State → α → β × State) (h : ∀ p a, (f p a).2.held = p.2.held) (l : List α) (p : β ×
    State) :
    (l.foldl f p).2.held = p.2.held := by
  induction l generalizing p with
  | nil => rfl
  | cons a l ih => exact (ih _).trans (h p a)
/-- A choice of two states that both keep the queue and memories keeps them. -/
theorem ite_held {c : Prop} [Decidable c] {a b : State} {x : Held} (ha : c → a.held = x) (hb : ¬c → b.held = x) :
    (if c then a else b).held = x := by split <;> simp_all
/-- A fact may be used once it is shown. -/
theorem have_held {P Q : Prop} (hp : P) (hq : P → Q) : Q := hq hp
theorem next_held {s : State} {x : Held} (h : s.held = x) : Res.held (.next s) x := ⟨s, rfl, h⟩
theorem Res.held_of {r : Result} {x y : Held} (h : Res.held r y) (e : y = x) : Res.held r x := e ▸ h
theorem iteRes_held {c : Prop} [Decidable c] {a b : Result} {x : Held} (ha : c → Res.held a x) (hb : ¬c → Res.held b x) :
    Res.held (if c then a else b) x := by split <;> simp_all
/-- The same of a fold over a bundle's effects. -/
theorem foldlAcc_held {α : Type} (f : Acc → α → Acc) (h : ∀ a x, (f a x).st.held = a.st.held) (l : List α) (a : Acc) :
    (l.foldl f a).st.held = a.st.held := by
  induction l generalizing a with
  | nil => rfl
  | cons x l ih => exact (ih _).trans (h a x)

end Sys2Proof.Machine
end

