-- ==== Sys2Proof/Laws/HeldOutputs.lean ====
section
/-!
SUPPORT. Which operations leave the queue and the byte memories as they are: the operations, the outputs, the fault collector, the ledger and the drivers. One lemma each:
`<operation>_held`; for a command it also says that the command has a next state.
-/
namespace Sys2Proof.Machine

theorem State.setWord_held (s : State) (o : Nat) (w : Word32) : (State.setWord s o w).held = s.held := by
  unfold State.setWord
  with_reducible repeat' first
    | rfl
    | (fail_if_no_progress refine (mk_held ..).trans ?_)


theorem State.setFld_held (s : State) (F : Field) (n : Nat) (v : Nat) : (State.setFld s F n v).held = s.held := by
  unfold State.setFld
  with_reducible repeat' first
    | rfl
    | refine (State.setWord_held ..).trans ?_


theorem State.setBit_held (s : State) (F : Field) (n : Nat) (b : Bool) : (State.setBit s F n b).held = s.held := by
  unfold State.setBit
  with_reducible repeat' first
    | rfl
    | refine (State.setFld_held ..).trans ?_


theorem State.setFlds_held (s : State) (l : List (Field × Nat × Nat)) : (s.setFlds l).held = s.held := by
  induction l generalizing s with
  | nil => rfl
  | cons p l ih => exact ih _

theorem State.setEffWord_held (s : State) (o : Nat) (w : Word32) : (State.setEffWord s o w).held = s.held := by
  unfold State.setEffWord
  with_reducible repeat' first
    | rfl
    | (fail_if_no_progress refine (mk_held ..).trans ?_)


theorem State.setEff_held (s : State) (F : Field) (n : Nat) (v : Nat) : (State.setEff s F n v).held = s.held := by
  unfold State.setEff
  with_reducible repeat' first
    | rfl
    | refine (State.setEffWord_held ..).trans ?_


theorem State.satAdd_held (s : State) (F : Field) (n : Nat) (d : Nat) : (State.satAdd s F n d).held = s.held := by
  unfold State.satAdd
  with_reducible repeat' first
    | rfl
    | refine (State.setFld_held ..).trans ?_


theorem State.incFld_held (s : State) (F : Field) (n : Nat) : (State.incFld s F n).held = s.held := by
  unfold State.incFld
  with_reducible repeat' first
    | rfl
    | refine (State.setFld_held ..).trans ?_


theorem State.setPair_held (s : State) (L : Field) (H : Field) (n : Nat) (v : Nat) : (State.setPair s L H n v).held = s.held :=
    by
  unfold State.setPair
  with_reducible repeat' first
    | rfl
    | refine (State.setFld_held ..).trans ?_


theorem State.reach_held (s : State) (c : Nat) : (State.reach s c).held = s.held := by
  unfold State.reach
  with_reducible repeat' first
    | rfl
    | (fail_if_no_progress refine (mk_held ..).trans ?_)


theorem State.later_held (s : State) (d : Nat) : (State.later s d).held = s.held := by
  unfold State.later
  with_reducible repeat' first
    | rfl
    | (fail_if_no_progress refine (mk_held ..).trans ?_)


theorem State.free_held (s : State) : (State.free s).2.held = s.held := by
  unfold State.free
  with_reducible repeat' first
    | rfl
    | (fail_if_no_progress refine (mk_held ..).trans ?_)


theorem State.enter_held (s : State) (q : Nat) : (State.enter s q).held = s.held := by
  unfold State.enter
  with_reducible repeat' first
    | rfl
    | refine (State.setFld_held ..).trans ?_


theorem State.setLane_held (s : State) (n : Nat) (l : Lane) : (State.setLane s n l).held = s.held := by
  unfold State.setLane
  with_reducible repeat' first
    | rfl
    | (fail_if_no_progress refine (mk_held ..).trans ?_)


theorem State.setLsw_held (s : State) (n : Nat) (c : LswCh) : (State.setLsw s n c).held = s.held := by
  unfold State.setLsw
  with_reducible repeat' first
    | rfl
    | (fail_if_no_progress refine (mk_held ..).trans ?_)


theorem State.setHb_held (s : State) (n : Nat) (c : HbCh) : (State.setHb s n c).held = s.held := by
  unfold State.setHb
  with_reducible repeat' first
    | rfl
    | (fail_if_no_progress refine (mk_held ..).trans ?_)


theorem State.setVd_held (s : State) (n : Nat) (c : VdCh) : (State.setVd s n c).held = s.held := by
  unfold State.setVd
  with_reducible repeat' first
    | rfl
    | (fail_if_no_progress refine (mk_held ..).trans ?_)


theorem State.setBank_held (s : State) (b : Nat) (v : VBank) : (State.setBank s b v).held = s.held := by
  unfold State.setBank
  with_reducible repeat' first
    | rfl
    | (fail_if_no_progress refine (mk_held ..).trans ?_)


theorem State.setSink_held (s : State) (n : Nat) (c : Sink) : (State.setSink s n c).held = s.held := by
  unfold State.setSink
  with_reducible repeat' first
    | rfl
    | (fail_if_no_progress refine (mk_held ..).trans ?_)


theorem State.setStage_held (s : State) (n : Nat) (c : Stage) : (State.setStage s n c).held = s.held := by
  unfold State.setStage
  with_reducible repeat' first
    | rfl
    | (fail_if_no_progress refine (mk_held ..).trans ?_)


theorem State.setLedger1_held (s : State) (c : Nat) (v : LedgerCh) : (State.setLedger1 s c v).held = s.held := by
  unfold State.setLedger1
  with_reducible repeat' first
    | rfl
    | (fail_if_no_progress refine (mk_held ..).trans ?_)


theorem State.each_held (s : State) (f : State → Nat → State) (l : List Nat) (hf : ∀ a1 b1, (f a1 b1).held = a1.held) :
    (State.each s f l).held = s.held := by
  unfold State.each
  with_reducible repeat' first
    | rfl
    | assumption
    | refine (foldl_held _ ?_ _ _).trans ?_


theorem State.ask_held (s : State) (src : Nat) (unit : Nat) (cls : Nat) (forced : Bool) : (State.ask s src unit cls
    forced).held = s.held := by
  unfold State.ask
  with_reducible repeat' first
    | rfl
    | (fail_if_no_progress refine (mk_held ..).trans ?_)


theorem clampTrip_held (s : State) (n : Nat) (forced : Bool) : (clampTrip s n forced).held = s.held := by
  unfold clampTrip
  with_reducible repeat' first
    | rfl
    | refine (State.ask_held ..).trans ?_
    | refine (State.setBit_held ..).trans ?_
    | refine (State.setLsw_held ..).trans ?_


theorem inrushEdge_held (s : State) (c : Nat) : (inrushEdge s c).held = s.held := by
  unfold inrushEdge
  with_reducible repeat' first
    | rfl
    | refine ite_held ?_ ?_
    | intro _
    | refine (State.setLedger1_held ..).trans ?_


theorem lswApply_held (s : State) (n : Nat) : (lswApply s n).held = s.held := by
  unfold lswApply
  with_reducible repeat' first
    | rfl
    | refine ite_held ?_ ?_
    | intro _
    | refine (State.setBit_held ..).trans ?_
    | refine (State.setLsw_held ..).trans ?_
    | refine (clampTrip_held ..).trans ?_
    | refine (inrushEdge_held ..).trans ?_


theorem lswSafe_held (s : State) (n : Nat) : (lswSafe s n).held = s.held := by
  unfold lswSafe
  with_reducible repeat' first
    | rfl
    | refine (State.setBit_held ..).trans ?_
    | refine (lswApply_held ..).trans ?_


theorem hbApply_held (s : State) (m : Nat) : (hbApply s m).held = s.held := by
  unfold hbApply
  with_reducible repeat' first
    | rfl
    | refine (foldl_held _ ?_ _ _).trans ?_
    | refine (State.each_held _ _ _ ?_).trans ?_
    | refine ite_held ?_ ?_
    | intro _
    | refine (State.setBit_held ..).trans ?_
    | refine (State.setFld_held ..).trans ?_
    | refine (State.setHb_held ..).trans ?_
    | refine (inrushEdge_held ..).trans ?_


theorem hbSafe_held (s : State) (n : Nat) : (hbSafe s n).held = s.held := by
  unfold hbSafe
  with_reducible repeat' first
    | rfl
    | refine (State.each_held _ _ _ ?_).trans ?_
    | intro _
    | refine (State.setBit_held ..).trans ?_
    | refine (hbApply_held ..).trans ?_


theorem bankSource_held (s : State) (b : Nat) : (bankSource s b).held = s.held := by
  unfold bankSource
  with_reducible repeat' first
    | rfl
    | refine (State.setBit_held ..).trans ?_


theorem bankSwitch_held (s : State) (b : Nat) : (bankSwitch s b).held = s.held := by
  unfold bankSwitch
  with_reducible repeat' first
    | rfl
    | refine ite_held ?_ ?_
    | intro _
    | refine (State.setBit_held ..).trans ?_
    | refine (inrushEdge_held ..).trans ?_


theorem recordWait_held (s : State) (n : Nat) (w : Nat) : (recordWait s n w).held = s.held := by
  unfold recordWait
  with_reducible repeat' first
    | rfl
    | refine (State.setFld_held ..).trans ?_


theorem tokenGrant_held (s : State) (n : Nat) (x : Nat) : (tokenGrant s n x).held = s.held := by
  unfold tokenGrant
  with_reducible repeat' first
    | rfl
    | refine (State.setBit_held ..).trans ?_
    | refine (State.setFld_held ..).trans ?_
    | refine (State.setVd_held ..).trans ?_
    | refine (bankSource_held ..).trans ?_
    | refine (recordWait_held ..).trans ?_


theorem bankWaiters_held (s : State) (b : Nat) : (bankWaiters s b).held = s.held := by
  unfold bankWaiters
  with_reducible repeat' first
    | rfl
    | refine (State.setFld_held ..).trans ?_


theorem tokenNext_held (s : State) (b : Nat) (x : Nat) : (tokenNext s b x).held = s.held := by
  unfold tokenNext
  with_reducible repeat' first
    | rfl
    | refine (State.setBank_held ..).trans ?_
    | refine (State.setFld_held ..).trans ?_
    | refine (bankSource_held ..).trans ?_
    | refine (bankWaiters_held ..).trans ?_
    | refine (tokenGrant_held ..).trans ?_
    | split


theorem tokenLeave_held (s : State) (n : Nat) (x : Nat) : (tokenLeave s n x).held = s.held := by
  unfold tokenLeave
  with_reducible repeat' first
    | rfl
    | refine ite_held ?_ ?_
    | intro _
    | refine (State.setBank_held ..).trans ?_
    | refine (bankWaiters_held ..).trans ?_
    | refine (recordWait_held ..).trans ?_
    | refine (tokenNext_held ..).trans ?_


theorem vdShow_held (s : State) (n : Nat) (lowSide : Bool) : (vdShow s n lowSide).held = s.held := by
  unfold vdShow
  with_reducible repeat' first
    | rfl
    | refine (State.setBit_held ..).trans ?_
    | refine (bankSwitch_held ..).trans ?_


theorem vdToRelease_held (s : State) (n : Nat) (x : Nat) (fast : Bool) : (vdToRelease s n x fast).held = s.held := by
  unfold vdToRelease
  with_reducible repeat' first
    | rfl
    | refine ite_held ?_ ?_
    | intro _
    | refine (State.setFld_held ..).trans ?_
    | refine (State.setVd_held ..).trans ?_
    | refine (tokenLeave_held ..).trans ?_
    | refine (vdShow_held ..).trans ?_


theorem vdDrop_held (s : State) (n : Nat) : (vdDrop s n).held = s.held := by
  unfold vdDrop
  with_reducible repeat' first
    | rfl
    | refine ite_held ?_ ?_
    | intro _
    | refine (State.setBit_held ..).trans ?_


theorem vdStop_held (s : State) (n : Nat) (x : Nat) : (vdStop s n x).held = s.held := by
  unfold vdStop
  with_reducible repeat' first
    | rfl
    | refine (State.setFld_held ..).trans ?_
    | refine (State.setVd_held ..).trans ?_
    | refine (tokenLeave_held ..).trans ?_
    | refine (vdShow_held ..).trans ?_


theorem vdEnd_held (s : State) (n : Nat) : (vdEnd s n).held = s.held := by
  unfold vdEnd
  with_reducible repeat' first
    | rfl
    | refine (State.setBit_held ..).trans ?_
    | refine (vdDrop_held ..).trans ?_
    | refine (vdStop_held ..).trans ?_


theorem vdSafe_held (s : State) (n : Nat) : (vdSafe s n).held = s.held := by
  unfold vdSafe
  with_reducible repeat' first
    | rfl
    | refine ite_held ?_ ?_
    | intro _
    | refine (State.setBit_held ..).trans ?_
    | refine (bankSwitch_held ..).trans ?_
    | refine (vdToRelease_held ..).trans ?_


theorem sinkApply_held (s : State) (n : Nat) : (sinkApply s n).held = s.held := by
  unfold sinkApply
  with_reducible repeat' first
    | rfl
    | refine (State.setBit_held ..).trans ?_
    | refine (State.setFld_held ..).trans ?_


theorem stageApply_held (s : State) (g : Nat) : (stageApply s g).held = s.held := by
  unfold stageApply
  with_reducible repeat' first
    | rfl
    | refine (State.each_held _ _ _ ?_).trans ?_
    | refine ite_held ?_ ?_
    | intro _
    | refine (State.setBit_held ..).trans ?_
    | refine (State.setSink_held ..).trans ?_
    | refine (State.setStage_held ..).trans ?_
    | refine (inrushEdge_held ..).trans ?_
    | refine (sinkApply_held ..).trans ?_


theorem sinkSafe_held (s : State) (n : Nat) : (sinkSafe s n).held = s.held := by
  unfold sinkSafe
  with_reducible repeat' first
    | rfl
    | refine (State.setBit_held ..).trans ?_
    | refine (sinkApply_held ..).trans ?_


theorem matrixDark_held (s : State) : (matrixDark s).held = s.held := by
  unfold matrixDark
  with_reducible repeat' first
    | rfl
    | refine (State.setFlds_held ..).trans ?_


theorem matrixApply_held (s : State) : (matrixApply s).held = s.held := by
  unfold matrixApply
  with_reducible repeat' first
    | rfl
    | refine ite_held ?_ ?_
    | intro _
    | refine (State.setBit_held ..).trans ?_
    | refine (matrixDark_held ..).trans ?_


theorem matrixSafe_held (s : State) : (matrixSafe s).held = s.held := by
  unfold matrixSafe
  with_reducible repeat' first
    | rfl
    | refine (State.setBit_held ..).trans ?_
    | refine (matrixApply_held ..).trans ?_


theorem applyAll_held (s : State) : (applyAll s).held = s.held := by
  unfold applyAll
  with_reducible repeat' first
    | rfl
    | refine (State.each_held _ _ _ ?_).trans ?_
    | intro _
    | refine (bankSwitch_held ..).trans ?_
    | refine (hbApply_held ..).trans ?_
    | refine (lswApply_held ..).trans ?_
    | refine (matrixApply_held ..).trans ?_
    | refine (stageApply_held ..).trans ?_


theorem safeAll_held (s : State) : (safeAll s).held = s.held := by
  unfold safeAll
  with_reducible repeat' first
    | rfl
    | refine (State.each_held _ _ _ ?_).trans ?_
    | intro _
    | refine (hbSafe_held ..).trans ?_
    | refine (lswSafe_held ..).trans ?_
    | refine (matrixSafe_held ..).trans ?_
    | refine (sinkSafe_held ..).trans ?_
    | refine (vdSafe_held ..).trans ?_


theorem pksBleed_held (s : State) : (pksBleed s).held = s.held := by
  unfold pksBleed
  with_reducible repeat' first
    | rfl
    | refine (State.setBit_held ..).trans ?_


theorem outputsOff_held (s : State) : (outputsOff s).held = s.held := by
  unfold outputsOff
  with_reducible repeat' first
    | rfl
    | refine (State.each_held _ _ _ ?_).trans ?_
    | intro _
    | refine (State.setBit_held ..).trans ?_
    | refine (applyAll_held ..).trans ?_
    | refine (pksBleed_held ..).trans ?_
    | refine (vdStop_held ..).trans ?_


theorem roundStop_held (s : State) : (roundStop s).held = s.held := by
  unfold roundStop
  with_reducible repeat' first
    | rfl
    | (fail_if_no_progress refine (mk_held ..).trans ?_)
    | refine (State.ask_held ..).trans ?_
    | refine (State.setFlds_held ..).trans ?_
    | split


theorem sleepDisarm_held (s : State) : (sleepDisarm s).held = s.held := by
  unfold sleepDisarm
  with_reducible repeat' first
    | rfl
    | refine (State.setBit_held ..).trans ?_
    | refine (State.setFld_held ..).trans ?_


theorem sleepCancel_held (s : State) : (sleepCancel s).held = s.held := by
  unfold sleepCancel
  with_reducible repeat' first
    | rfl
    | refine ite_held ?_ ?_
    | intro _
    | refine (sleepDisarm_held ..).trans ?_


theorem logWrite_held (s : State) (r : LogRec) : (logWrite s r).held = s.held := by
  unfold logWrite
  with_reducible repeat' first
    | rfl
    | (fail_if_no_progress refine (mk_held ..).trans ?_)
    | refine ite_held ?_ ?_
    | intro _
    | refine (State.incFld_held ..).trans ?_
    | refine (State.setBit_held ..).trans ?_
    | refine (State.setFld_held ..).trans ?_


theorem showFlags_held (s : State) : (showFlags s).held = s.held := by
  unfold showFlags
  with_reducible repeat' first
    | rfl
    | refine (State.setFlds_held ..).trans ?_


theorem setFlag_held (s : State) (f : FaultFlag) : (setFlag s f).held = s.held := by
  unfold setFlag
  with_reducible repeat' first
    | rfl
    | (fail_if_no_progress refine (mk_held ..).trans ?_)
    | refine ite_held ?_ ?_
    | intro _
    | refine (showFlags_held ..).trans ?_


theorem showHeld_held (s : State) : (showHeld s).held = s.held := by
  unfold showHeld
  with_reducible repeat' first
    | rfl
    | refine (State.setFld_held ..).trans ?_


theorem holdUnit_held (s : State) (u : HeldUnit) : (holdUnit s u).held = s.held := by
  unfold holdUnit
  with_reducible repeat' first
    | rfl
    | refine (State.each_held _ _ _ ?_).trans ?_
    | intro _
    | refine (bankSwitch_held ..).trans ?_
    | refine (hbSafe_held ..).trans ?_
    | refine (lswSafe_held ..).trans ?_
    | refine (matrixSafe_held ..).trans ?_
    | refine (sinkSafe_held ..).trans ?_
    | refine (vdSafe_held ..).trans ?_
    | split


theorem takeHold_held (s : State) (src : Nat) (unit : Nat) (u : HeldUnit) : (takeHold s src unit u).1.held = s.held := by
  unfold takeHold
  with_reducible repeat' first
    | rfl
    | refine (State.ask_held ..).trans ?_
    | refine (State.setFlds_held ..).trans ?_
    | refine (holdUnit_held ..).trans ?_
    | refine (showHeld_held ..).trans ?_
    | split


theorem dropInFlight_held (s : State) (lanes : List Nat) : (dropInFlight s lanes).held = s.held := by
  unfold dropInFlight
  with_reducible repeat' first
    | rfl
    | (fail_if_no_progress refine (mk_held ..).trans ?_)


theorem laneHalt_held (s : State) (n : Nat) : (laneHalt s n).held = s.held := by
  unfold laneHalt
  with_reducible repeat' first
    | rfl
    | refine (State.setLane_held ..).trans ?_


theorem safeZone_held (s : State) : (safeZone s).held = s.held := by
  unfold safeZone
  with_reducible repeat' first
    | rfl
    | (fail_if_no_progress refine (mk_held ..).trans ?_)
    | refine (State.setBit_held ..).trans ?_
    | refine (roundStop_held ..).trans ?_
    | refine (safeAll_held ..).trans ?_


theorem dropQueued_held (s : State) : (dropQueued s).held = s.held := by
  unfold dropQueued
  with_reducible repeat' first
    | rfl
    | (fail_if_no_progress refine (mk_held ..).trans ?_)


theorem terminal_held (s : State) : (terminal s).held = s.held := by
  unfold terminal
  with_reducible repeat' first
    | rfl
    | (fail_if_no_progress refine (mk_held ..).trans ?_)
    | refine (State.each_held _ _ _ ?_).trans ?_
    | refine ite_held ?_ ?_
    | intro _
    | refine (State.enter_held ..).trans ?_
    | refine (State.setBit_held ..).trans ?_
    | refine (dropInFlight_held ..).trans ?_
    | refine (dropQueued_held ..).trans ?_
    | refine (laneHalt_held ..).trans ?_
    | refine (outputsOff_held ..).trans ?_
    | refine (roundStop_held ..).trans ?_
    | refine (sleepCancel_held ..).trans ?_


theorem react_held (s : State) (cls : Nat) : (react s cls).held = s.held := by
  unfold react
  with_reducible repeat' first
    | rfl
    | refine (State.setBit_held ..).trans ?_
    | refine (safeZone_held ..).trans ?_
    | refine (terminal_held ..).trans ?_
    | split


theorem deferRaise_held (s : State) (r : Raise) : (deferRaise s r).held = s.held := by
  unfold deferRaise
  with_reducible repeat' first
    | rfl
    | (fail_if_no_progress refine (mk_held ..).trans ?_)
    | refine ite_held ?_ ?_
    | intro _
    | split


theorem countRaise_held (s : State) (r : Raise) (act : Nat) : (countRaise s r act).held = s.held := by
  unfold countRaise
  with_reducible repeat' first
    | rfl
    | refine (State.setFld_held ..).trans ?_
    | refine (State.setFlds_held ..).trans ?_


theorem raiseOne_held (s : State) (r : Raise) : (raiseOne s r).held = s.held := by
  unfold raiseOne
  split
  · exact deferRaise_held _ _
  split
  · exact (logWrite_held _ _).trans (countRaise_held _ _ _)
  refine (react_held _ _).trans ((logWrite_held _ _).trans ((countRaise_held _ _ _).trans ?_))
  split
  · split
    · exact (takeHold_held _ _ _ _).trans ((setFlag_held _ _).trans (setFlag_held _ _))
    · exact (setFlag_held _ _).trans (setFlag_held _ _)
  · exact (setFlag_held _ _).trans (setFlag_held _ _)

theorem drainRaises_held (k : Nat) (s : State) : (drainRaises k s).held = s.held := by
  induction k generalizing s with
  | zero => rfl
  | succ k ih =>
    unfold drainRaises
    split
    · rfl
    · exact (ih _).trans ((raiseOne_held _ _).trans rfl)

theorem settleRaises_held (s : State) : (settleRaises s).held = s.held := by
  unfold settleRaises
  with_reducible repeat' first
    | rfl
    | refine (drainRaises_held ..).trans ?_


theorem raiseWith_held (s : State) (src : Nat) (unit : Nat) (cls : Nat) (detail : BitVec 48) (forced : Bool) : (raiseWith s src
    unit cls detail forced).held = s.held := by
  unfold raiseWith
  with_reducible repeat' first
    | rfl
    | refine (raiseOne_held ..).trans ?_
    | refine (settleRaises_held ..).trans ?_


theorem raiseFault_held (s : State) (src : Nat) (unit : Nat) (cls : Nat) : (raiseFault s src unit cls).held = s.held := by
  unfold raiseFault
  with_reducible repeat' first
    | rfl
    | refine (raiseWith_held ..).trans ?_


theorem takeDeferred_held (s : State) (r : Raise) : (takeDeferred s r).held = s.held := by
  unfold takeDeferred
  with_reducible repeat' first
    | rfl
    | refine (countRaise_held ..).trans ?_
    | refine (logWrite_held ..).trans ?_
    | refine (react_held ..).trans ?_
    | refine (setFlag_held ..).trans ?_
    | refine (settleRaises_held ..).trans ?_


theorem gated_held (s : State) (b : By) (act : State → State) (hact : ∀ a2, (act a2).held = a2.held) : (gated s b act).held =
    s.held := by
  unfold gated
  with_reducible repeat' first
    | rfl
    | refine ite_held ?_ ?_
    | intro _
    | refine (raiseFault_held ..).trans ?_
    | refine (hact ..).trans ?_


theorem execFaultForce_held (by_ : By) (src : BitVec 16) (cls : Fin 4) (unit : BitVec 14) (s : State) : Res.held
    (execFaultForce by_ src cls unit s) s.held := by
  unfold execFaultForce
  with_reducible repeat' first
    | rfl
    | refine next_held ?_
    | refine ite_held ?_ ?_
    | intro _
    | refine (gated_held _ _ _ ?_).trans ?_
    | refine (raiseWith_held ..).trans ?_


theorem zoneMayEnd_held (s : State) : (zoneMayEnd s).held = s.held := by
  unfold zoneMayEnd
  with_reducible repeat' first
    | rfl
    | (fail_if_no_progress refine (mk_held ..).trans ?_)
    | refine ite_held ?_ ?_
    | intro _


theorem execFaultAck_held (by_ : By) (classes : BitVec 4) (s : State) : Res.held (execFaultAck by_ classes s) s.held := by
  unfold execFaultAck
  with_reducible repeat' first
    | rfl
    | (fail_if_no_progress refine (mk_held ..).trans ?_)
    | refine next_held ?_
    | refine ite_held ?_ ?_
    | refine iteRes_held ?_ ?_
    | intro _
    | refine (State.setBit_held ..).trans ?_
    | refine (raiseFault_held ..).trans ?_
    | refine (showFlags_held ..).trans ?_
    | refine (zoneMayEnd_held ..).trans ?_


theorem execFaultAckone_held (by_ : By) (src : BitVec 16) (unit : BitVec 14) (s : State) : Res.held (execFaultAckone by_ src
    unit s) s.held := by
  unfold execFaultAckone
  with_reducible repeat' first
    | rfl
    | (fail_if_no_progress refine (mk_held ..).trans ?_)
    | refine next_held ?_
    | refine ite_held ?_ ?_
    | refine iteRes_held ?_ ?_
    | intro _
    | refine (State.setBit_held ..).trans ?_
    | refine (raiseFault_held ..).trans ?_
    | refine (showFlags_held ..).trans ?_
    | refine (zoneMayEnd_held ..).trans ?_


theorem execRefclkFault_held (s : State) : Res.held (execRefclkFault s) s.held := by
  unfold execRefclkFault
  with_reducible repeat' first
    | rfl
    | refine next_held ?_
    | refine (raiseFault_held ..).trans ?_


theorem execTerminalDumpDone_held (s : State) : Res.held (execTerminalDumpDone s) s.held := by
  unfold execTerminalDumpDone
  with_reducible repeat' first
    | rfl
    | (fail_if_no_progress refine (mk_held ..).trans ?_)
    | refine next_held ?_
    | refine ite_held ?_ ?_
    | intro _
    | split


theorem execLogClear_held (by_ : By) (s : State) : Res.held (execLogClear by_ s) s.held := by
  unfold execLogClear
  with_reducible repeat' first
    | rfl
    | (fail_if_no_progress refine (mk_held ..).trans ?_)
    | refine next_held ?_
    | refine iteRes_held ?_ ?_
    | intro _
    | refine (State.setFlds_held ..).trans ?_
    | refine (raiseFault_held ..).trans ?_


theorem execLogClrdump_held (by_ : By) (s : State) : Res.held (execLogClrdump by_ s) s.held := by
  unfold execLogClrdump
  with_reducible repeat' first
    | rfl
    | (fail_if_no_progress refine (mk_held ..).trans ?_)
    | refine next_held ?_
    | refine iteRes_held ?_ ?_
    | intro _
    | refine (State.setBit_held ..).trans ?_
    | refine (raiseFault_held ..).trans ?_


theorem execTerminalLatchClear_held (s : State) : Res.held (execTerminalLatchClear s) s.held := by
  unfold execTerminalLatchClear
  with_reducible repeat' first
    | rfl
    | (fail_if_no_progress refine (mk_held ..).trans ?_)
    | refine next_held ?_
    | refine ite_held ?_ ?_
    | intro _


theorem setAcc_held (s : State) (a : Nat) (v : Nat) : (setAcc s a v).held = s.held := by
  unfold setAcc
  with_reducible repeat' first
    | rfl
    | (fail_if_no_progress refine (mk_held ..).trans ?_)
    | refine ite_held ?_ ?_
    | intro _
    | refine (State.setFld_held ..).trans ?_


theorem bankZero_held (s : State) (b : Nat) : (bankZero s b).held = s.held := by
  unfold bankZero
  with_reducible repeat' first
    | rfl
    | refine (State.each_held _ _ _ ?_).trans ?_
    | intro _
    | refine (bankSwitch_held ..).trans ?_
    | refine (vdDrop_held ..).trans ?_
    | refine (vdToRelease_held ..).trans ?_


theorem ledgerEff_held (s : State) (c : Nat) : (ledgerEff s c).held = s.held := by
  unfold ledgerEff
  with_reducible repeat' first
    | rfl
    | refine ite_held ?_ ?_
    | intro _
    | refine (State.setFlds_held ..).trans ?_
    | refine (bankSwitch_held ..).trans ?_
    | refine (bankZero_held ..).trans ?_
    | refine (hbApply_held ..).trans ?_
    | refine (lswApply_held ..).trans ?_
    | refine (matrixApply_held ..).trans ?_
    | refine (stageApply_held ..).trans ?_


theorem ledgerCap_held (s : State) (c : Nat) (b : Bool) : (ledgerCap s c b).held = s.held := by
  unfold ledgerCap
  with_reducible repeat' first
    | rfl
    | refine (State.each_held _ _ _ ?_).trans ?_
    | refine ite_held ?_ ?_
    | intro _
    | refine (State.setBit_held ..).trans ?_


theorem releaseResv_held (s : State) (c : Nat) : (releaseResv s c).held = s.held := by
  unfold releaseResv
  with_reducible repeat' first
    | rfl
    | refine (State.setFlds_held ..).trans ?_
    | refine (State.setLedger1_held ..).trans ?_
    | refine (ledgerEff_held ..).trans ?_


theorem lowerTo_held (s : State) (c : Nat) (r : Nat) : (lowerTo s c r).held = s.held := by
  unfold lowerTo
  with_reducible repeat' first
    | rfl
    | refine (State.setFlds_held ..).trans ?_
    | refine (State.setLedger1_held ..).trans ?_
    | refine (ledgerCap_held ..).trans ?_
    | refine (ledgerEff_held ..).trans ?_


theorem lowerOne_held (w : List (Nat × Rat)) (bud : Nat) (least : Nat → Nat) (s : State) (c : Nat) : (lowerOne w bud least s
    c).held = s.held := by
  unfold lowerOne
  with_reducible repeat' first
    | rfl
    | refine ite_held ?_ ?_
    | intro _
    | refine (lowerTo_held ..).trans ?_
    | refine (raiseFault_held ..).trans ?_


theorem lowerSet_held (s : State) (w : List (Nat × Rat)) (bud : Nat) : (lowerSet s w bud).held = s.held := by
  unfold lowerSet
  with_reducible repeat' first
    | rfl
    | refine (foldl_held _ ?_ _ _).trans ?_
    | intro _
    | refine (lowerOne_held ..).trans ?_


theorem segStore_held (s : State) (i : Nat) (g : Segment) (w : List (Nat × Rat)) (theta : Int) (mA : Rat) : (segStore s i g w
    theta mA).held = s.held := by
  unfold segStore
  with_reducible repeat' first
    | rfl
    | refine (State.setFlds_held ..).trans ?_


theorem segStep_held (s : State) (dt : Nat) (cur : Nat → Rat) (sup : Nat → Rat) : (segStep s dt cur sup).held = s.held := by
  unfold segStep
  with_reducible repeat' first
    | rfl
    | refine (foldl_held _ ?_ _ _).trans ?_
    | intro _
    | refine (segStore_held ..).trans ?_


theorem segTrips_held (s : State) (was : Nat → Int) (forced : Option Nat) : (segTrips s was forced).held = s.held := by
  unfold segTrips
  with_reducible repeat' first
    | rfl
    | refine (foldl_held _ ?_ _ _).trans ?_
    | refine ite_held ?_ ?_
    | intro _
    | refine (State.satAdd_held ..).trans ?_
    | refine (raiseWith_held ..).trans ?_


theorem lowerAll_held (s : State) : (lowerAll s).held = s.held := by
  unfold lowerAll
  with_reducible repeat' first
    | rfl
    | refine (foldl_held _ ?_ _ _).trans ?_
    | intro _
    | refine (lowerSet_held ..).trans ?_


theorem inputStep_held (s : State) (dt : Nat) (a : Nat) (mA : Nat) : (inputStep s dt a mA).held = s.held := by
  unfold inputStep
  with_reducible repeat' first
    | rfl
    | refine ite_held ?_ ?_
    | intro _
    | refine (raiseFault_held ..).trans ?_
    | refine (setAcc_held ..).trans ?_


theorem inputShow_held (s : State) (a : Nat) (mA : Nat) : (inputShow s a mA).held = s.held := by
  unfold inputShow
  with_reducible repeat' first
    | rfl
    | refine (State.setFlds_held ..).trans ?_


theorem ledgerRetain_held (s : State) : (ledgerRetain s).held = s.held := by
  unfold ledgerRetain
  with_reducible repeat' first
    | rfl
    | (fail_if_no_progress refine (mk_held ..).trans ?_)


theorem grant_held (s : State) (c : Nat) (st : Nat) (ir : Nat) (ti : Nat) : (grant s c st ir ti).held = s.held := by
  unfold grant
  with_reducible repeat' first
    | rfl
    | refine (State.setFlds_held ..).trans ?_
    | refine (State.setLedger1_held ..).trans ?_
    | refine (ledgerCap_held ..).trans ?_
    | refine (ledgerEff_held ..).trans ?_


theorem ledgerAdmit_held (s : State) (c : Nat) (ist : Nat) : (ledgerAdmit s c ist).1.held = s.held := by
  unfold ledgerAdmit
  with_reducible repeat' first
    | rfl
    | refine (grant_held ..).trans ?_
    | split
    | (extract_lets +onlyGivenNames z)


theorem putAnswer_held (s : State) (lane : Nat) (at' : Nat) (w : Word32) : (putAnswer s lane at' w).held = s.held := by
  unfold putAnswer
  with_reducible repeat' first
    | rfl
    | (fail_if_no_progress refine (mk_held ..).trans ?_)


theorem answerWaiting_held (s : State) : (answerWaiting s).held = s.held := by
  unfold answerWaiting
  with_reducible repeat' first
    | rfl
    | (fail_if_no_progress refine (mk_held ..).trans ?_)
    | refine (foldl_held _ ?_ _ _).trans ?_
    | intro _
    | refine (ledgerAdmit_held ..).trans ?_
    | refine (putAnswer_held ..).trans ?_


theorem execLedgerUpdate_held (m : LedgerIn) (s : State) : Res.held (execLedgerUpdate m s) s.held := by
  unfold execLedgerUpdate
  with_reducible repeat' first
    | rfl
    | (fail_if_no_progress refine (mk_held ..).trans ?_)
    | refine next_held ?_
    | refine ite_held ?_ ?_
    | refine iteRes_held ?_ ?_
    | intro _
    | refine (State.reach_held ..).trans ?_
    | refine (answerWaiting_held ..).trans ?_
    | refine (inputShow_held ..).trans ?_
    | refine (inputStep_held ..).trans ?_
    | refine (ledgerRetain_held ..).trans ?_
    | refine (lowerAll_held ..).trans ?_
    | refine (raiseFault_held ..).trans ?_
    | refine (segStep_held ..).trans ?_
    | refine (segTrips_held ..).trans ?_


theorem execLedgerAdmit_held (lane : Fin 4) (ch : BitVec 7) (ist : BitVec 16) (s : State) : Res.held (execLedgerAdmit lane ch
    ist s) s.held := by
  unfold execLedgerAdmit
  with_reducible repeat' first
    | rfl
    | (fail_if_no_progress refine (mk_held ..).trans ?_)
    | refine next_held ?_
    | refine iteRes_held ?_ ?_
    | intro _
    | refine (ledgerAdmit_held ..).trans ?_
    | refine (putAnswer_held ..).trans ?_


theorem execLedgerRelease_held (lane : Fin 4) (ch : BitVec 7) (s : State) : Res.held (execLedgerRelease lane ch s) s.held := by
  unfold execLedgerRelease
  with_reducible repeat' first
    | rfl
    | refine next_held ?_
    | refine iteRes_held ?_ ?_
    | intro _
    | refine (putAnswer_held ..).trans ?_
    | refine (releaseResv_held ..).trans ?_
    | refine (settleRaises_held ..).trans ?_


theorem execInrushEnd_held (ch : Fin 120) (s : State) : Res.held (execInrushEnd ch s) s.held := by
  unfold execInrushEnd
  with_reducible repeat' first
    | rfl
    | refine next_held ?_
    | refine (State.reach_held ..).trans ?_
    | refine (State.setFlds_held ..).trans ?_
    | refine (State.setLedger1_held ..).trans ?_
    | refine (ledgerEff_held ..).trans ?_
    | refine (settleRaises_held ..).trans ?_
    | split
    | (extract_lets +onlyGivenNames z)


theorem execLedgerForceSegtrip_held (by_ : By) (seg : Byte) (s : State) : Res.held (execLedgerForceSegtrip by_ seg s) s.held :=
    by
  unfold execLedgerForceSegtrip
  with_reducible repeat' first
    | rfl
    | (fail_if_no_progress refine (mk_held ..).trans ?_)
    | refine next_held ?_
    | intro _
    | refine (State.setFld_held ..).trans ?_
    | refine (gated_held _ _ _ ?_).trans ?_


theorem ledgerCold_held (s : State) : (ledgerCold s).held = s.held := by
  unfold ledgerCold
  with_reducible repeat' first
    | rfl
    | refine (foldl_held _ ?_ _ _).trans ?_
    | refine (State.each_held _ _ _ ?_).trans ?_
    | intro _
    | refine (State.setBit_held ..).trans ?_
    | refine (raiseFault_held ..).trans ?_
    | refine (releaseResv_held ..).trans ?_
    | refine (segStore_held ..).trans ?_
    | refine (setAcc_held ..).trans ?_


theorem ledgerResume_held (s : State) (age : Nat) : (ledgerResume s age).held = s.held := by
  unfold ledgerResume
  with_reducible repeat' first
    | rfl
    | refine (State.each_held _ _ _ ?_).trans ?_
    | refine ite_held ?_ ?_
    | intro _
    | refine (State.setBit_held ..).trans ?_
    | refine (inputStep_held ..).trans ?_
    | refine (lowerAll_held ..).trans ?_
    | refine (releaseResv_held ..).trans ?_
    | refine (segStep_held ..).trans ?_
    | refine (segTrips_held ..).trans ?_


theorem ledgerFirst_held (s : State) : (ledgerFirst s).held = s.held := by
  unfold ledgerFirst
  with_reducible repeat' first
    | rfl
    | refine ite_held ?_ ?_
    | intro _
    | refine (State.setFld_held ..).trans ?_
    | refine (ledgerCold_held ..).trans ?_
    | refine (ledgerResume_held ..).trans ?_
    | refine (ledgerRetain_held ..).trans ?_
    | split


theorem lswCommit_held (s : State) (n : Nat) (new : Word32) : (lswCommit s n new).held = s.held := by
  unfold lswCommit
  with_reducible repeat' first
    | rfl
    | refine ite_held ?_ ?_
    | intro _
    | refine (State.setBit_held ..).trans ?_
    | refine (State.setEffWord_held ..).trans ?_
    | refine (State.setFlds_held ..).trans ?_
    | refine (State.setLedger1_held ..).trans ?_
    | refine (State.setLsw_held ..).trans ?_
    | refine (lswApply_held ..).trans ?_
    | refine (releaseResv_held ..).trans ?_


theorem lswPhasePoint_held (s : State) (n : Nat) (start : Bool) : (lswPhasePoint s n start).held = s.held := by
  unfold lswPhasePoint
  with_reducible repeat' first
    | rfl
    | refine (State.setLsw_held ..).trans ?_
    | refine (lswApply_held ..).trans ?_


theorem lswRefill_held (s : State) (n : Nat) : (lswRefill s n).held = s.held := by
  unfold lswRefill
  with_reducible repeat' first
    | rfl
    | refine (State.setFld_held ..).trans ?_
    | refine (State.setLsw_held ..).trans ?_


theorem lswProtect_held (s : State) (n : Nat) (forced : Bool) : (lswProtect s n forced).held = s.held := by
  unfold lswProtect
  with_reducible repeat' first
    | rfl
    | refine ite_held ?_ ?_
    | intro _
    | refine (State.setBit_held ..).trans ?_
    | refine (State.setFlds_held ..).trans ?_
    | refine (State.setLsw_held ..).trans ?_
    | refine (lswApply_held ..).trans ?_
    | refine (raiseWith_held ..).trans ?_
    | refine (settleRaises_held ..).trans ?_


theorem lswTrip_held (s : State) (n : Nat) (ev : Field) (cnt : Field) (src : Nat) (forced : Bool) : (lswTrip s n ev cnt src
    forced).held = s.held := by
  unfold lswTrip
  with_reducible repeat' first
    | rfl
    | refine (State.satAdd_held ..).trans ?_
    | refine (State.setBit_held ..).trans ?_
    | refine (lswProtect_held ..).trans ?_
    | refine (raiseWith_held ..).trans ?_


theorem execLimitTimeout_held (n : Fin 96) (s : State) : Res.held (execLimitTimeout n s) s.held := by
  unfold execLimitTimeout
  with_reducible repeat' first
    | rfl
    | refine next_held ?_
    | refine ite_held ?_ ?_
    | intro _
    | refine (lswTrip_held ..).trans ?_


theorem execHardShort_held (n : Fin 96) (s : State) : Res.held (execHardShort n s) s.held := by
  unfold execHardShort
  with_reducible repeat' first
    | rfl
    | refine next_held ?_
    | refine ite_held ?_ ?_
    | intro _
    | refine (lswTrip_held ..).trans ?_


theorem lswThermal_held (s : State) (n : Nat) (forced : Bool) : (lswThermal s n forced).held = s.held := by
  unfold lswThermal
  with_reducible repeat' first
    | rfl
    | refine (State.setBit_held ..).trans ?_
    | refine (lswTrip_held ..).trans ?_


theorem execOverTemperatureTrip_held (n : Fin 96) (s : State) : Res.held (execOverTemperatureTrip n s) s.held := by
  unfold execOverTemperatureTrip
  with_reducible repeat' first
    | rfl
    | refine next_held ?_
    | refine ite_held ?_ ?_
    | intro _
    | refine (lswThermal_held ..).trans ?_


theorem execCurrentLimit_held (n : Fin 96) (limiting : Bool) (s : State) : Res.held (execCurrentLimit n limiting s) s.held := by
  unfold execCurrentLimit
  with_reducible repeat' first
    | rfl
    | refine next_held ?_
    | refine (State.setBit_held ..).trans ?_


theorem execOpenLoadOn_held (n : Fin 96) (s : State) : Res.held (execOpenLoadOn n s) s.held := by
  unfold execOpenLoadOn
  with_reducible repeat' first
    | rfl
    | refine next_held ?_
    | refine ite_held ?_ ?_
    | intro _
    | refine (State.setBit_held ..).trans ?_
    | refine (raiseFault_held ..).trans ?_


theorem execOffStateDiag_held (n : Fin 96) (vout : Int) (s : State) : Res.held (execOffStateDiag n vout s) s.held := by
  unfold execOffStateDiag
  with_reducible repeat' first
    | rfl
    | refine next_held ?_
    | refine ite_held ?_ ?_
    | intro _
    | refine (State.setBit_held ..).trans ?_
    | refine (State.setFld_held ..).trans ?_
    | refine (raiseFault_held ..).trans ?_


theorem execClampTrip_held (n : Fin 96) (s : State) : Res.held (execClampTrip n s) s.held := by
  unfold execClampTrip
  with_reducible repeat' first
    | rfl
    | refine next_held ?_
    | refine (clampTrip_held ..).trans ?_
    | refine (lswApply_held ..).trans ?_
    | refine (settleRaises_held ..).trans ?_


theorem execRetryRestart_held (n : Fin 96) (s : State) : Res.held (execRetryRestart n s) s.held := by
  unfold execRetryRestart
  with_reducible repeat' first
    | rfl
    | refine next_held ?_
    | refine iteRes_held ?_ ?_
    | intro _
    | refine (State.reach_held ..).trans ?_
    | refine (State.satAdd_held ..).trans ?_
    | refine (State.setBit_held ..).trans ?_
    | refine (State.setFld_held ..).trans ?_
    | refine (State.setLsw_held ..).trans ?_
    | refine (lswApply_held ..).trans ?_
    | refine (settleRaises_held ..).trans ?_


theorem execRetryRefill_held (n : Fin 96) (s : State) : Res.held (execRetryRefill n s) s.held := by
  unfold execRetryRefill
  with_reducible repeat' first
    | rfl
    | refine next_held ?_
    | refine iteRes_held ?_ ?_
    | intro _
    | refine (State.later_held ..).trans ?_
    | refine (lswRefill_held ..).trans ?_


theorem execReload_held (n : Fin 96) (s : State) : Res.held (execReload n s) s.held := by
  unfold execReload
  with_reducible repeat' first
    | rfl
    | refine next_held ?_
    | refine (State.setLsw_held ..).trans ?_


theorem lswReloadNow_held (s : State) (n : Nat) : (lswReloadNow s n).held = s.held := by
  unfold lswReloadNow
  with_reducible repeat' first
    | rfl
    | refine (State.setBit_held ..).trans ?_
    | refine (State.setLsw_held ..).trans ?_
    | refine (lswApply_held ..).trans ?_
    | refine (lswRefill_held ..).trans ?_


theorem execFwTest_held (n : Fin 96) (s : State) : Res.held (execFwTest n s) s.held := by
  unfold execFwTest
  with_reducible repeat' first
    | rfl
    | refine next_held ?_
    | refine iteRes_held ?_ ?_
    | intro _
    | refine (State.setBit_held ..).trans ?_
    | refine (State.setEff_held ..).trans ?_
    | refine (State.setFld_held ..).trans ?_
    | refine (State.setLsw_held ..).trans ?_
    | refine (lswApply_held ..).trans ?_
    | refine (settleRaises_held ..).trans ?_


theorem execFwTestEnd_held (n : Fin 96) (vmin : Int) (current : Nat) (s : State) : Res.held (execFwTestEnd n vmin current s)
    s.held := by
  unfold execFwTestEnd
  with_reducible repeat' first
    | rfl
    | refine next_held ?_
    | refine iteRes_held ?_ ?_
    | refine ite_held ?_ ?_
    | intro _
    | refine (State.free_held ..).trans ?_
    | refine (State.later_held ..).trans ?_
    | refine (State.setBit_held ..).trans ?_
    | refine (State.setFld_held ..).trans ?_
    | refine (State.setFlds_held ..).trans ?_
    | refine (State.setLsw_held ..).trans ?_
    | refine (lswApply_held ..).trans ?_
    | refine (settleRaises_held ..).trans ?_


theorem execDinEdge_held (pin : Fin 24) (level : Bool) (s : State) : Res.held (execDinEdge pin level s) s.held := by
  unfold execDinEdge
  with_reducible repeat' first
    | rfl
    | refine next_held ?_
    | refine (State.each_held _ _ _ ?_).trans ?_
    | refine ite_held ?_ ?_
    | intro _
    | refine (State.setBit_held ..).trans ?_
    | refine (State.setFld_held ..).trans ?_
    | refine (lswApply_held ..).trans ?_
    | refine (settleRaises_held ..).trans ?_


theorem pinCheck_held (s : State) (code : Nat) (p : Nat) (v : Nat) : (pinCheck s code p v).held = s.held := by
  unfold pinCheck
  with_reducible repeat' first
    | rfl
    | refine ite_held ?_ ?_
    | intro _
    | refine (State.setFld_held ..).trans ?_
    | refine (raiseFault_held ..).trans ?_


theorem execMirrorScanConversion_held (code : Fin 14) (pins : List Nat) (last : Bool) (s : State) : Res.held
    (execMirrorScanConversion code pins last s) s.held := by
  unfold execMirrorScanConversion
  with_reducible repeat' first
    | rfl
    | (fail_if_no_progress refine (mk_held ..).trans ?_)
    | refine next_held ?_
    | refine (foldl_held _ ?_ _ _).trans ?_
    | refine ite_held ?_ ?_
    | intro _
    | refine (State.reach_held ..).trans ?_
    | refine (State.setBit_held ..).trans ?_
    | refine (State.setFld_held ..).trans ?_
    | refine (State.setFlds_held ..).trans ?_
    | refine (pinCheck_held ..).trans ?_
    | split


theorem scanStart_held (s : State) (at' : Nat) : (scanStart s at').held = s.held := by
  unfold scanStart
  with_reducible repeat' first
    | rfl
    | (fail_if_no_progress refine (mk_held ..).trans ?_)
    | refine ite_held ?_ ?_
    | intro _
    | refine (State.setBit_held ..).trans ?_


theorem lswMeasure_held (m : ColIn) (s : State) (n : Nat) : (lswMeasure m s n).held = s.held := by
  unfold lswMeasure
  with_reducible repeat' first
    | rfl
    | refine ite_held ?_ ?_
    | intro _
    | refine (State.setFlds_held ..).trans ?_
    | refine (State.setLsw_held ..).trans ?_
    | refine (raiseFault_held ..).trans ?_


theorem lswHold_held (s : State) (n : Nat) (at' : Nat) : (lswHold s n at').held = s.held := by
  unfold lswHold
  with_reducible repeat' first
    | rfl
    | refine (State.setBit_held ..).trans ?_
    | refine (State.setLsw_held ..).trans ?_


theorem lswExpire_held (s : State) (n : Nat) : (lswExpire s n).held = s.held := by
  unfold lswExpire
  with_reducible repeat' first
    | rfl
    | refine (State.reach_held ..).trans ?_
    | refine (State.setFlds_held ..).trans ?_
    | refine (State.setLsw_held ..).trans ?_
    | refine (lswSafe_held ..).trans ?_
    | split


theorem lswReclaim_held (s : State) (n : Nat) : (lswReclaim s n).held = s.held := by
  unfold lswReclaim
  with_reducible repeat' first
    | rfl
    | refine ite_held ?_ ?_
    | intro _
    | refine (State.setBit_held ..).trans ?_
    | refine (State.setEffWord_held ..).trans ?_
    | refine (State.setLsw_held ..).trans ?_
    | refine (lswApply_held ..).trans ?_
    | refine (raiseFault_held ..).trans ?_
    | split


theorem execLswForceClamp_held (by_ : By) (n : Fin 96) (s : State) : Res.held (execLswForceClamp by_ n s) s.held := by
  unfold execLswForceClamp
  with_reducible repeat' first
    | rfl
    | refine next_held ?_
    | intro _
    | refine (State.setLsw_held ..).trans ?_
    | refine (gated_held _ _ _ ?_).trans ?_


theorem execLswForceTherm_held (by_ : By) (n : Fin 96) (s : State) : Res.held (execLswForceTherm by_ n s) s.held := by
  unfold execLswForceTherm
  with_reducible repeat' first
    | rfl
    | refine next_held ?_
    | intro _
    | refine (gated_held _ _ _ ?_).trans ?_
    | refine (lswThermal_held ..).trans ?_


theorem execLswForceShort_held (by_ : By) (n : Fin 96) (s : State) : Res.held (execLswForceShort by_ n s) s.held := by
  unfold execLswForceShort
  with_reducible repeat' first
    | rfl
    | refine next_held ?_
    | intro _
    | refine (gated_held _ _ _ ?_).trans ?_
    | refine (lswTrip_held ..).trans ?_


theorem execLswForceOpen_held (by_ : By) (n : Fin 96) (s : State) : Res.held (execLswForceOpen by_ n s) s.held := by
  unfold execLswForceOpen
  with_reducible repeat' first
    | rfl
    | refine next_held ?_
    | intro _
    | refine (State.setBit_held ..).trans ?_
    | refine (gated_held _ _ _ ?_).trans ?_
    | refine (raiseWith_held ..).trans ?_


theorem hbSet_held (s : State) (m : Nat) (F : Field) (b : Bool) : (hbSet s m F b).held = s.held := by
  unfold hbSet
  with_reducible repeat' first
    | rfl
    | refine (State.each_held _ _ _ ?_).trans ?_
    | intro _
    | refine (State.setBit_held ..).trans ?_


theorem hbStop_held (s : State) (m : Nat) : (hbStop s m).held = s.held := by
  unfold hbStop
  with_reducible repeat' first
    | rfl
    | refine ite_held ?_ ?_
    | intro _
    | refine (State.setHb_held ..).trans ?_
    | refine (hbApply_held ..).trans ?_
    | refine (hbSet_held ..).trans ?_


theorem hbCount_held (s : State) (m : Nat) : (hbCount s m).held = s.held := by
  unfold hbCount
  with_reducible repeat' first
    | rfl
    | refine ite_held ?_ ?_
    | intro _
    | refine (State.setBit_held ..).trans ?_
    | refine (State.setFld_held ..).trans ?_
    | refine (hbStop_held ..).trans ?_


theorem hbCommit_held (s : State) (n : Nat) (ctrl : Word32) (stop : Word32) : (hbCommit s n ctrl stop).held = s.held := by
  unfold hbCommit
  with_reducible repeat' first
    | rfl
    | refine (foldl_held _ ?_ _ _).trans ?_
    | refine ite_held ?_ ?_
    | intro _
    | refine (State.setEff_held ..).trans ?_
    | refine (State.setEffWord_held ..).trans ?_
    | refine (State.setHb_held ..).trans ?_
    | refine (State.setLedger1_held ..).trans ?_
    | refine (hbApply_held ..).trans ?_
    | refine (hbSet_held ..).trans ?_
    | refine (hbStop_held ..).trans ?_
    | refine (releaseResv_held ..).trans ?_


theorem execReversalBrakeEnd_held (n : Fin 16) (s : State) : Res.held (execReversalBrakeEnd n s) s.held := by
  unfold execReversalBrakeEnd
  with_reducible repeat' first
    | rfl
    | refine next_held ?_
    | refine iteRes_held ?_ ?_
    | intro _
    | refine (State.reach_held ..).trans ?_
    | refine (State.setHb_held ..).trans ?_
    | refine (hbApply_held ..).trans ?_
    | refine (hbSet_held ..).trans ?_
    | refine (hbStop_held ..).trans ?_


theorem pairCommit_held (s : State) (frozen : Nat) : (pairCommit s frozen).held = s.held := by
  unfold pairCommit
  with_reducible repeat' first
    | rfl
    | refine (foldl_held _ ?_ _ _).trans ?_
    | refine ite_held ?_ ?_
    | intro _
    | refine (State.setBit_held ..).trans ?_
    | refine (State.setEff_held ..).trans ?_
    | refine (State.setFld_held ..).trans ?_
    | refine (raiseFault_held ..).trans ?_


theorem hbProtect_held (s : State) (n : Nat) : (hbProtect s n).held = s.held := by
  unfold hbProtect
  with_reducible repeat' first
    | rfl
    | refine (State.setHb_held ..).trans ?_
    | refine (hbApply_held ..).trans ?_
    | refine (hbSet_held ..).trans ?_


theorem hbTrip_held (s : State) (n : Nat) (ev : Field) (cnt : Field) (src : Nat) (forced : Bool) : (hbTrip s n ev cnt src
    forced).held = s.held := by
  unfold hbTrip
  with_reducible repeat' first
    | rfl
    | refine (State.satAdd_held ..).trans ?_
    | refine (State.setBit_held ..).trans ?_
    | refine (hbProtect_held ..).trans ?_
    | refine (raiseWith_held ..).trans ?_


theorem execBridgeShort_held (n : Fin 16) (s : State) : Res.held (execBridgeShort n s) s.held := by
  unfold execBridgeShort
  with_reducible repeat' first
    | rfl
    | refine next_held ?_
    | refine ite_held ?_ ?_
    | intro _
    | refine (hbTrip_held ..).trans ?_


theorem hbThermal_held (s : State) (n : Nat) (forced : Bool) : (hbThermal s n forced).held = s.held := by
  unfold hbThermal
  with_reducible repeat' first
    | rfl
    | refine (State.setBit_held ..).trans ?_
    | refine (hbTrip_held ..).trans ?_


theorem execBridgeOverTemperature_held (n : Fin 16) (s : State) : Res.held (execBridgeOverTemperature n s) s.held := by
  unfold execBridgeOverTemperature
  with_reducible repeat' first
    | rfl
    | refine next_held ?_
    | refine ite_held ?_ ?_
    | intro _
    | refine (hbThermal_held ..).trans ?_


theorem execBrakeLimit_held (n : Fin 16) (s : State) : Res.held (execBrakeLimit n s) s.held := by
  unfold execBrakeLimit
  with_reducible repeat' first
    | rfl
    | refine next_held ?_
    | refine ite_held ?_ ?_
    | intro _
    | refine (State.satAdd_held ..).trans ?_
    | refine (State.setBit_held ..).trans ?_
    | refine (raiseFault_held ..).trans ?_


theorem hbStall_held (s : State) (n : Nat) (forced : Bool) : (hbStall s n forced).held = s.held := by
  unfold hbStall
  with_reducible repeat' first
    | rfl
    | refine ite_held ?_ ?_
    | intro _
    | refine (State.satAdd_held ..).trans ?_
    | refine (State.setBit_held ..).trans ?_
    | refine (hbApply_held ..).trans ?_
    | refine (hbSet_held ..).trans ?_
    | refine (raiseWith_held ..).trans ?_


theorem execStall_held (n : Fin 16) (s : State) : Res.held (execStall n s) s.held := by
  unfold execStall
  with_reducible repeat' first
    | rfl
    | refine next_held ?_
    | refine ite_held ?_ ?_
    | intro _
    | refine (hbStall_held ..).trans ?_


theorem execSupbOvervoltage_held (above : Bool) (s : State) : Res.held (execSupbOvervoltage above s) s.held := by
  unfold execSupbOvervoltage
  with_reducible repeat' first
    | rfl
    | refine next_held ?_
    | refine (foldl_held _ ?_ _ _).trans ?_
    | refine ite_held ?_ ?_
    | intro _
    | refine (State.setBit_held ..).trans ?_
    | refine (hbApply_held ..).trans ?_
    | refine (raiseFault_held ..).trans ?_


theorem execRippleAccept_held (n : Fin 16) (count : Nat) (mean : Nat) (ampl : Nat) (s : State) : Res.held (execRippleAccept n
    count mean ampl s) s.held := by
  unfold execRippleAccept
  with_reducible repeat' first
    | rfl
    | refine next_held ?_
    | refine ite_held ?_ ?_
    | refine iteRes_held ?_ ?_
    | intro _
    | refine (State.reach_held ..).trans ?_
    | refine (State.satAdd_held ..).trans ?_
    | refine (State.setFld_held ..).trans ?_
    | refine (State.setHb_held ..).trans ?_
    | refine (hbCount_held ..).trans ?_


theorem execRippleInsert_held (n : Fin 16) (s : State) : Res.held (execRippleInsert n s) s.held := by
  unfold execRippleInsert
  with_reducible repeat' first
    | rfl
    | refine next_held ?_
    | refine iteRes_held ?_ ?_
    | intro _
    | refine (State.reach_held ..).trans ?_
    | refine (State.satAdd_held ..).trans ?_
    | refine (State.setFld_held ..).trans ?_
    | refine (State.setHb_held ..).trans ?_
    | refine (hbCount_held ..).trans ?_
    | split
    | (extract_lets +onlyGivenNames z)


theorem execRippleExtrapolate_held (n : Fin 16) (s : State) : Res.held (execRippleExtrapolate n s) s.held := by
  unfold execRippleExtrapolate
  with_reducible repeat' first
    | rfl
    | refine next_held ?_
    | refine iteRes_held ?_ ?_
    | intro _
    | refine (State.reach_held ..).trans ?_
    | refine (State.setBit_held ..).trans ?_
    | refine (State.setHb_held ..).trans ?_
    | refine (hbCount_held ..).trans ?_


theorem execRippleExtrapExpiry_held (n : Fin 16) (s : State) : Res.held (execRippleExtrapExpiry n s) s.held := by
  unfold execRippleExtrapExpiry
  with_reducible repeat' first
    | rfl
    | refine next_held ?_
    | refine iteRes_held ?_ ?_
    | intro _
    | refine (State.reach_held ..).trans ?_
    | refine (State.setFlds_held ..).trans ?_
    | refine (State.setHb_held ..).trans ?_
    | refine (raiseFault_held ..).trans ?_


theorem execPosWrite_held (by_ : By) (n : Fin 16) (val : Word32) (s : State) : Res.held (execPosWrite by_ n val s) s.held := by
  unfold execPosWrite
  with_reducible repeat' first
    | rfl
    | refine next_held ?_
    | refine ite_held ?_ ?_
    | refine iteRes_held ?_ ?_
    | intro _
    | refine (State.setBit_held ..).trans ?_
    | refine (State.setFld_held ..).trans ?_
    | refine (hbStop_held ..).trans ?_
    | refine (raiseFault_held ..).trans ?_


theorem hbMeasure_held (m : ColIn) (s : State) (n : Nat) : (hbMeasure m s n).held = s.held := by
  unfold hbMeasure
  with_reducible repeat' first
    | rfl
    | refine ite_held ?_ ?_
    | intro _
    | refine (State.setFlds_held ..).trans ?_


theorem hbResetBrake_held (s : State) (n : Nat) : (hbResetBrake s n).held = s.held := by
  unfold hbResetBrake
  with_reducible repeat' first
    | rfl
    | refine ite_held ?_ ?_
    | intro _
    | refine (State.setHb_held ..).trans ?_
    | refine (hbApply_held ..).trans ?_
    | refine (hbSet_held ..).trans ?_


theorem hbReclaim_held (s : State) (n : Nat) : (hbReclaim s n).held = s.held := by
  unfold hbReclaim
  with_reducible repeat' first
    | rfl
    | refine (State.setBit_held ..).trans ?_


theorem execHbrForceStall_held (by_ : By) (n : Fin 16) (s : State) : Res.held (execHbrForceStall by_ n s) s.held := by
  unfold execHbrForceStall
  with_reducible repeat' first
    | rfl
    | refine next_held ?_
    | intro _
    | refine (gated_held _ _ _ ?_).trans ?_
    | refine (hbStall_held ..).trans ?_


theorem execHbrForceTherm_held (by_ : By) (n : Fin 16) (s : State) : Res.held (execHbrForceTherm by_ n s) s.held := by
  unfold execHbrForceTherm
  with_reducible repeat' first
    | rfl
    | refine next_held ?_
    | intro _
    | refine (gated_held _ _ _ ?_).trans ?_
    | refine (hbThermal_held ..).trans ?_


theorem execHbrForceShort_held (by_ : By) (n : Fin 16) (s : State) : Res.held (execHbrForceShort by_ n s) s.held := by
  unfold execHbrForceShort
  with_reducible repeat' first
    | rfl
    | refine next_held ?_
    | intro _
    | refine (gated_held _ _ _ ?_).trans ?_
    | refine (hbTrip_held ..).trans ?_


theorem vdSetD_held (s : State) (n : Nat) (d : Nat) : (vdSetD s n d).held = s.held := by
  unfold vdSetD
  with_reducible repeat' first
    | rfl
    | refine (State.setPair_held ..).trans ?_


theorem ucBlock_held (s : State) (b : Nat) : (ucBlock s b).held = s.held := by
  unfold ucBlock
  with_reducible repeat' first
    | rfl
    | refine (State.each_held _ _ _ ?_).trans ?_
    | intro _
    | refine (State.setBit_held ..).trans ?_


theorem execMicrocodeWrite_held (by_ : By) (bank : Fin 4) (word : BitVec 9) (high : Bool) (val : Word32) (s : State) : Res.held
    (execMicrocodeWrite by_ bank word high val s) s.held := by
  unfold execMicrocodeWrite
  with_reducible repeat' first
    | rfl
    | (fail_if_no_progress refine (mk_held ..).trans ?_)
    | refine next_held ?_
    | refine ite_held ?_ ?_
    | refine iteRes_held ?_ ?_
    | intro _
    | refine (State.setBank_held ..).trans ?_
    | refine (raiseFault_held ..).trans ?_
    | refine (ucBlock_held ..).trans ?_


theorem vdBegin_held (s : State) (n : Nat) (prof : Nat) (d : Nat) (x : Nat) : (vdBegin s n prof d x).held = s.held := by
  unfold vdBegin
  with_reducible repeat' first
    | rfl
    | refine (State.setFlds_held ..).trans ?_
    | refine (State.setVd_held ..).trans ?_
    | refine (vdSetD_held ..).trans ?_
    | refine (vdShow_held ..).trans ?_


theorem execValveStart_held (n : Fin 24) (s : State) : Res.held (execValveStart n s) s.held := by
  unfold execValveStart
  with_reducible repeat' first
    | rfl
    | refine next_held ?_
    | refine iteRes_held ?_ ?_
    | intro _
    | refine (State.reach_held ..).trans ?_
    | refine (State.setBit_held ..).trans ?_
    | refine (State.setEff_held ..).trans ?_
    | refine (State.setFlds_held ..).trans ?_
    | refine (State.setVd_held ..).trans ?_
    | refine (bankSwitch_held ..).trans ?_
    | refine (vdBegin_held ..).trans ?_
    | refine (vdSetD_held ..).trans ?_


theorem execValveOff_held (n : Fin 24) (s : State) : Res.held (execValveOff n s) s.held := by
  unfold execValveOff
  with_reducible repeat' first
    | rfl
    | refine next_held ?_
    | refine iteRes_held ?_ ?_
    | intro _
    | refine (State.reach_held ..).trans ?_
    | refine (State.setBit_held ..).trans ?_
    | refine (State.setEff_held ..).trans ?_
    | refine (bankSwitch_held ..).trans ?_
    | refine (vdToRelease_held ..).trans ?_


theorem execValveRearm_held (n : Fin 24) (s : State) : Res.held (execValveRearm n s) s.held := by
  unfold execValveRearm
  with_reducible repeat' first
    | rfl
    | refine next_held ?_
    | refine iteRes_held ?_ ?_
    | intro _
    | refine (State.setBit_held ..).trans ?_
    | refine (State.setEff_held ..).trans ?_
    | refine (bankSwitch_held ..).trans ?_


theorem vdRegulate_held (s : State) (n : Nat) (y : Nat) (cur : Nat) : (vdRegulate s n y cur).held = s.held := by
  unfold vdRegulate
  with_reducible repeat' first
    | rfl
    | refine (State.setFld_held ..).trans ?_
    | refine (vdShow_held ..).trans ?_


theorem vdArrive_held (s : State) (n : Nat) (y : Nat) : (vdArrive s n y).held = s.held := by
  unfold vdArrive
  with_reducible repeat' first
    | rfl
    | refine (State.setFlds_held ..).trans ?_


theorem vpEdge_held (s : State) (n : Nat) : (vpEdge s n).held = s.held := by
  unfold vpEdge
  with_reducible repeat' first
    | rfl
    | refine (State.setBit_held ..).trans ?_


theorem ucResolve_held (s : State) (n : Nat) (y : Nat) (x : CoilIn) : (ucResolve s n y x).held = s.held := by
  unfold ucResolve
  with_reducible repeat' first
    | rfl
    | refine ite_held ?_ ?_
    | intro _
    | refine (State.setBit_held ..).trans ?_
    | refine (State.setVd_held ..).trans ?_
    | refine (vdArrive_held ..).trans ?_
    | split
    | (extract_lets +onlyGivenNames z)


theorem ucParity_held (s : State) (b : Nat) (x : Nat) : (ucParity s b x).held = s.held := by
  unfold ucParity
  with_reducible repeat' first
    | rfl
    | refine (State.each_held _ _ _ ?_).trans ?_
    | intro _
    | refine (State.setBank_held ..).trans ?_
    | refine (State.setBit_held ..).trans ?_
    | refine (raiseFault_held ..).trans ?_
    | refine (vdToRelease_held ..).trans ?_


theorem ucBadNow_held (s : State) (n : Nat) (x : Nat) : (ucBadNow s n x).held = s.held := by
  unfold ucBadNow
  with_reducible repeat' first
    | rfl
    | refine ite_held ?_ ?_
    | intro _
    | refine (State.setBit_held ..).trans ?_
    | refine (State.setVd_held ..).trans ?_
    | refine (raiseFault_held ..).trans ?_
    | refine (vdToRelease_held ..).trans ?_


theorem ucRun_held (op : Nat) (act : State → Nat → Nat → Nat → State) (n : Fin 24) (x : CoilIn) (s : State) (hact : ∀ a1 b1 c1
    d1, (act a1 b1 c1 d1).held = a1.held) : Res.held (ucRun op act n x s) s.held := by
  unfold ucRun
  with_reducible repeat' first
    | rfl
    | refine next_held ?_
    | refine ite_held ?_ ?_
    | refine iteRes_held ?_ ?_
    | intro _
    | refine (State.reach_held ..).trans ?_
    | refine (State.setFld_held ..).trans ?_
    | refine (State.setVd_held ..).trans ?_
    | refine (settleRaises_held ..).trans ?_
    | refine (ucBadNow_held ..).trans ?_
    | refine (ucParity_held ..).trans ?_
    | refine (ucResolve_held ..).trans ?_
    | refine (vdRegulate_held ..).trans ?_
    | refine (vpEdge_held ..).trans ?_
    | refine (hact ..).trans ?_


theorem vdMod_held (s : State) (n : Nat) (f : VdCh → VdCh) : (vdMod s n f).held = s.held := by
  unfold vdMod
  with_reducible repeat' first
    | rfl
    | refine (State.setVd_held ..).trans ?_


theorem execUcNop_held (n : Fin 24) (x : CoilIn) (s : State) : Res.held (execUcNop n x s) s.held := by
  unfold execUcNop
  with_reducible repeat' first
    | rfl
    | intro _
    | refine Res.held_of (ucRun_held _ _ _ _ _ ?_) ?_


theorem execUcSeti_held (n : Fin 24) (x : CoilIn) (s : State) : Res.held (execUcSeti n x s) s.held := by
  unfold execUcSeti
  with_reducible repeat' first
    | rfl
    | intro _
    | refine Res.held_of (ucRun_held _ _ _ _ _ ?_) ?_
    | refine (vdMod_held ..).trans ?_


theorem execUcRamp_held (n : Fin 24) (x : CoilIn) (s : State) : Res.held (execUcRamp n x s) s.held := by
  unfold execUcRamp
  with_reducible repeat' first
    | rfl
    | intro _
    | refine Res.held_of (ucRun_held _ _ _ _ _ ?_) ?_
    | refine (vdMod_held ..).trans ?_


theorem tokenJoin_held (s : State) (n : Nat) (y : Nat) : (tokenJoin s n y).held = s.held := by
  unfold tokenJoin
  with_reducible repeat' first
    | rfl
    | refine (State.setBank_held ..).trans ?_
    | refine (State.setFld_held ..).trans ?_
    | refine (bankWaiters_held ..).trans ?_
    | refine (vdMod_held ..).trans ?_


theorem execUcPeak_held (n : Fin 24) (x : CoilIn) (s : State) : Res.held (execUcPeak n x s) s.held := by
  unfold execUcPeak
  with_reducible repeat' first
    | rfl
    | refine ite_held ?_ ?_
    | intro _
    | refine (tokenGrant_held ..).trans ?_
    | refine (tokenJoin_held ..).trans ?_
    | refine Res.held_of (ucRun_held _ _ _ _ _ ?_) ?_
    | refine (vdMod_held ..).trans ?_
    | refine (vdShow_held ..).trans ?_


theorem execUcHold_held (n : Fin 24) (x : CoilIn) (s : State) : Res.held (execUcHold n x s) s.held := by
  unfold execUcHold
  with_reducible repeat' first
    | rfl
    | intro _
    | refine (State.setFld_held ..).trans ?_
    | refine (tokenLeave_held ..).trans ?_
    | refine Res.held_of (ucRun_held _ _ _ _ _ ?_) ?_
    | refine (vdMod_held ..).trans ?_
    | refine (vdShow_held ..).trans ?_


theorem execUcRel_held (n : Fin 24) (x : CoilIn) (s : State) : Res.held (execUcRel n x s) s.held := by
  unfold execUcRel
  with_reducible repeat' first
    | rfl
    | intro _
    | refine (State.setBit_held ..).trans ?_
    | refine (State.setFld_held ..).trans ?_
    | refine (tokenLeave_held ..).trans ?_
    | refine (ucResolve_held ..).trans ?_
    | refine Res.held_of (ucRun_held _ _ _ _ _ ?_) ?_
    | refine (vdMod_held ..).trans ?_
    | refine (vdShow_held ..).trans ?_


theorem execUcEnd_held (n : Fin 24) (x : CoilIn) (s : State) : Res.held (execUcEnd n x s) s.held := by
  unfold execUcEnd
  with_reducible repeat' first
    | rfl
    | refine ite_held ?_ ?_
    | intro _
    | refine (State.setBit_held ..).trans ?_
    | refine Res.held_of (ucRun_held _ _ _ _ _ ?_) ?_
    | refine (vdBegin_held ..).trans ?_
    | refine (vdStop_held ..).trans ?_


theorem execUcWaitt_held (n : Fin 24) (x : CoilIn) (s : State) : Res.held (execUcWaitt n x s) s.held := by
  unfold execUcWaitt
  with_reducible repeat' first
    | rfl
    | intro _
    | refine Res.held_of (ucRun_held _ _ _ _ _ ?_) ?_
    | refine (vdMod_held ..).trans ?_


theorem execUcWaiti_held (n : Fin 24) (x : CoilIn) (s : State) : Res.held (execUcWaiti n x s) s.held := by
  unfold execUcWaiti
  with_reducible repeat' first
    | rfl
    | intro _
    | refine Res.held_of (ucRun_held _ _ _ _ _ ?_) ?_
    | refine (vdMod_held ..).trans ?_


theorem execUcWaitp_held (n : Fin 24) (x : CoilIn) (s : State) : Res.held (execUcWaitp n x s) s.held := by
  unfold execUcWaitp
  with_reducible repeat' first
    | rfl
    | intro _
    | refine Res.held_of (ucRun_held _ _ _ _ _ ?_) ?_
    | refine (vdMod_held ..).trans ?_


theorem execUcBrdl_held (n : Fin 24) (x : CoilIn) (s : State) : Res.held (execUcBrdl n x s) s.held := by
  unfold execUcBrdl
  with_reducible repeat' first
    | rfl
    | intro _
    | refine Res.held_of (ucRun_held _ _ _ _ _ ?_) ?_
    | refine (vdMod_held ..).trans ?_


theorem execUcJmp_held (n : Fin 24) (x : CoilIn) (s : State) : Res.held (execUcJmp n x s) s.held := by
  unfold execUcJmp
  with_reducible repeat' first
    | rfl
    | intro _
    | refine Res.held_of (ucRun_held _ _ _ _ _ ?_) ?_
    | refine (vdMod_held ..).trans ?_


theorem execUcSetn_held (n : Fin 24) (x : CoilIn) (s : State) : Res.held (execUcSetn n x s) s.held := by
  unfold execUcSetn
  with_reducible repeat' first
    | rfl
    | intro _
    | refine Res.held_of (ucRun_held _ _ _ _ _ ?_) ?_
    | refine (vdMod_held ..).trans ?_


theorem execUcLoop_held (n : Fin 24) (x : CoilIn) (s : State) : Res.held (execUcLoop n x s) s.held := by
  unfold execUcLoop
  with_reducible repeat' first
    | rfl
    | intro _
    | refine Res.held_of (ucRun_held _ _ _ _ _ ?_) ?_
    | refine (vdMod_held ..).trans ?_


theorem execUcMark_held (n : Fin 24) (x : CoilIn) (s : State) : Res.held (execUcMark n x s) s.held := by
  unfold execUcMark
  with_reducible repeat' first
    | rfl
    | refine ite_held ?_ ?_
    | intro _
    | refine (State.setBit_held ..).trans ?_
    | refine (State.setFld_held ..).trans ?_
    | refine Res.held_of (ucRun_held _ _ _ _ _ ?_) ?_


theorem peakCut_held (s : State) (n : Nat) (y : Nat) : (peakCut s n y).held = s.held := by
  unfold peakCut
  with_reducible repeat' first
    | rfl
    | refine (State.satAdd_held ..).trans ?_
    | refine (State.setBit_held ..).trans ?_
    | refine (raiseFault_held ..).trans ?_
    | refine (tokenNext_held ..).trans ?_
    | refine (vdMod_held ..).trans ?_


theorem execPeakCut_held (n : Fin 24) (s : State) : Res.held (execPeakCut n s) s.held := by
  unfold execPeakCut
  with_reducible repeat' first
    | rfl
    | refine next_held ?_
    | refine iteRes_held ?_ ?_
    | intro _
    | refine (State.reach_held ..).trans ?_
    | refine (peakCut_held ..).trans ?_
    | split
    | (extract_lets +onlyGivenNames z)


theorem execRunmaxExpiry_held (n : Fin 24) (s : State) : Res.held (execRunmaxExpiry n s) s.held := by
  unfold execRunmaxExpiry
  with_reducible repeat' first
    | rfl
    | refine next_held ?_
    | refine iteRes_held ?_ ?_
    | intro _
    | refine (State.reach_held ..).trans ?_
    | refine (State.setBit_held ..).trans ?_
    | refine (raiseFault_held ..).trans ?_
    | refine (vdMod_held ..).trans ?_
    | refine (vdToRelease_held ..).trans ?_


theorem coilStore_held (s : State) (n : Nat) (theta : Int) : (coilStore s n theta).held = s.held := by
  unfold coilStore
  with_reducible repeat' first
    | rfl
    | refine (State.setFld_held ..).trans ?_
    | refine (vdMod_held ..).trans ?_


theorem execCoilModelUpdate_held (n : Fin 24) (irms : Nat) (s : State) : Res.held (execCoilModelUpdate n irms s) s.held := by
  unfold execCoilModelUpdate
  with_reducible repeat' first
    | rfl
    | refine next_held ?_
    | refine ite_held ?_ ?_
    | refine iteRes_held ?_ ?_
    | intro _
    | refine (State.setBit_held ..).trans ?_
    | refine (coilStore_held ..).trans ?_
    | refine (raiseWith_held ..).trans ?_
    | refine (vdMod_held ..).trans ?_
    | refine (vdToRelease_held ..).trans ?_


theorem vdCol_held (s : State) (n : Nat) : (vdCol s n).held = s.held := by
  unfold vdCol
  with_reducible repeat' first
    | rfl
    | refine ite_held ?_ ?_
    | intro _
    | refine (State.setBit_held ..).trans ?_
    | refine (State.setFlds_held ..).trans ?_


theorem coilDomainOn_held (s : State) (die : Nat) (ref : Int) : (coilDomainOn s die ref).held = s.held := by
  unfold coilDomainOn
  with_reducible repeat' first
    | rfl
    | refine (foldlFst_held _ ?_ _ _).trans ?_
    | refine (State.each_held _ _ _ ?_).trans ?_
    | refine ite_held ?_ ?_
    | intro _
    | refine (State.setBit_held ..).trans ?_
    | refine (coilStore_held ..).trans ?_
    | refine (raiseFault_held ..).trans ?_
    | split
    | (extract_lets +onlyGivenNames z)


theorem vdMeasure_held (m : ColIn) (s : State) (n : Nat) : (vdMeasure m s n).held = s.held := by
  unfold vdMeasure
  with_reducible repeat' first
    | rfl
    | refine ite_held ?_ ?_
    | intro _
    | refine (State.setFlds_held ..).trans ?_


theorem vbMeasure_held (m : ColIn) (s : State) (b : Nat) : (vbMeasure m s b).held = s.held := by
  unfold vbMeasure
  with_reducible repeat' first
    | rfl
    | refine ite_held ?_ ?_
    | intro _
    | refine (State.setFld_held ..).trans ?_


theorem vdTrip_held (s : State) (n : Nat) (ev : Field) (cnt : Option Field) (src : Nat) (forced : Bool) : (vdTrip s n ev cnt
    src forced).held = s.held := by
  unfold vdTrip
  with_reducible repeat' first
    | rfl
    | refine (State.satAdd_held ..).trans ?_
    | refine (State.setBit_held ..).trans ?_
    | refine (raiseWith_held ..).trans ?_
    | refine (vdEnd_held ..).trans ?_
    | split


theorem execVdShort_held (n : Fin 24) (s : State) : Res.held (execVdShort n s) s.held := by
  unfold execVdShort
  with_reducible repeat' first
    | rfl
    | refine next_held ?_
    | refine ite_held ?_ ?_
    | intro _
    | refine (vdTrip_held ..).trans ?_


theorem execOpenCoil_held (n : Fin 24) (s : State) : Res.held (execOpenCoil n s) s.held := by
  unfold execOpenCoil
  with_reducible repeat' first
    | rfl
    | refine next_held ?_
    | refine ite_held ?_ ?_
    | intro _
    | refine (vdTrip_held ..).trans ?_


theorem vdThermal_held (s : State) (n : Nat) (forced : Bool) : (vdThermal s n forced).held = s.held := by
  unfold vdThermal
  with_reducible repeat' first
    | rfl
    | refine (State.setBit_held ..).trans ?_
    | refine (vdTrip_held ..).trans ?_


theorem execVdOverTemperature_held (n : Fin 24) (s : State) : Res.held (execVdOverTemperature n s) s.held := by
  unfold execVdOverTemperature
  with_reducible repeat' first
    | rfl
    | refine next_held ?_
    | refine ite_held ?_ ?_
    | intro _
    | refine (vdThermal_held ..).trans ?_


theorem execLongClamp_held (n : Fin 24) (s : State) : Res.held (execLongClamp n s) s.held := by
  unfold execLongClamp
  with_reducible repeat' first
    | rfl
    | refine next_held ?_
    | refine ite_held ?_ ?_
    | intro _
    | refine (State.setBit_held ..).trans ?_
    | refine (raiseFault_held ..).trans ?_


theorem execVbProtection_held (b : Fin 4) (thermal : Bool) (s : State) : Res.held (execVbProtection b thermal s) s.held := by
  unfold execVbProtection
  with_reducible repeat' first
    | rfl
    | refine next_held ?_
    | refine (State.each_held _ _ _ ?_).trans ?_
    | refine ite_held ?_ ?_
    | refine iteRes_held ?_ ?_
    | intro _
    | refine (State.setBank_held ..).trans ?_
    | refine (State.setBit_held ..).trans ?_
    | refine (bankSwitch_held ..).trans ?_
    | refine (raiseFault_held ..).trans ?_
    | refine (vdEnd_held ..).trans ?_


theorem pksApply_held (s : State) : (pksApply s).held = s.held := by
  unfold pksApply
  with_reducible repeat' first
    | rfl
    | refine (State.setFld_held ..).trans ?_
    | refine (State.setFlds_held ..).trans ?_


theorem execPksReady_held (vpks : Nat) (s : State) : Res.held (execPksReady vpks s) s.held := by
  unfold execPksReady
  with_reducible repeat' first
    | rfl
    | refine next_held ?_
    | refine iteRes_held ?_ ?_
    | intro _
    | refine (State.setFld_held ..).trans ?_
    | refine (pksApply_held ..).trans ?_


theorem execPksCapMeasure_held (cap : Nat) (s : State) : Res.held (execPksCapMeasure cap s) s.held := by
  unfold execPksCapMeasure
  with_reducible repeat' first
    | rfl
    | refine next_held ?_
    | refine ite_held ?_ ?_
    | refine iteRes_held ?_ ?_
    | intro _
    | refine (State.setFlds_held ..).trans ?_
    | refine (pksApply_held ..).trans ?_
    | refine (raiseFault_held ..).trans ?_


theorem execPksOvervoltage_held (vpks : Nat) (s : State) : Res.held (execPksOvervoltage vpks s) s.held := by
  unfold execPksOvervoltage
  with_reducible repeat' first
    | rfl
    | refine next_held ?_
    | refine (foldl_held _ ?_ _ _).trans ?_
    | refine ite_held ?_ ?_
    | refine iteRes_held ?_ ?_
    | intro _
    | refine (State.setFlds_held ..).trans ?_
    | refine (peakCut_held ..).trans ?_
    | refine (pksApply_held ..).trans ?_
    | refine (raiseFault_held ..).trans ?_


theorem vdResetBegin_held (s : State) (n : Nat) : (vdResetBegin s n).held = s.held := by
  unfold vdResetBegin
  with_reducible repeat' first
    | rfl
    | refine ite_held ?_ ?_
    | intro _
    | refine (vdSetD_held ..).trans ?_


theorem execValveForceCoilhot_held (by_ : By) (n : Fin 24) (s : State) : Res.held (execValveForceCoilhot by_ n s) s.held := by
  unfold execValveForceCoilhot
  with_reducible repeat' first
    | rfl
    | refine next_held ?_
    | intro _
    | refine (gated_held _ _ _ ?_).trans ?_
    | refine (vdMod_held ..).trans ?_


theorem execValveForceTherm_held (by_ : By) (n : Fin 24) (s : State) : Res.held (execValveForceTherm by_ n s) s.held := by
  unfold execValveForceTherm
  with_reducible repeat' first
    | rfl
    | refine next_held ?_
    | intro _
    | refine (gated_held _ _ _ ?_).trans ?_
    | refine (vdThermal_held ..).trans ?_


theorem execValveForceOpen_held (by_ : By) (n : Fin 24) (s : State) : Res.held (execValveForceOpen by_ n s) s.held := by
  unfold execValveForceOpen
  with_reducible repeat' first
    | rfl
    | refine next_held ?_
    | intro _
    | refine (gated_held _ _ _ ?_).trans ?_
    | refine (vdTrip_held ..).trans ?_


theorem execValveForceShort_held (by_ : By) (n : Fin 24) (s : State) : Res.held (execValveForceShort by_ n s) s.held := by
  unfold execValveForceShort
  with_reducible repeat' first
    | rfl
    | refine next_held ?_
    | intro _
    | refine (gated_held _ _ _ ?_).trans ?_
    | refine (vdTrip_held ..).trans ?_


theorem sinkPhasePoint_held (s : State) (n : Nat) (start : Bool) : (sinkPhasePoint s n start).held = s.held := by
  unfold sinkPhasePoint
  with_reducible repeat' first
    | rfl
    | refine (State.setSink_held ..).trans ?_
    | refine (sinkApply_held ..).trans ?_


theorem sinkCommit_held (s : State) (n : Nat) (ctrl : Word32) (dim : Word32) : (sinkCommit s n ctrl dim).held = s.held := by
  unfold sinkCommit
  with_reducible repeat' first
    | rfl
    | refine ite_held ?_ ?_
    | intro _
    | refine (State.setBit_held ..).trans ?_
    | refine (State.setEffWord_held ..).trans ?_
    | refine (sinkApply_held ..).trans ?_


theorem grantUsed_held (s : State) (c : Nat) (on : Bool) : (grantUsed s c on).held = s.held := by
  unfold grantUsed
  with_reducible repeat' first
    | rfl
    | refine ite_held ?_ ?_
    | intro _
    | refine (State.setLedger1_held ..).trans ?_
    | refine (releaseResv_held ..).trans ?_


theorem stageCommit_held (s : State) (g : Nat) (ctrl : Word32) : (stageCommit s g ctrl).held = s.held := by
  unfold stageCommit
  with_reducible repeat' first
    | rfl
    | refine (State.setEffWord_held ..).trans ?_
    | refine (grantUsed_held ..).trans ?_
    | refine (stageApply_held ..).trans ?_


theorem matrixCommit_held (s : State) (ctrl : Word32) (pix : List (Nat × Word32)) : (matrixCommit s ctrl pix).held = s.held :=
    by
  unfold matrixCommit
  with_reducible repeat' first
    | rfl
    | refine (foldl_held _ ?_ _ _).trans ?_
    | refine ite_held ?_ ?_
    | intro _
    | refine (State.setBit_held ..).trans ?_
    | refine (State.setEffWord_held ..).trans ?_
    | refine (matrixApply_held ..).trans ?_


theorem execSinkRearm_held (n : Fin 32) (s : State) : Res.held (execSinkRearm n s) s.held := by
  unfold execSinkRearm
  with_reducible repeat' first
    | rfl
    | refine next_held ?_
    | refine iteRes_held ?_ ?_
    | intro _
    | refine (State.setEff_held ..).trans ?_
    | refine (State.setFlds_held ..).trans ?_
    | refine (sinkApply_held ..).trans ?_


theorem execStageRearm_held (s_ : Fin 4) (s : State) : Res.held (execStageRearm s_ s) s.held := by
  unfold execStageRearm
  with_reducible repeat' first
    | rfl
    | refine next_held ?_
    | refine iteRes_held ?_ ?_
    | intro _
    | refine (State.setBit_held ..).trans ?_
    | refine (State.setEff_held ..).trans ?_
    | refine (settleRaises_held ..).trans ?_
    | refine (stageApply_held ..).trans ?_


theorem execMatrixRearm_held (s : State) : Res.held (execMatrixRearm s) s.held := by
  unfold execMatrixRearm
  with_reducible repeat' first
    | rfl
    | refine next_held ?_
    | refine iteRes_held ?_ ?_
    | intro _
    | refine (State.setBit_held ..).trans ?_
    | refine (State.setEff_held ..).trans ?_
    | refine (matrixApply_held ..).trans ?_


theorem execLedModelUpdate_held (n : Fin 32) (irms : Nat) (ref : Int) (s : State) : Res.held (execLedModelUpdate n irms ref s)
    s.held := by
  unfold execLedModelUpdate
  with_reducible repeat' first
    | rfl
    | (fail_if_no_progress refine (mk_held ..).trans ?_)
    | refine next_held ?_
    | refine ite_held ?_ ?_
    | refine iteRes_held ?_ ?_
    | intro _
    | refine (State.setBit_held ..).trans ?_
    | refine (State.setFlds_held ..).trans ?_
    | refine (State.setSink_held ..).trans ?_
    | refine (raiseFault_held ..).trans ?_
    | refine (sinkApply_held ..).trans ?_


theorem ledDomainOn_held (s : State) (die : Nat) : (ledDomainOn s die).held = s.held := by
  unfold ledDomainOn
  with_reducible repeat' first
    | rfl
    | refine (foldlFst_held _ ?_ _ _).trans ?_
    | refine ite_held ?_ ?_
    | intro _
    | refine (State.setFld_held ..).trans ?_
    | refine (State.setSink_held ..).trans ?_
    | refine (raiseFault_held ..).trans ?_
    | refine (sinkApply_held ..).trans ?_


theorem ledSourced_held (s : State) (i : Nat) : (ledSourced s i).held = s.held := by
  unfold ledSourced
  with_reducible repeat' first
    | rfl
    | refine (State.each_held _ _ _ ?_).trans ?_
    | refine ite_held ?_ ?_
    | intro _
    | refine (State.setSink_held ..).trans ?_
    | refine (sinkApply_held ..).trans ?_


theorem execHeadroomMeasure_held (n : Fin 32) (hr : Nat) (vout : Nat) (s : State) : Res.held (execHeadroomMeasure n hr vout s)
    s.held := by
  unfold execHeadroomMeasure
  with_reducible repeat' first
    | rfl
    | refine next_held ?_
    | refine iteRes_held ?_ ?_
    | intro _
    | refine (State.setFlds_held ..).trans ?_
    | refine (State.setSink_held ..).trans ?_
    | refine (State.setStage_held ..).trans ?_


theorem execSetpointStep_held (s_ : Fin 4) (vout : Nat) (s : State) : Res.held (execSetpointStep s_ vout s) s.held := by
  unfold execSetpointStep
  with_reducible repeat' first
    | rfl
    | refine next_held ?_
    | refine iteRes_held ?_ ?_
    | intro _
    | refine (State.setFld_held ..).trans ?_
    | refine (State.setStage_held ..).trans ?_


theorem execStageReady_held (s_ : Fin 4) (vout : Nat) (s : State) : Res.held (execStageReady s_ vout s) s.held := by
  unfold execStageReady
  with_reducible repeat' first
    | rfl
    | refine next_held ?_
    | refine iteRes_held ?_ ?_
    | intro _
    | refine (State.setFlds_held ..).trans ?_


theorem sinkOpen_held (s : State) (n : Nat) (forced : Bool) : (sinkOpen s n forced).held = s.held := by
  unfold sinkOpen
  with_reducible repeat' first
    | rfl
    | refine (State.setFlds_held ..).trans ?_
    | refine (State.setStage_held ..).trans ?_
    | refine (raiseWith_held ..).trans ?_


theorem execOpenString_held (n : Fin 32) (s : State) : Res.held (execOpenString n s) s.held := by
  unfold execOpenString
  with_reducible repeat' first
    | rfl
    | refine next_held ?_
    | refine ite_held ?_ ?_
    | intro _
    | refine (sinkOpen_held ..).trans ?_


theorem sinkShort_held (s : State) (n : Nat) (forced : Bool) : (sinkShort s n forced).held = s.held := by
  unfold sinkShort
  with_reducible repeat' first
    | rfl
    | refine ite_held ?_ ?_
    | intro _
    | refine (State.setBit_held ..).trans ?_
    | refine (raiseWith_held ..).trans ?_
    | refine (sinkApply_held ..).trans ?_


theorem execStringShort_held (n : Fin 32) (s : State) : Res.held (execStringShort n s) s.held := by
  unfold execStringShort
  with_reducible repeat' first
    | rfl
    | refine next_held ?_
    | refine ite_held ?_ ?_
    | intro _
    | refine (sinkShort_held ..).trans ?_


theorem sinkThermal_held (s : State) (n : Nat) (forced : Bool) : (sinkThermal s n forced).held = s.held := by
  unfold sinkThermal
  with_reducible repeat' first
    | rfl
    | refine (State.setFlds_held ..).trans ?_
    | refine (raiseWith_held ..).trans ?_
    | refine (sinkApply_held ..).trans ?_


theorem execSinkOverTemperature_held (n : Fin 32) (s : State) : Res.held (execSinkOverTemperature n s) s.held := by
  unfold execSinkOverTemperature
  with_reducible repeat' first
    | rfl
    | refine next_held ?_
    | refine ite_held ?_ ?_
    | intro _
    | refine (sinkThermal_held ..).trans ?_


theorem stageTrip_held (s : State) (g : Nat) (trip : StageTrip) (forced : Bool) : (stageTrip s g trip forced).held = s.held :=
    by
  unfold stageTrip
  with_reducible repeat' first
    | rfl
    | refine ite_held ?_ ?_
    | intro _
    | refine (State.setBit_held ..).trans ?_
    | refine (raiseWith_held ..).trans ?_
    | refine (stageApply_held ..).trans ?_


theorem execStageProtection_held (s_ : Fin 4) (trip : StageTrip) (s : State) : Res.held (execStageProtection s_ trip s) s.held
    := by
  unfold execStageProtection
  with_reducible repeat' first
    | rfl
    | refine next_held ?_
    | refine ite_held ?_ ?_
    | intro _
    | refine (stageTrip_held ..).trans ?_


theorem mxStart_held (s : State) (at' : Nat) (line : Option Nat) : (mxStart s at' line).held = s.held := by
  unfold mxStart
  with_reducible repeat' first
    | rfl
    | (fail_if_no_progress refine (mk_held ..).trans ?_)
    | refine (State.setFlds_held ..).trans ?_
    | split


theorem mxScan_held (s : State) (p : Nat) (line : Option Nat) : (mxScan s p line).held = s.held := by
  unfold mxScan
  with_reducible repeat' first
    | rfl
    | refine ite_held ?_ ?_
    | intro _
    | refine (State.setBit_held ..).trans ?_
    | refine (mxStart_held ..).trans ?_


theorem execMatrixFrameEnd_held (s : State) : Res.held (execMatrixFrameEnd s) s.held := by
  unfold execMatrixFrameEnd
  with_reducible repeat' first
    | rfl
    | refine next_held ?_
    | refine iteRes_held ?_ ?_
    | intro _
    | refine (State.incFld_held ..).trans ?_
    | refine (State.reach_held ..).trans ?_
    | refine (State.setFlds_held ..).trans ?_
    | refine (matrixDark_held ..).trans ?_


theorem execMatrixDiag_held (d : MatrixDiag) (s : State) : Res.held (execMatrixDiag d s) s.held := by
  unfold execMatrixDiag
  with_reducible repeat' first
    | rfl
    | (fail_if_no_progress refine (mk_held ..).trans ?_)
    | refine next_held ?_
    | refine ite_held ?_ ?_
    | refine iteRes_held ?_ ?_
    | intro _
    | refine (State.setBit_held ..).trans ?_
    | refine (State.setFld_held ..).trans ?_
    | refine (matrixApply_held ..).trans ?_
    | refine (raiseFault_held ..).trans ?_
    | split


theorem execMatrixHoldoverFrame_held (s : State) : Res.held (execMatrixHoldoverFrame s) s.held := by
  unfold execMatrixHoldoverFrame
  with_reducible repeat' first
    | rfl
    | refine next_held ?_
    | refine iteRes_held ?_ ?_
    | intro _
    | refine (State.reach_held ..).trans ?_
    | refine (mxStart_held ..).trans ?_


theorem stageMeasure_held (m : ColIn) (s : State) (g : Nat) : (stageMeasure m s g).held = s.held := by
  unfold stageMeasure
  with_reducible repeat' first
    | rfl
    | refine ite_held ?_ ?_
    | intro _
    | refine (State.setFlds_held ..).trans ?_


theorem sinkHold_held (s : State) (n : Nat) (at' : Nat) : (sinkHold s n at').held = s.held := by
  unfold sinkHold
  with_reducible repeat' first
    | rfl
    | refine (State.setBit_held ..).trans ?_
    | refine (State.setSink_held ..).trans ?_


theorem matrixHold_held (s : State) (at' : Nat) : (matrixHold s at').held = s.held := by
  unfold matrixHold
  with_reducible repeat' first
    | rfl
    | (fail_if_no_progress refine (mk_held ..).trans ?_)
    | refine (State.setBit_held ..).trans ?_


theorem sinkExpire_held (s : State) (n : Nat) : (sinkExpire s n).held = s.held := by
  unfold sinkExpire
  with_reducible repeat' first
    | rfl
    | refine (State.reach_held ..).trans ?_
    | refine (State.setFlds_held ..).trans ?_
    | refine (State.setSink_held ..).trans ?_
    | refine (sinkSafe_held ..).trans ?_
    | split


theorem matrixExpire_held (s : State) : (matrixExpire s).held = s.held := by
  unfold matrixExpire
  with_reducible repeat' first
    | rfl
    | (fail_if_no_progress refine (mk_held ..).trans ?_)
    | refine (State.reach_held ..).trans ?_
    | refine (State.setFlds_held ..).trans ?_
    | refine (matrixSafe_held ..).trans ?_
    | split


theorem sinkReclaim_held (s : State) (n : Nat) : (sinkReclaim s n).held = s.held := by
  unfold sinkReclaim
  with_reducible repeat' first
    | rfl
    | refine ite_held ?_ ?_
    | intro _
    | refine (State.setBit_held ..).trans ?_
    | refine (State.setEff_held ..).trans ?_
    | refine (State.setSink_held ..).trans ?_
    | refine (raiseFault_held ..).trans ?_
    | refine (sinkApply_held ..).trans ?_
    | split


theorem matrixReclaim_held (s : State) : (matrixReclaim s).held = s.held := by
  unfold matrixReclaim
  with_reducible repeat' first
    | rfl
    | (fail_if_no_progress refine (mk_held ..).trans ?_)
    | refine ite_held ?_ ?_
    | intro _
    | refine (State.setBit_held ..).trans ?_
    | refine (State.setEff_held ..).trans ?_
    | refine (matrixApply_held ..).trans ?_
    | refine (raiseFault_held ..).trans ?_


theorem execPulseGroupPhasePoint_held (chan : OutUnit) (start : Bool) (s : State) : Res.held (execPulseGroupPhasePoint chan
    start s) s.held := by
  unfold execPulseGroupPhasePoint
  with_reducible repeat' first
    | rfl
    | refine next_held ?_
    | refine ite_held ?_ ?_
    | intro _
    | refine (lswPhasePoint_held ..).trans ?_
    | refine (settleRaises_held ..).trans ?_
    | refine (sinkPhasePoint_held ..).trans ?_
    | split


theorem execHoldoverExpiry_held (chan : OutUnit) (s : State) : Res.held (execHoldoverExpiry chan s) s.held := by
  unfold execHoldoverExpiry
  with_reducible repeat' first
    | rfl
    | refine next_held ?_
    | refine (lswExpire_held ..).trans ?_
    | refine (matrixExpire_held ..).trans ?_
    | refine (settleRaises_held ..).trans ?_
    | refine (sinkExpire_held ..).trans ?_
    | split


theorem execThermalLatchClear_held (chan : OutUnit) (s : State) : Res.held (execThermalLatchClear chan s) s.held := by
  unfold execThermalLatchClear
  with_reducible repeat' first
    | rfl
    | refine next_held ?_
    | refine (State.setBank_held ..).trans ?_
    | refine (State.setBit_held ..).trans ?_
    | refine (lswApply_held ..).trans ?_
    | refine (settleRaises_held ..).trans ?_
    | split


theorem execGateDriverFault_held (chan : OutUnit) (s : State) : Res.held (execGateDriverFault chan s) s.held := by
  unfold execGateDriverFault
  with_reducible repeat' first
    | rfl
    | refine next_held ?_
    | refine (State.setBank_held ..).trans ?_
    | refine (State.setHb_held ..).trans ?_
    | refine (State.setStage_held ..).trans ?_
    | refine (bankSwitch_held ..).trans ?_
    | refine (hbApply_held ..).trans ?_
    | refine (raiseFault_held ..).trans ?_
    | refine (stageApply_held ..).trans ?_
    | refine (vdDrop_held ..).trans ?_
    | refine (vdMod_held ..).trans ?_
    | refine (vdStop_held ..).trans ?_
    | split


theorem execLoadDump_held (input : Fin 2) (above : Bool) (s : State) : Res.held (execLoadDump input above s) s.held := by
  unfold execLoadDump
  with_reducible repeat' first
    | rfl
    | (fail_if_no_progress refine (mk_held ..).trans ?_)
    | refine next_held ?_
    | refine (State.each_held _ _ _ ?_).trans ?_
    | intro _
    | refine (matrixApply_held ..).trans ?_
    | refine (stageApply_held ..).trans ?_


theorem execSupplyUndervoltage_held (die : Fin 4) (under : Bool) (s : State) : Res.held (execSupplyUndervoltage die under s)
    s.held := by
  unfold execSupplyUndervoltage
  with_reducible repeat' first
    | rfl
    | (fail_if_no_progress refine (mk_held ..).trans ?_)
    | refine next_held ?_
    | refine (State.each_held _ _ _ ?_).trans ?_
    | intro _
    | refine (State.setBit_held ..).trans ?_
    | refine (bankSwitch_held ..).trans ?_
    | refine (hbApply_held ..).trans ?_
    | refine (lswApply_held ..).trans ?_
    | refine (settleRaises_held ..).trans ?_
    | refine (stageApply_held ..).trans ?_


theorem execLightForceLeak_held (by_ : By) (n : Fin 32) (s : State) : Res.held (execLightForceLeak by_ n s) s.held := by
  unfold execLightForceLeak
  with_reducible repeat' first
    | rfl
    | refine next_held ?_
    | intro _
    | refine (gated_held _ _ _ ?_).trans ?_
    | refine (stageTrip_held ..).trans ?_


theorem execLightForceTherm_held (by_ : By) (n : Fin 32) (s : State) : Res.held (execLightForceTherm by_ n s) s.held := by
  unfold execLightForceTherm
  with_reducible repeat' first
    | rfl
    | refine next_held ?_
    | intro _
    | refine (gated_held _ _ _ ?_).trans ?_
    | refine (sinkThermal_held ..).trans ?_


theorem execLightForceShort_held (by_ : By) (n : Fin 32) (s : State) : Res.held (execLightForceShort by_ n s) s.held := by
  unfold execLightForceShort
  with_reducible repeat' first
    | rfl
    | refine next_held ?_
    | intro _
    | refine (gated_held _ _ _ ?_).trans ?_
    | refine (sinkShort_held ..).trans ?_


theorem execLightForceOpen_held (by_ : By) (n : Fin 32) (s : State) : Res.held (execLightForceOpen by_ n s) s.held := by
  unfold execLightForceOpen
  with_reducible repeat' first
    | rfl
    | refine next_held ?_
    | intro _
    | refine (gated_held _ _ _ ?_).trans ?_
    | refine (sinkOpen_held ..).trans ?_


theorem wakePulse_held (s : State) : (wakePulse s).held = s.held := by
  unfold wakePulse
  with_reducible repeat' first
    | rfl
    | (fail_if_no_progress refine (mk_held ..).trans ?_)


theorem sleepAbort_held (s : State) : (sleepAbort s).held = s.held := by
  unfold sleepAbort
  with_reducible repeat' first
    | rfl
    | refine ite_held ?_ ?_
    | intro _
    | refine (State.satAdd_held ..).trans ?_
    | refine (State.setBit_held ..).trans ?_
    | refine (sleepDisarm_held ..).trans ?_
    | refine (wakePulse_held ..).trans ?_


theorem wakeEvent_held (s : State) (b : Nat) (u : Nat) : (wakeEvent s b u).held = s.held := by
  unfold wakeEvent
  with_reducible repeat' first
    | rfl
    | (fail_if_no_progress refine (mk_held ..).trans ?_)
    | refine ite_held ?_ ?_
    | intro _
    | refine (State.satAdd_held ..).trans ?_
    | refine (State.setBit_held ..).trans ?_
    | refine (State.setFld_held ..).trans ?_
    | refine (State.setFlds_held ..).trans ?_
    | refine (sleepAbort_held ..).trans ?_


end Sys2Proof.Machine
end

