-- ==== Sys2Proof/Laws/HeldStores.lean ====
section
/-!
SUPPORT. Which operations leave the queue and the byte memories as they are: the key store, plans, the journal, time, power, access, updates, resets, starts and handovers. One lemma each:
`<operation>_held`; for a command it also says that the command has a next state.
-/
namespace Sys2Proof.Machine

theorem privOnly_held (s : State) (b : By) (act : State → State) (hact : ∀ a2, (act a2).held = a2.held) : (privOnly s b
    act).held = s.held := by
  unfold privOnly
  with_reducible repeat' first
    | rfl
    | refine ite_held ?_ ?_
    | intro _
    | refine (raiseFault_held ..).trans ?_
    | refine (hact ..).trans ?_


theorem setKeyMat_held (s : State) (k : Nat) (m : List Byte) : (setKeyMat s k m).held = s.held := by
  unfold setKeyMat
  with_reducible repeat' first
    | rfl
    | (fail_if_no_progress refine (mk_held ..).trans ?_)


theorem deriveSlots_held (s : State) (puf : Bool) : (deriveSlots s puf).held = s.held := by
  unfold deriveSlots
  with_reducible repeat' first
    | rfl
    | refine (foldl_held _ ?_ _ _).trans ?_
    | refine ite_held ?_ ?_
    | intro _
    | refine (State.setFld_held ..).trans ?_
    | refine (State.setFlds_held ..).trans ?_
    | refine (setKeyMat_held ..).trans ?_


theorem randomBytes_held (s : State) (n : Nat) : (randomBytes s n).2.held = s.held := by
  induction n generalizing s with
  | zero => rfl
  | succ n ih => exact (ih _).trans rfl

theorem newFirstBoot_held (s : State) : (newFirstBoot s).held = s.held := by
  unfold newFirstBoot
  with_reducible repeat' first
    | rfl
    | (fail_if_no_progress refine (mk_held ..).trans ?_)
    | refine (State.satAdd_held ..).trans ?_
    | refine (State.setBit_held ..).trans ?_
    | refine (randomBytes_held ..).trans ?_


theorem eraseSlot_held (s : State) (k : Nat) : (eraseSlot s k).held = s.held := by
  unfold eraseSlot
  with_reducible repeat' first
    | rfl
    | refine (State.setFld_held ..).trans ?_
    | refine (setKeyMat_held ..).trans ?_


theorem eraseFirstBootSlots_held (s : State) : (eraseFirstBootSlots s).held = s.held := by
  unfold eraseFirstBootSlots
  with_reducible repeat' first
    | rfl
    | refine (State.each_held _ _ _ ?_).trans ?_
    | refine ite_held ?_ ?_
    | intro _
    | refine (eraseSlot_held ..).trans ?_


theorem writeSlot_held (s : State) (k : Nat) (cls : Nat) (type : Nat) (attr : Nat) (gen : Nat) (origin : Nat) (m : List Byte) :
    (writeSlot s k cls type attr gen origin m).held = s.held := by
  unfold writeSlot
  with_reducible repeat' first
    | rfl
    | refine (State.setFlds_held ..).trans ?_
    | refine (setKeyMat_held ..).trans ?_


theorem setXfer_held (s : State) (l : List Byte) : (setXfer s l).held = s.held := by
  unfold setXfer
  with_reducible repeat' first
    | rfl
    | refine (State.each_held _ _ _ ?_).trans ?_
    | intro _
    | refine (State.setFld_held ..).trans ?_


theorem clearXfer_held (s : State) : (clearXfer s).held = s.held := by
  unfold clearXfer
  with_reducible repeat' first
    | rfl
    | refine (State.each_held _ _ _ ?_).trans ?_
    | intro _
    | refine (State.setFld_held ..).trans ?_


theorem keyImport_held (s : State) (o : KeyOp) : (keyImport s o).2.held = s.held := by
  unfold keyImport
  with_reducible repeat' first
    | rfl
    | refine (clearXfer_held ..).trans ?_
    | refine (writeSlot_held ..).trans ?_
    | split
    | (extract_lets +onlyGivenNames z)


theorem keyGenerate_held (s : State) (o : KeyOp) : (keyGenerate s o).2.held = s.held := by
  unfold keyGenerate
  with_reducible repeat' first
    | rfl
    | refine (randomBytes_held ..).trans ?_
    | refine (writeSlot_held ..).trans ?_
    | split


theorem keyDerive_held (s : State) (o : KeyOp) : (keyDerive s o).2.held = s.held := by
  unfold keyDerive
  with_reducible repeat' first
    | rfl
    | refine (writeSlot_held ..).trans ?_
    | split
    | (extract_lets +onlyGivenNames z)


theorem keyExport_held (s : State) (o : KeyOp) : (keyExport s o).2.held = s.held := by
  unfold keyExport
  with_reducible repeat' first
    | rfl
    | refine (setXfer_held ..).trans ?_
    | split
    | (extract_lets +onlyGivenNames z)


theorem zeroise_held (s : State) (forced : Bool) : (zeroise s forced).held = s.held := by
  unfold zeroise
  with_reducible repeat' first
    | rfl
    | (fail_if_no_progress refine (mk_held ..).trans ?_)
    | refine (State.each_held _ _ _ ?_).trans ?_
    | intro _
    | refine (State.satAdd_held ..).trans ?_
    | refine (State.setBit_held ..).trans ?_
    | refine (State.setFld_held ..).trans ?_
    | refine (raiseWith_held ..).trans ?_
    | refine (setKeyMat_held ..).trans ?_


theorem keyRenew_held (s : State) : (keyRenew s).2.held = s.held := by
  unfold keyRenew
  with_reducible repeat' first
    | rfl
    | refine (eraseFirstBootSlots_held ..).trans ?_
    | refine (newFirstBoot_held ..).trans ?_
    | split


theorem keyApply_held (s : State) (o : KeyOp) : (keyApply s o).2.held = s.held := by
  unfold keyApply
  with_reducible repeat' first
    | rfl
    | refine ite_held ?_ ?_
    | intro _
    | refine (State.setFld_held ..).trans ?_
    | refine (clearXfer_held ..).trans ?_
    | refine (eraseSlot_held ..).trans ?_
    | refine (keyDerive_held ..).trans ?_
    | refine (keyExport_held ..).trans ?_
    | refine (keyGenerate_held ..).trans ?_
    | refine (keyImport_held ..).trans ?_
    | refine (keyRenew_held ..).trans ?_
    | refine (zeroise_held ..).trans ?_
    | split


theorem keyStart_held (s : State) (op : Nat) (slot : Nat) (src : Nat) (cls : Nat) (attr : Nat) : (keyStart s op slot src cls
    attr).held = s.held := by
  unfold keyStart
  with_reducible repeat' first
    | rfl
    | (fail_if_no_progress refine (mk_held ..).trans ?_)
    | refine ite_held ?_ ?_
    | intro _
    | refine (State.setBit_held ..).trans ?_
    | refine (State.setFld_held ..).trans ?_


theorem execKeyImport_held (by_ : By) (slot : BitVec 6) (src : BitVec 6) (s : State) : Res.held (execKeyImport by_ slot src s)
    s.held := by
  unfold execKeyImport
  with_reducible repeat' first
    | rfl
    | refine next_held ?_
    | intro _
    | refine (keyStart_held ..).trans ?_
    | refine (privOnly_held _ _ _ ?_).trans ?_


theorem execKeyGenerate_held (by_ : By) (slot : BitVec 6) (cls : BitVec 3) (attr : BitVec 2) (s : State) : Res.held
    (execKeyGenerate by_ slot cls attr s) s.held := by
  unfold execKeyGenerate
  with_reducible repeat' first
    | rfl
    | refine next_held ?_
    | intro _
    | refine (keyStart_held ..).trans ?_
    | refine (privOnly_held _ _ _ ?_).trans ?_


theorem execKeyDerive_held (by_ : By) (slot : BitVec 6) (src : BitVec 6) (attr : BitVec 2) (s : State) : Res.held
    (execKeyDerive by_ slot src attr s) s.held := by
  unfold execKeyDerive
  with_reducible repeat' first
    | rfl
    | refine next_held ?_
    | intro _
    | refine (keyStart_held ..).trans ?_
    | refine (privOnly_held _ _ _ ?_).trans ?_


theorem execKeyExport_held (by_ : By) (slot : BitVec 6) (src : BitVec 6) (s : State) : Res.held (execKeyExport by_ slot src s)
    s.held := by
  unfold execKeyExport
  with_reducible repeat' first
    | rfl
    | refine next_held ?_
    | intro _
    | refine (keyStart_held ..).trans ?_
    | refine (privOnly_held _ _ _ ?_).trans ?_


theorem execKeyErase_held (by_ : By) (slot : BitVec 6) (s : State) : Res.held (execKeyErase by_ slot s) s.held := by
  unfold execKeyErase
  with_reducible repeat' first
    | rfl
    | refine next_held ?_
    | intro _
    | refine (keyStart_held ..).trans ?_
    | refine (privOnly_held _ _ _ ?_).trans ?_


theorem execKeyLock_held (by_ : By) (slot : BitVec 6) (s : State) : Res.held (execKeyLock by_ slot s) s.held := by
  unfold execKeyLock
  with_reducible repeat' first
    | rfl
    | refine next_held ?_
    | intro _
    | refine (keyStart_held ..).trans ?_
    | refine (privOnly_held _ _ _ ?_).trans ?_


theorem execKeyRenewFb_held (by_ : By) (s : State) : Res.held (execKeyRenewFb by_ s) s.held := by
  unfold execKeyRenewFb
  with_reducible repeat' first
    | rfl
    | refine next_held ?_
    | intro _
    | refine (keyStart_held ..).trans ?_
    | refine (privOnly_held _ _ _ ?_).trans ?_


theorem execKeyZeroise_held (by_ : By) (s : State) : Res.held (execKeyZeroise by_ s) s.held := by
  unfold execKeyZeroise
  with_reducible repeat' first
    | rfl
    | refine next_held ?_
    | intro _
    | refine (keyStart_held ..).trans ?_
    | refine (privOnly_held _ _ _ ?_).trans ?_


theorem execKeyOperationDone_held (s : State) : Res.held (execKeyOperationDone s) s.held := by
  unfold execKeyOperationDone
  with_reducible repeat' first
    | rfl
    | (fail_if_no_progress refine (mk_held ..).trans ?_)
    | refine next_held ?_
    | refine (State.setFlds_held ..).trans ?_
    | refine (keyApply_held ..).trans ?_
    | split


theorem checkRecords_held (s : State) (bad : List Nat) : (checkRecords s bad).held = s.held := by
  unfold checkRecords
  with_reducible repeat' first
    | rfl
    | (fail_if_no_progress refine (mk_held ..).trans ?_)
    | refine (foldl_held _ ?_ _ _).trans ?_
    | intro _
    | refine (State.setBit_held ..).trans ?_
    | refine (raiseWith_held ..).trans ?_


theorem execKeyRecordCheck_held (bad : List Nat) (s : State) : Res.held (execKeyRecordCheck bad s) s.held := by
  unfold execKeyRecordCheck
  with_reducible repeat' first
    | rfl
    | refine next_held ?_
    | refine (checkRecords_held ..).trans ?_


theorem tamperEvent_held (s : State) (src : Nat) (forced : Bool) : (tamperEvent s src forced).held = s.held := by
  unfold tamperEvent
  with_reducible repeat' first
    | rfl
    | refine ite_held ?_ ?_
    | intro _
    | refine (State.setFld_held ..).trans ?_
    | refine (raiseWith_held ..).trans ?_
    | refine (wakeEvent_held ..).trans ?_
    | refine (zeroise_held ..).trans ?_


theorem execTamper_held (src : Fin 5) (s : State) : Res.held (execTamper src s) s.held := by
  unfold execTamper
  with_reducible repeat' first
    | rfl
    | refine next_held ?_
    | refine ite_held ?_ ?_
    | intro _
    | refine (tamperEvent_held ..).trans ?_


theorem trngFails_held (s : State) (forced : Bool) : (trngFails s forced).held = s.held := by
  unfold trngFails
  with_reducible repeat' first
    | rfl
    | refine ite_held ?_ ?_
    | intro _
    | refine (State.setBit_held ..).trans ?_
    | refine (raiseWith_held ..).trans ?_
    | refine (roundStop_held ..).trans ?_
    | refine (settleRaises_held ..).trans ?_
    | split
    | (extract_lets +onlyGivenNames z)


theorem execTrngFail_held (s : State) : Res.held (execTrngFail s) s.held := by
  unfold execTrngFail
  with_reducible repeat' first
    | rfl
    | refine next_held ?_
    | refine (trngFails_held ..).trans ?_


theorem crqStart_held (s : State) (b : By) (op : Nat) (slot : Nat) : (crqStart s b op slot).held = s.held := by
  unfold crqStart
  with_reducible repeat' first
    | rfl
    | (fail_if_no_progress refine (mk_held ..).trans ?_)
    | refine ite_held ?_ ?_
    | intro _
    | refine (State.setFld_held ..).trans ?_
    | refine (State.setFlds_held ..).trans ?_
    | refine (privOnly_held _ _ _ ?_).trans ?_
    | refine (raiseFault_held ..).trans ?_


theorem execCrqCmac_held (by_ : By) (slot : BitVec 6) (s : State) : Res.held (execCrqCmac by_ slot s) s.held := by
  unfold execCrqCmac
  with_reducible repeat' first
    | rfl
    | refine next_held ?_
    | refine (crqStart_held ..).trans ?_


theorem execCrqEncrypt_held (by_ : By) (slot : BitVec 6) (s : State) : Res.held (execCrqEncrypt by_ slot s) s.held := by
  unfold execCrqEncrypt
  with_reducible repeat' first
    | rfl
    | refine next_held ?_
    | refine (crqStart_held ..).trans ?_


theorem execCrqSha256_held (by_ : By) (s : State) : Res.held (execCrqSha256 by_ s) s.held := by
  unfold execCrqSha256
  with_reducible repeat' first
    | rfl
    | refine next_held ?_
    | refine (crqStart_held ..).trans ?_


theorem execCrqAttest_held (by_ : By) (s : State) : Res.held (execCrqAttest by_ s) s.held := by
  unfold execCrqAttest
  with_reducible repeat' first
    | rfl
    | refine next_held ?_
    | refine (crqStart_held ..).trans ?_


theorem crqBytes_held (s : State) (n : Nat) : (crqBytes s n).2.held = s.held := by
  unfold crqBytes
  with_reducible repeat' first
    | rfl
    | refine (State.free_held ..).trans ?_
    | split
    | (extract_lets +onlyGivenNames z)


theorem crqResult_held (s : State) (op slot : Nat) : (crqResult s op slot).2.2.held = s.held := by
  have key : ∀ (c : Prop) [Decidable c] (a b : List Byte) (x n : Nat),
      (if c then (x, a, s) else (0, b, (crqBytes s n).2)).2.2.held = s.held := by
    intro c _ a b x n
    split
    · rfl
    · exact crqBytes_held _ _
  unfold crqResult
  extract_lets n
  split
  · exact key _ _ _ _ _
  · exact key _ _ _ _ _
  · exact crqBytes_held _ _
  · exact key _ _ _ _ _
theorem execCrqDone_held (s : State) : Res.held (execCrqDone s) s.held := by
  unfold execCrqDone
  split
  · exact next_held rfl
  · rename_i op slot h
    extract_lets u r
    split
    · exact next_held ((State.setFlds_held _ _).trans (mk_held ..))
    · refine next_held ((State.setFlds_held _ _).trans ((State.each_held _ _ _ fun s w => State.setFld_held _ _ _ _).trans ?_))
      exact (crqResult_held _ op slot).trans (mk_held ..)

theorem execKeysForceTamper_held (by_ : By) (s : State) : Res.held (execKeysForceTamper by_ s) s.held := by
  unfold execKeysForceTamper
  with_reducible repeat' first
    | rfl
    | refine next_held ?_
    | intro _
    | refine (gated_held _ _ _ ?_).trans ?_
    | refine (tamperEvent_held ..).trans ?_


theorem execKeysForceSlotfail_held (by_ : By) (s : State) : Res.held (execKeysForceSlotfail by_ s) s.held := by
  unfold execKeysForceSlotfail
  with_reducible repeat' first
    | rfl
    | (fail_if_no_progress refine (mk_held ..).trans ?_)
    | refine next_held ?_
    | intro _
    | refine (gated_held _ _ _ ?_).trans ?_


theorem execKeysForceTrng_held (by_ : By) (s : State) : Res.held (execKeysForceTrng by_ s) s.held := by
  unfold execKeysForceTrng
  with_reducible repeat' first
    | rfl
    | refine next_held ?_
    | intro _
    | refine (gated_held _ _ _ ?_).trans ?_
    | refine (trngFails_held ..).trans ?_


theorem keysStart_held (s : State) (k : KeysIn) : (keysStart s k).held = s.held := by
  unfold keysStart
  with_reducible repeat' first
    | rfl
    | (fail_if_no_progress refine (mk_held ..).trans ?_)
    | refine ite_held ?_ ?_
    | intro _
    | refine (State.setBit_held ..).trans ?_
    | refine (State.setFlds_held ..).trans ?_
    | refine (checkRecords_held ..).trans ?_
    | refine (deriveSlots_held ..).trans ?_
    | refine (newFirstBoot_held ..).trans ?_
    | refine (raiseFault_held ..).trans ?_
    | split


theorem jShow_held (s : State) : (jShow s).held = s.held := by
  unfold jShow
  with_reducible repeat' first
    | rfl
    | refine ite_held ?_ ?_
    | intro _
    | refine (State.setBit_held ..).trans ?_
    | refine (State.setFld_held ..).trans ?_
    | refine (State.setPair_held ..).trans ?_


theorem bankLost_held (s : State) (b : Nat) (forced : Bool) : (bankLost s b forced).held = s.held := by
  unfold bankLost
  with_reducible repeat' first
    | rfl
    | refine (State.setBit_held ..).trans ?_
    | refine (raiseWith_held ..).trans ?_


theorem jWrite_held (s : State) (r : JRec) (fail : BitVec 2) : (jWrite s r fail).1.held = s.held := by
  unfold jWrite
  with_reducible repeat' first
    | rfl
    | (fail_if_no_progress refine (mk_held ..).trans ?_)
    | refine (foldl_held _ ?_ _ _).trans ?_
    | intro _
    | refine (State.setBit_held ..).trans ?_
    | refine (bankLost_held ..).trans ?_
    | refine (jShow_held ..).trans ?_
    | refine (raiseFault_held ..).trans ?_
    | refine (raiseWith_held ..).trans ?_
    | split
    | (extract_lets +onlyGivenNames z)


theorem jFree_held (s : State) : (jFree s).held = s.held := by
  unfold jFree
  with_reducible repeat' first
    | rfl
    | (fail_if_no_progress refine (mk_held ..).trans ?_)
    | refine (jShow_held ..).trans ?_


theorem execDrainChunk_held (fail : BitVec 2) (s : State) : Res.held (execDrainChunk fail s) s.held := by
  unfold execDrainChunk
  with_reducible repeat' first
    | rfl
    | (fail_if_no_progress refine (mk_held ..).trans ?_)
    | refine next_held ?_
    | refine ite_held ?_ ?_
    | refine iteRes_held ?_ ?_
    | intro _
    | refine (State.setBit_held ..).trans ?_
    | refine (State.setFlds_held ..).trans ?_
    | refine (jFree_held ..).trans ?_
    | refine (raiseFault_held ..).trans ?_


theorem ownPost_held (s : State) (q : Nat) (outcome : Nat) (col : Nat) (data : List Byte) : (ownPost s q outcome col data).held
    = s.held := by
  unfold ownPost
  with_reducible repeat' first
    | rfl
    | (fail_if_no_progress refine (mk_held ..).trans ?_)
    | refine ite_held ?_ ?_
    | intro _


theorem outPost_held (s : State) (b : By) (outcome : Nat) (reason : Nat) (bind : Nat) : (outPost s b outcome reason bind).held
    = s.held := by
  unfold outPost
  with_reducible repeat' first
    | rfl
    | (fail_if_no_progress refine (mk_held ..).trans ?_)
    | refine ite_held ?_ ?_
    | intro _
    | refine (State.setBit_held ..).trans ?_
    | refine (State.setFld_held ..).trans ?_
    | refine (jShow_held ..).trans ?_
    | refine (raiseFault_held ..).trans ?_
    | refine (raiseWith_held ..).trans ?_


theorem execOutPost_held (by_ : By) (outcome : Byte) (reason : Byte) (bind : BitVec 16) (s : State) : Res.held (execOutPost by_
    outcome reason bind s) s.held := by
  unfold execOutPost
  with_reducible repeat' first
    | rfl
    | refine next_held ?_
    | refine ite_held ?_ ?_
    | refine iteRes_held ?_ ?_
    | intro _
    | refine (outPost_held ..).trans ?_
    | refine (raiseFault_held ..).trans ?_


theorem emptyWindow_held (s : State) (c : Nat) : (emptyWindow s c).held = s.held := by
  unfold emptyWindow
  with_reducible repeat' first
    | rfl
    | (fail_if_no_progress refine (mk_held ..).trans ?_)


theorem deviceApply_held (s : State) (e : JEntry) : (deviceApply s e).held = s.held := by
  unfold deviceApply
  with_reducible repeat' first
    | rfl
    | (fail_if_no_progress refine (mk_held ..).trans ?_)
    | refine ite_held ?_ ?_
    | intro _
    | refine (emptyWindow_held ..).trans ?_


theorem execOutcomeJournaled_held (fail : BitVec 2) (s : State) : Res.held (execOutcomeJournaled fail s) s.held := by
  unfold execOutcomeJournaled
  with_reducible repeat' first
    | rfl
    | (fail_if_no_progress refine (mk_held ..).trans ?_)
    | refine next_held ?_
    | refine ite_held ?_ ?_
    | refine iteRes_held ?_ ?_
    | intro _
    | refine (deviceApply_held ..).trans ?_
    | refine (jShow_held ..).trans ?_
    | refine (jWrite_held ..).trans ?_
    | split
    | (extract_lets +onlyGivenNames z)
    | subst z


theorem execPersistentStore_held (s : State) : Res.held (execPersistentStore s) s.held := by
  unfold execPersistentStore
  with_reducible repeat' first
    | rfl
    | (fail_if_no_progress refine (mk_held ..).trans ?_)
    | refine next_held ?_
    | refine iteRes_held ?_ ?_
    | intro _
    | refine (jFree_held ..).trans ?_
    | split


theorem execJournalForceBank0_held (by_ : By) (s : State) : Res.held (execJournalForceBank0 by_ s) s.held := by
  unfold execJournalForceBank0
  with_reducible repeat' first
    | rfl
    | (fail_if_no_progress refine (mk_held ..).trans ?_)
    | refine next_held ?_
    | intro _
    | refine (gated_held _ _ _ ?_).trans ?_


theorem execJournalForceBank1_held (by_ : By) (s : State) : Res.held (execJournalForceBank1 by_ s) s.held := by
  unfold execJournalForceBank1
  with_reducible repeat' first
    | rfl
    | (fail_if_no_progress refine (mk_held ..).trans ?_)
    | refine next_held ?_
    | intro _
    | refine (gated_held _ _ _ ?_).trans ?_


theorem expireAll_held (s : State) : (expireAll s).1.held = s.held := by
  unfold expireAll
  with_reducible repeat' first
    | rfl
    | refine (foldlFst_held _ ?_ _ _).trans ?_
    | intro _
    | refine (jWrite_held ..).trans ?_
    | split
    | (extract_lets +onlyGivenNames z)


theorem dropUncorr_held (s : State) (bad : List Nat) : (dropUncorr s bad).held = s.held := by
  unfold dropUncorr
  with_reducible repeat' first
    | rfl
    | (fail_if_no_progress refine (mk_held ..).trans ?_)
    | refine (foldl_held _ ?_ _ _).trans ?_
    | intro _
    | refine (raiseWith_held ..).trans ?_


theorem journalStart_held (s : State) (power : Bool) (bad : List Nat) : (journalStart s power bad).held = s.held := by
  unfold journalStart
  extract_lets a b v l j c x d m e j' f
  have h1 : c.held = s.held := (mk_held ..).trans ((dropUncorr_held _ _).trans (ite_held (fun _ => State.setFlds_held _ _) fun
      _ => rfl))
  have h2 : x.1.held = c.held := by
    dsimp only [x]
    rw [apply_ite (fun p : State × Nat => p.1)]
    exact ite_held (fun _ => expireAll_held _) fun _ => rfl
  exact (jShow_held _).trans ((State.satAdd_held _ _ _ _).trans ((State.satAdd_held _ _ _ _).trans ((mk_held ..).trans
    ((jWrite_held _ _ _).trans (h2.trans h1)))))

theorem State.tm_held (s : State) (f : Timers → Timers) : (State.tm s f).held = s.held := by
  unfold State.tm
  with_reducible repeat' first
    | rfl
    | (fail_if_no_progress refine (mk_held ..).trans ?_)


theorem execTimeBaseCarry_held (s : State) : Res.held (execTimeBaseCarry s) s.held := by
  unfold execTimeBaseCarry
  with_reducible repeat' first
    | rfl
    | refine next_held ?_
    | refine ite_held ?_ ?_
    | refine iteRes_held ?_ ?_
    | intro _
    | refine (State.reach_held ..).trans ?_
    | refine (State.tm_held ..).trans ?_


theorem execSlowratioMeasure_held (ratio : Nat) (s : State) : Res.held (execSlowratioMeasure ratio s) s.held := by
  unfold execSlowratioMeasure
  with_reducible repeat' first
    | rfl
    | refine next_held ?_
    | refine iteRes_held ?_ ?_
    | intro _
    | refine (State.setFld_held ..).trans ?_
    | refine (raiseFault_held ..).trans ?_


theorem timeStep_held (s : State) (c : Nat) : (timeStep s c).held = s.held := by
  unfold timeStep
  with_reducible repeat' first
    | rfl
    | (fail_if_no_progress refine (mk_held ..).trans ?_)
    | refine (State.setBit_held ..).trans ?_


theorem execSyncMessage_held (port : Fin 3) (pdelay : Nat) (ns : Nat) (s : State) : Res.held (execSyncMessage port pdelay ns s)
    s.held := by
  unfold execSyncMessage
  extract_lets c ofs t
  have ht : t.held = s.held := State.setFld_held _ _ _ _
  split
  · exact next_held rfl
  · split
    · split
      · exact next_held ((State.setFlds_held _ _).trans ((State.free_held _).trans ht))
      · exact next_held ((raiseFault_held _ _ _ _).trans ((State.setBit_held _ _ _ _).trans ht))
    · split
      · split
        · exact next_held ht
        · split
          · exact next_held ((timeStep_held _ _).trans ht)
          · exact next_held ((raiseFault_held _ _ _ _).trans ((State.setBit_held _ _ _ _).trans ht))
      · exact next_held ht

theorem State.setCmp_held (s : State) (n : Nat) (c : CmpCh) : (State.setCmp s n c).held = s.held := by
  unfold State.setCmp
  with_reducible repeat' first
    | rfl
    | refine (State.tm_held ..).trans ?_


theorem execCompareFire_held (n : Fin 48) (s : State) : Res.held (execCompareFire n s) s.held := by
  unfold execCompareFire
  with_reducible repeat' first
    | rfl
    | refine next_held ?_
    | refine ite_held ?_ ?_
    | refine iteRes_held ?_ ?_
    | intro _
    | refine (State.reach_held ..).trans ?_
    | refine (State.setBit_held ..).trans ?_
    | refine (State.setCmp_held ..).trans ?_
    | refine (State.setFld_held ..).trans ?_
    | refine (State.setPair_held ..).trans ?_
    | refine (wakeEvent_held ..).trans ?_
    | split


theorem execCounterStep_held (n : Fin 16) (dirHigh : Bool) (s : State) : Res.held (execCounterStep n dirHigh s) s.held := by
  unfold execCounterStep
  with_reducible repeat' first
    | rfl
    | refine next_held ?_
    | refine ite_held ?_ ?_
    | refine iteRes_held ?_ ?_
    | intro _
    | refine (State.reach_held ..).trans ?_
    | refine (State.setBit_held ..).trans ?_
    | refine (State.setFld_held ..).trans ?_
    | refine (State.tm_held ..).trans ?_


theorem udcStart_held (s : State) (mask : Nat) : (udcStart s mask).held = s.held := by
  unfold udcStart
  with_reducible repeat' first
    | rfl
    | refine (State.each_held _ _ _ ?_).trans ?_
    | refine ite_held ?_ ?_
    | intro _
    | refine (State.setBit_held ..).trans ?_
    | refine (State.tm_held ..).trans ?_


theorem execUdcstart_held (x0 : By) (mask : BitVec 16) (s : State) : Res.held (execUdcstart x0 mask s) s.held := by
  unfold execUdcstart
  with_reducible repeat' first
    | rfl
    | refine next_held ?_
    | refine (udcStart_held ..).trans ?_


theorem execCaptureEdge_held (n : Fin 32) (count : Nat) (level : Bool) (s : State) : Res.held (execCaptureEdge n count level s)
    s.held := by
  unfold execCaptureEdge
  with_reducible repeat' first
    | rfl
    | refine next_held ?_
    | refine ite_held ?_ ?_
    | refine iteRes_held ?_ ?_
    | intro _
    | refine (State.incFld_held ..).trans ?_
    | refine (State.reach_held ..).trans ?_
    | refine (State.setBit_held ..).trans ?_
    | refine (State.setFld_held ..).trans ?_
    | refine (State.setFlds_held ..).trans ?_
    | refine (State.tm_held ..).trans ?_
    | split


theorem capEmpty_held (s : State) (n : Nat) : (capEmpty s n).held = s.held := by
  unfold capEmpty
  with_reducible repeat' first
    | rfl
    | refine (State.setFlds_held ..).trans ?_
    | refine (State.tm_held ..).trans ?_


theorem execSiLevelChange_held (n : Fin 64) (level : Bool) (s : State) : Res.held (execSiLevelChange n level s) s.held := by
  unfold execSiLevelChange
  with_reducible repeat' first
    | rfl
    | refine next_held ?_
    | refine ite_held ?_ ?_
    | refine iteRes_held ?_ ?_
    | intro _
    | refine (State.setFlds_held ..).trans ?_
    | refine (State.tm_held ..).trans ?_
    | refine (wakeEvent_held ..).trans ?_


theorem execCleaningPulseEnd_held (n : Fin 64) (s : State) : Res.held (execCleaningPulseEnd n s) s.held := by
  unfold execCleaningPulseEnd
  with_reducible repeat' first
    | rfl
    | refine next_held ?_
    | refine iteRes_held ?_ ?_
    | intro _
    | refine (State.reach_held ..).trans ?_
    | refine (State.tm_held ..).trans ?_


theorem execSiValleyPoll_held (n : Fin 64) (level : Bool) (s : State) : Res.held (execSiValleyPoll n level s) s.held := by
  unfold execSiValleyPoll
  with_reducible repeat' first
    | rfl
    | refine next_held ?_
    | refine iteRes_held ?_ ?_
    | intro _
    | refine (State.tm_held ..).trans ?_
    | refine (wakeEvent_held ..).trans ?_


theorem aiStart_held (s : State) (p : Nat) (d : Nat) (ins : List Nat) : (aiStart s p d ins).held = s.held := by
  unfold aiStart
  with_reducible repeat' first
    | rfl
    | refine ite_held ?_ ?_
    | intro _
    | refine (State.setBit_held ..).trans ?_
    | refine (State.tm_held ..).trans ?_


theorem sampleStart_held (s : State) (p : Nat) (group : Nat) : (sampleStart s p group).held = s.held := by
  unfold sampleStart
  with_reducible repeat' first
    | rfl
    | refine ite_held ?_ ?_
    | intro _
    | refine (State.setBit_held ..).trans ?_
    | refine (State.tm_held ..).trans ?_
    | refine (aiStart_held ..).trans ?_
    | refine (scanStart_held ..).trans ?_


theorem execAiConversionDone_held (n : Fin 24) (code : BitVec 12) (s : State) : Res.held (execAiConversionDone n code s) s.held
    := by
  unfold execAiConversionDone
  with_reducible repeat' first
    | rfl
    | refine next_held ?_
    | refine iteRes_held ?_ ?_
    | intro _
    | refine (State.reach_held ..).trans ?_
    | refine (State.setFlds_held ..).trans ?_
    | refine (State.tm_held ..).trans ?_
    | refine (ledSourced_held ..).trans ?_
    | refine (raiseFault_held ..).trans ?_
    | split
    | (extract_lets +onlyGivenNames z)


theorem State.pw_held (s : State) (f : Power → Power) : (State.pw s f).held = s.held := by
  unfold State.pw
  with_reducible repeat' first
    | rfl
    | (fail_if_no_progress refine (mk_held ..).trans ?_)


theorem sleepSet_held (s : State) : (sleepSet s).held = s.held := by
  unfold sleepSet
  with_reducible repeat' first
    | rfl
    | refine (State.setBit_held ..).trans ?_
    | refine (State.setFld_held ..).trans ?_


theorem sleepArm_held (s : State) : (sleepArm s).held = s.held := by
  unfold sleepArm
  with_reducible repeat' first
    | rfl
    | refine ite_held ?_ ?_
    | intro _
    | refine (State.setBit_held ..).trans ?_
    | refine (State.setFld_held ..).trans ?_
    | refine (sleepSet_held ..).trans ?_


theorem execSleepArm_held (by_ : By) (s : State) : Res.held (execSleepArm by_ s) s.held := by
  unfold execSleepArm
  with_reducible repeat' first
    | rfl
    | refine next_held ?_
    | intro _
    | refine (privOnly_held _ _ _ ?_).trans ?_
    | refine (sleepArm_held ..).trans ?_


theorem selfArm_held (s : State) (mode : Nat) : (selfArm s mode).held = s.held := by
  unfold selfArm
  with_reducible repeat' first
    | rfl
    | refine ite_held ?_ ?_
    | intro _
    | refine (State.setFld_held ..).trans ?_
    | refine (State.setPair_held ..).trans ?_
    | refine (sleepSet_held ..).trans ?_


theorem execWatershed_held (s : State) : Res.held (execWatershed s) s.held := by
  unfold execWatershed
  with_reducible repeat' first
    | rfl
    | (fail_if_no_progress refine (mk_held ..).trans ?_)
    | refine next_held ?_
    | refine iteRes_held ?_ ?_
    | intro _
    | refine (State.pw_held ..).trans ?_
    | refine (State.setFld_held ..).trans ?_


theorem execDescentStart_held (s : State) : Res.held (execDescentStart s) s.held := by
  unfold execDescentStart
  with_reducible repeat' first
    | rfl
    | refine next_held ?_
    | refine iteRes_held ?_ ?_
    | intro _
    | refine (State.pw_held ..).trans ?_


theorem forcedEntry_held (s : State) (forced : Bool) : (forcedEntry s forced).held = s.held := by
  unfold forcedEntry
  with_reducible repeat' first
    | rfl
    | refine (State.setBit_held ..).trans ?_
    | refine (raiseWith_held ..).trans ?_


theorem execForcedEntry_held (s : State) : Res.held (execForcedEntry s) s.held := by
  unfold execForcedEntry
  with_reducible repeat' first
    | rfl
    | refine next_held ?_
    | refine iteRes_held ?_ ?_
    | intro _
    | refine (State.pw_held ..).trans ?_
    | refine (forcedEntry_held ..).trans ?_


theorem handoverCancelled_held (s : State) : (handoverCancelled s).held = s.held := by
  unfold handoverCancelled
  with_reducible repeat' first
    | rfl
    | (fail_if_no_progress refine (mk_held ..).trans ?_)
    | refine ite_held ?_ ?_
    | intro _
    | refine (State.setFlds_held ..).trans ?_
    | refine (raiseFault_held ..).trans ?_


theorem execParkingCol_held (s : State) : Res.held (execParkingCol s) s.held := by
  unfold execParkingCol
  with_reducible repeat' first
    | rfl
    | (fail_if_no_progress refine (mk_held ..).trans ?_)
    | refine next_held ?_
    | refine (State.each_held _ _ _ ?_).trans ?_
    | refine ite_held ?_ ?_
    | refine iteRes_held ?_ ?_
    | intro _
    | refine (State.pw_held ..).trans ?_
    | refine (State.tm_held ..).trans ?_
    | refine (dropQueued_held ..).trans ?_
    | refine (handoverCancelled_held ..).trans ?_
    | refine (jShow_held ..).trans ?_
    | refine (ledgerRetain_held ..).trans ?_
    | refine (outputsOff_held ..).trans ?_
    | refine (releaseResv_held ..).trans ?_
    | refine (settleRaises_held ..).trans ?_


theorem execTc10SleepHandshake_held (port : Fin 2) (s : State) : Res.held (execTc10SleepHandshake port s) s.held := by
  unfold execTc10SleepHandshake
  with_reducible repeat' first
    | rfl
    | refine next_held ?_
    | refine iteRes_held ?_ ?_
    | intro _
    | refine (State.pw_held ..).trans ?_


theorem linkBits_held (s : State) (e : Nat) (up : Bool) : (linkBits s e up).held = s.held := by
  unfold linkBits
  with_reducible repeat' first
    | rfl
    | refine (State.setBit_held ..).trans ?_


theorem execTc10Timeout_held (port : Fin 2) (s : State) : Res.held (execTc10Timeout port s) s.held := by
  unfold execTc10Timeout
  with_reducible repeat' first
    | rfl
    | refine next_held ?_
    | refine iteRes_held ?_ ?_
    | intro _
    | refine (State.pw_held ..).trans ?_
    | refine (linkBits_held ..).trans ?_


theorem pollStart_held (s : State) : (pollStart s).held = s.held := by
  unfold pollStart
  with_reducible repeat' first
    | rfl
    | (fail_if_no_progress refine (mk_held ..).trans ?_)
    | refine ite_held ?_ ?_
    | intro _
    | refine (State.setFlds_held ..).trans ?_


theorem execValleyEntryComplete_held (s : State) : Res.held (execValleyEntryComplete s) s.held := by
  unfold execValleyEntryComplete
  with_reducible repeat' first
    | rfl
    | (fail_if_no_progress refine (mk_held ..).trans ?_)
    | refine next_held ?_
    | refine ite_held ?_ ?_
    | refine iteRes_held ?_ ?_
    | intro _
    | refine (State.pw_held ..).trans ?_
    | refine (State.reach_held ..).trans ?_
    | refine (State.setBit_held ..).trans ?_
    | refine (State.setFlds_held ..).trans ?_
    | refine (linkBits_held ..).trans ?_
    | refine (pollStart_held ..).trans ?_


theorem execValleyExit_held (s : State) : Res.held (execValleyExit s) s.held := by
  unfold execValleyExit
  with_reducible repeat' first
    | rfl
    | (fail_if_no_progress refine (mk_held ..).trans ?_)
    | refine next_held ?_
    | refine ite_held ?_ ?_
    | refine iteRes_held ?_ ?_
    | intro _
    | refine (State.pw_held ..).trans ?_
    | refine (State.reach_held ..).trans ?_
    | refine (State.satAdd_held ..).trans ?_
    | refine (State.setFlds_held ..).trans ?_
    | refine (sleepDisarm_held ..).trans ?_
    | refine (wakePulse_held ..).trans ?_
    | split


theorem execWakeLinePulse_held (s : State) : Res.held (execWakeLinePulse s) s.held := by
  unfold execWakeLinePulse
  with_reducible repeat' first
    | rfl
    | refine next_held ?_
    | refine ite_held ?_ ?_
    | intro _
    | refine (wakeEvent_held ..).trans ?_


theorem execWakePulseEnd_held (s : State) : Res.held (execWakePulseEnd s) s.held := by
  unfold execWakePulseEnd
  with_reducible repeat' first
    | rfl
    | refine next_held ?_
    | refine ite_held ?_ ?_
    | intro _
    | refine (State.pw_held ..).trans ?_
    | refine (State.reach_held ..).trans ?_


theorem wakeStuck_held (s : State) (forced : Bool) : (wakeStuck s forced).held = s.held := by
  unfold wakeStuck
  with_reducible repeat' first
    | rfl
    | refine (State.pw_held ..).trans ?_
    | refine (raiseWith_held ..).trans ?_


theorem execWakeLineStuck_held (s : State) : Res.held (execWakeLineStuck s) s.held := by
  unfold execWakeLineStuck
  with_reducible repeat' first
    | rfl
    | refine next_held ?_
    | refine ite_held ?_ ?_
    | intro _
    | refine (wakeStuck_held ..).trans ?_


theorem execWakeLineRecovery_held (s : State) : Res.held (execWakeLineRecovery s) s.held := by
  unfold execWakeLineRecovery
  with_reducible repeat' first
    | rfl
    | refine next_held ?_
    | refine (State.pw_held ..).trans ?_


theorem canWakes_held (s : State) (c : Nat) (F : Field) : (canWakes s c F).held = s.held := by
  unfold canWakes
  with_reducible repeat' first
    | rfl
    | refine ite_held ?_ ?_
    | intro _
    | refine (State.setBit_held ..).trans ?_
    | refine (wakeEvent_held ..).trans ?_


theorem execCanSelectiveWake_held (c : Fin 8) (ev : CanWake) (s : State) : Res.held (execCanSelectiveWake c ev s) s.held := by
  unfold execCanSelectiveWake
  extract_lets n
  split
  · exact next_held rfl
  · cases ev <;> cases s.bit Reg.NET.CANSWCFG.WUF_EN n
    · exact next_held (canWakes_held _ _ _)
    · exact next_held rfl
    · exact next_held rfl
    · refine next_held (ite_held (fun _ => (canWakes_held _ _ _).trans (State.setFld_held _ _ _ _)) fun _ => State.setFld_held
        _ _ _ _)
    · exact next_held rfl
    · refine next_held (ite_held (fun _ => (canWakes_held _ _ _).trans (State.setFld_held _ _ _ _)) fun _ => State.setFld_held
        _ _ _ _)

theorem execEthernetWake_held (port : Fin 3) (tc10 : Bool) (s : State) : Res.held (execEthernetWake port tc10 s) s.held := by
  unfold execEthernetWake
  with_reducible repeat' first
    | rfl
    | refine next_held ?_
    | refine ite_held ?_ ?_
    | refine iteRes_held ?_ ?_
    | intro _
    | refine (State.pw_held ..).trans ?_
    | refine (wakeEvent_held ..).trans ?_


theorem execLinWake_held (l : Fin 12) (s : State) : Res.held (execLinWake l s) s.held := by
  unfold execLinWake
  with_reducible repeat' first
    | rfl
    | refine next_held ?_
    | refine ite_held ?_ ?_
    | intro _
    | refine (wakeEvent_held ..).trans ?_


theorem execSbsAddress_held (addr : BitVec 7) (x1 : Bool) (s : State) : Res.held (execSbsAddress addr x1 s) s.held := by
  unfold execSbsAddress
  with_reducible repeat' first
    | rfl
    | refine next_held ?_
    | refine ite_held ?_ ?_
    | intro _
    | refine (wakeEvent_held ..).trans ?_


theorem ntStop_held (s : State) : (ntStop s).held = s.held := by
  unfold ntStop
  with_reducible repeat' first
    | rfl
    | refine (State.pw_held ..).trans ?_
    | refine (State.setBit_held ..).trans ?_


theorem ntExpire_held (s : State) (forced : Bool) : (ntExpire s forced).held = s.held := by
  unfold ntExpire
  with_reducible repeat' first
    | rfl
    | refine (State.satAdd_held ..).trans ?_
    | refine (ntStop_held ..).trans ?_
    | refine (raiseWith_held ..).trans ?_
    | refine (selfArm_held ..).trans ?_


theorem execNoTrafficExpiry_held (s : State) : Res.held (execNoTrafficExpiry s) s.held := by
  unfold execNoTrafficExpiry
  with_reducible repeat' first
    | rfl
    | refine next_held ?_
    | refine (State.reach_held ..).trans ?_
    | refine (ntExpire_held ..).trans ?_
    | split


theorem maRestart_held (s : State) : (maRestart s).held = s.held := by
  unfold maRestart
  with_reducible repeat' first
    | rfl
    | refine ite_held ?_ ?_
    | intro _
    | refine (State.pw_held ..).trans ?_


theorem maExpire_held (s : State) (forced : Bool) : (maExpire s forced).held = s.held := by
  unfold maExpire
  with_reducible repeat' first
    | rfl
    | refine ite_held ?_ ?_
    | intro _
    | refine (State.pw_held ..).trans ?_
    | refine (State.setBit_held ..).trans ?_
    | refine (raiseWith_held ..).trans ?_
    | refine (selfArm_held ..).trans ?_


theorem execMaxawakeExpiry_held (s : State) : Res.held (execMaxawakeExpiry s) s.held := by
  unfold execMaxawakeExpiry
  with_reducible repeat' first
    | rfl
    | refine next_held ?_
    | refine ite_held ?_ ?_
    | intro _
    | refine (State.reach_held ..).trans ?_
    | refine (maExpire_held ..).trans ?_
    | split


theorem awakeTimers_held (s : State) (c : Nat) : (awakeTimers s c).held = s.held := by
  unfold awakeTimers
  with_reducible repeat' first
    | rfl
    | refine (State.pw_held ..).trans ?_
    | refine (State.setBit_held ..).trans ?_


theorem powerKeep_held (s : State) : (powerKeep s).held = s.held := by
  unfold powerKeep
  with_reducible repeat' first
    | rfl
    | refine (maRestart_held ..).trans ?_
    | refine (ntStop_held ..).trans ?_


theorem execPowerPulse_held (by_ : By) (s : State) : Res.held (execPowerPulse by_ s) s.held := by
  unfold execPowerPulse
  with_reducible repeat' first
    | rfl
    | refine next_held ?_
    | intro _
    | refine (privOnly_held _ _ _ ?_).trans ?_
    | refine (wakePulse_held ..).trans ?_


theorem execPowerKeep_held (by_ : By) (s : State) : Res.held (execPowerKeep by_ s) s.held := by
  unfold execPowerKeep
  with_reducible repeat' first
    | rfl
    | refine next_held ?_
    | intro _
    | refine (powerKeep_held ..).trans ?_
    | refine (privOnly_held _ _ _ ?_).trans ?_


theorem execPowerAbort_held (by_ : By) (s : State) : Res.held (execPowerAbort by_ s) s.held := by
  unfold execPowerAbort
  with_reducible repeat' first
    | rfl
    | refine next_held ?_
    | intro _
    | refine (privOnly_held _ _ _ ?_).trans ?_
    | refine (wakeEvent_held ..).trans ?_


theorem execLaneSupplyFault_held (outside : Bool) (s : State) : Res.held (execLaneSupplyFault outside s) s.held := by
  unfold execLaneSupplyFault
  with_reducible repeat' first
    | rfl
    | (fail_if_no_progress refine (mk_held ..).trans ?_)
    | refine next_held ?_
    | refine iteRes_held ?_ ?_
    | intro _
    | refine (raiseWith_held ..).trans ?_


theorem execPowerForceDescent_held (by_ : By) (s : State) : Res.held (execPowerForceDescent by_ s) s.held := by
  unfold execPowerForceDescent
  with_reducible repeat' first
    | rfl
    | refine next_held ?_
    | intro _
    | refine (gated_held _ _ _ ?_).trans ?_
    | refine (raiseWith_held ..).trans ?_


theorem execPowerForceMaxawake_held (by_ : By) (s : State) : Res.held (execPowerForceMaxawake by_ s) s.held := by
  unfold execPowerForceMaxawake
  with_reducible repeat' first
    | rfl
    | refine next_held ?_
    | refine ite_held ?_ ?_
    | intro _
    | refine (gated_held _ _ _ ?_).trans ?_
    | refine (maExpire_held ..).trans ?_


theorem execPowerForceFalsewake_held (by_ : By) (s : State) : Res.held (execPowerForceFalsewake by_ s) s.held := by
  unfold execPowerForceFalsewake
  with_reducible repeat' first
    | rfl
    | refine next_held ?_
    | refine ite_held ?_ ?_
    | intro _
    | refine (gated_held _ _ _ ?_).trans ?_
    | refine (ntExpire_held ..).trans ?_


theorem execPowerForceWakeline_held (by_ : By) (s : State) : Res.held (execPowerForceWakeline by_ s) s.held := by
  unfold execPowerForceWakeline
  with_reducible repeat' first
    | rfl
    | refine next_held ?_
    | intro _
    | refine (gated_held _ _ _ ?_).trans ?_
    | refine (wakeStuck_held ..).trans ?_


theorem execPowerForceVlane_held (by_ : By) (s : State) : Res.held (execPowerForceVlane by_ s) s.held := by
  unfold execPowerForceVlane
  with_reducible repeat' first
    | rfl
    | refine next_held ?_
    | intro _
    | refine (gated_held _ _ _ ?_).trans ?_
    | refine (raiseWith_held ..).trans ?_


theorem clearAnswers_held (s : State) : (clearAnswers s).held = s.held := by
  unfold clearAnswers
  with_reducible repeat' first
    | rfl
    | refine (State.each_held _ _ _ ?_).trans ?_
    | intro _
    | refine (State.setFlds_held ..).trans ?_


theorem accessPass_held (s : State) (p : Nat) (e : Nat) : (accessPass s p e).held = s.held := by
  unfold accessPass
  with_reducible repeat' first
    | rfl
    | (fail_if_no_progress refine (mk_held ..).trans ?_)
    | refine ite_held ?_ ?_
    | intro _
    | refine (State.incFld_held ..).trans ?_
    | refine (State.setBit_held ..).trans ?_
    | refine (clearAnswers_held ..).trans ?_
    | refine (randomBytes_held ..).trans ?_
    | refine (roundStop_held ..).trans ?_
    | refine (settleRaises_held ..).trans ?_


theorem lockStart_held (s : State) (forced : Bool) : (lockStart s forced).held = s.held := by
  unfold lockStart
  with_reducible repeat' first
    | rfl
    | (fail_if_no_progress refine (mk_held ..).trans ?_)
    | refine (State.satAdd_held ..).trans ?_
    | refine (State.setFlds_held ..).trans ?_
    | refine (State.setPair_held ..).trans ?_
    | refine (raiseWith_held ..).trans ?_


theorem accessFail_held (s : State) (forced : Bool) : (accessFail s forced).held = s.held := by
  unfold accessFail
  with_reducible repeat' first
    | rfl
    | (fail_if_no_progress refine (mk_held ..).trans ?_)
    | refine ite_held ?_ ?_
    | intro _
    | refine (State.satAdd_held ..).trans ?_
    | refine (lockStart_held ..).trans ?_


theorem publishAnswer_held (s : State) (f : UhfFrame) (v : Nat) (dt : Int) : (publishAnswer s f v dt).held = s.held := by
  unfold publishAnswer
  with_reducible repeat' first
    | rfl
    | refine (State.setFlds_held ..).trans ?_


theorem withRound_held (s : State) (f : Round → Round) : (withRound s f).held = s.held := by
  unfold withRound
  with_reducible repeat' first
    | rfl
    | (fail_if_no_progress refine (mk_held ..).trans ?_)


theorem judge_held (s : State) (r : Round) (f : UhfFrame) : (judge s r f).held = s.held := by
  unfold judge
  with_reducible repeat' first
    | rfl
    | (fail_if_no_progress refine (mk_held ..).trans ?_)
    | refine ite_held ?_ ?_
    | intro _
    | refine (State.satAdd_held ..).trans ?_
    | refine (State.setBit_held ..).trans ?_
    | refine (accessFail_held ..).trans ?_
    | refine (publishAnswer_held ..).trans ?_
    | refine (raiseWith_held ..).trans ?_
    | refine (withRound_held ..).trans ?_


theorem execUhfAnswer_held (f : UhfFrame) (s : State) : Res.held (execUhfAnswer f s) s.held := by
  unfold execUhfAnswer
  with_reducible repeat' first
    | rfl
    | refine next_held ?_
    | refine ite_held ?_ ?_
    | intro _
    | refine (judge_held ..).trans ?_
    | split


theorem execRoundEnd_held (s : State) : Res.held (execRoundEnd s) s.held := by
  unfold execRoundEnd
  with_reducible repeat' first
    | rfl
    | (fail_if_no_progress refine (mk_held ..).trans ?_)
    | refine next_held ?_
    | refine ite_held ?_ ?_
    | refine iteRes_held ?_ ?_
    | intro _
    | refine (State.reach_held ..).trans ?_
    | refine (State.setBit_held ..).trans ?_
    | refine (State.setFlds_held ..).trans ?_
    | split


theorem execRoundAbort_held (by_ : By) (s : State) : Res.held (execRoundAbort by_ s) s.held := by
  unfold execRoundAbort
  with_reducible repeat' first
    | rfl
    | refine next_held ?_
    | intro _
    | refine (privOnly_held _ _ _ ?_).trans ?_
    | refine (roundStop_held ..).trans ?_
    | refine (settleRaises_held ..).trans ?_


theorem aerialFault_held (s : State) (a : Nat) (ev : AerialEvent) (forced : Bool) : (aerialFault s a ev forced).held = s.held
    := by
  unfold aerialFault
  with_reducible repeat' first
    | rfl
    | refine (State.setBit_held ..).trans ?_
    | refine (raiseWith_held ..).trans ?_
    | refine (withRound_held ..).trans ?_


theorem execAerialFault_held (a : Fin 6) (ev : AerialEvent) (s : State) : Res.held (execAerialFault a ev s) s.held := by
  unfold execAerialFault
  with_reducible repeat' first
    | rfl
    | refine next_held ?_
    | refine (aerialFault_held ..).trans ?_


theorem execLockoutEnd_held (s : State) : Res.held (execLockoutEnd s) s.held := by
  unfold execLockoutEnd
  with_reducible repeat' first
    | rfl
    | (fail_if_no_progress refine (mk_held ..).trans ?_)
    | refine next_held ?_
    | refine iteRes_held ?_ ?_
    | intro _
    | refine (State.reach_held ..).trans ?_
    | refine (State.setBit_held ..).trans ?_
    | refine (State.setFld_held ..).trans ?_
    | refine (State.setPair_held ..).trans ?_


theorem execLockoutLevelClear_held (s : State) : Res.held (execLockoutLevelClear s) s.held := by
  unfold execLockoutLevelClear
  with_reducible repeat' first
    | rfl
    | (fail_if_no_progress refine (mk_held ..).trans ?_)
    | refine next_held ?_
    | refine (State.reach_held ..).trans ?_
    | refine (State.setFld_held ..).trans ?_
    | split


theorem immoGo_held (s : State) : (immoGo s).held = s.held := by
  unfold immoGo
  with_reducible repeat' first
    | rfl
    | refine ite_held ?_ ?_
    | intro _
    | refine (State.setFld_held ..).trans ?_
    | refine (State.setFlds_held ..).trans ?_
    | refine (State.setPair_held ..).trans ?_
    | split


theorem execImmoGo_held (by_ : By) (s : State) : Res.held (execImmoGo by_ s) s.held := by
  unfold execImmoGo
  with_reducible repeat' first
    | rfl
    | refine next_held ?_
    | intro _
    | refine (immoGo_held ..).trans ?_
    | refine (privOnly_held _ _ _ ?_).trans ?_


theorem execImmoWindowExpiry_held (s : State) : Res.held (execImmoWindowExpiry s) s.held := by
  unfold execImmoWindowExpiry
  with_reducible repeat' first
    | rfl
    | (fail_if_no_progress refine (mk_held ..).trans ?_)
    | refine next_held ?_
    | refine (State.reach_held ..).trans ?_
    | refine (State.setBit_held ..).trans ?_
    | split


theorem execAccessPoll_held (s : State) : Res.held (execAccessPoll s) s.held := by
  unfold execAccessPoll
  with_reducible repeat' first
    | rfl
    | (fail_if_no_progress refine (mk_held ..).trans ?_)
    | refine next_held ?_
    | refine ite_held ?_ ?_
    | refine iteRes_held ?_ ?_
    | intro _
    | refine (State.satAdd_held ..).trans ?_
    | refine (State.setFld_held ..).trans ?_
    | split


theorem execPollAnswer_held (bytes : List Byte) (s : State) : Res.held (execPollAnswer bytes s) s.held := by
  unfold execPollAnswer
  with_reducible repeat' first
    | rfl
    | (fail_if_no_progress refine (mk_held ..).trans ?_)
    | refine next_held ?_
    | refine ite_held ?_ ?_
    | intro _
    | refine (wakeEvent_held ..).trans ?_
    | split


theorem execAccessForceRelay_held (by_ : By) (s : State) : Res.held (execAccessForceRelay by_ s) s.held := by
  unfold execAccessForceRelay
  with_reducible repeat' first
    | rfl
    | (fail_if_no_progress refine (mk_held ..).trans ?_)
    | refine next_held ?_
    | intro _
    | refine (gated_held _ _ _ ?_).trans ?_


theorem execAccessForceAerial_held (by_ : By) (s : State) : Res.held (execAccessForceAerial by_ s) s.held := by
  unfold execAccessForceAerial
  with_reducible repeat' first
    | rfl
    | refine next_held ?_
    | intro _
    | refine (aerialFault_held ..).trans ?_
    | refine (gated_held _ _ _ ?_).trans ?_


theorem execAccessForceFail_held (by_ : By) (s : State) : Res.held (execAccessForceFail by_ s) s.held := by
  unfold execAccessForceFail
  with_reducible repeat' first
    | rfl
    | refine next_held ?_
    | intro _
    | refine (accessFail_held ..).trans ?_
    | refine (gated_held _ _ _ ?_).trans ?_


theorem State.up_held (s : State) (f : Update → Update) : (State.up s f).held = s.held := by
  unfold State.up
  with_reducible repeat' first
    | rfl
    | (fail_if_no_progress refine (mk_held ..).trans ?_)


theorem updErr_held (s : State) (e : Nat) : (updErr s e).held = s.held := by
  unfold updErr
  with_reducible repeat' first
    | rfl
    | refine (State.setFld_held ..).trans ?_


theorem updTo_held (s : State) (q : Nat) : (updTo s q).held = s.held := by
  unfold updTo
  with_reducible repeat' first
    | rfl
    | refine (State.setFld_held ..).trans ?_


theorem updShow_held (s : State) : (updShow s).held = s.held := by
  unfold updShow
  with_reducible repeat' first
    | rfl
    | refine (State.each_held _ _ _ ?_).trans ?_
    | intro _
    | refine (State.setFld_held ..).trans ?_
    | refine (State.setFlds_held ..).trans ?_


theorem selWrite_held (s : State) (f : Selector → Selector) : (selWrite s f).1.held = s.held := by
  unfold selWrite
  with_reducible repeat' first
    | rfl
    | refine (State.up_held ..).trans ?_
    | refine (updErr_held ..).trans ?_
    | refine (updShow_held ..).trans ?_
    | split


theorem buildStagingHalf_held (s : State) (k : Nat) : (buildStagingHalf s k).held = s.held := by
  unfold buildStagingHalf
  with_reducible repeat' first
    | rfl
    | refine (State.up_held ..).trans ?_


theorem fifoShow_held (s : State) : (fifoShow s).held = s.held := by
  unfold fifoShow
  with_reducible repeat' first
    | rfl
    | refine (State.setFld_held ..).trans ?_


theorem updBegin_held (s : State) : (updBegin s).held = s.held := by
  unfold updBegin
  with_reducible repeat' first
    | rfl
    | refine ite_held ?_ ?_
    | intro _
    | refine (State.setFld_held ..).trans ?_
    | refine (State.up_held ..).trans ?_
    | refine (fifoShow_held ..).trans ?_
    | refine (selWrite_held ..).trans ?_
    | refine (updErr_held ..).trans ?_
    | refine (updTo_held ..).trans ?_


theorem execUpdateBegin_held (by_ : By) (s : State) : Res.held (execUpdateBegin by_ s) s.held := by
  unfold execUpdateBegin
  with_reducible repeat' first
    | rfl
    | refine next_held ?_
    | intro _
    | refine (privOnly_held _ _ _ ?_).trans ?_
    | refine (updBegin_held ..).trans ?_


theorem execEraseDone_held (s : State) : Res.held (execEraseDone s) s.held := by
  unfold execEraseDone
  with_reducible repeat' first
    | rfl
    | refine next_held ?_
    | refine iteRes_held ?_ ?_
    | intro _
    | refine (State.up_held ..).trans ?_
    | refine (updTo_held ..).trans ?_


theorem stgPush_held (s : State) : (stgPush s).held = s.held := by
  unfold stgPush
  with_reducible repeat' first
    | rfl
    | refine ite_held ?_ ?_
    | intro _
    | refine (State.up_held ..).trans ?_
    | refine (fifoShow_held ..).trans ?_
    | refine (updErr_held ..).trans ?_


theorem execStagingPush_held (by_ : By) (s : State) : Res.held (execStagingPush by_ s) s.held := by
  unfold execStagingPush
  with_reducible repeat' first
    | rfl
    | refine next_held ?_
    | intro _
    | refine (privOnly_held _ _ _ ?_).trans ?_
    | refine (stgPush_held ..).trans ?_


theorem chunkStore_held (s : State) (off : Nat) (d : List Byte) (fail : BitVec 2) : (chunkStore s off d fail).held = s.held :=
    by
  unfold chunkStore
  with_reducible repeat' first
    | rfl
    | refine ite_held ?_ ?_
    | intro _
    | refine (State.setFld_held ..).trans ?_
    | refine (State.up_held ..).trans ?_
    | refine (raiseWith_held ..).trans ?_
    | refine (updErr_held ..).trans ?_
    | refine (updTo_held ..).trans ?_


theorem execChunkWrite_held (fail : BitVec 2) (s : State) : Res.held (execChunkWrite fail s) s.held := by
  unfold execChunkWrite
  with_reducible repeat' first
    | rfl
    | refine next_held ?_
    | refine iteRes_held ?_ ?_
    | intro _
    | refine (State.up_held ..).trans ?_
    | refine (chunkStore_held ..).trans ?_
    | refine (fifoShow_held ..).trans ?_
    | split


theorem updVerify_held (s : State) : (updVerify s).held = s.held := by
  unfold updVerify
  with_reducible repeat' first
    | rfl
    | refine ite_held ?_ ?_
    | intro _
    | refine (State.up_held ..).trans ?_
    | refine (updErr_held ..).trans ?_
    | refine (updTo_held ..).trans ?_


theorem execUpdateVerify_held (by_ : By) (s : State) : Res.held (execUpdateVerify by_ s) s.held := by
  unfold execUpdateVerify
  with_reducible repeat' first
    | rfl
    | refine next_held ?_
    | intro _
    | refine (privOnly_held _ _ _ ?_).trans ?_
    | refine (updVerify_held ..).trans ?_


theorem shadowLoad_held (s : State) (p : Plan) : (shadowLoad s p).1.held = s.held := by
  unfold shadowLoad
  with_reducible repeat' first
    | rfl
    | (fail_if_no_progress refine (mk_held ..).trans ?_)
    | refine (State.setFlds_held ..).trans ?_
    | refine (raiseFault_held ..).trans ?_
    | split
    | (extract_lets +onlyGivenNames z)


theorem execVerifyDone_held (s : State) : Res.held (execVerifyDone s) s.held := by
  unfold execVerifyDone
  split
  · exact next_held rfl
  · extract_lets k e forced t cal t1 t2 t3
    have ht : t.held = s.held := State.up_held _ _
    have h3 : t3.held = s.held := (State.setFlds_held _ _).trans ((updTo_held _ _).trans ((State.up_held _ _).trans
        (ite_held (fun _ => (buildStagingHalf_held _ _).trans ht) fun _ => ht)))
    split
    · exact next_held ((raiseWith_held _ _ _ _ _ _).trans ((updTo_held _ _).trans ((updErr_held _ _).trans ht)))
    · split
      · exact next_held h3
      · split
        · exact next_held h3
        · exact next_held (ite_held (fun _ => (updTo_held _ _).trans ((shadowLoad_held _ _).trans h3)) fun _ =>
            (updTo_held _ _).trans ((updErr_held _ _).trans ((shadowLoad_held _ _).trans h3)))

theorem activationArm_held (s : State) (h : Nat) (viaReset : Bool) : (activationArm s h viaReset).held = s.held := by
  unfold activationArm
  with_reducible repeat' first
    | rfl
    | refine ite_held ?_ ?_
    | intro _
    | refine (State.up_held ..).trans ?_
    | refine (raiseWith_held ..).trans ?_
    | refine (selWrite_held ..).trans ?_
    | refine (updTo_held ..).trans ?_


theorem activationCancel_held (s : State) : (activationCancel s).held = s.held := by
  unfold activationCancel
  with_reducible repeat' first
    | rfl
    | refine ite_held ?_ ?_
    | intro _
    | refine (selWrite_held ..).trans ?_
    | refine (updTo_held ..).trans ?_


theorem execActivationConfirm_held (s : State) : Res.held (execActivationConfirm s) s.held := by
  unfold execActivationConfirm
  with_reducible repeat' first
    | rfl
    | refine next_held ?_
    | refine ite_held ?_ ?_
    | refine iteRes_held ?_ ?_
    | intro _
    | refine (raiseWith_held ..).trans ?_
    | refine (selWrite_held ..).trans ?_
    | refine (updTo_held ..).trans ?_


theorem resolvePending_held (s : State) : (resolvePending s).held = s.held := by
  unfold resolvePending
  with_reducible repeat' first
    | rfl
    | refine ite_held ?_ ?_
    | intro _
    | refine (State.setBit_held ..).trans ?_
    | refine (raiseFault_held ..).trans ?_
    | refine (selWrite_held ..).trans ?_
    | refine (updShow_held ..).trans ?_


theorem startSelect_held (s : State) (level : Nat) : (startSelect s level).1.held = s.held := by
  unfold startSelect
  extract_lets a t u
  have ht : t.held = s.held := State.up_held _ _
  have hu : u.held = t.held := selWrite_held _ _
  rw [apply_ite (fun p : State × Bool => p.1), apply_ite (fun p : State × Bool => p.1)]
  exact ite_held (fun _ => ht) fun _ => ite_held (fun _ =>
    (raiseFault_held _ _ _ _).trans ((State.setBit_held _ _ _ _).trans (hu.trans ht))) fun _ => ht

theorem execUpdateForceSelector_held (by_ : By) (s : State) : Res.held (execUpdateForceSelector by_ s) s.held := by
  unfold execUpdateForceSelector
  with_reducible repeat' first
    | rfl
    | refine next_held ?_
    | intro _
    | refine (State.up_held ..).trans ?_
    | refine (gated_held _ _ _ ?_).trans ?_


theorem execUpdateForceDigest_held (by_ : By) (s : State) : Res.held (execUpdateForceDigest by_ s) s.held := by
  unfold execUpdateForceDigest
  with_reducible repeat' first
    | rfl
    | refine next_held ?_
    | intro _
    | refine (State.up_held ..).trans ?_
    | refine (gated_held _ _ _ ?_).trans ?_


theorem execUpdateForceStore_held (by_ : By) (s : State) : Res.held (execUpdateForceStore by_ s) s.held := by
  unfold execUpdateForceStore
  with_reducible repeat' first
    | rfl
    | refine next_held ?_
    | intro _
    | refine (State.up_held ..).trans ?_
    | refine (gated_held _ _ _ ?_).trans ?_


theorem logicReset_held (s : State) : (logicReset s).held = s.held := by
  unfold logicReset
  with_reducible repeat' first
    | rfl
    | (fail_if_no_progress refine (mk_held ..).trans ?_)
    | refine (foldl_held _ ?_ _ _).trans ?_
    | intro _
    | refine (linkBits_held ..).trans ?_


theorem holdDies_held (s : State) (die : Nat → Bool) (at' : Nat) : (holdDies s die at').held = s.held := by
  unfold holdDies
  with_reducible repeat' first
    | rfl
    | refine (State.each_held _ _ _ ?_).trans ?_
    | refine ite_held ?_ ?_
    | intro _
    | refine (hbResetBrake_held ..).trans ?_
    | refine (lswHold_held ..).trans ?_
    | refine (matrixHold_held ..).trans ?_
    | refine (sinkHold_held ..).trans ?_
    | refine (vdResetBegin_held ..).trans ?_


theorem controllerReset_held (s : State) : (controllerReset s).held = s.held := by
  unfold controllerReset
  with_reducible repeat' first
    | rfl
    | (fail_if_no_progress refine (mk_held ..).trans ?_)
    | refine ite_held ?_ ?_
    | intro _
    | refine (holdDies_held ..).trans ?_
    | refine (logicReset_held ..).trans ?_
    | refine (roundStop_held ..).trans ?_
    | refine (settleRaises_held ..).trans ?_


theorem execControllerReset_held (s : State) : Res.held (execControllerReset s) s.held := by
  unfold execControllerReset
  with_reducible repeat' first
    | rfl
    | refine next_held ?_
    | refine (controllerReset_held ..).trans ?_


theorem execRstnLow_held (low : Bool) (s : State) : Res.held (execRstnLow low s) s.held := by
  unfold execRstnLow
  with_reducible repeat' first
    | rfl
    | (fail_if_no_progress refine (mk_held ..).trans ?_)
    | refine next_held ?_
    | refine iteRes_held ?_ ?_
    | intro _
    | refine (controllerReset_held ..).trans ?_


theorem showSupplies_held (s : State) (a : Nat) (b : Nat) : (showSupplies s a b).held = s.held := by
  unfold showSupplies
  with_reducible repeat' first
    | rfl
    | (fail_if_no_progress refine (mk_held ..).trans ?_)
    | refine (State.setFlds_held ..).trans ?_


theorem dieApply_held (s : State) : (dieApply s).held = s.held := by
  unfold dieApply
  with_reducible repeat' first
    | rfl
    | refine (applyAll_held ..).trans ?_
    | refine (settleRaises_held ..).trans ?_


theorem execSupplyRise_held (supA : Nat) (supB : Nat) (s : State) : Res.held (execSupplyRise supA supB s) s.held := by
  unfold execSupplyRise
  with_reducible repeat' first
    | rfl
    | (fail_if_no_progress refine (mk_held ..).trans ?_)
    | refine next_held ?_
    | refine ite_held ?_ ?_
    | intro _
    | refine (showSupplies_held ..).trans ?_


theorem analogReset_held (s : State) (d : Nat) : (analogReset s d).held = s.held := by
  unfold analogReset
  with_reducible repeat' first
    | rfl
    | refine (foldl_held _ ?_ _ _).trans ?_
    | refine (State.each_held _ _ _ ?_).trans ?_
    | intro _
    | refine (State.setWord_held ..).trans ?_


theorem unmeasured_held (s : State) (d : Nat) : (unmeasured s d).held = s.held := by
  unfold unmeasured
  with_reducible repeat' first
    | rfl
    | refine (State.each_held _ _ _ ?_).trans ?_
    | intro _
    | refine (State.setBit_held ..).trans ?_


theorem execPwrDomainOn_held (die : Fin 4) (ref : Int) (s : State) : Res.held (execPwrDomainOn die ref s) s.held := by
  unfold execPwrDomainOn
  with_reducible repeat' first
    | rfl
    | (fail_if_no_progress refine (mk_held ..).trans ?_)
    | refine next_held ?_
    | refine ite_held ?_ ?_
    | refine iteRes_held ?_ ?_
    | intro _
    | refine (analogReset_held ..).trans ?_
    | refine (coilDomainOn_held ..).trans ?_
    | refine (dieApply_held ..).trans ?_
    | refine (ledDomainOn_held ..).trans ?_
    | refine (unmeasured_held ..).trans ?_


theorem execDieLinkLoss_held (die : Fin 4) (s : State) : Res.held (execDieLinkLoss die s) s.held := by
  unfold execDieLinkLoss
  with_reducible repeat' first
    | rfl
    | (fail_if_no_progress refine (mk_held ..).trans ?_)
    | refine next_held ?_
    | refine iteRes_held ?_ ?_
    | intro _
    | refine (holdDies_held ..).trans ?_
    | refine (settleRaises_held ..).trans ?_


theorem execNandHot_held (t0 : Int) (t1 : Int) (s : State) : Res.held (execNandHot t0 t1 s) s.held := by
  unfold execNandHot
  with_reducible repeat' first
    | rfl
    | (fail_if_no_progress refine (mk_held ..).trans ?_)
    | refine next_held ?_
    | refine iteRes_held ?_ ?_
    | intro _
    | refine (State.setBit_held ..).trans ?_
    | refine (raiseFault_held ..).trans ?_


theorem execTestAccessPort_held (tms : Bool) (trstnLow : Bool) (s : State) : Res.held (execTestAccessPort tms trstnLow s)
    s.held := by
  unfold execTestAccessPort
  with_reducible repeat' first
    | rfl
    | (fail_if_no_progress refine (mk_held ..).trans ?_)
    | refine next_held ?_


theorem timeStart_held (s : State) (x : StartIn) : (timeStart s x).held = s.held := by
  unfold timeStart
  with_reducible repeat' first
    | rfl
    | (fail_if_no_progress refine (mk_held ..).trans ?_)
    | refine (State.tm_held ..).trans ?_
    | split


theorem lswCalLoad_held (s : State) : (lswCalLoad s).held = s.held := by
  unfold lswCalLoad
  generalize goodRecord s 0x4C535743 780 = r
  cases r
  · exact (raiseFault_held _ _ _ _).trans (mk_held ..)
  · exact mk_held ..

theorem modelLoad_held (s : State) : (modelLoad s).held = s.held := by
  unfold modelLoad
  generalize (calRecord s s.update.sel.half 0x48524E53).bind modelOf = r
  cases r
  · exact (raiseFault_held _ _ _ _).trans ((State.setFlds_held _ _).trans (mk_held ..))
  · exact (State.setFlds_held _ _).trans (mk_held ..)

theorem deviceLoad_held (s : State) : (deviceLoad s).held = s.held := by
  unfold deviceLoad
  with_reducible repeat' first
    | rfl
    | (fail_if_no_progress refine (mk_held ..).trans ?_)


theorem planShow_held (s : State) : (planShow s).held = s.held := by
  unfold planShow
  with_reducible repeat' first
    | rfl
    | refine (State.setFlds_held ..).trans ?_


theorem armFirst_held (s : State) : (armFirst s).held = s.held := by
  unfold armFirst
  with_reducible repeat' first
    | rfl
    | (fail_if_no_progress refine (mk_held ..).trans ?_)
    | refine (State.enter_held ..).trans ?_
    | refine (planShow_held ..).trans ?_


theorem loadBegin_held (s : State) (level : Nat) : (loadBegin s level).held = s.held := by
  unfold loadBegin
  with_reducible repeat' first
    | rfl
    | (fail_if_no_progress refine (mk_held ..).trans ?_)
    | refine (State.enter_held ..).trans ?_


theorem loadRequest_held (s : State) : (loadRequest s).held = s.held := by
  unfold loadRequest
  with_reducible repeat' first
    | rfl
    | refine ite_held ?_ ?_
    | intro _
    | refine (loadBegin_held ..).trans ?_


theorem loadFailed_held (s : State) (check : Nat) : (loadFailed s check).held = s.held := by
  unfold loadFailed
  with_reducible repeat' first
    | rfl
    | (fail_if_no_progress refine (mk_held ..).trans ?_)
    | refine (State.enter_held ..).trans ?_
    | refine (State.setFlds_held ..).trans ?_
    | refine (raiseFault_held ..).trans ?_


theorem keepersGone_held (s : State) : (keepersGone s).held = s.held := by
  unfold keepersGone
  with_reducible repeat' first
    | rfl
    | (fail_if_no_progress refine (mk_held ..).trans ?_)


theorem logicUp_held (s : State) : (logicUp s).held = s.held := by
  unfold logicUp
  with_reducible repeat' first
    | rfl
    | (fail_if_no_progress refine (mk_held ..).trans ?_)
    | refine (State.each_held _ _ _ ?_).trans ?_
    | refine ite_held ?_ ?_
    | intro _
    | refine (State.setLane_held ..).trans ?_
    | refine (keepersGone_held ..).trans ?_
    | refine (logicReset_held ..).trans ?_


theorem collectorStart_held (s : State) : (collectorStart s).held = s.held := by
  unfold collectorStart
  with_reducible repeat' first
    | rfl
    | (fail_if_no_progress refine (mk_held ..).trans ?_)
    | refine (foldl_held _ ?_ _ _).trans ?_
    | intro _
    | refine (raiseWith_held ..).trans ?_
    | refine (takeDeferred_held ..).trans ?_


theorem showLanes_held (s : State) : (showLanes s).held = s.held := by
  unfold showLanes
  with_reducible repeat' first
    | rfl
    | refine (State.setFld_held ..).trans ?_


theorem recoveryStart_held (s : State) : (recoveryStart s).held = s.held := by
  unfold recoveryStart
  with_reducible repeat' first
    | rfl
    | refine (State.enter_held ..).trans ?_
    | refine (State.setBit_held ..).trans ?_


theorem supplyMove_held (s : State) (at' : Nat) : (supplyMove s at').held = s.held := by
  unfold supplyMove
  with_reducible repeat' first
    | rfl
    | refine (State.pw_held ..).trans ?_


theorem hoCancel_held (s : State) : (hoCancel s).held = s.held := by
  unfold hoCancel
  with_reducible repeat' first
    | rfl
    | refine ite_held ?_ ?_
    | intro _
    | refine (State.setFlds_held ..).trans ?_
    | refine (activationCancel_held ..).trans ?_
    | refine (raiseFault_held ..).trans ?_
    | refine (supplyMove_held ..).trans ?_


theorem hoAbort_held (s : State) : (hoAbort s).held = s.held := by
  unfold hoAbort
  with_reducible repeat' first
    | rfl
    | refine ite_held ?_ ?_
    | intro _
    | refine (hoCancel_held ..).trans ?_


theorem hoArm_held (s : State) (h : Nat) : (hoArm s h).1.held = s.held := by
  unfold hoArm
  split
  · exact (State.setBit_held _ _ _ _).trans (State.setBit_held _ _ _ _)
  · have e : ∀ t : State, t.held = s.held → (if levelRises t then supplyMove t t.now else t).held = s.held := fun t ht =>
      ite_held (fun _ => (supplyMove_held _ _).trans ht) fun _ => ht
    have f : ∀ t : State, t.held = s.held → (if (activationArm t h false).update.sel.pending then activationArm t h false else
        hoAbort (activationArm t h false)).held = s.held := fun t ht =>
      ite_held (fun _ => (activationArm_held _ _ _).trans ht) fun _ => (hoAbort_held _).trans ((activationArm_held _ _ _).trans
          ht)
    extract_lets a b c d
    have hd : d.held = s.held := (wakeEvent_held _ _ _).trans (e _ ((State.setFlds_held _ _).trans (State.setPair_held _ _ _ _
        _)))
    split
    · exact f _ hd
    · exact hd

theorem execHoArm_held (by_ : By) (s : State) : Res.held (execHoArm by_ s) s.held := by
  unfold execHoArm
  with_reducible repeat' first
    | rfl
    | refine next_held ?_
    | refine ite_held ?_ ?_
    | intro _
    | refine (hoArm_held ..).trans ?_
    | refine (privOnly_held _ _ _ ?_).trans ?_


theorem execHoAbort_held (by_ : By) (s : State) : Res.held (execHoAbort by_ s) s.held := by
  unfold execHoAbort
  with_reducible repeat' first
    | rfl
    | refine next_held ?_
    | intro _
    | refine (hoAbort_held ..).trans ?_
    | refine (privOnly_held _ _ _ ?_).trans ?_


theorem execLoad_held (by_ : By) (s : State) : Res.held (execLoad by_ s) s.held := by
  unfold execLoad
  with_reducible repeat' first
    | rfl
    | refine next_held ?_
    | intro _
    | refine (loadRequest_held ..).trans ?_
    | refine (privOnly_held _ _ _ ?_).trans ?_


theorem dropPlains_held (s : State) : (dropPlains s).held = s.held := by
  unfold dropPlains
  with_reducible repeat' first
    | rfl
    | refine (State.each_held _ _ _ ?_).trans ?_
    | intro _
    | refine (State.setFld_held ..).trans ?_


theorem updAbort_held (s : State) : (updAbort s).held = s.held := by
  unfold updAbort
  with_reducible repeat' first
    | rfl
    | refine ite_held ?_ ?_
    | intro _
    | refine (State.up_held ..).trans ?_
    | refine (activationCancel_held ..).trans ?_
    | refine (fifoShow_held ..).trans ?_
    | refine (hoCancel_held ..).trans ?_
    | refine (updErr_held ..).trans ?_
    | refine (updTo_held ..).trans ?_


theorem execUpdateAbort_held (by_ : By) (s : State) : Res.held (execUpdateAbort by_ s) s.held := by
  unfold execUpdateAbort
  with_reducible repeat' first
    | rfl
    | refine next_held ?_
    | intro _
    | refine (privOnly_held _ _ _ ?_).trans ?_
    | refine (updAbort_held ..).trans ?_


theorem recoverReset_held (s : State) : (recoverReset s).held = s.held := by
  unfold recoverReset
  with_reducible repeat' first
    | rfl
    | refine (State.up_held ..).trans ?_
    | refine (controllerReset_held ..).trans ?_


theorem execUpdateRecover_held (by_ : By) (s : State) : Res.held (execUpdateRecover by_ s) s.held := by
  unfold execUpdateRecover
  with_reducible repeat' first
    | rfl
    | refine next_held ?_
    | intro _
    | refine (privOnly_held _ _ _ ?_).trans ?_
    | refine (recoverReset_held ..).trans ?_


theorem sbsAnswer_held (s : State) (status : Nat) (data : List Byte) : (sbsAnswer s status data).held = s.held := by
  unfold sbsAnswer
  with_reducible repeat' first
    | rfl
    | refine (State.up_held ..).trans ?_


theorem sbsOp_held (s : State) (act : State → State) (hact : ∀ a1, (act a1).held = a1.held) : (sbsOp s act).held = s.held := by
  unfold sbsOp
  with_reducible repeat' first
    | rfl
    | refine (sbsAnswer_held ..).trans ?_
    | refine (updErr_held ..).trans ?_
    | refine (hact ..).trans ?_


theorem execSbsStatus_held (crcOk : Bool) (s : State) : Res.held (execSbsStatus crcOk s) s.held := by
  unfold execSbsStatus
  with_reducible repeat' first
    | rfl
    | refine next_held ?_
    | refine ite_held ?_ ?_
    | intro _
    | refine (sbsAnswer_held ..).trans ?_


theorem execSbsBegin_held (crcOk : Bool) (s : State) : Res.held (execSbsBegin crcOk s) s.held := by
  unfold execSbsBegin
  with_reducible repeat' first
    | rfl
    | refine next_held ?_
    | refine ite_held ?_ ?_
    | intro _
    | refine (sbsOp_held _ _ ?_).trans ?_
    | refine (updBegin_held ..).trans ?_


theorem execSbsChunk_held (crcOk : Bool) (off : Word32) (data : List Byte) (fail : BitVec 2) (s : State) : Res.held
    (execSbsChunk crcOk off data fail s) s.held := by
  unfold execSbsChunk
  with_reducible repeat' first
    | rfl
    | refine next_held ?_
    | refine ite_held ?_ ?_
    | intro _
    | refine (chunkStore_held ..).trans ?_
    | refine (sbsOp_held _ _ ?_).trans ?_
    | refine (updErr_held ..).trans ?_


theorem execSbsVerify_held (crcOk : Bool) (s : State) : Res.held (execSbsVerify crcOk s) s.held := by
  unfold execSbsVerify
  with_reducible repeat' first
    | rfl
    | refine next_held ?_
    | refine ite_held ?_ ?_
    | intro _
    | refine (sbsOp_held _ _ ?_).trans ?_
    | refine (updVerify_held ..).trans ?_


theorem recoveryActivate_held (s : State) : (recoveryActivate s).held = s.held := by
  unfold recoveryActivate
  with_reducible repeat' first
    | rfl
    | refine ite_held ?_ ?_
    | intro _
    | refine (State.up_held ..).trans ?_
    | refine (selWrite_held ..).trans ?_


theorem execSbsActivate_held (crcOk : Bool) (s : State) : Res.held (execSbsActivate crcOk s) s.held := by
  unfold execSbsActivate
  with_reducible repeat' first
    | rfl
    | refine next_held ?_
    | refine ite_held ?_ ?_
    | intro _
    | refine (State.up_held ..).trans ?_
    | refine (recoveryActivate_held ..).trans ?_
    | refine (sbsOp_held _ _ ?_).trans ?_


theorem execSbsRecover_held (crcOk : Bool) (arg : Word32) (s : State) : Res.held (execSbsRecover crcOk arg s) s.held := by
  unfold execSbsRecover
  with_reducible repeat' first
    | rfl
    | refine next_held ?_
    | refine ite_held ?_ ?_
    | intro _
    | refine (State.up_held ..).trans ?_
    | refine (sbsAnswer_held ..).trans ?_


theorem execSbsRead_held (at_ : Nat) (s : State) : Res.held (execSbsRead at_ s) s.held := by
  unfold execSbsRead
  with_reducible repeat' first
    | rfl
    | refine next_held ?_
    | refine iteRes_held ?_ ?_
    | intro _
    | refine (State.reach_held ..).trans ?_
    | refine (controllerReset_held ..).trans ?_
    | refine (recoverReset_held ..).trans ?_
    | split
    | (extract_lets +onlyGivenNames z)


end Sys2Proof.Machine
end

