-- ==== Sys2Proof/Laws/HeldNet.lean ====
section
/-!
SUPPORT. Which operations leave the queue and the byte memories as they are: register reads, the networks, the dictionary and register writes. One lemma each:
`<operation>_held`; for a command it also says that the command has a next state.
-/
namespace Sys2Proof.Machine

theorem readClears_held (s : State) (priv : Bool) (o : Nat) : (readClears s priv o).held = s.held := by
  unfold readClears
  with_reducible repeat' first
    | rfl
    | refine ite_held ?_ ?_
    | intro _
    | refine (State.setWord_held ..).trans ?_


theorem State.setLatch_held (s : State) (k : Nat) (l : Latch) : (State.setLatch s k l).held = s.held := by
  unfold State.setLatch
  with_reducible repeat' first
    | rfl
    | refine (State.tm_held ..).trans ?_


theorem laneRead_held (s : State) (b : By) (o : Nat) : (laneRead s b o).2.held = s.held := by
  unfold laneRead
  with_reducible repeat' first
    | rfl
    | refine (State.setLatch_held ..).trans ?_
    | refine (readClears_held ..).trans ?_
    | split
    | (extract_lets +onlyGivenNames z)


theorem State.nt_held (s : State) (f : Net → Net) : (State.nt s f).held = s.held := by
  unfold State.nt
  with_reducible repeat' first
    | rfl
    | (fail_if_no_progress refine (mk_held ..).trans ?_)


theorem setTxQueue_held (s : State) (q : Nat) (l : List TxItem) : (setTxQueue s q l).held = s.held := by
  unfold setTxQueue
  with_reducible repeat' first
    | rfl
    | refine (State.nt_held ..).trans ?_


theorem txPut_held (s : State) (q : Nat) (x : TxItem) : (txPut s q x).held = s.held := by
  unfold txPut
  with_reducible repeat' first
    | rfl
    | refine (setTxQueue_held ..).trans ?_


theorem txSend_held (s : State) (q : Nat) (k : Nat) : (txSend s q k).held = s.held := by
  unfold txSend
  with_reducible repeat' first
    | rfl
    | refine (State.nt_held ..).trans ?_
    | refine (setTxQueue_held ..).trans ?_
    | split


theorem execAnswerTransmit_held (port : Fin 11) (s : State) : Res.held (execAnswerTransmit port s) s.held := by
  unfold execAnswerTransmit
  with_reducible repeat' first
    | rfl
    | refine next_held ?_
    | refine ite_held ?_ ?_
    | intro _
    | refine (txSend_held ..).trans ?_


theorem execTransmitOpportunity_held (s : State) : Res.held (execTransmitOpportunity s) s.held := by
  unfold execTransmitOpportunity
  with_reducible repeat' first
    | rfl
    | refine next_held ?_
    | refine ite_held ?_ ?_
    | intro _
    | refine (txSend_held ..).trans ?_


theorem syncUnlock_held (s : State) (e : Nat) : (syncUnlock s e).held = s.held := by
  unfold syncUnlock
  with_reducible repeat' first
    | rfl
    | refine ite_held ?_ ?_
    | intro _
    | refine (State.setBit_held ..).trans ?_


theorem execLinkLoss_held (port : Fin 2) (s : State) : Res.held (execLinkLoss port s) s.held := by
  unfold execLinkLoss
  with_reducible repeat' first
    | rfl
    | refine next_held ?_
    | refine iteRes_held ?_ ?_
    | intro _
    | refine (linkBits_held ..).trans ?_
    | refine (raiseFault_held ..).trans ?_
    | refine (syncUnlock_held ..).trans ?_


theorem execLinkUp_held (port : Fin 2) (s : State) : Res.held (execLinkUp port s) s.held := by
  unfold execLinkUp
  with_reducible repeat' first
    | rfl
    | refine next_held ?_
    | refine iteRes_held ?_ ?_
    | intro _
    | refine (State.pw_held ..).trans ?_
    | refine (linkBits_held ..).trans ?_


theorem execTimeAwareNeighbourLoss_held (s : State) : Res.held (execTimeAwareNeighbourLoss s) s.held := by
  unfold execTimeAwareNeighbourLoss
  with_reducible repeat' first
    | rfl
    | refine next_held ?_
    | refine (syncUnlock_held ..).trans ?_


theorem execPlcaLost_held (s : State) : Res.held (execPlcaLost s) s.held := by
  unfold execPlcaLost
  with_reducible repeat' first
    | rfl
    | refine next_held ?_
    | refine iteRes_held ?_ ?_
    | intro _
    | refine (State.nt_held ..).trans ?_
    | refine (State.setFlds_held ..).trans ?_
    | refine (raiseFault_held ..).trans ?_


theorem execPlcaInStep_held (s : State) : Res.held (execPlcaInStep s) s.held := by
  unfold execPlcaInStep
  with_reducible repeat' first
    | rfl
    | refine next_held ?_
    | refine iteRes_held ?_ ?_
    | intro _
    | refine (State.nt_held ..).trans ?_
    | refine (State.setBit_held ..).trans ?_


theorem execCanBusOff_held (c : Fin 8) (s : State) : Res.held (execCanBusOff c s) s.held := by
  unfold execCanBusOff
  with_reducible repeat' first
    | rfl
    | refine next_held ?_
    | refine iteRes_held ?_ ?_
    | intro _
    | refine (State.satAdd_held ..).trans ?_
    | refine (State.setFld_held ..).trans ?_
    | refine (raiseFault_held ..).trans ?_
    | refine (setTxQueue_held ..).trans ?_


theorem canRejoin_held (s : State) (c : Nat) : (canRejoin s c).held = s.held := by
  unfold canRejoin
  with_reducible repeat' first
    | rfl
    | refine ite_held ?_ ?_
    | intro _
    | refine (State.setFlds_held ..).trans ?_


theorem execBusOffRecovery_held (c : Fin 8) (s : State) : Res.held (execBusOffRecovery c s) s.held := by
  unfold execBusOffRecovery
  with_reducible repeat' first
    | rfl
    | refine next_held ?_
    | refine ite_held ?_ ?_
    | intro _
    | refine (canRejoin_held ..).trans ?_


theorem execCanRecover_held (by_ : By) (c : Fin 8) (s : State) : Res.held (execCanRecover by_ c s) s.held := by
  unfold execCanRecover
  with_reducible repeat' first
    | rfl
    | refine next_held ?_
    | intro _
    | refine (canRejoin_held ..).trans ?_
    | refine (privOnly_held _ _ _ ?_).trans ?_


theorem mbRoute_held (s : State) (m : Nat) (f : MbFrame) : (mbRoute s m f).held = s.held := by
  unfold mbRoute
  with_reducible repeat' first
    | rfl
    | refine (State.nt_held ..).trans ?_


theorem mbShow_held (s : State) (m : Nat) (k : Nat) (f : MbFrame) : (mbShow s m k f).held = s.held := by
  unfold mbShow
  with_reducible repeat' first
    | rfl
    | refine (State.each_held _ _ _ ?_).trans ?_
    | intro _
    | refine (State.setFlds_held ..).trans ?_
    | refine (State.setWord_held ..).trans ?_


theorem mbCol_held (s : State) (c : Nat) : (mbCol s c).held = s.held := by
  unfold mbCol
  with_reducible repeat' first
    | rfl
    | refine (foldl_held _ ?_ _ _).trans ?_
    | refine (State.each_held _ _ _ ?_).trans ?_
    | intro _
    | refine (State.nt_held ..).trans ?_
    | refine (State.setFld_held ..).trans ?_
    | refine (mbShow_held ..).trans ?_


theorem rxRoute_held (s : State) (f : BusFrame) : (rxRoute s f).held = s.held := by
  unfold rxRoute
  with_reducible repeat' first
    | rfl
    | refine (mbRoute_held ..).trans ?_
    | refine (ntStop_held ..).trans ?_
    | split


theorem canCount_held (s : State) (c : Nat) (good : Bool) : (canCount s c good).held = s.held := by
  unfold canCount
  with_reducible repeat' first
    | rfl
    | refine (State.setFld_held ..).trans ?_


theorem linError_held (s : State) (l : Nat) (F : Field) : (linError s l F).held = s.held := by
  unfold linError
  with_reducible repeat' first
    | rfl
    | refine (State.satAdd_held ..).trans ?_
    | refine (raiseFault_held ..).trans ?_


theorem setLinPort_held (s : State) (l : Nat) (p : LinPort) : (setLinPort s l p).held = s.held := by
  unfold setLinPort
  with_reducible repeat' first
    | rfl
    | refine (State.nt_held ..).trans ?_


theorem linResponse_held (s : State) (l : Nat) (f : BusFrame) : (linResponse s l f).held = s.held := by
  unfold linResponse
  with_reducible repeat' first
    | rfl
    | refine ite_held ?_ ?_
    | intro _
    | refine (linError_held ..).trans ?_
    | refine (mbRoute_held ..).trans ?_
    | refine (rxRoute_held ..).trans ?_
    | refine (setLinPort_held ..).trans ?_
    | split
    | (extract_lets +onlyGivenNames z)


theorem execBusFrameReceive_held (f : BusFrame) (s : State) : Res.held (execBusFrameReceive f s) s.held := by
  unfold execBusFrameReceive
  with_reducible repeat' first
    | rfl
    | refine next_held ?_
    | refine ite_held ?_ ?_
    | refine iteRes_held ?_ ?_
    | intro _
    | refine (State.satAdd_held ..).trans ?_
    | refine (canCount_held ..).trans ?_
    | refine (linResponse_held ..).trans ?_
    | refine (rxRoute_held ..).trans ?_


theorem busTx_held (s : State) (k : Nat) : (busTx s k).held = s.held := by
  unfold busTx
  with_reducible repeat' first
    | rfl
    | refine ite_held ?_ ?_
    | intro _
    | refine (State.satAdd_held ..).trans ?_
    | refine (raiseFault_held ..).trans ?_
    | refine (setTxQueue_held ..).trans ?_
    | refine (txPut_held ..).trans ?_
    | split


theorem linSlot_held (s : State) (l : Nat) (k : Nat) (at' : Nat) : (linSlot s l k at').held = s.held := by
  unfold linSlot
  with_reducible repeat' first
    | rfl
    | refine ite_held ?_ ?_
    | intro _
    | refine (State.nt_held ..).trans ?_
    | refine (State.setBit_held ..).trans ?_
    | refine (setLinPort_held ..).trans ?_
    | split


theorem execLinHeaderReceive_held (l : Fin 12) (fid : BitVec 6) (good : Bool) (s : State) : Res.held (execLinHeaderReceive l
    fid good s) s.held := by
  unfold execLinHeaderReceive
  with_reducible repeat' first
    | rfl
    | refine next_held ?_
    | refine iteRes_held ?_ ?_
    | intro _
    | refine (State.nt_held ..).trans ?_
    | refine (linError_held ..).trans ?_
    | refine (setLinPort_held ..).trans ?_
    | split
    | (extract_lets +onlyGivenNames z)


theorem linCol_held (s : State) : (linCol s).held = s.held := by
  unfold linCol
  with_reducible repeat' first
    | rfl
    | refine (State.nt_held ..).trans ?_


theorem netCol_held (s : State) : (netCol s).held = s.held := by
  unfold netCol
  with_reducible repeat' first
    | rfl
    | refine (State.each_held _ _ _ ?_).trans ?_
    | refine ite_held ?_ ?_
    | intro _
    | refine (State.setFld_held ..).trans ?_
    | refine (linkBits_held ..).trans ?_
    | refine (setTxQueue_held ..).trans ?_


theorem execNeighbourSolicitation_held (port : Fin 3) (target : BitVec 128) (source : BitVec 128) (claim : Bool) (s : State) :
    Res.held (execNeighbourSolicitation port target source claim s) s.held := by
  unfold execNeighbourSolicitation
  with_reducible repeat' first
    | rfl
    | refine next_held ?_
    | refine iteRes_held ?_ ?_
    | intro _
    | refine (State.nt_held ..).trans ?_
    | refine (raiseFault_held ..).trans ?_
    | refine (txPut_held ..).trans ?_


theorem execEchoRequest_held (port : Fin 3) (target : BitVec 128) (source : BitVec 128) (data : List Byte) (s : State) :
    Res.held (execEchoRequest port target source data s) s.held := by
  unfold execEchoRequest
  with_reducible repeat' first
    | rfl
    | refine next_held ?_
    | refine iteRes_held ?_ ?_
    | intro _
    | refine (txPut_held ..).trans ?_


theorem authFail_held (s : State) (q : Nat) : (authFail s q).held = s.held := by
  unfold authFail
  with_reducible repeat' first
    | rfl
    | refine ite_held ?_ ?_
    | intro _
    | refine (State.nt_held ..).trans ?_
    | refine (State.satAdd_held ..).trans ?_
    | refine (raiseFault_held ..).trans ?_


theorem answer_held (s : State) (w : Waiting) (status : Nat) (flags : Nat) (body : List Byte) : (answer s w status flags
    body).held = s.held := by
  unfold answer
  with_reducible repeat' first
    | rfl
    | refine ite_held ?_ ?_
    | intro _
    | refine (State.satAdd_held ..).trans ?_
    | refine (txPut_held ..).trans ?_


theorem dictIn_held (s : State) (f : DictFrame) (act : State → Waiting → State) (hact : ∀ a2 b2, (act a2 b2).held = a2.held) :
    (dictIn s f act).held = s.held := by
  unfold dictIn
  with_reducible repeat' first
    | rfl
    | refine ite_held ?_ ?_
    | intro _
    | refine (answer_held ..).trans ?_
    | refine (authFail_held ..).trans ?_
    | refine (ntStop_held ..).trans ?_
    | refine (hact ..).trans ?_
    | split


theorem serveRead_held (s : State) (w : Waiting) (e : Entry) : (serveRead s w e).held = s.held := by
  unfold serveRead
  with_reducible repeat' first
    | rfl
    | refine ite_held ?_ ?_
    | intro _
    | refine (State.nt_held ..).trans ?_
    | refine (State.satAdd_held ..).trans ?_
    | refine (answer_held ..).trans ?_
    | refine (raiseFault_held ..).trans ?_


theorem readAct_held (s : State) (w : Waiting) : (readAct s w).held = s.held := by
  unfold readAct
  with_reducible repeat' first
    | rfl
    | refine ite_held ?_ ?_
    | intro _
    | refine (State.nt_held ..).trans ?_
    | refine (answer_held ..).trans ?_
    | refine (serveRead_held ..).trans ?_
    | split


theorem execDictRead_held (f : DictFrame) (s : State) : Res.held (execDictRead f s) s.held := by
  unfold execDictRead
  with_reducible repeat' first
    | rfl
    | refine next_held ?_
    | intro _
    | refine (dictIn_held _ _ _ ?_).trans ?_
    | refine (readAct_held ..).trans ?_


theorem releaseReads_held (s : State) : (releaseReads s).held = s.held := by
  unfold releaseReads
  with_reducible repeat' first
    | rfl
    | refine (foldl_held _ ?_ _ _).trans ?_
    | intro _
    | refine (State.nt_held ..).trans ?_
    | refine (readAct_held ..).trans ?_


theorem inPlains_held (s : State) (w : Waiting) (act : State → Waiting → State) (hact : ∀ a2 b2, (act a2 b2).held = a2.held) :
    (inPlains s w act).held = s.held := by
  unfold inPlains
  with_reducible repeat' first
    | rfl
    | refine ite_held ?_ ?_
    | intro _
    | refine (answer_held ..).trans ?_
    | refine (hact ..).trans ?_


theorem describeAct_held (s : State) (w : Waiting) : (describeAct s w).held = s.held := by
  unfold describeAct
  with_reducible repeat' first
    | rfl
    | intro _
    | refine (answer_held ..).trans ?_
    | refine (inPlains_held _ _ _ ?_).trans ?_
    | split


theorem execDictDescribe_held (f : DictFrame) (s : State) : Res.held (execDictDescribe f s) s.held := by
  unfold execDictDescribe
  with_reducible repeat' first
    | rfl
    | refine next_held ?_
    | intro _
    | refine (describeAct_held ..).trans ?_
    | refine (dictIn_held _ _ _ ?_).trans ?_


theorem blobAct_held (s : State) (w : Waiting) : (blobAct s w).held = s.held := by
  unfold blobAct
  with_reducible repeat' first
    | rfl
    | refine ite_held ?_ ?_
    | intro _
    | refine (answer_held ..).trans ?_
    | refine (inPlains_held _ _ _ ?_).trans ?_
    | split


theorem execDictBlobRead_held (f : DictFrame) (s : State) : Res.held (execDictBlobRead f s) s.held := by
  unfold execDictBlobRead
  with_reducible repeat' first
    | rfl
    | refine next_held ?_
    | intro _
    | refine (blobAct_held ..).trans ?_
    | refine (dictIn_held _ _ _ ?_).trans ?_


theorem execUnsupportedOperation_held (f : DictFrame) (s : State) : Res.held (execUnsupportedOperation f s) s.held := by
  unfold execUnsupportedOperation
  with_reducible repeat' first
    | rfl
    | refine next_held ?_
    | refine ite_held ?_ ?_
    | intro _
    | refine (dictIn_held _ _ _ ?_).trans ?_


theorem commandAct_held (isWrite : Bool) (s : State) (w : Waiting) : (commandAct isWrite s w).held = s.held := by
  unfold commandAct
  with_reducible repeat' first
    | rfl
    | refine ite_held ?_ ?_
    | intro _
    | refine (State.nt_held ..).trans ?_
    | refine (answer_held ..).trans ?_
    | split
    | (extract_lets +onlyGivenNames z)


theorem execDictWrite_held (f : DictFrame) (s : State) : Res.held (execDictWrite f s) s.held := by
  unfold execDictWrite
  with_reducible repeat' first
    | rfl
    | refine next_held ?_
    | intro _
    | refine (commandAct_held ..).trans ?_
    | refine (dictIn_held _ _ _ ?_).trans ?_


theorem execDictInvoke_held (f : DictFrame) (s : State) : Res.held (execDictInvoke f s) s.held := by
  unfold execDictInvoke
  with_reducible repeat' first
    | rfl
    | refine next_held ?_
    | intro _
    | refine (commandAct_held ..).trans ?_
    | refine (dictIn_held _ _ _ ?_).trans ?_


theorem windowTake_held (s : State) (c : Nat) (cseq : Nat) (q : Nat) : (windowTake s c cseq q).held = s.held := by
  unfold windowTake
  with_reducible repeat' first
    | rfl
    | (fail_if_no_progress refine (mk_held ..).trans ?_)


theorem namedAccept_held (s : State) (q : Nat) (sub : Nat) (n : Nat) : (namedAccept s q sub n).held = s.held := by
  unfold namedAccept
  with_reducible repeat' first
    | rfl
    | refine ite_held ?_ ?_
    | intro _
    | refine (activationArm_held ..).trans ?_
    | refine (hoArm_held ..).trans ?_
    | refine (ownPost_held ..).trans ?_


theorem execCommandAcceptance_held (fail : BitVec 2) (s : State) : Res.held (execCommandAcceptance fail s) s.held := by
  unfold execCommandAcceptance
  with_reducible repeat' first
    | rfl
    | (fail_if_no_progress refine (mk_held ..).trans ?_)
    | refine next_held ?_
    | refine iteRes_held ?_ ?_
    | intro _
    | refine (State.nt_held ..).trans ?_
    | refine (answer_held ..).trans ?_
    | refine (jShow_held ..).trans ?_
    | refine (jWrite_held ..).trans ?_
    | refine (maRestart_held ..).trans ?_
    | refine (namedAccept_held ..).trans ?_
    | refine (wakeEvent_held ..).trans ?_
    | refine (windowTake_held ..).trans ?_
    | split
    | (extract_lets +onlyGivenNames z)


theorem query_held (f : DictFrame) (op : Nat) (len : Nat) (act : State → Waiting → State) (s : State) (hact : ∀ a3 b3, (act a3
    b3).held = a3.held) : Res.held (query f op len act s) s.held := by
  unfold query
  with_reducible repeat' first
    | rfl
    | refine next_held ?_
    | refine ite_held ?_ ?_
    | intro _
    | refine (answer_held ..).trans ?_
    | refine (dictIn_held _ _ _ ?_).trans ?_
    | refine (inPlains_held _ _ _ ?_).trans ?_
    | refine (hact ..).trans ?_


theorem execJStatus_held (f : DictFrame) (s : State) : Res.held (execJStatus f s) s.held := by
  unfold execJStatus
  with_reducible repeat' first
    | rfl
    | intro _
    | refine (answer_held ..).trans ?_
    | refine Res.held_of (query_held _ _ _ _ _ ?_) ?_


theorem execJByCseq_held (f : DictFrame) (s : State) : Res.held (execJByCseq f s) s.held := by
  unfold execJByCseq
  with_reducible repeat' first
    | rfl
    | refine ite_held ?_ ?_
    | intro _
    | refine (answer_held ..).trans ?_
    | refine Res.held_of (query_held _ _ _ _ _ ?_) ?_
    | split
    | (extract_lets +onlyGivenNames z)


theorem execJRead_held (f : DictFrame) (s : State) : Res.held (execJRead f s) s.held := by
  unfold execJRead
  with_reducible repeat' first
    | rfl
    | refine ite_held ?_ ?_
    | intro _
    | refine (answer_held ..).trans ?_
    | refine Res.held_of (query_held _ _ _ _ _ ?_) ?_
    | split
    | (extract_lets +onlyGivenNames z)


theorem execJScan_held (f : DictFrame) (s : State) : Res.held (execJScan f s) s.held := by
  unfold execJScan
  with_reducible repeat' first
    | rfl
    | refine ite_held ?_ ?_
    | intro _
    | refine (answer_held ..).trans ?_
    | refine Res.held_of (query_held _ _ _ _ _ ?_) ?_


theorem execJStarts_held (f : DictFrame) (s : State) : Res.held (execJStarts f s) s.held := by
  unfold execJStarts
  with_reducible repeat' first
    | rfl
    | intro _
    | refine (answer_held ..).trans ?_
    | refine Res.held_of (query_held _ _ _ _ _ ?_) ?_


theorem execNamedColSnapshot_held (s : State) : Res.held (execNamedColSnapshot s) s.held := by
  unfold execNamedColSnapshot
  with_reducible repeat' first
    | rfl
    | refine next_held ?_
    | refine (foldl_held _ ?_ _ _).trans ?_
    | refine iteRes_held ?_ ?_
    | intro _
    | refine (jShow_held ..).trans ?_
    | refine (ownPost_held ..).trans ?_


theorem execBarrierReport_held (s : State) : Res.held (execBarrierReport s) s.held := by
  unfold execBarrierReport
  with_reducible repeat' first
    | rfl
    | refine next_held ?_
    | refine (foldl_held _ ?_ _ _).trans ?_
    | refine iteRes_held ?_ ?_
    | intro _
    | refine (jShow_held ..).trans ?_
    | refine (ownPost_held ..).trans ?_


theorem settleNow_held (s : State) (e : JEntry) : (settleNow s e).held = s.held := by
  unfold settleNow
  with_reducible repeat' first
    | rfl
    | refine (jWrite_held ..).trans ?_


theorem execStagedControllerReset_held (s : State) : Res.held (execStagedControllerReset s) s.held := by
  unfold execStagedControllerReset
  with_reducible repeat' first
    | rfl
    | refine next_held ?_
    | refine (foldl_held _ ?_ _ _).trans ?_
    | refine iteRes_held ?_ ?_
    | intro _
    | refine (controllerReset_held ..).trans ?_
    | refine (settleNow_held ..).trans ?_
    | split


theorem after_held (r : Result) (s : State) (h : Res.held r s.held) : (after r s).held = s.held := by
  obtain ⟨t, rfl, e⟩ := h
  exact e

theorem execInjEcc2_held (by_ : By) (n : Fin 4) (s : State) : Res.held (execInjEcc2 by_ n s) s.held := by
  unfold execInjEcc2
  with_reducible repeat' first
    | rfl
    | refine next_held ?_
    | intro _
    | refine (State.setLane_held ..).trans ?_
    | refine (gated_held _ _ _ ?_).trans ?_


theorem execInjEcc1_held (by_ : By) (n : Fin 4) (s : State) : Res.held (execInjEcc1 by_ n s) s.held := by
  unfold execInjEcc1
  with_reducible repeat' first
    | rfl
    | refine next_held ?_
    | intro _
    | refine (State.setLane_held ..).trans ?_
    | refine (gated_held _ _ _ ?_).trans ?_


theorem execInjResidue_held (by_ : By) (n : Fin 4) (s : State) : Res.held (execInjResidue by_ n s) s.held := by
  unfold execInjResidue
  with_reducible repeat' first
    | rfl
    | refine next_held ?_
    | intro _
    | refine (State.setLane_held ..).trans ?_
    | refine (gated_held _ _ _ ?_).trans ?_


theorem bitOn_held (v : Word32) (i : Nat) (act : State → State) (s : State) (hact : ∀ a2, (act a2).held = a2.held) : (bitOn v i
    act s).held = s.held := by
  unfold bitOn
  with_reducible repeat' first
    | rfl
    | refine ite_held ?_ ?_
    | intro _
    | refine (hact ..).trans ?_


theorem noteStaged_held (s : State) (lane : Nat) (o : Nat) : (noteStaged s lane o).held = s.held := by
  unfold noteStaged
  with_reducible repeat' first
    | rfl
    | (fail_if_no_progress refine (mk_held ..).trans ?_)


theorem holdLow_held (s : State) (b : By) (v : Word32) : (holdLow s b v).held = s.held := by
  unfold holdLow
  with_reducible repeat' first
    | rfl
    | refine (State.tm_held ..).trans ?_


theorem cmpWritten_held (s : State) (o : Nat) : (cmpWritten s o).held = s.held := by
  unfold cmpWritten
  with_reducible repeat' first
    | rfl
    | refine ite_held ?_ ?_
    | intro _
    | refine (State.setCmp_held ..).trans ?_


theorem commitPair_held (s : State) (b : By) (o : Nat) (v : Word32) : (commitPair s b o v).held = s.held := by
  unfold commitPair
  with_reducible repeat' first
    | rfl
    | refine (State.setWord_held ..).trans ?_
    | refine (cmpWritten_held ..).trans ?_


theorem forceActs_held (b : By) (o : Nat) (v : Word32) : ∀ a ∈ forceActs b o v, ∀ t : State, (a t).held = t.held := by
  have cons : ∀ (e : State → Result) (l : List (State → State)), (∀ s, Res.held (e s) s.held) →
      (∀ a ∈ l, ∀ t : State, (a t).held = t.held) → ∀ a ∈ (fun s => after (e s) s) :: l, ∀ t : State, (a t).held = t.held := by
    intro e l he hl a ha t
    rcases List.mem_cons.1 ha with rfl | h
    · exact after_held _ _ (he t)
    · exact hl a h t
  have nil : ∀ a ∈ ([] : List (State → State)), ∀ t : State, (a t).held = t.held := by intro a ha; cases ha
  have ite : ∀ (c : Prop) [Decidable c] (l m : List (State → State)), (∀ a ∈ l, ∀ t : State, (a t).held = t.held) →
      (∀ a ∈ m, ∀ t : State, (a t).held = t.held) → ∀ a ∈ (if c then l else m), ∀ t : State, (a t).held = t.held := by
    intro c _ l m hl hm
    split
    · exact hl
    · exact hm
  unfold forceActs
  extract_lets f n1 n2 n3 n4 n5
  refine ite _ _ _ (cons _ _ (execInjResidue_held _ _) (cons _ _ (execInjEcc1_held _ _) (cons _ _ (execInjEcc2_held _ _) nil)))
      ?_
  refine ite _ _ _ (cons _ _ (execLswForceOpen_held _ _) (cons _ _ (execLswForceShort_held _ _) (cons _ _
      (execLswForceTherm_held _ _) (cons _ _ (execLswForceClamp_held _ _) nil)))) ?_
  refine ite _ _ _ (cons _ _ (execLedgerForceSegtrip_held _ _) nil) ?_
  refine ite _ _ _ (cons _ _ (execHbrForceShort_held _ _) (cons _ _ (execHbrForceTherm_held _ _) (cons _ _
      (execHbrForceStall_held _ _) nil))) ?_
  refine ite _ _ _ (cons _ _ (execValveForceShort_held _ _) (cons _ _ (execValveForceOpen_held _ _) (cons _ _
      (execValveForceTherm_held _ _) (cons _ _ (execValveForceCoilhot_held _ _) nil)))) ?_
  refine ite _ _ _ (cons _ _ (execLightForceOpen_held _ _) (cons _ _ (execLightForceShort_held _ _) (cons _ _
      (execLightForceTherm_held _ _) (cons _ _ (execLightForceLeak_held _ _) nil)))) ?_
  refine ite _ _ _ (cons _ _ (execJournalForceBank0_held _) (cons _ _ (execJournalForceBank1_held _) nil)) ?_
  refine ite _ _ _ (cons _ _ (execPowerForceVlane_held _) (cons _ _ (execPowerForceWakeline_held _) (cons _ _
      (execPowerForceFalsewake_held _) (cons _ _ (execPowerForceMaxawake_held _) (cons _ _ (execPowerForceDescent_held _)
          nil))))) ?_
  refine ite _ _ _ (cons _ _ (execAccessForceFail_held _) (cons _ _ (execAccessForceAerial_held _) (cons _ _
      (execAccessForceRelay_held _) nil))) ?_
  refine ite _ _ _ (cons _ _ (execKeysForceTrng_held _) (cons _ _ (execKeysForceSlotfail_held _) (cons _ _
      (execKeysForceTamper_held _) nil))) ?_
  refine ite _ _ _ (cons _ _ (execUpdateForceStore_held _) (cons _ _ (execUpdateForceDigest_held _) (cons _ _
      (execUpdateForceSelector_held _) nil))) ?_
  exact nil
theorem forceWrite_held (s : State) (b : By) (acts : List (State → State)) (v : Word32)
    (hacts : ∀ a ∈ acts, ∀ t : State, (a t).held = t.held) : (forceWrite s b acts v).held = s.held := by
  unfold forceWrite
  split
  · have key : ∀ (l : List ((State → State) × Nat)) (t : State), (∀ p ∈ l, p.1 ∈ acts) →
        (l.foldl (fun s p => bitOn v p.2 p.1 s) t).held = t.held := by
      intro l
      induction l with
      | nil => intro t _; rfl
      | cons p l ih =>
        intro t hp
        exact (ih _ fun q hq => hp q (List.mem_cons_of_mem _ hq)).trans
          (bitOn_held _ _ _ _ (hacts _ (hp p List.mem_cons_self)))
    refine key _ _ fun p hp => ?_
    exact List.fst_mem_of_mem_zipIdx hp
  · exact raiseFault_held _ _ _ _

theorem updateCmd_held (s : State) (b : By) (op : Nat) : (updateCmd s b op).held = s.held := by
  unfold updateCmd
  with_reducible repeat' first
    | rfl
    | refine (after_held _ _ ?_).trans ?_
    | refine Res.held_of (execUpdateAbort_held ..) ?_
    | refine Res.held_of (execUpdateBegin_held ..) ?_
    | refine Res.held_of (execUpdateRecover_held ..) ?_
    | refine Res.held_of (execUpdateVerify_held ..) ?_
    | split


theorem writeActs_held (old : State) (s : State) (b : By) (o : Nat) (v : Word32) : (writeActs old s b o v).held = s.held := by
  unfold writeActs
  with_reducible repeat' first
    | rfl
    | refine ite_held ?_ ?_
    | intro _
    | refine (State.setFlds_held ..).trans ?_
    | refine (State.setWord_held ..).trans ?_
    | refine (State.tm_held ..).trans ?_
    | refine (after_held _ _ ?_).trans ?_
    | refine (bitOn_held _ _ _ _ ?_).trans ?_
    | refine (capEmpty_held ..).trans ?_
    | refine (cmpWritten_held ..).trans ?_
    | refine (crqStart_held ..).trans ?_
    | refine Res.held_of (execCanRecover_held ..) ?_
    | refine Res.held_of (execFaultAck_held ..) ?_
    | refine Res.held_of (execFaultAckone_held ..) ?_
    | refine Res.held_of (execHoAbort_held ..) ?_
    | refine Res.held_of (execHoArm_held ..) ?_
    | refine Res.held_of (execImmoGo_held ..) ?_
    | refine Res.held_of (execLedgerAdmit_held ..) ?_
    | refine Res.held_of (execLedgerRelease_held ..) ?_
    | refine Res.held_of (execLoad_held ..) ?_
    | refine Res.held_of (execLogClear_held ..) ?_
    | refine Res.held_of (execLogClrdump_held ..) ?_
    | refine Res.held_of (execOutPost_held ..) ?_
    | refine Res.held_of (execPosWrite_held ..) ?_
    | refine Res.held_of (execPowerAbort_held ..) ?_
    | refine Res.held_of (execPowerKeep_held ..) ?_
    | refine Res.held_of (execPowerPulse_held ..) ?_
    | refine Res.held_of (execReload_held ..) ?_
    | refine Res.held_of (execRoundAbort_held ..) ?_
    | refine Res.held_of (execSleepArm_held ..) ?_
    | refine Res.held_of (execStagingPush_held ..) ?_
    | refine Res.held_of (execUdcstart_held ..) ?_
    | refine (keyStart_held ..).trans ?_
    | refine (updateCmd_held ..).trans ?_
    | split


theorem rowWrite_held (s : State) (b : By) (r : RegRow) (o : Nat) (v : Word32) : (rowWrite s b r o v).held = s.held := by
  unfold rowWrite
  with_reducible repeat' first
    | rfl
    | refine ite_held ?_ ?_
    | intro _
    | refine (State.setWord_held ..).trans ?_
    | refine (after_held _ _ ?_).trans ?_
    | refine (commitPair_held ..).trans ?_
    | refine Res.held_of (execFaultForce_held ..) ?_
    | refine (forceWrite_held _ _ _ _ ?_).trans ?_
    | refine (holdLow_held ..).trans ?_
    | refine (noteStaged_held ..).trans ?_
    | refine (raiseFault_held ..).trans ?_
    | refine (writeActs_held ..).trans ?_
    | exact forceActs_held _ _ _ _ (by assumption) _


theorem regWrite_held (s : State) (b : By) (o : Nat) (v : Word32) : (regWrite s b o v).held = s.held := by
  unfold regWrite
  with_reducible repeat' first
    | rfl
    | refine ite_held ?_ ?_
    | intro _
    | refine (after_held _ _ ?_).trans ?_
    | refine Res.held_of (execMicrocodeWrite_held ..) ?_
    | refine (rowWrite_held ..).trans ?_
    | split


theorem execRegisterWrite_held (by_ : By) (off : BitVec 22) (val : Word32) (s : State) : Res.held (execRegisterWrite by_ off
    val s) s.held := by
  unfold execRegisterWrite
  with_reducible repeat' first
    | rfl
    | refine next_held ?_
    | refine (regWrite_held ..).trans ?_


theorem execPairHighWrite_held (by_ : By) (off : BitVec 22) (val : Word32) (s : State) : Res.held (execPairHighWrite by_ off
    val s) s.held := by
  unfold execPairHighWrite
  with_reducible repeat' first
    | rfl
    | refine next_held ?_
    | refine ite_held ?_ ?_
    | intro _
    | refine (regWrite_held ..).trans ?_


theorem execReadClear_held (by_ : By) (off : BitVec 22) (s : State) : Res.held (execReadClear by_ off s) s.held := by
  unfold execReadClear
  with_reducible repeat' first
    | rfl
    | refine next_held ?_
    | refine (laneRead_held ..).trans ?_


theorem execGroupFirstRead_held (by_ : By) (off : BitVec 22) (s : State) : Res.held (execGroupFirstRead by_ off s) s.held := by
  unfold execGroupFirstRead
  with_reducible repeat' first
    | rfl
    | refine next_held ?_
    | refine ite_held ?_ ?_
    | intro _
    | refine (laneRead_held ..).trans ?_
    | split
    | (extract_lets +onlyGivenNames z)


end Sys2Proof.Machine
end

