-- ==== Sys2Proof/Laws/HeldLane.lean ====
section
/-!
SUPPORT. Which operations leave the queue and the byte memories as they are: lanes, cols and passes. One lemma each:
`<operation>_held`; for a command it also says that the command has a next state.
-/
namespace Sys2Proof.Machine

theorem dropContexts_held (s : State) : (dropContexts s).held = s.held := by
  unfold dropContexts
  with_reducible repeat' first
    | rfl
    | refine (State.each_held _ _ _ ?_).trans ?_
    | refine ite_held ?_ ?_
    | intro _
    | refine (State.setLane_held ..).trans ?_
    | refine (dropPlains_held ..).trans ?_


theorem dropStaged_held (s : State) (n : Nat) : (dropStaged s n).held = s.held := by
  unfold dropStaged
  with_reducible repeat' first
    | rfl
    | (fail_if_no_progress refine (mk_held ..).trans ?_)
    | refine (foldl_held _ ?_ _ _).trans ?_
    | intro _
    | refine (State.setWord_held ..).trans ?_


theorem sequencerLoss_held (s : State) (n : Nat) : (sequencerLoss s n).held = s.held := by
  unfold sequencerLoss
  with_reducible repeat' first
    | rfl
    | (fail_if_no_progress refine (mk_held ..).trans ?_)
    | refine ite_held ?_ ?_
    | intro _
    | refine (State.enter_held ..).trans ?_
    | refine (State.setFld_held ..).trans ?_
    | refine (raiseFault_held ..).trans ?_
    | refine (showLanes_held ..).trans ?_


theorem laneLoss_held (s : State) (n : Nat) (k : LaneFaultKind) : (laneLoss s n k).held = s.held := by
  unfold laneLoss
  with_reducible repeat' first
    | rfl
    | refine ite_held ?_ ?_
    | intro _
    | refine (State.setLane_held ..).trans ?_
    | refine (dropContexts_held ..).trans ?_
    | refine (dropInFlight_held ..).trans ?_
    | refine (dropStaged_held ..).trans ?_
    | refine (laneHalt_held ..).trans ?_
    | refine (raiseFault_held ..).trans ?_
    | refine (sequencerLoss_held ..).trans ?_


theorem dmemCorrected_held (s : State) (n : Nat) : (dmemCorrected s n).held = s.held := by
  unfold dmemCorrected
  with_reducible repeat' first
    | rfl
    | refine ite_held ?_ ?_
    | intro _
    | refine (State.satAdd_held ..).trans ?_
    | refine (raiseFault_held ..).trans ?_


theorem setDmemErr_held (s : State) (n : Nat) (off : Nat) (v : Nat) : (setDmemErr s n off v).held = s.held := by
  unfold setDmemErr
  with_reducible repeat' first
    | rfl
    | (fail_if_no_progress refine (mk_held ..).trans ?_)


theorem scrub_held (s : State) (n : Nat) : (scrub s n).held = s.held := by
  unfold scrub
  with_reducible repeat' first
    | rfl
    | (fail_if_no_progress refine (mk_held ..).trans ?_)


theorem inFlight_held (s : State) (lane : Nat) (c : Nat) (due : Nat) (a : LaneAct) : (inFlight s lane c due a).held = s.held :=
    by
  unfold inFlight
  with_reducible repeat' first
    | rfl
    | (fail_if_no_progress refine (mk_held ..).trans ?_)


theorem breakResv_held (s : State) (writer : Nat) (a : Nat) (size : Nat) : (breakResv s writer a size).held = s.held := by
  unfold breakResv
  with_reducible repeat' first
    | rfl
    | refine (State.each_held _ _ _ ?_).trans ?_
    | refine ite_held ?_ ?_
    | intro _
    | refine (State.setLane_held ..).trans ?_
    | split


theorem Acc.start_held (s : State) : (Acc.start s).st.held = s.held := rfl

theorem Acc.trap_held (a : Acc) (cause : Nat) (addr : Nat) : (Acc.trap a cause addr).st.held = a.st.held := rfl

theorem Acc.put_held (a : Acc) (x : Ctx) (due : Nat) (e : LaneAct) : (Acc.put a x due e).st.held = a.st.held := by
  unfold Acc.put
  with_reducible repeat' first
    | rfl
    | refine (inFlight_held ..).trans ?_


theorem Acc.gpr_held (a : Acc) (x : Ctx) (y : Syl) (v : Word) : (Acc.gpr a x y v).st.held = a.st.held := by
  unfold Acc.gpr
  with_reducible repeat' first
    | rfl
    | refine (Acc.put_held ..).trans ?_
    | refine (State.setLane_held ..).trans ?_
    | split
    | (extract_lets +onlyGivenNames z)


theorem putGpr_held (x : Ctx) (y : Syl) (v : Word) (a : Acc) : (putGpr x y v a).st.held = a.st.held := by
  unfold putGpr
  with_reducible repeat' first
    | rfl
    | refine (Acc.gpr_held ..).trans ?_
    | split


theorem putPred_held (x : Ctx) (y : Syl) (v : Bool) (a : Acc) : (putPred x y v a).st.held = a.st.held := by
  unfold putPred
  with_reducible repeat' first
    | rfl
    | refine (Acc.put_held ..).trans ?_
    | split


theorem putDiv_held (x : Ctx) (y : Syl) (v : Word) (a : Acc) : (putDiv x y v a).st.held = a.st.held := by
  unfold putDiv
  with_reducible repeat' first
    | rfl
    | refine (Acc.gpr_held ..).trans ?_
    | refine (Acc.trap_held ..).trans ?_
    | refine (State.setLane_held ..).trans ?_
    | split
    | (extract_lets +onlyGivenNames z)


theorem memIssue_held (x : Ctx) (y : Syl) (addr : Word) (size : Nat) (writes : Bool) (atomic : Bool) (sum : Bool) (act : Window
    → Nat → Nat → Acc → Acc) (a : Acc) (hact : ∀ a7 b7 c7 d7, (act a7 b7 c7 d7).st.held = d7.st.held) : (memIssue x y addr size
        writes atomic sum act a).st.held = a.st.held := by
  unfold memIssue
  with_reducible repeat' first
    | rfl
    | refine (Acc.trap_held ..).trans ?_
    | refine (State.setLane_held ..).trans ?_
    | refine (laneLoss_held ..).trans ?_
    | refine (hact ..).trans ?_
    | split
    | (extract_lets +onlyGivenNames z)


theorem localLoad_held (x : Ctx) (rd : Nat) (off : Nat) (size : Nat) (sgn : Bool) (a : Acc) : (localLoad x rd off size sgn
    a).st.held = a.st.held := by
  unfold localLoad
  with_reducible repeat' first
    | rfl
    | refine ite_held ?_ ?_
    | intro _
    | refine (Acc.put_held ..).trans ?_
    | refine (dmemCorrected_held ..).trans ?_
    | refine (laneLoss_held ..).trans ?_
    | refine (setDmemErr_held ..).trans ?_
    | split


theorem loadAct_held (x : Ctx) (rd : Nat) (size : Nat) (sgn : Bool) (w : Window) (off : Nat) (slot : Nat) (a : Acc) : (loadAct
    x rd size sgn w off slot a).st.held = a.st.held := by
  unfold loadAct
  with_reducible repeat' first
    | rfl
    | refine (Acc.put_held ..).trans ?_
    | refine (localLoad_held ..).trans ?_
    | split


theorem storeAct_held (x : Ctx) (v : Word) (size : Nat) (w : Window) (off : Nat) (slot : Nat) (a : Acc) : (storeAct x v size w
    off slot a).st.held = a.st.held := by
  unfold storeAct
  with_reducible repeat' first
    | rfl
    | refine (Acc.put_held ..).trans ?_
    | split


theorem opLoad_held (x : Ctx) (y : Syl) (size : Nat) (sgn : Bool) (a : Acc) : (opLoad x y size sgn a).st.held = a.st.held := by
  unfold opLoad
  with_reducible repeat' first
    | rfl
    | intro _
    | refine (loadAct_held ..).trans ?_
    | refine (memIssue_held _ _ _ _ _ _ _ _ _ ?_).trans ?_


theorem opStore_held (x : Ctx) (y : Syl) (size : Nat) (a : Acc) : (opStore x y size a).st.held = a.st.held := by
  unfold opStore
  with_reducible repeat' first
    | rfl
    | intro _
    | refine (memIssue_held _ _ _ _ _ _ _ _ _ ?_).trans ?_
    | refine (storeAct_held ..).trans ?_


theorem opLddx_held (x : Ctx) (y : Syl) (a : Acc) : (opLddx x y a).st.held = a.st.held := by
  unfold opLddx
  with_reducible repeat' first
    | rfl
    | intro _
    | refine (loadAct_held ..).trans ?_
    | refine (memIssue_held _ _ _ _ _ _ _ _ _ ?_).trans ?_


theorem opStdx_held (x : Ctx) (y : Syl) (a : Acc) : (opStdx x y a).st.held = a.st.held := by
  unfold opStdx
  with_reducible repeat' first
    | rfl
    | intro _
    | refine (memIssue_held _ _ _ _ _ _ _ _ _ ?_).trans ?_
    | refine (storeAct_held ..).trans ?_


theorem opTas_held (x : Ctx) (y : Syl) (a : Acc) : (opTas x y a).st.held = a.st.held := by
  unfold opTas
  with_reducible repeat' first
    | rfl
    | intro _
    | refine (Acc.put_held ..).trans ?_
    | refine (memIssue_held _ _ _ _ _ _ _ _ _ ?_).trans ?_


theorem opLr_held (x : Ctx) (y : Syl) (a : Acc) : (opLr x y a).st.held = a.st.held := by
  unfold opLr
  with_reducible repeat' first
    | rfl
    | intro _
    | refine (Acc.put_held ..).trans ?_
    | refine (memIssue_held _ _ _ _ _ _ _ _ _ ?_).trans ?_


theorem opSc_held (x : Ctx) (y : Syl) (a : Acc) : (opSc x y a).st.held = a.st.held := by
  unfold opSc
  with_reducible repeat' first
    | rfl
    | intro _
    | refine (Acc.put_held ..).trans ?_
    | refine (memIssue_held _ _ _ _ _ _ _ _ _ ?_).trans ?_


theorem control_held (x : Ctx) (y : Syl) (act : Acc → Acc) (a : Acc) (hact : ∀ a2, (act a2).st.held = a2.st.held) : (control x
    y act a).st.held = a.st.held := by
  unfold control
  with_reducible repeat' first
    | rfl
    | refine (Acc.trap_held ..).trans ?_
    | refine (hact ..).trans ?_
    | split


theorem branchTo_held (x : Ctx) (y : Syl) (target : Word) (link : Bool) (a : Acc) : (branchTo x y target link a).st.held =
    a.st.held := by
  unfold branchTo
  with_reducible repeat' first
    | rfl
    | intro _
    | refine (Acc.put_held ..).trans ?_
    | refine (control_held _ _ _ _ ?_).trans ?_
    | split


theorem opBr_held (x : Ctx) (y : Syl) (a : Acc) : (opBr x y a).st.held = a.st.held := by
  unfold opBr
  with_reducible repeat' first
    | rfl
    | refine (branchTo_held ..).trans ?_


theorem opBrl_held (x : Ctx) (y : Syl) (a : Acc) : (opBrl x y a).st.held = a.st.held := by
  unfold opBrl
  with_reducible repeat' first
    | rfl
    | refine (branchTo_held ..).trans ?_


theorem opBri_held (x : Ctx) (y : Syl) (a : Acc) : (opBri x y a).st.held = a.st.held := by
  unfold opBri
  with_reducible repeat' first
    | rfl
    | refine (branchTo_held ..).trans ?_


theorem opBril_held (x : Ctx) (y : Syl) (a : Acc) : (opBril x y a).st.held = a.st.held := by
  unfold opBril
  with_reducible repeat' first
    | rfl
    | refine (branchTo_held ..).trans ?_


theorem opEndb_held (x : Ctx) (y : Syl) (a : Acc) : (opEndb x y a).st.held = a.st.held := by
  unfold opEndb
  with_reducible repeat' first
    | rfl
    | intro _
    | refine (control_held _ _ _ _ ?_).trans ?_


theorem opWait_held (x : Ctx) (y : Syl) (a : Acc) : (opWait x y a).st.held = a.st.held := by
  unfold opWait
  with_reducible repeat' first
    | rfl
    | intro _
    | refine (Acc.trap_held ..).trans ?_
    | refine (control_held _ _ _ _ ?_).trans ?_
    | split


theorem opDropp_held (x : Ctx) (y : Syl) (a : Acc) : (opDropp x y a).st.held = a.st.held := by
  unfold opDropp
  with_reducible repeat' first
    | rfl
    | intro _
    | refine (control_held _ _ _ _ ?_).trans ?_


theorem opTrap_held (x : Ctx) (y : Syl) (a : Acc) : (opTrap x y a).st.held = a.st.held := by
  unfold opTrap
  with_reducible repeat' first
    | rfl
    | intro _
    | refine (Acc.trap_held ..).trans ?_
    | refine (control_held _ _ _ _ ?_).trans ?_


theorem opRdcyc_held (x : Ctx) (y : Syl) (a : Acc) : (opRdcyc x y a).st.held = a.st.held := by
  unfold opRdcyc
  with_reducible repeat' first
    | rfl
    | refine (putGpr_held ..).trans ?_


theorem opRdlane_held (x : Ctx) (y : Syl) (a : Acc) : (opRdlane x y a).st.held = a.st.held := by
  unfold opRdlane
  with_reducible repeat' first
    | rfl
    | refine (putGpr_held ..).trans ?_


theorem opPset_held (x : Ctx) (y : Syl) (a : Acc) : (opPset x y a).st.held = a.st.held := by
  unfold opPset
  with_reducible repeat' first
    | rfl
    | refine (foldlAcc_held _ ?_ _ _).trans ?_
    | intro _
    | refine (Acc.put_held ..).trans ?_
    | split


theorem opSel_held (x : Ctx) (y : Syl) (a : Acc) : (opSel x y a).st.held = a.st.held := by
  unfold opSel
  with_reducible repeat' first
    | rfl
    | refine (Acc.gpr_held ..).trans ?_


theorem opArith_held (x : Ctx) (y : Syl) (a : Acc) : (opArith x y a).st.held = a.st.held := by
  unfold opArith
  with_reducible repeat' first
    | rfl
    | refine (putDiv_held ..).trans ?_
    | refine (putGpr_held ..).trans ?_
    | split


theorem opCompare_held (x : Ctx) (y : Syl) (a : Acc) : (opCompare x y a).st.held = a.st.held := by
  unfold opCompare
  with_reducible repeat' first
    | rfl
    | refine (putPred_held ..).trans ?_
    | split


theorem opMemory_held (x : Ctx) (y : Syl) (a : Acc) : (opMemory x y a).st.held = a.st.held := by
  unfold opMemory
  with_reducible repeat' first
    | rfl
    | refine (opLddx_held ..).trans ?_
    | refine (opLoad_held ..).trans ?_
    | refine (opLr_held ..).trans ?_
    | refine (opSc_held ..).trans ?_
    | refine (opStdx_held ..).trans ?_
    | refine (opStore_held ..).trans ?_
    | refine (opTas_held ..).trans ?_
    | split


theorem opRun_held (x : Ctx) (y : Syl) (a : Acc) : (opRun x y a).st.held = a.st.held := by
  unfold opRun
  with_reducible repeat' first
    | rfl
    | refine (opArith_held ..).trans ?_
    | refine (opBr_held ..).trans ?_
    | refine (opBri_held ..).trans ?_
    | refine (opBril_held ..).trans ?_
    | refine (opBrl_held ..).trans ?_
    | refine (opCompare_held ..).trans ?_
    | refine (opDropp_held ..).trans ?_
    | refine (opEndb_held ..).trans ?_
    | refine (opMemory_held ..).trans ?_
    | refine (opPset_held ..).trans ?_
    | refine (opRdcyc_held ..).trans ?_
    | refine (opRdlane_held ..).trans ?_
    | refine (opSel_held ..).trans ?_
    | refine (opTrap_held ..).trans ?_
    | refine (opWait_held ..).trans ?_
    | split


theorem laneStop_held (s : State) (n : Nat) (at' : Nat) : (laneStop s n at').held = s.held := by
  unfold laneStop
  with_reducible repeat' first
    | rfl
    | refine (State.setLane_held ..).trans ?_


theorem savePlain_held (s : State) (n : Nat) (addr : Nat) (at' : Nat) (priv : Bool) : (savePlain s n addr at' priv).held =
    s.held := by
  unfold savePlain
  with_reducible repeat' first
    | rfl
    | refine (State.setFlds_held ..).trans ?_
    | refine (laneStop_held ..).trans ?_
    | refine (scrub_held ..).trans ?_


theorem endBlock_held (s : State) (n : Nat) (at' : Nat) (wait : Bool) : (endBlock s n at' wait).held = s.held := by
  unfold endBlock
  with_reducible repeat' first
    | rfl
    | refine (State.setLane_held ..).trans ?_
    | refine (laneStop_held ..).trans ?_


theorem plainStop_held (s : State) (n : Nat) (at' : Nat) : (plainStop s n at').held = s.held := by
  unfold plainStop
  with_reducible repeat' first
    | rfl
    | refine ite_held ?_ ?_
    | intro _
    | refine (State.setLane_held ..).trans ?_
    | refine (savePlain_held ..).trans ?_


theorem laneTrap_held (s : State) (n : Nat) (pc : Nat) (plain : Bool) (traps : List (Nat × Nat)) : (laneTrap s n pc plain
    traps).held = s.held := by
  unfold laneTrap
  with_reducible repeat' first
    | rfl
    | refine ite_held ?_ ?_
    | intro _
    | refine (State.satAdd_held ..).trans ?_
    | refine (State.setFlds_held ..).trans ?_
    | refine (raiseWith_held ..).trans ?_
    | split


theorem opSuppressed_held (x : Ctx) (y : Syl) (a : Acc) : (opSuppressed x y a).st.held = a.st.held := by
  unfold opSuppressed
  with_reducible repeat' first
    | rfl
    | refine (opRun_held ..).trans ?_
    | split


theorem bundleEnd_held (x : Ctx) (fetch : Bool) (a : Acc) : (bundleEnd x fetch a).held = a.st.held := by
  unfold bundleEnd
  with_reducible repeat' first
    | rfl
    | refine ite_held ?_ ?_
    | intro _
    | refine (State.setLane_held ..).trans ?_
    | refine (endBlock_held ..).trans ?_
    | refine (laneTrap_held ..).trans ?_
    | refine (plainStop_held ..).trans ?_
    | refine (savePlain_held ..).trans ?_


theorem clearShots_held (s : State) : (clearShots s).held = s.held := by
  unfold clearShots
  with_reducible repeat' first
    | rfl
    | refine (foldl_held _ ?_ _ _).trans ?_
    | refine (State.each_held _ _ _ ?_).trans ?_
    | refine ite_held ?_ ?_
    | intro _
    | refine (State.setBit_held ..).trans ?_


theorem cutoff_held (s : State) : (cutoff s).held = s.held := by
  unfold cutoff
  with_reducible repeat' first
    | rfl
    | (fail_if_no_progress refine (mk_held ..).trans ?_)
    | refine (State.each_held _ _ _ ?_).trans ?_
    | refine ite_held ?_ ?_
    | intro _
    | refine (State.setLsw_held ..).trans ?_
    | refine (clearShots_held ..).trans ?_


theorem noteFrame_held (s : State) (d : Nat) : (noteFrame s d).held = s.held := by
  unfold noteFrame
  with_reducible repeat' first
    | rfl
    | (fail_if_no_progress refine (mk_held ..).trans ?_)


theorem execDieLinkFrame_held (die : Fin 4) (crcOk : Bool) (inTime : Bool) (s : State) : Res.held (execDieLinkFrame die crcOk
    inTime s) s.held := by
  unfold execDieLinkFrame
  with_reducible repeat' first
    | rfl
    | refine next_held ?_
    | refine iteRes_held ?_ ?_
    | intro _
    | refine (noteFrame_held ..).trans ?_
    | refine (raiseFault_held ..).trans ?_


theorem missingFrames_held (s : State) : (missingFrames s).held = s.held := by
  unfold missingFrames
  with_reducible repeat' first
    | rfl
    | refine (foldl_held _ ?_ _ _).trans ?_
    | refine ite_held ?_ ?_
    | intro _
    | refine (noteFrame_held ..).trans ?_
    | refine (raiseFault_held ..).trans ?_


theorem countMisses_held (s : State) : (countMisses s).held = s.held := by
  unfold countMisses
  with_reducible repeat' first
    | rfl
    | (fail_if_no_progress refine (mk_held ..).trans ?_)


theorem commitConfig_held (s : State) : (commitConfig s).held = s.held := by
  unfold commitConfig
  with_reducible repeat' first
    | rfl
    | refine (foldl_held _ ?_ _ _).trans ?_
    | intro _
    | refine (State.setEffWord_held ..).trans ?_
    | refine (pairCommit_held ..).trans ?_


theorem restartGroups_held (old : State) (s : State) (c : Nat) : (restartGroups old s c).held = s.held := by
  unfold restartGroups
  with_reducible repeat' first
    | rfl
    | (fail_if_no_progress refine (mk_held ..).trans ?_)


theorem lswTake_held (s : State) (n : Nat) (set : Nat → Word32) : (lswTake s n set).held = s.held := by
  unfold lswTake
  with_reducible repeat' first
    | rfl
    | refine ite_held ?_ ?_
    | intro _
    | refine (lswApply_held ..).trans ?_
    | refine (lswCommit_held ..).trans ?_


theorem hbTake_held (s : State) (n : Nat) (set : Nat → Word32) : (hbTake s n set).held = s.held := by
  unfold hbTake
  with_reducible repeat' first
    | rfl
    | refine ite_held ?_ ?_
    | intro _
    | refine (hbCommit_held ..).trans ?_


theorem vdTake_held (s : State) (n : Nat) (set : Nat → Word32) : (vdTake s n set).held = s.held := by
  unfold vdTake
  with_reducible repeat' first
    | rfl
    | refine ite_held ?_ ?_
    | intro _
    | refine (State.setEffWord_held ..).trans ?_


theorem sinkTake_held (s : State) (n : Nat) (set : Nat → Word32) : (sinkTake s n set).held = s.held := by
  unfold sinkTake
  with_reducible repeat' first
    | rfl
    | refine ite_held ?_ ?_
    | intro _
    | refine (sinkCommit_held ..).trans ?_


theorem stageTake_held (s : State) (g : Nat) (set : Nat → Word32) : (stageTake s g set).held = s.held := by
  unfold stageTake
  with_reducible repeat' first
    | rfl
    | refine ite_held ?_ ?_
    | intro _
    | refine (stageCommit_held ..).trans ?_


theorem matrixTake_held (s : State) (set : Nat → Word32) : (matrixTake s set).held = s.held := by
  unfold matrixTake
  with_reducible repeat' first
    | rfl
    | refine ite_held ?_ ?_
    | intro _
    | refine (matrixCommit_held ..).trans ?_


theorem bankGrant_held (s : State) (b : Nat) : (bankGrant s b).held = s.held := by
  unfold bankGrant
  with_reducible repeat' first
    | rfl
    | refine (grantUsed_held ..).trans ?_


theorem dieOutputs_held (s : State) (d : Nat) : (dieOutputs s d).held = s.held := by
  unfold dieOutputs
  with_reducible repeat' first
    | rfl
    | refine (State.each_held _ _ _ ?_).trans ?_
    | refine ite_held ?_ ?_
    | intro _
    | refine (bankSwitch_held ..).trans ?_
    | refine (hbApply_held ..).trans ?_
    | refine (lswApply_held ..).trans ?_
    | refine (matrixApply_held ..).trans ?_
    | refine (stageApply_held ..).trans ?_


theorem dieCommit_held (s : State) (d : Nat) (all : Bool) : (dieCommit s d all).held = s.held := by
  unfold dieCommit
  with_reducible repeat' first
    | rfl
    | refine (foldl_held _ ?_ _ _).trans ?_
    | refine (State.each_held _ _ _ ?_).trans ?_
    | refine ite_held ?_ ?_
    | intro _
    | refine (bankGrant_held ..).trans ?_
    | refine (hbTake_held ..).trans ?_
    | refine (ledgerEff_held ..).trans ?_
    | refine (lswReloadNow_held ..).trans ?_
    | refine (lswTake_held ..).trans ?_
    | refine (matrixTake_held ..).trans ?_
    | refine (pksApply_held ..).trans ?_
    | refine (sinkTake_held ..).trans ?_
    | refine (stageTake_held ..).trans ?_
    | refine (vdCol_held ..).trans ?_
    | refine (vdTake_held ..).trans ?_


theorem leaveSafe_held (s : State) (d : Nat) : (leaveSafe s d).held = s.held := by
  unfold leaveSafe
  with_reducible repeat' first
    | rfl
    | refine (State.each_held _ _ _ ?_).trans ?_
    | refine ite_held ?_ ?_
    | intro _
    | refine (State.setBit_held ..).trans ?_


theorem dieReclaim_held (s : State) (d : Nat) : (dieReclaim s d).held = s.held := by
  unfold dieReclaim
  with_reducible repeat' first
    | rfl
    | refine (foldl_held _ ?_ _ _).trans ?_
    | refine (State.each_held _ _ _ ?_).trans ?_
    | refine ite_held ?_ ?_
    | intro _
    | refine (hbReclaim_held ..).trans ?_
    | refine (hbTake_held ..).trans ?_
    | refine (leaveSafe_held ..).trans ?_
    | refine (ledgerEff_held ..).trans ?_
    | refine (lswReclaim_held ..).trans ?_
    | refine (matrixReclaim_held ..).trans ?_
    | refine (pksApply_held ..).trans ?_
    | refine (sinkReclaim_held ..).trans ?_
    | refine (vdCol_held ..).trans ?_


theorem freeHeld_held (s : State) : (freeHeld s).held = s.held := by
  unfold freeHeld
  with_reducible repeat' first
    | rfl
    | refine (State.each_held _ _ _ ?_).trans ?_
    | refine ite_held ?_ ?_
    | intro _
    | refine (State.setWord_held ..).trans ?_
    | refine (showHeld_held ..).trans ?_


theorem measure_held (m : ColIn) (s : State) : (measure m s).held = s.held := by
  unfold measure
  with_reducible repeat' first
    | rfl
    | (fail_if_no_progress refine (mk_held ..).trans ?_)
    | refine (State.each_held _ _ _ ?_).trans ?_
    | intro _
    | refine (hbMeasure_held ..).trans ?_
    | refine (lswMeasure_held ..).trans ?_
    | refine (stageMeasure_held ..).trans ?_
    | refine (vbMeasure_held ..).trans ?_
    | refine (vdMeasure_held ..).trans ?_


theorem freshLanes_held (s : State) : (freshLanes s).held = s.held := by
  unfold freshLanes
  with_reducible repeat' first
    | rfl
    | refine (State.each_held _ _ _ ?_).trans ?_
    | intro _
    | refine (State.setFld_held ..).trans ?_
    | refine (State.setLane_held ..).trans ?_


theorem dropOwners_held (s : State) (l : List Nat) : (dropOwners s l).held = s.held := by
  unfold dropOwners
  with_reducible repeat' first
    | rfl
    | (fail_if_no_progress refine (mk_held ..).trans ?_)


theorem sinkShed_held (s : State) (n : Nat) : (sinkShed s n).held = s.held := by
  unfold sinkShed
  with_reducible repeat' first
    | rfl
    | refine (State.setEff_held ..).trans ?_
    | refine (dropOwners_held ..).trans ?_
    | refine (sinkApply_held ..).trans ?_
    | split


theorem unitShed_held (s : State) (u : OutUnit) : (unitShed s u).held = s.held := by
  unfold unitShed
  with_reducible repeat' first
    | rfl
    | refine (State.each_held _ _ _ ?_).trans ?_
    | refine ite_held ?_ ?_
    | intro _
    | refine (State.setBit_held ..).trans ?_
    | refine (State.setEff_held ..).trans ?_
    | refine (State.setEffWord_held ..).trans ?_
    | refine (dropOwners_held ..).trans ?_
    | refine (hbApply_held ..).trans ?_
    | refine (hbSet_held ..).trans ?_
    | refine (lswApply_held ..).trans ?_
    | refine (matrixApply_held ..).trans ?_
    | refine (sinkShed_held ..).trans ?_
    | refine (vdSafe_held ..).trans ?_
    | split


theorem shedAll_held (s : State) : (shedAll s).held = s.held := by
  unfold shedAll
  with_reducible repeat' first
    | rfl
    | refine (foldl_held _ ?_ _ _).trans ?_
    | intro _
    | refine (settleRaises_held ..).trans ?_
    | refine (unitShed_held ..).trans ?_


theorem passNamed_held (s : State) (n : Nat) (first : Bool) : (passNamed s n first).held = s.held := by
  unfold passNamed
  with_reducible repeat' first
    | rfl
    | refine (foldl_held _ ?_ _ _).trans ?_
    | intro _
    | refine (ownPost_held ..).trans ?_


theorem postAgain_held (s : State) : (postAgain s).held = s.held := by
  unfold postAgain
  with_reducible repeat' first
    | rfl
    | (fail_if_no_progress refine (mk_held ..).trans ?_)


theorem colOpen_held (s : State) (n : Nat) (c : Nat) : (colOpen s n c).held = s.held := by
  unfold colOpen
  with_reducible repeat' first
    | rfl
    | (fail_if_no_progress refine (mk_held ..).trans ?_)
    | refine (State.each_held _ _ _ ?_).trans ?_
    | intro _
    | refine (State.setPair_held ..).trans ?_
    | refine (plainStop_held ..).trans ?_


theorem strobe_held (s : State) (first : Bool) (c : Nat) : (strobe s first c).held = s.held := by
  unfold strobe
  with_reducible repeat' first
    | rfl
    | (fail_if_no_progress refine (mk_held ..).trans ?_)
    | refine (State.each_held _ _ _ ?_).trans ?_
    | refine ite_held ?_ ?_
    | intro _
    | refine (State.setBit_held ..).trans ?_
    | refine (commitConfig_held ..).trans ?_
    | refine (dieCommit_held ..).trans ?_
    | refine (dieOutputs_held ..).trans ?_
    | refine (dieReclaim_held ..).trans ?_
    | refine (freeHeld_held ..).trans ?_
    | refine (restartGroups_held ..).trans ?_
    | refine (settleRaises_held ..).trans ?_


theorem committed_held (s : State) (n : Nat) : (committed s n).held = s.held := by
  unfold committed
  with_reducible repeat' first
    | rfl
    | (fail_if_no_progress refine (mk_held ..).trans ?_)
    | refine (jShow_held ..).trans ?_


theorem tickBegins_held (s : State) (was : Nat) (c : Nat) : (tickBegins s was c).held = s.held := by
  unfold tickBegins
  with_reducible repeat' first
    | rfl
    | (fail_if_no_progress refine (mk_held ..).trans ?_)
    | refine ite_held ?_ ?_
    | intro _
    | refine (linCol_held ..).trans ?_
    | refine (mbCol_held ..).trans ?_
    | refine (netCol_held ..).trans ?_
    | refine (releaseReads_held ..).trans ?_
    | refine (settleRaises_held ..).trans ?_


theorem firstOpens_held (s : State) (n : Nat) (c : Nat) (aligned : Bool) : (firstOpens s n c aligned).held = s.held := by
  unfold firstOpens
  with_reducible repeat' first
    | rfl
    | (fail_if_no_progress refine (mk_held ..).trans ?_)
    | refine (State.setBit_held ..).trans ?_


theorem overrun_held (s : State) (n : Nat) (block : Nat) : (overrun s n block).held = s.held := by
  unfold overrun
  with_reducible repeat' first
    | rfl
    | (fail_if_no_progress refine (mk_held ..).trans ?_)
    | refine (State.setFlds_held ..).trans ?_
    | refine (raiseWith_held ..).trans ?_


theorem laneBegin_held (s : State) (n : Nat) (p : Nat) (pc : Nat) (priv : Bool) (plain : Bool) : (laneBegin s n p pc priv
    plain).held = s.held := by
  unfold laneBegin
  with_reducible repeat' first
    | rfl
    | refine (State.setLane_held ..).trans ?_


theorem passCode_held (s : State) (n : Nat) (p : Nat) (block : Nat) (entry : Nat) : (passCode s n p block entry).held = s.held
    := by
  unfold passCode
  with_reducible repeat' first
    | rfl
    | (fail_if_no_progress refine (mk_held ..).trans ?_)
    | refine ite_held ?_ ?_
    | intro _
    | refine (State.setLane_held ..).trans ?_
    | refine (laneBegin_held ..).trans ?_
    | refine (overrun_held ..).trans ?_


theorem passPlain_held (s : State) (n : Nat) (p : Nat) (len : Nat) : (passPlain s n p len).held = s.held := by
  unfold passPlain
  with_reducible repeat' first
    | rfl
    | refine ite_held ?_ ?_
    | intro _
    | refine (State.setBit_held ..).trans ?_
    | refine (State.setLane_held ..).trans ?_
    | refine (laneBegin_held ..).trans ?_
    | refine (overrun_held ..).trans ?_


theorem edgeTake_held (s : State) (u : OutUnit) : (edgeTake s u).held = s.held := by
  unfold edgeTake
  with_reducible repeat' first
    | rfl
    | refine (bankGrant_held ..).trans ?_
    | refine (hbTake_held ..).trans ?_
    | refine (lswTake_held ..).trans ?_
    | refine (sinkTake_held ..).trans ?_
    | refine (vdTake_held ..).trans ?_
    | split


end Sys2Proof.Machine
end

