-- ==== Sys2Proof/Laws/Memory.lean ====
section
/-!
SUPPORT. What reads and writes of sparse maps and byte memories do: a read after a write, and the canonical form, which
every operation on a byte memory keeps.
-/
namespace Sys2Proof.Machine

/-! ### Sparse maps -/

section
variable {α : Type}

/-- Rising keys stay rising above a smaller bound. -/
theorem smapRising_mono {lo lo' : Nat} (h : lo' ≤ lo) {m : List (Nat × α)} (hm : smapRising lo m = true) :
    smapRising lo' m = true := by
  cases m with
  | nil => rfl
  | cons p m =>
    simp only [smapRising, Bool.and_eq_true, decide_eq_true_eq] at hm ⊢
    exact ⟨by omega, hm.2⟩

/-- Every key of a rising map lies above its bound. -/
theorem smapRising_lt {lo : Nat} {m : List (Nat × α)} (hm : smapRising lo m = true) : ∀ p ∈ m, lo < p.1 := by
  induction m generalizing lo with
  | nil => intro p h; cases h
  | cons q m ih =>
    simp only [smapRising, Bool.and_eq_true, decide_eq_true_eq] at hm
    intro p h
    rcases List.mem_cons.1 h with rfl | h
    · exact hm.1
    · exact Nat.lt_trans hm.1 (ih hm.2 p h)

/-- Leaving out entries keeps the keys rising. -/
theorem smapRising_filter {lo : Nat} (f : Nat × α → Bool) {m : List (Nat × α)} (hm : smapRising lo m = true) :
    smapRising lo (m.filter f) = true := by
  induction m generalizing lo with
  | nil => rfl
  | cons q m ih =>
    simp only [smapRising, Bool.and_eq_true, decide_eq_true_eq] at hm
    rw [List.filter_cons]
    split
    · simp only [smapRising, Bool.and_eq_true, decide_eq_true_eq]
      exact ⟨hm.1, ih hm.2⟩
    · exact ih (smapRising_mono (Nat.le_of_lt hm.1) hm.2)

/-- A key between the bound and all others may be put in. -/
theorem smapRising_insert {lo k : Nat} {v : α} {m : List (Nat × α)} (hm : smapRising lo m = true) (hk : lo < k)
    (hn : ∀ p ∈ m, p.1 ≠ k) : smapRising lo (smapInsert m k v) = true := by
  induction m generalizing lo with
  | nil => simp [smapInsert, smapRising, hk]
  | cons q m ih =>
    obtain ⟨j, w⟩ := q
    simp only [smapRising, Bool.and_eq_true, decide_eq_true_eq] at hm
    have hj : j ≠ k := hn (j, w) List.mem_cons_self
    unfold smapInsert
    split
    · rename_i h
      simp [smapRising, hk, h, hm.2]
    · simp only [smapRising, Bool.and_eq_true, decide_eq_true_eq]
      exact ⟨hm.1, ih hm.2 (by omega) fun p hp => hn p (List.mem_cons_of_mem _ hp)⟩

variable [DecidableEq α] (dflt : Nat → α)

/-- Leaving out entries keeps the canonical form. -/
theorem smapWf_filter (f : Nat × α → Bool) {m : List (Nat × α)} (hm : smapWf dflt m = true) :
    smapWf dflt (m.filter f) = true := by
  induction m with
  | nil => rfl
  | cons q m ih =>
    simp only [smapWf, Bool.and_eq_true] at hm
    rw [List.filter_cons]
    split
    · simp only [smapWf, Bool.and_eq_true]
      exact ⟨⟨hm.1.1, smapRising_filter f hm.1.2⟩, ih hm.2⟩
    · exact ih hm.2

/-- Putting in an entry with a new key and another value than the unlisted one keeps the canonical form. -/
theorem smapWf_insert {k : Nat} {v : α} {m : List (Nat × α)} (hm : smapWf dflt m = true) (hv : v ≠ dflt k)
    (hn : ∀ p ∈ m, p.1 ≠ k) : smapWf dflt (smapInsert m k v) = true := by
  induction m with
  | nil => simp [smapInsert, smapWf, smapRising, hv]
  | cons q m ih =>
    obtain ⟨j, w⟩ := q
    simp only [smapWf, Bool.and_eq_true] at hm
    have hj : j ≠ k := hn (j, w) List.mem_cons_self
    have hm' : ∀ p ∈ m, p.1 ≠ k := fun p hp => hn p (List.mem_cons_of_mem _ hp)
    unfold smapInsert
    split
    · rename_i h
      simp only [smapWf, smapRising, Bool.and_eq_true, decide_eq_true_eq]
      exact ⟨⟨by simpa using hv, h, hm.1.2⟩, hm⟩
    · simp only [smapWf, Bool.and_eq_true]
      exact ⟨⟨hm.1.1, smapRising_insert hm.1.2 (by omega) hm'⟩, ih hm.2 hm'⟩

/-- A write keeps the canonical form. -/
theorem smapWf_set {m : List (Nat × α)} (hm : smapWf dflt m = true) (k : Nat) (v : α) :
    smapWf dflt (smapSet dflt m k v) = true := by
  unfold smapSet
  split
  · exact smapWf_filter dflt _ hm
  · refine smapWf_insert dflt (smapWf_filter dflt _ hm) ‹_› fun p hp => ?_
    simpa using (List.mem_filter.1 hp).2

omit [DecidableEq α] in
/-- Another key reads as before when an entry is taken out. -/
theorem smapGet_erase_ne {m : List (Nat × α)} {k j : Nat} (h : j ≠ k) :
    smapGet dflt (smapErase m k) j = smapGet dflt m j := by
  induction m with
  | nil => rfl
  | cons q m ih =>
    obtain ⟨i, w⟩ := q
    unfold smapErase at ih ⊢
    rw [List.filter_cons]
    split
    · simp only [smapGet, ih]
    · rename_i hi
      have : i = k := by simpa using hi
      subst this
      rw [ih, smapGet, if_neg (fun e => h e.symm)]

omit [DecidableEq α] in
/-- The key taken out reads as an unlisted one. -/
theorem smapGet_erase_same (m : List (Nat × α)) (k : Nat) : smapGet dflt (smapErase m k) k = dflt k := by
  induction m with
  | nil => rfl
  | cons q m ih =>
    obtain ⟨i, w⟩ := q
    unfold smapErase at ih ⊢
    rw [List.filter_cons]
    split
    · rename_i hi
      have : i ≠ k := by simpa using hi
      rw [smapGet, if_neg this, ih]
    · exact ih

omit [DecidableEq α] in
/-- What a map with one more entry reads as, its key being new. -/
theorem smapGet_insert {m : List (Nat × α)} {k j : Nat} {v : α} (hn : ∀ p ∈ m, p.1 ≠ k) :
    smapGet dflt (smapInsert m k v) j = if j = k then v else smapGet dflt m j := by
  induction m with
  | nil =>
    show (if k = j then v else dflt j) = _
    by_cases e : j = k
    · rw [if_pos e.symm, if_pos e]
    · rw [if_neg fun h => e h.symm, if_neg e]; rfl
  | cons q m ih =>
    obtain ⟨i, w⟩ := q
    have hi : i ≠ k := hn (i, w) List.mem_cons_self
    have ih := ih fun p hp => hn p (List.mem_cons_of_mem _ hp)
    unfold smapInsert
    split
    · by_cases e : j = k
      · rw [smapGet, if_pos e.symm, if_pos e]
      · rw [smapGet, if_neg fun h => e h.symm, if_neg e]
    · simp only [smapGet, ih]
      by_cases e : i = j
      · subst e; simp [hi]
      · simp [e]

/-- A read after a write to any key. -/
theorem smapGet_set (m : List (Nat × α)) (k j : Nat) (v : α) :
    smapGet dflt (smapSet dflt m k v) j = if j = k then v else smapGet dflt m j := by
  unfold smapSet
  split
  · rename_i hv
    by_cases e : j = k
    · subst e; rw [if_pos rfl, smapGet_erase_same, hv]
    · rw [if_neg e, smapGet_erase_ne dflt e]
  · rw [smapGet_insert dflt fun p hp => by simpa using (List.mem_filter.1 hp).2]
    by_cases e : j = k
    · simp [e]
    · rw [if_neg e, if_neg e, smapGet_erase_ne dflt e]

@[simp] theorem smapGet_set_same (m : List (Nat × α)) (k : Nat) (v : α) : smapGet dflt (smapSet dflt m k v) k = v := by
  simp [smapGet_set]

theorem smapGet_set_ne (m : List (Nat × α)) {k j : Nat} (v : α) (h : j ≠ k) :
    smapGet dflt (smapSet dflt m k v) j = smapGet dflt m j := by simp [smapGet_set, h]

end

/-! ### Byte memories -/

/-- A read after a write of one byte. -/
theorem rdByte_wrByte (m : List (Nat × Byte)) (a c : Nat) (b : Byte) :
    rdByte (wrByte m a b) c = if c = a then b else rdByte m c := smapGet_set _ _ _ _ _

@[simp] theorem rdByte_nil (a : Nat) : rdByte [] a = 0 := rfl

/-- Bytes outside a little-endian write read as before. -/
theorem rdByte_wrLE_ne (m : List (Nat × Byte)) (a v n c : Nat) (h : c < a ∨ a + n ≤ c) :
    rdByte (wrLE m a v n) c = rdByte m c := by
  induction n generalizing m a v with
  | zero => rfl
  | succ n ih => rw [wrLE, ih _ _ _ (by omega), rdByte_wrByte, if_neg (by omega)]

/-- Bytes outside a write of a list read as before. -/
theorem rdByte_wrBytes_ne (m : List (Nat × Byte)) (a : Nat) (l : List Byte) (c : Nat) (h : c < a ∨ a + l.length ≤ c) :
    rdByte (wrBytes m a l) c = rdByte m c := by
  induction l generalizing m a with
  | nil => rfl
  | cons b l ih =>
    rw [List.length_cons] at h
    rw [wrBytes, ih _ _ (by omega), rdByte_wrByte, if_neg (by omega)]

/-- The byte of a little-endian write at its place. -/
theorem rdByte_wrLE (m : List (Nat × Byte)) (a v n i : Nat) (h : i < n) :
    rdByte (wrLE m a v n) (a + i) = BitVec.ofNat 8 (v / 256 ^ i) := by
  induction n generalizing m a v i with
  | zero => omega
  | succ n ih =>
    rw [wrLE]
    cases i with
    | zero => rw [rdByte_wrLE_ne _ _ _ _ _ (by omega), rdByte_wrByte]; simp
    | succ i =>
      have := ih (wrByte m a (BitVec.ofNat 8 v)) (a + 1) (v / 256) i (by omega)
      rw [show a + (i + 1) = a + 1 + i by omega, this, Nat.div_div_eq_div_mul, Nat.pow_succ']

theorem wrByte_wf {m : List (Nat × Byte)} (h : Memory.wf m = true) (a : Nat) (b : Byte) : Memory.wf (wrByte m a b) = true :=
  smapWf_set _ h a b

theorem wrLE_wf {m : List (Nat × Byte)} (h : Memory.wf m = true) (a v n : Nat) : Memory.wf (wrLE m a v n) = true := by
  induction n generalizing m a v with
  | zero => exact h
  | succ n ih => exact ih (wrByte_wf h _ _) _ _

theorem wrBytes_wf {m : List (Nat × Byte)} (h : Memory.wf m = true) (a : Nat) (l : List Byte) :
    Memory.wf (wrBytes m a l) = true := by
  induction l generalizing m a with
  | nil => exact h
  | cons b l ih => exact ih (wrByte_wf h _ _) _

theorem fillBytes_wf {m : List (Nat × Byte)} (h : Memory.wf m = true) (a : Nat) (b : Byte) (n : Nat) :
    Memory.wf (fillBytes m a b n) = true := by
  induction n generalizing m a with
  | zero => exact h
  | succ n ih => exact ih (wrByte_wf h _ _) _

theorem clearBytes_wf {m : List (Nat × Byte)} (h : Memory.wf m = true) (a n : Nat) : Memory.wf (clearBytes m a n) = true :=
  smapWf_filter _ _ h

/-- A fold whose body keeps the canonical form keeps it. -/
theorem foldl_wf {α : Type} (f : List (Nat × Byte) → α → List (Nat × Byte))
    (hf : ∀ m a, Memory.wf m = true → Memory.wf (f m a) = true) (l : List α) {m : List (Nat × Byte)} (h : Memory.wf m = true) :
    Memory.wf (l.foldl f m) = true := by
  induction l generalizing m with
  | nil => exact h
  | cons a l ih => exact ih (hf _ _ h)

theorem putBytes_wf {m : List (Nat × Byte)} (h : Memory.wf m = true) (new : List (Nat × Byte)) :
    Memory.wf (putBytes m new) = true := foldl_wf _ (fun _ _ h => wrByte_wf h _ _) new h

theorem copyBytes_wf (src : List (Nat × Byte)) (a n : Nat) {dst : List (Nat × Byte)} (h : Memory.wf dst = true) (b : Nat) :
    Memory.wf (copyBytes src a n dst b) = true := putBytes_wf (clearBytes_wf h _ _) _

theorem placeCode_wf {m : List (Nat × Byte)} (h : Memory.wf m = true) (p : Plan) (n : Nat) :
    Memory.wf (placeCode m p n) = true := by
  have put : ∀ {m : List (Nat × Byte)}, Memory.wf m = true → ∀ v l at', Memory.wf (putCode m p v l at') = true :=
    fun h v l at' => putBytes_wf h _
  have c := put (clearBytes_wf h (n * laneSize) laneSize) 0 n (n * laneSize)
  unfold placeCode
  dsimp only
  split <;> split <;> first | exact c | exact put c _ _ _ | exact put (put c _ _ _) _ _ _

theorem placeData_wf {m : List (Nat × Byte)} (h : Memory.wf m = true) (p : Plan) (v l n : Nat) :
    Memory.wf (placeData m p v l n) = true := copyBytes_wf _ _ _ (clearBytes_wf h _ _) _

end Sys2Proof.Machine
end

