-- ==== Sys2Proof/Laws/Keeps.lean ====
section
/-!
SUPPORT. The operations that write byte memories: each leaves the queue and keeps the canonical form of every memory. One lemma
each: `<operation>_keeps`; for a command it also says that the command has a next state.
-/
namespace Sys2Proof.Machine

theorem keeps_of_held {s t : State} (h : t.held = s.held) : Keeps s t := by
  simp only [State.held, Prod.mk.injEq] at h
  obtain ⟨a, b, c, d, e⟩ := h
  exact ⟨a, fun w => by simpa only [State.memOk, b, c, d, e] using w⟩

theorem Keeps.rfl (s : State) : Keeps s s := ⟨Eq.refl _, id⟩

theorem Keeps.trans {s t u : State} (h : Keeps s t) (g : Keeps t u) : Keeps s u := ⟨g.pending.trans h.pending, fun w => g.mem
    (h.mem w)⟩

theorem Keeps.mk4 {s t : State} (hp : t.pending = s.pending) (hi : Memory.wf s.imem = true → Memory.wf t.imem = true)
    (hd : Memory.wf s.dmem = true → Memory.wf t.dmem = true) (hs : Memory.wf s.shared = true → Memory.wf t.shared = true)
    (hc : Memory.wf s.calCopy = true → Memory.wf t.calCopy = true) : Keeps s t := by
  refine ⟨hp, fun w => ?_⟩
  simp only [State.memOk, Bool.and_eq_true] at w ⊢
  exact ⟨⟨⟨hi w.1.1.1, hd w.1.1.2⟩, hs w.1.2⟩, hc w.2⟩

theorem foldl_keeps {α : Type} (f : State → α → State) (h : ∀ s a, Keeps s (f s a)) (l : List α) (s : State) : Keeps s (l.foldl
    f s) := by
  induction l generalizing s with
  | nil => exact Keeps.rfl s
  | cons a l ih => exact (h s a).trans (ih _)

theorem each_keeps (s : State) (f : State → Nat → State) (l : List Nat) (h : ∀ s a, Keeps s (f s a)) : Keeps s (s.each f l) :=
    foldl_keeps f h l s

theorem ite_keeps {c : Prop} [Decidable c] {s a b : State} (ha : c → Keeps s a) (hb : ¬c → Keeps s b) : Keeps s (if c then a
    else b) := by
  split
  · exact ha ‹_›
  · exact hb ‹_›

theorem next_keeps {s t : State} (h : Keeps s t) : Res.keeps s (.next t) := ⟨t, rfl, h⟩

theorem Res.keeps_of {s t : State} {r : Result} (h : Keeps s t) (g : Res.keeps t r) : Res.keeps s r := by
  obtain ⟨u, e, f⟩ := g
  exact ⟨u, e, h.trans f⟩

theorem iteRes_keeps {c : Prop} [Decidable c] {s : State} {a b : Result} (ha : c → Res.keeps s a) (hb : ¬c → Res.keeps s b) :
    Res.keeps s (if c then a else b) := by
  split
  · exact ha ‹_›
  · exact hb ‹_›

theorem jSnapshot_keeps (s : State) (n : Nat) (c : Nat) : Keeps s (jSnapshot s n c) := by
  have fold : ∀ (t : State) (l : List (JEntry × Nat)) (p : List (Nat × Byte) × Nat), Memory.wf p.1 = true →
      Memory.wf (l.foldl (fun (p : List (Nat × Byte) × Nat) x =>
        (wrBytes (wrBytes p.1 (0x1E8000 + 32 * p.2) (slotBytes t x.1 x.2)) (0x1F0000 + x.2) x.1.value, p.2 + 1)) p).1 = true :=
            by
    intro t l
    induction l with
    | nil => intro p h; exact h
    | cons x l ih => intro p h; exact ih _ (wrBytes_wf (wrBytes_wf h _ _) _ _)
  unfold jSnapshot
  extract_lets el t f m q j u
  have ht : Keeps s t := foldl_keeps _ (fun s e => ite_keeps (fun _ => Keeps.rfl _) fun _ =>
    ite_keeps (fun _ => keeps_of_held (ownPost_held _ _ _ _ _)) fun _ => ite_keeps (fun _ => keeps_of_held (ownPost_held _ _ _
        _ _)) fun _ => Keeps.rfl _) _ _
  have hu : Keeps t u := Keeps.mk4 rfl id id (fun h => fold _ _ _ (clearBytes_wf h _ _)) id
  refine (ht.trans hu).trans (keeps_of_held ((jShow_held _).trans ?_))
  exact ite_held (fun _ => State.setBit_held _ _ _ _) fun _ => rfl

theorem powerLoss_keeps (s : State) : Keeps s (powerLoss s) :=
  Keeps.mk4 rfl (fun _ => rfl) (fun _ => rfl) (fun _ => rfl) fun _ => rfl

theorem execSupplyFall_keeps (supA : Nat) (supB : Nat) (s : State) : Res.keeps s (execSupplyFall supA supB s) := by
  unfold execSupplyFall
  with_reducible repeat' first
    | exact Keeps.rfl _
    | (fail_if_no_progress refine Keeps.trans ?_ (keeps_of_held (mk_held ..)))
    | refine next_keeps ?_
    | refine ite_keeps ?_ ?_
    | refine iteRes_keeps ?_ ?_
    | intro _
    | refine Keeps.trans ?_ (keeps_of_held (dieApply_held _))
    | refine Keeps.trans ?_ (powerLoss_keeps _)
    | refine Keeps.trans ?_ (keeps_of_held (showSupplies_held _ _ _))


theorem litLoad_keeps (s : State) : Keeps s (litLoad s) := by
  unfold litLoad
  generalize goodRecord s 0x4C495443 524 = r
  extract_lets r' b t
  have ht : Keeps s t := Keeps.mk4 rfl id id id fun _ => wrBytes_wf (wrByte_wf (m := []) rfl _ _) _ _
  exact ite_keeps (fun _ => ht) fun _ => ht.trans (keeps_of_held (raiseFault_held _ _ _ _))

theorem declaredLoad_keeps (s : State) : Keeps s (declaredLoad s) := by
  unfold declaredLoad
  refine foldl_keeps _ (fun s i => ?_) _ _
  refine ite_keeps (fun _ => Keeps.rfl _) fun _ => foldl_keeps _ (fun s k => ?_) _ _
  split
  · exact Keeps.mk4 rfl id id (fun h => wrBytes_wf h _ _) id
  · exact Keeps.rfl _

theorem placeLanes_keeps (s : State) : Keeps s (placeLanes s) :=
  Keeps.mk4 rfl (fun h => foldl_wf _ (fun _ _ h => placeCode_wf h _ _) _ h) (fun h => foldl_wf _ (fun _ _ h => placeData_wf h _
      _ _ _) _ h) id id

theorem narrowsLanes_keeps (s : State) : Keeps s (narrowsLanes s) := by
  unfold narrowsLanes
  refine foldl_keeps _ (fun s p => ?_) _ _
  exact Keeps.mk4 rfl id (fun h => placeData_wf h _ _ _ _) id id

theorem sharedFill_keeps (s : State) : Keeps s (sharedFill s) :=
  Keeps.mk4 rfl id id (fun _ => copyBytes_wf _ _ _ rfl _) id

theorem execPlanLoadDone_keeps (s : State) : Res.keeps s (execPlanLoadDone s) := by
  unfold execPlanLoadDone
  refine iteRes_keeps (fun _ => next_keeps (Keeps.rfl _)) fun _ => ?_
  generalize loadCheck s s.seq.loadLevel = r
  split
  · refine next_keeps (Keeps.trans ?_ (keeps_of_held (armFirst_held _)))
    refine Keeps.trans ?_ (declaredLoad_keeps _)
    refine Keeps.trans ?_ (sharedFill_keeps _)
    refine Keeps.trans ?_ (placeLanes_keeps _)
    exact keeps_of_held ((mk_held ..).trans (State.setFlds_held _ _))
  · exact next_keeps (keeps_of_held (loadFailed_held _ _))

theorem planStart_keeps (s : State) (boot : Nat) : Keeps s (planStart s boot) := by
  unfold planStart
  extract_lets t level l r
  have ht : Keeps s t := keeps_of_held (mk_held ..)
  have hr : Keeps s r.1 := ht.trans (keeps_of_held (startSelect_held _ _))
  refine ite_keeps (fun _ => keeps_of_held (recoveryStart_held _)) fun _ => ?_
  refine ite_keeps (fun _ => ite_keeps (fun _ => (placeLanes_keeps _).trans (keeps_of_held (armFirst_held _))) fun _ =>
      Keeps.rfl _) fun _ => ?_
  refine ite_keeps (fun _ => ?_) fun _ => ?_
  · split
    · exact ite_keeps (fun _ => ht.trans (keeps_of_held (loadBegin_held _ _))) fun _ => ht.trans (keeps_of_held
        (loadFailed_held _ _))
    · exact ht.trans (keeps_of_held (loadBegin_held _ _))
  · exact ite_keeps (fun _ => hr.trans (keeps_of_held (loadBegin_held _ _))) fun _ =>
      hr.trans (keeps_of_held ((recoveryStart_held _).trans (raiseFault_held _ _ _ _)))

theorem execStart_keeps (x : StartIn) (s : State) : Res.keeps s (execStart x s) := by
  unfold execStart
  extract_lets boot a b c d e f
  have ha : Keeps s a := keeps_of_held ((showLanes_held _).trans ((logicUp_held _).trans (timeStart_held _ _)))
  have hb : Keeps a b := keeps_of_held ((collectorStart_held _).trans (mk_held ..))
  have hd : Keeps s d := (ha.trans hb).trans (keeps_of_held ((deviceLoad_held _).trans ((journalStart_held _ _ _).trans
    ((keysStart_held _ _).trans (State.setBit_held _ _ _ _)))))
  have he : Keeps d e := Keeps.trans (keeps_of_held ((lswCalLoad_held _).trans (resolvePending_held _))) (litLoad_keeps _)
  have hf : Keeps e f := ite_keeps (fun _ => keeps_of_held (modelLoad_held _)) fun _ => Keeps.rfl _
  refine iteRes_keeps (fun _ => next_keeps (Keeps.rfl _)) fun _ => ?_
  refine iteRes_keeps (fun _ => next_keeps (hd.trans (keeps_of_held (raiseFault_held _ _ _ _)))) fun _ => ?_
  exact next_keeps (((hd.trans he).trans hf).trans (planStart_keeps _ _))

theorem carryState_keeps (s : State) (old : List (Nat × Byte)) : Keeps s (carryState s old) := by
  have entry : ∀ (p : Plan) (m : List (Nat × Byte)) (e : Nat), Memory.wf m = true → Memory.wf (carryEntry p old m e) = true :=
      by
    intro p m e h
    unfold carryEntry
    dsimp only
    split
    · exact copyBytes_wf _ _ _ h _
    · exact fillBytes_wf h _ _ _
    · exact h
  exact Keeps.mk4 rfl id id (fun _ => copyBytes_wf _ _ _ (foldl_wf _ (fun m i h => entry _ m _ h) _ (copyBytes_wf _ _ _ rfl _))
      _) id

theorem execHandover_keeps (s : State) : Res.keeps s (execHandover s) := by
  unfold execHandover
  extract_lets falls rebase a b old c sq d sq2 e f
  have hb : Keeps s b := (keeps_of_held (State.setFlds_held _ _)).trans (ite_keeps (fun _ => keeps_of_held (supplyMove_held _
      _)) fun _ => Keeps.rfl _)
  have hc : Keeps b c := keeps_of_held ((planShow_held _).trans ((State.enter_held _ _).trans (mk_held ..)))
  have hd : Keeps c d := ite_keeps (fun _ => keeps_of_held ((State.setBit_held _ _ _ _).trans (mk_held ..))) fun _ => Keeps.rfl
      _
  have he : Keeps d e := keeps_of_held (mk_held ..)
  have hf : Keeps e f := foldl_keeps _ (fun _ _ => keeps_of_held (ownPost_held _ _ _ _ _)) _ _
  refine iteRes_keeps (fun _ => next_keeps (Keeps.rfl _)) fun _ => next_keeps ?_
  exact ((((hb.trans hc).trans (hd.trans he)).trans hf).trans (placeLanes_keeps _)).trans
    ((carryState_keeps _ _).trans (keeps_of_held (dropPlains_held _)))

theorem dstoreAct_keeps (s : State) (n : Nat) (off : Nat) (size : Nat) (v : Word) : Keeps s (dstoreAct s n off size v) := by
  unfold dstoreAct
  extract_lets err t l u w
  refine ite_keeps (fun _ => keeps_of_held (laneLoss_held _ _ _)) fun _ => ?_
  refine Keeps.trans ?_ (keeps_of_held (State.setLane_held _ _ _))
  refine Keeps.trans ?_ (keeps_of_held (setDmemErr_held _ _ _ _))
  have ht : Keeps s t := ite_keeps (fun _ => keeps_of_held (dmemCorrected_held _ _)) fun _ => Keeps.rfl _
  exact ht.trans (Keeps.mk4 rfl id (fun h => wrLE_wf h _ _ _) id id)

theorem laneAct_keeps (s : State) (e : LaneEv) : Keeps s (laneAct s e) := by
  unfold laneAct
  extract_lets n
  split
  · exact keeps_of_held (State.setLane_held _ _ _)
  · exact keeps_of_held (State.setLane_held _ _ _)
  · exact keeps_of_held (inFlight_held _ _ _ _ _)
  · exact keeps_of_held (inFlight_held _ _ _ _ _)
  · exact keeps_of_held ((inFlight_held _ _ _ _ _).trans (State.setLane_held _ _ _))
  · exact keeps_of_held ((inFlight_held _ _ _ _ _).trans (inFlight_held _ _ _ _ _))
  · refine keeps_of_held ((inFlight_held _ _ _ _ _).trans ?_)
    exact ite_held (fun _ => (inFlight_held _ _ _ _ _).trans (State.setLane_held _ _ _)) fun _ => State.setLane_held _ _ _
  · refine Keeps.trans ?_ (keeps_of_held (breakResv_held _ _ _ _))
    exact Keeps.mk4 rfl id id (fun h => wrLE_wf h _ _ _) id
  · exact dstoreAct_keeps _ _ _ _ _
  · refine Keeps.trans ?_ (keeps_of_held (breakResv_held _ _ _ _))
    exact Keeps.mk4 rfl id id (fun h => wrBytes_wf h _ _) id
  · exact keeps_of_held ((inFlight_held _ _ _ _ _).trans (laneRead_held _ _ _))
  · exact keeps_of_held (regWrite_held _ _ _ _)
  · exact keeps_of_held (laneLoss_held _ _ _)

theorem laneActAt_keeps (s : State) (e : LaneEv) : Keeps s (laneActAt s e) := by
  unfold laneActAt
  with_reducible repeat' first
    | exact Keeps.rfl _
    | (fail_if_no_progress refine Keeps.trans ?_ (keeps_of_held (mk_held ..)))
    | refine Keeps.trans ?_ (laneAct_keeps _ _)


theorem settleFuel_keeps (k c : Nat) (s : State) : Keeps s (settleFuel k c s) := by
  induction k generalizing s with
  | zero => exact Keeps.rfl s
  | succ k ih =>
    unfold settleFuel
    split
    · exact Keeps.rfl s
    · split
      · exact ((keeps_of_held (mk_held ..)).trans (laneActAt_keeps _ _)).trans (ih _)
      · exact Keeps.rfl s

theorem settleTo_keeps (s : State) (c : Nat) : Keeps s (settleTo s c) := by
  unfold settleTo
  with_reducible repeat' first
    | exact Keeps.rfl _
    | refine Keeps.trans ?_ (settleFuel_keeps _ _ _)


theorem settleCount_keeps (s : State) (c : Nat) : Keeps s (settleCount s c) := by
  unfold settleCount
  with_reducible repeat' first
    | exact Keeps.rfl _
    | refine ite_keeps ?_ ?_
    | intro _
    | refine Keeps.trans ?_ (settleTo_keeps _ _)


theorem issue_keeps (s : State) (n : Nat) (ys : List Syl) (words : Nat) (bad : Nat) : Keeps s (issue s n ys words bad) := by
  have run : ∀ (x : Ctx) (l : List Syl) (a : Acc), (l.foldl (fun a y => if a.lost then a else opRun x y a) a).st.held =
      a.st.held := by
    intro x l
    induction l with
    | nil => intro a; rfl
    | cons y l ih =>
      intro a
      refine (ih _).trans ?_
      show (if a.lost then a else opRun x y a).st.held = _
      split
      · rfl
      · exact opRun_held _ _ _
  have sup : ∀ (x : Ctx) (l : List Syl) (a : Acc), (l.foldl (fun a y => opSuppressed x y a) a).st.held = a.st.held := by
    intro x l
    induction l with
    | nil => intro a; rfl
    | cons y l ih => intro a; exact (ih _).trans (opSuppressed_held _ _ _)
  unfold issue
  extract_lets c t l hit target pc rest u next notAddr fetch cause x a b
  have ht : Keeps s t := (settleTo_keeps _ _).trans (keeps_of_held (State.reach_held _ _))
  refine ite_keeps (fun _ => ht) fun _ => ?_
  have hb : Keeps t b.st := by
    have ha : a.st.held = t.held := (Acc.start_held _).trans (State.setLane_held t n u)
    refine keeps_of_held (Eq.trans ?_ ha)
    dsimp only [b]
    split
    · exact run _ _ _
    · refine (Acc.trap_held _ _ _).trans ?_
      split
      · rfl
      · exact sup _ _ _
  exact ite_keeps (fun _ => ht.trans hb) fun _ => (ht.trans hb).trans (keeps_of_held (bundleEnd_held _ _ _))

theorem laneOp_keeps (k : OpKind) (op : Op) (s : State) : Keeps s (laneOp k op s) := by
  unfold laneOp
  with_reducible repeat' first
    | exact Keeps.rfl _
    | refine ite_keeps ?_ ?_
    | intro _
    | refine Keeps.trans ?_ (keeps_of_held (State.setLane_held _ _ _))
    | refine Keeps.trans ?_ (issue_keeps _ _ _ _ _)


theorem execLaneNop_keeps (op : Op) (s : State) : Res.keeps s (execLaneNop op s) := next_keeps (laneOp_keeps _ _ _)

theorem execLaneAdd_keeps (op : Op) (s : State) : Res.keeps s (execLaneAdd op s) := next_keeps (laneOp_keeps _ _ _)

theorem execLaneAddi_keeps (op : Op) (s : State) : Res.keeps s (execLaneAddi op s) := next_keeps (laneOp_keeps _ _ _)

theorem execLaneSub_keeps (op : Op) (s : State) : Res.keeps s (execLaneSub op s) := next_keeps (laneOp_keeps _ _ _)

theorem execLaneAnd_keeps (op : Op) (s : State) : Res.keeps s (execLaneAnd op s) := next_keeps (laneOp_keeps _ _ _)

theorem execLaneAndi_keeps (op : Op) (s : State) : Res.keeps s (execLaneAndi op s) := next_keeps (laneOp_keeps _ _ _)

theorem execLaneOr_keeps (op : Op) (s : State) : Res.keeps s (execLaneOr op s) := next_keeps (laneOp_keeps _ _ _)

theorem execLaneOri_keeps (op : Op) (s : State) : Res.keeps s (execLaneOri op s) := next_keeps (laneOp_keeps _ _ _)

theorem execLaneXor_keeps (op : Op) (s : State) : Res.keeps s (execLaneXor op s) := next_keeps (laneOp_keeps _ _ _)

theorem execLaneXori_keeps (op : Op) (s : State) : Res.keeps s (execLaneXori op s) := next_keeps (laneOp_keeps _ _ _)

theorem execLaneShl_keeps (op : Op) (s : State) : Res.keeps s (execLaneShl op s) := next_keeps (laneOp_keeps _ _ _)

theorem execLaneShli_keeps (op : Op) (s : State) : Res.keeps s (execLaneShli op s) := next_keeps (laneOp_keeps _ _ _)

theorem execLaneShr_keeps (op : Op) (s : State) : Res.keeps s (execLaneShr op s) := next_keeps (laneOp_keeps _ _ _)

theorem execLaneShri_keeps (op : Op) (s : State) : Res.keeps s (execLaneShri op s) := next_keeps (laneOp_keeps _ _ _)

theorem execLaneSar_keeps (op : Op) (s : State) : Res.keeps s (execLaneSar op s) := next_keeps (laneOp_keeps _ _ _)

theorem execLaneSari_keeps (op : Op) (s : State) : Res.keeps s (execLaneSari op s) := next_keeps (laneOp_keeps _ _ _)

theorem execLaneMov_keeps (op : Op) (s : State) : Res.keeps s (execLaneMov op s) := next_keeps (laneOp_keeps _ _ _)

theorem execLaneLi_keeps (op : Op) (s : State) : Res.keeps s (execLaneLi op s) := next_keeps (laneOp_keeps _ _ _)

theorem execLaneLih_keeps (op : Op) (s : State) : Res.keeps s (execLaneLih op s) := next_keeps (laneOp_keeps _ _ _)

theorem execLaneSel_keeps (op : Op) (s : State) : Res.keeps s (execLaneSel op s) := next_keeps (laneOp_keeps _ _ _)

theorem execLaneMin_keeps (op : Op) (s : State) : Res.keeps s (execLaneMin op s) := next_keeps (laneOp_keeps _ _ _)

theorem execLaneMax_keeps (op : Op) (s : State) : Res.keeps s (execLaneMax op s) := next_keeps (laneOp_keeps _ _ _)

theorem execLaneMinu_keeps (op : Op) (s : State) : Res.keeps s (execLaneMinu op s) := next_keeps (laneOp_keeps _ _ _)

theorem execLaneMaxu_keeps (op : Op) (s : State) : Res.keeps s (execLaneMaxu op s) := next_keeps (laneOp_keeps _ _ _)

theorem execLaneAbs_keeps (op : Op) (s : State) : Res.keeps s (execLaneAbs op s) := next_keeps (laneOp_keeps _ _ _)

theorem execLaneClz_keeps (op : Op) (s : State) : Res.keeps s (execLaneClz op s) := next_keeps (laneOp_keeps _ _ _)

theorem execLanePopc_keeps (op : Op) (s : State) : Res.keeps s (execLanePopc op s) := next_keeps (laneOp_keeps _ _ _)

theorem execLaneSext_keeps (op : Op) (s : State) : Res.keeps s (execLaneSext op s) := next_keeps (laneOp_keeps _ _ _)

theorem execLaneAdds_keeps (op : Op) (s : State) : Res.keeps s (execLaneAdds op s) := next_keeps (laneOp_keeps _ _ _)

theorem execLaneSubs_keeps (op : Op) (s : State) : Res.keeps s (execLaneSubs op s) := next_keeps (laneOp_keeps _ _ _)

theorem execLaneCmpeq_keeps (op : Op) (s : State) : Res.keeps s (execLaneCmpeq op s) := next_keeps (laneOp_keeps _ _ _)

theorem execLaneCmpne_keeps (op : Op) (s : State) : Res.keeps s (execLaneCmpne op s) := next_keeps (laneOp_keeps _ _ _)

theorem execLaneCmplt_keeps (op : Op) (s : State) : Res.keeps s (execLaneCmplt op s) := next_keeps (laneOp_keeps _ _ _)

theorem execLaneCmple_keeps (op : Op) (s : State) : Res.keeps s (execLaneCmple op s) := next_keeps (laneOp_keeps _ _ _)

theorem execLaneCmpltu_keeps (op : Op) (s : State) : Res.keeps s (execLaneCmpltu op s) := next_keeps (laneOp_keeps _ _ _)

theorem execLaneCmpleu_keeps (op : Op) (s : State) : Res.keeps s (execLaneCmpleu op s) := next_keeps (laneOp_keeps _ _ _)

theorem execLaneCmpeqi_keeps (op : Op) (s : State) : Res.keeps s (execLaneCmpeqi op s) := next_keeps (laneOp_keeps _ _ _)

theorem execLaneCmplti_keeps (op : Op) (s : State) : Res.keeps s (execLaneCmplti op s) := next_keeps (laneOp_keeps _ _ _)

theorem execLaneTstb_keeps (op : Op) (s : State) : Res.keeps s (execLaneTstb op s) := next_keeps (laneOp_keeps _ _ _)

theorem execLanePand_keeps (op : Op) (s : State) : Res.keeps s (execLanePand op s) := next_keeps (laneOp_keeps _ _ _)

theorem execLanePor_keeps (op : Op) (s : State) : Res.keeps s (execLanePor op s) := next_keeps (laneOp_keeps _ _ _)

theorem execLanePnot_keeps (op : Op) (s : State) : Res.keeps s (execLanePnot op s) := next_keeps (laneOp_keeps _ _ _)

theorem execLanePget_keeps (op : Op) (s : State) : Res.keeps s (execLanePget op s) := next_keeps (laneOp_keeps _ _ _)

theorem execLanePset_keeps (op : Op) (s : State) : Res.keeps s (execLanePset op s) := next_keeps (laneOp_keeps _ _ _)

theorem execLaneMul_keeps (op : Op) (s : State) : Res.keeps s (execLaneMul op s) := next_keeps (laneOp_keeps _ _ _)

theorem execLaneMulhs_keeps (op : Op) (s : State) : Res.keeps s (execLaneMulhs op s) := next_keeps (laneOp_keeps _ _ _)

theorem execLaneMulhu_keeps (op : Op) (s : State) : Res.keeps s (execLaneMulhu op s) := next_keeps (laneOp_keeps _ _ _)

theorem execLaneDiv_keeps (op : Op) (s : State) : Res.keeps s (execLaneDiv op s) := next_keeps (laneOp_keeps _ _ _)

theorem execLaneDivu_keeps (op : Op) (s : State) : Res.keeps s (execLaneDivu op s) := next_keeps (laneOp_keeps _ _ _)

theorem execLaneRem_keeps (op : Op) (s : State) : Res.keeps s (execLaneRem op s) := next_keeps (laneOp_keeps _ _ _)

theorem execLaneRemu_keeps (op : Op) (s : State) : Res.keeps s (execLaneRemu op s) := next_keeps (laneOp_keeps _ _ _)

theorem execLaneLdb_keeps (op : Op) (s : State) : Res.keeps s (execLaneLdb op s) := next_keeps (laneOp_keeps _ _ _)

theorem execLaneLdbu_keeps (op : Op) (s : State) : Res.keeps s (execLaneLdbu op s) := next_keeps (laneOp_keeps _ _ _)

theorem execLaneLdh_keeps (op : Op) (s : State) : Res.keeps s (execLaneLdh op s) := next_keeps (laneOp_keeps _ _ _)

theorem execLaneLdhu_keeps (op : Op) (s : State) : Res.keeps s (execLaneLdhu op s) := next_keeps (laneOp_keeps _ _ _)

theorem execLaneLdw_keeps (op : Op) (s : State) : Res.keeps s (execLaneLdw op s) := next_keeps (laneOp_keeps _ _ _)

theorem execLaneLdwu_keeps (op : Op) (s : State) : Res.keeps s (execLaneLdwu op s) := next_keeps (laneOp_keeps _ _ _)

theorem execLaneLdd_keeps (op : Op) (s : State) : Res.keeps s (execLaneLdd op s) := next_keeps (laneOp_keeps _ _ _)

theorem execLaneLddx_keeps (op : Op) (s : State) : Res.keeps s (execLaneLddx op s) := next_keeps (laneOp_keeps _ _ _)

theorem execLaneStb_keeps (op : Op) (s : State) : Res.keeps s (execLaneStb op s) := next_keeps (laneOp_keeps _ _ _)

theorem execLaneSth_keeps (op : Op) (s : State) : Res.keeps s (execLaneSth op s) := next_keeps (laneOp_keeps _ _ _)

theorem execLaneStw_keeps (op : Op) (s : State) : Res.keeps s (execLaneStw op s) := next_keeps (laneOp_keeps _ _ _)

theorem execLaneStd_keeps (op : Op) (s : State) : Res.keeps s (execLaneStd op s) := next_keeps (laneOp_keeps _ _ _)

theorem execLaneStdx_keeps (op : Op) (s : State) : Res.keeps s (execLaneStdx op s) := next_keeps (laneOp_keeps _ _ _)

theorem execLaneTas_keeps (op : Op) (s : State) : Res.keeps s (execLaneTas op s) := next_keeps (laneOp_keeps _ _ _)

theorem execLaneLr_keeps (op : Op) (s : State) : Res.keeps s (execLaneLr op s) := next_keeps (laneOp_keeps _ _ _)

theorem execLaneSc_keeps (op : Op) (s : State) : Res.keeps s (execLaneSc op s) := next_keeps (laneOp_keeps _ _ _)

theorem execLaneBr_keeps (op : Op) (s : State) : Res.keeps s (execLaneBr op s) := next_keeps (laneOp_keeps _ _ _)

theorem execLaneBrl_keeps (op : Op) (s : State) : Res.keeps s (execLaneBrl op s) := next_keeps (laneOp_keeps _ _ _)

theorem execLaneBri_keeps (op : Op) (s : State) : Res.keeps s (execLaneBri op s) := next_keeps (laneOp_keeps _ _ _)

theorem execLaneBril_keeps (op : Op) (s : State) : Res.keeps s (execLaneBril op s) := next_keeps (laneOp_keeps _ _ _)

theorem execLaneEndb_keeps (op : Op) (s : State) : Res.keeps s (execLaneEndb op s) := next_keeps (laneOp_keeps _ _ _)

theorem execLaneWait_keeps (op : Op) (s : State) : Res.keeps s (execLaneWait op s) := next_keeps (laneOp_keeps _ _ _)

theorem execLaneDropp_keeps (op : Op) (s : State) : Res.keeps s (execLaneDropp op s) := next_keeps (laneOp_keeps _ _ _)

theorem execLaneRdcyc_keeps (op : Op) (s : State) : Res.keeps s (execLaneRdcyc op s) := next_keeps (laneOp_keeps _ _ _)

theorem execLaneRdlane_keeps (op : Op) (s : State) : Res.keeps s (execLaneRdlane op s) := next_keeps (laneOp_keeps _ _ _)

theorem execLaneTrap_keeps (op : Op) (s : State) : Res.keeps s (execLaneTrap op s) := next_keeps (laneOp_keeps _ _ _)

theorem execIllegalEncoding_keeps (lane : Fin 4) (words : List Word32) (s : State) : Res.keeps s (execIllegalEncoding lane
    words s) := by
  unfold execIllegalEncoding
  with_reducible repeat' first
    | exact Keeps.rfl _
    | refine next_keeps ?_
    | refine iteRes_keeps ?_ ?_
    | intro _
    | refine Keeps.trans ?_ (issue_keeps _ _ _ _ _)


theorem execStageCutoff_keeps (s : State) : Res.keeps s (execStageCutoff s) := by
  unfold execStageCutoff
  extract_lets c
  refine iteRes_keeps (fun _ => next_keeps (Keeps.rfl _)) fun _ => next_keeps ?_
  exact (settleCount_keeps _ _).trans (keeps_of_held ((cutoff_held _).trans (State.reach_held _ _)))

theorem snapInput_keeps (s : State) (n : Nat) (c : Nat) : Keeps s (snapInput s n c) := by
  have fold : ∀ (l : List (Nat × Nat)) (f : Nat × Nat → Nat × Nat) (m : List (Nat × Byte)), Memory.wf m = true →
      Memory.wf (l.foldl (fun m p => wrLE m (f p).1 (f p).2 4) m) = true :=
    fun l f m h => foldl_wf _ (fun _ _ h => wrLE_wf h _ _ _) l h
  unfold snapInput
  extract_lets t m q
  have hm : Memory.wf s.shared = true → Memory.wf q = true := fun h => wrLE_wf (wrLE_wf (clearBytes_wf h _ _) _ _ _) _ _ _
  generalize snapWords = l
  exact Keeps.mk4 (Eq.refl _) id id (fun h => fold l (fun p => (snapBase + p.1, (regPeek t p.2).toNat)) q (hm h)) id

theorem snapJournal_keeps (s : State) (n : Nat) (c : Nat) : Keeps s (snapJournal s n c) := by
  unfold snapJournal
  generalize countBytes _ n = l
  extract_lets t u
  exact (jSnapshot_keeps _ _ _).trans (keeps_of_held ((inFlight_held _ _ _ _ _).trans (mk_held ..)))

theorem toNarrows_keeps (s : State) : Keeps s (toNarrows s) := by
  unfold toNarrows
  exact Keeps.trans (keeps_of_held ((mk_held ..).trans (State.enter_held _ _))) (narrowsLanes_keeps _)

theorem colState_keeps (s : State) (was : Nat) : Keeps s (colState s was) := by
  unfold colState
  extract_lets left q t
  have ht : Keeps s t := keeps_of_held ((freshLanes_held _).trans (mk_held ..))
  refine ite_keeps (fun _ => keeps_of_held (State.enter_held _ _)) fun _ => ?_
  refine ite_keeps (fun _ => ?_) fun _ => Keeps.rfl _
  exact ite_keeps (fun _ => ht.trans (keeps_of_held (State.enter_held _ _))) fun _ =>
    (ht.trans (toNarrows_keeps _)).trans (keeps_of_held (shedAll_held _))

theorem colRuns_keeps (m : ColIn) (s : State) : Keeps s (colRuns m s) := by
  unfold colRuns
  generalize nextCol s = p
  obtain ⟨n, c⟩ := p
  extract_lets first was
  split
  rename_i n c _
  extract_lets a b d e f g h i j k l o sq r
  have ha : Keeps s a := (settleCount_keeps _ _).trans (keeps_of_held ((missingFrames_held _).trans (State.reach_held _ _)))
  have hb : Keeps a b := (settleCount_keeps _ _).trans (keeps_of_held (countMisses_held _))
  have hd : Keeps b d := ite_keeps (fun _ => keeps_of_held (raiseFault_held _ _ _ _)) fun _ => Keeps.rfl _
  have he : Keeps d e := snapInput_keeps _ _ _
  have hf : Keeps e f := keeps_of_held ((colOpen_held _ _ _).trans (State.reach_held _ _))
  have hg : Keeps f g := by
    clear_value first
    cases first with
    | none => exact keeps_of_held (measure_held m f)
    | some q =>
      obtain ⟨x, y, al⟩ := q
      exact keeps_of_held (firstOpens_held f n c al)
  have hh : Keeps g h := keeps_of_held (State.setFld_held _ _ _ _)
  have hi : Keeps h i := colState_keeps _ _
  have hj : Keeps i j := ite_keeps (fun _ => Keeps.rfl _) fun _ => keeps_of_held ((committed_held _ _).trans (strobe_held _ _
      _))
  have hk : Keeps j k := ite_keeps (fun _ => keeps_of_held ((ledgerFirst_held _).trans (awakeTimers_held _ _))) fun _ =>
      Keeps.rfl _
  have hl : Keeps k l := Keeps.trans (keeps_of_held ((passNamed_held _ _ _).trans (postAgain_held _))) (snapJournal_keeps _ _ _)
  have ho : Keeps l o := keeps_of_held (breakResv_held _ _ _ _)
  have hr : Keeps o r := keeps_of_held (mk_held ..)
  exact (((((ha.trans hb).trans (hd.trans he)).trans ((hf.trans hg).trans (hh.trans hi))).trans ((hj.trans hk).trans (hl.trans
      ho))).trans
    hr).trans (keeps_of_held (tickBegins_held _ _ _))

theorem execCol_keeps (m : ColIn) (s : State) : Res.keeps s (execCol m s) := by
  unfold execCol
  refine iteRes_keeps (fun _ => ?_) fun _ => iteRes_keeps (fun _ => next_keeps (colRuns_keeps _ _)) fun _ => next_keeps
      (Keeps.rfl _)
  exact next_keeps ((settleCount_keeps _ _).trans (keeps_of_held ((colOpen_held _ _ _).trans (State.reach_held _ _))))

theorem execNarrowsSwitch_keeps (s : State) : Res.keeps s (execNarrowsSwitch s) := by
  unfold execNarrowsSwitch
  split
  · exact next_keeps (Keeps.rfl _)
  · refine iteRes_keeps (fun _ => next_keeps ?_) fun _ => next_keeps (Keeps.rfl _)
    refine Keeps.trans ?_ (snapJournal_keeps _ _ _)
    exact (toNarrows_keeps _).trans (keeps_of_held ((shedAll_held _).trans ((freshLanes_held _).trans (dropContexts_held _))))

theorem passAt_keeps (s : State) (kind : Nat) (off : Nat) (lane : Nat) (arg : Nat) (act : State → Nat → Nat → State) (hact : ∀
    a5 b5 c5, Keeps a5 (act a5 b5 c5)) : Keeps s (passAt s kind off lane arg act) := by
  unfold passAt
  with_reducible repeat' first
    | exact Keeps.rfl _
    | (fail_if_no_progress refine Keeps.trans ?_ (keeps_of_held (mk_held ..)))
    | refine ite_keeps ?_ ?_
    | intro _
    | refine Keeps.trans ?_ (keeps_of_held (State.reach_held _ _))
    | refine Keeps.trans ?_ (settleCount_keeps _ _)
    | refine Keeps.trans ?_ (hact ..)
    | split


theorem execPassNop_keeps (off : Nat) (lane : Fin 4) (s : State) : Res.keeps s (execPassNop off lane s) := by
  unfold execPassNop
  with_reducible repeat' first
    | exact Keeps.rfl _
    | refine next_keeps ?_
    | intro _
    | refine Keeps.trans ?_ (passAt_keeps _ _ _ _ _ _ ?_)


theorem execPassCode_keeps (off : Nat) (lane : Fin 4) (block : BitVec 16) (entry : BitVec 16) (s : State) : Res.keeps s
    (execPassCode off lane block entry s) := by
  unfold execPassCode
  with_reducible repeat' first
    | exact Keeps.rfl _
    | refine next_keeps ?_
    | intro _
    | refine Keeps.trans ?_ (passAt_keeps _ _ _ _ _ _ ?_)
    | refine Keeps.trans ?_ (keeps_of_held (passCode_held _ _ _ _ _))


theorem execPassMark_keeps (off : Nat) (lane : Fin 4) (block : BitVec 16) (s : State) : Res.keeps s (execPassMark off lane
    block s) := by
  unfold execPassMark
  with_reducible repeat' first
    | exact Keeps.rfl _
    | refine next_keeps ?_
    | refine ite_keeps ?_ ?_
    | intro _
    | refine Keeps.trans ?_ (keeps_of_held (overrun_held _ _ _))
    | refine Keeps.trans ?_ (passAt_keeps _ _ _ _ _ _ ?_)


theorem execPassPlain_keeps (off : Nat) (lane : Fin 4) (len : BitVec 20) (s : State) : Res.keeps s (execPassPlain off lane len
    s) := by
  unfold execPassPlain
  with_reducible repeat' first
    | exact Keeps.rfl _
    | refine next_keeps ?_
    | intro _
    | refine Keeps.trans ?_ (passAt_keeps _ _ _ _ _ _ ?_)
    | refine Keeps.trans ?_ (keeps_of_held (passPlain_held _ _ _ _))


theorem execPassEdge_keeps (off : Nat) (lane : Fin 4) (chan : OutUnit) (s : State) : Res.keeps s (execPassEdge off lane chan s)
    := by
  unfold execPassEdge
  with_reducible repeat' first
    | exact Keeps.rfl _
    | refine next_keeps ?_
    | refine ite_keeps ?_ ?_
    | intro _
    | refine Keeps.trans ?_ (keeps_of_held (State.reach_held _ _))
    | refine Keeps.trans ?_ (keeps_of_held (edgeTake_held _ _))
    | refine Keeps.trans ?_ (passAt_keeps _ _ _ _ _ _ ?_)
    | refine Keeps.trans ?_ (keeps_of_held (settleRaises_held _))
    | split


theorem execPassSample_keeps (off : Nat) (lane : Fin 4) (group : Byte) (s : State) : Res.keeps s (execPassSample off lane group
    s) := by
  unfold execPassSample
  with_reducible repeat' first
    | exact Keeps.rfl _
    | refine next_keeps ?_
    | intro _
    | refine Keeps.trans ?_ (passAt_keeps _ _ _ _ _ _ ?_)
    | refine Keeps.trans ?_ (keeps_of_held (sampleStart_held _ _ _))


theorem execPassBusTx_keeps (off : Nat) (lane : Fin 4) (entry : BitVec 16) (s : State) : Res.keeps s (execPassBusTx off lane
    entry s) := by
  unfold execPassBusTx
  with_reducible repeat' first
    | exact Keeps.rfl _
    | refine next_keeps ?_
    | intro _
    | refine Keeps.trans ?_ (keeps_of_held (State.reach_held _ _))
    | refine Keeps.trans ?_ (keeps_of_held (busTx_held _ _))
    | refine Keeps.trans ?_ (passAt_keeps _ _ _ _ _ _ ?_)


theorem execPassLinSlot_keeps (off : Nat) (lane : Fin 4) (entry : BitVec 16) (port : Fin 12) (s : State) : Res.keeps s
    (execPassLinSlot off lane entry port s) := by
  unfold execPassLinSlot
  with_reducible repeat' first
    | exact Keeps.rfl _
    | refine next_keeps ?_
    | intro _
    | refine Keeps.trans ?_ (keeps_of_held (linSlot_held _ _ _ _))
    | refine Keeps.trans ?_ (passAt_keeps _ _ _ _ _ _ ?_)


theorem execPassScan_keeps (off : Nat) (lane : Fin 4) (line : Option (Fin 12)) (s : State) : Res.keeps s (execPassScan off lane
    line s) := by
  unfold execPassScan
  with_reducible repeat' first
    | exact Keeps.rfl _
    | refine next_keeps ?_
    | intro _
    | refine Keeps.trans ?_ (keeps_of_held (mxScan_held _ _ _))
    | refine Keeps.trans ?_ (passAt_keeps _ _ _ _ _ _ ?_)


theorem execPassAccess_keeps (off : Nat) (lane : Fin 4) (entry : BitVec 16) (s : State) : Res.keeps s (execPassAccess off lane
    entry s) := by
  unfold execPassAccess
  with_reducible repeat' first
    | exact Keeps.rfl _
    | refine next_keeps ?_
    | intro _
    | refine Keeps.trans ?_ (keeps_of_held (accessPass_held _ _ _))
    | refine Keeps.trans ?_ (passAt_keeps _ _ _ _ _ _ ?_)
    | split


theorem execPlainSuspend_keeps (lane : Fin 4) (s : State) : Res.keeps s (execPlainSuspend lane s) := by
  unfold execPlainSuspend
  with_reducible repeat' first
    | exact Keeps.rfl _
    | refine next_keeps ?_
    | refine iteRes_keeps ?_ ?_
    | intro _
    | refine Keeps.trans ?_ (keeps_of_held (State.reach_held _ _))
    | refine Keeps.trans ?_ (keeps_of_held (plainStop_held _ _ _))
    | refine Keeps.trans ?_ (settleTo_keeps _ _)


theorem execLaneFault_keeps (lane : Fin 4) (kind : LaneFaultKind) (s : State) : Res.keeps s (execLaneFault lane kind s) := by
  unfold execLaneFault
  with_reducible repeat' first
    | exact Keeps.rfl _
    | refine next_keeps ?_
    | refine Keeps.trans ?_ (keeps_of_held (laneLoss_held _ _ _))
    | refine Keeps.trans ?_ (settleCount_keeps _ _)


end Sys2Proof.Machine
end

