-- ==== Sys2Proof/Laws/State.lean ====
section
/-!
SUPPORT. What each basic update of the state leaves in each field. Registers, dies, lanes and units are written through
the operations of Machine/Ops.lean; each of these lemmas says one field of the result.
-/
namespace Sys2Proof.Machine

/-! ### After setWord -/

section
variable (s : State) (o : Nat) (w : Word32)

@[simp] theorem State.setWord_pending : (s.setWord o w).pending = s.pending := rfl
@[simp] theorem State.setWord_now : (s.setWord o w).now = s.now := rfl
@[simp] theorem State.setWord_fresh : (s.setWord o w).fresh = s.fresh := rfl
@[simp] theorem State.setWord_regs : (s.setWord o w).regs = smapSet regReset s.regs o w := rfl
@[simp] theorem State.setWord_frz : (s.setWord o w).frz = s.frz := rfl
@[simp] theorem State.setWord_edge : (s.setWord o w).edge = s.edge := rfl
@[simp] theorem State.setWord_eff : (s.setWord o w).eff = s.eff := rfl
@[simp] theorem State.setWord_seq : (s.setWord o w).seq = s.seq := rfl
@[simp] theorem State.setWord_plan : (s.setWord o w).plan = s.plan := rfl
@[simp] theorem State.setWord_shadow : (s.setWord o w).shadow = s.shadow := rfl
@[simp] theorem State.setWord_lanes : (s.setWord o w).lanes = s.lanes := rfl
@[simp] theorem State.setWord_laneEv : (s.setWord o w).laneEv = s.laneEv := rfl
@[simp] theorem State.setWord_imem : (s.setWord o w).imem = s.imem := rfl
@[simp] theorem State.setWord_dmem : (s.setWord o w).dmem = s.dmem := rfl
@[simp] theorem State.setWord_shared : (s.setWord o w).shared = s.shared := rfl
@[simp] theorem State.setWord_dmemErr : (s.setWord o w).dmemErr = s.dmemErr := rfl
@[simp] theorem State.setWord_lsw : (s.setWord o w).lsw = s.lsw := rfl
@[simp] theorem State.setWord_groupAt : (s.setWord o w).groupAt = s.groupAt := rfl
@[simp] theorem State.setWord_scanAt : (s.setWord o w).scanAt = s.scanAt := rfl
@[simp] theorem State.setWord_hbr : (s.setWord o w).hbr = s.hbr := rfl
@[simp] theorem State.setWord_vd : (s.setWord o w).vd = s.vd := rfl
@[simp] theorem State.setWord_vbank : (s.setWord o w).vbank = s.vbank := rfl
@[simp] theorem State.setWord_ucode : (s.setWord o w).ucode = s.ucode := rfl
@[simp] theorem State.setWord_sinks : (s.setWord o w).sinks = s.sinks := rfl
@[simp] theorem State.setWord_stages : (s.setWord o w).stages = s.stages := rfl
@[simp] theorem State.setWord_matrix : (s.setWord o w).matrix = s.matrix := rfl
@[simp] theorem State.setWord_model : (s.setWord o w).model = s.model := rfl
@[simp] theorem State.setWord_ledger : (s.setWord o w).ledger = s.ledger := rfl
@[simp] theorem State.setWord_ledgerCh : (s.setWord o w).ledgerCh = s.ledgerCh := rfl
@[simp] theorem State.setWord_lswCal : (s.setWord o w).lswCal = s.lswCal := rfl
@[simp] theorem State.setWord_sinkCal : (s.setWord o w).sinkCal = s.sinkCal := rfl
@[simp] theorem State.setWord_calCopy : (s.setWord o w).calCopy = s.calCopy := rfl
@[simp] theorem State.setWord_dieRef : (s.setWord o w).dieRef = s.dieRef := rfl
@[simp] theorem State.setWord_flags : (s.setWord o w).flags = s.flags := rfl
@[simp] theorem State.setWord_log : (s.setWord o w).log = s.log := rfl
@[simp] theorem State.setWord_dump : (s.setWord o w).dump = s.dump := rfl
@[simp] theorem State.setWord_dumpNext : (s.setWord o w).dumpNext = s.dumpNext := rfl
@[simp] theorem State.setWord_deferred : (s.setWord o w).deferred = s.deferred := rfl
@[simp] theorem State.setWord_deferLost : (s.setWord o w).deferLost = s.deferLost := rfl
@[simp] theorem State.setWord_collectorUp : (s.setWord o w).collectorUp = s.collectorUp := rfl
@[simp] theorem State.setWord_terminalLatch : (s.setWord o w).terminalLatch = s.terminalLatch := rfl
@[simp] theorem State.setWord_raiseQ : (s.setWord o w).raiseQ = s.raiseQ := rfl
@[simp] theorem State.setWord_zoneExit : (s.setWord o w).zoneExit = s.zoneExit := rfl
@[simp] theorem State.setWord_dom : (s.setWord o w).dom = s.dom := rfl
@[simp] theorem State.setWord_supA : (s.setWord o w).supA = s.supA := rfl
@[simp] theorem State.setWord_supB : (s.setWord o w).supB = s.supB := rfl
@[simp] theorem State.setWord_loadDump : (s.setWord o w).loadDump = s.loadDump := rfl
@[simp] theorem State.setWord_storeHot : (s.setWord o w).storeHot = s.storeHot := rfl
@[simp] theorem State.setWord_vlaneBad : (s.setWord o w).vlaneBad = s.vlaneBad := rfl
@[simp] theorem State.setWord_slowRef : (s.setWord o w).slowRef = s.slowRef := rfl
@[simp] theorem State.setWord_slowBase : (s.setWord o w).slowBase = s.slowBase := rfl
@[simp] theorem State.setWord_timers : (s.setWord o w).timers = s.timers := rfl
@[simp] theorem State.setWord_power : (s.setWord o w).power = s.power := rfl
@[simp] theorem State.setWord_journal : (s.setWord o w).journal = s.journal := rfl
@[simp] theorem State.setWord_net : (s.setWord o w).net = s.net := rfl
@[simp] theorem State.setWord_access : (s.setWord o w).access = s.access := rfl
@[simp] theorem State.setWord_keys : (s.setWord o w).keys = s.keys := rfl
@[simp] theorem State.setWord_update : (s.setWord o w).update = s.update := rfl
@[simp] theorem State.setWord_parked : (s.setWord o w).parked = s.parked := rfl
@[simp] theorem State.setWord_boot : (s.setWord o w).boot = s.boot := rfl
@[simp] theorem State.setWord_rstnLow : (s.setWord o w).rstnLow = s.rstnLow := rfl
@[simp] theorem State.setWord_tap : (s.setWord o w).tap = s.tap := rfl
@[simp] theorem State.setWord_hwSafe : (s.setWord o w).hwSafe = s.hwSafe := rfl

end

/-! ### After setFld -/

section
variable (s : State) (F : Field) (n v : Nat)

@[simp] theorem State.setFld_pending : (s.setFld F n v).pending = s.pending := rfl
@[simp] theorem State.setFld_now : (s.setFld F n v).now = s.now := rfl
@[simp] theorem State.setFld_fresh : (s.setFld F n v).fresh = s.fresh := rfl
@[simp] theorem State.setFld_regs : (s.setFld F n v).regs =
    smapSet regReset s.regs (F.off n) (putBits (s.word (F.off n)) F.lo F.len v) := rfl
@[simp] theorem State.setFld_frz : (s.setFld F n v).frz = s.frz := rfl
@[simp] theorem State.setFld_edge : (s.setFld F n v).edge = s.edge := rfl
@[simp] theorem State.setFld_eff : (s.setFld F n v).eff = s.eff := rfl
@[simp] theorem State.setFld_seq : (s.setFld F n v).seq = s.seq := rfl
@[simp] theorem State.setFld_plan : (s.setFld F n v).plan = s.plan := rfl
@[simp] theorem State.setFld_shadow : (s.setFld F n v).shadow = s.shadow := rfl
@[simp] theorem State.setFld_lanes : (s.setFld F n v).lanes = s.lanes := rfl
@[simp] theorem State.setFld_laneEv : (s.setFld F n v).laneEv = s.laneEv := rfl
@[simp] theorem State.setFld_imem : (s.setFld F n v).imem = s.imem := rfl
@[simp] theorem State.setFld_dmem : (s.setFld F n v).dmem = s.dmem := rfl
@[simp] theorem State.setFld_shared : (s.setFld F n v).shared = s.shared := rfl
@[simp] theorem State.setFld_dmemErr : (s.setFld F n v).dmemErr = s.dmemErr := rfl
@[simp] theorem State.setFld_lsw : (s.setFld F n v).lsw = s.lsw := rfl
@[simp] theorem State.setFld_groupAt : (s.setFld F n v).groupAt = s.groupAt := rfl
@[simp] theorem State.setFld_scanAt : (s.setFld F n v).scanAt = s.scanAt := rfl
@[simp] theorem State.setFld_hbr : (s.setFld F n v).hbr = s.hbr := rfl
@[simp] theorem State.setFld_vd : (s.setFld F n v).vd = s.vd := rfl
@[simp] theorem State.setFld_vbank : (s.setFld F n v).vbank = s.vbank := rfl
@[simp] theorem State.setFld_ucode : (s.setFld F n v).ucode = s.ucode := rfl
@[simp] theorem State.setFld_sinks : (s.setFld F n v).sinks = s.sinks := rfl
@[simp] theorem State.setFld_stages : (s.setFld F n v).stages = s.stages := rfl
@[simp] theorem State.setFld_matrix : (s.setFld F n v).matrix = s.matrix := rfl
@[simp] theorem State.setFld_model : (s.setFld F n v).model = s.model := rfl
@[simp] theorem State.setFld_ledger : (s.setFld F n v).ledger = s.ledger := rfl
@[simp] theorem State.setFld_ledgerCh : (s.setFld F n v).ledgerCh = s.ledgerCh := rfl
@[simp] theorem State.setFld_lswCal : (s.setFld F n v).lswCal = s.lswCal := rfl
@[simp] theorem State.setFld_sinkCal : (s.setFld F n v).sinkCal = s.sinkCal := rfl
@[simp] theorem State.setFld_calCopy : (s.setFld F n v).calCopy = s.calCopy := rfl
@[simp] theorem State.setFld_dieRef : (s.setFld F n v).dieRef = s.dieRef := rfl
@[simp] theorem State.setFld_flags : (s.setFld F n v).flags = s.flags := rfl
@[simp] theorem State.setFld_log : (s.setFld F n v).log = s.log := rfl
@[simp] theorem State.setFld_dump : (s.setFld F n v).dump = s.dump := rfl
@[simp] theorem State.setFld_dumpNext : (s.setFld F n v).dumpNext = s.dumpNext := rfl
@[simp] theorem State.setFld_deferred : (s.setFld F n v).deferred = s.deferred := rfl
@[simp] theorem State.setFld_deferLost : (s.setFld F n v).deferLost = s.deferLost := rfl
@[simp] theorem State.setFld_collectorUp : (s.setFld F n v).collectorUp = s.collectorUp := rfl
@[simp] theorem State.setFld_terminalLatch : (s.setFld F n v).terminalLatch = s.terminalLatch := rfl
@[simp] theorem State.setFld_raiseQ : (s.setFld F n v).raiseQ = s.raiseQ := rfl
@[simp] theorem State.setFld_zoneExit : (s.setFld F n v).zoneExit = s.zoneExit := rfl
@[simp] theorem State.setFld_dom : (s.setFld F n v).dom = s.dom := rfl
@[simp] theorem State.setFld_supA : (s.setFld F n v).supA = s.supA := rfl
@[simp] theorem State.setFld_supB : (s.setFld F n v).supB = s.supB := rfl
@[simp] theorem State.setFld_loadDump : (s.setFld F n v).loadDump = s.loadDump := rfl
@[simp] theorem State.setFld_storeHot : (s.setFld F n v).storeHot = s.storeHot := rfl
@[simp] theorem State.setFld_vlaneBad : (s.setFld F n v).vlaneBad = s.vlaneBad := rfl
@[simp] theorem State.setFld_slowRef : (s.setFld F n v).slowRef = s.slowRef := rfl
@[simp] theorem State.setFld_slowBase : (s.setFld F n v).slowBase = s.slowBase := rfl
@[simp] theorem State.setFld_timers : (s.setFld F n v).timers = s.timers := rfl
@[simp] theorem State.setFld_power : (s.setFld F n v).power = s.power := rfl
@[simp] theorem State.setFld_journal : (s.setFld F n v).journal = s.journal := rfl
@[simp] theorem State.setFld_net : (s.setFld F n v).net = s.net := rfl
@[simp] theorem State.setFld_access : (s.setFld F n v).access = s.access := rfl
@[simp] theorem State.setFld_keys : (s.setFld F n v).keys = s.keys := rfl
@[simp] theorem State.setFld_update : (s.setFld F n v).update = s.update := rfl
@[simp] theorem State.setFld_parked : (s.setFld F n v).parked = s.parked := rfl
@[simp] theorem State.setFld_boot : (s.setFld F n v).boot = s.boot := rfl
@[simp] theorem State.setFld_rstnLow : (s.setFld F n v).rstnLow = s.rstnLow := rfl
@[simp] theorem State.setFld_tap : (s.setFld F n v).tap = s.tap := rfl
@[simp] theorem State.setFld_hwSafe : (s.setFld F n v).hwSafe = s.hwSafe := rfl

end

/-! ### After setBit -/

section
variable (s : State) (F : Field) (n : Nat) (b : Bool)

@[simp] theorem State.setBit_pending : (s.setBit F n b).pending = s.pending := rfl
@[simp] theorem State.setBit_now : (s.setBit F n b).now = s.now := rfl
@[simp] theorem State.setBit_fresh : (s.setBit F n b).fresh = s.fresh := rfl
@[simp] theorem State.setBit_regs : (s.setBit F n b).regs = (s.setFld F n (if b then 1 else 0)).regs := rfl
@[simp] theorem State.setBit_frz : (s.setBit F n b).frz = s.frz := rfl
@[simp] theorem State.setBit_edge : (s.setBit F n b).edge = s.edge := rfl
@[simp] theorem State.setBit_eff : (s.setBit F n b).eff = s.eff := rfl
@[simp] theorem State.setBit_seq : (s.setBit F n b).seq = s.seq := rfl
@[simp] theorem State.setBit_plan : (s.setBit F n b).plan = s.plan := rfl
@[simp] theorem State.setBit_shadow : (s.setBit F n b).shadow = s.shadow := rfl
@[simp] theorem State.setBit_lanes : (s.setBit F n b).lanes = s.lanes := rfl
@[simp] theorem State.setBit_laneEv : (s.setBit F n b).laneEv = s.laneEv := rfl
@[simp] theorem State.setBit_imem : (s.setBit F n b).imem = s.imem := rfl
@[simp] theorem State.setBit_dmem : (s.setBit F n b).dmem = s.dmem := rfl
@[simp] theorem State.setBit_shared : (s.setBit F n b).shared = s.shared := rfl
@[simp] theorem State.setBit_dmemErr : (s.setBit F n b).dmemErr = s.dmemErr := rfl
@[simp] theorem State.setBit_lsw : (s.setBit F n b).lsw = s.lsw := rfl
@[simp] theorem State.setBit_groupAt : (s.setBit F n b).groupAt = s.groupAt := rfl
@[simp] theorem State.setBit_scanAt : (s.setBit F n b).scanAt = s.scanAt := rfl
@[simp] theorem State.setBit_hbr : (s.setBit F n b).hbr = s.hbr := rfl
@[simp] theorem State.setBit_vd : (s.setBit F n b).vd = s.vd := rfl
@[simp] theorem State.setBit_vbank : (s.setBit F n b).vbank = s.vbank := rfl
@[simp] theorem State.setBit_ucode : (s.setBit F n b).ucode = s.ucode := rfl
@[simp] theorem State.setBit_sinks : (s.setBit F n b).sinks = s.sinks := rfl
@[simp] theorem State.setBit_stages : (s.setBit F n b).stages = s.stages := rfl
@[simp] theorem State.setBit_matrix : (s.setBit F n b).matrix = s.matrix := rfl
@[simp] theorem State.setBit_model : (s.setBit F n b).model = s.model := rfl
@[simp] theorem State.setBit_ledger : (s.setBit F n b).ledger = s.ledger := rfl
@[simp] theorem State.setBit_ledgerCh : (s.setBit F n b).ledgerCh = s.ledgerCh := rfl
@[simp] theorem State.setBit_lswCal : (s.setBit F n b).lswCal = s.lswCal := rfl
@[simp] theorem State.setBit_sinkCal : (s.setBit F n b).sinkCal = s.sinkCal := rfl
@[simp] theorem State.setBit_calCopy : (s.setBit F n b).calCopy = s.calCopy := rfl
@[simp] theorem State.setBit_dieRef : (s.setBit F n b).dieRef = s.dieRef := rfl
@[simp] theorem State.setBit_flags : (s.setBit F n b).flags = s.flags := rfl
@[simp] theorem State.setBit_log : (s.setBit F n b).log = s.log := rfl
@[simp] theorem State.setBit_dump : (s.setBit F n b).dump = s.dump := rfl
@[simp] theorem State.setBit_dumpNext : (s.setBit F n b).dumpNext = s.dumpNext := rfl
@[simp] theorem State.setBit_deferred : (s.setBit F n b).deferred = s.deferred := rfl
@[simp] theorem State.setBit_deferLost : (s.setBit F n b).deferLost = s.deferLost := rfl
@[simp] theorem State.setBit_collectorUp : (s.setBit F n b).collectorUp = s.collectorUp := rfl
@[simp] theorem State.setBit_terminalLatch : (s.setBit F n b).terminalLatch = s.terminalLatch := rfl
@[simp] theorem State.setBit_raiseQ : (s.setBit F n b).raiseQ = s.raiseQ := rfl
@[simp] theorem State.setBit_zoneExit : (s.setBit F n b).zoneExit = s.zoneExit := rfl
@[simp] theorem State.setBit_dom : (s.setBit F n b).dom = s.dom := rfl
@[simp] theorem State.setBit_supA : (s.setBit F n b).supA = s.supA := rfl
@[simp] theorem State.setBit_supB : (s.setBit F n b).supB = s.supB := rfl
@[simp] theorem State.setBit_loadDump : (s.setBit F n b).loadDump = s.loadDump := rfl
@[simp] theorem State.setBit_storeHot : (s.setBit F n b).storeHot = s.storeHot := rfl
@[simp] theorem State.setBit_vlaneBad : (s.setBit F n b).vlaneBad = s.vlaneBad := rfl
@[simp] theorem State.setBit_slowRef : (s.setBit F n b).slowRef = s.slowRef := rfl
@[simp] theorem State.setBit_slowBase : (s.setBit F n b).slowBase = s.slowBase := rfl
@[simp] theorem State.setBit_timers : (s.setBit F n b).timers = s.timers := rfl
@[simp] theorem State.setBit_power : (s.setBit F n b).power = s.power := rfl
@[simp] theorem State.setBit_journal : (s.setBit F n b).journal = s.journal := rfl
@[simp] theorem State.setBit_net : (s.setBit F n b).net = s.net := rfl
@[simp] theorem State.setBit_access : (s.setBit F n b).access = s.access := rfl
@[simp] theorem State.setBit_keys : (s.setBit F n b).keys = s.keys := rfl
@[simp] theorem State.setBit_update : (s.setBit F n b).update = s.update := rfl
@[simp] theorem State.setBit_parked : (s.setBit F n b).parked = s.parked := rfl
@[simp] theorem State.setBit_boot : (s.setBit F n b).boot = s.boot := rfl
@[simp] theorem State.setBit_rstnLow : (s.setBit F n b).rstnLow = s.rstnLow := rfl
@[simp] theorem State.setBit_tap : (s.setBit F n b).tap = s.tap := rfl
@[simp] theorem State.setBit_hwSafe : (s.setBit F n b).hwSafe = s.hwSafe := rfl

end

/-! ### After setEffWord -/

section
variable (s : State) (o : Nat) (w : Word32)

@[simp] theorem State.setEffWord_pending : (s.setEffWord o w).pending = s.pending := rfl
@[simp] theorem State.setEffWord_now : (s.setEffWord o w).now = s.now := rfl
@[simp] theorem State.setEffWord_fresh : (s.setEffWord o w).fresh = s.fresh := rfl
@[simp] theorem State.setEffWord_regs : (s.setEffWord o w).regs = s.regs := rfl
@[simp] theorem State.setEffWord_frz : (s.setEffWord o w).frz = s.frz := rfl
@[simp] theorem State.setEffWord_edge : (s.setEffWord o w).edge = s.edge := rfl
@[simp] theorem State.setEffWord_eff : (s.setEffWord o w).eff = smapSet regReset s.eff o w := rfl
@[simp] theorem State.setEffWord_seq : (s.setEffWord o w).seq = s.seq := rfl
@[simp] theorem State.setEffWord_plan : (s.setEffWord o w).plan = s.plan := rfl
@[simp] theorem State.setEffWord_shadow : (s.setEffWord o w).shadow = s.shadow := rfl
@[simp] theorem State.setEffWord_lanes : (s.setEffWord o w).lanes = s.lanes := rfl
@[simp] theorem State.setEffWord_laneEv : (s.setEffWord o w).laneEv = s.laneEv := rfl
@[simp] theorem State.setEffWord_imem : (s.setEffWord o w).imem = s.imem := rfl
@[simp] theorem State.setEffWord_dmem : (s.setEffWord o w).dmem = s.dmem := rfl
@[simp] theorem State.setEffWord_shared : (s.setEffWord o w).shared = s.shared := rfl
@[simp] theorem State.setEffWord_dmemErr : (s.setEffWord o w).dmemErr = s.dmemErr := rfl
@[simp] theorem State.setEffWord_lsw : (s.setEffWord o w).lsw = s.lsw := rfl
@[simp] theorem State.setEffWord_groupAt : (s.setEffWord o w).groupAt = s.groupAt := rfl
@[simp] theorem State.setEffWord_scanAt : (s.setEffWord o w).scanAt = s.scanAt := rfl
@[simp] theorem State.setEffWord_hbr : (s.setEffWord o w).hbr = s.hbr := rfl
@[simp] theorem State.setEffWord_vd : (s.setEffWord o w).vd = s.vd := rfl
@[simp] theorem State.setEffWord_vbank : (s.setEffWord o w).vbank = s.vbank := rfl
@[simp] theorem State.setEffWord_ucode : (s.setEffWord o w).ucode = s.ucode := rfl
@[simp] theorem State.setEffWord_sinks : (s.setEffWord o w).sinks = s.sinks := rfl
@[simp] theorem State.setEffWord_stages : (s.setEffWord o w).stages = s.stages := rfl
@[simp] theorem State.setEffWord_matrix : (s.setEffWord o w).matrix = s.matrix := rfl
@[simp] theorem State.setEffWord_model : (s.setEffWord o w).model = s.model := rfl
@[simp] theorem State.setEffWord_ledger : (s.setEffWord o w).ledger = s.ledger := rfl
@[simp] theorem State.setEffWord_ledgerCh : (s.setEffWord o w).ledgerCh = s.ledgerCh := rfl
@[simp] theorem State.setEffWord_lswCal : (s.setEffWord o w).lswCal = s.lswCal := rfl
@[simp] theorem State.setEffWord_sinkCal : (s.setEffWord o w).sinkCal = s.sinkCal := rfl
@[simp] theorem State.setEffWord_calCopy : (s.setEffWord o w).calCopy = s.calCopy := rfl
@[simp] theorem State.setEffWord_dieRef : (s.setEffWord o w).dieRef = s.dieRef := rfl
@[simp] theorem State.setEffWord_flags : (s.setEffWord o w).flags = s.flags := rfl
@[simp] theorem State.setEffWord_log : (s.setEffWord o w).log = s.log := rfl
@[simp] theorem State.setEffWord_dump : (s.setEffWord o w).dump = s.dump := rfl
@[simp] theorem State.setEffWord_dumpNext : (s.setEffWord o w).dumpNext = s.dumpNext := rfl
@[simp] theorem State.setEffWord_deferred : (s.setEffWord o w).deferred = s.deferred := rfl
@[simp] theorem State.setEffWord_deferLost : (s.setEffWord o w).deferLost = s.deferLost := rfl
@[simp] theorem State.setEffWord_collectorUp : (s.setEffWord o w).collectorUp = s.collectorUp := rfl
@[simp] theorem State.setEffWord_terminalLatch : (s.setEffWord o w).terminalLatch = s.terminalLatch := rfl
@[simp] theorem State.setEffWord_raiseQ : (s.setEffWord o w).raiseQ = s.raiseQ := rfl
@[simp] theorem State.setEffWord_zoneExit : (s.setEffWord o w).zoneExit = s.zoneExit := rfl
@[simp] theorem State.setEffWord_dom : (s.setEffWord o w).dom = s.dom := rfl
@[simp] theorem State.setEffWord_supA : (s.setEffWord o w).supA = s.supA := rfl
@[simp] theorem State.setEffWord_supB : (s.setEffWord o w).supB = s.supB := rfl
@[simp] theorem State.setEffWord_loadDump : (s.setEffWord o w).loadDump = s.loadDump := rfl
@[simp] theorem State.setEffWord_storeHot : (s.setEffWord o w).storeHot = s.storeHot := rfl
@[simp] theorem State.setEffWord_vlaneBad : (s.setEffWord o w).vlaneBad = s.vlaneBad := rfl
@[simp] theorem State.setEffWord_slowRef : (s.setEffWord o w).slowRef = s.slowRef := rfl
@[simp] theorem State.setEffWord_slowBase : (s.setEffWord o w).slowBase = s.slowBase := rfl
@[simp] theorem State.setEffWord_timers : (s.setEffWord o w).timers = s.timers := rfl
@[simp] theorem State.setEffWord_power : (s.setEffWord o w).power = s.power := rfl
@[simp] theorem State.setEffWord_journal : (s.setEffWord o w).journal = s.journal := rfl
@[simp] theorem State.setEffWord_net : (s.setEffWord o w).net = s.net := rfl
@[simp] theorem State.setEffWord_access : (s.setEffWord o w).access = s.access := rfl
@[simp] theorem State.setEffWord_keys : (s.setEffWord o w).keys = s.keys := rfl
@[simp] theorem State.setEffWord_update : (s.setEffWord o w).update = s.update := rfl
@[simp] theorem State.setEffWord_parked : (s.setEffWord o w).parked = s.parked := rfl
@[simp] theorem State.setEffWord_boot : (s.setEffWord o w).boot = s.boot := rfl
@[simp] theorem State.setEffWord_rstnLow : (s.setEffWord o w).rstnLow = s.rstnLow := rfl
@[simp] theorem State.setEffWord_tap : (s.setEffWord o w).tap = s.tap := rfl
@[simp] theorem State.setEffWord_hwSafe : (s.setEffWord o w).hwSafe = s.hwSafe := rfl

end

/-! ### After setEff -/

section
variable (s : State) (F : Field) (n v : Nat)

@[simp] theorem State.setEff_pending : (s.setEff F n v).pending = s.pending := rfl
@[simp] theorem State.setEff_now : (s.setEff F n v).now = s.now := rfl
@[simp] theorem State.setEff_fresh : (s.setEff F n v).fresh = s.fresh := rfl
@[simp] theorem State.setEff_regs : (s.setEff F n v).regs = s.regs := rfl
@[simp] theorem State.setEff_frz : (s.setEff F n v).frz = s.frz := rfl
@[simp] theorem State.setEff_edge : (s.setEff F n v).edge = s.edge := rfl
@[simp] theorem State.setEff_eff : (s.setEff F n v).eff =
    smapSet regReset s.eff (F.off n) (putBits (s.effWord (F.off n)) F.lo F.len v) := rfl
@[simp] theorem State.setEff_seq : (s.setEff F n v).seq = s.seq := rfl
@[simp] theorem State.setEff_plan : (s.setEff F n v).plan = s.plan := rfl
@[simp] theorem State.setEff_shadow : (s.setEff F n v).shadow = s.shadow := rfl
@[simp] theorem State.setEff_lanes : (s.setEff F n v).lanes = s.lanes := rfl
@[simp] theorem State.setEff_laneEv : (s.setEff F n v).laneEv = s.laneEv := rfl
@[simp] theorem State.setEff_imem : (s.setEff F n v).imem = s.imem := rfl
@[simp] theorem State.setEff_dmem : (s.setEff F n v).dmem = s.dmem := rfl
@[simp] theorem State.setEff_shared : (s.setEff F n v).shared = s.shared := rfl
@[simp] theorem State.setEff_dmemErr : (s.setEff F n v).dmemErr = s.dmemErr := rfl
@[simp] theorem State.setEff_lsw : (s.setEff F n v).lsw = s.lsw := rfl
@[simp] theorem State.setEff_groupAt : (s.setEff F n v).groupAt = s.groupAt := rfl
@[simp] theorem State.setEff_scanAt : (s.setEff F n v).scanAt = s.scanAt := rfl
@[simp] theorem State.setEff_hbr : (s.setEff F n v).hbr = s.hbr := rfl
@[simp] theorem State.setEff_vd : (s.setEff F n v).vd = s.vd := rfl
@[simp] theorem State.setEff_vbank : (s.setEff F n v).vbank = s.vbank := rfl
@[simp] theorem State.setEff_ucode : (s.setEff F n v).ucode = s.ucode := rfl
@[simp] theorem State.setEff_sinks : (s.setEff F n v).sinks = s.sinks := rfl
@[simp] theorem State.setEff_stages : (s.setEff F n v).stages = s.stages := rfl
@[simp] theorem State.setEff_matrix : (s.setEff F n v).matrix = s.matrix := rfl
@[simp] theorem State.setEff_model : (s.setEff F n v).model = s.model := rfl
@[simp] theorem State.setEff_ledger : (s.setEff F n v).ledger = s.ledger := rfl
@[simp] theorem State.setEff_ledgerCh : (s.setEff F n v).ledgerCh = s.ledgerCh := rfl
@[simp] theorem State.setEff_lswCal : (s.setEff F n v).lswCal = s.lswCal := rfl
@[simp] theorem State.setEff_sinkCal : (s.setEff F n v).sinkCal = s.sinkCal := rfl
@[simp] theorem State.setEff_calCopy : (s.setEff F n v).calCopy = s.calCopy := rfl
@[simp] theorem State.setEff_dieRef : (s.setEff F n v).dieRef = s.dieRef := rfl
@[simp] theorem State.setEff_flags : (s.setEff F n v).flags = s.flags := rfl
@[simp] theorem State.setEff_log : (s.setEff F n v).log = s.log := rfl
@[simp] theorem State.setEff_dump : (s.setEff F n v).dump = s.dump := rfl
@[simp] theorem State.setEff_dumpNext : (s.setEff F n v).dumpNext = s.dumpNext := rfl
@[simp] theorem State.setEff_deferred : (s.setEff F n v).deferred = s.deferred := rfl
@[simp] theorem State.setEff_deferLost : (s.setEff F n v).deferLost = s.deferLost := rfl
@[simp] theorem State.setEff_collectorUp : (s.setEff F n v).collectorUp = s.collectorUp := rfl
@[simp] theorem State.setEff_terminalLatch : (s.setEff F n v).terminalLatch = s.terminalLatch := rfl
@[simp] theorem State.setEff_raiseQ : (s.setEff F n v).raiseQ = s.raiseQ := rfl
@[simp] theorem State.setEff_zoneExit : (s.setEff F n v).zoneExit = s.zoneExit := rfl
@[simp] theorem State.setEff_dom : (s.setEff F n v).dom = s.dom := rfl
@[simp] theorem State.setEff_supA : (s.setEff F n v).supA = s.supA := rfl
@[simp] theorem State.setEff_supB : (s.setEff F n v).supB = s.supB := rfl
@[simp] theorem State.setEff_loadDump : (s.setEff F n v).loadDump = s.loadDump := rfl
@[simp] theorem State.setEff_storeHot : (s.setEff F n v).storeHot = s.storeHot := rfl
@[simp] theorem State.setEff_vlaneBad : (s.setEff F n v).vlaneBad = s.vlaneBad := rfl
@[simp] theorem State.setEff_slowRef : (s.setEff F n v).slowRef = s.slowRef := rfl
@[simp] theorem State.setEff_slowBase : (s.setEff F n v).slowBase = s.slowBase := rfl
@[simp] theorem State.setEff_timers : (s.setEff F n v).timers = s.timers := rfl
@[simp] theorem State.setEff_power : (s.setEff F n v).power = s.power := rfl
@[simp] theorem State.setEff_journal : (s.setEff F n v).journal = s.journal := rfl
@[simp] theorem State.setEff_net : (s.setEff F n v).net = s.net := rfl
@[simp] theorem State.setEff_access : (s.setEff F n v).access = s.access := rfl
@[simp] theorem State.setEff_keys : (s.setEff F n v).keys = s.keys := rfl
@[simp] theorem State.setEff_update : (s.setEff F n v).update = s.update := rfl
@[simp] theorem State.setEff_parked : (s.setEff F n v).parked = s.parked := rfl
@[simp] theorem State.setEff_boot : (s.setEff F n v).boot = s.boot := rfl
@[simp] theorem State.setEff_rstnLow : (s.setEff F n v).rstnLow = s.rstnLow := rfl
@[simp] theorem State.setEff_tap : (s.setEff F n v).tap = s.tap := rfl
@[simp] theorem State.setEff_hwSafe : (s.setEff F n v).hwSafe = s.hwSafe := rfl

end

/-! ### After setLane -/

section
variable (s : State) (n : Nat) (c : Lane)

@[simp] theorem State.setLane_pending : (s.setLane n c).pending = s.pending := rfl
@[simp] theorem State.setLane_now : (s.setLane n c).now = s.now := rfl
@[simp] theorem State.setLane_fresh : (s.setLane n c).fresh = s.fresh := rfl
@[simp] theorem State.setLane_regs : (s.setLane n c).regs = s.regs := rfl
@[simp] theorem State.setLane_frz : (s.setLane n c).frz = s.frz := rfl
@[simp] theorem State.setLane_edge : (s.setLane n c).edge = s.edge := rfl
@[simp] theorem State.setLane_eff : (s.setLane n c).eff = s.eff := rfl
@[simp] theorem State.setLane_seq : (s.setLane n c).seq = s.seq := rfl
@[simp] theorem State.setLane_plan : (s.setLane n c).plan = s.plan := rfl
@[simp] theorem State.setLane_shadow : (s.setLane n c).shadow = s.shadow := rfl
@[simp] theorem State.setLane_lanes : (s.setLane n c).lanes = smapSet Lane.init s.lanes n c := rfl
@[simp] theorem State.setLane_laneEv : (s.setLane n c).laneEv = s.laneEv := rfl
@[simp] theorem State.setLane_imem : (s.setLane n c).imem = s.imem := rfl
@[simp] theorem State.setLane_dmem : (s.setLane n c).dmem = s.dmem := rfl
@[simp] theorem State.setLane_shared : (s.setLane n c).shared = s.shared := rfl
@[simp] theorem State.setLane_dmemErr : (s.setLane n c).dmemErr = s.dmemErr := rfl
@[simp] theorem State.setLane_lsw : (s.setLane n c).lsw = s.lsw := rfl
@[simp] theorem State.setLane_groupAt : (s.setLane n c).groupAt = s.groupAt := rfl
@[simp] theorem State.setLane_scanAt : (s.setLane n c).scanAt = s.scanAt := rfl
@[simp] theorem State.setLane_hbr : (s.setLane n c).hbr = s.hbr := rfl
@[simp] theorem State.setLane_vd : (s.setLane n c).vd = s.vd := rfl
@[simp] theorem State.setLane_vbank : (s.setLane n c).vbank = s.vbank := rfl
@[simp] theorem State.setLane_ucode : (s.setLane n c).ucode = s.ucode := rfl
@[simp] theorem State.setLane_sinks : (s.setLane n c).sinks = s.sinks := rfl
@[simp] theorem State.setLane_stages : (s.setLane n c).stages = s.stages := rfl
@[simp] theorem State.setLane_matrix : (s.setLane n c).matrix = s.matrix := rfl
@[simp] theorem State.setLane_model : (s.setLane n c).model = s.model := rfl
@[simp] theorem State.setLane_ledger : (s.setLane n c).ledger = s.ledger := rfl
@[simp] theorem State.setLane_ledgerCh : (s.setLane n c).ledgerCh = s.ledgerCh := rfl
@[simp] theorem State.setLane_lswCal : (s.setLane n c).lswCal = s.lswCal := rfl
@[simp] theorem State.setLane_sinkCal : (s.setLane n c).sinkCal = s.sinkCal := rfl
@[simp] theorem State.setLane_calCopy : (s.setLane n c).calCopy = s.calCopy := rfl
@[simp] theorem State.setLane_dieRef : (s.setLane n c).dieRef = s.dieRef := rfl
@[simp] theorem State.setLane_flags : (s.setLane n c).flags = s.flags := rfl
@[simp] theorem State.setLane_log : (s.setLane n c).log = s.log := rfl
@[simp] theorem State.setLane_dump : (s.setLane n c).dump = s.dump := rfl
@[simp] theorem State.setLane_dumpNext : (s.setLane n c).dumpNext = s.dumpNext := rfl
@[simp] theorem State.setLane_deferred : (s.setLane n c).deferred = s.deferred := rfl
@[simp] theorem State.setLane_deferLost : (s.setLane n c).deferLost = s.deferLost := rfl
@[simp] theorem State.setLane_collectorUp : (s.setLane n c).collectorUp = s.collectorUp := rfl
@[simp] theorem State.setLane_terminalLatch : (s.setLane n c).terminalLatch = s.terminalLatch := rfl
@[simp] theorem State.setLane_raiseQ : (s.setLane n c).raiseQ = s.raiseQ := rfl
@[simp] theorem State.setLane_zoneExit : (s.setLane n c).zoneExit = s.zoneExit := rfl
@[simp] theorem State.setLane_dom : (s.setLane n c).dom = s.dom := rfl
@[simp] theorem State.setLane_supA : (s.setLane n c).supA = s.supA := rfl
@[simp] theorem State.setLane_supB : (s.setLane n c).supB = s.supB := rfl
@[simp] theorem State.setLane_loadDump : (s.setLane n c).loadDump = s.loadDump := rfl
@[simp] theorem State.setLane_storeHot : (s.setLane n c).storeHot = s.storeHot := rfl
@[simp] theorem State.setLane_vlaneBad : (s.setLane n c).vlaneBad = s.vlaneBad := rfl
@[simp] theorem State.setLane_slowRef : (s.setLane n c).slowRef = s.slowRef := rfl
@[simp] theorem State.setLane_slowBase : (s.setLane n c).slowBase = s.slowBase := rfl
@[simp] theorem State.setLane_timers : (s.setLane n c).timers = s.timers := rfl
@[simp] theorem State.setLane_power : (s.setLane n c).power = s.power := rfl
@[simp] theorem State.setLane_journal : (s.setLane n c).journal = s.journal := rfl
@[simp] theorem State.setLane_net : (s.setLane n c).net = s.net := rfl
@[simp] theorem State.setLane_access : (s.setLane n c).access = s.access := rfl
@[simp] theorem State.setLane_keys : (s.setLane n c).keys = s.keys := rfl
@[simp] theorem State.setLane_update : (s.setLane n c).update = s.update := rfl
@[simp] theorem State.setLane_parked : (s.setLane n c).parked = s.parked := rfl
@[simp] theorem State.setLane_boot : (s.setLane n c).boot = s.boot := rfl
@[simp] theorem State.setLane_rstnLow : (s.setLane n c).rstnLow = s.rstnLow := rfl
@[simp] theorem State.setLane_tap : (s.setLane n c).tap = s.tap := rfl
@[simp] theorem State.setLane_hwSafe : (s.setLane n c).hwSafe = s.hwSafe := rfl

end

/-! ### After setLsw -/

section
variable (s : State) (n : Nat) (c : LswCh)

@[simp] theorem State.setLsw_pending : (s.setLsw n c).pending = s.pending := rfl
@[simp] theorem State.setLsw_now : (s.setLsw n c).now = s.now := rfl
@[simp] theorem State.setLsw_fresh : (s.setLsw n c).fresh = s.fresh := rfl
@[simp] theorem State.setLsw_regs : (s.setLsw n c).regs = s.regs := rfl
@[simp] theorem State.setLsw_frz : (s.setLsw n c).frz = s.frz := rfl
@[simp] theorem State.setLsw_edge : (s.setLsw n c).edge = s.edge := rfl
@[simp] theorem State.setLsw_eff : (s.setLsw n c).eff = s.eff := rfl
@[simp] theorem State.setLsw_seq : (s.setLsw n c).seq = s.seq := rfl
@[simp] theorem State.setLsw_plan : (s.setLsw n c).plan = s.plan := rfl
@[simp] theorem State.setLsw_shadow : (s.setLsw n c).shadow = s.shadow := rfl
@[simp] theorem State.setLsw_lanes : (s.setLsw n c).lanes = s.lanes := rfl
@[simp] theorem State.setLsw_laneEv : (s.setLsw n c).laneEv = s.laneEv := rfl
@[simp] theorem State.setLsw_imem : (s.setLsw n c).imem = s.imem := rfl
@[simp] theorem State.setLsw_dmem : (s.setLsw n c).dmem = s.dmem := rfl
@[simp] theorem State.setLsw_shared : (s.setLsw n c).shared = s.shared := rfl
@[simp] theorem State.setLsw_dmemErr : (s.setLsw n c).dmemErr = s.dmemErr := rfl
@[simp] theorem State.setLsw_lsw : (s.setLsw n c).lsw = smapSet (fun _ => LswCh.init) s.lsw n c := rfl
@[simp] theorem State.setLsw_groupAt : (s.setLsw n c).groupAt = s.groupAt := rfl
@[simp] theorem State.setLsw_scanAt : (s.setLsw n c).scanAt = s.scanAt := rfl
@[simp] theorem State.setLsw_hbr : (s.setLsw n c).hbr = s.hbr := rfl
@[simp] theorem State.setLsw_vd : (s.setLsw n c).vd = s.vd := rfl
@[simp] theorem State.setLsw_vbank : (s.setLsw n c).vbank = s.vbank := rfl
@[simp] theorem State.setLsw_ucode : (s.setLsw n c).ucode = s.ucode := rfl
@[simp] theorem State.setLsw_sinks : (s.setLsw n c).sinks = s.sinks := rfl
@[simp] theorem State.setLsw_stages : (s.setLsw n c).stages = s.stages := rfl
@[simp] theorem State.setLsw_matrix : (s.setLsw n c).matrix = s.matrix := rfl
@[simp] theorem State.setLsw_model : (s.setLsw n c).model = s.model := rfl
@[simp] theorem State.setLsw_ledger : (s.setLsw n c).ledger = s.ledger := rfl
@[simp] theorem State.setLsw_ledgerCh : (s.setLsw n c).ledgerCh = s.ledgerCh := rfl
@[simp] theorem State.setLsw_lswCal : (s.setLsw n c).lswCal = s.lswCal := rfl
@[simp] theorem State.setLsw_sinkCal : (s.setLsw n c).sinkCal = s.sinkCal := rfl
@[simp] theorem State.setLsw_calCopy : (s.setLsw n c).calCopy = s.calCopy := rfl
@[simp] theorem State.setLsw_dieRef : (s.setLsw n c).dieRef = s.dieRef := rfl
@[simp] theorem State.setLsw_flags : (s.setLsw n c).flags = s.flags := rfl
@[simp] theorem State.setLsw_log : (s.setLsw n c).log = s.log := rfl
@[simp] theorem State.setLsw_dump : (s.setLsw n c).dump = s.dump := rfl
@[simp] theorem State.setLsw_dumpNext : (s.setLsw n c).dumpNext = s.dumpNext := rfl
@[simp] theorem State.setLsw_deferred : (s.setLsw n c).deferred = s.deferred := rfl
@[simp] theorem State.setLsw_deferLost : (s.setLsw n c).deferLost = s.deferLost := rfl
@[simp] theorem State.setLsw_collectorUp : (s.setLsw n c).collectorUp = s.collectorUp := rfl
@[simp] theorem State.setLsw_terminalLatch : (s.setLsw n c).terminalLatch = s.terminalLatch := rfl
@[simp] theorem State.setLsw_raiseQ : (s.setLsw n c).raiseQ = s.raiseQ := rfl
@[simp] theorem State.setLsw_zoneExit : (s.setLsw n c).zoneExit = s.zoneExit := rfl
@[simp] theorem State.setLsw_dom : (s.setLsw n c).dom = s.dom := rfl
@[simp] theorem State.setLsw_supA : (s.setLsw n c).supA = s.supA := rfl
@[simp] theorem State.setLsw_supB : (s.setLsw n c).supB = s.supB := rfl
@[simp] theorem State.setLsw_loadDump : (s.setLsw n c).loadDump = s.loadDump := rfl
@[simp] theorem State.setLsw_storeHot : (s.setLsw n c).storeHot = s.storeHot := rfl
@[simp] theorem State.setLsw_vlaneBad : (s.setLsw n c).vlaneBad = s.vlaneBad := rfl
@[simp] theorem State.setLsw_slowRef : (s.setLsw n c).slowRef = s.slowRef := rfl
@[simp] theorem State.setLsw_slowBase : (s.setLsw n c).slowBase = s.slowBase := rfl
@[simp] theorem State.setLsw_timers : (s.setLsw n c).timers = s.timers := rfl
@[simp] theorem State.setLsw_power : (s.setLsw n c).power = s.power := rfl
@[simp] theorem State.setLsw_journal : (s.setLsw n c).journal = s.journal := rfl
@[simp] theorem State.setLsw_net : (s.setLsw n c).net = s.net := rfl
@[simp] theorem State.setLsw_access : (s.setLsw n c).access = s.access := rfl
@[simp] theorem State.setLsw_keys : (s.setLsw n c).keys = s.keys := rfl
@[simp] theorem State.setLsw_update : (s.setLsw n c).update = s.update := rfl
@[simp] theorem State.setLsw_parked : (s.setLsw n c).parked = s.parked := rfl
@[simp] theorem State.setLsw_boot : (s.setLsw n c).boot = s.boot := rfl
@[simp] theorem State.setLsw_rstnLow : (s.setLsw n c).rstnLow = s.rstnLow := rfl
@[simp] theorem State.setLsw_tap : (s.setLsw n c).tap = s.tap := rfl
@[simp] theorem State.setLsw_hwSafe : (s.setLsw n c).hwSafe = s.hwSafe := rfl

end

/-! ### After setHb -/

section
variable (s : State) (n : Nat) (c : HbCh)

@[simp] theorem State.setHb_pending : (s.setHb n c).pending = s.pending := rfl
@[simp] theorem State.setHb_now : (s.setHb n c).now = s.now := rfl
@[simp] theorem State.setHb_fresh : (s.setHb n c).fresh = s.fresh := rfl
@[simp] theorem State.setHb_regs : (s.setHb n c).regs = s.regs := rfl
@[simp] theorem State.setHb_frz : (s.setHb n c).frz = s.frz := rfl
@[simp] theorem State.setHb_edge : (s.setHb n c).edge = s.edge := rfl
@[simp] theorem State.setHb_eff : (s.setHb n c).eff = s.eff := rfl
@[simp] theorem State.setHb_seq : (s.setHb n c).seq = s.seq := rfl
@[simp] theorem State.setHb_plan : (s.setHb n c).plan = s.plan := rfl
@[simp] theorem State.setHb_shadow : (s.setHb n c).shadow = s.shadow := rfl
@[simp] theorem State.setHb_lanes : (s.setHb n c).lanes = s.lanes := rfl
@[simp] theorem State.setHb_laneEv : (s.setHb n c).laneEv = s.laneEv := rfl
@[simp] theorem State.setHb_imem : (s.setHb n c).imem = s.imem := rfl
@[simp] theorem State.setHb_dmem : (s.setHb n c).dmem = s.dmem := rfl
@[simp] theorem State.setHb_shared : (s.setHb n c).shared = s.shared := rfl
@[simp] theorem State.setHb_dmemErr : (s.setHb n c).dmemErr = s.dmemErr := rfl
@[simp] theorem State.setHb_lsw : (s.setHb n c).lsw = s.lsw := rfl
@[simp] theorem State.setHb_groupAt : (s.setHb n c).groupAt = s.groupAt := rfl
@[simp] theorem State.setHb_scanAt : (s.setHb n c).scanAt = s.scanAt := rfl
@[simp] theorem State.setHb_hbr : (s.setHb n c).hbr = smapSet (fun _ => HbCh.init) s.hbr n c := rfl
@[simp] theorem State.setHb_vd : (s.setHb n c).vd = s.vd := rfl
@[simp] theorem State.setHb_vbank : (s.setHb n c).vbank = s.vbank := rfl
@[simp] theorem State.setHb_ucode : (s.setHb n c).ucode = s.ucode := rfl
@[simp] theorem State.setHb_sinks : (s.setHb n c).sinks = s.sinks := rfl
@[simp] theorem State.setHb_stages : (s.setHb n c).stages = s.stages := rfl
@[simp] theorem State.setHb_matrix : (s.setHb n c).matrix = s.matrix := rfl
@[simp] theorem State.setHb_model : (s.setHb n c).model = s.model := rfl
@[simp] theorem State.setHb_ledger : (s.setHb n c).ledger = s.ledger := rfl
@[simp] theorem State.setHb_ledgerCh : (s.setHb n c).ledgerCh = s.ledgerCh := rfl
@[simp] theorem State.setHb_lswCal : (s.setHb n c).lswCal = s.lswCal := rfl
@[simp] theorem State.setHb_sinkCal : (s.setHb n c).sinkCal = s.sinkCal := rfl
@[simp] theorem State.setHb_calCopy : (s.setHb n c).calCopy = s.calCopy := rfl
@[simp] theorem State.setHb_dieRef : (s.setHb n c).dieRef = s.dieRef := rfl
@[simp] theorem State.setHb_flags : (s.setHb n c).flags = s.flags := rfl
@[simp] theorem State.setHb_log : (s.setHb n c).log = s.log := rfl
@[simp] theorem State.setHb_dump : (s.setHb n c).dump = s.dump := rfl
@[simp] theorem State.setHb_dumpNext : (s.setHb n c).dumpNext = s.dumpNext := rfl
@[simp] theorem State.setHb_deferred : (s.setHb n c).deferred = s.deferred := rfl
@[simp] theorem State.setHb_deferLost : (s.setHb n c).deferLost = s.deferLost := rfl
@[simp] theorem State.setHb_collectorUp : (s.setHb n c).collectorUp = s.collectorUp := rfl
@[simp] theorem State.setHb_terminalLatch : (s.setHb n c).terminalLatch = s.terminalLatch := rfl
@[simp] theorem State.setHb_raiseQ : (s.setHb n c).raiseQ = s.raiseQ := rfl
@[simp] theorem State.setHb_zoneExit : (s.setHb n c).zoneExit = s.zoneExit := rfl
@[simp] theorem State.setHb_dom : (s.setHb n c).dom = s.dom := rfl
@[simp] theorem State.setHb_supA : (s.setHb n c).supA = s.supA := rfl
@[simp] theorem State.setHb_supB : (s.setHb n c).supB = s.supB := rfl
@[simp] theorem State.setHb_loadDump : (s.setHb n c).loadDump = s.loadDump := rfl
@[simp] theorem State.setHb_storeHot : (s.setHb n c).storeHot = s.storeHot := rfl
@[simp] theorem State.setHb_vlaneBad : (s.setHb n c).vlaneBad = s.vlaneBad := rfl
@[simp] theorem State.setHb_slowRef : (s.setHb n c).slowRef = s.slowRef := rfl
@[simp] theorem State.setHb_slowBase : (s.setHb n c).slowBase = s.slowBase := rfl
@[simp] theorem State.setHb_timers : (s.setHb n c).timers = s.timers := rfl
@[simp] theorem State.setHb_power : (s.setHb n c).power = s.power := rfl
@[simp] theorem State.setHb_journal : (s.setHb n c).journal = s.journal := rfl
@[simp] theorem State.setHb_net : (s.setHb n c).net = s.net := rfl
@[simp] theorem State.setHb_access : (s.setHb n c).access = s.access := rfl
@[simp] theorem State.setHb_keys : (s.setHb n c).keys = s.keys := rfl
@[simp] theorem State.setHb_update : (s.setHb n c).update = s.update := rfl
@[simp] theorem State.setHb_parked : (s.setHb n c).parked = s.parked := rfl
@[simp] theorem State.setHb_boot : (s.setHb n c).boot = s.boot := rfl
@[simp] theorem State.setHb_rstnLow : (s.setHb n c).rstnLow = s.rstnLow := rfl
@[simp] theorem State.setHb_tap : (s.setHb n c).tap = s.tap := rfl
@[simp] theorem State.setHb_hwSafe : (s.setHb n c).hwSafe = s.hwSafe := rfl

end

/-! ### After setVd -/

section
variable (s : State) (n : Nat) (c : VdCh)

@[simp] theorem State.setVd_pending : (s.setVd n c).pending = s.pending := rfl
@[simp] theorem State.setVd_now : (s.setVd n c).now = s.now := rfl
@[simp] theorem State.setVd_fresh : (s.setVd n c).fresh = s.fresh := rfl
@[simp] theorem State.setVd_regs : (s.setVd n c).regs = s.regs := rfl
@[simp] theorem State.setVd_frz : (s.setVd n c).frz = s.frz := rfl
@[simp] theorem State.setVd_edge : (s.setVd n c).edge = s.edge := rfl
@[simp] theorem State.setVd_eff : (s.setVd n c).eff = s.eff := rfl
@[simp] theorem State.setVd_seq : (s.setVd n c).seq = s.seq := rfl
@[simp] theorem State.setVd_plan : (s.setVd n c).plan = s.plan := rfl
@[simp] theorem State.setVd_shadow : (s.setVd n c).shadow = s.shadow := rfl
@[simp] theorem State.setVd_lanes : (s.setVd n c).lanes = s.lanes := rfl
@[simp] theorem State.setVd_laneEv : (s.setVd n c).laneEv = s.laneEv := rfl
@[simp] theorem State.setVd_imem : (s.setVd n c).imem = s.imem := rfl
@[simp] theorem State.setVd_dmem : (s.setVd n c).dmem = s.dmem := rfl
@[simp] theorem State.setVd_shared : (s.setVd n c).shared = s.shared := rfl
@[simp] theorem State.setVd_dmemErr : (s.setVd n c).dmemErr = s.dmemErr := rfl
@[simp] theorem State.setVd_lsw : (s.setVd n c).lsw = s.lsw := rfl
@[simp] theorem State.setVd_groupAt : (s.setVd n c).groupAt = s.groupAt := rfl
@[simp] theorem State.setVd_scanAt : (s.setVd n c).scanAt = s.scanAt := rfl
@[simp] theorem State.setVd_hbr : (s.setVd n c).hbr = s.hbr := rfl
@[simp] theorem State.setVd_vd : (s.setVd n c).vd = smapSet (fun _ => VdCh.init) s.vd n c := rfl
@[simp] theorem State.setVd_vbank : (s.setVd n c).vbank = s.vbank := rfl
@[simp] theorem State.setVd_ucode : (s.setVd n c).ucode = s.ucode := rfl
@[simp] theorem State.setVd_sinks : (s.setVd n c).sinks = s.sinks := rfl
@[simp] theorem State.setVd_stages : (s.setVd n c).stages = s.stages := rfl
@[simp] theorem State.setVd_matrix : (s.setVd n c).matrix = s.matrix := rfl
@[simp] theorem State.setVd_model : (s.setVd n c).model = s.model := rfl
@[simp] theorem State.setVd_ledger : (s.setVd n c).ledger = s.ledger := rfl
@[simp] theorem State.setVd_ledgerCh : (s.setVd n c).ledgerCh = s.ledgerCh := rfl
@[simp] theorem State.setVd_lswCal : (s.setVd n c).lswCal = s.lswCal := rfl
@[simp] theorem State.setVd_sinkCal : (s.setVd n c).sinkCal = s.sinkCal := rfl
@[simp] theorem State.setVd_calCopy : (s.setVd n c).calCopy = s.calCopy := rfl
@[simp] theorem State.setVd_dieRef : (s.setVd n c).dieRef = s.dieRef := rfl
@[simp] theorem State.setVd_flags : (s.setVd n c).flags = s.flags := rfl
@[simp] theorem State.setVd_log : (s.setVd n c).log = s.log := rfl
@[simp] theorem State.setVd_dump : (s.setVd n c).dump = s.dump := rfl
@[simp] theorem State.setVd_dumpNext : (s.setVd n c).dumpNext = s.dumpNext := rfl
@[simp] theorem State.setVd_deferred : (s.setVd n c).deferred = s.deferred := rfl
@[simp] theorem State.setVd_deferLost : (s.setVd n c).deferLost = s.deferLost := rfl
@[simp] theorem State.setVd_collectorUp : (s.setVd n c).collectorUp = s.collectorUp := rfl
@[simp] theorem State.setVd_terminalLatch : (s.setVd n c).terminalLatch = s.terminalLatch := rfl
@[simp] theorem State.setVd_raiseQ : (s.setVd n c).raiseQ = s.raiseQ := rfl
@[simp] theorem State.setVd_zoneExit : (s.setVd n c).zoneExit = s.zoneExit := rfl
@[simp] theorem State.setVd_dom : (s.setVd n c).dom = s.dom := rfl
@[simp] theorem State.setVd_supA : (s.setVd n c).supA = s.supA := rfl
@[simp] theorem State.setVd_supB : (s.setVd n c).supB = s.supB := rfl
@[simp] theorem State.setVd_loadDump : (s.setVd n c).loadDump = s.loadDump := rfl
@[simp] theorem State.setVd_storeHot : (s.setVd n c).storeHot = s.storeHot := rfl
@[simp] theorem State.setVd_vlaneBad : (s.setVd n c).vlaneBad = s.vlaneBad := rfl
@[simp] theorem State.setVd_slowRef : (s.setVd n c).slowRef = s.slowRef := rfl
@[simp] theorem State.setVd_slowBase : (s.setVd n c).slowBase = s.slowBase := rfl
@[simp] theorem State.setVd_timers : (s.setVd n c).timers = s.timers := rfl
@[simp] theorem State.setVd_power : (s.setVd n c).power = s.power := rfl
@[simp] theorem State.setVd_journal : (s.setVd n c).journal = s.journal := rfl
@[simp] theorem State.setVd_net : (s.setVd n c).net = s.net := rfl
@[simp] theorem State.setVd_access : (s.setVd n c).access = s.access := rfl
@[simp] theorem State.setVd_keys : (s.setVd n c).keys = s.keys := rfl
@[simp] theorem State.setVd_update : (s.setVd n c).update = s.update := rfl
@[simp] theorem State.setVd_parked : (s.setVd n c).parked = s.parked := rfl
@[simp] theorem State.setVd_boot : (s.setVd n c).boot = s.boot := rfl
@[simp] theorem State.setVd_rstnLow : (s.setVd n c).rstnLow = s.rstnLow := rfl
@[simp] theorem State.setVd_tap : (s.setVd n c).tap = s.tap := rfl
@[simp] theorem State.setVd_hwSafe : (s.setVd n c).hwSafe = s.hwSafe := rfl

end

/-! ### After setBank -/

section
variable (s : State) (n : Nat) (c : VBank)

@[simp] theorem State.setBank_pending : (s.setBank n c).pending = s.pending := rfl
@[simp] theorem State.setBank_now : (s.setBank n c).now = s.now := rfl
@[simp] theorem State.setBank_fresh : (s.setBank n c).fresh = s.fresh := rfl
@[simp] theorem State.setBank_regs : (s.setBank n c).regs = s.regs := rfl
@[simp] theorem State.setBank_frz : (s.setBank n c).frz = s.frz := rfl
@[simp] theorem State.setBank_edge : (s.setBank n c).edge = s.edge := rfl
@[simp] theorem State.setBank_eff : (s.setBank n c).eff = s.eff := rfl
@[simp] theorem State.setBank_seq : (s.setBank n c).seq = s.seq := rfl
@[simp] theorem State.setBank_plan : (s.setBank n c).plan = s.plan := rfl
@[simp] theorem State.setBank_shadow : (s.setBank n c).shadow = s.shadow := rfl
@[simp] theorem State.setBank_lanes : (s.setBank n c).lanes = s.lanes := rfl
@[simp] theorem State.setBank_laneEv : (s.setBank n c).laneEv = s.laneEv := rfl
@[simp] theorem State.setBank_imem : (s.setBank n c).imem = s.imem := rfl
@[simp] theorem State.setBank_dmem : (s.setBank n c).dmem = s.dmem := rfl
@[simp] theorem State.setBank_shared : (s.setBank n c).shared = s.shared := rfl
@[simp] theorem State.setBank_dmemErr : (s.setBank n c).dmemErr = s.dmemErr := rfl
@[simp] theorem State.setBank_lsw : (s.setBank n c).lsw = s.lsw := rfl
@[simp] theorem State.setBank_groupAt : (s.setBank n c).groupAt = s.groupAt := rfl
@[simp] theorem State.setBank_scanAt : (s.setBank n c).scanAt = s.scanAt := rfl
@[simp] theorem State.setBank_hbr : (s.setBank n c).hbr = s.hbr := rfl
@[simp] theorem State.setBank_vd : (s.setBank n c).vd = s.vd := rfl
@[simp] theorem State.setBank_vbank : (s.setBank n c).vbank = smapSet (fun _ => VBank.init) s.vbank n c := rfl
@[simp] theorem State.setBank_ucode : (s.setBank n c).ucode = s.ucode := rfl
@[simp] theorem State.setBank_sinks : (s.setBank n c).sinks = s.sinks := rfl
@[simp] theorem State.setBank_stages : (s.setBank n c).stages = s.stages := rfl
@[simp] theorem State.setBank_matrix : (s.setBank n c).matrix = s.matrix := rfl
@[simp] theorem State.setBank_model : (s.setBank n c).model = s.model := rfl
@[simp] theorem State.setBank_ledger : (s.setBank n c).ledger = s.ledger := rfl
@[simp] theorem State.setBank_ledgerCh : (s.setBank n c).ledgerCh = s.ledgerCh := rfl
@[simp] theorem State.setBank_lswCal : (s.setBank n c).lswCal = s.lswCal := rfl
@[simp] theorem State.setBank_sinkCal : (s.setBank n c).sinkCal = s.sinkCal := rfl
@[simp] theorem State.setBank_calCopy : (s.setBank n c).calCopy = s.calCopy := rfl
@[simp] theorem State.setBank_dieRef : (s.setBank n c).dieRef = s.dieRef := rfl
@[simp] theorem State.setBank_flags : (s.setBank n c).flags = s.flags := rfl
@[simp] theorem State.setBank_log : (s.setBank n c).log = s.log := rfl
@[simp] theorem State.setBank_dump : (s.setBank n c).dump = s.dump := rfl
@[simp] theorem State.setBank_dumpNext : (s.setBank n c).dumpNext = s.dumpNext := rfl
@[simp] theorem State.setBank_deferred : (s.setBank n c).deferred = s.deferred := rfl
@[simp] theorem State.setBank_deferLost : (s.setBank n c).deferLost = s.deferLost := rfl
@[simp] theorem State.setBank_collectorUp : (s.setBank n c).collectorUp = s.collectorUp := rfl
@[simp] theorem State.setBank_terminalLatch : (s.setBank n c).terminalLatch = s.terminalLatch := rfl
@[simp] theorem State.setBank_raiseQ : (s.setBank n c).raiseQ = s.raiseQ := rfl
@[simp] theorem State.setBank_zoneExit : (s.setBank n c).zoneExit = s.zoneExit := rfl
@[simp] theorem State.setBank_dom : (s.setBank n c).dom = s.dom := rfl
@[simp] theorem State.setBank_supA : (s.setBank n c).supA = s.supA := rfl
@[simp] theorem State.setBank_supB : (s.setBank n c).supB = s.supB := rfl
@[simp] theorem State.setBank_loadDump : (s.setBank n c).loadDump = s.loadDump := rfl
@[simp] theorem State.setBank_storeHot : (s.setBank n c).storeHot = s.storeHot := rfl
@[simp] theorem State.setBank_vlaneBad : (s.setBank n c).vlaneBad = s.vlaneBad := rfl
@[simp] theorem State.setBank_slowRef : (s.setBank n c).slowRef = s.slowRef := rfl
@[simp] theorem State.setBank_slowBase : (s.setBank n c).slowBase = s.slowBase := rfl
@[simp] theorem State.setBank_timers : (s.setBank n c).timers = s.timers := rfl
@[simp] theorem State.setBank_power : (s.setBank n c).power = s.power := rfl
@[simp] theorem State.setBank_journal : (s.setBank n c).journal = s.journal := rfl
@[simp] theorem State.setBank_net : (s.setBank n c).net = s.net := rfl
@[simp] theorem State.setBank_access : (s.setBank n c).access = s.access := rfl
@[simp] theorem State.setBank_keys : (s.setBank n c).keys = s.keys := rfl
@[simp] theorem State.setBank_update : (s.setBank n c).update = s.update := rfl
@[simp] theorem State.setBank_parked : (s.setBank n c).parked = s.parked := rfl
@[simp] theorem State.setBank_boot : (s.setBank n c).boot = s.boot := rfl
@[simp] theorem State.setBank_rstnLow : (s.setBank n c).rstnLow = s.rstnLow := rfl
@[simp] theorem State.setBank_tap : (s.setBank n c).tap = s.tap := rfl
@[simp] theorem State.setBank_hwSafe : (s.setBank n c).hwSafe = s.hwSafe := rfl

end

/-! ### After setSink -/

section
variable (s : State) (n : Nat) (c : Sink)

@[simp] theorem State.setSink_pending : (s.setSink n c).pending = s.pending := rfl
@[simp] theorem State.setSink_now : (s.setSink n c).now = s.now := rfl
@[simp] theorem State.setSink_fresh : (s.setSink n c).fresh = s.fresh := rfl
@[simp] theorem State.setSink_regs : (s.setSink n c).regs = s.regs := rfl
@[simp] theorem State.setSink_frz : (s.setSink n c).frz = s.frz := rfl
@[simp] theorem State.setSink_edge : (s.setSink n c).edge = s.edge := rfl
@[simp] theorem State.setSink_eff : (s.setSink n c).eff = s.eff := rfl
@[simp] theorem State.setSink_seq : (s.setSink n c).seq = s.seq := rfl
@[simp] theorem State.setSink_plan : (s.setSink n c).plan = s.plan := rfl
@[simp] theorem State.setSink_shadow : (s.setSink n c).shadow = s.shadow := rfl
@[simp] theorem State.setSink_lanes : (s.setSink n c).lanes = s.lanes := rfl
@[simp] theorem State.setSink_laneEv : (s.setSink n c).laneEv = s.laneEv := rfl
@[simp] theorem State.setSink_imem : (s.setSink n c).imem = s.imem := rfl
@[simp] theorem State.setSink_dmem : (s.setSink n c).dmem = s.dmem := rfl
@[simp] theorem State.setSink_shared : (s.setSink n c).shared = s.shared := rfl
@[simp] theorem State.setSink_dmemErr : (s.setSink n c).dmemErr = s.dmemErr := rfl
@[simp] theorem State.setSink_lsw : (s.setSink n c).lsw = s.lsw := rfl
@[simp] theorem State.setSink_groupAt : (s.setSink n c).groupAt = s.groupAt := rfl
@[simp] theorem State.setSink_scanAt : (s.setSink n c).scanAt = s.scanAt := rfl
@[simp] theorem State.setSink_hbr : (s.setSink n c).hbr = s.hbr := rfl
@[simp] theorem State.setSink_vd : (s.setSink n c).vd = s.vd := rfl
@[simp] theorem State.setSink_vbank : (s.setSink n c).vbank = s.vbank := rfl
@[simp] theorem State.setSink_ucode : (s.setSink n c).ucode = s.ucode := rfl
@[simp] theorem State.setSink_sinks : (s.setSink n c).sinks = smapSet (fun _ => Sink.init) s.sinks n c := rfl
@[simp] theorem State.setSink_stages : (s.setSink n c).stages = s.stages := rfl
@[simp] theorem State.setSink_matrix : (s.setSink n c).matrix = s.matrix := rfl
@[simp] theorem State.setSink_model : (s.setSink n c).model = s.model := rfl
@[simp] theorem State.setSink_ledger : (s.setSink n c).ledger = s.ledger := rfl
@[simp] theorem State.setSink_ledgerCh : (s.setSink n c).ledgerCh = s.ledgerCh := rfl
@[simp] theorem State.setSink_lswCal : (s.setSink n c).lswCal = s.lswCal := rfl
@[simp] theorem State.setSink_sinkCal : (s.setSink n c).sinkCal = s.sinkCal := rfl
@[simp] theorem State.setSink_calCopy : (s.setSink n c).calCopy = s.calCopy := rfl
@[simp] theorem State.setSink_dieRef : (s.setSink n c).dieRef = s.dieRef := rfl
@[simp] theorem State.setSink_flags : (s.setSink n c).flags = s.flags := rfl
@[simp] theorem State.setSink_log : (s.setSink n c).log = s.log := rfl
@[simp] theorem State.setSink_dump : (s.setSink n c).dump = s.dump := rfl
@[simp] theorem State.setSink_dumpNext : (s.setSink n c).dumpNext = s.dumpNext := rfl
@[simp] theorem State.setSink_deferred : (s.setSink n c).deferred = s.deferred := rfl
@[simp] theorem State.setSink_deferLost : (s.setSink n c).deferLost = s.deferLost := rfl
@[simp] theorem State.setSink_collectorUp : (s.setSink n c).collectorUp = s.collectorUp := rfl
@[simp] theorem State.setSink_terminalLatch : (s.setSink n c).terminalLatch = s.terminalLatch := rfl
@[simp] theorem State.setSink_raiseQ : (s.setSink n c).raiseQ = s.raiseQ := rfl
@[simp] theorem State.setSink_zoneExit : (s.setSink n c).zoneExit = s.zoneExit := rfl
@[simp] theorem State.setSink_dom : (s.setSink n c).dom = s.dom := rfl
@[simp] theorem State.setSink_supA : (s.setSink n c).supA = s.supA := rfl
@[simp] theorem State.setSink_supB : (s.setSink n c).supB = s.supB := rfl
@[simp] theorem State.setSink_loadDump : (s.setSink n c).loadDump = s.loadDump := rfl
@[simp] theorem State.setSink_storeHot : (s.setSink n c).storeHot = s.storeHot := rfl
@[simp] theorem State.setSink_vlaneBad : (s.setSink n c).vlaneBad = s.vlaneBad := rfl
@[simp] theorem State.setSink_slowRef : (s.setSink n c).slowRef = s.slowRef := rfl
@[simp] theorem State.setSink_slowBase : (s.setSink n c).slowBase = s.slowBase := rfl
@[simp] theorem State.setSink_timers : (s.setSink n c).timers = s.timers := rfl
@[simp] theorem State.setSink_power : (s.setSink n c).power = s.power := rfl
@[simp] theorem State.setSink_journal : (s.setSink n c).journal = s.journal := rfl
@[simp] theorem State.setSink_net : (s.setSink n c).net = s.net := rfl
@[simp] theorem State.setSink_access : (s.setSink n c).access = s.access := rfl
@[simp] theorem State.setSink_keys : (s.setSink n c).keys = s.keys := rfl
@[simp] theorem State.setSink_update : (s.setSink n c).update = s.update := rfl
@[simp] theorem State.setSink_parked : (s.setSink n c).parked = s.parked := rfl
@[simp] theorem State.setSink_boot : (s.setSink n c).boot = s.boot := rfl
@[simp] theorem State.setSink_rstnLow : (s.setSink n c).rstnLow = s.rstnLow := rfl
@[simp] theorem State.setSink_tap : (s.setSink n c).tap = s.tap := rfl
@[simp] theorem State.setSink_hwSafe : (s.setSink n c).hwSafe = s.hwSafe := rfl

end

/-! ### After setStage -/

section
variable (s : State) (n : Nat) (c : Stage)

@[simp] theorem State.setStage_pending : (s.setStage n c).pending = s.pending := rfl
@[simp] theorem State.setStage_now : (s.setStage n c).now = s.now := rfl
@[simp] theorem State.setStage_fresh : (s.setStage n c).fresh = s.fresh := rfl
@[simp] theorem State.setStage_regs : (s.setStage n c).regs = s.regs := rfl
@[simp] theorem State.setStage_frz : (s.setStage n c).frz = s.frz := rfl
@[simp] theorem State.setStage_edge : (s.setStage n c).edge = s.edge := rfl
@[simp] theorem State.setStage_eff : (s.setStage n c).eff = s.eff := rfl
@[simp] theorem State.setStage_seq : (s.setStage n c).seq = s.seq := rfl
@[simp] theorem State.setStage_plan : (s.setStage n c).plan = s.plan := rfl
@[simp] theorem State.setStage_shadow : (s.setStage n c).shadow = s.shadow := rfl
@[simp] theorem State.setStage_lanes : (s.setStage n c).lanes = s.lanes := rfl
@[simp] theorem State.setStage_laneEv : (s.setStage n c).laneEv = s.laneEv := rfl
@[simp] theorem State.setStage_imem : (s.setStage n c).imem = s.imem := rfl
@[simp] theorem State.setStage_dmem : (s.setStage n c).dmem = s.dmem := rfl
@[simp] theorem State.setStage_shared : (s.setStage n c).shared = s.shared := rfl
@[simp] theorem State.setStage_dmemErr : (s.setStage n c).dmemErr = s.dmemErr := rfl
@[simp] theorem State.setStage_lsw : (s.setStage n c).lsw = s.lsw := rfl
@[simp] theorem State.setStage_groupAt : (s.setStage n c).groupAt = s.groupAt := rfl
@[simp] theorem State.setStage_scanAt : (s.setStage n c).scanAt = s.scanAt := rfl
@[simp] theorem State.setStage_hbr : (s.setStage n c).hbr = s.hbr := rfl
@[simp] theorem State.setStage_vd : (s.setStage n c).vd = s.vd := rfl
@[simp] theorem State.setStage_vbank : (s.setStage n c).vbank = s.vbank := rfl
@[simp] theorem State.setStage_ucode : (s.setStage n c).ucode = s.ucode := rfl
@[simp] theorem State.setStage_sinks : (s.setStage n c).sinks = s.sinks := rfl
@[simp] theorem State.setStage_stages : (s.setStage n c).stages = smapSet (fun _ => Stage.init) s.stages n c := rfl
@[simp] theorem State.setStage_matrix : (s.setStage n c).matrix = s.matrix := rfl
@[simp] theorem State.setStage_model : (s.setStage n c).model = s.model := rfl
@[simp] theorem State.setStage_ledger : (s.setStage n c).ledger = s.ledger := rfl
@[simp] theorem State.setStage_ledgerCh : (s.setStage n c).ledgerCh = s.ledgerCh := rfl
@[simp] theorem State.setStage_lswCal : (s.setStage n c).lswCal = s.lswCal := rfl
@[simp] theorem State.setStage_sinkCal : (s.setStage n c).sinkCal = s.sinkCal := rfl
@[simp] theorem State.setStage_calCopy : (s.setStage n c).calCopy = s.calCopy := rfl
@[simp] theorem State.setStage_dieRef : (s.setStage n c).dieRef = s.dieRef := rfl
@[simp] theorem State.setStage_flags : (s.setStage n c).flags = s.flags := rfl
@[simp] theorem State.setStage_log : (s.setStage n c).log = s.log := rfl
@[simp] theorem State.setStage_dump : (s.setStage n c).dump = s.dump := rfl
@[simp] theorem State.setStage_dumpNext : (s.setStage n c).dumpNext = s.dumpNext := rfl
@[simp] theorem State.setStage_deferred : (s.setStage n c).deferred = s.deferred := rfl
@[simp] theorem State.setStage_deferLost : (s.setStage n c).deferLost = s.deferLost := rfl
@[simp] theorem State.setStage_collectorUp : (s.setStage n c).collectorUp = s.collectorUp := rfl
@[simp] theorem State.setStage_terminalLatch : (s.setStage n c).terminalLatch = s.terminalLatch := rfl
@[simp] theorem State.setStage_raiseQ : (s.setStage n c).raiseQ = s.raiseQ := rfl
@[simp] theorem State.setStage_zoneExit : (s.setStage n c).zoneExit = s.zoneExit := rfl
@[simp] theorem State.setStage_dom : (s.setStage n c).dom = s.dom := rfl
@[simp] theorem State.setStage_supA : (s.setStage n c).supA = s.supA := rfl
@[simp] theorem State.setStage_supB : (s.setStage n c).supB = s.supB := rfl
@[simp] theorem State.setStage_loadDump : (s.setStage n c).loadDump = s.loadDump := rfl
@[simp] theorem State.setStage_storeHot : (s.setStage n c).storeHot = s.storeHot := rfl
@[simp] theorem State.setStage_vlaneBad : (s.setStage n c).vlaneBad = s.vlaneBad := rfl
@[simp] theorem State.setStage_slowRef : (s.setStage n c).slowRef = s.slowRef := rfl
@[simp] theorem State.setStage_slowBase : (s.setStage n c).slowBase = s.slowBase := rfl
@[simp] theorem State.setStage_timers : (s.setStage n c).timers = s.timers := rfl
@[simp] theorem State.setStage_power : (s.setStage n c).power = s.power := rfl
@[simp] theorem State.setStage_journal : (s.setStage n c).journal = s.journal := rfl
@[simp] theorem State.setStage_net : (s.setStage n c).net = s.net := rfl
@[simp] theorem State.setStage_access : (s.setStage n c).access = s.access := rfl
@[simp] theorem State.setStage_keys : (s.setStage n c).keys = s.keys := rfl
@[simp] theorem State.setStage_update : (s.setStage n c).update = s.update := rfl
@[simp] theorem State.setStage_parked : (s.setStage n c).parked = s.parked := rfl
@[simp] theorem State.setStage_boot : (s.setStage n c).boot = s.boot := rfl
@[simp] theorem State.setStage_rstnLow : (s.setStage n c).rstnLow = s.rstnLow := rfl
@[simp] theorem State.setStage_tap : (s.setStage n c).tap = s.tap := rfl
@[simp] theorem State.setStage_hwSafe : (s.setStage n c).hwSafe = s.hwSafe := rfl

end

/-! ### After setLedger1 -/

section
variable (s : State) (n : Nat) (c : LedgerCh)

@[simp] theorem State.setLedger1_pending : (s.setLedger1 n c).pending = s.pending := rfl
@[simp] theorem State.setLedger1_now : (s.setLedger1 n c).now = s.now := rfl
@[simp] theorem State.setLedger1_fresh : (s.setLedger1 n c).fresh = s.fresh := rfl
@[simp] theorem State.setLedger1_regs : (s.setLedger1 n c).regs = s.regs := rfl
@[simp] theorem State.setLedger1_frz : (s.setLedger1 n c).frz = s.frz := rfl
@[simp] theorem State.setLedger1_edge : (s.setLedger1 n c).edge = s.edge := rfl
@[simp] theorem State.setLedger1_eff : (s.setLedger1 n c).eff = s.eff := rfl
@[simp] theorem State.setLedger1_seq : (s.setLedger1 n c).seq = s.seq := rfl
@[simp] theorem State.setLedger1_plan : (s.setLedger1 n c).plan = s.plan := rfl
@[simp] theorem State.setLedger1_shadow : (s.setLedger1 n c).shadow = s.shadow := rfl
@[simp] theorem State.setLedger1_lanes : (s.setLedger1 n c).lanes = s.lanes := rfl
@[simp] theorem State.setLedger1_laneEv : (s.setLedger1 n c).laneEv = s.laneEv := rfl
@[simp] theorem State.setLedger1_imem : (s.setLedger1 n c).imem = s.imem := rfl
@[simp] theorem State.setLedger1_dmem : (s.setLedger1 n c).dmem = s.dmem := rfl
@[simp] theorem State.setLedger1_shared : (s.setLedger1 n c).shared = s.shared := rfl
@[simp] theorem State.setLedger1_dmemErr : (s.setLedger1 n c).dmemErr = s.dmemErr := rfl
@[simp] theorem State.setLedger1_lsw : (s.setLedger1 n c).lsw = s.lsw := rfl
@[simp] theorem State.setLedger1_groupAt : (s.setLedger1 n c).groupAt = s.groupAt := rfl
@[simp] theorem State.setLedger1_scanAt : (s.setLedger1 n c).scanAt = s.scanAt := rfl
@[simp] theorem State.setLedger1_hbr : (s.setLedger1 n c).hbr = s.hbr := rfl
@[simp] theorem State.setLedger1_vd : (s.setLedger1 n c).vd = s.vd := rfl
@[simp] theorem State.setLedger1_vbank : (s.setLedger1 n c).vbank = s.vbank := rfl
@[simp] theorem State.setLedger1_ucode : (s.setLedger1 n c).ucode = s.ucode := rfl
@[simp] theorem State.setLedger1_sinks : (s.setLedger1 n c).sinks = s.sinks := rfl
@[simp] theorem State.setLedger1_stages : (s.setLedger1 n c).stages = s.stages := rfl
@[simp] theorem State.setLedger1_matrix : (s.setLedger1 n c).matrix = s.matrix := rfl
@[simp] theorem State.setLedger1_model : (s.setLedger1 n c).model = s.model := rfl
@[simp] theorem State.setLedger1_ledger : (s.setLedger1 n c).ledger = s.ledger := rfl
@[simp] theorem State.setLedger1_ledgerCh : (s.setLedger1 n c).ledgerCh =
    smapSet (fun _ => LedgerCh.init) s.ledgerCh n c := rfl
@[simp] theorem State.setLedger1_lswCal : (s.setLedger1 n c).lswCal = s.lswCal := rfl
@[simp] theorem State.setLedger1_sinkCal : (s.setLedger1 n c).sinkCal = s.sinkCal := rfl
@[simp] theorem State.setLedger1_calCopy : (s.setLedger1 n c).calCopy = s.calCopy := rfl
@[simp] theorem State.setLedger1_dieRef : (s.setLedger1 n c).dieRef = s.dieRef := rfl
@[simp] theorem State.setLedger1_flags : (s.setLedger1 n c).flags = s.flags := rfl
@[simp] theorem State.setLedger1_log : (s.setLedger1 n c).log = s.log := rfl
@[simp] theorem State.setLedger1_dump : (s.setLedger1 n c).dump = s.dump := rfl
@[simp] theorem State.setLedger1_dumpNext : (s.setLedger1 n c).dumpNext = s.dumpNext := rfl
@[simp] theorem State.setLedger1_deferred : (s.setLedger1 n c).deferred = s.deferred := rfl
@[simp] theorem State.setLedger1_deferLost : (s.setLedger1 n c).deferLost = s.deferLost := rfl
@[simp] theorem State.setLedger1_collectorUp : (s.setLedger1 n c).collectorUp = s.collectorUp := rfl
@[simp] theorem State.setLedger1_terminalLatch : (s.setLedger1 n c).terminalLatch = s.terminalLatch := rfl
@[simp] theorem State.setLedger1_raiseQ : (s.setLedger1 n c).raiseQ = s.raiseQ := rfl
@[simp] theorem State.setLedger1_zoneExit : (s.setLedger1 n c).zoneExit = s.zoneExit := rfl
@[simp] theorem State.setLedger1_dom : (s.setLedger1 n c).dom = s.dom := rfl
@[simp] theorem State.setLedger1_supA : (s.setLedger1 n c).supA = s.supA := rfl
@[simp] theorem State.setLedger1_supB : (s.setLedger1 n c).supB = s.supB := rfl
@[simp] theorem State.setLedger1_loadDump : (s.setLedger1 n c).loadDump = s.loadDump := rfl
@[simp] theorem State.setLedger1_storeHot : (s.setLedger1 n c).storeHot = s.storeHot := rfl
@[simp] theorem State.setLedger1_vlaneBad : (s.setLedger1 n c).vlaneBad = s.vlaneBad := rfl
@[simp] theorem State.setLedger1_slowRef : (s.setLedger1 n c).slowRef = s.slowRef := rfl
@[simp] theorem State.setLedger1_slowBase : (s.setLedger1 n c).slowBase = s.slowBase := rfl
@[simp] theorem State.setLedger1_timers : (s.setLedger1 n c).timers = s.timers := rfl
@[simp] theorem State.setLedger1_power : (s.setLedger1 n c).power = s.power := rfl
@[simp] theorem State.setLedger1_journal : (s.setLedger1 n c).journal = s.journal := rfl
@[simp] theorem State.setLedger1_net : (s.setLedger1 n c).net = s.net := rfl
@[simp] theorem State.setLedger1_access : (s.setLedger1 n c).access = s.access := rfl
@[simp] theorem State.setLedger1_keys : (s.setLedger1 n c).keys = s.keys := rfl
@[simp] theorem State.setLedger1_update : (s.setLedger1 n c).update = s.update := rfl
@[simp] theorem State.setLedger1_parked : (s.setLedger1 n c).parked = s.parked := rfl
@[simp] theorem State.setLedger1_boot : (s.setLedger1 n c).boot = s.boot := rfl
@[simp] theorem State.setLedger1_rstnLow : (s.setLedger1 n c).rstnLow = s.rstnLow := rfl
@[simp] theorem State.setLedger1_tap : (s.setLedger1 n c).tap = s.tap := rfl
@[simp] theorem State.setLedger1_hwSafe : (s.setLedger1 n c).hwSafe = s.hwSafe := rfl

end

/-! ### After reach -/

section
variable (s : State) (d : Nat)

@[simp] theorem State.reach_pending : (s.reach d).pending = s.pending := rfl
@[simp] theorem State.reach_now : (s.reach d).now = max s.now d := rfl
@[simp] theorem State.reach_fresh : (s.reach d).fresh = s.fresh := rfl
@[simp] theorem State.reach_regs : (s.reach d).regs = s.regs := rfl
@[simp] theorem State.reach_frz : (s.reach d).frz = s.frz := rfl
@[simp] theorem State.reach_edge : (s.reach d).edge = s.edge := rfl
@[simp] theorem State.reach_eff : (s.reach d).eff = s.eff := rfl
@[simp] theorem State.reach_seq : (s.reach d).seq = s.seq := rfl
@[simp] theorem State.reach_plan : (s.reach d).plan = s.plan := rfl
@[simp] theorem State.reach_shadow : (s.reach d).shadow = s.shadow := rfl
@[simp] theorem State.reach_lanes : (s.reach d).lanes = s.lanes := rfl
@[simp] theorem State.reach_laneEv : (s.reach d).laneEv = s.laneEv := rfl
@[simp] theorem State.reach_imem : (s.reach d).imem = s.imem := rfl
@[simp] theorem State.reach_dmem : (s.reach d).dmem = s.dmem := rfl
@[simp] theorem State.reach_shared : (s.reach d).shared = s.shared := rfl
@[simp] theorem State.reach_dmemErr : (s.reach d).dmemErr = s.dmemErr := rfl
@[simp] theorem State.reach_lsw : (s.reach d).lsw = s.lsw := rfl
@[simp] theorem State.reach_groupAt : (s.reach d).groupAt = s.groupAt := rfl
@[simp] theorem State.reach_scanAt : (s.reach d).scanAt = s.scanAt := rfl
@[simp] theorem State.reach_hbr : (s.reach d).hbr = s.hbr := rfl
@[simp] theorem State.reach_vd : (s.reach d).vd = s.vd := rfl
@[simp] theorem State.reach_vbank : (s.reach d).vbank = s.vbank := rfl
@[simp] theorem State.reach_ucode : (s.reach d).ucode = s.ucode := rfl
@[simp] theorem State.reach_sinks : (s.reach d).sinks = s.sinks := rfl
@[simp] theorem State.reach_stages : (s.reach d).stages = s.stages := rfl
@[simp] theorem State.reach_matrix : (s.reach d).matrix = s.matrix := rfl
@[simp] theorem State.reach_model : (s.reach d).model = s.model := rfl
@[simp] theorem State.reach_ledger : (s.reach d).ledger = s.ledger := rfl
@[simp] theorem State.reach_ledgerCh : (s.reach d).ledgerCh = s.ledgerCh := rfl
@[simp] theorem State.reach_lswCal : (s.reach d).lswCal = s.lswCal := rfl
@[simp] theorem State.reach_sinkCal : (s.reach d).sinkCal = s.sinkCal := rfl
@[simp] theorem State.reach_calCopy : (s.reach d).calCopy = s.calCopy := rfl
@[simp] theorem State.reach_dieRef : (s.reach d).dieRef = s.dieRef := rfl
@[simp] theorem State.reach_flags : (s.reach d).flags = s.flags := rfl
@[simp] theorem State.reach_log : (s.reach d).log = s.log := rfl
@[simp] theorem State.reach_dump : (s.reach d).dump = s.dump := rfl
@[simp] theorem State.reach_dumpNext : (s.reach d).dumpNext = s.dumpNext := rfl
@[simp] theorem State.reach_deferred : (s.reach d).deferred = s.deferred := rfl
@[simp] theorem State.reach_deferLost : (s.reach d).deferLost = s.deferLost := rfl
@[simp] theorem State.reach_collectorUp : (s.reach d).collectorUp = s.collectorUp := rfl
@[simp] theorem State.reach_terminalLatch : (s.reach d).terminalLatch = s.terminalLatch := rfl
@[simp] theorem State.reach_raiseQ : (s.reach d).raiseQ = s.raiseQ := rfl
@[simp] theorem State.reach_zoneExit : (s.reach d).zoneExit = s.zoneExit := rfl
@[simp] theorem State.reach_dom : (s.reach d).dom = s.dom := rfl
@[simp] theorem State.reach_supA : (s.reach d).supA = s.supA := rfl
@[simp] theorem State.reach_supB : (s.reach d).supB = s.supB := rfl
@[simp] theorem State.reach_loadDump : (s.reach d).loadDump = s.loadDump := rfl
@[simp] theorem State.reach_storeHot : (s.reach d).storeHot = s.storeHot := rfl
@[simp] theorem State.reach_vlaneBad : (s.reach d).vlaneBad = s.vlaneBad := rfl
@[simp] theorem State.reach_slowRef : (s.reach d).slowRef = s.slowRef := rfl
@[simp] theorem State.reach_slowBase : (s.reach d).slowBase = s.slowBase := rfl
@[simp] theorem State.reach_timers : (s.reach d).timers = s.timers := rfl
@[simp] theorem State.reach_power : (s.reach d).power = s.power := rfl
@[simp] theorem State.reach_journal : (s.reach d).journal = s.journal := rfl
@[simp] theorem State.reach_net : (s.reach d).net = s.net := rfl
@[simp] theorem State.reach_access : (s.reach d).access = s.access := rfl
@[simp] theorem State.reach_keys : (s.reach d).keys = s.keys := rfl
@[simp] theorem State.reach_update : (s.reach d).update = s.update := rfl
@[simp] theorem State.reach_parked : (s.reach d).parked = s.parked := rfl
@[simp] theorem State.reach_boot : (s.reach d).boot = s.boot := rfl
@[simp] theorem State.reach_rstnLow : (s.reach d).rstnLow = s.rstnLow := rfl
@[simp] theorem State.reach_tap : (s.reach d).tap = s.tap := rfl
@[simp] theorem State.reach_hwSafe : (s.reach d).hwSafe = s.hwSafe := rfl

end

/-! ### After later -/

section
variable (s : State) (d : Nat)

@[simp] theorem State.later_pending : (s.later d).pending = s.pending := rfl
@[simp] theorem State.later_now : (s.later d).now = s.now + d := rfl
@[simp] theorem State.later_fresh : (s.later d).fresh = s.fresh := rfl
@[simp] theorem State.later_regs : (s.later d).regs = s.regs := rfl
@[simp] theorem State.later_frz : (s.later d).frz = s.frz := rfl
@[simp] theorem State.later_edge : (s.later d).edge = s.edge := rfl
@[simp] theorem State.later_eff : (s.later d).eff = s.eff := rfl
@[simp] theorem State.later_seq : (s.later d).seq = s.seq := rfl
@[simp] theorem State.later_plan : (s.later d).plan = s.plan := rfl
@[simp] theorem State.later_shadow : (s.later d).shadow = s.shadow := rfl
@[simp] theorem State.later_lanes : (s.later d).lanes = s.lanes := rfl
@[simp] theorem State.later_laneEv : (s.later d).laneEv = s.laneEv := rfl
@[simp] theorem State.later_imem : (s.later d).imem = s.imem := rfl
@[simp] theorem State.later_dmem : (s.later d).dmem = s.dmem := rfl
@[simp] theorem State.later_shared : (s.later d).shared = s.shared := rfl
@[simp] theorem State.later_dmemErr : (s.later d).dmemErr = s.dmemErr := rfl
@[simp] theorem State.later_lsw : (s.later d).lsw = s.lsw := rfl
@[simp] theorem State.later_groupAt : (s.later d).groupAt = s.groupAt := rfl
@[simp] theorem State.later_scanAt : (s.later d).scanAt = s.scanAt := rfl
@[simp] theorem State.later_hbr : (s.later d).hbr = s.hbr := rfl
@[simp] theorem State.later_vd : (s.later d).vd = s.vd := rfl
@[simp] theorem State.later_vbank : (s.later d).vbank = s.vbank := rfl
@[simp] theorem State.later_ucode : (s.later d).ucode = s.ucode := rfl
@[simp] theorem State.later_sinks : (s.later d).sinks = s.sinks := rfl
@[simp] theorem State.later_stages : (s.later d).stages = s.stages := rfl
@[simp] theorem State.later_matrix : (s.later d).matrix = s.matrix := rfl
@[simp] theorem State.later_model : (s.later d).model = s.model := rfl
@[simp] theorem State.later_ledger : (s.later d).ledger = s.ledger := rfl
@[simp] theorem State.later_ledgerCh : (s.later d).ledgerCh = s.ledgerCh := rfl
@[simp] theorem State.later_lswCal : (s.later d).lswCal = s.lswCal := rfl
@[simp] theorem State.later_sinkCal : (s.later d).sinkCal = s.sinkCal := rfl
@[simp] theorem State.later_calCopy : (s.later d).calCopy = s.calCopy := rfl
@[simp] theorem State.later_dieRef : (s.later d).dieRef = s.dieRef := rfl
@[simp] theorem State.later_flags : (s.later d).flags = s.flags := rfl
@[simp] theorem State.later_log : (s.later d).log = s.log := rfl
@[simp] theorem State.later_dump : (s.later d).dump = s.dump := rfl
@[simp] theorem State.later_dumpNext : (s.later d).dumpNext = s.dumpNext := rfl
@[simp] theorem State.later_deferred : (s.later d).deferred = s.deferred := rfl
@[simp] theorem State.later_deferLost : (s.later d).deferLost = s.deferLost := rfl
@[simp] theorem State.later_collectorUp : (s.later d).collectorUp = s.collectorUp := rfl
@[simp] theorem State.later_terminalLatch : (s.later d).terminalLatch = s.terminalLatch := rfl
@[simp] theorem State.later_raiseQ : (s.later d).raiseQ = s.raiseQ := rfl
@[simp] theorem State.later_zoneExit : (s.later d).zoneExit = s.zoneExit := rfl
@[simp] theorem State.later_dom : (s.later d).dom = s.dom := rfl
@[simp] theorem State.later_supA : (s.later d).supA = s.supA := rfl
@[simp] theorem State.later_supB : (s.later d).supB = s.supB := rfl
@[simp] theorem State.later_loadDump : (s.later d).loadDump = s.loadDump := rfl
@[simp] theorem State.later_storeHot : (s.later d).storeHot = s.storeHot := rfl
@[simp] theorem State.later_vlaneBad : (s.later d).vlaneBad = s.vlaneBad := rfl
@[simp] theorem State.later_slowRef : (s.later d).slowRef = s.slowRef := rfl
@[simp] theorem State.later_slowBase : (s.later d).slowBase = s.slowBase := rfl
@[simp] theorem State.later_timers : (s.later d).timers = s.timers := rfl
@[simp] theorem State.later_power : (s.later d).power = s.power := rfl
@[simp] theorem State.later_journal : (s.later d).journal = s.journal := rfl
@[simp] theorem State.later_net : (s.later d).net = s.net := rfl
@[simp] theorem State.later_access : (s.later d).access = s.access := rfl
@[simp] theorem State.later_keys : (s.later d).keys = s.keys := rfl
@[simp] theorem State.later_update : (s.later d).update = s.update := rfl
@[simp] theorem State.later_parked : (s.later d).parked = s.parked := rfl
@[simp] theorem State.later_boot : (s.later d).boot = s.boot := rfl
@[simp] theorem State.later_rstnLow : (s.later d).rstnLow = s.rstnLow := rfl
@[simp] theorem State.later_tap : (s.later d).tap = s.tap := rfl
@[simp] theorem State.later_hwSafe : (s.later d).hwSafe = s.hwSafe := rfl

end

/-! ### After taking a free value -/

section
variable (s : State)

@[simp] theorem State.free_pending : s.free.2.pending = s.pending := rfl
@[simp] theorem State.free_now : s.free.2.now = s.now := rfl
@[simp] theorem State.free_fresh : s.free.2.fresh = s.fresh + 1 := rfl
@[simp] theorem State.free_regs : s.free.2.regs = s.regs := rfl
@[simp] theorem State.free_frz : s.free.2.frz = s.frz := rfl
@[simp] theorem State.free_edge : s.free.2.edge = s.edge := rfl
@[simp] theorem State.free_eff : s.free.2.eff = s.eff := rfl
@[simp] theorem State.free_seq : s.free.2.seq = s.seq := rfl
@[simp] theorem State.free_plan : s.free.2.plan = s.plan := rfl
@[simp] theorem State.free_shadow : s.free.2.shadow = s.shadow := rfl
@[simp] theorem State.free_lanes : s.free.2.lanes = s.lanes := rfl
@[simp] theorem State.free_laneEv : s.free.2.laneEv = s.laneEv := rfl
@[simp] theorem State.free_imem : s.free.2.imem = s.imem := rfl
@[simp] theorem State.free_dmem : s.free.2.dmem = s.dmem := rfl
@[simp] theorem State.free_shared : s.free.2.shared = s.shared := rfl
@[simp] theorem State.free_dmemErr : s.free.2.dmemErr = s.dmemErr := rfl
@[simp] theorem State.free_lsw : s.free.2.lsw = s.lsw := rfl
@[simp] theorem State.free_groupAt : s.free.2.groupAt = s.groupAt := rfl
@[simp] theorem State.free_scanAt : s.free.2.scanAt = s.scanAt := rfl
@[simp] theorem State.free_hbr : s.free.2.hbr = s.hbr := rfl
@[simp] theorem State.free_vd : s.free.2.vd = s.vd := rfl
@[simp] theorem State.free_vbank : s.free.2.vbank = s.vbank := rfl
@[simp] theorem State.free_ucode : s.free.2.ucode = s.ucode := rfl
@[simp] theorem State.free_sinks : s.free.2.sinks = s.sinks := rfl
@[simp] theorem State.free_stages : s.free.2.stages = s.stages := rfl
@[simp] theorem State.free_matrix : s.free.2.matrix = s.matrix := rfl
@[simp] theorem State.free_model : s.free.2.model = s.model := rfl
@[simp] theorem State.free_ledger : s.free.2.ledger = s.ledger := rfl
@[simp] theorem State.free_ledgerCh : s.free.2.ledgerCh = s.ledgerCh := rfl
@[simp] theorem State.free_lswCal : s.free.2.lswCal = s.lswCal := rfl
@[simp] theorem State.free_sinkCal : s.free.2.sinkCal = s.sinkCal := rfl
@[simp] theorem State.free_calCopy : s.free.2.calCopy = s.calCopy := rfl
@[simp] theorem State.free_dieRef : s.free.2.dieRef = s.dieRef := rfl
@[simp] theorem State.free_flags : s.free.2.flags = s.flags := rfl
@[simp] theorem State.free_log : s.free.2.log = s.log := rfl
@[simp] theorem State.free_dump : s.free.2.dump = s.dump := rfl
@[simp] theorem State.free_dumpNext : s.free.2.dumpNext = s.dumpNext := rfl
@[simp] theorem State.free_deferred : s.free.2.deferred = s.deferred := rfl
@[simp] theorem State.free_deferLost : s.free.2.deferLost = s.deferLost := rfl
@[simp] theorem State.free_collectorUp : s.free.2.collectorUp = s.collectorUp := rfl
@[simp] theorem State.free_terminalLatch : s.free.2.terminalLatch = s.terminalLatch := rfl
@[simp] theorem State.free_raiseQ : s.free.2.raiseQ = s.raiseQ := rfl
@[simp] theorem State.free_zoneExit : s.free.2.zoneExit = s.zoneExit := rfl
@[simp] theorem State.free_dom : s.free.2.dom = s.dom := rfl
@[simp] theorem State.free_supA : s.free.2.supA = s.supA := rfl
@[simp] theorem State.free_supB : s.free.2.supB = s.supB := rfl
@[simp] theorem State.free_loadDump : s.free.2.loadDump = s.loadDump := rfl
@[simp] theorem State.free_storeHot : s.free.2.storeHot = s.storeHot := rfl
@[simp] theorem State.free_vlaneBad : s.free.2.vlaneBad = s.vlaneBad := rfl
@[simp] theorem State.free_slowRef : s.free.2.slowRef = s.slowRef := rfl
@[simp] theorem State.free_slowBase : s.free.2.slowBase = s.slowBase := rfl
@[simp] theorem State.free_timers : s.free.2.timers = s.timers := rfl
@[simp] theorem State.free_power : s.free.2.power = s.power := rfl
@[simp] theorem State.free_journal : s.free.2.journal = s.journal := rfl
@[simp] theorem State.free_net : s.free.2.net = s.net := rfl
@[simp] theorem State.free_access : s.free.2.access = s.access := rfl
@[simp] theorem State.free_keys : s.free.2.keys = s.keys := rfl
@[simp] theorem State.free_update : s.free.2.update = s.update := rfl
@[simp] theorem State.free_parked : s.free.2.parked = s.parked := rfl
@[simp] theorem State.free_boot : s.free.2.boot = s.boot := rfl
@[simp] theorem State.free_rstnLow : s.free.2.rstnLow = s.rstnLow := rfl
@[simp] theorem State.free_tap : s.free.2.tap = s.tap := rfl
@[simp] theorem State.free_hwSafe : s.free.2.hwSafe = s.hwSafe := rfl

end

end Sys2Proof.Machine
end

