-- ==== Sys2Proof/Laws/Registers.lean ====
section
/-!
SUPPORT. Register words and the bits of a word: what a write leaves, once for every register. A field read after a field
write comes down to these.
-/
namespace Sys2Proof.Machine

/-! ### Words -/

@[simp] theorem word_setWord_same (s : State) (o : Nat) (w : Word32) : (s.setWord o w).word o = w :=
  smapGet_set_same _ s.regs o w

theorem word_setWord_ne (s : State) {o p : Nat} (w : Word32) (h : p ≠ o) : (s.setWord o w).word p = s.word p :=
  smapGet_set_ne _ s.regs w h

@[simp] theorem effWord_setEffWord_same (s : State) (o : Nat) (w : Word32) : (s.setEffWord o w).effWord o = w :=
  smapGet_set_same _ s.eff o w

theorem effWord_setEffWord_ne (s : State) {o p : Nat} (w : Word32) (h : p ≠ o) :
    (s.setEffWord o w).effWord p = s.effWord p :=
  smapGet_set_ne _ s.eff w h

@[simp] theorem effWord_setWord (s : State) (o p : Nat) (w : Word32) : (s.setWord o w).effWord p = s.effWord p := rfl

@[simp] theorem word_setEffWord (s : State) (o p : Nat) (w : Word32) : (s.setEffWord o w).word p = s.word p := rfl

@[simp] theorem frzWord_setWord (s : State) (o p : Nat) (w : Word32) : (s.setWord o w).frzWord p = s.frzWord p := rfl

/-! ### Bits of a word -/

theorem getBits_lt (w : Word32) (lo len : Nat) : getBits w lo len < 2 ^ len := Nat.mod_lt _ (Nat.two_pow_pos len)

/-- The number a word holds after its bits are replaced. -/
theorem putBits_toNat (w : Word32) {lo len : Nat} (v : Nat) (h : lo + len ≤ 32) :
    (putBits w lo len v).toNat =
      w.toNat / 2 ^ (lo + len) * 2 ^ (lo + len) + v % 2 ^ len * 2 ^ lo + w.toNat % 2 ^ lo := by
  have hw := w.isLt
  have hv : v % 2 ^ len < 2 ^ len := Nat.mod_lt _ (Nat.two_pow_pos len)
  have hl : w.toNat % 2 ^ lo < 2 ^ lo := Nat.mod_lt _ (Nat.two_pow_pos lo)
  have hm : v % 2 ^ len * 2 ^ lo + w.toNat % 2 ^ lo < 2 ^ (lo + len) := by
    rw [Nat.pow_add]
    calc v % 2 ^ len * 2 ^ lo + w.toNat % 2 ^ lo < (v % 2 ^ len + 1) * 2 ^ lo := by rw [Nat.succ_mul]; omega
      _ ≤ 2 ^ len * 2 ^ lo := Nat.mul_le_mul_right _ hv
      _ = 2 ^ lo * 2 ^ len := Nat.mul_comm _ _
  have hq : w.toNat / 2 ^ (lo + len) < 2 ^ (32 - (lo + len)) := by
    apply Nat.div_lt_of_lt_mul
    rw [← Nat.pow_add, Nat.add_sub_cancel' h]; exact hw
  have ht : w.toNat / 2 ^ (lo + len) * 2 ^ (lo + len) + 2 ^ (lo + len) ≤ 2 ^ 32 := by
    calc _ = (w.toNat / 2 ^ (lo + len) + 1) * 2 ^ (lo + len) := by rw [Nat.succ_mul]
      _ ≤ 2 ^ (32 - (lo + len)) * 2 ^ (lo + len) := Nat.mul_le_mul_right _ hq
      _ = 2 ^ 32 := by rw [← Nat.pow_add, Nat.sub_add_cancel h]
  rw [putBits, BitVec.toNat_ofNat]
  exact Nat.mod_eq_of_lt (by omega)

/-- A bit of a word after some of its bits are replaced. -/
theorem putBits_testBit (w : Word32) {lo len : Nat} (v i : Nat) (h : lo + len ≤ 32) :
    (putBits w lo len v).toNat.testBit i =
      if lo ≤ i ∧ i < lo + len then v.testBit (i - lo) else w.toNat.testBit i := by
  have hv : v % 2 ^ len < 2 ^ len := Nat.mod_lt _ (Nat.two_pow_pos len)
  have hl : w.toNat % 2 ^ lo < 2 ^ lo := Nat.mod_lt _ (Nat.two_pow_pos lo)
  have e : (putBits w lo len v).toNat =
      2 ^ lo * (2 ^ len * (w.toNat / 2 ^ (lo + len)) + v % 2 ^ len) + w.toNat % 2 ^ lo := by
    rw [putBits_toNat w v h, Nat.mul_add, ← Nat.mul_assoc, ← Nat.pow_add]
    simp only [Nat.mul_comm]
  rw [e, Nat.testBit_two_pow_mul_add _ hl]
  by_cases h1 : i < lo
  · have : ¬(lo ≤ i ∧ i < lo + len) := by omega
    simp [h1, this, Nat.testBit_mod_two_pow]
  · rw [if_neg h1, Nat.testBit_two_pow_mul_add _ hv]
    by_cases h2 : i - lo < len
    · have : lo ≤ i ∧ i < lo + len := by omega
      simp [h2, this, Nat.testBit_mod_two_pow]
    · have : ¬(lo ≤ i ∧ i < lo + len) := by omega
      simp only [if_neg h2, if_neg this, Nat.testBit_div_two_pow]
      congr 1; omega

/-- A bit of a field of a word. -/
theorem getBits_testBit (w : Word32) (lo len i : Nat) :
    (getBits w lo len).testBit i = (decide (i < len) && w.toNat.testBit (i + lo)) := by
  rw [getBits, Nat.testBit_mod_two_pow, Nat.testBit_div_two_pow]

/-- The bits just written read as what was written. -/
theorem getBits_putBits_same (w : Word32) {lo len : Nat} (v : Nat) (h : lo + len ≤ 32) :
    getBits (putBits w lo len v) lo len = v % 2 ^ len := by
  apply Nat.eq_of_testBit_eq
  intro i
  rw [getBits_testBit, putBits_testBit w v _ h, Nat.testBit_mod_two_pow]
  by_cases hi : i < len
  · have : lo ≤ i + lo ∧ i + lo < lo + len := by omega
    simp [hi, this]
  · simp [hi]

/-- Bits beside those written keep their value. -/
theorem getBits_putBits_beside (w : Word32) {lo len a n : Nat} (v : Nat) (h : lo + len ≤ 32)
    (hd : a + n ≤ lo ∨ lo + len ≤ a) : getBits (putBits w lo len v) a n = getBits w a n := by
  apply Nat.eq_of_testBit_eq
  intro i
  rw [getBits_testBit, getBits_testBit, putBits_testBit w v _ h]
  by_cases hi : i < n
  · have : ¬(lo ≤ i + a ∧ i + a < lo + len) := by omega
    simp [hi, this]
  · simp [hi]

/-! ### Fields of other registers -/

/-- A field of another register keeps its value. -/
theorem fld_setFld_elsewhere (s : State) {F G : Field} {n m : Nat} (v : Nat) (h : G.off m ≠ F.off n) :
    (s.setFld F n v).fld G m = s.fld G m := by
  rw [State.fld, State.setFld, word_setWord_ne s _ h, State.fld]

@[simp] theorem fld_setEffWord (s : State) (o : Nat) (w : Word32) (F : Field) (n : Nat) :
    (s.setEffWord o w).fld F n = s.fld F n := rfl

@[simp] theorem effFld_setFld (s : State) (F G : Field) (n m v : Nat) :
    (s.setFld F n v).effFld G m = s.effFld G m := rfl

end Sys2Proof.Machine
end

