-- ==== Sys2Proof/WellFormed.lean ====
section
/-!
DEFINITION. Which commands can come: what the operands of a command cannot be, because no part of the Z96 and no frame could bring
it. A command's meaning does not ask for it; an operand that the spec names as wrong (a bad frame, an illegal bundle) is
well-formed here and has its effect.
-/
namespace Sys2Proof

namespace Machine

/-- A bundle has at most eight syllables (R110). -/
def Op.wf (o : Op) : Bool := decide (o.ext.length ≤ 7)

/-- A transport form belongs to its ports: UDP to ETA, ETB and TS, raw frames to TS, CAN frames to the CAN ports (R328, R329). -/
def DictFrame.wf (f : DictFrame) : Bool :=
  decide (f.body.length ≤ f.room) &&
    (if f.form = 0 then decide (f.port.val ≤ 2) else if f.form = 1 then f.port.val == 2 else decide (3 ≤ f.port.val))

/-- Payloads: 64 bytes on CAN, 8 on LIN, 1,500 on Ethernet (R334, R341). -/
def BusFrame.wf (f : BusFrame) : Bool :=
  decide (f.data.length ≤ if f.port.val < 8 then 64 else if f.port.val < 11 then 1500 else 8)

/-- A figure for each unit at most, and dies that apply within 2 counts (R18). -/
def ColIn.wf (m : ColIn) : Bool :=
  decide (m.ifb.length ≤ 96 ∧ m.irms.length ≤ 96 ∧ m.sat.length ≤ 96 ∧ m.hbAvg.length ≤ 16 ∧ m.hbRms.length ≤ 16 ∧
    m.chopped.length ≤ 16 ∧ m.vdRms.length ≤ 24 ∧ m.vbRms.length ≤ 4 ∧ m.stageIn.length ≤ 4 ∧ m.stageOut.length ≤ 4 ∧
    m.dieRef.length ≤ 4 ∧ m.spread ≤ 2)

/-- A UHF answer has 22 bytes (R403). -/
def UhfFrame.wf (f : UhfFrame) : Bool := f.bytes.length == 22

/-- Key slots are 0 to 63 (R418). -/
def slotList (l : List Nat) : Bool := l.all fun k => decide (k < 64)

/-- Failed key records name slots. -/
def StartIn.wf (x : StartIn) : Bool := slotList x.keys.bad

end Machine

/-- Registers stand at multiples of 4 (R6). -/
def wordOffset (o : BitVec 22) : Bool := o.toNat % 4 == 0

/-- A pass stands at an offset from 16 to 2^19 − 1 (R48). -/
def passOffset (o : Nat) : Bool := decide (16 ≤ o ∧ o < 2 ^ 19)

/-- Eight sense pins, 12-bit codes (R152). -/
def scanPins (l : List Nat) : Bool := l.length == 8 && l.all fun c => decide (c < 4096)

/-- An SBS chunk has 1 to 256 bytes (R453). -/
def chunkSize (l : List Byte) : Bool := decide (1 ≤ l.length ∧ l.length ≤ 256)

/-- A bundle has 1 to 8 syllables (R110). -/
def bundleSize (l : List Word32) : Bool := decide (1 ≤ l.length ∧ l.length ≤ 8)

/-- An echo request carries what an Ethernet frame holds (R334). -/
def payloadSize (l : List Byte) : Bool := decide (l.length ≤ 1500)

/-- A poll answer has 8 bytes (R416). -/
def pollSize (l : List Byte) : Bool := l.length == 8

/-- A command that can come. -/
def Instr.wf (i : Instr) : Bool :=
  match i with
  | .registerWrite _ off _ => wordOffset off
  | .readClear _ off => wordOffset off
  | .groupFirstRead _ off => wordOffset off
  | .pairHighWrite _ off _ => wordOffset off
  | .stageCutoff => true
  | .dieLinkFrame _ _ _ => true
  | .dieLinkLoss _ => true
  | .col m => m.wf
  | .ledgerUpdate _ => true
  | .passNop off _ => passOffset off
  | .passCode off _ _ _ => passOffset off
  | .passEdge off _ _ => passOffset off
  | .passSample off _ _ => passOffset off
  | .passBusTx off _ _ => passOffset off
  | .passLinSlot off _ _ _ => passOffset off
  | .passScan off _ _ => passOffset off
  | .passAccess off _ _ => passOffset off
  | .passMark off _ _ => passOffset off
  | .passPlain off _ _ => passOffset off
  | .plainSuspend _ => true
  | .load _ => true
  | .planLoadDone => true
  | .laneFault _ _ => true
  | .narrowsSwitch => true
  | .hoArm _ => true
  | .hoAbort _ => true
  | .handover => true
  | .laneNop op => op.wf
  | .laneAdd op => op.wf
  | .laneAddi op => op.wf
  | .laneSub op => op.wf
  | .laneAnd op => op.wf
  | .laneAndi op => op.wf
  | .laneOr op => op.wf
  | .laneOri op => op.wf
  | .laneXor op => op.wf
  | .laneXori op => op.wf
  | .laneShl op => op.wf
  | .laneShli op => op.wf
  | .laneShr op => op.wf
  | .laneShri op => op.wf
  | .laneSar op => op.wf
  | .laneSari op => op.wf
  | .laneMov op => op.wf
  | .laneLi op => op.wf
  | .laneLih op => op.wf
  | .laneSel op => op.wf
  | .laneMin op => op.wf
  | .laneMax op => op.wf
  | .laneMinu op => op.wf
  | .laneMaxu op => op.wf
  | .laneAbs op => op.wf
  | .laneClz op => op.wf
  | .lanePopc op => op.wf
  | .laneSext op => op.wf
  | .laneAdds op => op.wf
  | .laneSubs op => op.wf
  | .laneCmpeq op => op.wf
  | .laneCmpne op => op.wf
  | .laneCmplt op => op.wf
  | .laneCmple op => op.wf
  | .laneCmpltu op => op.wf
  | .laneCmpleu op => op.wf
  | .laneCmpeqi op => op.wf
  | .laneCmplti op => op.wf
  | .laneTstb op => op.wf
  | .lanePand op => op.wf
  | .lanePor op => op.wf
  | .lanePnot op => op.wf
  | .lanePget op => op.wf
  | .lanePset op => op.wf
  | .laneMul op => op.wf
  | .laneMulhs op => op.wf
  | .laneMulhu op => op.wf
  | .laneDiv op => op.wf
  | .laneDivu op => op.wf
  | .laneRem op => op.wf
  | .laneRemu op => op.wf
  | .laneLdb op => op.wf
  | .laneLdbu op => op.wf
  | .laneLdh op => op.wf
  | .laneLdhu op => op.wf
  | .laneLdw op => op.wf
  | .laneLdwu op => op.wf
  | .laneLdd op => op.wf
  | .laneLddx op => op.wf
  | .laneStb op => op.wf
  | .laneSth op => op.wf
  | .laneStw op => op.wf
  | .laneStd op => op.wf
  | .laneStdx op => op.wf
  | .laneTas op => op.wf
  | .laneLr op => op.wf
  | .laneSc op => op.wf
  | .laneBr op => op.wf
  | .laneBrl op => op.wf
  | .laneBri op => op.wf
  | .laneBril op => op.wf
  | .laneEndb op => op.wf
  | .laneWait op => op.wf
  | .laneDropp op => op.wf
  | .laneRdcyc op => op.wf
  | .laneRdlane op => op.wf
  | .laneTrap op => op.wf
  | .injEcc2 _ _ => true
  | .injEcc1 _ _ => true
  | .injResidue _ _ => true
  | .nandHot _ _ => true
  | .pulseGroupPhasePoint _ _ => true
  | .dinEdge _ _ => true
  | .mirrorScanConversion _ pins _ => scanPins pins
  | .fwTest _ => true
  | .fwTestEnd _ _ _ => true
  | .limitTimeout _ => true
  | .hardShort _ => true
  | .overTemperatureTrip _ => true
  | .openLoadOn _ => true
  | .offStateDiag _ _ => true
  | .clampTrip _ => true
  | .thermalLatchClear _ => true
  | .retryRestart _ => true
  | .retryRefill _ => true
  | .reload _ => true
  | .holdoverExpiry _ => true
  | .lswForceClamp _ _ => true
  | .lswForceTherm _ _ => true
  | .lswForceShort _ _ => true
  | .lswForceOpen _ _ => true
  | .ledgerAdmit _ _ _ => true
  | .ledgerRelease _ _ => true
  | .inrushEnd _ => true
  | .ledgerForceSegtrip _ _ => true
  | .reversalBrakeEnd _ => true
  | .brakeLimit _ => true
  | .bridgeShort _ => true
  | .bridgeOverTemperature _ => true
  | .stall _ => true
  | .supbOvervoltage _ => true
  | .gateDriverFault _ => true
  | .rippleAccept _ _ _ _ => true
  | .rippleInsert _ => true
  | .rippleExtrapolate _ => true
  | .rippleExtrapExpiry _ => true
  | .posWrite _ _ _ => true
  | .hbrForceStall _ _ => true
  | .hbrForceTherm _ _ => true
  | .hbrForceShort _ _ => true
  | .valveStart _ => true
  | .valveOff _ => true
  | .valveRearm _ => true
  | .microcodeWrite _ _ _ _ _ => true
  | .ucNop _ _ => true
  | .ucSeti _ _ => true
  | .ucRamp _ _ => true
  | .ucPeak _ _ => true
  | .ucHold _ _ => true
  | .ucRel _ _ => true
  | .ucEnd _ _ => true
  | .ucWaitt _ _ => true
  | .ucWaiti _ _ => true
  | .ucWaitp _ _ => true
  | .ucBrdl _ _ => true
  | .ucJmp _ _ => true
  | .ucSetn _ _ => true
  | .ucLoop _ _ => true
  | .ucMark _ _ => true
  | .peakCut _ => true
  | .runmaxExpiry _ => true
  | .coilModelUpdate _ _ => true
  | .pksCapMeasure _ => true
  | .pksOvervoltage _ => true
  | .vdShort _ => true
  | .openCoil _ => true
  | .vdOverTemperature _ => true
  | .longClamp _ => true
  | .vbProtection _ _ => true
  | .valveForceCoilhot _ _ => true
  | .valveForceTherm _ _ => true
  | .valveForceOpen _ _ => true
  | .valveForceShort _ _ => true
  | .ledModelUpdate _ _ _ => true
  | .headroomMeasure _ _ _ => true
  | .setpointStep _ _ => true
  | .stageReady _ _ => true
  | .openString _ => true
  | .stringShort _ => true
  | .sinkOverTemperature _ => true
  | .stageProtection _ _ => true
  | .sinkRearm _ => true
  | .stageRearm _ => true
  | .matrixRearm => true
  | .matrixFrameEnd => true
  | .matrixDiag _ => true
  | .matrixHoldoverFrame => true
  | .lightForceLeak _ _ => true
  | .lightForceTherm _ _ => true
  | .lightForceShort _ _ => true
  | .lightForceOpen _ _ => true
  | .timeBaseCarry => true
  | .slowratioMeasure _ => true
  | .syncMessage _ _ _ => true
  | .compareFire _ => true
  | .counterStep _ _ => true
  | .udcstart _ _ => true
  | .captureEdge _ _ _ => true
  | .siLevelChange _ _ => true
  | .siValleyPoll _ _ => true
  | .aiConversionDone _ _ => true
  | .dictRead f => f.wf
  | .dictWrite f => f.wf
  | .dictInvoke f => f.wf
  | .dictDescribe f => f.wf
  | .dictBlobRead f => f.wf
  | .jStatus f => f.wf
  | .jByCseq f => f.wf
  | .jRead f => f.wf
  | .jScan f => f.wf
  | .jStarts f => f.wf
  | .commandAcceptance _ => true
  | .answerTransmit _ => true
  | .busFrameReceive f => f.wf
  | .linHeaderReceive _ _ _ => true
  | .neighbourSolicitation _ _ _ _ => true
  | .echoRequest _ _ _ data => payloadSize data
  | .linkLoss _ => true
  | .plcaLost => true
  | .transmitOpportunity => true
  | .canBusOff _ => true
  | .busOffRecovery _ => true
  | .canRecover _ _ => true
  | .outPost _ _ _ _ => true
  | .outcomeJournaled _ => true
  | .namedColSnapshot => true
  | .barrierReport => true
  | .stagedControllerReset => true
  | .drainChunk _ => true
  | .persistentStore => true
  | .journalForceBank1 _ => true
  | .journalForceBank0 _ => true
  | .sleepArm _ => true
  | .watershed => true
  | .descentStart => true
  | .forcedEntry => true
  | .parkingCol => true
  | .valleyEntryComplete => true
  | .tc10Timeout _ => true
  | .valleyExit => true
  | .wakeLinePulse => true
  | .wakeLineStuck => true
  | .canSelectiveWake _ _ => true
  | .ethernetWake _ _ => true
  | .linWake _ => true
  | .sbsAddress _ _ => true
  | .noTrafficExpiry => true
  | .maxawakeExpiry => true
  | .powerPulse _ => true
  | .powerKeep _ => true
  | .powerAbort _ => true
  | .laneSupplyFault _ => true
  | .powerForceDescent _ => true
  | .powerForceMaxawake _ => true
  | .powerForceFalsewake _ => true
  | .powerForceWakeline _ => true
  | .powerForceVlane _ => true
  | .uhfAnswer f => f.wf
  | .roundEnd => true
  | .roundAbort _ => true
  | .aerialFault _ _ => true
  | .lockoutEnd => true
  | .lockoutLevelClear => true
  | .immoGo _ => true
  | .immoWindowExpiry => true
  | .accessPoll => true
  | .pollAnswer bytes => pollSize bytes
  | .accessForceRelay _ => true
  | .accessForceAerial _ => true
  | .accessForceFail _ => true
  | .keyImport _ _ _ => true
  | .keyGenerate _ _ _ _ => true
  | .keyDerive _ _ _ _ => true
  | .keyExport _ _ _ => true
  | .keyErase _ _ => true
  | .keyLock _ _ => true
  | .keyRenewFb _ => true
  | .keyZeroise _ => true
  | .keyOperationDone => true
  | .keyRecordCheck bad => Machine.slotList bad
  | .tamper _ => true
  | .trngFail => true
  | .crqCmac _ _ => true
  | .crqEncrypt _ _ => true
  | .crqSha256 _ => true
  | .crqAttest _ => true
  | .crqDone => true
  | .keysForceTamper _ => true
  | .keysForceSlotfail _ => true
  | .keysForceTrng _ => true
  | .updateBegin _ => true
  | .eraseDone => true
  | .updateVerify _ => true
  | .verifyDone => true
  | .updateAbort _ => true
  | .updateRecover _ => true
  | .stagingPush _ => true
  | .chunkWrite _ => true
  | .activationConfirm => true
  | .sbsStatus _ => true
  | .sbsBegin _ => true
  | .sbsChunk _ _ data _ => chunkSize data
  | .sbsVerify _ => true
  | .sbsActivate _ => true
  | .sbsRecover _ _ => true
  | .sbsRead _ => true
  | .updateForceSelector _ => true
  | .updateForceDigest _ => true
  | .updateForceStore _ => true
  | .faultForce _ _ _ _ => true
  | .faultAck _ _ => true
  | .faultAckone _ _ _ => true
  | .refclkFault => true
  | .terminalDumpDone => true
  | .logClear _ => true
  | .logClrdump _ => true
  | .terminalLatchClear => true
  | .supplyRise _ _ => true
  | .supplyFall _ _ => true
  | .supplyUndervoltage _ _ => true
  | .pwrDomainOn _ _ => true
  | .rstnLow _ => true
  | .controllerReset => true
  | .start x => x.wf
  | .illegalEncoding _ words => bundleSize words
  | .unsupportedOperation f => f.wf
  | .linkUp _ => true
  | .plcaInStep => true
  | .timeAwareNeighbourLoss => true
  | .tc10SleepHandshake _ => true
  | .wakeLineRecovery => true
  | .wakePulseEnd => true
  | .cleaningPulseEnd _ => true
  | .loadDump _ _ => true
  | .currentLimit _ _ => true
  | .pksReady _ => true
  | .testAccessPort _ _ => true

end Sys2Proof
end

