-- ==== Sys2Proof/Tests/Slice0.lean ====
section
/-!
SUPPORT. Tests: commands that WellFormed refuses, the spec's worked examples and single steps; and for every obligation with
hypotheses a witness, theorem witness_<its name>, that states and operands meet the hypotheses of each of its clauses together.
-/
namespace Sys2Proof.Tests

open Sys2Proof.Machine
set_option linter.unusedVariables false

/-! ### States of the witnesses -/

/-- A state in which a plan runs, with some fields of the registers, as written and as acted on, set. -/
def mk (l e : List (Field × Nat × Nat)) : State :=
  e.foldl (fun s p => s.setEff p.1 p.2.1 p.2.2)
    (({ State.reset with
        collectorUp := true, boot := 0, now := 2600, dom := { keep := true, logic := true, net := true, pwr := 0xF, wait := 0, uv := 0 }
        seq := { Seq.init with period := 10000, k := 4, tickCyc := 4000 } }).setFlds
      ([(Reg.TICK.COL_LO.COUNT, 0, 2000), (Reg.TICK.COLNUM_LO.NUMBER, 0, 7), (Reg.TICK.STATUS.STATE, 0, seqRun)] ++ l))
theorem fresh_nil {s : State} (h : s.flags = []) (a b : Nat) : Fresh s a b := by
  intro f hf
  rw [h] at hf
  cases hf
def cols : ColIn := { ifb := [], irms := [], sat := [], hbAvg := [], hbRms := [], chopped := [], vdRms := [], vbRms := [], stageIn := [], stageOut := [], dieRef := [], spread := 0 }
theorem calm_one {s : State} {k : Nat} {c : LswCh} (h : s.lsw = [(k, c)]) (hq : s.raiseQ = []) (hc : c.forceClamp = false) : Calm s := by
  refine ⟨hq, fun n => ?_⟩
  unfold State.lswCh
  rw [h]
  unfold smapGet
  split
  · exact hc
  · rfl
/-- A sound microcode word of an opcode: branch target 16, T 1. -/
def ucw (op : Nat) : Word := BitVec.ofNat 64 (op * 2 ^ 58 + 16 * 2 ^ 49 + 1)
/-- A journal entry of a write. -/
def ent (q index sub : Nat) (v : List Byte) : JEntry :=
  { op := 2, port := 0, client := 1, seq := q, accept := 100, cseq := 1, index := index, sub := sub, vtype := 4, role := 3, value := v }
/-- An outcome post. -/
def post1 : JPost := { seq := 53, outcome := 1, reason := 0, bind := 0xFFFF, grant := 0, col := 8, data := [], own := false }
/-- Bytes at offsets of an image. -/
def imgOf (l : List (Nat × List Byte)) : List (Nat × Byte) := l.flatMap fun p => p.2.zipIdx.map fun q => (p.1 + q.2, q.1)
/-- A plan whose device-table section holds one table, of one entry. -/
def tablePlan (type : Byte) (entry : List Byte) : Plan :=
  { img := imgOf [(0x80, [4, 0, 0xFF, 0, 0, 0, 2, 0]), (0x200, [0, type, 0, 1, 0, 0, 0, 0x10]), (0x210, entry)], len := 0x400, valid := true }
/-- The key of the dictionary client of the witnesses. -/
def dkey : List Byte := List.replicate 16 7
/-- A request of client 32 on port TS over UDP. -/
def req (op flags : Byte) (index : BitVec 16) (sub vtype : Byte) (cseq : BitVec 32) (body : List Byte) : DictFrame :=
  { port := 2, form := 0, intact := true, fd := false, brs := false, room := 24 + body.length, ver := 1, op := op, flags := flags,
    status := 0, client := 32, bodyLen := BitVec.ofNat 16 body.length, cseq := cseq, index := index, sub := sub, vtype := vtype,
    body := body, tag := 0 }
/-- The registers of a state in which port TS and the dictionary serve client 32 of a role, with fields set. -/
def dct (role : Nat) (l e : List (Field × Nat × Nat)) : State :=
  { mk ([(Reg.KEYS.SLOT.CLASS, 63, keyClient), (Reg.KEYS.STATUS.PUF_OK, 0, 1), (Reg.KEYS.STATUS.FB_OK, 0, 1)] ++ l)
      ([(Reg.NET.DICTCFG.PORTS, 0, 4), (Reg.NET.TSCFG.EN, 0, 1)] ++ e) with
    net := { Net.init with clients := [(32, { slot := 63, role := role, ports := 4 })] }
    keys := { Keys.init with mat := [(63, dkey)] } }
theorem clientOk_of {s : State} {g : DictFrame} {role : Nat} {row : ClientRow} (hg : smapGet ClientRow.init s.net.clients g.client.toNat = row)
    (hc : ¬(g.client.toNat = 0 ∨ 32 < g.client.toNat ∨ row.role = 0 ∨ (!row.ports.testBit g.port.val) = true))
    (hk : keyFor s row.slot keyClient = some dkey) (hr : row.role = role)
    (ht : requestTag dkey g = beBytes g.tag.toNat 8) : clientOk s g = some (role, dkey) := by
  unfold clientOk
  simp only [hg]
  rw [if_neg hc, hk]
  simp only
  rw [if_pos ht, hr]
theorem authentic_of {s : State} {f : DictFrame} {role : Nat} {n : Byte} (h : f.op = n) (ha : Authentic s f role dkey) :
    Authentic s { f with op := n } role dkey := by
  cases h; exact ha
/-- A plan whose variant 0 has one pass and, with a type, a device table of one entry. -/
def passPlan (kind off lane arg : Nat) (type : Byte) (entry : List Byte) : Plan :=
  { img := imgOf [(0x80, [3, 0, 0xFF, 0, 0, 0, 3, 0]), (0x94, [0, 0, 2, 0]), (0x90, [4, 0, 0xFF, 0]),
      (0x200, [0, type, 0, 1, 0, 0, 0, 0x10]), (0x210, entry), (0x300, [0, 0, 0, 2]),
      (0x310, beBytes (off * 2 ^ 45 + kind * 2 ^ 41 + lane * 2 ^ 39 + arg) 8)], len := 0x400, valid := true }
/-- A slot that allows an operation. -/
def slotFor (k : OpKind) : Slot :=
  let m := (opRow k).slots
  if m / 8 % 2 = 1 then .d else if m % 2 = 1 then .a else if m / 2 % 2 = 1 then .b else .c
/-- An operation alone in its bundle on lane 3, with G6 as source A and its zero bits zero. -/
def alone (k : OpKind) (neg : Bool) : Op :=
  { lane := 3, slot := slotFor k, neg := neg, pred := 0, opnd := BitVec.ofNat 18 ((5 * 4096 + 6 * 64) &&& (0x3FFFF - zeroBits k)),
    ext := [], stop := true }
/-- A state in which lane 3 runs, plains code or not, with a value in G6. -/
def laneState (plain : Bool) (a : Word) : State :=
  { State.reset with collectorUp := true, boot := 0, lanes := [(3, { Lane.init 3 with running := true, pc := 0x1FFFC, plain := plain, plainEnd := 2, gS := [(6, a)], gP := [(6, a)] })] }
theorem ready_alone {k : OpKind} {neg plain : Bool} {a : Word} (h : bundleCause [{ kind := k, op := alone k neg }] = 0) :
    Ready (laneState plain a) k (alone k neg) :=
  ⟨rfl, rfl, rfl, rfl, fun e he => (nomatch (show e ∈ ([] : List LaneEv) from he)), rfl,
    ⟨Nat.zero_le _, Nat.le_refl _⟩, (show 0x1FFFC % 4 = 0 from rfl), h, fun _ => Nat.le_refl _, rfl⟩
theorem witness_RegisterOperationsDeliver :
    (∀ r ∈ aluRows, ∃ (s : State) (op : Op), Ready s r.2.1 op ∧ op.guard s = true) ∧
    (∀ r ∈ mulRows, ∃ (s : State) (op : Op), Ready s r.2.1 op ∧ op.guard s = true) ∧
    (∀ r ∈ divRows, ∃ (s : State) (op : Op), Ready s r.2.1 op ∧ op.guard s = true ∧ (op.at s).divUntil ≤ op.cyc s) := by
  have h : ∀ r ∈ aluRows, bundleCause [{ kind := r.2.1, op := alone r.2.1 false }] = 0 := by decide +kernel
  have hm : ∀ r ∈ mulRows, bundleCause [{ kind := r.2.1, op := alone r.2.1 false }] = 0 := by decide +kernel
  have hd : ∀ r ∈ divRows, bundleCause [{ kind := r.2.1, op := alone r.2.1 false }] = 0 := by decide +kernel
  exact ⟨fun r hr => ⟨laneState false 5, alone r.2.1 false, ready_alone (h r hr), rfl⟩,
    fun r hr => ⟨laneState true 5, alone r.2.1 false, ready_alone (hm r hr), rfl⟩,
    fun r hr => ⟨laneState true 5, alone r.2.1 false, ready_alone (hd r hr), rfl, Nat.zero_le _⟩⟩
theorem witness_PredicatesAndSelDeliver :
    (∀ r ∈ predRows, ∃ (s : State) (op : Op), Ready s r.2.1 op ∧ op.guard s = true) ∧
    (∃ (s : State) (op : Op), Ready s .pset op ∧ op.guard s = true) ∧ (∃ (s : State) (op : Op), Ready s .nop op) ∧
    (∃ (s : State) (op : Op), Ready s .sel op) := by
  have hp : ∀ r ∈ predRows, bundleCause [{ kind := r.2.1, op := alone r.2.1 false }] = 0 := by decide +kernel
  exact ⟨fun r hr => ⟨laneState true 5, alone r.2.1 false, ready_alone (hp r hr), rfl⟩,
    ⟨laneState false 5, alone .pset false, ready_alone (by decide), rfl⟩, ⟨laneState false 5, alone .nop false, ready_alone (by decide)⟩,
    laneState true 5, alone .sel false, ready_alone (by decide)⟩
theorem witness_FalseGuardDoesNothing :
    (∀ p ∈ (aluRows.map fun r => (r.1, r.2.1)) ++ (mulRows.map fun r => (r.1, r.2.1)) ++ (predRows.map fun r => (r.1, r.2.1)) ++
        [(.lanePset, .pset), (.laneEndb, .endb), (.laneWait, .wait), (.laneDropp, .dropp), (.laneTrap, .trap)],
      ∃ (s : State) (op : Op), Ready s p.2 op ∧ op.guard s = false) ∧
    (∀ r ∈ divRows, ∃ (s : State) (op : Op), Ready s r.2.1 op ∧ op.guard s = false) := by
  have h : ∀ p ∈ (aluRows.map fun r => (r.1, r.2.1)) ++ (mulRows.map fun r => (r.1, r.2.1)) ++ (predRows.map fun r => (r.1, r.2.1)) ++
      [(.lanePset, .pset), (.laneEndb, .endb), (.laneWait, .wait), (.laneDropp, .dropp), (.laneTrap, .trap)],
      bundleCause [{ kind := p.2, op := alone p.2 true }] = 0 := by decide +kernel
  have hd : ∀ r ∈ divRows, bundleCause [{ kind := r.2.1, op := alone r.2.1 true }] = 0 := by decide +kernel
  exact ⟨fun p hp => ⟨laneState false 5, alone p.2 true, ready_alone (h p hp), rfl⟩,
    fun r hr => ⟨laneState true 5, alone r.2.1 true, ready_alone (hd r hr), rfl⟩⟩
theorem witness_LoadsAndStoresAccessTheirWindow :
    (∀ r ∈ loadRows, ∃ (s : State) (op : Op), Ready s r.2.1 op ∧ op.guard s = true ∧ accessOk s r.2.1 op r.2.2.1 false false) ∧
    (∀ r ∈ storeRows, ∃ (s : State) (op : Op), Ready s r.2.1 op ∧ op.guard s = true ∧ accessOk s r.2.1 op r.2.2 true false) := by
  have hl : ∀ r ∈ loadRows, bundleCause [{ kind := r.2.1, op := alone r.2.1 false }] = 0 ∧
      memCause ((alone r.2.1 false).ctx (laneState false 0x1003FFF8)) (laneState false 0x1003FFF8) (alone r.2.1 false).slot
        (memAddr (laneState false 0x1003FFF8) r.2.1 (alone r.2.1 false) r.2.2.1) r.2.2.1 false false = 0 := by decide +kernel
  have hs : ∀ r ∈ storeRows, bundleCause [{ kind := r.2.1, op := alone r.2.1 false }] = 0 ∧
      memCause ((alone r.2.1 false).ctx (laneState false 0x201FFFF8)) (laneState false 0x201FFFF8) (alone r.2.1 false).slot
        (memAddr (laneState false 0x201FFFF8) r.2.1 (alone r.2.1 false) r.2.2) r.2.2 true false = 0 := by decide +kernel
  exact ⟨fun r hr => ⟨laneState false 0x1003FFF8, alone r.2.1 false, ready_alone (hl r hr).1, rfl, (hl r hr).2⟩,
    fun r hr => ⟨laneState false 0x201FFFF8, alone r.2.1 false, ready_alone (hs r hr).1, rfl, (hs r hr).2⟩⟩
theorem witness_AtomicsTakeTheSlot :
    ∀ r ∈ atomicRows, ∃ (s : State) (op : Op), Ready s r.2.1 op ∧ op.guard s = true ∧ accessOk s r.2.1 op 8 r.2.2 true := by
  have h : ∀ r ∈ atomicRows, bundleCause [{ kind := r.2.1, op := alone r.2.1 false }] = 0 ∧
      memCause ((alone r.2.1 false).ctx (laneState true 0x20000008)) (laneState true 0x20000008) (alone r.2.1 false).slot
        (memAddr (laneState true 0x20000008) r.2.1 (alone r.2.1 false) 8) 8 r.2.2 true = 0 := by decide +kernel
  exact fun r hr => ⟨laneState true 0x20000008, alone r.2.1 false, ready_alone (h r hr).1, rfl, (h r hr).2⟩
theorem witness_BranchesAndBlockEnds :
    (∀ k ∈ [OpKind.br, .bri, .brl, .bril], ∃ (s : State) (op : Op), Ready s k op) ∧
    (∀ w : Bool, ∃ (s : State) (op : Op), Ready s (if w then .wait else .endb) op ∧ op.guard s = true ∧ (op.at s).plain = false) ∧
    (∃ (s : State) (op : Op), Ready s .endb op ∧ op.guard s = true ∧ (op.at s).plain = true) ∧
    (∃ (s : State) (op : Op), Ready s .dropp op ∧ op.guard s = true) := by
  have h : ∀ k ∈ [OpKind.br, .bri, .brl, .bril, .wait, .endb, .dropp], bundleCause [{ kind := k, op := alone k false }] = 0 := by
    decide +kernel
  exact ⟨fun k hk => ⟨laneState true 5, alone k false, ready_alone (h k (by simp at hk ⊢; tauto))⟩,
    fun w => ⟨laneState false 5, alone _ false, ready_alone (h _ (by cases w <;> simp)), by cases w <;> rfl, by cases w <;> rfl⟩,
    ⟨laneState true 5, alone .endb false, ready_alone (h _ (by simp)), rfl, rfl⟩,
    ⟨laneState false 5, alone .dropp false, ready_alone (h _ (by simp)), rfl⟩⟩
theorem witness_TrapsAreRecorded :
    (∃ (s : State) (op : Op), Ready s .trap op ∧ op.guard s = true ∧ Live s) ∧
    (∃ (s : State) (lane : Fin 4) (words : List Word32), (s.lane lane.val).running = true ∧ (s.lane lane.val).inService = true ∧
      (s.lane lane.val).cur = [] ∧ (bundleWords 8 words).any illegalWord = true ∧
      (∀ e ∈ s.laneEv, (s.lane lane.val).cyc < e.due) ∧ (s.lane lane.val).redirects = [] ∧
      plainsEntry s ≤ (s.lane lane.val).pc.toNat ∧
      (s.lane lane.val).pc.toNat + 4 * (bundleWords 8 words).length ≤ windowEnd s ∧
      (s.lane lane.val).pc.toNat % 4 = 0 ∧ Live s) :=
  ⟨⟨laneState true 5, alone .trap false, ready_alone (by decide +kernel), rfl, ⟨by decide, by decide, by decide⟩⟩,
   ⟨laneState true 5, 3, [0x9F800000], by decide, by decide, by decide, by decide +kernel, by decide, by decide, by decide,
     by decide +kernel, by decide, ⟨by decide, by decide, by decide⟩⟩⟩
/-- An operation of lane 3 in flight. -/
def flying (act : LaneAct) : LaneEv := { due := 9, prio := 1, issue := 3, lane := 3, act := act }
theorem witness_OperationsInFlightAct :
    (∀ act ∈ [LaneAct.shLoad true 63 0x1FFFF8 8 true, .tas true 63 0x1FFFF8, .lr true 63 0x1FFFF8, .sc true 63 0x1FFFF8 5,
      .land 0x1FFFF8 8 5, .dstore 0x3FFF8 8 5, .gpr true 63 5, .pred true 7 true], ∃ e : LaneEv, e.act = act) ∧
    (∃ (s : State) (e : LaneEv) (a : Nat), e.act = .sc true 63 a 5 ∧
      ∃ r, (s.lane e.lane).resv = some r ∧ r.gran = a / 8 ∧ r.broken = false) ∧
    (∃ (s : State) (e : LaneEv) (a : Nat), e.act = .sc true 63 a 5 ∧
      ¬∃ r, (s.lane e.lane).resv = some r ∧ r.gran = a / 8 ∧ r.broken = false) ∧
    (∃ (s : State) (e : LaneEv) (n : Nat), e.act = .land 0x1FFFF8 8 5 ∧ n < 4 ∧ n ≠ e.lane ∧ ∃ r, (s.lane n).resv = some r) ∧
    (∃ (s : State) (e : LaneEv), e.act = .dstore 0x3FFF8 8 5 ∧ dmemErrAt s e.lane 0x3FFF8 = 0) :=
  ⟨fun act _ => ⟨flying act, rfl⟩,
   ⟨{ State.reset with lanes := [(3, { Lane.init 3 with resv := some ⟨0x3FFFF, 5, false⟩ })] }, flying (.sc true 63 0x1FFFF8 5),
     0x1FFFF8, rfl, ⟨0x3FFFF, 5, false⟩, rfl, rfl, rfl⟩,
   ⟨State.reset, flying (.sc true 63 0x1FFFF8 5), 0x1FFFF8, rfl, fun ⟨_, h, _⟩ => nomatch h⟩,
   ⟨{ State.reset with lanes := [(0, { Lane.init 0 with resv := some ⟨0x3FFFF, 5, false⟩ })] }, flying (.land 0x1FFFF8 8 5),
     0, rfl, by decide, by decide, ⟨0x3FFFF, 5, false⟩, rfl⟩,
   ⟨State.reset, flying (.dstore 0x3FFF8 8 5), rfl, by decide⟩⟩

/-! ### Witnesses of the other obligations -/

theorem witness_LaneFaultsAndInjections :
    (∃ (s : State) (lane : Fin 4) (k : LaneFaultKind), Live s ∧ (s.lane lane.val).inService = true ∧ s.boot = 0 ∧
      s.laneEv = []) ∧
    (∃ (s : State) (b : By) (n : Fin 4), Forced s b) ∧
    (∃ (s : State) (b : By) (n : Fin 4), s.bit Reg.FAULT.CTRL.FORCE_EN 0 = false ∧ Live s) :=
  ⟨⟨mk [] [], 3, .clock, ⟨by decide, by decide, by decide⟩, by decide, by decide, by decide⟩,
   ⟨mk [(Reg.FAULT.CTRL.FORCE_EN, 0, 1)] [], ⟨true, 3, false⟩, 3, ⟨by decide, by decide⟩⟩,
   ⟨mk [(Reg.FAULT.CTRL.FORCE_EN, 0, 0)] [], ⟨true, 3, false⟩, 3, by decide, ⟨by decide, by decide, by decide⟩⟩⟩

theorem witness_LanePassesRunCode :
    (∃ (s : State) (off n : Nat) (lane : Fin 4), PassReady s 0 off lane.val 0 n) ∧
    (∃ (s : State) (off n : Nat) (lane : Fin 4) (block entry : BitVec 16),
      PassReady s 1 off lane.val (block.toNat * 2 ^ 16 + entry.toNat) n ∧ s.seq.overrun.contains n = false ∧
      atWait s n (s.colCount + off) = true) ∧
    (∃ (s : State) (off n : Nat) (lane : Fin 4) (block entry : BitVec 16),
      PassReady s 1 off lane.val (block.toNat * 2 ^ 16 + entry.toNat) n ∧ s.seq.overrun.contains n = false ∧
      atWait s n (s.colCount + off) = false ∧ Live s) ∧
    (∃ (s : State) (off n : Nat) (lane : Fin 4) (block : BitVec 16), PassReady s 8 off lane.val (block.toNat * 2 ^ 16) n ∧
      (n, block.toNat) ∉ s.seq.withheld ∧ block.toNat ∈ (s.lane n).done ∧ (s.lane n).endedAt ≤ cycleAt s (s.colCount + off)) ∧
    (∃ (s : State) (off n : Nat) (lane : Fin 4) (block : BitVec 16), PassReady s 8 off lane.val (block.toNat * 2 ^ 16) n ∧
      (n, block.toNat) ∉ s.seq.withheld ∧ block.toNat ∉ (s.lane n).done ∧ Live s) ∧
    (∃ (s : State) (off n : Nat) (lane : Fin 4) (len : BitVec 20), PassReady s 9 off lane.val len.toNat n ∧ n < 4 ∧
      atWait s n (s.colCount + off) = true) ∧
    (∃ (s : State) (lane : Fin 4), s.laneEv = [] ∧ (s.lane lane.val).running = true ∧ (s.lane lane.val).plain = true ∧
      (s.lane lane.val).redirects = []) ∧
    (∃ (s : State) (lane : Fin 4), s.laneEv = [] ∧ ((s.lane lane.val).running = false ∨ (s.lane lane.val).plain = false)) :=
  ⟨⟨{ mk [] [] with plan := passPlan 0 9999 3 0 0 [], seq := { Seq.init with period := 10000, k := 4, tickCyc := 4000, passOff := 9998 } },
     9999, 3, 3, ⟨by decide, by decide, by decide, by decide, by decide⟩⟩,

     ⟨{ mk [] [] with plan := passPlan 1 9999 3 0x0002000F 0 [], seq := { Seq.init with period := 10000, k := 4, tickCyc := 4000, passOff := 9998 }, lanes := [(3, { Lane.init 3 with endedAt := 43996 })] },
     9999, 3, 3, 2, 15, ⟨by decide, by decide, by decide, by decide, by decide⟩, by decide, by decide⟩,

     ⟨{ mk [] [] with plan := passPlan 1 9999 3 0x0002000F 0 [], seq := { Seq.init with period := 10000, k := 4, tickCyc := 4000, passOff := 9998 }, lanes := [(3, { Lane.init 3 with endedAt := 43997 })] },
     9999, 3, 3, 2, 15, ⟨by decide, by decide, by decide, by decide, by decide⟩, by decide, by decide, ⟨by decide, by decide,
     by decide⟩⟩,

     ⟨{ mk [] [] with plan := passPlan 8 9999 3 0x00020000 0 [], seq := { Seq.init with period := 10000, k := 4, tickCyc := 4000, passOff := 9998 }, lanes := [(3, { Lane.init 3 with done := [2], endedAt := 43996 })] },
     9999, 3, 3, 2, ⟨by decide, by decide, by decide, by decide, by decide⟩, by decide, by decide, by decide⟩,

     ⟨{ mk [] [] with plan := passPlan 8 9999 3 0x00020000 0 [], seq := { Seq.init with period := 10000, k := 4, tickCyc := 4000, passOff := 9998 } },
     9999, 3, 3, 2, ⟨by decide, by decide, by decide, by decide, by decide⟩, by decide, by decide, ⟨by decide, by decide,
     by decide⟩⟩,

     ⟨{ mk [] [] with plan := passPlan 9 9999 3 0xFFFFF 0 [], seq := { Seq.init with period := 10000, k := 4, tickCyc := 4000, passOff := 9998 } },
     9999, 3, 3, 0xFFFFF, ⟨by decide, by decide, by decide, by decide, by decide⟩, by decide, by decide⟩,
   ⟨{ mk [] [] with lanes := [(3, { Lane.init 3 with running := true, plain := true })] }, 3, by decide, by decide,
     by decide, by decide⟩,
   ⟨mk [] [], 3, by decide, by decide⟩⟩

theorem witness_UnitPassesAct :
    (∃ (s : State) (off n : Nat) (lane : Fin 4), s.raiseQ = [] ∧ s.zoneSafe = false ∧ (∀ k, k < 16 →
      s.bit Reg.FAULT.HELD.VALID k = false) ∧ ∃ c : Fin 96, PassReady s 2 off lane.val c.val n ∧ s.edgeMode c.val = true ∧
      lswDie c.val ∈ linkedDies s ∧ smapGet (fun _ => 0) s.seq.dieMiss (lswDie c.val) = 0) ∧
    (∃ (s : State) (off n : Nat) (lane : Fin 4), s.raiseQ = [] ∧ s.zoneSafe = false ∧ (∀ k, k < 16 →
      s.bit Reg.FAULT.HELD.VALID k = false) ∧ ∃ c : Fin 16, PassReady s 2 off lane.val (2 ^ 24 + c.val) n ∧
      s.edgeMode (96 + c.val) = true ∧ hbDie c.val ∈ linkedDies s ∧ smapGet (fun _ => 0) s.seq.dieMiss (hbDie c.val) = 0) ∧
    (∃ (s : State) (off n : Nat) (lane : Fin 4), s.raiseQ = [] ∧ s.zoneSafe = false ∧ (∀ k, k < 16 →
      s.bit Reg.FAULT.HELD.VALID k = false) ∧ ∃ c : Fin 24, PassReady s 2 off lane.val (2 * 2 ^ 24 + c.val) n ∧
      s.edgeMode (112 + c.val) = true ∧ vdDie c.val ∈ linkedDies s ∧ smapGet (fun _ => 0) s.seq.dieMiss (vdDie c.val) = 0) ∧
    (∃ (s : State) (off n : Nat) (lane : Fin 4), s.raiseQ = [] ∧ s.zoneSafe = false ∧ (∀ k, k < 16 →
      s.bit Reg.FAULT.HELD.VALID k = false) ∧ ∃ c : Fin 32, PassReady s 2 off lane.val (3 * 2 ^ 24 + c.val) n ∧
      s.edgeMode (136 + c.val) = true ∧ sinkDie c.val ∈ linkedDies s ∧
      smapGet (fun _ => 0) s.seq.dieMiss (sinkDie c.val) = 0) ∧
    (∃ (s : State) (off n : Nat) (lane : Fin 4) (i : Fin 24), PassReady s 3 off lane.val (0x20 + i.val) n ∧
      smapGet (fun _ => 0) s.timers.aiUntil (aiDie i.val) ≤ s.colCount + off) ∧
    (∃ (s : State) (off n : Nat) (lane : Fin 4) (i : Fin 24), PassReady s 3 off lane.val (0x20 + i.val) n ∧
      s.colCount + off < smapGet (fun _ => 0) s.timers.aiUntil (aiDie i.val)) ∧
    (∃ (s : State) (off n e : Nat) (lane : Fin 4) (entry : BitVec 16), PassReady s 4 off lane.val entry.toNat n ∧
      s.tableEntry 1 entry.toNat = some e ∧ s.plan.be e 1 < 8 ∧ s.fld Reg.NET.CANSTAT.STATE (s.plan.be e 1) ≠ 2 ∧
      txHolds entry.toNat (txQueue s (busPort (s.plan.be e 1))) = false) ∧
    (∃ (s : State) (off n e : Nat) (lane : Fin 4) (entry : BitVec 16), PassReady s 4 off lane.val entry.toNat n ∧
      s.tableEntry 1 entry.toNat = some e ∧ s.plan.be e 1 < 8 ∧ s.fld Reg.NET.CANSTAT.STATE (s.plan.be e 1) ≠ 2 ∧
      txHolds entry.toNat (txQueue s (busPort (s.plan.be e 1))) = true ∧ Live s) ∧
    (∃ (s : State) (off n e : Nat) (lane : Fin 4) (entry : BitVec 16) (port : Fin 12),
      PassReady s 5 off lane.val (entry.toNat * 2 ^ 8 + port.val) n ∧ s.tableEntry 3 entry.toNat = some e ∧
      linUp s port.val = true ∧ s.colCount + off < (linPort s port.val).busyTo) ∧
    (∃ (s : State) (off n e : Nat) (lane : Fin 4) (entry : BitVec 16) (port : Fin 12),
      PassReady s 5 off lane.val (entry.toNat * 2 ^ 8 + port.val) n ∧ s.tableEntry 3 entry.toNat = some e ∧
      linUp s port.val = true ∧ (linPort s port.val).busyTo ≤ s.colCount + off ∧
      s.effBit Reg.NET.LINCFG.CMDR port.val = false) ∧
    (∃ (s : State) (off n : Nat) (lane : Fin 4), PassReady s 6 off lane.val 0xFF n ∧ matrixRail s = true ∧ mxBusy s = false) ∧
    (∃ (s : State) (off n : Nat) (lane : Fin 4), PassReady s 6 off lane.val 0xFF n ∧ matrixRail s = true ∧ mxBusy s = true) ∧
    (∃ (s : State) (off n : Nat) (lane : Fin 4) (l : Fin 12), PassReady s 6 off lane.val l.val n ∧ matrixRail s = true ∧
      mxBusy s = false) ∧
    (∃ (s : State) (off n e : Nat) (lane : Fin 4) (entry : BitVec 16), PassReady s 7 off lane.val entry.toNat n ∧
      s.tableEntry 6 entry.toNat = some e ∧ s.bit Reg.ACCESS.CTRL.EN 0 = true ∧ s.access.round = none ∧
      s.bit Reg.KEYS.STATUS.TRNG_OK 0 = true) ∧
    (∃ (s : State) (off n e : Nat) (lane : Fin 4) (entry : BitVec 16), PassReady s 7 off lane.val entry.toNat n ∧
      s.tableEntry 6 entry.toNat = some e ∧ s.bit Reg.ACCESS.CTRL.EN 0 = true ∧ s.access.round ≠ none) :=
  ⟨⟨{ mk [] [] with plan := passPlan 2 9999 3 95 7 (List.replicate 11 0 ++ [0x80]), seq := { Seq.init with period := 10000, k := 4, tickCyc := 4000, passOff := 9998 } },
     9999, 3, 3, by decide, by decide, by decide, 95, ⟨by decide, by decide, by decide, by decide, by decide⟩, by decide,
     by decide, by decide⟩,

     ⟨{ mk [] [] with plan := passPlan 2 9999 3 (2 ^ 24 + 15) 7 (List.replicate 13 0 ++ [0x80]), seq := { Seq.init with period := 10000, k := 4, tickCyc := 4000, passOff := 9998 } },
     9999, 3, 3, by decide, by decide, by decide, 15, ⟨by decide, by decide, by decide, by decide, by decide⟩, by decide,
     by decide, by decide⟩,

     ⟨{ mk [] [] with plan := passPlan 2 9999 3 (2 * 2 ^ 24 + 23) 7 (List.replicate 16 0 ++ [0x80]), seq := { Seq.init with period := 10000, k := 4, tickCyc := 4000, passOff := 9998 } },
     9999, 3, 3, by decide, by decide, by decide, 23, ⟨by decide, by decide, by decide, by decide, by decide⟩, by decide,
     by decide, by decide⟩,

     ⟨{ mk [] [] with plan := passPlan 2 9999 3 (3 * 2 ^ 24 + 31) 7 (List.replicate 20 0 ++ [0x80]), seq := { Seq.init with period := 10000, k := 4, tickCyc := 4000, passOff := 9998 } },
     9999, 3, 3, by decide, by decide, by decide, 31, ⟨by decide, by decide, by decide, by decide, by decide⟩, by decide,
     by decide, by decide⟩,

     ⟨{ mk [] [] with plan := passPlan 3 9999 3 0x37 0 [], seq := { Seq.init with period := 10000, k := 4, tickCyc := 4000, passOff := 9998 }, timers := { Timers.init with aiUntil := [(0, 11999), (1, 11999), (2, 11999), (3, 11999)] } },
     9999, 3, 3, 23, ⟨by decide, by decide, by decide, by decide, by decide⟩, by decide⟩,

     ⟨{ mk [] [] with plan := passPlan 3 9999 3 0x37 0 [], seq := { Seq.init with period := 10000, k := 4, tickCyc := 4000, passOff := 9998 }, timers := { Timers.init with aiUntil := [(0, 12000), (1, 12000), (2, 12000), (3, 12000)] } },
     9999, 3, 3, 23, ⟨by decide, by decide, by decide, by decide, by decide⟩, by decide⟩,

     ⟨{ mk [] [] with plan := passPlan 4 9999 3 0 1 [7], seq := { Seq.init with period := 10000, k := 4, tickCyc := 4000, passOff := 9998 } },
     9999, 3, 0x210, 3, 0, ⟨by decide, by decide, by decide, by decide, by decide⟩, by decide, by decide, by decide,
     by decide⟩,

     ⟨{ mk [] [] with plan := passPlan 4 9999 3 0 1 [7], seq := { Seq.init with period := 10000, k := 4, tickCyc := 4000, passOff := 9998 }, net := { Net.init with tx := [(10, [.bus 0 0 0 [] []])] } },
     9999, 3, 0x210, 3, 0, ⟨by decide, by decide, by decide, by decide, by decide⟩, by decide, by decide, by decide,
     by decide, ⟨by decide, by decide, by decide⟩⟩,

     ⟨{ mk [] [(Reg.NET.LINCFG.EN, 11, 1)] with plan := passPlan 5 9999 3 11 3 [11], seq := { Seq.init with period := 10000, k := 4, tickCyc := 4000, passOff := 9998 }, net := { Net.init with lin := [(11, { LinPort.init with busyTo := 12000 })] } },
     9999, 3, 0x210, 3, 0, 11, ⟨by decide, by decide, by decide, by decide, by decide⟩, by decide, by decide, by decide⟩,

     ⟨{ mk [] [(Reg.NET.LINCFG.CMDR, 11, 0), (Reg.NET.LINCFG.EN, 11, 1)] with plan := passPlan 5 9999 3 11 3 [11], seq := { Seq.init with period := 10000, k := 4, tickCyc := 4000, passOff := 9998 }, net := { Net.init with lin := [(11, { LinPort.init with busyTo := 11999 })] } },
     9999, 3, 0x210, 3, 0, 11, ⟨by decide, by decide, by decide, by decide, by decide⟩, by decide, by decide, by decide,
     by decide⟩,

     ⟨{ mk [(Reg.LEDGER.RESV.RESV, 117, 1)] [(Reg.LIGHT.MXCTRL.EN, 0, 1)] with plan := passPlan 6 9999 3 255 0 [], seq := { Seq.init with period := 10000, k := 4, tickCyc := 4000, passOff := 9998 } },
     9999, 3, 3, ⟨by decide, by decide, by decide, by decide, by decide⟩, by decide, by decide⟩,

     ⟨{ mk [(Reg.LEDGER.RESV.RESV, 117, 1), (Reg.LIGHT.MXSTAT.FRAME_BUSY, 0, 1)] [(Reg.LIGHT.MXCTRL.EN, 0, 1)] with plan := passPlan 6 9999 3 255 0 [], seq := { Seq.init with period := 10000, k := 4, tickCyc := 4000, passOff := 9998 } },
     9999, 3, 3, ⟨by decide, by decide, by decide, by decide, by decide⟩, by decide, by decide⟩,

     ⟨{ mk [(Reg.LEDGER.RESV.RESV, 117, 1)] [(Reg.LIGHT.MXCTRL.EN, 0, 1)] with plan := passPlan 6 9999 3 11 0 [], seq := { Seq.init with period := 10000, k := 4, tickCyc := 4000, passOff := 9998 } },
     9999, 3, 3, 11, ⟨by decide, by decide, by decide, by decide, by decide⟩, by decide, by decide⟩,

     ⟨{ mk [(Reg.ACCESS.CTRL.EN, 0, 1), (Reg.KEYS.STATUS.TRNG_OK, 0, 1)] [] with plan := passPlan 7 9999 3 0 6 [0], seq := { Seq.init with period := 10000, k := 4, tickCyc := 4000, passOff := 9998 } },
     9999, 3, 0x210, 3, 0, ⟨by decide, by decide, by decide, by decide, by decide⟩, by decide, by decide, by decide,
     by decide⟩,

     ⟨{ mk [(Reg.ACCESS.CTRL.EN, 0, 1)] [] with plan := passPlan 7 9999 3 0 6 [0], seq := { Seq.init with period := 10000, k := 4, tickCyc := 4000, passOff := 9998 }, access := { Access.init with round := some ⟨2600, 1, 1, 2, 0, 0, 0, 0, 1, [], 0, [], false, []⟩ } },
     9999, 3, 0x210, 3, 0, ⟨by decide, by decide, by decide, by decide, by decide⟩, by decide, by decide, by decide⟩⟩

theorem witness_OutputSetIsFrozenAndSent :
    (∃ (s : State), commitsCols s = true ∧ s.seq.cutDone = false ∧ s.laneEv = []) ∧
    (∃ (s : State) (d : Fin 4), commitsCols s = true ∧ s.seq.cutDone = true ∧ d.val ∈ linkedDies s ∧
      frameHere s d.val = false ∧ frameTold s d.val = false ∧ ∃ (inTime : Bool), Live s) :=
  ⟨⟨mk [] [], by decide, by decide, by decide⟩,
   ⟨{ mk [] [] with seq := { Seq.init with period := 10000, cutDone := true } }, 3, by decide, by decide, by decide,
     by decide, by decide, true, ⟨by decide, by decide, by decide⟩⟩⟩

theorem witness_ColsOpenInOrder :
    (∃ (s : State) (m : ColIn), s.laneEv = [] ∧ commitsCols s = true ∧ opensCols s = false ∧ s.seq.cutDone = true) ∧
    (∃ (s : State) (m : ColIn), s.laneEv = [] ∧ opensCols s = true) :=
  ⟨⟨{ mk [] [] with seq := { Seq.init with period := 10000, cutDone := true } }, cols, by decide, by decide, by decide,
     by decide⟩,
   ⟨mk [(Reg.TICK.STATUS.STATE, 0, seqStopped)] [], cols, by decide, by decide⟩⟩

theorem witness_NarrowsFollowsALaneLoss :
    (∃ (s : State) (d : Nat), s.seq.lossAt = some d ∧ s.seqState = seqRun ∧ d + 200 ≤ s.colCount) ∧
    (∃ (s : State) (d : Nat), s.seq.lossAt = some d ∧ s.seqState = seqRun ∧ s.colCount < d + 200) :=
  ⟨⟨{ mk [(Reg.TICK.STATUS.STATE, 0, seqRun)] [] with seq := { Seq.init with period := 10000, lossAt := some 1800 } }, 1800,
     by decide, by decide, by decide⟩,
   ⟨{ mk [(Reg.TICK.STATUS.STATE, 0, seqRun)] [] with seq := { Seq.init with period := 10000, lossAt := some 1801 } }, 1801,
     by decide, by decide, by decide⟩⟩

theorem witness_HandoversChangeThePlan :
    (∃ (s : State) (b : By), b.priv = true ∧ hoArmed s = false ∧ hoRefused s (hoCol s) = true) ∧
    (∃ (s : State) (b : By), b.priv = true ∧ hoArmed s = false ∧ hoRefused s (hoCol s) = false ∧ updState s ≠ updLoaded) ∧
    (∃ (s : State) (b : By), b.priv = true ∧ hoArmed s = false ∧ hoRefused s (hoCol s) = false ∧ updState s = updLoaded ∧
      s.update.failSel = false) ∧
    (∃ (s : State) (b : By), b.priv = true ∧ hoArmed s = true ∧ s.colNum + 1 < hoCol s ∧ Live s) ∧
    (∃ (s : State) (b : By), b.priv = true ∧ hoArmed s = true ∧ hoCol s ≤ s.colNum + 1) ∧
    (∃ (s : State), hoArmed s = true ∧ s.colNum = hoCol s ∧ (s.seqState = seqRun ∨ s.seqState = seqNarrows) ∧ s.memOk = true) :=
  ⟨⟨{ mk [(Reg.TICK.HO_COL_LO.NUMBER, 0, 8)] [] with shadow := { Plan.empty with valid := true } }, ⟨true, 3, false⟩,
     by decide, by decide, by decide⟩,
   ⟨{ mk [(Reg.TICK.HO_COL_LO.NUMBER, 0, 9)] [] with shadow := { Plan.empty with valid := true } }, ⟨true, 3, false⟩,
     by decide, by decide, by decide, by decide⟩,

     ⟨{ mk [(Reg.UPDATE.STATUS.STATE, 0, updLoaded), (Reg.TICK.HO_COL_LO.NUMBER, 0, 9)] [] with shadow := { Plan.empty with valid := true } },
     ⟨true, 3, false⟩, by decide, by decide, by decide, by decide, by decide⟩,
   ⟨mk [(Reg.TICK.STATUS.HO_ARMED, 0, 1), (Reg.TICK.HO_COL_LO.NUMBER, 0, 9)] [], ⟨true, 3, false⟩, by decide, by decide,
     by decide, ⟨by decide, by decide, by decide⟩⟩,
   ⟨mk [(Reg.TICK.STATUS.HO_ARMED, 0, 1), (Reg.TICK.HO_COL_LO.NUMBER, 0, 8)] [], ⟨true, 3, false⟩, by decide, by decide,
     by decide⟩,
   ⟨mk [(Reg.TICK.STATUS.HO_ARMED, 0, 1), (Reg.TICK.STATUS.STATE, 0, seqRun), (Reg.TICK.HO_COL_LO.NUMBER, 0, 7)] [],
     by decide, by decide, by decide, by decide⟩⟩

theorem witness_SbsPortServesRequests :
    (∃ (s : State), sbsOpen s = true ∧ inRecovery s = true ∧ updState s ≠ updArmed ∧ s.update.failSel = false) ∧
    (∃ (s : State), sbsOpen s = true ∧ ∃ (off : Word32) (data : List Byte) (fail : BitVec 2), updState s = updReceiving ∧
      1 ≤ data.length ∧ data.length ≤ 256 ∧ s.storeHot = false ∧ off.toNat + data.length ≤ slotSize ∧ fail ≠ 3 ∧
      s.update.failStore = false) ∧
    (∃ (s : State), sbsOpen s = true ∧ ∃ (off : Word32) (data : List Byte) (fail : BitVec 2), updState s = updReceiving ∧
      1 ≤ data.length ∧ data.length ≤ 256 ∧ s.storeHot = false ∧ slotSize < off.toNat + data.length) ∧
    (∃ (s : State), sbsOpen s = true ∧ inRecovery s = true ∧ (updState s = updIdle ∨ updState s = updReceiving ∨
      updState s = updFailed)) ∧
    (∃ (s : State), sbsOpen s = true ∧ inRecovery s = true ∧ (updState s = updVerified ∨ updState s = updLoaded) ∧
      s.update.failSel = false) ∧
    (∃ (s : State), sbsOpen s = true ∧ ∃ arg : Word32, inRecovery s = false ∧ s.bit Reg.UPDATE.CTRL.SBSREC 0 = true ∧
      arg.toNat = unitId % 2 ^ 32 ∧ s.terminalLatch = false) ∧
    (∃ (s : State) (c : Nat) (r : Nat × List Byte), s.bit Reg.POWER.SBSCFG.EN 0 = true ∧ s.dom.logic = true ∧ s.boot = 0 ∧
      s.update.sbsReady ≤ c ∧ s.update.sbs = some r ∧ s.update.sbsAfter = 0) ∧
    (∃ (s : State) (c : Nat) (r : Nat × List Byte), s.bit Reg.POWER.SBSCFG.EN 0 = true ∧ s.dom.logic = true ∧ s.boot = 0 ∧
      s.update.sbsReady ≤ c ∧ s.update.sbs = some r ∧ s.update.sbsAfter = 1) ∧
    (∃ (s : State) (c : Nat) (r : Nat × List Byte), s.bit Reg.POWER.SBSCFG.EN 0 = true ∧ s.dom.logic = true ∧ s.boot = 0 ∧
      s.update.sbsReady ≤ c ∧ s.update.sbs = some r ∧ s.update.sbsAfter = 2) :=
  ⟨⟨mk [(Reg.POWER.SBSCFG.EN, 0, 1), (Reg.UPDATE.STATUS.RECOVERY, 0, 1)] [], by decide, by decide, by decide, by decide⟩,
   ⟨mk [(Reg.POWER.SBSCFG.EN, 0, 1), (Reg.UPDATE.STATUS.STATE, 0, updReceiving)] [], by decide, 0x7FFFF00,
     List.replicate 256 5, 0, by decide, by decide +kernel, by decide +kernel, by decide, by decide +kernel, by decide,
     by decide⟩,
   ⟨mk [(Reg.POWER.SBSCFG.EN, 0, 1), (Reg.UPDATE.STATUS.STATE, 0, updReceiving)] [], by decide, 0x7FFFF01,
     List.replicate 256 5, 0, by decide, by decide +kernel, by decide +kernel, by decide, by decide +kernel⟩,
   ⟨mk [(Reg.POWER.SBSCFG.EN, 0, 1), (Reg.UPDATE.STATUS.RECOVERY, 0, 1), (Reg.UPDATE.STATUS.STATE, 0, updIdle)] [],
     by decide, by decide, by decide⟩,
   ⟨mk [(Reg.POWER.SBSCFG.EN, 0, 1), (Reg.UPDATE.STATUS.RECOVERY, 0, 1), (Reg.UPDATE.STATUS.STATE, 0, updVerified)] [],
     by decide, by decide, by decide, by decide⟩,
   ⟨mk [(Reg.POWER.SBSCFG.EN, 0, 1), (Reg.UPDATE.CTRL.SBSREC, 0, 1)] [], by decide, BitVec.ofNat 32 unitId, by decide,
     by decide, BitVec.toNat_ofNat _ _, by decide⟩,

     ⟨{ mk [(Reg.POWER.SBSCFG.EN, 0, 1)] [] with update := { Update.init with sbs := some (0, []), sbsReady := 3000, sbsAfter := 0 } },
     3000, (0, []), by decide, by decide, by decide, by decide, by decide, by decide⟩,

     ⟨{ mk [(Reg.POWER.SBSCFG.EN, 0, 1)] [] with update := { Update.init with sbs := some (0, []), sbsReady := 3000, sbsAfter := 1 } },
     3000, (0, []), by decide, by decide, by decide, by decide, by decide, by decide⟩,

     ⟨{ mk [(Reg.POWER.SBSCFG.EN, 0, 1)] [] with update := { Update.init with sbs := some (0, []), sbsReady := 3000, sbsAfter := 2 } },
     3000, (0, []), by decide, by decide, by decide, by decide, by decide, by decide⟩⟩

theorem witness_RegisterWritesAreStaged :
    (∃ (s : State) (b : By) (n : Fin 96) (v : Word32), b.plain = false) ∧
    (∃ (s : State) (b : By) (n : Fin 96) (v : Word32), b.plain = true ∧ Live s) ∧
    (∃ (s : State) (b : By) (off : BitVec 22) (v : Word32) (r : RegRow), regRow (off.toNat / 4 * 4) = some r ∧
      isUcode (off.toNat / 4 * 4) = false ∧ r.shown = 0 ∧ b.priv = false ∧ (b.plain = true → isStaged r = false) ∧ v ≠ 0 ∧
      ¬(0x30000 ≤ off.toNat ∧ off.toNat < 0x50000) ∧ Live s) ∧
    (∃ (s : State) (b : By) (off : BitVec 22) (v : Word32), regRow (off.toNat / 4 * 4) = none ∧
      isUcode (off.toNat / 4 * 4) = false) :=
  ⟨⟨mk [] [], ⟨true, 3, false⟩, 95, 0xFFFFFFFF, by decide⟩,
   ⟨mk [] [], ⟨true, 3, true⟩, 95, 0xFFFFFFFF, by decide, ⟨by decide, by decide, by decide⟩⟩,
   ⟨mk [] [], ⟨false, 3, true⟩, 0x1001B, 0xFFFFFFFF, (regRow 0x10018).get (by decide), by decide, by decide, by decide,
     by decide, by decide, by decide, by decide, ⟨by decide, by decide, by decide⟩⟩,
   ⟨mk [] [], ⟨true, 3, false⟩, 0x3FFFFF, 0xFFFFFFFF, by decide, by decide⟩⟩

theorem witness_PairsAndReadsClear :
    (∃ (s : State) (b : By) (off : BitVec 22) (v : Word32) (r : RegRow), b.priv = true ∧
      regRow (off.toNat / 4 * 4) = some r ∧ isUcode (off.toNat / 4 * 4) = false ∧ isForce (off.toNat / 4 * 4) = false ∧
      (b.plain = true → isStaged r = false) ∧ pairLow (off.toNat / 4 * 4) = true) ∧
    (∃ (s : State) (b : By) (off : BitVec 22) (v : Word32) (r : RegRow), b.priv = true ∧
      regRow (off.toNat / 4 * 4) = some r ∧ isUcode (off.toNat / 4 * 4) = false ∧ isForce (off.toNat / 4 * 4) = false ∧
      (b.plain = true → isStaged r = false) ∧ pairLow (off.toNat / 4 * 4) = false ∧ 4 ≤ off.toNat / 4 * 4 ∧
      pairLow (off.toNat / 4 * 4 - 4) = true) ∧
    (∃ (s : State) (b : By) (off : BitVec 22), b.priv = true ∧ groupOf (off.toNat / 4 * 4) = none) ∧
    (∃ (s : State) (b : By) (off : BitVec 22) (n : Nat), groupOf (off.toNat / 4 * 4) = some (off.toNat / 4 * 4, n)) :=
  ⟨⟨mk [] [], ⟨true, 3, false⟩, 0x1002B, 0xFFFFFFFF, (regRow 0x10028).get (by decide), by decide, by decide, by decide,
     by decide, by decide, by decide⟩,
   ⟨mk [] [], ⟨true, 3, false⟩, 0x1002F, 0xFFFFFFFF, (regRow 0x1002C).get (by decide), by decide, by decide, by decide,
     by decide, by decide, by decide, by decide, by decide⟩,
   ⟨mk [] [], ⟨true, 3, false⟩, 0, by decide, by decide⟩,
   ⟨mk [] [], ⟨true, 3, false⟩, 0x2D0000, 256, by decide⟩⟩

theorem witness_RaisesAreActedOn :
    (∃ (s : State) (src unit cls : Nat) (detail : BitVec 48) (forced : Bool), Live s ∧ cls < 3 ∧ src < 0x10000 ∧
      unit < 0x4000 ∧ (⟨src, unit, cls⟩ : FaultFlag) ∉ s.flags ∧ cls = 1) ∧
    (∃ (s : State) (src unit cls : Nat) (detail : BitVec 48) (forced : Bool), Live s ∧ cls < 3 ∧ src < 0x10000 ∧
      unit < 0x4000 ∧ (⟨src, unit, cls⟩ : FaultFlag) ∉ s.flags ∧ cls = 2) ∧
    (∃ (s : State) (src unit cls : Nat) (detail : BitVec 48) (forced : Bool), Live s ∧ cls < 3 ∧ src < 0x10000 ∧
      unit < 0x4000 ∧ (⟨src, unit, cls⟩ : FaultFlag) ∉ s.flags ∧ cls < 2 ∧ s.log.length < 4096) ∧
    (∃ (s : State) (src unit cls : Nat), Live s ∧ cls < 3 ∧ (⟨src, unit, cls⟩ : FaultFlag) ∈ s.flags ∧ cls = 0) ∧
    (∃ (s : State) (src unit cls : Nat), Live s ∧ cls < 3 ∧ (⟨src, unit, cls⟩ : FaultFlag) ∈ s.flags ∧ cls = 1) ∧
    (∃ (s : State) (src unit cls : Nat), Live s ∧ cls < 3 ∧ (⟨src, unit, cls⟩ : FaultFlag) ∈ s.flags ∧ cls = 2) ∧
    (∃ (s : State), Live s) :=
  ⟨⟨mk [] [], 0xFFFF, 0x3FFF, 1, 0, true, ⟨by decide, by decide, by decide⟩, by decide, by decide, by decide, by decide,
     by decide⟩,
   ⟨mk [] [], 0xFFFF, 0x3FFF, 2, 0, true, ⟨by decide, by decide, by decide⟩, by decide, by decide, by decide, by decide,
     by decide⟩,
   ⟨mk [] [], 0xFFFF, 0x3FFF, 1, 0, true, ⟨by decide, by decide, by decide⟩, by decide, by decide, by decide, by decide,
     by decide, by decide⟩,
   ⟨{ mk [] [] with flags := [⟨5, 6, 0⟩] }, 5, 6, 0, ⟨by decide, by decide, by decide⟩, by decide, by decide, by decide⟩,
   ⟨{ mk [] [] with flags := [⟨5, 6, 1⟩] }, 5, 6, 1, ⟨by decide, by decide, by decide⟩, by decide, by decide, by decide⟩,
   ⟨{ mk [] [] with flags := [⟨5, 6, 2⟩] }, 5, 6, 2, ⟨by decide, by decide, by decide⟩, by decide, by decide, by decide⟩,
   ⟨mk [] [], ⟨by decide, by decide, by decide⟩⟩⟩

theorem witness_FlagsAndLogAreCleared :
    (∃ (s : State) (b : By) (c : BitVec 4), b.priv = true ∧ (c.getLsbD 2 = false ∨ ackRefused s = false)) ∧
    (∃ (s : State) (b : By) (c : BitVec 4), b.priv = true ∧ c.getLsbD 2 = true ∧ ackRefused s = true) ∧
    (∃ (s : State) (b : By) (src : BitVec 16) (unit : BitVec 14), b.priv = true ∧ (∀ f ∈ s.flags, f.src = src.toNat →
      f.unit = unit.toNat → f.cls = 2 → ackRefused s = false)) ∧
    (∃ (s : State) (b : By) (src : BitVec 16) (cls : Fin 4) (unit : BitVec 14), Forced s b ∧ Live s ∧
      isSource src.toNat = true ∧ classAllowed src.toNat cls.val = true) ∧
    (∃ (s : State) (b : By) (src : BitVec 16) (cls : Fin 4) (unit : BitVec 14), Forced s b ∧ (isSource src.toNat = false ∨
      classAllowed src.toNat cls.val = false)) ∧
    (∃ (s : State) (b : By), b.priv = true) ∧
    (∃ (s : State) (d : List LogRec), s.dumpNext = some d ∧ s.storeHot = false) ∧
    (∃ (s : State), s.supA < 2500 ∧ s.supB < 2500) ∧
    (∃ (s : State), (2500 ≤ s.supA ∨ 2500 ≤ s.supB)) :=
  ⟨⟨mk [] [], ⟨true, 3, false⟩, 11, by decide, by decide⟩,
   ⟨mk [(Reg.JOURNAL.STATUS.FULL, 0, 1)] [], ⟨true, 3, false⟩, 15, by decide, by decide, by decide⟩,
   ⟨mk [] [], ⟨true, 3, false⟩, 0x7FFF, 0, by decide, by decide⟩,
   ⟨mk [(Reg.FAULT.CTRL.FORCE_EN, 0, 1)] [], ⟨true, 3, false⟩, 0x0101, 2, 0x3FFF, ⟨by decide, by decide⟩, ⟨by decide,
     by decide, by decide⟩, by decide, by decide⟩,
   ⟨mk [(Reg.FAULT.CTRL.FORCE_EN, 0, 1)] [], ⟨true, 3, false⟩, 0x7FFF, 3, 0, ⟨by decide, by decide⟩, by decide⟩,
   ⟨mk [] [], ⟨true, 3, false⟩, by decide⟩,
   ⟨{ mk [] [] with dumpNext := some [] }, [], by decide, by decide⟩,
   ⟨{ mk [] [] with supA := 2499, supB := 2499 }, by decide, by decide⟩,
   ⟨{ mk [] [] with supA := 2500, supB := 0 }, by decide⟩⟩

theorem witness_UnprivilegedRequestsAreRefused :
    (∃ (s : State) (b : By), Live s ∧ b.priv = false) ∧
    (∃ (s : State) (b : By), Live s ∧ s.bit Reg.FAULT.CTRL.FORCE_EN 0 = false) :=
  ⟨⟨mk [] [], ⟨false, 3, false⟩, ⟨by decide, by decide, by decide⟩, by decide⟩,
   ⟨mk [(Reg.FAULT.CTRL.FORCE_EN, 0, 0)] [], ⟨true, 3, false⟩, ⟨by decide, by decide, by decide⟩, by decide⟩⟩

theorem witness_LoadSwitchProtections :
    (∃ (s : State) (n : Fin 96), Live s ∧ Calm s ∧ s.fld Reg.LSW.RETRY.RETRY_LEFT n.val ≠ 0 ∧
      s.bit Reg.LSW.STAT.IN_LIMIT n.val = true ∧ s.effFld Reg.LSW.ILIM.TLIM n.val ≠ 0) ∧
    (∃ (s : State) (n : Fin 96), Live s ∧ Calm s ∧ s.fld Reg.LSW.RETRY.RETRY_LEFT n.val ≠ 0 ∧
      s.bit Reg.LSW.STAT.ON n.val = true) ∧
    (∃ (s : State) (n : Fin 96), Live s ∧ Calm s ∧ s.fld Reg.LSW.RETRY.RETRY_LEFT n.val ≠ 0 ∧ s.allOff = false) ∧
    (∃ (s : State) (n : Fin 96), Live s ∧ Calm s ∧ s.fld Reg.LSW.RETRY.RETRY_LEFT n.val ≠ 0 ∧ ∃ (by_ : By), Forced s by_) ∧
    (∃ (s : State) (n : Fin 96), Live s ∧ Calm s ∧ s.bit Reg.LSW.STAT.ON n.val = true ∧ s.effFld Reg.LSW.ILIM.IOL n.val ≠ 0) ∧
    (∃ (s : State) (n : Fin 96), Live s ∧ Calm s ∧ ∃ vout : Int, s.effBit Reg.LSW.CFG.OFFDIAG n.val = true ∧
      s.bit Reg.LSW.STAT.ON n.val = false ∧ s.allOff = false ∧ 6000 < vout) ∧
    (∃ (s : State) (n : Fin 96), Live s ∧ Calm s ∧ ∃ vout : Int, s.effBit Reg.LSW.CFG.OFFDIAG n.val = true ∧
      s.bit Reg.LSW.STAT.ON n.val = false ∧ s.allOff = false ∧ 1500 ≤ vout ∧ vout ≤ 6000) ∧
    (∃ (s : State) (n : Fin 96), Live s ∧ Calm s ∧ ∃ vout : Int, s.effBit Reg.LSW.CFG.OFFDIAG n.val = true ∧
      s.bit Reg.LSW.STAT.ON n.val = false ∧ s.allOff = false ∧ vout < 1500) ∧
    (∃ (s : State) (n : Fin 96) (i : Instr) (src : Nat), ((i = .limitTimeout n ∧ src = Flt.LSW.LIMTO ∧
      s.bit Reg.LSW.STAT.IN_LIMIT n.val = true ∧ s.effFld Reg.LSW.ILIM.TLIM n.val ≠ 0) ∨ (i = .hardShort n ∧
      src = Flt.LSW.SHORT ∧ s.bit Reg.LSW.STAT.ON n.val = true) ∨ (i = .overTemperatureTrip n ∧ src = Flt.LSW.THERM ∧
      s.allOff = false)) ∧ Live s ∧ Calm s ∧ Fresh s src n.val ∧ s.fld Reg.LSW.RETRY.RETRY_LEFT n.val ≠ 0) ∧
    (∃ (s : State) (n : Fin 96) (i : Instr) (src : Nat), ((i = .limitTimeout n ∧ src = Flt.LSW.LIMTO ∧
      s.bit Reg.LSW.STAT.IN_LIMIT n.val = true ∧ s.effFld Reg.LSW.ILIM.TLIM n.val ≠ 0) ∨ (i = .hardShort n ∧
      src = Flt.LSW.SHORT ∧ s.bit Reg.LSW.STAT.ON n.val = true) ∨ (i = .overTemperatureTrip n ∧ src = Flt.LSW.THERM ∧
      s.allOff = false)) ∧ Live s ∧ Calm s ∧ Fresh s src n.val ∧ s.fld Reg.LSW.RETRY.RETRY_LEFT n.val = 0) :=
  ⟨⟨mk [(Reg.LSW.RETRY.RETRY_LEFT, 95, 1), (Reg.LSW.STAT.IN_LIMIT, 95, 1)] [(Reg.LSW.ILIM.TLIM, 95, 1)], 95, ⟨by decide,
     by decide, by decide⟩, ⟨by decide, fun _ => rfl⟩, by decide, by decide, by decide⟩,
   ⟨mk [(Reg.LSW.RETRY.RETRY_LEFT, 95, 1), (Reg.LSW.STAT.ON, 95, 1)] [], 95, ⟨by decide, by decide, by decide⟩, ⟨by decide,
     fun _ => rfl⟩, by decide, by decide⟩,
   ⟨mk [(Reg.LSW.RETRY.RETRY_LEFT, 95, 1)] [], 95, ⟨by decide, by decide, by decide⟩, ⟨by decide, fun _ => rfl⟩, by decide,
     by decide⟩,
   ⟨mk [(Reg.LSW.RETRY.RETRY_LEFT, 95, 1), (Reg.FAULT.CTRL.FORCE_EN, 0, 1)] [], 95, ⟨by decide, by decide, by decide⟩,
     ⟨by decide, fun _ => rfl⟩, by decide, ⟨true, 3, false⟩, ⟨by decide, by decide⟩⟩,
   ⟨mk [(Reg.LSW.STAT.ON, 95, 1)] [(Reg.LSW.ILIM.IOL, 95, 1)], 95, ⟨by decide, by decide, by decide⟩, ⟨by decide,
     fun _ => rfl⟩, by decide, by decide⟩,
   ⟨mk [(Reg.LSW.STAT.ON, 95, 0)] [(Reg.LSW.CFG.OFFDIAG, 95, 1)], 95, ⟨by decide, by decide, by decide⟩, ⟨by decide,
     fun _ => rfl⟩, 6001, by decide, by decide, by decide, by decide⟩,
   ⟨mk [(Reg.LSW.STAT.ON, 95, 0)] [(Reg.LSW.CFG.OFFDIAG, 95, 1)], 95, ⟨by decide, by decide, by decide⟩, ⟨by decide,
     fun _ => rfl⟩, 6000, by decide, by decide, by decide, by decide, by decide⟩,
   ⟨mk [(Reg.LSW.STAT.ON, 95, 0)] [(Reg.LSW.CFG.OFFDIAG, 95, 1)], 95, ⟨by decide, by decide, by decide⟩, ⟨by decide,
     fun _ => rfl⟩, 1499, by decide, by decide, by decide, by decide⟩,
   ⟨mk [(Reg.LSW.RETRY.RETRY_LEFT, 95, 1), (Reg.LSW.STAT.IN_LIMIT, 95, 1)] [(Reg.LSW.ILIM.TLIM, 95, 1)], 95,
     .limitTimeout 95, Flt.LSW.LIMTO, .inl ⟨rfl, rfl, by decide, by decide⟩, ⟨by decide, by decide, by decide⟩, ⟨by decide,
     fun _ => rfl⟩, fresh_nil rfl _ _, by decide⟩,
   ⟨mk [(Reg.LSW.RETRY.RETRY_LEFT, 95, 0)] [], 95, .overTemperatureTrip 95, Flt.LSW.THERM, .inr (.inr ⟨rfl, rfl, by decide⟩),
     ⟨by decide, by decide, by decide⟩, ⟨by decide, fun _ => rfl⟩, fresh_nil rfl _ _, by decide⟩⟩

theorem witness_LoadSwitchRetriesAndInputs :
    (∃ (s : State) (n : Fin 96), Calm s ∧ (s.lswCh n.val).prot = true ∧ s.bit Reg.LSW.STAT.LOCKED n.val = false ∧
      s.bit Reg.LSW.STAT.TLATCH n.val = false ∧ s.fld Reg.LSW.RETRY.RETRY_LEFT n.val ≠ 0) ∧
    (∃ (s : State) (n : Fin 96), Calm s ∧ s.effFld Reg.LSW.RETRY.REFILL n.val ≠ 0 ∧ s.bit Reg.LSW.STAT.ON n.val = true) ∧
    (∃ (s : State) (n : Fin 96), Calm s ∧ s.effBit Reg.LSW.CTRL.FWTEST n.val = true ∧ s.effBit Reg.LSW.CTRL.EN n.val = false) ∧
    (∃ (s : State) (n : Fin 96), Calm s ∧ ∃ (vmin : Int) (current : Nat), s.bit Reg.LSW.FW.FW_BUSY n.val = true) ∧
    (∃ (s : State) (n : Fin 96), Calm s ∧ ∃ (by_ : By), Forced s by_) ∧
    (∃ (s : State) (pin : Fin 24) (level : Bool), Calm s) ∧
    (∃ (s : State) (code : Fin 14) (pins : List Nat) (last : Bool) (a : Nat), s.scanAt = some a) ∧
    (∃ (s : State) (code : Fin 14) (pins : List Nat) (last : Bool) (a p : Nat), s.scanAt = some a ∧ Live s ∧ p < 8 ∧
      code.val = 12 ∧ 20 * 10000 < min (pins.getD p 0) 0xFFF * 12207) ∧
    (∃ (s : State) (code : Fin 14) (pins : List Nat) (last : Bool) (a p : Nat), s.scanAt = some a ∧ Live s ∧ p < 8 ∧
      code.val = 13 ∧ min (pins.getD p 0) 0xFFF * 12207 < 19600000) :=
  ⟨⟨{ mk [(Reg.LSW.STAT.LOCKED, 95, 0), (Reg.LSW.STAT.TLATCH, 95, 0), (Reg.LSW.RETRY.RETRY_LEFT, 95, 1)] [] with lsw := [(95, { LswCh.init with prot := true })] },
     95, calm_one rfl rfl rfl, by decide, by decide, by decide, by decide⟩,
   ⟨mk [(Reg.LSW.STAT.ON, 95, 1)] [(Reg.LSW.RETRY.REFILL, 95, 1)], 95, ⟨by decide, fun _ => rfl⟩, by decide, by decide⟩,
   ⟨mk [] [(Reg.LSW.CTRL.FWTEST, 95, 1), (Reg.LSW.CTRL.EN, 95, 0)], 95, ⟨by decide, fun _ => rfl⟩, by decide, by decide⟩,
   ⟨mk [(Reg.LSW.FW.FW_BUSY, 95, 1)] [], 95, ⟨by decide, fun _ => rfl⟩, 0, 0, by decide⟩,
   ⟨mk [(Reg.FAULT.CTRL.FORCE_EN, 0, 1)] [], 95, ⟨by decide, fun _ => rfl⟩, ⟨true, 3, false⟩, ⟨by decide, by decide⟩⟩,
   ⟨mk [] [], 23, true, ⟨by decide, fun _ => rfl⟩⟩,
   ⟨{ mk [] [] with scanAt := some 5 }, 13, [], true, 5, by decide⟩,
   ⟨{ mk [] [] with scanAt := some 5 }, 12, [0, 0, 0, 0, 0, 0, 0, 17], true, 5, 7, by decide, ⟨by decide, by decide,
     by decide⟩, by decide, by decide, by decide⟩,
   ⟨{ mk [] [] with scanAt := some 5 }, 13, [0, 0, 0, 0, 0, 0, 0, 1605], true, 5, 7, by decide, ⟨by decide, by decide,
     by decide⟩, by decide, by decide, by decide⟩⟩

theorem witness_LedgerServesRequests :
    (∃ (s : State) (m : LedgerIn), s.planRuns = true ∧ s.ledger.updated = false ∧ s.ledger.waiting = [] ∧ m.inTime = true) ∧
    (∃ (s : State) (lane : Fin 4) (ch : BitVec 7) (ist : BitVec 16), ledgerUp s = true ∧ s.ledger.updated = false) ∧
    (∃ (s : State) (lane : Fin 4) (ch : BitVec 7) (ist : BitVec 16), ledgerUp s = true ∧ s.ledger.updated = true ∧
      120 ≤ ch.toNat) ∧
    (∃ (s : State) (lane : Fin 4) (ch : BitVec 7) (ist : BitVec 16), ledgerUp s = true ∧ s.ledger.updated = true ∧
      ch.toNat < 120 ∧
      admitCheck s ch.toNat (if ist.toNat = 0 then (chEntry s ch.toNat).steady else ist.toNat) (if (decide ((chEntry s ch.toNat).tInrush ≠ 0) && decide ((if ist.toNat = 0 then (chEntry s ch.toNat).steady else ist.toNat) < (chEntry s ch.toNat).inrush)) then (chEntry s ch.toNat).inrush else (if ist.toNat = 0 then (chEntry s ch.toNat).steady else ist.toNat)) (if (decide ((chEntry s ch.toNat).tInrush ≠ 0) && decide ((if ist.toNat = 0 then (chEntry s ch.toNat).steady else ist.toNat) < (chEntry s ch.toNat).inrush)) then (chEntry s ch.toNat).tInrush else 0) = none) ∧
    (∃ (s : State) (lane : Fin 4) (ch : BitVec 7) (ist : BitVec 16), ledgerUp s = true ∧ ch.toNat < 120 ∧ Calm s) ∧
    (∃ (s : State) (ch : Fin 120) (u : Nat), (s.ledger1 ch.val).until' = some u ∧ Calm s) ∧
    (∃ (s : State) (b : By) (seg : Byte), Forced s b) :=
  ⟨⟨mk [] [], ⟨0, 0, 0, 0, true⟩, by decide, by decide, by decide, by decide⟩,
   ⟨mk [] [], 3, 127, 0x7FFF, by decide, by decide⟩,
   ⟨{ mk [] [] with ledger := { Ledger.init with updated := true } }, 3, 120, 0x7FFF, by decide, by decide, by decide⟩,
   ⟨{ mk [] [] with ledger := { Ledger.init with updated := true } }, 3, 119, 1, by decide, by decide, by decide,
     by decide +kernel⟩,
   ⟨mk [] [], 3, 119, 0x7FFF, by decide, by decide, ⟨rfl, fun _ => rfl⟩⟩,
   ⟨{ mk [] [] with ledgerCh := [(119, { LedgerCh.init with until' := some 5 })] }, 119, 5, by decide, ⟨rfl, fun _ => rfl⟩⟩,
   ⟨mk [(Reg.FAULT.CTRL.FORCE_EN, 0, 1)] [], ⟨true, 3, false⟩, 1, ⟨by decide, by decide⟩⟩⟩

theorem witness_BridgeProtectionsReact :
    (∃ (s : State) (n : Fin 16), Live s ∧ s.fld Reg.HBR.STAT.APPLIED n.val ≠ 0 ∧ Fresh s Flt.HBR.SHORT n.val) ∧
    (∃ (s : State) (n : Fin 16), Live s ∧ s.allOff = false ∧ Fresh s Flt.HBR.THERM n.val) ∧
    (∃ (s : State) (n : Fin 16), Live s ∧ s.fld Reg.HBR.STAT.APPLIED n.val ∈ (if hbPaired s n.val then [3, 4] else [2])) ∧
    (∃ (s : State) (n : Fin 16), Live s ∧ s.bit Reg.HBR.STAT.DRIVING (hbMaster s n.val) = true ∧
      s.effFld Reg.HBR.CFG.TSTALL (hbMaster s n.val) ≠ 0 ∧ Fresh s Flt.HBR.STALL (hbMaster s n.val) ∧
      s.effBit Reg.HBR.CFG.STALL_BRAKE (hbMaster s n.val) = true) ∧
    (∃ (s : State) (n : Fin 16), Live s ∧ ∃ (by_ : By), Forced s by_) ∧
    (∃ (s : State) (above : Bool), Live s ∧ (∀ n, n < 16 → Fresh s Flt.HBR.OV n)) :=
  ⟨⟨mk [(Reg.HBR.STAT.APPLIED, 15, 1)] [], 15, ⟨by decide, by decide, by decide⟩, by decide, fresh_nil rfl _ _⟩,
   ⟨mk [] [], 15, ⟨by decide, by decide, by decide⟩, by decide, fresh_nil rfl _ _⟩,
   ⟨mk [(Reg.HBR.STAT.APPLIED, 15, 4)] [(Reg.HBR.PAIRCFG.PAIR, 0, 0x80)], 15, ⟨by decide, by decide, by decide⟩, by decide⟩,
   ⟨mk [(Reg.HBR.STAT.DRIVING, 15, 1), (Reg.HBR.STAT.DRIVING, 14, 1)] [(Reg.HBR.CFG.TSTALL, 15, 1), (Reg.HBR.CFG.STALL_BRAKE,
     15, 1), (Reg.HBR.PAIRCFG.PAIR, 0, 0x80), (Reg.HBR.CFG.TSTALL, 14, 1), (Reg.HBR.CFG.STALL_BRAKE, 14, 1)], 15, ⟨by decide,
     by decide, by decide⟩, by decide, by decide, fresh_nil rfl _ _, by decide⟩,
   ⟨mk [(Reg.FAULT.CTRL.FORCE_EN, 0, 1)] [], 15, ⟨by decide, by decide, by decide⟩, ⟨true, 3, false⟩, ⟨by decide, by decide⟩⟩,
   ⟨mk [] [], true, ⟨by decide, by decide, by decide⟩, fun _ _ => fresh_nil rfl _ _⟩⟩

theorem witness_BridgePositionAndBrakes :
    (∃ (s : State) (n : Fin 16), ∃ (count : Nat) (mean : Nat) (ampl : Nat), hbPaired s (n.val / 2 * 2) = true ∧
      s.fld Reg.HBR.STAT.APPLIED (n.val / 2 * 2) ≠ 0 ∧ 300 ≤ mean ∧ 3 * mean ≤ ampl * 100 ∧
      ((s.hbCh (n.val / 2 * 2)).moving = false ∨
      max 10 (min (s.effFld Reg.HBR.RIPCFG.RIP_MIN (n.val / 2 * 2)) 90) * s.fld Reg.HBR.PERIOD.COUNTS (n.val / 2 * 2) ≤ (count - ((s.hbCh (n.val / 2 * 2)).lastRip.getD 0)) * 100)) ∧
    (∃ (s : State) (n : Fin 16), ∃ (count : Nat) (mean : Nat) (ampl : Nat), hbPaired s (n.val / 2 * 2) = true ∧
      s.fld Reg.HBR.STAT.APPLIED (n.val / 2 * 2) ≠ 0 ∧ 300 ≤ mean ∧ 3 * mean ≤ ampl * 100 ∧
      (s.hbCh (n.val / 2 * 2)).moving = true ∧
      (count - ((s.hbCh (n.val / 2 * 2)).lastRip.getD 0)) * 100 < max 10 (min (s.effFld Reg.HBR.RIPCFG.RIP_MIN (n.val / 2 * 2)) 90) * s.fld Reg.HBR.PERIOD.COUNTS (n.val / 2 * 2)) ∧
    (∃ (s : State) (n : Fin 16), (s.hbCh (n.val / 2 * 2)).lastRip.isSome = true ∧ hbPaired s (n.val / 2 * 2) = true ∧
      s.bit Reg.HBR.STAT.DRIVING (n.val / 2 * 2) = true ∧ (s.hbCh (n.val / 2 * 2)).moving = true) ∧
    (∃ (s : State) (n : Fin 16), s.fld Reg.HBR.STAT.APPLIED (n.val / 2 * 2) = 0 ∧ hbExtrapolates s (n.val / 2 * 2) = true ∧
      Live s ∧ Fresh s Flt.HBR.RIPPLE (n.val / 2 * 2)) ∧
    (∃ (s : State) (n : Fin 16), s.bit Reg.HBR.STAT.REVERSING (hbMaster s n.val) = true) ∧
    (∃ (s : State) (n : Fin 16), ∃ (b : By) (val : Word32), b.priv = true ∧ ¬(hbPaired s n.val = true ∧ n.val % 2 = 1)) ∧
    (∃ (s : State) (n : Fin 16), ∃ (b : By) (val : Word32), b.priv = false ∧ s.fld Reg.HBR.POS.POS n.val ≠ val.toNat ∧
      Live s) :=
  ⟨⟨{ mk [(Reg.HBR.STAT.APPLIED, 14, 1), (Reg.HBR.PERIOD.COUNTS, 14, 100)] [(Reg.HBR.PAIRCFG.PAIR, 0, 0x80)] with hbr := [(14, { HbCh.init with moving := true, lastRip := some 100, coastFrom := none })] },
     15, 190, 300, 9, by decide, by decide, by decide, by decide, by decide⟩,

     ⟨{ mk [(Reg.HBR.STAT.APPLIED, 14, 1), (Reg.HBR.PERIOD.COUNTS, 14, 100)] [(Reg.HBR.PAIRCFG.PAIR, 0, 0x80)] with hbr := [(14, { HbCh.init with moving := true, lastRip := some 100, coastFrom := none })] },
     15, 109, 300, 9, by decide, by decide, by decide, by decide, by decide, by decide⟩,

     ⟨{ mk [(Reg.HBR.STAT.DRIVING, 14, 1)] [(Reg.HBR.PAIRCFG.PAIR, 0, 0x80)] with hbr := [(14, { HbCh.init with moving := true, lastRip := some 100, coastFrom := none })] },
     15, by decide, by decide, by decide, by decide⟩,

     ⟨{ mk [(Reg.HBR.STAT.APPLIED, 14, 0), (Reg.HBR.PERIOD.COUNTS, 14, 100)] [(Reg.HBR.PAIRCFG.PAIR, 0, 0x80)] with hbr := [(14, { HbCh.init with moving := true, lastRip := some 100, coastFrom := some 210 })] },
     15, by decide, by decide, ⟨by decide, by decide, by decide⟩, fresh_nil rfl _ _⟩,
   ⟨mk [(Reg.HBR.STAT.REVERSING, 15, 1), (Reg.HBR.STAT.REVERSING, 14, 1)] [], 15, by decide⟩,
   ⟨mk [] [], 14, ⟨true, 3, false⟩, 0xFFFFFFFF, by decide, by decide⟩,
   ⟨mk [] [], 15, ⟨false, 3, false⟩, 7, by decide, by decide, ⟨by decide, by decide, by decide⟩⟩⟩

theorem witness_ValveCommandsAct :
    (∃ (s : State) (b : By) (bank : Fin 4) (word : BitVec 9) (val : Word32), b.priv = true ∧ bankActive s bank.val = false ∧
      (s.bank bank.val).low.1 = word.toNat) ∧
    (∃ (s : State) (b : By) (bank : Fin 4) (word : BitVec 9) (high : Bool) (val : Word32), b.priv = true ∧
      bankActive s bank.val = true ∧ Live s) ∧
    (∃ (s : State) (n : Fin 24), s.effBit Reg.VALVE.CMD.START n.val = true ∧ s.effBit Reg.VALVE.CMD.OFF n.val = false ∧
      s.allOff = false ∧ vdKeptSafe s n.val = false ∧ StartOk s n.val ∧ vdPhase s n.val = vdIdle) ∧
    (∃ (s : State) (n : Fin 24), s.effBit Reg.VALVE.CMD.START n.val = true ∧ s.effBit Reg.VALVE.CMD.OFF n.val = false ∧
      s.allOff = false ∧ vdKeptSafe s n.val = false ∧ StartOk s n.val ∧ vdPhase s n.val = vdRelease) ∧
    (∃ (s : State) (n : Fin 24), s.effBit Reg.VALVE.CMD.START n.val = true ∧ s.effBit Reg.VALVE.CMD.OFF n.val = false ∧
      s.allOff = false ∧ vdKeptSafe s n.val = false ∧ StartOk s n.val ∧ vdPhase s n.val = vdHold) ∧
    (∃ (s : State) (n : Fin 24), s.effBit Reg.VALVE.CMD.START n.val = true ∧ s.effBit Reg.VALVE.CMD.OFF n.val = false ∧
      s.allOff = false ∧ vdKeptSafe s n.val = false ∧ s.bit Reg.VALVE.PSTAT.UC_BLOCK n.val = true) ∧
    (∃ (s : State) (n : Fin 24), s.effBit Reg.VALVE.CMD.OFF n.val = true ∧ vdPhase s n.val ≠ vdIdle ∧
      vdPhase s n.val ≠ vdRelease) ∧
    (∃ (s : State) (n : Fin 24), s.effBit Reg.VALVE.CMD.OFF n.val = true ∧ vdPhase s n.val = vdRelease) ∧
    (∃ (s : State) (n : Fin 24), s.effBit Reg.VALVE.CMD.REARM n.val = true ∧ s.bit Reg.VALVE.STAT.TLATCH n.val = false ∧
      (s.bank (vdBank n.val)).latch = false) :=
  ⟨⟨{ mk [] [] with vbank := [(3, { VBank.init with low := (511, 5) })] }, ⟨true, 3, false⟩, 3, 511, 1, by decide, by decide,
     by decide⟩,
   ⟨mk [(Reg.VALVE.PSTAT.PHASE, 23, vdHold)] [], ⟨true, 3, false⟩, 3, 511, true, 0xFFFFFFFF, by decide, by decide,
     ⟨by decide, by decide, by decide⟩⟩,

     ⟨{ mk [(Reg.VALVE.PSTAT.PHASE, 23, vdIdle), (Reg.VALVE.PSTAT.UC_BLOCK, 23, 0), (Reg.VALVE.PSTAT.COIL_BLOCK, 23, 0), (Reg.VALVE.PSTAT.VB_BLOCK, 23, 0), (Reg.VALVE.PSTAT.PROT_OFF, 23, 0)] [(Reg.VALVE.CMD.START, 23, 1), (Reg.VALVE.CMD.OFF, 23, 0), (Reg.VALVE.CMD.PROF, 23, 15)] with ucode := [(3 * 512 + 15, BitVec.ofNat 64 (511 * 2 ^ 55 + 16 * 2 ^ 46))] },
     23, by decide, by decide, by decide, by decide, ⟨by decide, by decide, by decide, by decide, by decide⟩, by decide⟩,

     ⟨{ mk [(Reg.VALVE.PSTAT.PHASE, 23, vdRelease), (Reg.VALVE.PSTAT.UC_BLOCK, 23, 0), (Reg.VALVE.PSTAT.COIL_BLOCK, 23, 0), (Reg.VALVE.PSTAT.VB_BLOCK, 23, 0), (Reg.VALVE.PSTAT.PROT_OFF, 23, 0)] [(Reg.VALVE.CMD.START, 23, 1), (Reg.VALVE.CMD.OFF, 23, 0), (Reg.VALVE.CMD.PROF, 23, 15)] with ucode := [(3 * 512 + 15, BitVec.ofNat 64 (511 * 2 ^ 55 + 16 * 2 ^ 46))] },
     23, by decide, by decide, by decide, by decide, ⟨by decide, by decide, by decide, by decide, by decide⟩, by decide⟩,

     ⟨{ mk [(Reg.VALVE.PSTAT.PHASE, 23, vdHold), (Reg.VALVE.PSTAT.UC_BLOCK, 23, 0), (Reg.VALVE.PSTAT.COIL_BLOCK, 23, 0), (Reg.VALVE.PSTAT.VB_BLOCK, 23, 0), (Reg.VALVE.PSTAT.PROT_OFF, 23, 0)] [(Reg.VALVE.CMD.START, 23, 1), (Reg.VALVE.CMD.OFF, 23, 0), (Reg.VALVE.CMD.PROF, 23, 15)] with ucode := [(3 * 512 + 15, BitVec.ofNat 64 (511 * 2 ^ 55 + 16 * 2 ^ 46))] },
     23, by decide, by decide, by decide, by decide, ⟨by decide, by decide, by decide, by decide, by decide⟩, by decide⟩,
   ⟨mk [(Reg.VALVE.PSTAT.UC_BLOCK, 23, 1)] [(Reg.VALVE.CMD.START, 23, 1), (Reg.VALVE.CMD.OFF, 23, 0)], 23, by decide,
     by decide, by decide, by decide, by decide⟩,
   ⟨mk [(Reg.VALVE.PSTAT.PHASE, 23, vdHold)] [(Reg.VALVE.CMD.OFF, 23, 1)], 23, by decide, by decide, by decide⟩,
   ⟨mk [(Reg.VALVE.PSTAT.PHASE, 23, vdRelease)] [(Reg.VALVE.CMD.OFF, 23, 1)], 23, by decide, by decide⟩,
   ⟨mk [(Reg.VALVE.STAT.TLATCH, 23, 0)] [(Reg.VALVE.CMD.REARM, 23, 1)], 23, by decide, by decide, by decide⟩⟩

theorem witness_ProfilesRun :
    (∃ (s : State) (n : Fin 24) (x : CoilIn), UcReady s n.val 0x00) ∧
    (∃ (s : State) (n : Fin 24) (x : CoilIn), UcReady s n.val 0x01) ∧
    (∃ (s : State) (n : Fin 24) (x : CoilIn), UcReady s n.val 0x02) ∧
    (∃ (s : State) (n : Fin 24) (x : CoilIn), UcReady s n.val 0x03 ∧ s.fld Reg.VALVE.BANKSTAT.HOLDER (vdBank n.val) = 7 ∧
      (s.bank (vdBank n.val)).queue = []) ∧
    (∃ (s : State) (n : Fin 24) (x : CoilIn), UcReady s n.val 0x03 ∧ s.fld Reg.VALVE.BANKSTAT.HOLDER (vdBank n.val) ≠ 7 ∧
      s.fld Reg.VALVE.BANKSTAT.HOLDER (vdBank n.val) ≠ n.val % 6) ∧
    (∃ (s : State) (n : Fin 24) (x : CoilIn), UcReady s n.val 0x04) ∧
    (∃ (s : State) (n : Fin 24) (x : CoilIn), UcReady s n.val 0x05) ∧
    (∃ (s : State) (n : Fin 24) (x : CoilIn), UcReady s n.val 0x06 ∧ s.bit Reg.VALVE.PSTAT.QUEUED n.val = false) ∧
    (∃ (s : State) (n : Fin 24) (x : CoilIn), UcReady s n.val 0x06 ∧ s.bit Reg.VALVE.PSTAT.QUEUED n.val = true) ∧
    (∃ (s : State) (n : Fin 24) (x : CoilIn), UcReady s n.val 0x08) ∧
    (∃ (s : State) (n : Fin 24) (x : CoilIn), UcReady s n.val 0x09) ∧
    (∃ (s : State) (n : Fin 24) (x : CoilIn), UcReady s n.val 0x0A) ∧
    (∃ (s : State) (n : Fin 24) (x : CoilIn), UcReady s n.val 0x0B) ∧
    (∃ (s : State) (n : Fin 24) (x : CoilIn), UcReady s n.val 0x0C) ∧
    (∃ (s : State) (n : Fin 24) (x : CoilIn), UcReady s n.val 0x0D) ∧
    (∃ (s : State) (n : Fin 24) (x : CoilIn), UcReady s n.val 0x0E) ∧
    (∃ (s : State) (n : Fin 24) (x : CoilIn), UcReady s n.val 0x0F) ∧
    (∃ (s : State) (n : Fin 24) (x : CoilIn), Live s ∧ vdPhase s n.val ≠ vdIdle ∧ (s.vdCh n.val).wait = .none ∧
      (s.vdCh n.val).succ ∈ (s.bank (vdBank n.val)).bad) ∧
    (∃ (s : State) (n : Fin 24) (x : CoilIn), Live s ∧ vdPhase s n.val ≠ vdIdle ∧ (s.vdCh n.val).wait = .none ∧
      (s.vdCh n.val).succ ∉ (s.bank (vdBank n.val)).bad ∧ ucBad (s.vdCh n.val).succ (ucNext s n.val) = true) :=
  ⟨⟨{ mk [(Reg.VALVE.PSTAT.PHASE, 23, vdPre)] [] with vd := [(23, { VdCh.init with succ := 511 })], ucode := [(3 * 512 + 511, ucw 0)] },
     23, ⟨0, 0, false, false⟩, ⟨by decide, by decide, by decide, by decide, by decide, by decide⟩⟩,

     ⟨{ mk [(Reg.VALVE.PSTAT.PHASE, 23, vdPre)] [] with vd := [(23, { VdCh.init with succ := 511 })], ucode := [(3 * 512 + 511, ucw 1)] },
     23, ⟨0, 0, false, false⟩, ⟨by decide, by decide, by decide, by decide, by decide, by decide⟩⟩,

     ⟨{ mk [(Reg.VALVE.PSTAT.PHASE, 23, vdPre)] [] with vd := [(23, { VdCh.init with succ := 511 })], ucode := [(3 * 512 + 511, ucw 2)] },
     23, ⟨0, 0, false, false⟩, ⟨by decide, by decide, by decide, by decide, by decide, by decide⟩⟩,

     ⟨{ mk [(Reg.VALVE.BANKSTAT.HOLDER, 3, 7), (Reg.VALVE.PSTAT.PHASE, 23, vdPre)] [] with vd := [(23, { VdCh.init with succ := 511 })], ucode := [(3 * 512 + 511, ucw 3)] },
     23, ⟨0, 0, false, false⟩, ⟨by decide, by decide, by decide, by decide, by decide, by decide⟩, by decide, by decide⟩,

     ⟨{ mk [(Reg.VALVE.PSTAT.PHASE, 23, vdPre), (Reg.VALVE.BANKSTAT.HOLDER, 3, 0)] [] with vd := [(23, { VdCh.init with succ := 511 })], ucode := [(3 * 512 + 511, ucw 3)] },
     23, ⟨0, 0, false, false⟩, ⟨by decide, by decide, by decide, by decide, by decide, by decide⟩, by decide, by decide⟩,

     ⟨{ mk [(Reg.VALVE.PSTAT.PHASE, 23, vdPre)] [] with vd := [(23, { VdCh.init with succ := 511 })], ucode := [(3 * 512 + 511, ucw 4)] },
     23, ⟨0, 0, false, false⟩, ⟨by decide, by decide, by decide, by decide, by decide, by decide⟩⟩,

     ⟨{ mk [(Reg.VALVE.PSTAT.PHASE, 23, vdPre)] [] with vd := [(23, { VdCh.init with succ := 511 })], ucode := [(3 * 512 + 511, ucw 5)] },
     23, ⟨0, 0, false, false⟩, ⟨by decide, by decide, by decide, by decide, by decide, by decide⟩⟩,

     ⟨{ mk [(Reg.VALVE.PSTAT.QUEUED, 23, 0), (Reg.VALVE.PSTAT.PHASE, 23, vdPre)] [] with vd := [(23, { VdCh.init with succ := 511 })], ucode := [(3 * 512 + 511, ucw 6)] },
     23, ⟨0, 0, false, false⟩, ⟨by decide, by decide, by decide, by decide, by decide, by decide⟩, by decide⟩,

     ⟨{ mk [(Reg.VALVE.PSTAT.QUEUED, 23, 1), (Reg.VALVE.PSTAT.PHASE, 23, vdPre)] [] with vd := [(23, { VdCh.init with succ := 511 })], ucode := [(3 * 512 + 511, ucw 6)] },
     23, ⟨0, 0, false, false⟩, ⟨by decide, by decide, by decide, by decide, by decide, by decide⟩, by decide⟩,

     ⟨{ mk [(Reg.VALVE.PSTAT.PHASE, 23, vdPre)] [] with vd := [(23, { VdCh.init with succ := 511 })], ucode := [(3 * 512 + 511, ucw 8)] },
     23, ⟨0, 0, false, false⟩, ⟨by decide, by decide, by decide, by decide, by decide, by decide⟩⟩,

     ⟨{ mk [(Reg.VALVE.PSTAT.PHASE, 23, vdPre)] [] with vd := [(23, { VdCh.init with succ := 511 })], ucode := [(3 * 512 + 511, ucw 9)] },
     23, ⟨0, 0, false, false⟩, ⟨by decide, by decide, by decide, by decide, by decide, by decide⟩⟩,

     ⟨{ mk [(Reg.VALVE.PSTAT.PHASE, 23, vdPre)] [] with vd := [(23, { VdCh.init with succ := 511 })], ucode := [(3 * 512 + 511, ucw 10)] },
     23, ⟨0, 0, false, false⟩, ⟨by decide, by decide, by decide, by decide, by decide, by decide⟩⟩,

     ⟨{ mk [(Reg.VALVE.PSTAT.PHASE, 23, vdPre)] [] with vd := [(23, { VdCh.init with succ := 511 })], ucode := [(3 * 512 + 511, ucw 11)] },
     23, ⟨0, 0, false, false⟩, ⟨by decide, by decide, by decide, by decide, by decide, by decide⟩⟩,

     ⟨{ mk [(Reg.VALVE.PSTAT.PHASE, 23, vdPre)] [] with vd := [(23, { VdCh.init with succ := 511 })], ucode := [(3 * 512 + 511, ucw 12)] },
     23, ⟨0, 0, false, false⟩, ⟨by decide, by decide, by decide, by decide, by decide, by decide⟩⟩,

     ⟨{ mk [(Reg.VALVE.PSTAT.PHASE, 23, vdPre)] [] with vd := [(23, { VdCh.init with succ := 511 })], ucode := [(3 * 512 + 511, ucw 13)] },
     23, ⟨0, 0, false, false⟩, ⟨by decide, by decide, by decide, by decide, by decide, by decide⟩⟩,

     ⟨{ mk [(Reg.VALVE.PSTAT.PHASE, 23, vdPre)] [] with vd := [(23, { VdCh.init with succ := 511 })], ucode := [(3 * 512 + 511, ucw 14)] },
     23, ⟨0, 0, false, false⟩, ⟨by decide, by decide, by decide, by decide, by decide, by decide⟩⟩,

     ⟨{ mk [(Reg.VALVE.PSTAT.PHASE, 23, vdPre)] [] with vd := [(23, { VdCh.init with succ := 511 })], ucode := [(3 * 512 + 511, ucw 15)] },
     23, ⟨0, 0, false, false⟩, ⟨by decide, by decide, by decide, by decide, by decide, by decide⟩⟩,

     ⟨{ mk [(Reg.VALVE.PSTAT.PHASE, 23, vdPre)] [] with vd := [(23, { VdCh.init with succ := 511 })], vbank := [(3, { VBank.init with bad := [511] })] },
     23, ⟨0, 0, false, false⟩, ⟨by decide, by decide, by decide⟩, by decide, by decide, by decide⟩,
   ⟨{ mk [(Reg.VALVE.PSTAT.PHASE, 23, vdPre)] [] with vd := [(23, { VdCh.init with succ := 15 })] }, 23, ⟨0, 0, false,
     false⟩, ⟨by decide, by decide, by decide⟩, by decide, by decide, by decide, by decide⟩⟩

theorem witness_ValveProtectionsReact :
    (∃ (s : State) (n : Fin 24), Live s ∧ (vdPhase s n.val = vdPeak ∨ vdPhase s n.val = vdHold) ∧ s.allOff = false ∧
      Fresh s Flt.VALVE.OPEN n.val) ∧
    (∃ (s : State) (n : Fin 24), Live s ∧ s.allOff = false ∧ Fresh s Flt.VALVE.THERM n.val) ∧
    (∃ (s : State) (n : Fin 24), Live s ∧ ∃ (g : Nat), (s.vdCh n.val).granted = some g ∧
      s.fld Reg.VALVE.BANKSTAT.HOLDER (vdBank n.val) = n.val % 6 ∧ Fresh s Flt.VALVE.PEAKCUT n.val ∧
      (s.bank (vdBank n.val)).queue = []) ∧
    (∃ (s : State) (n : Fin 24), Live s ∧ vdPhase s n.val ≠ vdIdle ∧ (s.vdCh n.val).ranOut = false ∧
      ¬(vdPhase s n.val = vdHold ∧ vdD s n.val = dForever) ∧ Fresh s Flt.VALVE.RUNMAX n.val) ∧
    (∃ (s : State) (n : Fin 24), Live s ∧ ∃ (irms : Nat), s.dom.pwr.getLsbD (vdDie n.val) = true ∧
      Fresh s Flt.VALVE.COILHOT n.val) ∧
    (∃ (s : State) (n : Fin 24), Live s ∧ ∃ (irms : Nat), s.dom.pwr.getLsbD (vdDie n.val) = true ∧
      (s.vdCh n.val).forceHot = true) ∧
    (∃ (s : State) (n : Fin 24), Live s ∧ ∃ (by_ : By), Forced s by_) ∧
    (∃ (s : State) (b : Fin 4) (thermal : Bool), Live s ∧ s.allOff = false ∧ (s.bit Reg.VALVE.BANKSTAT.VB_ON b.val = true ∨
      thermal = true) ∧ Fresh s (if thermal then Flt.VALVE.VBTHERM else Flt.VALVE.VBSHORT) b.val) ∧
    (∃ (s : State), ∃ (vpks : Nat), pksRuns s = true ∧ s.loadDump.getLsbD 0 = false ∧ pksVlim s * 250 ≤ vpks + 1000 ∧
      vpks ≤ pksVlim s * 250 + 1000) ∧
    (∃ (s : State), ∃ (cap : Nat), pksRuns s = true ∧ cap * 100 ≤ s.effFld Reg.VALVE.PKSCFG.CAP 0 * 120) ∧
    (∃ (s : State), ∃ (cap : Nat), pksRuns s = true ∧ Live s ∧ s.effFld Reg.VALVE.PKSCFG.CAP 0 * 120 < cap * 100) ∧
    (∃ (s : State), ∃ (vpks : Nat), pksVlim s * 250 + 3000 < vpks ∧ Live s ∧ Fresh s Flt.VALVE.PKS noUnit ∧ (∀ n, n < 24 →
      Fresh s Flt.VALVE.PEAKCUT n) ∧ (∀ b, b < 4 → s.bit Reg.VALVE.BANKSTAT.SRC_PKS b = true →
      s.fld Reg.VALVE.BANKSTAT.HOLDER b < 6)) :=
  ⟨⟨mk [(Reg.VALVE.PSTAT.PHASE, 23, vdPeak)] [], 23, ⟨by decide, by decide, by decide⟩, by decide, by decide,
     fresh_nil rfl _ _⟩,
   ⟨mk [] [], 23, ⟨by decide, by decide, by decide⟩, by decide, fresh_nil rfl _ _⟩,
   ⟨{ mk [(Reg.VALVE.BANKSTAT.HOLDER, 3, 5)] [] with vd := [(23, { VdCh.init with granted := some 5 })] }, 23, ⟨by decide,
     by decide, by decide⟩, 5, by decide, by decide, fresh_nil rfl _ _, by decide⟩,
   ⟨mk [(Reg.VALVE.PSTAT.PHASE, 23, vdPre)] [], 23, ⟨by decide, by decide, by decide⟩, by decide, by decide, by decide,
     fresh_nil rfl _ _⟩,
   ⟨mk [] [], 23, ⟨by decide, by decide, by decide⟩, 4095, by decide, fresh_nil rfl _ _⟩,
   ⟨{ mk [] [] with vd := [(23, { VdCh.init with forceHot := true })] }, 23, ⟨by decide, by decide, by decide⟩, 4095,
     by decide, by decide⟩,
   ⟨mk [(Reg.FAULT.CTRL.FORCE_EN, 0, 1)] [], 23, ⟨by decide, by decide, by decide⟩, ⟨true, 3, false⟩, ⟨by decide, by decide⟩⟩,
   ⟨mk [(Reg.VALVE.BANKSTAT.VB_ON, 3, 1)] [], 3, true, ⟨by decide, by decide, by decide⟩, by decide, by decide,
     fresh_nil rfl _ _⟩,
   ⟨mk [(Reg.VALVE.PKSSTAT.OV, 0, 0), (Reg.VALVE.PKSSTAT.CMEAS, 0, 0)] [(Reg.VALVE.PKSCTL.EN, 0, 1), (Reg.VALVE.PKSCTL.VSET,
     0, 80), (Reg.VALVE.PKSCFG.CAP, 0, 0)], 80 * 250 + 1000, by decide, by decide, by unfold pksVlim; decide,
     by unfold pksVlim; decide⟩,
   ⟨mk [(Reg.VALVE.PKSSTAT.OV, 0, 0), (Reg.VALVE.PKSSTAT.CMEAS, 0, 0)] [(Reg.VALVE.PKSCTL.EN, 0, 1), (Reg.VALVE.PKSCFG.CAP,
     0, 100)], 120, by decide, by decide⟩,
   ⟨mk [(Reg.VALVE.PKSSTAT.OV, 0, 0), (Reg.VALVE.PKSSTAT.CMEAS, 0, 0)] [(Reg.VALVE.PKSCTL.EN, 0, 1), (Reg.VALVE.PKSCFG.CAP,
     0, 100)], 121, by decide, ⟨by decide, by decide, by decide⟩, by decide⟩,
   ⟨mk [(Reg.VALVE.PKSSTAT.CMEAS, 0, 0)] [(Reg.VALVE.PKSCTL.VSET, 0, 80), (Reg.VALVE.PKSCFG.CAP, 0, 0)], 80 * 250 + 3001,
     by unfold pksVlim; decide, ⟨by decide, by decide, by decide⟩, fresh_nil rfl _ _, fun _ _ => fresh_nil rfl _ _,
     by decide⟩⟩

theorem witness_LightingReacts :
    (∃ (s : State) (n : Fin 32), Live s ∧ s.bit Reg.LIGHT.STAGESTAT.RUN (sinkStage n.val) = true ∧ sinkAsked s n.val ≠ 0 ∧
      s.bit Reg.LIGHT.SINKSTAT.EXCLUDED n.val = false ∧ Fresh s Flt.LIGHT.OPEN n.val) ∧
    (∃ (s : State) (n : Fin 32), Live s ∧ s.bit Reg.LIGHT.STAGESTAT.RUN (sinkStage n.val) = true ∧ sinkAsked s n.val ≠ 0 ∧
      Fresh s Flt.LIGHT.SHORT n.val) ∧
    (∃ (s : State) (n : Fin 32), Live s ∧ s.allOff = false ∧ Fresh s Flt.LIGHT.THERM n.val) ∧
    (∃ (s : State) (n : Fin 32), Live s ∧ ∃ (by_ : By), Forced s by_) ∧
    (∃ (s : State) (g : Fin 4) (trip : StageTrip), Live s ∧
      (if trip = .thermal then s.allOff = false else s.bit Reg.LIGHT.STAGESTAT.RUN g.val = true ∧ (trip = .short →
      s.bit Reg.LIGHT.STAGESTAT.READY g.val = true)) ∧
      Fresh s (if trip = .leak then Flt.LIGHT.LEAK else Flt.LIGHT.STAGE) g.val) ∧
    (∃ (s : State), Live s ∧ (s.bit Reg.LIGHT.MXSTAT.FRAME_BUSY 0 = true ∨ s.bit Reg.LIGHT.MXSTAT.LINE_BUSY 0 = true)) ∧
    (∃ (s : State), Live s ∧ (s.bit Reg.LIGHT.MXSTAT.FRAME_BUSY 0 = true ∨ s.bit Reg.LIGHT.MXSTAT.LINE_BUSY 0 = true)) ∧
    (∃ (s : State), Live s ∧ matrixRail s = true) ∧
    (∃ (s : State) (n : Fin 32), s.effBit Reg.LIGHT.SINKCTRL.REARM n.val = true ∧
      s.bit Reg.LIGHT.SINKSTAT.TLATCH n.val = false) ∧
    (∃ (s : State) (g : Fin 4), s.effBit Reg.LIGHT.STAGECTRL.REARM g.val = true ∧
      s.bit Reg.LIGHT.STAGESTAT.TLATCH g.val = false ∧ s.raiseQ = []) ∧
    (∃ (s : State), s.effBit Reg.LIGHT.MXCTRL.REARM 0 = true) ∧
    (∃ (s : State) (n : Fin 32) (hr vout : Nat), s.bit Reg.LIGHT.STAGESTAT.RUN (sinkStage n.val) = true ∧
      sinkAsked s n.val ≠ 0) ∧
    (∃ (s : State) (g : Fin 4) (vout : Nat), s.bit Reg.LIGHT.STAGESTAT.RUN g.val = true ∧ stageTarget s g.val ≤ vout + 500 ∧
      vout ≤ stageTarget s g.val + 500) ∧
    (∃ (s : State) (n : Fin 32) (irms : Nat) (ref : Int), s.dom.pwr.getLsbD (sinkDie n.val) = true ∧ Live s ∧
      Fresh s Flt.LIGHT.LEDHOT n.val) ∧
    (∃ (s : State), s.bit Reg.LIGHT.MXSTAT.FRAME_BUSY 0 = true) ∧
    (∃ (s : State), (s.bit Reg.LIGHT.MXSTAT.HOLDOVER 0 = true ∨ (s.bit Reg.LIGHT.MXSTAT.SAFE 0 = true ∧
      s.effBit Reg.LIGHT.MXRAIL.SAFE 0 = true)) ∧ matrixRail s = true ∧ mxBusy s = false ∧ s.matrix.starts ≠ []) :=
  ⟨⟨mk [(Reg.LIGHT.STAGESTAT.RUN, 3, 1), (Reg.LIGHT.SINKSTAT.EXCLUDED, 31, 0)] [(Reg.LIGHT.SINKCTRL.CODE, 31, 4000),
     (Reg.LIGHT.SINKDIM.DUTY, 31, 1024)], 31, ⟨by decide, by decide, by decide⟩, by decide, by decide, by decide,
     fresh_nil rfl _ _⟩,
   ⟨mk [(Reg.LIGHT.STAGESTAT.RUN, 3, 1)] [(Reg.LIGHT.SINKCTRL.CODE, 31, 4000), (Reg.LIGHT.SINKDIM.DUTY, 31, 1024)], 31,
     ⟨by decide, by decide, by decide⟩, by decide, by decide, fresh_nil rfl _ _⟩,
   ⟨mk [] [], 31, ⟨by decide, by decide, by decide⟩, by decide, fresh_nil rfl _ _⟩,
   ⟨mk [(Reg.FAULT.CTRL.FORCE_EN, 0, 1)] [], 31, ⟨by decide, by decide, by decide⟩, ⟨true, 3, false⟩, ⟨by decide, by decide⟩⟩,
   ⟨mk [(Reg.LIGHT.STAGESTAT.RUN, 3, 1), (Reg.LIGHT.STAGESTAT.READY, 3, 1)] [], 3, .short, ⟨by decide, by decide, by decide⟩,
     by decide, fresh_nil rfl _ _⟩,
   ⟨mk [(Reg.LIGHT.MXSTAT.FRAME_BUSY, 0, 1)] [], ⟨by decide, by decide, by decide⟩, by decide⟩,
   ⟨mk [(Reg.LIGHT.MXSTAT.FRAME_BUSY, 0, 1), (Reg.LIGHT.MXSTAT.LINE_BUSY, 0, 1)] [], ⟨by decide, by decide, by decide⟩,
     by decide⟩,
   ⟨mk [(Reg.LIGHT.MXSTAT.PROT_OFF, 0, 0), (Reg.LIGHT.MXSTAT.SAFE, 0, 0), (Reg.LEDGER.RESV.RESV, 117,
     1)] [(Reg.LIGHT.MXCTRL.EN, 0, 1)], ⟨by decide, by decide, by decide⟩, by decide⟩,
   ⟨mk [(Reg.LIGHT.SINKSTAT.TLATCH, 31, 0)] [(Reg.LIGHT.SINKCTRL.REARM, 31, 1)], 31, by decide, by decide⟩,
   ⟨mk [(Reg.LIGHT.STAGESTAT.TLATCH, 3, 0)] [(Reg.LIGHT.STAGECTRL.REARM, 3, 1)], 3, by decide, by decide, by decide⟩,
   ⟨mk [] [(Reg.LIGHT.MXCTRL.REARM, 0, 1)], by decide⟩,
   ⟨mk [(Reg.LIGHT.STAGESTAT.RUN, 3, 1)] [(Reg.LIGHT.SINKCTRL.CODE, 31, 4000), (Reg.LIGHT.SINKDIM.DUTY, 31, 1024)], 31, 5, 7,
     by decide, by decide⟩,
   ⟨mk [(Reg.LIGHT.STAGESTAT.RUN, 3, 1)] [], 3, stageTarget (mk [(Reg.LIGHT.STAGESTAT.RUN, 3, 1)] []) 3 + 500, by decide,
     by decide, by decide⟩,
   ⟨mk [] [], 31, 0, 0, by decide, ⟨by decide, by decide, by decide⟩, fresh_nil rfl _ _⟩,
   ⟨mk [(Reg.LIGHT.MXSTAT.FRAME_BUSY, 0, 1)] [], by decide⟩,

     ⟨{ mk [(Reg.LIGHT.MXSTAT.PROT_OFF, 0, 0), (Reg.LIGHT.MXSTAT.SAFE, 0, 0), (Reg.LEDGER.RESV.RESV, 117, 1), (Reg.LIGHT.MXSTAT.HOLDOVER, 0, 1), (Reg.LIGHT.MXSTAT.FRAME_BUSY, 0, 0), (Reg.LIGHT.MXSTAT.LINE_BUSY, 0, 0)] [(Reg.LIGHT.MXCTRL.EN, 0, 1)] with matrix := { Matrix.init with starts := [9] } },
     by decide, by decide, by decide, by decide⟩⟩

theorem witness_OutputEventsAct :
    (∃ (s : State) (n : Fin 96), Calm s ∧ lswPulsed s n.val = true) ∧
    (∃ (s : State) (n : Fin 32), sinkDimmed s n.val = true) ∧
    (∃ (s : State) (n : Fin 96) (h : Nat), Calm s ∧ (s.lswCh n.val).holdFrom = some h) ∧
    (∃ (s : State) (n : Fin 32) (h : Nat), (s.sink n.val).holdFrom = some h) ∧
    (∃ (s : State) (h : Nat), s.matrix.holdFrom = some h) ∧
    (∃ (s : State) (n : Fin 16), Live s ∧ Fresh s Flt.HBR.GATE n.val) ∧
    (∃ (s : State) (n : Fin 24), Live s) ∧
    (∃ (s : State) (b : Fin 4), Live s) ∧
    (∃ (s : State) (g : Fin 4), Live s) ∧
    (∃ (s : State) (die : Fin 4) (under : Bool), Calm s) :=
  ⟨⟨mk [] [(Reg.LSW.CTRL.GROUP, 95, 11)], 95, ⟨by decide, fun _ => rfl⟩, by decide⟩,
   ⟨mk [] [(Reg.LIGHT.SINKDIM.DUTY, 31, 1023)], 31, by decide⟩,
   ⟨{ mk [] [] with lsw := [(95, { LswCh.init with holdFrom := some 5 })] }, 95, 5, calm_one rfl rfl rfl, by decide⟩,
   ⟨{ mk [] [] with sinks := [(31, { Sink.init with holdFrom := some 5 })] }, 31, 5, by decide⟩,
   ⟨{ mk [] [] with matrix := { Matrix.init with holdFrom := some 5 } }, 5, by decide⟩,
   ⟨mk [] [], 15, ⟨by decide, by decide, by decide⟩, fresh_nil rfl _ _⟩,
   ⟨mk [] [], 23, ⟨by decide, by decide, by decide⟩⟩,
   ⟨mk [] [], 3, ⟨by decide, by decide, by decide⟩⟩,
   ⟨mk [] [], 3, ⟨by decide, by decide, by decide⟩⟩,
   ⟨mk [] [], 3, true, ⟨by decide, fun _ => rfl⟩⟩⟩

theorem witness_TimeBaseAndTimersCount :
    (∃ (s : State), timeRuns s = true) ∧
    (∃ (s : State) (ratio : Nat), timeRuns s = true ∧ slowNominal * 98 ≤ ratio * 100 ∧ ratio * 100 ≤ slowNominal * 102) ∧
    (∃ (s : State) (ratio : Nat), timeRuns s = true ∧ Live s ∧ (ratio * 100 < slowNominal * 98 ∨
      slowNominal * 102 < ratio * 100)) ∧
    (∃ (s : State) (port : Fin 3) (pdelay ns : Nat), s.effBit Reg.NET.GPTP.EN 0 = true ∧
      s.effFld Reg.NET.GPTP.PORT 0 = port.val ∧ pdelay ≤ s.effFld Reg.NET.GPTP.PDMAX 0 ∧ s.dom.net = true ∧
      s.dom.logic = true ∧ s.planRuns = true ∧ ((ns / 10 : Nat) : Int) - s.now ≤ 1000 ∧
      (s.now : Int) - (ns / 10 : Nat) ≤ 1000) ∧
    (∃ (s : State) (port : Fin 3) (pdelay ns : Nat), s.effBit Reg.NET.GPTP.EN 0 = true ∧
      s.effFld Reg.NET.GPTP.PORT 0 = port.val ∧ pdelay ≤ s.effFld Reg.NET.GPTP.PDMAX 0 ∧ s.dom.net = true ∧
      s.dom.logic = true ∧ s.planRuns = true ∧ Live s ∧ 1000 < ((((ns / 10 : Nat) : Int) - s.now).natAbs)) ∧
    (∃ (s : State) (port : Fin 3) (pdelay ns : Nat), s.effBit Reg.NET.GPTP.EN 0 = true ∧
      s.effFld Reg.NET.GPTP.PORT 0 = port.val ∧ pdelay ≤ s.effFld Reg.NET.GPTP.PDMAX 0 ∧ s.dom.net = true ∧
      s.dom.logic = true ∧ (s.seqState = seqNoPlan ∨ s.seqState = seqArmed) ∧ s.now < ns / 10) ∧
    (∃ (s : State) (port : Fin 3) (pdelay ns : Nat), s.effBit Reg.NET.GPTP.EN 0 = true ∧
      s.effFld Reg.NET.GPTP.PORT 0 = port.val ∧ pdelay ≤ s.effFld Reg.NET.GPTP.PDMAX 0 ∧ s.dom.net = true ∧
      s.dom.logic = true ∧ (s.seqState = seqNoPlan ∨ s.seqState = seqArmed) ∧ Live s ∧ ns / 10 < s.now) ∧
    (∃ (s : State) (n : Fin 48), inValley s = false ∧ s.dom.logic = true ∧ s.bit Reg.TIME.CMP_CTRL.ARM n.val = true) ∧
    (∃ (s : State) (n : Fin 16) (dirHigh : Bool), s.dom.logic = true ∧ s.bit Reg.TIME.UDC_CTRL.RUN n.val = true ∧
      ((s.fld Reg.TIME.UDC_CTRL.MODE n.val) = 1 ∨ ((s.fld Reg.TIME.UDC_CTRL.MODE n.val) = 4 ∧ dirHigh = true))) ∧
    (∃ (s : State) (n : Fin 16) (dirHigh : Bool), s.dom.logic = true ∧ s.bit Reg.TIME.UDC_CTRL.RUN n.val = true ∧
      ((s.fld Reg.TIME.UDC_CTRL.MODE n.val) = 2 ∨ ((s.fld Reg.TIME.UDC_CTRL.MODE n.val) = 4 ∧ dirHigh = false))) ∧
    (∃ (s : State) (n : Fin 16) (dirHigh : Bool), s.dom.logic = true ∧ s.bit Reg.TIME.UDC_CTRL.RUN n.val = true ∧
      (s.fld Reg.TIME.UDC_CTRL.MODE n.val) = 3 ∧ s.bit Reg.TIME.UDC_CTRL.DIR n.val = false ∧
      (s.fld Reg.TIME.UDC_COUNT.VALUE n.val) < (s.fld Reg.TIME.UDC_TOP.VALUE n.val)) ∧
    (∃ (s : State) (n : Fin 16) (dirHigh : Bool), s.dom.logic = true ∧ s.bit Reg.TIME.UDC_CTRL.RUN n.val = true ∧
      (s.fld Reg.TIME.UDC_CTRL.MODE n.val) = 3 ∧ s.bit Reg.TIME.UDC_CTRL.DIR n.val = false ∧
      (s.fld Reg.TIME.UDC_COUNT.VALUE n.val) = (s.fld Reg.TIME.UDC_TOP.VALUE n.val) ∧
      0 < (s.fld Reg.TIME.UDC_TOP.VALUE n.val)) ∧
    (∃ (s : State) (n : Fin 32) (count : Nat), s.dom.logic = true ∧ s.bit Reg.TIME.CAP_CFG.EN n.val = true ∧
      s.fld Reg.TIME.CAP_CFG.SRC n.val < 112) :=
  ⟨⟨mk [] [], by decide⟩,
   ⟨mk [] [], 196000000, by decide, by decide, by decide⟩,
   ⟨mk [] [], 204000001, by decide, ⟨by decide, by decide, by decide⟩, by decide⟩,
   ⟨mk [] [(Reg.NET.GPTP.EN, 0, 1), (Reg.NET.GPTP.PORT, 0, 1)], 1, 0, 36000, by decide, by decide, by decide, by decide,
     by decide, by decide, by decide, by decide⟩,
   ⟨mk [] [(Reg.NET.GPTP.EN, 0, 1), (Reg.NET.GPTP.PORT, 0, 1)], 1, 0, 36010, by decide, by decide, by decide, by decide,
     by decide, by decide, ⟨by decide, by decide, by decide⟩, by decide⟩,
   ⟨mk [(Reg.TICK.STATUS.STATE, 0, seqNoPlan)] [(Reg.NET.GPTP.EN, 0, 1), (Reg.NET.GPTP.PORT, 0, 1)], 1, 0, 26010, by decide,
     by decide, by decide, by decide, by decide, by decide, by decide⟩,
   ⟨mk [(Reg.TICK.STATUS.STATE, 0, seqNoPlan)] [(Reg.NET.GPTP.EN, 0, 1), (Reg.NET.GPTP.PORT, 0, 1)], 1, 0, 25990, by decide,
     by decide, by decide, by decide, by decide, by decide, ⟨by decide, by decide, by decide⟩, by decide⟩,
   ⟨mk [(Reg.TIME.CMP_CTRL.ARM, 47, 1)] [], 47, by decide, by decide, by decide⟩,
   ⟨mk [(Reg.TIME.UDC_CTRL.RUN, 15, 1), (Reg.TIME.UDC_CTRL.MODE, 15, 4)] [], 15, true, by decide, by decide, by decide⟩,
   ⟨mk [(Reg.TIME.UDC_CTRL.RUN, 15, 1), (Reg.TIME.UDC_CTRL.MODE, 15, 4)] [], 15, false, by decide, by decide, by decide⟩,
   ⟨mk [(Reg.TIME.UDC_CTRL.RUN, 15, 1), (Reg.TIME.UDC_CTRL.DIR, 15, 0), (Reg.TIME.UDC_CTRL.MODE, 15, 3),
     (Reg.TIME.UDC_COUNT.VALUE, 15, 8), (Reg.TIME.UDC_TOP.VALUE, 15, 9)] [], 15, true, by decide, by decide, by decide,
     by decide, by decide⟩,
   ⟨mk [(Reg.TIME.UDC_CTRL.RUN, 15, 1), (Reg.TIME.UDC_CTRL.DIR, 15, 0), (Reg.TIME.UDC_CTRL.MODE, 15, 3),
     (Reg.TIME.UDC_COUNT.VALUE, 15, 9), (Reg.TIME.UDC_TOP.VALUE, 15, 9)] [], 15, true, by decide, by decide, by decide,
     by decide, by decide, by decide⟩,
   ⟨mk [(Reg.TIME.CAP_CFG.EN, 31, 1), (Reg.TIME.CAP_CFG.SRC, 31, 111)] [], 31, 0, by decide, by decide, by decide⟩⟩

theorem witness_InputsAreShown :
    (∃ (s : State) (n : Fin 64) (level : Bool), inValley s = false ∧ siLevel s n.val = !level) ∧
    (∃ (s : State) (n : Fin 64), smapGet (fun _ => 0) s.timers.clean n.val ≠ 0) ∧
    (∃ (s : State) (n : Fin 64) (level : Bool), inValley s = true ∧ s.bit Reg.INPUT.SICFG.VWAKE n.val = true ∧
      siLevel s n.val = !level ∧ n.val ∉ s.timers.polled) ∧
    (∃ (s : State) (n : Fin 64) (level : Bool), inValley s = true ∧ s.bit Reg.INPUT.SICFG.VWAKE n.val = true ∧
      siLevel s n.val = !level ∧ n.val ∈ s.timers.polled ∧ (s.fld Reg.POWER.WAKEEN.EN 0).testBit 6 = true ∧
      sleepState s = sleepPassed ∧ s.power.exitAt = none) ∧
    (∃ (s : State) (n : Fin 24) (code : BitVec 12), (∃ p ∈ s.timers.conv, p.1 = n.val) ∧
      s.fld Reg.INPUT.AICFG.MODE n.val ≠ 1) ∧
    (∃ (s : State) (n : Fin 24) (code : BitVec 12), (∃ p ∈ s.timers.conv, p.1 = n.val) ∧
      s.fld Reg.INPUT.AICFG.MODE n.val = 1 ∧ Live s ∧ (code.toNat ≤ 15 ∨ 4080 ≤ code.toNat)) :=
  ⟨⟨mk [] [], 63, true, by decide, by decide⟩,
   ⟨{ mk [] [] with timers := { Timers.init with clean := [(63, 9)] } }, 63, by decide⟩,
   ⟨{ mk [(Reg.INPUT.SICFG.VWAKE, 63, 1)] [] with power := { Power.init with descent := .valley } }, 63, true, by decide,
     by decide, by decide, by decide⟩,

     ⟨{ mk [(Reg.INPUT.SICFG.VWAKE, 63, 1), (Reg.POWER.STATUS.SLEEP, 0, sleepPassed), (Reg.POWER.WAKEEN.EN, 0, 0x40)] [] with power := { Power.init with descent := .valley }, timers := { Timers.init with polled := [63] } },
     63, true, by decide, by decide, by decide, by decide, by decide, by decide, by decide⟩,
   ⟨{ mk [(Reg.INPUT.AICFG.MODE, 23, 2)] [] with timers := { Timers.init with conv := [(23, 9)] } }, 23, 0, by decide,
     by decide⟩,
   ⟨{ mk [(Reg.INPUT.AICFG.MODE, 23, 1)] [] with timers := { Timers.init with conv := [(23, 9)] } }, 23, 15, by decide,
     by decide, ⟨by decide, by decide, by decide⟩, by decide⟩⟩

theorem witness_PortsFollowTheirBus :
    (∃ (s : State) (port : Fin 11) (x : TxItem) (l : List TxItem), portUp s port.val = true ∧ (port.val = 2 →
      plcaRuns s = false) ∧ txQueue s port.val = x :: l) ∧
    (∃ (s : State) (e : Fin 2), s.dom.net = true ∧ s.bit Reg.NET.ETSTAT.LINK e.val = true ∧ Live s) ∧
    (∃ (s : State) (e : Fin 2), s.dom.net = true ∧ s.effBit Reg.NET.ETCFG.EN e.val = true) ∧
    (∃ (s : State), s.effBit Reg.NET.GPTP.EN 0 = true) ∧
    (∃ (s : State), portUp s 2 = true ∧ plcaRuns s = true ∧ s.effFld Reg.NET.TSCFG.NODEID 0 ≠ 0 ∧ Live s) ∧
    (∃ (s : State), portUp s 2 = true ∧ s.effBit Reg.NET.TSCFG.PLCA 0 = true) ∧
    (∃ (s : State) (c : Fin 8), s.dom.net = true ∧ s.fld Reg.NET.CANSTAT.STATE c.val < 2 ∧ Live s) ∧
    (∃ (s : State) (c : Fin 8), s.effBit Reg.NET.CANCFG.AUTOREC c.val = true ∧ s.fld Reg.NET.CANSTAT.STATE c.val = 2) ∧
    (∃ (s : State) (c : Fin 8), s.effBit Reg.NET.CANCFG.AUTOREC c.val = false) ∧
    (∃ (s : State) (c : Fin 8), ∃ b : By, b.priv = true ∧ s.fld Reg.NET.CANSTAT.STATE c.val = 2) :=
  ⟨⟨{ mk [(Reg.NET.CANSTAT.STATE, 7, 1)] [] with net := { Net.init with tx := [(10, [.advert 0 0])] } }, 10, .advert 0 0, [],
     by decide, by decide, by decide⟩,
   ⟨mk [(Reg.NET.ETSTAT.LINK, 1, 1)] [], 1, by decide, by decide, ⟨by decide, by decide, by decide⟩⟩,
   ⟨mk [] [(Reg.NET.ETCFG.EN, 1, 1)], 1, by decide, by decide⟩,
   ⟨mk [] [(Reg.NET.GPTP.EN, 0, 1)], by decide⟩,
   ⟨mk [] [(Reg.NET.TSCFG.NODEID, 0, 1), (Reg.NET.TSCFG.EN, 0, 1), (Reg.NET.TSCFG.PLCA, 0, 1)], by decide, by decide,
     by decide, ⟨by decide, by decide, by decide⟩⟩,
   ⟨mk [] [(Reg.NET.TSCFG.PLCA, 0, 1), (Reg.NET.TSCFG.EN, 0, 1)], by decide, by decide⟩,
   ⟨mk [(Reg.NET.CANSTAT.STATE, 7, 1)] [], 7, by decide, by decide, ⟨by decide, by decide, by decide⟩⟩,
   ⟨mk [(Reg.NET.CANSTAT.STATE, 7, 2)] [(Reg.NET.CANCFG.AUTOREC, 7, 1)], 7, by decide, by decide⟩,
   ⟨mk [] [(Reg.NET.CANCFG.AUTOREC, 7, 0)], 7, by decide⟩,
   ⟨mk [(Reg.NET.CANSTAT.STATE, 7, 2)] [], 7, ⟨true, 3, false⟩, by decide, by decide⟩⟩

theorem witness_FramesReceivedAreRouted :
    (∃ (s : State) (f : BusFrame), f.port.val < 11 ∧ portUp s (busPort f.port.val) = true ∧ f.supported = true ∧
      f.intact = true ∧ dictIdent s f = false ∧ ∃ (e : Nat), rxEntry s f = some e) ∧
    (∃ (s : State) (f : BusFrame), f.port.val < 11 ∧ portUp s (busPort f.port.val) = true ∧ f.supported = true ∧
      f.intact = true ∧ dictIdent s f = false ∧ rxEntry s f = none) ∧
    (∃ (s : State) (l : Fin 12) (fid : BitVec 6), linUp s l.val = true ∧ s.effBit Reg.NET.LINCFG.CMDR l.val = false ∧ Live s) ∧
    (∃ (s : State) (l : Fin 12) (fid : BitVec 6), linUp s l.val = true ∧ s.effBit Reg.NET.LINCFG.CMDR l.val = false ∧
      ∃ (k : Nat) (e : Nat) (data : List Byte), (linPort s l.val).armed = [(k, data)] ∧ s.tableEntry 3 k = some e ∧
      s.plan.be (e + 2) 1 = fid.toNat ∧ (s.plan.be (e + 1) 1).testBit 0 = true) ∧
    (∃ (s : State) (port : Fin 3) (target source : BitVec 128) (data : List Byte), portUp s port.val = true ∧
      ownAddr s port.val target.toNat = true ∧ dupKey port.val target.toNat ∉ s.net.dupAddr ∧ Live s) :=
  ⟨⟨{ mk [(Reg.NET.ETSTAT.LINK, 1, 1)] [(Reg.NET.ETCFG.EN, 1, 1)] with plan := tablePlan 2 [10] }, ⟨10, true, true, false, 0,
     true, []⟩, by decide, by decide, by decide, by decide, by decide, 0x210, by decide⟩,
   ⟨mk [(Reg.NET.ETSTAT.LINK, 1, 1)] [(Reg.NET.ETCFG.EN, 1, 1)], ⟨10, true, true, false, 0, true, []⟩, by decide, by decide,
     by decide, by decide, by decide, by decide⟩,
   ⟨mk [] [(Reg.NET.LINCFG.CMDR, 11, 0), (Reg.NET.LINCFG.EN, 11, 1)], 11, 63, by decide, by decide, ⟨by decide, by decide,
     by decide⟩⟩,

     ⟨{ mk [] [(Reg.NET.LINCFG.CMDR, 11, 0), (Reg.NET.LINCFG.EN, 11, 1)] with net := { Net.init with lin := [(11, { LinPort.init with armed := [(0, [])] })] }, plan := tablePlan 3 [0, 1, 63] },
     11, 63, by decide, by decide, 0, 0x210, [], by decide, by decide, by decide, by decide⟩,
   ⟨mk [] [(Reg.NET.TSCFG.EN, 0, 1), (⟨0x20019C, 4, 0, 32⟩, 0, 5)], 2, 5, 5, [], by decide,
     (Bool.or_eq_true _ _).mpr (.inr (by decide)), by decide, ⟨by decide, by decide, by decide⟩⟩⟩

theorem witness_ReadsAreAnswered :
    (∃ (s : State) (f : DictFrame) (role : Nat) (key : List Byte), Authentic s { f with op := 1 } role key ∧ ∃ (e : Entry),
      entryAt s f.index.toNat f.sub.toNat = some e ∧ rightOf e.rights role % 2 = 1 ∧ f.vtype.toNat = e.type ∧ f.body = [] ∧
      e.type < 0x0C ∧ e.resp = true ∧ s.seqState ≠ seqHandover ∧ (s.net.resp.filter fun c => s.now < c).length < 32 ∧
      (entryValue (ntStop s) e role f.sub.toNat).length ≤ maxBody f.form.val) ∧
    (∃ (s : State) (f : DictFrame) (role : Nat) (key : List Byte), Authentic s { f with op := 1 } role key ∧
      entryAt s f.index.toNat f.sub.toNat = none) ∧
    (∃ (s : State) (f : DictFrame) (role : Nat) (key : List Byte), Authentic s { f with op := 1 } role key ∧ ∃ (e : Entry),
      entryAt s f.index.toNat f.sub.toNat = some e ∧ rightOf e.rights role % 2 = 0) ∧
    (∃ (s : State) (f : DictFrame) (role : Nat) (key : List Byte), Authentic s { f with op := 1 } role key ∧ ∃ (e : Entry),
      entryAt s f.index.toNat f.sub.toNat = some e ∧ rightOf e.rights role % 2 = 1 ∧ f.vtype.toNat ≠ e.type) ∧
    (∃ (s : State) (f : DictFrame) (role : Nat) (key : List Byte), dictUp s = true ∧ frameOk s f = true ∧
      clientOk s f = some (role, key) ∧ supported f = false) ∧
    (∃ (s : State) (f : DictFrame), dictUp s = true ∧ frameOk s { f with op := 1 } = true ∧
      clientOk s { f with op := 1 } = none) :=
  ⟨⟨dct 3 [] [], signedBy dkey (req 1 0 0x1000 6 2 9 []), 3, dkey, authentic_of rfl ⟨by decide, by decide,
     clientOk_of rfl (by decide) (by decide) (by decide) (signedBy_tag _ _ (by decide)), by decide⟩,
     (entryAt State.reset 0x1000 6).get (by decide), by decide, by decide, by decide, by decide, by decide, by decide,
     by decide, by decide, by decide⟩,
   ⟨dct 3 [] [], signedBy dkey (req 1 0 0x1000 7 2 9 []), 3, dkey, authentic_of rfl ⟨by decide, by decide,
     clientOk_of rfl (by decide) (by decide) (by decide) (signedBy_tag _ _ (by decide)), by decide⟩, by decide⟩,
   ⟨dct 1 [] [], signedBy dkey (req 1 0 0x1010 0 2 9 []), 1, dkey, authentic_of rfl ⟨by decide, by decide,
     clientOk_of rfl (by decide) (by decide) (by decide) (signedBy_tag _ _ (by decide)), by decide⟩,
     (entryAt State.reset 0x1010 0).get (by decide), by decide, by decide⟩,
   ⟨dct 3 [] [], signedBy dkey (req 1 0 0x1000 6 4 9 []), 3, dkey, authentic_of rfl ⟨by decide, by decide,
     clientOk_of rfl (by decide) (by decide) (by decide) (signedBy_tag _ _ (by decide)), by decide⟩,
     (entryAt State.reset 0x1000 6).get (by decide), by decide, by decide, by decide⟩,
   ⟨dct 3 [] [], signedBy dkey (req 6 0 0x1000 6 4 9 []), 3, dkey, by decide, by decide,
     clientOk_of rfl (by decide) (by decide) (by decide) (signedBy_tag _ _ (by decide)), by decide⟩,
   ⟨dct 3 [] [], { req 1 0 0x1000 6 4 9 [] with client := 33 }, by decide, by decide, by decide⟩⟩

theorem witness_CommandsAreAccepted :
    (∃ (s : State) (f : DictFrame) (role : Nat) (key : List Byte) (w : Bool),
      Authentic s { f with op := (if w then 2 else 3) } role key ∧ ∃ (e : Entry),
      judgeSeq s f.client.toNat f.cseq.toNat = .new ∧ entryAt s f.index.toNat f.sub.toNat = some e ∧
      rightOf e.rights role / 2 % 2 = 1 ∧ f.vtype.toNat = e.type ∧ e.type ≠ 0x0D ∧ f.body.length = e.len ∧ (w = true →
      e.type ≠ 0x0C ∧ valueBad e f.body = false ∧ (writeMask e role f.body).any (· != 0) = true) ∧ (w = false →
      e.type = 0x0C) ∧ (s.manifest f.index.toNat f.sub.toNat).isSome = true ∧ journalBusy s = false) ∧
    (∃ (s : State) (f : DictFrame) (role : Nat) (key : List Byte) (w : Bool),
      Authentic s { f with op := (if w then 2 else 3) } role key ∧ ∃ (e : Entry),
      judgeSeq s f.client.toNat f.cseq.toNat = .new ∧ entryAt s f.index.toNat f.sub.toNat = some e ∧
      rightOf e.rights role / 2 % 2 = 1 ∧ f.vtype.toNat = e.type ∧ e.type ≠ 0x0D ∧ f.body.length = e.len ∧ (w = true →
      e.type ≠ 0x0C ∧ valueBad e f.body = false ∧ (writeMask e role f.body).any (· != 0) = true) ∧ (w = false →
      e.type = 0x0C) ∧ (s.manifest f.index.toNat f.sub.toNat).isSome = true ∧ journalBusy s = true) ∧
    (∃ (s : State) (f : DictFrame) (role : Nat) (key : List Byte) (w : Bool),
      Authentic s { f with op := (if w then 2 else 3) } role key ∧ ∃ (q : Nat),
      judgeSeq s f.client.toNat f.cseq.toNat = .dup q) ∧
    (∃ (s : State) (f : DictFrame) (role : Nat) (key : List Byte) (w : Bool),
      Authentic s { f with op := (if w then 2 else 3) } role key ∧ judgeSeq s f.client.toNat f.cseq.toNat = .stale) ∧
    (∃ (s : State) (w : Waiting) (rest : List Waiting), s.net.waiting = w :: rest ∧
      judgeSeq s w.frame.client.toNat w.frame.cseq.toNat = .new ∧ w.frame.index.toNat ≠ 0x1001 ∧ s.journal.failNext = 0 ∧
      s.bit Reg.JOURNAL.STATUS.BANK0_OK 0 = true ∧ s.journal.wr + (48 + w.value.length + 63) / 64 ≤ bankUnits ∧
      ringUsed s + (48 + w.value.length + 63) / 64 ≤ bankUnits) ∧
    (∃ (s : State) (w : Waiting) (rest : List Waiting), s.net.waiting = w :: rest ∧ ∃ (q : Nat),
      judgeSeq s w.frame.client.toNat w.frame.cseq.toNat = .dup q) :=
  ⟨⟨{ dct 3 [] [] with plan := { img := imgOf [(0x80, [5, 0xFF, 0xFF, 0, 0, 0, 2, 0, 0, 0, 0, 32]), (0x200, [0x10, 0, 0, 3])], len := 0x400, valid := true } },
     signedBy dkey (req 2 0 0x1000 3 2 9 [3]), 3, dkey, true, authentic_of rfl ⟨by decide, by decide,
     clientOk_of rfl (by decide) (by decide) (by decide) (signedBy_tag _ _ (by decide)), by decide⟩,
     (entryAt State.reset 0x1000 3).get (by decide), by decide, by decide, by decide, by decide, by decide, by decide,
     by decide, by decide, by decide, by decide⟩,

     ⟨{ dct 3 [(Reg.JOURNAL.STATUS.BUSY, 0, 1)] [] with plan := { img := imgOf [(0x80, [5, 0xFF, 0xFF, 0, 0, 0, 2, 0, 0, 0, 0, 32]), (0x200, [0x10, 0, 0, 3])], len := 0x400, valid := true } },
     signedBy dkey (req 2 0 0x1000 3 2 9 [3]), 3, dkey, true, authentic_of rfl ⟨by decide, by decide,
     clientOk_of rfl (by decide) (by decide) (by decide) (signedBy_tag _ _ (by decide)), by decide⟩,
     (entryAt State.reset 0x1000 3).get (by decide), by decide, by decide, by decide, by decide, by decide, by decide,
     by decide, by decide, by decide, by decide⟩,
   ⟨{ dct 3 [] [] with journal := { Journal.init with highest := [(32, some 4104)], window := [(131081, 55)] } },
     signedBy dkey (req 2 0 0x1000 3 2 9 [3]), 3, dkey, true, authentic_of rfl ⟨by decide, by decide,
     clientOk_of rfl (by decide) (by decide) (by decide) (signedBy_tag _ _ (by decide)), by decide⟩, 55, by decide⟩,
   ⟨{ dct 3 [] [] with journal := { Journal.init with highest := [(32, some 4105)] } },
     signedBy dkey (req 2 0 0x1000 3 2 9 [3]), 3, dkey, true, authentic_of rfl ⟨by decide, by decide,
     clientOk_of rfl (by decide) (by decide) (by decide) (signedBy_tag _ _ (by decide)), by decide⟩, by decide⟩,

     ⟨{ mk [(Reg.JOURNAL.STATUS.BANK0_OK, 0, 1)] [] with net := { Net.init with waiting := [{ frame := req 2 0 0x1000 3 2 9 [3], key := [], role := 3, vtype := 2, value := [3], verified := 5 }] } },
     { frame := req 2 0 0x1000 3 2 9 [3], key := [], role := 3, vtype := 2, value := [3], verified := 5 }, [], by decide,
     by decide, by decide, by decide, by decide, by decide, by decide⟩,

     ⟨{ mk [] [] with net := { Net.init with waiting := [{ frame := req 2 0 0x1000 3 2 9 [3], key := [], role := 3, vtype := 2, value := [3], verified := 5 }] }, journal := { Journal.init with highest := [(32, some 4104)], window := [(131081, 55)] } },
     { frame := req 2 0 0x1000 3 2 9 [3], key := [], role := 3, vtype := 2, value := [3], verified := 5 }, [], by decide, 55,
     by decide⟩⟩

theorem witness_PlainsServeQueries :
    (∃ (s : State) (f : DictFrame) (role : Nat) (key : List Byte) (e : Entry), f.flags.getLsbD 1 = false ∧
      entryAt s f.index.toNat f.sub.toNat = some e ∧ f.vtype.toNat = e.type ∧ Authentic s { f with op := 4 } role key ∧
      rightOf e.rights role ≠ 0 ∧ f.body = []) ∧
    (∃ (s : State) (f : DictFrame) (role : Nat) (key : List Byte) (e : Entry), f.flags.getLsbD 1 = false ∧
      entryAt s f.index.toNat f.sub.toNat = some e ∧ f.vtype.toNat = e.type ∧ Authentic s { f with op := 5 } role key ∧
      rightOf e.rights role % 2 = 1 ∧ e.type = 0x0D ∧ f.body.length = 6 ∧
      beAt f.body 0 4 + beAt f.body 4 2 ≤ blobLen s f.index.toNat ∧ beAt f.body 4 2 ≤ maxBody f.form.val) ∧
    (∃ (s : State) (f : DictFrame) (role : Nat) (key : List Byte), f.flags.getLsbD 1 = true ∧ ∃ r ∈ ([(.jStatus f, 0x10),
      (.jByCseq f, 0x11), (.jRead f, 0x12), (.jScan f, 0x13), (.jStarts f, 0x14)] : List (Instr × Byte)),
      Authentic s { f with op := r.2 } role key) ∧
    (∃ (s : State) (f : DictFrame) (role : Nat) (key : List Byte), f.flags.getLsbD 1 = false ∧ f.form.val ≠ 2 ∧
      Authentic s { f with op := 0x10 } role key ∧ f.body = []) ∧
    (∃ (s : State) (f : DictFrame) (role : Nat) (key : List Byte), f.flags.getLsbD 1 = false ∧ f.form.val ≠ 2 ∧ ∃ (h : Nat),
      Authentic s { f with op := 0x11 } role key ∧ f.body.length = 4 ∧
      smapGet (fun _ => none) s.journal.highest f.client.toNat = some h ∧ -4095 ≤ seqGap (beAt f.body 0 4) h ∧
      seqGap (beAt f.body 0 4) h ≤ 0) ∧
    (∃ (s : State) (f : DictFrame) (role : Nat) (key : List Byte), f.flags.getLsbD 1 = false ∧ f.form.val ≠ 2 ∧
      Authentic s { f with op := 0x12 } role key ∧ f.body.length = 9 ∧ entryOf s (beAt f.body 0 8) = none) ∧
    (∃ (s : State) (f : DictFrame) (role : Nat) (key : List Byte), f.flags.getLsbD 1 = false ∧ f.form.val ≠ 2 ∧
      Authentic s { f with op := 0x12 } role key ∧ f.body.length = 9 ∧ ∃ (e : JEntry), entryOf s (beAt f.body 0 8) = some e ∧
      (role = 3 ∨ e.client = f.client.toNat) ∧ outcomesOf s (beAt f.body 0 8) = [] ∧ beAt f.body 8 1 = 0) ∧
    (∃ (s : State) (f : DictFrame) (role : Nat) (key : List Byte), f.flags.getLsbD 1 = false ∧ f.form.val ≠ 2 ∧
      Authentic s { f with op := 0x13 } role key ∧ f.body.length = 10 ∧ 1 ≤ beAt f.body 8 2 ∧ beAt f.body 8 2 ≤ 64 ∧
      oldestHeld s ≤ beAt f.body 0 8) ∧
    (∃ (s : State) (f : DictFrame) (role : Nat) (key : List Byte), f.flags.getLsbD 1 = false ∧ f.form.val ≠ 2 ∧
      Authentic s { f with op := 0x14 } role key ∧ f.body = []) :=
  ⟨⟨dct 3 [] [], signedBy dkey (req 4 0 0x1000 6 2 9 []), 3, dkey, (entryAt State.reset 0x1000 6).get (by decide), by decide,
     by decide, by decide, authentic_of rfl ⟨by decide, by decide,
     clientOk_of rfl (by decide) (by decide) (by decide) (signedBy_tag _ _ (by decide)), by decide⟩, by decide, by decide⟩,
   ⟨dct 3 [] [], signedBy dkey (req 5 0 0xC000 0 0x0D 9 [0, 0, 0, 0, 0, 0]), 3, dkey,
     (entryAt State.reset 0xC000 0).get (by decide), by decide, by decide, by decide, authentic_of rfl ⟨by decide, by decide,
     clientOk_of rfl (by decide) (by decide) (by decide) (signedBy_tag _ _ (by decide)), by decide⟩, by decide, by decide,
     by decide, Nat.zero_le _, by decide⟩,
   ⟨dct 3 [] [], signedBy dkey (req 16 2 0 0 0 9 []), 3, dkey, by decide, _, .head _, authentic_of rfl ⟨by decide, by decide,
     clientOk_of rfl (by decide) (by decide) (by decide) (signedBy_tag _ _ (by decide)), by decide⟩⟩,
   ⟨dct 3 [] [], signedBy dkey (req 16 0 0 0 0 9 []), 3, dkey, by decide, by decide, authentic_of rfl ⟨by decide, by decide,
     clientOk_of rfl (by decide) (by decide) (by decide) (signedBy_tag _ _ (by decide)), by decide⟩, by decide⟩,
   ⟨{ dct 3 [] [] with journal := { Journal.init with highest := [(32, some 4104)] } }, signedBy dkey (req 17 0 0 0 0 9 [0,
     0, 0, 9]), 3, dkey, by decide, by decide, 4104, authentic_of rfl ⟨by decide, by decide,
     clientOk_of rfl (by decide) (by decide) (by decide) (signedBy_tag _ _ (by decide)), by decide⟩, by decide, by decide,
     by decide, by decide⟩,
   ⟨dct 3 [] [], signedBy dkey (req 18 0 0 0 0 9 [0, 0, 0, 0, 0, 0, 0, 9, 0]), 3, dkey, by decide, by decide,
     authentic_of rfl ⟨by decide, by decide,
     clientOk_of rfl (by decide) (by decide) (by decide) (signedBy_tag _ _ (by decide)), by decide⟩, by decide, by decide⟩,
   ⟨{ dct 3 [] [] with journal := { Journal.init with ring := [(0, .entry (ent 53 0x1000 3 [5]))] } },
     signedBy dkey (req 18 0 0 0 0 9 [0, 0, 0, 0, 0, 0, 0, 53, 0]), 3, dkey, by decide, by decide,
     authentic_of rfl ⟨by decide, by decide,
     clientOk_of rfl (by decide) (by decide) (by decide) (signedBy_tag _ _ (by decide)), by decide⟩, by decide,
     ent 53 0x1000 3 [5], by decide, by decide, by decide, by decide⟩,
   ⟨{ dct 3 [] [] with journal := { Journal.init with ring := [(0, .entry (ent 53 0x1000 3 [5]))] } },
     signedBy dkey (req 19 0 0 0 0 9 [0, 0, 0, 0, 0, 0, 0, 53, 0, 64]), 3, dkey, by decide, by decide,
     authentic_of rfl ⟨by decide, by decide,
     clientOk_of rfl (by decide) (by decide) (by decide) (signedBy_tag _ _ (by decide)), by decide⟩, by decide, by decide,
     by decide, by decide⟩,
   ⟨dct 3 [] [], signedBy dkey (req 20 0 0 0 0 9 []), 3, dkey, by decide, by decide, authentic_of rfl ⟨by decide, by decide,
     clientOk_of rfl (by decide) (by decide) (by decide) (signedBy_tag _ _ (by decide)), by decide⟩, by decide⟩⟩

theorem witness_JournalSettlesAndDrains :
    (∃ (s : State) (b : By) (outcome reason : Byte) (bind : BitVec 16), b.priv = true ∧ b.plain = false ∧ outcome.toNat ∈ [1,
      2, 3, 6] ∧ (s.pair Reg.JOURNAL.OUT_SEQ_LO.SEQ Reg.JOURNAL.OUT_SEQ_HI.SEQ b.lane.val) ∈ s.journal.snap ∧
      isSettled s (s.pair Reg.JOURNAL.OUT_SEQ_LO.SEQ Reg.JOURNAL.OUT_SEQ_HI.SEQ b.lane.val) = false ∧
      (s.pair Reg.JOURNAL.OUT_SEQ_LO.SEQ Reg.JOURNAL.OUT_SEQ_HI.SEQ b.lane.val) ∉ s.journal.postedNow ∧
      (s.journal.posts.filter fun p => !p.own).length < 256) ∧
    (∃ (s : State) (b : By) (outcome reason : Byte) (bind : BitVec 16), b.priv = true ∧ Live s ∧ (b.plain = true ∨
      outcome.toNat ∉ [1, 2, 3, 6] ∨
      (s.pair Reg.JOURNAL.OUT_SEQ_LO.SEQ Reg.JOURNAL.OUT_SEQ_HI.SEQ b.lane.val) ∉ s.journal.snap)) ∧
    (∃ (s : State) (fail : BitVec 2) (p : JPost) (rest : List JPost), s.journal.posts = p :: rest ∧
      isSettled s p.seq = false ∧ fail = 0 ∧ s.journal.failNext = 0 ∧ s.bit Reg.JOURNAL.STATUS.BANK0_OK 0 = true ∧
      s.journal.wr + ((48 + p.data.length + 63) / 64) ≤ bankUnits ∧
      ringUsed s + ((48 + p.data.length + 63) / 64) ≤ bankUnits) ∧
    (∃ (s : State) (fail : BitVec 2) (p : JPost) (rest : List JPost), s.journal.posts = p :: rest ∧
      isSettled s p.seq = false ∧ Live s ∧ fail = 3 ∧ s.journal.wr + ((48 + p.data.length + 63) / 64) ≤ bankUnits ∧
      ringUsed s + ((48 + p.data.length + 63) / 64) ≤ bankUnits) ∧
    (∃ (s : State) (fail : BitVec 2) (p : JPost) (rest : List JPost), s.journal.posts = p :: rest ∧
      isSettled s p.seq = false ∧ Live s ∧ s.bit Reg.JOURNAL.STATUS.FULL 0 = false ∧
      s.journal.wr + ((48 + p.data.length + 63) / 64) ≤ bankUnits ∧
      bankUnits < ringUsed s + ((48 + p.data.length + 63) / 64)) ∧
    (∃ (s : State), s.bit Reg.JOURNAL.STATUS.ARCH_DOWN 0 = false ∧ Live s ∧
      ((s.journal.archive ++ ((s.journal.ring.drop s.journal.archived).take (chunkCount 1024 (s.journal.ring.drop s.journal.archived))).map Prod.snd).map JRec.units).sum ≤ archiveUnits) ∧
    (∃ (s : State) (o : JOutcome) (e : JEntry), s.storeHot = false ∧ s.collectorUp = true ∧
      (s.journal.ring.findSome? fun p => p.2.outcome?.filter fun o => !jPasses s (.outcome o)) = some o ∧
      entryOf s o.seq = some e) ∧
    (∃ (s : State) (b : By), Forced s b) ∧
    (∃ (s : State) (e : JEntry), s.planRuns = true ∧ isSettled s e.seq = false ∧ (∀ p ∈ s.journal.posts, p.seq ≠ e.seq) ∧
      namedFor s 0 s.colNum = [e]) ∧
    (∃ (s : State) (e : JEntry), s.planRuns = true ∧ isSettled s e.seq = false ∧ (∀ p ∈ s.journal.posts, p.seq ≠ e.seq) ∧
      namedFor s 1 s.colNum = [e]) ∧
    (∃ (s : State) (e : JEntry), s.planRuns = true ∧ isSettled s e.seq = false ∧ (∀ p ∈ s.journal.posts, p.seq ≠ e.seq) ∧
      namedFor s 2 s.colNum = [e] ∧ s.dom.logic = true ∧ s.journal.failNext = 0 ∧
      s.bit Reg.JOURNAL.STATUS.BANK0_OK 0 = true ∧ s.journal.wr + 1 ≤ bankUnits ∧ ringUsed s + 1 ≤ bankUnits) :=
  ⟨⟨{ mk [(Reg.JOURNAL.OUT_SEQ_LO.SEQ, 3, 53)] [] with journal := { Journal.init with snap := [53] } }, ⟨true, 3, false⟩, 6,
     1, 0xFFFF, by decide, by decide, by decide, by decide, by decide, by decide, by decide⟩,
   ⟨{ mk [(Reg.JOURNAL.OUT_SEQ_LO.SEQ, 3, 53)] [] with journal := { Journal.init with snap := [53] } }, ⟨true, 3, false⟩, 4,
     1, 0xFFFF, by decide, ⟨by decide, by decide, by decide⟩, by decide⟩,
   ⟨{ mk [(Reg.JOURNAL.STATUS.BANK0_OK, 0, 1)] [] with journal := { Journal.init with posts := [post1] } }, 0, post1, [],
     by decide, by decide, by decide, by decide, by decide, by decide, by decide⟩,
   ⟨{ mk [] [] with journal := { Journal.init with posts := [post1] } }, 3, post1, [], by decide, by decide, ⟨by decide,
     by decide, by decide⟩, by decide, by decide, by decide⟩,

     ⟨{ mk [(Reg.JOURNAL.STATUS.FULL, 0, 0)] [] with journal := { Journal.init with posts := [post1], ring := [(1, .pad 131072)] } },
     0, post1, [], by decide, by decide, ⟨by decide, by decide, by decide⟩, by decide, by decide, by decide⟩,

     ⟨{ mk [(Reg.JOURNAL.STATUS.ARCH_DOWN, 0, 0)] [] with journal := { Journal.init with ring := [(0, .entry (ent 53 0x1000 3 [0, 5]))] } },
     by decide, ⟨by decide, by decide, by decide⟩, by decide⟩,

     ⟨{ mk [] [] with journal := { Journal.init with ring := [(0, .entry (ent 53 0x1000 3 [0, 5])), (1, .outcome { outcome := 1, reason := 0, bind := 0xFFFF, seq := 53, col := 4, when' := 5, grant := 0, client := 2, data := [], void := false })] } },
     { outcome := 1, reason := 0, bind := 0xFFFF, seq := 53, col := 4, when' := 5, grant := 0, client := 2, data := [], void := false },
     ent 53 0x1000 3 [0, 5], by decide, by decide, by decide, by decide⟩,
   ⟨mk [(Reg.FAULT.CTRL.FORCE_EN, 0, 1)] [], ⟨true, 3, false⟩, ⟨by decide, by decide⟩⟩,
   ⟨{ mk [] [] with journal := { Journal.init with ring := [(0, .entry (ent 53 0x1001 0 [7]))] } }, ent 53 0x1001 0 [7],
     by decide, by decide, by decide, by decide⟩,
   ⟨{ mk [] [] with journal := { Journal.init with ring := [(0, .entry (ent 53 0x1001 1 [7]))] } }, ent 53 0x1001 1 [7],
     by decide, by decide, by decide, by decide⟩,

     ⟨{ mk [(Reg.JOURNAL.STATUS.BANK0_OK, 0, 1)] [] with journal := { Journal.init with ring := [(0, .entry (ent 53 0x1001 2 [7]))] } },
     ent 53 0x1001 2 [7], by decide, by decide, by decide, by decide, by decide, by decide, by decide, by decide, by decide⟩⟩

theorem witness_SleepReachesTheValley :
    (∃ (s : State) (b : By), b.priv = true ∧ s.colNum + 2 ≤ wsCol s ∧ s.fld Reg.POWER.WAKEREASON.REASON 0 = 0 ∧
      unsettled s = [] ∧ s.bit Reg.TICK.STATUS.HO_ARMED 0 = false ∧ (s.seqState = seqRun ∨ s.seqState = seqNarrows) ∧
      s.bit Reg.FAULT.STATUS.TERMINAL 0 = false) ∧
    (∃ (s : State) (b : By), b.priv = true ∧ wsCol s < s.colNum + 2) ∧
    (∃ (s : State) (b : By), b.priv = true ∧ s.colNum + 2 ≤ wsCol s ∧ s.fld Reg.POWER.WAKEREASON.REASON 0 ≠ 0) ∧
    (∃ (s : State) (b : By), b.priv = true ∧ s.colNum + 2 ≤ wsCol s ∧ s.fld Reg.POWER.WAKEREASON.REASON 0 = 0 ∧
      unsettled s ≠ []) ∧
    (∃ (s : State), sleepState s = sleepArmed ∧ wsCol s ≤ s.colNum ∧ s.planRuns = true) ∧
    (∃ (s : State), s.power.descent = .waiting ∧ 2 ≤ pwrMode s ∧ (∀ n, n < 4 → (s.lane n).inService = true →
      (s.lane n).waiting = true)) ∧
    (∃ (s : State), s.power.descent = .waiting ∧ wsCol s + max (s.fld Reg.POWER.DESCENT.COLS 0) 2 ≤ s.colNum ∧ Live s ∧
      Fresh s Flt.POWER.DESCENT noUnit) ∧
    (∃ (s : State), s.power.descent = .stopped ∧ s.power.stopAt < s.colCount ∧ Calm s ∧
      s.bit Reg.TICK.STATUS.HO_ARMED 0 = false) ∧
    (∃ (s : State) (port : Fin 2), port.val ∈ s.power.tc10) ∧
    (∃ (s : State), s.power.descent = .parked) ∧
    (∃ (s : State) (x : Nat), s.power.descent = .valley ∧ s.power.exitAt = some x) :=
  ⟨⟨mk [(Reg.POWER.WAKEREASON.REASON, 0, 0), (Reg.TICK.STATUS.HO_ARMED, 0, 0), (Reg.TICK.STATUS.STATE, 0, seqRun),
     (Reg.FAULT.STATUS.TERMINAL, 0, 0), (Reg.POWER.WS_COL_LO.NUMBER, 0, 9)] [], ⟨true, 3, false⟩, by decide, by decide,
     by decide, by decide, by decide, by decide, by decide⟩,
   ⟨mk [(Reg.POWER.WS_COL_LO.NUMBER, 0, 8)] [], ⟨true, 3, false⟩, by decide, by decide⟩,
   ⟨mk [(Reg.POWER.WAKEREASON.REASON, 0, 1), (Reg.POWER.WS_COL_LO.NUMBER, 0, 9)] [], ⟨true, 3, false⟩, by decide, by decide,
     by decide⟩,

     ⟨{ mk [(Reg.POWER.WAKEREASON.REASON, 0, 0), (Reg.POWER.WS_COL_LO.NUMBER, 0, 9)] [] with journal := { Journal.init with ring := [(0, .entry { op := 1, port := 0, client := 1, seq := 1, accept := 0, cseq := 1, index := 0x1001, sub := 1, vtype := 0, role := 3, value := [] })] } },
     ⟨true, 3, false⟩, by decide, by decide, by decide, by decide⟩,
   ⟨mk [(Reg.POWER.STATUS.SLEEP, 0, sleepArmed), (Reg.POWER.WS_COL_LO.NUMBER, 0, 7)] [], by decide, by decide, by decide⟩,

     ⟨{ mk [(Reg.POWER.PWR_MODE.MODE, 0, 2)] [] with power := { Power.init with descent := .waiting }, lanes := [(0, { Lane.init 0 with waiting := true }), (1, { Lane.init 1 with inService := false }), (2, { Lane.init 2 with waiting := true }), (3, { Lane.init 3 with waiting := true })] },
     by decide, by decide, by decide⟩,

     ⟨{ mk [(Reg.POWER.WS_COL_LO.NUMBER, 0, 5), (Reg.POWER.DESCENT.COLS, 0, 2)] [] with power := { Power.init with descent := .waiting } },
     by decide, by decide, ⟨by decide, by decide, by decide⟩, fresh_nil rfl _ _⟩,
   ⟨{ mk [(Reg.TICK.STATUS.HO_ARMED, 0, 0)] [] with power := { Power.init with descent := .stopped, stopAt := 1999 } },
     by decide, by decide, ⟨rfl, fun _ => rfl⟩, by decide⟩,
   ⟨{ mk [] [] with power := { Power.init with tc10 := [1] } }, 1, by decide⟩,
   ⟨{ mk [] [] with power := { Power.init with descent := .parked } }, by decide⟩,
   ⟨{ mk [] [] with power := { Power.init with descent := .valley, exitAt := some 9000 } }, 9000, by decide, by decide⟩⟩

theorem witness_WakeSourcesAndAwakeTimers :
    (∃ (s : State), s.power.stuck = false ∧ s.power.ignoreTo ≤ s.now ∧ s.power.drive = false ∧ WakeOn s 0) ∧
    (∃ (s : State), ∃ c : Fin 8, s.bit Reg.NET.CANSWCFG.EN c.val = true ∧ WakeOn s 1 ∧
      s.bit Reg.NET.CANSWCFG.WUF_EN c.val = false) ∧
    (∃ (s : State), ∃ c : Fin 8, s.bit Reg.NET.CANSWCFG.EN c.val = true ∧ WakeOn s 1 ∧
      ∃ (ext : Bool) (ident : BitVec 29) (dlc : BitVec 4) (data : BitVec 64), s.bit Reg.NET.CANSWCFG.WUF_EN c.val = true ∧
      wufMatches s c.val ext ident dlc data = true) ∧
    (∃ (s : State), ∃ c : Fin 8, s.bit Reg.NET.CANSWCFG.EN c.val = true ∧ WakeOn s 1 ∧
      s.bit Reg.NET.CANSWCFG.WUF_EN c.val = true ∧ 31 ≤ s.fld Reg.NET.CANSWSTAT.FEC c.val) ∧
    (∃ (s : State), ∃ e : Fin 3, e.val ≠ 2 ∧ s.effBit Reg.NET.ETCFG.TC10 e.val = true ∧ WakeOn s 2) ∧
    (∃ (s : State), s.effBit Reg.NET.TSCFG.EN 0 = true ∧ asInValley s = false ∧ WakeOn s 3) ∧
    (∃ (s : State), ∃ l : Fin 12, s.effBit Reg.NET.LINCFG.EN l.val = true ∧ WakeOn s 4) ∧
    (∃ (s : State), ∃ (a : BitVec 7) (r : Bool), s.bit Reg.POWER.SBSCFG.EN 0 = true ∧
      s.fld Reg.POWER.SBSCFG.ADDR 0 = a.toNat ∧ WakeOn s 5) ∧
    (∃ (s : State), ∃ b : By, b.priv = true ∧ WakeOn s 11) ∧
    (∃ (s : State) (b : By), b.priv = true) ∧
    (∃ (s : State), s.power.drive = true) ∧
    (∃ (s : State), Live s ∧ s.power.stuck = false) ∧
    (∃ (s : State) (f : Nat), Live s ∧ Fresh s Flt.POWER.FALSEWAKE noUnit ∧ s.power.ntFrom = some f) ∧
    (∃ (s : State) (f : Nat), Live s ∧ Fresh s Flt.POWER.MAXAWAKE noUnit ∧ s.power.maFrom = some f ∧
      sleepState s = sleepIdle ∧ s.fld Reg.POWER.AWAKECFG.MAXAWAKE 0 ≠ 0) ∧
    (∃ (s : State), Live s ∧ ¬(s.power.supFrom ≤ s.now ∧ s.now < s.power.supTo)) ∧
    (∃ (s : State) (b : By), Live s ∧ Forced s b ∧ s.power.maFrom.isSome = true ∧ sleepState s = sleepIdle) ∧
    (∃ (s : State) (b : By), Live s ∧ Forced s b ∧ s.power.ntFrom.isSome = true) :=
  ⟨⟨{ mk [(Reg.POWER.STATUS.SLEEP, 0, sleepArmed), (Reg.POWER.WAKEEN.EN, 0, 0x3FF)] [] with power := { Power.init with ignoreTo := 2600 } },
     by decide, by decide, by decide, ⟨by decide, by decide⟩⟩,
   ⟨mk [(Reg.NET.CANSWCFG.EN, 7, 1), (Reg.POWER.STATUS.SLEEP, 0, sleepArmed), (Reg.POWER.WAKEEN.EN, 0, 0x3FF),
     (Reg.NET.CANSWCFG.WUF_EN, 7, 0)] [], 7, by decide, ⟨by decide, by decide⟩, by decide⟩,
   ⟨mk [(Reg.NET.CANSWCFG.EN, 7, 1), (Reg.POWER.STATUS.SLEEP, 0, sleepArmed), (Reg.POWER.WAKEEN.EN, 0, 0x3FF),
     (Reg.NET.CANSWCFG.WUF_EN, 7, 1), (Reg.NET.CANSWCFG.SWDLC, 7, 8), (Reg.NET.CANSWID.VALUE, 7, 0x1FFFFFFF)] [], 7,
     by decide, ⟨by decide, by decide⟩, false, 0x1FFFFFFF, 8, 0, by decide, by decide⟩,
   ⟨mk [(Reg.NET.CANSWCFG.EN, 7, 1), (Reg.POWER.STATUS.SLEEP, 0, sleepArmed), (Reg.POWER.WAKEEN.EN, 0, 0x3FF),
     (Reg.NET.CANSWCFG.WUF_EN, 7, 1), (Reg.NET.CANSWSTAT.FEC, 7, 31)] [], 7, by decide, ⟨by decide, by decide⟩, by decide,
     by decide⟩,
   ⟨mk [(Reg.POWER.STATUS.SLEEP, 0, sleepArmed), (Reg.POWER.WAKEEN.EN, 0, 0x3FF)] [(Reg.NET.ETCFG.TC10, 1, 1)], 1, by decide,
     by decide, ⟨by decide, by decide⟩⟩,
   ⟨mk [(Reg.POWER.STATUS.SLEEP, 0, sleepArmed), (Reg.POWER.WAKEEN.EN, 0, 0x3FF)] [(Reg.NET.TSCFG.EN, 0, 1)], by decide,
     by decide, ⟨by decide, by decide⟩⟩,
   ⟨mk [(Reg.POWER.STATUS.SLEEP, 0, sleepArmed), (Reg.POWER.WAKEEN.EN, 0, 0x3FF)] [(Reg.NET.LINCFG.EN, 11, 1)], 11,
     by decide, ⟨by decide, by decide⟩⟩,
   ⟨mk [(Reg.POWER.SBSCFG.EN, 0, 1), (Reg.POWER.SBSCFG.ADDR, 0, 0x7F), (Reg.POWER.STATUS.SLEEP, 0, sleepArmed),
     (Reg.POWER.WAKEEN.EN, 0, 0x3FF)] [], 0x7F, true, by decide, by decide, ⟨by decide, by decide⟩⟩,
   ⟨mk [(Reg.POWER.STATUS.SLEEP, 0, sleepArmed), (Reg.POWER.WAKEEN.EN, 0, 0x3FF)] [], ⟨true, 3, false⟩, by decide,
     ⟨by decide, by decide⟩⟩,
   ⟨mk [] [], ⟨true, 3, false⟩, by decide⟩,
   ⟨{ mk [] [] with power := { Power.init with drive := true } }, by decide⟩,
   ⟨mk [] [], ⟨by decide, by decide, by decide⟩, by decide⟩,
   ⟨{ mk [] [] with power := { Power.init with ntFrom := some 5 } }, 5, ⟨by decide, by decide, by decide⟩, fresh_nil rfl _ _,
     by decide⟩,

     ⟨{ mk [(Reg.POWER.STATUS.SLEEP, 0, sleepIdle), (Reg.POWER.AWAKECFG.MAXAWAKE, 0, 1)] [] with power := { Power.init with maFrom := some 5 } },
     5, ⟨by decide, by decide, by decide⟩, fresh_nil rfl _ _, by decide, by decide, by decide⟩,
   ⟨mk [] [], ⟨by decide, by decide, by decide⟩, by decide⟩,

     ⟨{ mk [(Reg.FAULT.CTRL.FORCE_EN, 0, 1), (Reg.POWER.STATUS.SLEEP, 0, sleepIdle)] [] with power := { Power.init with maFrom := some 5 } },
     ⟨true, 3, false⟩, ⟨by decide, by decide, by decide⟩, ⟨by decide, by decide⟩, by decide, by decide⟩,
   ⟨{ mk [(Reg.FAULT.CTRL.FORCE_EN, 0, 1)] [] with power := { Power.init with ntFrom := some 5 } }, ⟨true, 3, false⟩,
     ⟨by decide, by decide, by decide⟩, ⟨by decide, by decide⟩, by decide⟩⟩

theorem witness_AccessRoundsJudgeAnswers :
    (∃ (s : State) (r : Round) (f : UhfFrame), s.access.round = some r ∧ f.slot.val < 2 ^ r.slotb ∧ Live s) ∧
    (∃ (s : State) (r : Round), s.access.round = some r) ∧
    (∃ (s : State) (r : Round) (b : By), s.access.round = some r ∧ b.priv = true ∧ Live s) ∧
    (∃ (s : State) (a : Fin 6) (ev : AerialEvent), Live s ∧ Fresh s Flt.ACCESS.AERIAL a.val) :=
  ⟨⟨{ mk [] [] with access := { Access.init with round := some ⟨2600, 1, 1, 2, 0, 0, 0, 0, 1, [], 0, [], false, []⟩ } },
     ⟨2600, 1, 1, 2, 0, 0, 0, 0, 1, [], 0, [], false, []⟩, ⟨3, 5000, []⟩, by decide, by decide, ⟨by decide, by decide,
     by decide⟩⟩,
   ⟨{ mk [] [] with access := { Access.init with round := some ⟨2600, 1, 1, 2, 0, 0, 0, 0, 1, [], 0, [], false, []⟩ } },
     ⟨2600, 1, 1, 2, 0, 0, 0, 0, 1, [], 0, [], false, []⟩, by decide⟩,
   ⟨{ mk [] [] with access := { Access.init with round := some ⟨2600, 1, 1, 2, 0, 0, 0, 0, 1, [], 0, [], false, []⟩ } },
     ⟨2600, 1, 1, 2, 0, 0, 0, 0, 1, [], 0, [], false, []⟩, ⟨true, 3, false⟩, by decide, by decide, ⟨by decide, by decide,
     by decide⟩⟩,
   ⟨mk [] [], 5, .short, ⟨by decide, by decide, by decide⟩, fresh_nil rfl _ _⟩⟩

theorem witness_AccessLocksAndPolls :
    (∃ (s : State) (b : By), Live s ∧ Forced s b ∧ lockedOut s = false ∧
      4 ≤ (s.access.fails.filter fun c => s.now ≤ c + 6000000000).length) ∧
    (∃ (s : State) (b : By), Forced s b ∧ lockedOut s = false ∧
      (s.access.fails.filter fun c => s.now ≤ c + 6000000000).length < 4) ∧
    (∃ (s : State), lockEnd s ≠ 0) ∧
    (∃ (s : State) (f : Nat), s.access.lastFail = some f) ∧
    (∃ (s : State) (b : By), b.priv = true ∧ (∀ e, s.access.immoEnd = some e → e ≤ s.now)) ∧
    (∃ (s : State) (b : By), b.priv = true ∧ ∃ (e : Nat), s.access.immoEnd = some e ∧ s.now < e ∧
      keyFor s (s.fld Reg.ACCESS.IMMOCFG.SLOT 0) keyImmo = none) ∧
    (∃ (s : State) (b : By), b.priv = true ∧ ∃ (e : Nat), s.access.immoEnd = some e ∧ s.now < e ∧ ∃ (k : List Byte),
      keyFor s (s.fld Reg.ACCESS.IMMOCFG.SLOT 0) keyImmo = some k) ∧
    (∃ (s : State) (e : Nat), s.access.immoEnd = some e) ∧
    (∃ (s : State) (a : Nat), s.access.polling = true ∧ inValley s = true ∧ lockedOut s = false ∧
      s.fld Reg.ACCESS.POLLCFG2.POLLSTOP 0 = 0 ∧ nextAerial s s.access.aerial = some a) ∧
    (∃ (s : State) (a : Nat), s.access.polling = true ∧ inValley s = true ∧ lockedOut s = false ∧
      s.fld Reg.ACCESS.POLLCFG2.POLLSTOP 0 ≠ 0 ∧
      s.access.pollEntry + s.fld Reg.ACCESS.POLLCFG2.POLLSTOP 0 * 360000000000 ≤ s.now) ∧
    (∃ (s : State) (a : Nat) (bytes : List Byte), s.access.listen = some a ∧ bytes.length = 8 ∧
      crc16 (bytes.take 6) = BitVec.ofNat 16 (beAt bytes 6 2) ∧ byteAt bytes 0 = 2 ∧
      (tokenOf s (beAt bytes 1 4)).isSome = true ∧ WakeOn s 8) :=
  ⟨⟨{ mk [(Reg.FAULT.CTRL.FORCE_EN, 0, 1)] [] with access := { Access.init with fails := [1, 2, 3, 4] } }, ⟨true, 3, false⟩,
     ⟨by decide, by decide, by decide⟩, ⟨by decide, by decide⟩, by decide, by decide⟩,
   ⟨{ mk [(Reg.FAULT.CTRL.FORCE_EN, 0, 1)] [] with access := { Access.init with fails := [1, 2, 3] } }, ⟨true, 3, false⟩,
     ⟨by decide, by decide⟩, by decide, by decide⟩,
   ⟨mk [(Reg.ACCESS.LOCKEND_LO.COUNT, 0, 5)] [], by decide⟩,
   ⟨{ mk [] [] with access := { Access.init with lastFail := some 5 } }, 5, by decide⟩,
   ⟨{ mk [] [] with access := { Access.init with immoEnd := some 2600 } }, ⟨true, 3, false⟩, by decide,
     fun e h => by cases h; decide⟩,
   ⟨{ mk [] [] with access := { Access.init with immoEnd := some 2601 } }, ⟨true, 3, false⟩, by decide, 2601, by decide,
     by decide, by decide⟩,

     ⟨{ mk [(Reg.ACCESS.IMMOCFG.SLOT, 0, 63), (Reg.KEYS.SLOT.CLASS, 63, keyImmo), (Reg.KEYS.STATUS.PUF_OK, 0, 1), (Reg.KEYS.STATUS.FB_OK, 0, 1)] [] with access := { Access.init with immoEnd := some 2601 }, keys := { Keys.init with mat := [(63, [9])] } },
     ⟨true, 3, false⟩, by decide, 2601, by decide, by decide, [9], by decide⟩,
   ⟨{ mk [] [] with access := { Access.init with immoEnd := some 5 } }, 5, by decide⟩,

     ⟨{ mk [(Reg.ACCESS.POLLCFG2.POLLSTOP, 0, 0), (Reg.ACCESS.POLLCFG2.POLLMASK, 0, 0x20)] [] with access := { Access.init with polling := true, aerial := 5 }, power := { Power.init with descent := .valley } },
     5, by decide, by decide, by decide, by decide, by decide⟩,

     ⟨{ mk [(Reg.ACCESS.POLLCFG2.POLLSTOP, 0, 1)] [] with access := { Access.init with polling := true, aerial := 5 }, power := { Power.init with descent := .valley }, now := 360000000000 },
     5, by decide, by decide, by decide, by decide, by decide⟩,

     ⟨{ mk [(Reg.POWER.STATUS.SLEEP, 0, sleepArmed), (Reg.POWER.WAKEEN.EN, 0, 0x3FF), (Reg.ACCESS.TOK_CFG.EN, 15, 1), (Reg.ACCESS.TOK_ID.ID, 15, 0x01020304)] [] with access := { Access.init with listen := some 5 } },
     5, [2, 1, 2, 3, 4, 0, 0x57, 0xFD], by decide, by decide, by decide +kernel, by decide, by decide, ⟨by decide,
     by decide⟩⟩⟩

theorem witness_KeyOperationsTakeEffect :
    (∃ (s : State) (b : By) (slot src : BitVec 6) (cls : BitVec 3) (attr : BitVec 2), ∃ r ∈ ([(.keyImport b slot src,
      { op := 1, slot := slot.toNat, src := src.toNat, cls := 0, attr := 0 }), (.keyGenerate b slot cls attr,
      { op := 2, slot := slot.toNat, src := 0, cls := cls.toNat, attr := attr.toNat }), (.keyDerive b slot src attr,
      { op := 3, slot := slot.toNat, src := src.toNat, cls := 0, attr := attr.toNat }), (.keyExport b slot src,
      { op := 4, slot := slot.toNat, src := src.toNat, cls := 0, attr := 0 }), (.keyErase b slot,
      { op := 5, slot := slot.toNat, src := 0, cls := 0, attr := 0 }), (.keyLock b slot,
      { op := 6, slot := slot.toNat, src := 0, cls := 0, attr := 0 }), (.keyRenewFb b,
      { op := 7, slot := 0, src := 0, cls := 0, attr := 0 }), (.keyZeroise b,
      { op := 8, slot := 0, src := 0, cls := 0, attr := 0 })] : List (Instr × KeyOp)), b.priv = true ∧
      s.bit Reg.KEYS.STATUS.BUSY 0 = false) ∧
    (∃ (s : State) (b : By) (slot src : BitVec 6) (cls : BitVec 3) (attr : BitVec 2), ∃ r ∈ ([(.keyImport b slot src,
      { op := 1, slot := slot.toNat, src := src.toNat, cls := 0, attr := 0 }), (.keyGenerate b slot cls attr,
      { op := 2, slot := slot.toNat, src := 0, cls := cls.toNat, attr := attr.toNat }), (.keyDerive b slot src attr,
      { op := 3, slot := slot.toNat, src := src.toNat, cls := 0, attr := attr.toNat }), (.keyExport b slot src,
      { op := 4, slot := slot.toNat, src := src.toNat, cls := 0, attr := 0 }), (.keyErase b slot,
      { op := 5, slot := slot.toNat, src := 0, cls := 0, attr := 0 }), (.keyLock b slot,
      { op := 6, slot := slot.toNat, src := 0, cls := 0, attr := 0 }), (.keyRenewFb b,
      { op := 7, slot := 0, src := 0, cls := 0, attr := 0 }), (.keyZeroise b,
      { op := 8, slot := 0, src := 0, cls := 0, attr := 0 })] : List (Instr × KeyOp)), b.priv = true ∧
      s.bit Reg.KEYS.STATUS.BUSY 0 = true) ∧
    (∃ (s : State) (b : By) (slot src : BitVec 6) (cls : BitVec 3) (attr : BitVec 2), ∃ r ∈ ([(.keyImport b slot src,
      { op := 1, slot := slot.toNat, src := src.toNat, cls := 0, attr := 0 }), (.keyGenerate b slot cls attr,
      { op := 2, slot := slot.toNat, src := 0, cls := cls.toNat, attr := attr.toNat }), (.keyDerive b slot src attr,
      { op := 3, slot := slot.toNat, src := src.toNat, cls := 0, attr := attr.toNat }), (.keyExport b slot src,
      { op := 4, slot := slot.toNat, src := src.toNat, cls := 0, attr := 0 }), (.keyErase b slot,
      { op := 5, slot := slot.toNat, src := 0, cls := 0, attr := 0 }), (.keyLock b slot,
      { op := 6, slot := slot.toNat, src := 0, cls := 0, attr := 0 }), (.keyRenewFb b,
      { op := 7, slot := 0, src := 0, cls := 0, attr := 0 }), (.keyZeroise b,
      { op := 8, slot := 0, src := 0, cls := 0, attr := 0 })] : List (Instr × KeyOp)), b.priv = false ∧ Live s) ∧
    (∃ (s : State) (o : KeyOp), s.keys.op = some o ∧ o.op ≤ 6 ∧ o.slot < 4) ∧
    (∃ (s : State) (o : KeyOp), s.keys.op = some o ∧ o.op ≤ 6 ∧ o.op ≠ 4 ∧ 4 ≤ o.slot ∧ 2 ≤ s.fld Reg.KEYS.SLOT.ATTR o.slot) ∧
    (∃ (s : State) (o : KeyOp), s.keys.op = some o ∧ 4 ≤ o.slot ∧ o.slot < 64 ∧ s.fld Reg.KEYS.SLOT.ATTR o.slot < 2 ∧
      o.op = 5) ∧
    (∃ (s : State) (o : KeyOp), s.keys.op = some o ∧ 4 ≤ o.slot ∧ o.slot < 64 ∧ s.fld Reg.KEYS.SLOT.ATTR o.slot < 2 ∧
      o.op = 6) ∧
    (∃ (s : State) (o : KeyOp), s.keys.op = some o ∧ 4 ≤ o.slot ∧ o.slot < 64 ∧ s.fld Reg.KEYS.SLOT.ATTR o.slot < 2 ∧
      o.op = 2 ∧ o.cls ∈ [keyClient, keyUnit, keyGeneral, keyTransport] ∧ o.attr < 4 ∧ attrAllowed o.cls o.attr = true ∧
      s.bit Reg.KEYS.STATUS.PUF_OK 0 = true) ∧
    (∃ (s : State) (o : KeyOp), s.keys.op = some o ∧ o.op = 8 ∧ Live s ∧ Fresh s Flt.KEYS.ZEROISE noUnit) :=
  ⟨⟨mk [(Reg.KEYS.STATUS.BUSY, 0, 0)] [], ⟨true, 3, false⟩, 63, 63, 1, 0, _, .head _, by decide, by decide⟩,
   ⟨mk [(Reg.KEYS.STATUS.BUSY, 0, 1)] [], ⟨true, 3, false⟩, 63, 63, 1, 0, _, .head _, by decide, by decide⟩,
   ⟨mk [] [], ⟨false, 3, false⟩, 63, 63, 1, 0, _, .head _, by decide, ⟨by decide, by decide, by decide⟩⟩,
   ⟨{ mk [(Reg.KEYS.SLOT.ATTR, 63, 1)] [] with keys := { Keys.init with op := some ⟨6, 3, 63, 0, 0⟩ } }, ⟨6, 3, 63, 0, 0⟩,
     by decide, by decide, by decide⟩,
   ⟨{ mk [(Reg.KEYS.SLOT.ATTR, 63, 2)] [] with keys := { Keys.init with op := some ⟨5, 63, 63, 0, 0⟩ } }, ⟨5, 63, 63, 0, 0⟩,
     by decide, by decide, by decide, by decide, by decide⟩,
   ⟨{ mk [(Reg.KEYS.SLOT.ATTR, 63, 1)] [] with keys := { Keys.init with op := some ⟨5, 63, 63, 0, 0⟩ } }, ⟨5, 63, 63, 0, 0⟩,
     by decide, by decide, by decide, by decide, by decide⟩,
   ⟨{ mk [(Reg.KEYS.SLOT.ATTR, 4, 1)] [] with keys := { Keys.init with op := some ⟨6, 4, 63, 0, 0⟩ } }, ⟨6, 4, 63, 0, 0⟩,
     by decide, by decide, by decide, by decide, by decide⟩,

     ⟨{ mk [(Reg.KEYS.STATUS.PUF_OK, 0, 1), (Reg.KEYS.SLOT.ATTR, 63, 1)] [] with keys := { Keys.init with op := some ⟨2, 63, 63, keyGeneral, 3⟩ } },
     ⟨2, 63, 63, keyGeneral, 3⟩, by decide, by decide, by decide, by decide, by decide, by decide, by decide, by decide,
     by decide⟩,
   ⟨{ mk [(Reg.KEYS.SLOT.ATTR, 63, 1)] [] with keys := { Keys.init with op := some ⟨8, 0, 63, 0, 0⟩ } }, ⟨8, 0, 63, 0, 0⟩,
     by decide, by decide, ⟨by decide, by decide, by decide⟩, fresh_nil rfl _ _⟩⟩

theorem witness_KeyStoreGuardsItself :
    (∃ (s : State) (bad : List Nat), Live s ∧ (∀ k, k < 64 → Fresh s Flt.KEYS.SLOT k)) ∧
    (∃ (s : State) (src : Fin 5), Live s ∧ (4500 ≤ s.supA ∨ 4500 ≤ s.supB) ∧
      2 ≤ s.fld Reg.KEYS.TAMPCFG.ACTION 0 / 4 ^ src.val % 4) ∧
    (∃ (s : State), Live s ∧ Fresh s Flt.KEYS.TRNG noUnit ∧ s.access.round = none) ∧
    (∃ (s : State) (b : By), Live s ∧ Forced s b) :=
  ⟨⟨mk [] [], [63], ⟨by decide, by decide, by decide⟩, fun _ _ => fresh_nil rfl _ _⟩,
   ⟨mk [(Reg.KEYS.TAMPCFG.ACTION, 0, 0x2AA)] [], 4, ⟨by decide, by decide, by decide⟩, by decide, by decide⟩,
   ⟨mk [] [], ⟨by decide, by decide, by decide⟩, fresh_nil rfl _ _, by decide⟩,
   ⟨mk [(Reg.FAULT.CTRL.FORCE_EN, 0, 1)] [], ⟨true, 3, false⟩, ⟨by decide, by decide, by decide⟩, ⟨by decide, by decide⟩⟩⟩

theorem witness_CryptoRequestsAreServed :
    (∃ (s : State) (b : By) (slot : BitVec 6), b.priv = true ∧ ∃ r ∈ ([(.crqCmac b slot, 1, slot.toNat), (.crqEncrypt b slot,
      2, slot.toNat), (.crqSha256 b, 3, 0), (.crqAttest b, 4, 2)] : List (Instr × Nat × Nat)), b.plain = true ∧
      s.fld Reg.KEYS.CRQ_STAT.STATE 0 ≠ 1) ∧
    (∃ (s : State) (b : By) (slot : BitVec 6), b.priv = true ∧ ∃ r ∈ ([(.crqCmac b slot, 1, slot.toNat), (.crqEncrypt b slot,
      2, slot.toNat), (.crqSha256 b, 3, 0), (.crqAttest b, 4, 2)] : List (Instr × Nat × Nat)), b.plain = false ∧ Live s) ∧
    (∃ (s : State) (slot : Nat), s.keys.crq = some (3, slot) ∧
      crqInRange (s.fld Reg.KEYS.CRQ_ADDR.VALUE 0) (s.fld Reg.KEYS.CRQ_LEN.VALUE 0) = true) ∧
    (∃ (s : State) (op slot : Nat), s.keys.crq = some (op, slot) ∧ (op = 1 ∨ op = 2) ∧
      s.fld Reg.KEYS.SLOT.CLASS slot ≠ keyGeneral) :=
  ⟨⟨mk [] [], ⟨true, 3, true⟩, 63, by decide, _, .head _, by decide, by decide⟩,
   ⟨mk [] [], ⟨true, 3, false⟩, 63, by decide, _, .head _, by decide, ⟨by decide, by decide, by decide⟩⟩,

     ⟨{ mk [(Reg.KEYS.CRQ_ADDR.VALUE, 0, 0x1F0000), (Reg.KEYS.CRQ_LEN.VALUE, 0, 65536)] [] with keys := { Keys.init with crq := some (3, 0) } },
     0, by decide, by decide⟩,
   ⟨{ mk [] [] with keys := { Keys.init with crq := some (1, 63) } }, 1, 63, by decide, by decide, by decide⟩⟩

theorem witness_StagingReceivesAndAborts :
    (∃ (s : State) (b : By), b.priv = true ∧ (updState s = updIdle ∨ updState s = updReceiving ∨ updState s = updFailed)) ∧
    (∃ (s : State) (b : By), b.priv = true ∧ (updState s = updErasing ∨ updState s = updVerified ∨ updState s = updLoaded ∨
      updState s = updArmed)) ∧
    (∃ (s : State), updState s = updErasing ∧ s.storeHot = false) ∧
    (∃ (s : State) (b : By), b.priv = true ∧ (updState s = updErasing ∨ updState s = updReceiving) ∧
      (beAt ((upTo 256).flatMap fun w => beBytes (s.fld Reg.UPDATE.STGBUF.DATA w) 4) 0 4) + (beAt ((upTo 256).flatMap fun w => beBytes (s.fld Reg.UPDATE.STGBUF.DATA w) 4) 4 2) ≤ slotSize ∧
      1 ≤ (beAt ((upTo 256).flatMap fun w => beBytes (s.fld Reg.UPDATE.STGBUF.DATA w) 4) 4 2) ∧
      (beAt ((upTo 256).flatMap fun w => beBytes (s.fld Reg.UPDATE.STGBUF.DATA w) 4) 4 2) ≤ 1016 ∧ s.update.fifo.length < 4) ∧
    (∃ (s : State) (b : By), b.priv = true ∧ (updState s = updErasing ∨ updState s = updReceiving) ∧
      (slotSize < (beAt ((upTo 256).flatMap fun w => beBytes (s.fld Reg.UPDATE.STGBUF.DATA w) 4) 0 4) + (beAt ((upTo 256).flatMap fun w => beBytes (s.fld Reg.UPDATE.STGBUF.DATA w) 4) 4 2) ∨
      (beAt ((upTo 256).flatMap fun w => beBytes (s.fld Reg.UPDATE.STGBUF.DATA w) 4) 4 2) = 0 ∨
      1016 < (beAt ((upTo 256).flatMap fun w => beBytes (s.fld Reg.UPDATE.STGBUF.DATA w) 4) 4 2))) ∧
    (∃ (s : State) (b : By), b.priv = true ∧ (updState s = updErasing ∨ updState s = updReceiving) ∧
      (beAt ((upTo 256).flatMap fun w => beBytes (s.fld Reg.UPDATE.STGBUF.DATA w) 4) 0 4) + (beAt ((upTo 256).flatMap fun w => beBytes (s.fld Reg.UPDATE.STGBUF.DATA w) 4) 4 2) ≤ slotSize ∧
      1 ≤ (beAt ((upTo 256).flatMap fun w => beBytes (s.fld Reg.UPDATE.STGBUF.DATA w) 4) 4 2) ∧
      (beAt ((upTo 256).flatMap fun w => beBytes (s.fld Reg.UPDATE.STGBUF.DATA w) 4) 4 2) ≤ 1016 ∧ 4 ≤ s.update.fifo.length) ∧
    (∃ (s : State) (fail : BitVec 2) (off : Nat) (d : List Byte) (rest : List (Nat × List Byte)), s.update.fifo = (off,
      d) :: rest ∧ s.storeHot = false ∧ (updState s = updReceiving ∨ updState s = updVerifying) ∧ fail ≠ 3 ∧
      s.update.failStore = false) ∧
    (∃ (s : State) (fail : BitVec 2) (off : Nat) (d : List Byte) (rest : List (Nat × List Byte)), s.update.fifo = (off,
      d) :: rest ∧ s.storeHot = false ∧ (updState s = updReceiving ∨ updState s = updVerifying) ∧ fail = 3 ∧ Live s) ∧
    (∃ (s : State) (b : By), b.priv = true ∧ updState s = updIdle) ∧
    (∃ (s : State) (b : By), b.priv = true ∧ updState s ≠ updIdle ∧ updState s ≠ updArmed) ∧
    (∃ (s : State) (b : By), b.priv = true ∧ updState s = updArmed ∧ s.update.sel.pendCol ≤ s.colNum + 1) ∧
    (∃ (s : State) (b : By), b.priv = true ∧ updState s = updArmed ∧ s.colNum + 1 < s.update.sel.pendCol ∧
      s.update.viaReset = true ∧ s.update.sel.pending = true ∧ s.update.failSel = false) ∧
    (∃ (s : State) (b : By), b.priv = true ∧ s.dom.logic = true) :=
  ⟨⟨mk [(Reg.UPDATE.STATUS.STATE, 0, updIdle)] [], ⟨true, 3, false⟩, by decide, by decide⟩,
   ⟨mk [(Reg.UPDATE.STATUS.STATE, 0, updArmed)] [], ⟨true, 3, false⟩, by decide, by decide⟩,
   ⟨mk [(Reg.UPDATE.STATUS.STATE, 0, updErasing)] [], by decide, by decide⟩,

     ⟨{ mk [(Reg.UPDATE.STATUS.STATE, 0, updErasing), (Reg.UPDATE.STGBUF.DATA, 0, 134216712), (Reg.UPDATE.STGBUF.DATA, 1, 66584576)] [] with update := { Update.init with fifo := [(0, []), (0, []), (0, [])] } },
     ⟨true, 3, false⟩, by decide, by decide, by decide, by decide, by decide, by decide⟩,
   ⟨mk [(Reg.UPDATE.STATUS.STATE, 0, updErasing), (Reg.UPDATE.STGBUF.DATA, 0, 134216713), (Reg.UPDATE.STGBUF.DATA, 1,
     66584576)] [], ⟨true, 3, false⟩, by decide, by decide, by decide⟩,

     ⟨{ mk [(Reg.UPDATE.STATUS.STATE, 0, updErasing), (Reg.UPDATE.STGBUF.DATA, 0, 134216712), (Reg.UPDATE.STGBUF.DATA, 1, 66584576)] [] with update := { Update.init with fifo := [(0, []), (0, []), (0, []), (0, [])] } },
     ⟨true, 3, false⟩, by decide, by decide, by decide, by decide, by decide, by decide⟩,
   ⟨{ mk [(Reg.UPDATE.STATUS.STATE, 0, updReceiving)] [] with update := { Update.init with fifo := [(0, [5])] } }, 1, 0, [5],
     [], by decide, by decide, by decide, by decide, by decide⟩,
   ⟨{ mk [(Reg.UPDATE.STATUS.STATE, 0, updReceiving)] [] with update := { Update.init with fifo := [(0, [5])] } }, 3, 0, [5],
     [], by decide, by decide, by decide, by decide, ⟨by decide, by decide, by decide⟩⟩,
   ⟨mk [(Reg.UPDATE.STATUS.STATE, 0, updIdle)] [], ⟨true, 3, false⟩, by decide, by decide⟩,
   ⟨mk [(Reg.UPDATE.STATUS.STATE, 0, updFailed)] [], ⟨true, 3, false⟩, by decide, by decide, by decide⟩,

     ⟨{ mk [(Reg.UPDATE.STATUS.STATE, 0, updArmed)] [] with update := { Update.init with sel := { Update.init.sel with pendCol := 8 } } },
     ⟨true, 3, false⟩, by decide, by decide, by decide⟩,

     ⟨{ mk [(Reg.UPDATE.STATUS.STATE, 0, updArmed)] [] with update := { Update.init with viaReset := true, sel := { Update.init.sel with pending := true, pendCol := 9 } } },
     ⟨true, 3, false⟩, by decide, by decide, by decide, by decide, by decide, by decide⟩,
   ⟨mk [] [], ⟨true, 3, false⟩, by decide, by decide⟩⟩

theorem witness_ImagesAreVerifiedAndActivated :
    (∃ (s : State), updState s = updVerifying ∧ s.update.fifo = [] ∧ Live s) ∧
    (∃ (s : State), s.update.sel.pending = true ∧ s.update.viaReset = false ∧ s.update.failSel = false ∧
      s.update.sel.pendCol < s.colNum ∧ s.planRuns = true ∧ updState s = updArmed) ∧
    (∃ (s : State) (b : By), Forced s b) :=
  ⟨⟨mk [(Reg.UPDATE.STATUS.STATE, 0, updVerifying)] [], by decide, by decide, ⟨by decide, by decide, by decide⟩⟩,

     ⟨{ mk [(Reg.UPDATE.STATUS.STATE, 0, updArmed)] [] with update := { Update.init with sel := { Update.init.sel with pending := true, pendCol := 6 } } },
     by decide, by decide, by decide, by decide, by decide, by decide⟩,
   ⟨mk [(Reg.FAULT.CTRL.FORCE_EN, 0, 1)] [], ⟨true, 3, false⟩, ⟨by decide, by decide⟩⟩⟩

theorem witness_ResetsAndTestPort :
    (∃ (s : State), s.dom.logic = true) ∧
    (∃ (s : State), s.tap < 16) :=
  ⟨⟨mk [] [], by decide⟩,
   ⟨mk [] [], by decide⟩⟩

theorem witness_DomainsFollowTheirSupplies :
    (∃ (s : State) (a b : Nat), (5000 ≤ a ∨ 5000 ≤ b) ∧ s.dom.logic = false ∧ inValley s = false) ∧
    (∃ (s : State) (a b : Nat), max (min s.supA a) (min s.supB b) < 4400) ∧
    (∃ (s : State) (a b : Nat), 4400 ≤ max (min s.supA a) (min s.supB b)) ∧
    (∃ (s : State) (d : Fin 4) (ref : Int), s.dom.logic = true ∧ s.dom.pwr.getLsbD d.val = false ∧
      6000 < (if d.val < 2 then s.supA else s.supB)) ∧
    (∃ (s : State) (d : Fin 4), 4 ≤ smapGet (fun _ => 0) s.seq.dieMiss d.val ∧ d.val ∉ s.seq.linkHeld ∧
      holdsOutputs s = true ∧ s.raiseQ = []) ∧
    (∃ (s : State) (t0 t1 : Int), (120 < t0 ∨ 120 < t1) ∧ s.storeHot = false ∧ Live s) ∧
    (∃ (s : State) (t0 t1 : Int), t0 < 115 ∧ t1 < 115) :=
  ⟨⟨{ mk [] [] with dom := { keep := true, logic := false, net := true, pwr := 0, wait := 0, uv := 0 } }, 5000, 0, by decide,
     by decide, by decide⟩,
   ⟨mk [] [], 4399, 0, by decide⟩,
   ⟨mk [] [], 4400, 0, by decide⟩,
   ⟨{ mk [] [] with dom := { keep := true, logic := true, net := true, pwr := 7, wait := 0, uv := 0 }, supB := 6001 }, 3, 0,
     by decide, by decide, by decide⟩,
   ⟨{ mk [] [] with seq := { Seq.init with dieMiss := [(3, 4)] } }, 3, by decide, by decide, by decide, by decide⟩,
   ⟨mk [] [], 121, 0, by decide, by decide, ⟨by decide, by decide, by decide⟩⟩,
   ⟨mk [] [], 114, 114, by decide, by decide⟩⟩

theorem witness_StartsAndPlanLoads :
    (∃ (s : State) (x : StartIn), (s.boot = 0 ∨ s.rstnLow = true ∨ s.dom.logic = false)) ∧
    (∃ (s : State) (x : StartIn), s.boot ≠ 0 ∧ s.rstnLow = false ∧ s.dom.logic = true) ∧
    (∃ (s : State), s.seq.loading = true ∧ s.seqState = seqLoading ∧ Live s) ∧
    (∃ (s : State) (b : By), b.priv = true ∧ s.seqState = seqNoPlan ∧ s.bit Reg.UPDATE.STATUS.RECOVERY 0 = false ∧
      s.boot = 0) ∧
    (∃ (s : State) (b : By), b.priv = true ∧ s.seqState ≠ seqNoPlan) :=
  ⟨⟨mk [] [], ⟨⟨true, true, true, []⟩, [], 0⟩, by decide⟩,
   ⟨{ mk [] [] with boot := 4 }, ⟨⟨true, true, true, []⟩, [], 0⟩, by decide, by decide, by decide⟩,
   ⟨{ mk [(Reg.TICK.STATUS.STATE, 0, seqLoading)] [] with seq := { Seq.init with loading := true } }, by decide, by decide,
     ⟨by decide, by decide, by decide⟩⟩,
   ⟨mk [(Reg.TICK.STATUS.STATE, 0, seqNoPlan), (Reg.UPDATE.STATUS.RECOVERY, 0, 0)] [], ⟨true, 3, false⟩, by decide,
     by decide, by decide, by decide⟩,
   ⟨mk [] [], ⟨true, 3, false⟩, by decide, by decide⟩⟩

theorem witness_IdleStepPassesACount :
    (∃ (s : State), s.pending = [] ∧ timeRuns s = false) ∧
    (∃ (s : State), s.pending = [] ∧ timeRuns s = true ∧ s.laneEv = []) :=
  ⟨⟨{ mk [] [] with dom := { keep := true, logic := false, net := true, pwr := 0, wait := 0, uv := 0 }, power := { Power.init with descent := .valley, target := 3 } },
     by decide, by decide⟩,
   ⟨mk [] [], by decide, by decide, by decide⟩⟩

theorem witness_StepsKeepMemories :
    ∃ (s t : State), s.memOk = true ∧ step s = .next t :=
   ⟨mk [] [], _, by decide, rfl⟩

theorem witness_OtherCommandsLeaveMemories :
    ∃ (c : Instr) (s t : State), writesMemory c = false ∧ exec c s = .next t :=
   ⟨.testAccessPort true false, mk [] [], _, by decide, rfl⟩

theorem witness_RegistersAndBytesHold :
    (∃ (s : State) (F : Field) (n v : Nat), F.lo + F.len ≤ 32) ∧
    (∃ (s : State) (F G : Field) (n m v : Nat), F.lo + F.len ≤ 32 ∧ (F.off n ≠ G.off m ∨ F.lo + F.len ≤ G.lo ∨
      G.lo + G.len ≤ F.lo)) ∧
    (∃ (m : List (Nat × Byte)) (a v n c : Nat), (c < a ∨ a + n ≤ c)) :=
  ⟨⟨mk [] [], Reg.TICK.HO_COL_LO.NUMBER, 0, 0, by decide⟩,
   ⟨mk [] [], Reg.SYS.LANE_TRAP.COUNT, Reg.SYS.LANE_TRAP.CAUSE, 3, 3, 9, by decide, by decide⟩,
   ⟨[], 8, 1, 8, 16, by decide⟩⟩

theorem witness_StoresHaveTheirCommands :
    (∃ (c : Instr) (s t : State), writesMemory c = false ∧ exec c s = .next t ∧ onDomains c = false) ∧
    (∃ (c : Instr) (s t : State), writesMemory c = false ∧ exec c s = .next t ∧ onActing c = false) ∧
    (∃ (c : Instr) (s t : State), writesMemory c = false ∧ exec c s = .next t ∧ general c = false ∧ onKeys c = false) ∧
    (∃ (c : Instr) (s t : State), writesMemory c = false ∧ exec c s = .next t ∧ general c = false ∧ onUpdate c = false) ∧
    (∃ (c : Instr) (s t : State), writesMemory c = false ∧ exec c s = .next t ∧ general c = false ∧ onTimers c = false) ∧
    (∃ (c : Instr) (s t : State), writesMemory c = false ∧ exec c s = .next t ∧ general c = false ∧ onJournal c = false) ∧
    (∃ (c : Instr) (s t : State), writesMemory c = false ∧ exec c s = .next t ∧ general c = false ∧ onSequencer c = false) ∧
    (∃ (c : Instr) (s t : State), writesMemory c = false ∧ exec c s = .next t ∧ general c = false ∧ onLedger c = false) ∧
    (∃ (c : Instr) (s t : State), writesMemory c = false ∧ exec c s = .next t ∧ general c = false ∧ onMatrix c = false) :=
  ⟨⟨.testAccessPort true false, mk [] [], _, by decide, rfl, by decide⟩,
   ⟨.testAccessPort true false, mk [] [], _, by decide, rfl, by decide⟩,
   ⟨.testAccessPort true false, mk [] [], _, by decide, rfl, by decide, by decide⟩,
   ⟨.testAccessPort true false, mk [] [], _, by decide, rfl, by decide, by decide⟩,
   ⟨.testAccessPort true false, mk [] [], _, by decide, rfl, by decide, by decide⟩,
   ⟨.testAccessPort true false, mk [] [], _, by decide, rfl, by decide, by decide⟩,
   ⟨.testAccessPort true false, mk [] [], _, by decide, rfl, by decide, by decide⟩,
   ⟨.testAccessPort true false, mk [] [], _, by decide, rfl, by decide, by decide⟩,
   ⟨.testAccessPort true false, mk [] [], _, by decide, rfl, by decide, by decide⟩⟩

theorem witness_RegistersHaveTheirCommands :
    (∃ (c : Instr) (s t : State) (o : Nat), writesMemory c = false ∧ general c = false ∧ exec c s = .next t ∧ o < 0x10000) ∧
    (∃ (c : Instr) (s t : State) (o : Nat), writesMemory c = false ∧ general c = false ∧ exec c s = .next t ∧
      setsTime c = false ∧ 0x20000 ≤ o ∧ o < 0x30000) ∧
    (∃ (c : Instr) (s t : State) (o : Nat), writesMemory c = false ∧ general c = false ∧ exec c s = .next t ∧
      setsJournal c = false ∧ 0x50000 ≤ o ∧ o < 0x60000) ∧
    (∃ (c : Instr) (s t : State) (o : Nat), writesMemory c = false ∧ general c = false ∧ exec c s = .next t ∧
      setsInput c = false ∧ 0x180000 ≤ o ∧ o < 0x200000) ∧
    (∃ (c : Instr) (s t : State) (o : Nat), writesMemory c = false ∧ general c = false ∧ exec c s = .next t ∧
      setsNet c = false ∧ 0x200000 ≤ o ∧ o < 0x280000) ∧
    (∃ (c : Instr) (s t : State) (o : Nat), writesMemory c = false ∧ general c = false ∧ exec c s = .next t ∧
      setsKeys c = false ∧ 0x2A0000 ≤ o ∧ o < 0x2C0000) ∧
    (∃ (c : Instr) (s t : State) (o : Nat), writesMemory c = false ∧ general c = false ∧ exec c s = .next t ∧
      setsUpdate c = false ∧ 0x2C0000 ≤ o ∧ o < 0x2E0000) :=
  ⟨⟨.testAccessPort true false, mk [] [], _, 0xFFFF, by decide, by decide, rfl, by decide⟩,
   ⟨.testAccessPort true false, mk [] [], _, 0x20000, by decide, by decide, rfl, by decide, by decide, by decide⟩,
   ⟨.testAccessPort true false, mk [] [], _, 0x5FFFF, by decide, by decide, rfl, by decide, by decide, by decide⟩,
   ⟨.testAccessPort true false, mk [] [], _, 0x180000, by decide, by decide, rfl, by decide, by decide, by decide⟩,
   ⟨.testAccessPort true false, mk [] [], _, 0x27FFFF, by decide, by decide, rfl, by decide, by decide, by decide⟩,
   ⟨.testAccessPort true false, mk [] [], _, 0x2A0000, by decide, by decide, rfl, by decide, by decide, by decide⟩,
   ⟨.testAccessPort true false, mk [] [], _, 0x2DFFFF, by decide, by decide, rfl, by decide, by decide, by decide⟩⟩

/-! ### Well-formedness refuses (one ill-formed command for each check) -/

/-- A bus frame of nine data bytes on LIN. -/
def longLin : BusFrame := { port := 22, supported := true, intact := true, ext := false, ident := 0, unicast := true, data := List.replicate 9 0 }
theorem test_wf_extensions : Instr.wf (.laneLi { alone .li false with ext := List.replicate 8 0 }) = false := by decide
theorem test_wf_raw_form_needs_ts : Instr.wf (.dictRead { req 1 0 0 0 0 0 [] with form := 1, port := 0 }) = false := by decide
theorem test_wf_body_fits_room : Instr.wf (.dictRead { req 1 0 0 0 0 0 [5] with room := 0 }) = false := by decide
theorem test_wf_lin_payload : Instr.wf (.busFrameReceive longLin) = false := by decide
theorem test_wf_spread : Instr.wf (.col { cols with spread := 3 }) = false := by decide
theorem test_wf_uhf_length : Instr.wf (.uhfAnswer { slot := 0, edge := 0, bytes := [1] }) = false := by decide
theorem test_wf_key_slots : Instr.wf (.keyRecordCheck [64]) = false := by decide
theorem test_wf_start_slots : Instr.wf (.start ⟨⟨true, true, true, [64]⟩, [], 0⟩) = false := by decide
theorem test_wf_word_offset : Instr.wf (.registerWrite ⟨true, 0, false⟩ 0x2 0) = false := by decide
theorem test_wf_pass_offset : Instr.wf (.passNop 15 0) = false := by decide
theorem test_wf_pins : Instr.wf (.mirrorScanConversion 0 [4096, 0, 0, 0, 0, 0, 0, 0] 0) = false := by decide
theorem test_wf_chunk : Instr.wf (.sbsChunk true 0 [] 0) = false := by decide
theorem test_wf_bundle : Instr.wf (.illegalEncoding 0 []) = false := by decide
theorem test_wf_echo : Instr.wf (.echoRequest 0 0 0 (List.replicate 1501 0)) = false := by decide +kernel
theorem test_wf_poll : Instr.wf (.pollAnswer [2]) = false := by decide
theorem test_wf_accepts : Instr.wf (.passNop 16 0) = true ∧ Instr.wf (.registerWrite ⟨true, 0, false⟩ 0x100440 1) = true := by decide

/-! ### The spec's worked examples -/

/-- The bundle that chapter 4 encodes: ADDI, LI with its extension, LDD. -/
theorem test_bundle_words :
    joinWords 2 [0x0408513D, 0x20449388, 0x01FC0001, 0xC11870C2] =
      [{ kind := .addi, op := { lane := 2, slot := .a, neg := false, pred := 2, opnd := 0x513D, ext := [], stop := false } },
       { kind := .li, op := { lane := 2, slot := .b, neg := false, pred := 0, opnd := 0x9388, ext := [1], stop := false } },
       { kind := .ldd, op := { lane := 2, slot := .c, neg := false, pred := 0, opnd := 0x70C2, ext := [], stop := true } }] := by
  decide +kernel
/-- The LI of that bundle gives 5000. -/
theorem test_li_extension : ({ alone .li false with opnd := 0x9388, ext := [1] } : Op).imm12 = 5000 := by decide
/-- LSW.CTRL17 stands at offset 0x100440 (chapter 1). -/
theorem test_lsw_ctrl17 : Reg.LSW.CTRL.EN.off 17 = 0x100440 := by decide
/-- A lane that stands at a cycle of its tick, at PL0. -/
def atCycle (lane : Nat) (c : Nat) : State :=
  { laneState false 0 with seq := { Seq.init with period := 10000, k := 4 }, lanes := [(lane, { Lane.init lane with running := true, cyc := c })] }
/-- Accesses to shared memory issued at cycles 10 and 20 of lane 0 and at cycle 15 of lane 3 take slots 14, 24 and 17
(chapter 4, the store-conditional that loses). -/
theorem test_slots :
    ({ alone .lr false with lane := 0 } : Op).wheel (atCycle 0 10) = 14 ∧ ({ alone .sc false with lane := 0 } : Op).wheel (atCycle 0 20) = 24 ∧
      (alone .std false).wheel (atCycle 3 15) = 17 := by decide
/-- A store of another lane in the granule before the slot breaks the reservation (R123): SC writes 0. -/
theorem test_sc_loses :
    let s := { atCycle 0 20 with lanes := [(0, { Lane.init 0 with resv := some ⟨0x940, 14, false⟩ })] }
    let t := laneAct s { due := 19, prio := 2, issue := 15, lane := 3, act := .land 0x4A00 8 7 }
    (laneAct t { due := 24, prio := 1, issue := 20, lane := 0, act := .sc false 1 0x4A00 9 }).laneEv.map (fun e => (e.due, e.act)) =
      [(29, .pred false 1 false)] := by decide +kernel

/-! ### One step each -/

/-- The state a command answers; unchanged where it answers none. -/
def after (s : State) (i : Instr) : State :=
  match exec i s with
  | .next t => t
  | _ => s
/-- ADDI g5, g6, −3 is in flight to g5 for the next cycle. -/
theorem test_addi :
    (after (laneState false 1) (.laneAddi { alone .addi false with opnd := 0x51BD })).laneEv.map (fun e => (e.due, e.act)) =
      [(1, .gpr false 5 (BitVec.ofInt 64 (-2)))] := by decide +kernel
/-- Division by zero gives all ones (R119). -/
theorem test_divu_zero :
    (after (laneState false 7) (.laneDivu (alone .divu false))).laneEv.map (fun e => e.act) = [.gpr false 5 (BitVec.allOnes 64)] := by
  decide +kernel
/-- A pass that the plan does not list at this place does nothing. -/
theorem test_pass_unlisted : (after (mk [] []) (.passNop 16 0)).seq.passOff = 0 := by decide +kernel
/-- A lane's write to LSW.CTRL17 is staged at offset 0x100440 and acts on nothing yet (R43, R63). -/
theorem test_staged :
    let t := after (mk [] []) (.registerWrite ⟨true, 0, false⟩ 0x100440 1)
    t.bit Reg.LSW.CTRL.EN 17 = true ∧ t.effBit Reg.LSW.CTRL.EN 17 = false ∧ t.bit Reg.LSW.CTRL.EN 16 = false := by decide +kernel
/-- Unprivileged code cannot force a fault: FLT_SYS_PRIVWRITE for its lane (R31). -/
theorem test_privwrite :
    (after (mk [] []) (.sleepArm ⟨false, 2, false⟩)).flags = [⟨Flt.SYS.PRIVWRITE, 2, 0⟩] := by decide +kernel

end Sys2Proof.Tests
end

section
/-!
# Proofs of the family 00_scope

The queue and the reset state; how fields and bytes hold what is written; that every command has a next state; the frame of a
class F0 raise, from which refused requests follow; register writes, pairs and reads; what a controller reset leaves.
-/
namespace Sys2Proof.Machine

/-! ### The queue and the reset state -/

/-- Settles O52: the front of a queue is what `step` matches on. -/
theorem stepRunsTheFrontCommand : Obligations.StepRunsTheFrontCommand := by
  unfold Obligations.StepRunsTheFrontCommand
  intro c rest s
  rw [step]

/-- Settles O57: every sparse map of the reset state is empty, so that each key reads as an unlisted one. -/
theorem resetState : Obligations.ResetState := by
  unfold Obligations.ResetState
  refine ⟨fun o => ⟨rfl, rfl⟩, fun a => ⟨rfl, rfl, rfl, rfl⟩, fun n => rfl, rfl, rfl, rfl, rfl, rfl, ?_⟩
  decide

/-! ### Fields and bytes (R7, R8) -/

theorem fld_setFld_same (s : State) (F : Field) (n v : Nat) (h : F.lo + F.len ≤ 32) :
    (s.setFld F n v).fld F n = v % 2 ^ F.len := by
  rw [State.fld, State.setFld, word_setWord_same, getBits_putBits_same _ _ h]

/-- A field beside the one written, in the same register, keeps its value. -/
theorem fld_setFld_beside (s : State) {F G : Field} {n m : Nat} (v : Nat) (h : F.lo + F.len ≤ 32) (ho : G.off m = F.off n)
    (hd : G.lo + G.len ≤ F.lo ∨ F.lo + F.len ≤ G.lo) : (s.setFld F n v).fld G m = s.fld G m := by
  rw [State.fld, State.setFld, ho, word_setWord_same, getBits_putBits_beside _ _ h hd, State.fld, ho]

/-- Reading little-endian bytes looks only at the bytes read. -/
theorem rdLE_congr {m m' : List (Nat × Byte)} {a n : Nat} (h : ∀ i, i < n → rdByte m (a + i) = rdByte m' (a + i)) :
    rdLE m a n = rdLE m' a n := by
  induction n generalizing a with
  | zero => rfl
  | succ n ih =>
    have tail := ih (a := a + 1) fun i hi => by simpa only [Nat.add_assoc, Nat.add_comm 1] using h (i + 1) (by omega)
    rw [rdLE, rdLE, tail, show rdByte m a = rdByte m' a from h 0 (by omega)]

theorem rdLE_wrLE (m : List (Nat × Byte)) (a v n : Nat) : rdLE (wrLE m a v n) a n = v % 256 ^ n := by
  induction n generalizing m a v with
  | zero => simp [rdLE, Nat.mod_one]
  | succ n ih =>
    have first : rdByte (wrLE m a v (n + 1)) a = BitVec.ofNat 8 v := by simpa using rdByte_wrLE m a v (n + 1) 0 (by omega)
    rw [rdLE, first, wrLE, ih, BitVec.toNat_ofNat, Nat.pow_succ' (m := 256), Nat.mod_mul]

/-- Settles O58: a field against its own register, against the fields beside it, against other registers; bytes by induction on
their number. -/
theorem registersAndBytesHold : Obligations.RegistersAndBytesHold := by
  unfold Obligations.RegistersAndBytesHold
  refine ⟨fld_setFld_same, fun s F G n m v h hd => ?_, rdLE_wrLE, fun m a v n c => rdByte_wrLE_ne m a v n c⟩
  by_cases ho : G.off m = F.off n
  · have beside : G.lo + G.len ≤ F.lo ∨ F.lo + F.len ≤ G.lo := (hd.resolve_left fun ne => ne ho.symm).symm
    exact fld_setFld_beside s v h ho beside
  · exact fld_setFld_elsewhere s v ho

end Sys2Proof.Machine
end

section
namespace Sys2Proof.Machine

/-! ### Every command has a next state -/

/-- A command that does not write memory has a next state, which holds the queue and every byte memory as they were: the rules
of Laws/Held*.lean, one for each command. -/
theorem exec_held (c : Instr) (s : State) (h : writesMemory c = false) : Res.held (exec c s) s.held := by
  cases c with
  | registerWrite by_ off val => exact execRegisterWrite_held by_ off val s
  | readClear by_ off => exact execReadClear_held by_ off s
  | groupFirstRead by_ off => exact execGroupFirstRead_held by_ off s
  | pairHighWrite by_ off val => exact execPairHighWrite_held by_ off val s
  | dieLinkFrame die crcOk inTime => exact execDieLinkFrame_held die crcOk inTime s
  | dieLinkLoss die => exact execDieLinkLoss_held die s
  | ledgerUpdate m => exact execLedgerUpdate_held m s
  | load by_ => exact execLoad_held by_ s
  | hoArm by_ => exact execHoArm_held by_ s
  | hoAbort by_ => exact execHoAbort_held by_ s
  | injEcc2 by_ n => exact execInjEcc2_held by_ n s
  | injEcc1 by_ n => exact execInjEcc1_held by_ n s
  | injResidue by_ n => exact execInjResidue_held by_ n s
  | nandHot t0 t1 => exact execNandHot_held t0 t1 s
  | pulseGroupPhasePoint chan start => exact execPulseGroupPhasePoint_held chan start s
  | dinEdge pin level => exact execDinEdge_held pin level s
  | mirrorScanConversion code pins last => exact execMirrorScanConversion_held code pins last s
  | fwTest n => exact execFwTest_held n s
  | fwTestEnd n vmin current => exact execFwTestEnd_held n vmin current s
  | limitTimeout n => exact execLimitTimeout_held n s
  | hardShort n => exact execHardShort_held n s
  | overTemperatureTrip n => exact execOverTemperatureTrip_held n s
  | openLoadOn n => exact execOpenLoadOn_held n s
  | offStateDiag n vout => exact execOffStateDiag_held n vout s
  | clampTrip n => exact execClampTrip_held n s
  | thermalLatchClear chan => exact execThermalLatchClear_held chan s
  | retryRestart n => exact execRetryRestart_held n s
  | retryRefill n => exact execRetryRefill_held n s
  | reload n => exact execReload_held n s
  | holdoverExpiry chan => exact execHoldoverExpiry_held chan s
  | lswForceClamp by_ n => exact execLswForceClamp_held by_ n s
  | lswForceTherm by_ n => exact execLswForceTherm_held by_ n s
  | lswForceShort by_ n => exact execLswForceShort_held by_ n s
  | lswForceOpen by_ n => exact execLswForceOpen_held by_ n s
  | ledgerAdmit lane ch ist => exact execLedgerAdmit_held lane ch ist s
  | ledgerRelease lane ch => exact execLedgerRelease_held lane ch s
  | inrushEnd ch => exact execInrushEnd_held ch s
  | ledgerForceSegtrip by_ seg => exact execLedgerForceSegtrip_held by_ seg s
  | reversalBrakeEnd n => exact execReversalBrakeEnd_held n s
  | brakeLimit n => exact execBrakeLimit_held n s
  | bridgeShort n => exact execBridgeShort_held n s
  | bridgeOverTemperature n => exact execBridgeOverTemperature_held n s
  | stall n => exact execStall_held n s
  | supbOvervoltage above => exact execSupbOvervoltage_held above s
  | gateDriverFault chan => exact execGateDriverFault_held chan s
  | rippleAccept n count mean ampl => exact execRippleAccept_held n count mean ampl s
  | rippleInsert n => exact execRippleInsert_held n s
  | rippleExtrapolate n => exact execRippleExtrapolate_held n s
  | rippleExtrapExpiry n => exact execRippleExtrapExpiry_held n s
  | posWrite by_ n val => exact execPosWrite_held by_ n val s
  | hbrForceStall by_ n => exact execHbrForceStall_held by_ n s
  | hbrForceTherm by_ n => exact execHbrForceTherm_held by_ n s
  | hbrForceShort by_ n => exact execHbrForceShort_held by_ n s
  | valveStart n => exact execValveStart_held n s
  | valveOff n => exact execValveOff_held n s
  | valveRearm n => exact execValveRearm_held n s
  | microcodeWrite by_ bank word high val => exact execMicrocodeWrite_held by_ bank word high val s
  | ucNop n x => exact execUcNop_held n x s
  | ucSeti n x => exact execUcSeti_held n x s
  | ucRamp n x => exact execUcRamp_held n x s
  | ucPeak n x => exact execUcPeak_held n x s
  | ucHold n x => exact execUcHold_held n x s
  | ucRel n x => exact execUcRel_held n x s
  | ucEnd n x => exact execUcEnd_held n x s
  | ucWaitt n x => exact execUcWaitt_held n x s
  | ucWaiti n x => exact execUcWaiti_held n x s
  | ucWaitp n x => exact execUcWaitp_held n x s
  | ucBrdl n x => exact execUcBrdl_held n x s
  | ucJmp n x => exact execUcJmp_held n x s
  | ucSetn n x => exact execUcSetn_held n x s
  | ucLoop n x => exact execUcLoop_held n x s
  | ucMark n x => exact execUcMark_held n x s
  | peakCut n => exact execPeakCut_held n s
  | runmaxExpiry n => exact execRunmaxExpiry_held n s
  | coilModelUpdate n irms => exact execCoilModelUpdate_held n irms s
  | pksCapMeasure cap => exact execPksCapMeasure_held cap s
  | pksOvervoltage vpks => exact execPksOvervoltage_held vpks s
  | vdShort n => exact execVdShort_held n s
  | openCoil n => exact execOpenCoil_held n s
  | vdOverTemperature n => exact execVdOverTemperature_held n s
  | longClamp n => exact execLongClamp_held n s
  | vbProtection b thermal => exact execVbProtection_held b thermal s
  | valveForceCoilhot by_ n => exact execValveForceCoilhot_held by_ n s
  | valveForceTherm by_ n => exact execValveForceTherm_held by_ n s
  | valveForceOpen by_ n => exact execValveForceOpen_held by_ n s
  | valveForceShort by_ n => exact execValveForceShort_held by_ n s
  | ledModelUpdate n irms ref => exact execLedModelUpdate_held n irms ref s
  | headroomMeasure n hr vout => exact execHeadroomMeasure_held n hr vout s
  | setpointStep g vout => exact execSetpointStep_held g vout s
  | stageReady g vout => exact execStageReady_held g vout s
  | openString n => exact execOpenString_held n s
  | stringShort n => exact execStringShort_held n s
  | sinkOverTemperature n => exact execSinkOverTemperature_held n s
  | stageProtection g trip => exact execStageProtection_held g trip s
  | sinkRearm n => exact execSinkRearm_held n s
  | stageRearm g => exact execStageRearm_held g s
  | matrixRearm => exact execMatrixRearm_held s
  | matrixFrameEnd => exact execMatrixFrameEnd_held s
  | matrixDiag d => exact execMatrixDiag_held d s
  | matrixHoldoverFrame => exact execMatrixHoldoverFrame_held s
  | lightForceLeak by_ n => exact execLightForceLeak_held by_ n s
  | lightForceTherm by_ n => exact execLightForceTherm_held by_ n s
  | lightForceShort by_ n => exact execLightForceShort_held by_ n s
  | lightForceOpen by_ n => exact execLightForceOpen_held by_ n s
  | timeBaseCarry => exact execTimeBaseCarry_held s
  | slowratioMeasure ratio => exact execSlowratioMeasure_held ratio s
  | syncMessage port pdelay ns => exact execSyncMessage_held port pdelay ns s
  | compareFire n => exact execCompareFire_held n s
  | counterStep n dirHigh => exact execCounterStep_held n dirHigh s
  | udcstart by_ mask => exact execUdcstart_held by_ mask s
  | captureEdge n count level => exact execCaptureEdge_held n count level s
  | siLevelChange n level => exact execSiLevelChange_held n level s
  | siValleyPoll n level => exact execSiValleyPoll_held n level s
  | aiConversionDone n code => exact execAiConversionDone_held n code s
  | dictRead f => exact execDictRead_held f s
  | dictWrite f => exact execDictWrite_held f s
  | dictInvoke f => exact execDictInvoke_held f s
  | dictDescribe f => exact execDictDescribe_held f s
  | dictBlobRead f => exact execDictBlobRead_held f s
  | jStatus f => exact execJStatus_held f s
  | jByCseq f => exact execJByCseq_held f s
  | jRead f => exact execJRead_held f s
  | jScan f => exact execJScan_held f s
  | jStarts f => exact execJStarts_held f s
  | commandAcceptance fail => exact execCommandAcceptance_held fail s
  | answerTransmit port => exact execAnswerTransmit_held port s
  | busFrameReceive f => exact execBusFrameReceive_held f s
  | linHeaderReceive l fid good => exact execLinHeaderReceive_held l fid good s
  | neighbourSolicitation port target source claim => exact execNeighbourSolicitation_held port target source claim s
  | echoRequest port target source data => exact execEchoRequest_held port target source data s
  | linkLoss port => exact execLinkLoss_held port s
  | plcaLost => exact execPlcaLost_held s
  | transmitOpportunity => exact execTransmitOpportunity_held s
  | canBusOff c => exact execCanBusOff_held c s
  | busOffRecovery c => exact execBusOffRecovery_held c s
  | canRecover by_ c => exact execCanRecover_held by_ c s
  | outPost by_ outcome reason bind => exact execOutPost_held by_ outcome reason bind s
  | outcomeJournaled fail => exact execOutcomeJournaled_held fail s
  | namedColSnapshot => exact execNamedColSnapshot_held s
  | barrierReport => exact execBarrierReport_held s
  | stagedControllerReset => exact execStagedControllerReset_held s
  | drainChunk fail => exact execDrainChunk_held fail s
  | persistentStore => exact execPersistentStore_held s
  | journalForceBank1 by_ => exact execJournalForceBank1_held by_ s
  | journalForceBank0 by_ => exact execJournalForceBank0_held by_ s
  | sleepArm by_ => exact execSleepArm_held by_ s
  | watershed => exact execWatershed_held s
  | descentStart => exact execDescentStart_held s
  | forcedEntry => exact execForcedEntry_held s
  | parkingCol => exact execParkingCol_held s
  | valleyEntryComplete => exact execValleyEntryComplete_held s
  | tc10Timeout port => exact execTc10Timeout_held port s
  | valleyExit => exact execValleyExit_held s
  | wakeLinePulse => exact execWakeLinePulse_held s
  | wakeLineStuck => exact execWakeLineStuck_held s
  | canSelectiveWake c ev => exact execCanSelectiveWake_held c ev s
  | ethernetWake port tc10 => exact execEthernetWake_held port tc10 s
  | linWake l => exact execLinWake_held l s
  | sbsAddress addr read => exact execSbsAddress_held addr read s
  | noTrafficExpiry => exact execNoTrafficExpiry_held s
  | maxawakeExpiry => exact execMaxawakeExpiry_held s
  | powerPulse by_ => exact execPowerPulse_held by_ s
  | powerKeep by_ => exact execPowerKeep_held by_ s
  | powerAbort by_ => exact execPowerAbort_held by_ s
  | laneSupplyFault outside => exact execLaneSupplyFault_held outside s
  | powerForceDescent by_ => exact execPowerForceDescent_held by_ s
  | powerForceMaxawake by_ => exact execPowerForceMaxawake_held by_ s
  | powerForceFalsewake by_ => exact execPowerForceFalsewake_held by_ s
  | powerForceWakeline by_ => exact execPowerForceWakeline_held by_ s
  | powerForceVlane by_ => exact execPowerForceVlane_held by_ s
  | uhfAnswer f => exact execUhfAnswer_held f s
  | roundEnd => exact execRoundEnd_held s
  | roundAbort by_ => exact execRoundAbort_held by_ s
  | aerialFault a ev => exact execAerialFault_held a ev s
  | lockoutEnd => exact execLockoutEnd_held s
  | lockoutLevelClear => exact execLockoutLevelClear_held s
  | immoGo by_ => exact execImmoGo_held by_ s
  | immoWindowExpiry => exact execImmoWindowExpiry_held s
  | accessPoll => exact execAccessPoll_held s
  | pollAnswer bytes => exact execPollAnswer_held bytes s
  | accessForceRelay by_ => exact execAccessForceRelay_held by_ s
  | accessForceAerial by_ => exact execAccessForceAerial_held by_ s
  | accessForceFail by_ => exact execAccessForceFail_held by_ s
  | keyImport by_ slot src => exact execKeyImport_held by_ slot src s
  | keyGenerate by_ slot cls attr => exact execKeyGenerate_held by_ slot cls attr s
  | keyDerive by_ slot src attr => exact execKeyDerive_held by_ slot src attr s
  | keyExport by_ slot src => exact execKeyExport_held by_ slot src s
  | keyErase by_ slot => exact execKeyErase_held by_ slot s
  | keyLock by_ slot => exact execKeyLock_held by_ slot s
  | keyRenewFb by_ => exact execKeyRenewFb_held by_ s
  | keyZeroise by_ => exact execKeyZeroise_held by_ s
  | keyOperationDone => exact execKeyOperationDone_held s
  | keyRecordCheck bad => exact execKeyRecordCheck_held bad s
  | tamper src => exact execTamper_held src s
  | trngFail => exact execTrngFail_held s
  | crqCmac by_ slot => exact execCrqCmac_held by_ slot s
  | crqEncrypt by_ slot => exact execCrqEncrypt_held by_ slot s
  | crqSha256 by_ => exact execCrqSha256_held by_ s
  | crqAttest by_ => exact execCrqAttest_held by_ s
  | crqDone => exact execCrqDone_held s
  | keysForceTamper by_ => exact execKeysForceTamper_held by_ s
  | keysForceSlotfail by_ => exact execKeysForceSlotfail_held by_ s
  | keysForceTrng by_ => exact execKeysForceTrng_held by_ s
  | updateBegin by_ => exact execUpdateBegin_held by_ s
  | eraseDone => exact execEraseDone_held s
  | updateVerify by_ => exact execUpdateVerify_held by_ s
  | verifyDone => exact execVerifyDone_held s
  | updateAbort by_ => exact execUpdateAbort_held by_ s
  | updateRecover by_ => exact execUpdateRecover_held by_ s
  | stagingPush by_ => exact execStagingPush_held by_ s
  | chunkWrite fail => exact execChunkWrite_held fail s
  | activationConfirm => exact execActivationConfirm_held s
  | sbsStatus crcOk => exact execSbsStatus_held crcOk s
  | sbsBegin crcOk => exact execSbsBegin_held crcOk s
  | sbsChunk crcOk off data fail => exact execSbsChunk_held crcOk off data fail s
  | sbsVerify crcOk => exact execSbsVerify_held crcOk s
  | sbsActivate crcOk => exact execSbsActivate_held crcOk s
  | sbsRecover crcOk arg => exact execSbsRecover_held crcOk arg s
  | sbsRead at_ => exact execSbsRead_held at_ s
  | updateForceSelector by_ => exact execUpdateForceSelector_held by_ s
  | updateForceDigest by_ => exact execUpdateForceDigest_held by_ s
  | updateForceStore by_ => exact execUpdateForceStore_held by_ s
  | faultForce by_ src cls unit => exact execFaultForce_held by_ src cls unit s
  | faultAck by_ classes => exact execFaultAck_held by_ classes s
  | faultAckone by_ src unit => exact execFaultAckone_held by_ src unit s
  | refclkFault => exact execRefclkFault_held s
  | terminalDumpDone => exact execTerminalDumpDone_held s
  | logClear by_ => exact execLogClear_held by_ s
  | logClrdump by_ => exact execLogClrdump_held by_ s
  | terminalLatchClear => exact execTerminalLatchClear_held s
  | supplyRise supA supB => exact execSupplyRise_held supA supB s
  | supplyUndervoltage die under => exact execSupplyUndervoltage_held die under s
  | pwrDomainOn die ref => exact execPwrDomainOn_held die ref s
  | rstnLow low => exact execRstnLow_held low s
  | controllerReset => exact execControllerReset_held s
  | unsupportedOperation f => exact execUnsupportedOperation_held f s
  | linkUp port => exact execLinkUp_held port s
  | plcaInStep => exact execPlcaInStep_held s
  | timeAwareNeighbourLoss => exact execTimeAwareNeighbourLoss_held s
  | tc10SleepHandshake port => exact execTc10SleepHandshake_held port s
  | wakeLineRecovery => exact execWakeLineRecovery_held s
  | wakePulseEnd => exact execWakePulseEnd_held s
  | cleaningPulseEnd n => exact execCleaningPulseEnd_held n s
  | loadDump input above => exact execLoadDump_held input above s
  | currentLimit n limiting => exact execCurrentLimit_held n limiting s
  | pksReady vpks => exact execPksReady_held vpks s
  | testAccessPort tms trstnLow => exact execTestAccessPort_held tms trstnLow s
  | _ => cases h

theorem Res.keeps_of_res_held {s : State} {r : Result} (h : Res.held r s.held) : Res.keeps s r := by
  obtain ⟨t, ht, e⟩ := h
  exact ⟨t, ht, keeps_of_held e⟩

/-- Every command has a next state, which keeps the queue and the canonical form of the memories: those that write memory by
the rules of Laws/Keeps.lean, the others by `exec_held`. -/
theorem exec_keeps (c : Instr) (s : State) : Res.keeps s (exec c s) := by
  cases c with
  | stageCutoff => exact execStageCutoff_keeps s
  | col m => exact execCol_keeps m s
  | passNop off lane => exact execPassNop_keeps off lane s
  | passCode off lane block entry => exact execPassCode_keeps off lane block entry s
  | passEdge off lane chan => exact execPassEdge_keeps off lane chan s
  | passSample off lane group => exact execPassSample_keeps off lane group s
  | passBusTx off lane entry => exact execPassBusTx_keeps off lane entry s
  | passLinSlot off lane entry port => exact execPassLinSlot_keeps off lane entry port s
  | passScan off lane line => exact execPassScan_keeps off lane line s
  | passAccess off lane entry => exact execPassAccess_keeps off lane entry s
  | passMark off lane block => exact execPassMark_keeps off lane block s
  | passPlain off lane len => exact execPassPlain_keeps off lane len s
  | plainSuspend lane => exact execPlainSuspend_keeps lane s
  | planLoadDone => exact execPlanLoadDone_keeps s
  | laneFault lane kind => exact execLaneFault_keeps lane kind s
  | narrowsSwitch => exact execNarrowsSwitch_keeps s
  | handover => exact execHandover_keeps s
  | laneNop op => exact execLaneNop_keeps op s
  | laneAdd op => exact execLaneAdd_keeps op s
  | laneAddi op => exact execLaneAddi_keeps op s
  | laneSub op => exact execLaneSub_keeps op s
  | laneAnd op => exact execLaneAnd_keeps op s
  | laneAndi op => exact execLaneAndi_keeps op s
  | laneOr op => exact execLaneOr_keeps op s
  | laneOri op => exact execLaneOri_keeps op s
  | laneXor op => exact execLaneXor_keeps op s
  | laneXori op => exact execLaneXori_keeps op s
  | laneShl op => exact execLaneShl_keeps op s
  | laneShli op => exact execLaneShli_keeps op s
  | laneShr op => exact execLaneShr_keeps op s
  | laneShri op => exact execLaneShri_keeps op s
  | laneSar op => exact execLaneSar_keeps op s
  | laneSari op => exact execLaneSari_keeps op s
  | laneMov op => exact execLaneMov_keeps op s
  | laneLi op => exact execLaneLi_keeps op s
  | laneLih op => exact execLaneLih_keeps op s
  | laneSel op => exact execLaneSel_keeps op s
  | laneMin op => exact execLaneMin_keeps op s
  | laneMax op => exact execLaneMax_keeps op s
  | laneMinu op => exact execLaneMinu_keeps op s
  | laneMaxu op => exact execLaneMaxu_keeps op s
  | laneAbs op => exact execLaneAbs_keeps op s
  | laneClz op => exact execLaneClz_keeps op s
  | lanePopc op => exact execLanePopc_keeps op s
  | laneSext op => exact execLaneSext_keeps op s
  | laneAdds op => exact execLaneAdds_keeps op s
  | laneSubs op => exact execLaneSubs_keeps op s
  | laneCmpeq op => exact execLaneCmpeq_keeps op s
  | laneCmpne op => exact execLaneCmpne_keeps op s
  | laneCmplt op => exact execLaneCmplt_keeps op s
  | laneCmple op => exact execLaneCmple_keeps op s
  | laneCmpltu op => exact execLaneCmpltu_keeps op s
  | laneCmpleu op => exact execLaneCmpleu_keeps op s
  | laneCmpeqi op => exact execLaneCmpeqi_keeps op s
  | laneCmplti op => exact execLaneCmplti_keeps op s
  | laneTstb op => exact execLaneTstb_keeps op s
  | lanePand op => exact execLanePand_keeps op s
  | lanePor op => exact execLanePor_keeps op s
  | lanePnot op => exact execLanePnot_keeps op s
  | lanePget op => exact execLanePget_keeps op s
  | lanePset op => exact execLanePset_keeps op s
  | laneMul op => exact execLaneMul_keeps op s
  | laneMulhs op => exact execLaneMulhs_keeps op s
  | laneMulhu op => exact execLaneMulhu_keeps op s
  | laneDiv op => exact execLaneDiv_keeps op s
  | laneDivu op => exact execLaneDivu_keeps op s
  | laneRem op => exact execLaneRem_keeps op s
  | laneRemu op => exact execLaneRemu_keeps op s
  | laneLdb op => exact execLaneLdb_keeps op s
  | laneLdbu op => exact execLaneLdbu_keeps op s
  | laneLdh op => exact execLaneLdh_keeps op s
  | laneLdhu op => exact execLaneLdhu_keeps op s
  | laneLdw op => exact execLaneLdw_keeps op s
  | laneLdwu op => exact execLaneLdwu_keeps op s
  | laneLdd op => exact execLaneLdd_keeps op s
  | laneLddx op => exact execLaneLddx_keeps op s
  | laneStb op => exact execLaneStb_keeps op s
  | laneSth op => exact execLaneSth_keeps op s
  | laneStw op => exact execLaneStw_keeps op s
  | laneStd op => exact execLaneStd_keeps op s
  | laneStdx op => exact execLaneStdx_keeps op s
  | laneTas op => exact execLaneTas_keeps op s
  | laneLr op => exact execLaneLr_keeps op s
  | laneSc op => exact execLaneSc_keeps op s
  | laneBr op => exact execLaneBr_keeps op s
  | laneBrl op => exact execLaneBrl_keeps op s
  | laneBri op => exact execLaneBri_keeps op s
  | laneBril op => exact execLaneBril_keeps op s
  | laneEndb op => exact execLaneEndb_keeps op s
  | laneWait op => exact execLaneWait_keeps op s
  | laneDropp op => exact execLaneDropp_keeps op s
  | laneRdcyc op => exact execLaneRdcyc_keeps op s
  | laneRdlane op => exact execLaneRdlane_keeps op s
  | laneTrap op => exact execLaneTrap_keeps op s
  | supplyFall supA supB => exact execSupplyFall_keeps supA supB s
  | start x => exact execStart_keeps x s
  | illegalEncoding lane words => exact execIllegalEncoding_keeps lane words s
  | _ => exact Res.keeps_of_res_held (exec_held _ s rfl)

/-- Settles O54: the rule of each command, assembled in `exec_keeps`. -/
theorem everyCommandCompletes : Obligations.EveryCommandCompletes := by
  unfold Obligations.EveryCommandCompletes
  intro c s
  obtain ⟨t, ht, hk⟩ := exec_keeps c s
  exact ⟨t, ht, hk.pending⟩

end Sys2Proof.Machine
end

section
namespace Sys2Proof.Machine

/-! ### The frame of a class F0 raise (R457 to R462, R471, R472) -/

/-- From `s` to `t` the collector has at most recorded something: flags are added, and of the registers only those of the FAULT
and LOG blocks, of the rest only the log can differ. -/
structure Recorded (s t : State) : Prop where
  rest : t = { s with regs := t.regs, flags := t.flags, log := t.log }
  words : ∀ o, o < 0x30000 ∨ 0x50000 ≤ o → t.word o = s.word o
  flags : s.flags ⊆ t.flags

theorem Recorded.refl (s : State) : Recorded s s := ⟨rfl, fun _ _ => rfl, List.Subset.refl _⟩

theorem Recorded.trans {s t u : State} (h : Recorded s t) (g : Recorded t u) : Recorded s u :=
  ⟨by rw [g.rest, h.rest], fun o ho => (g.words o ho).trans (h.words o ho), List.Subset.trans h.flags g.flags⟩

/-- Does the field stand in the FAULT or the LOG block? -/
def inCollector (F : Field) (n : Nat) : Bool := decide (0x30000 ≤ F.off n ∧ F.off n < 0x50000)

theorem setFld_recorded (s : State) {F : Field} {n : Nat} (v : Nat) (h : inCollector F n = true) :
    Recorded s (s.setFld F n v) :=
  ⟨rfl, fun o ho => word_setWord_ne s _ (by have := of_decide_eq_true h; omega), List.Subset.refl _⟩

theorem setBit_recorded (s : State) {F : Field} {n : Nat} (b : Bool) (h : inCollector F n = true) :
    Recorded s (s.setBit F n b) := setFld_recorded s _ h

theorem setFlds_recorded (s : State) (l : List (Field × Nat × Nat)) (h : (l.all fun p => inCollector p.1 p.2.1) = true) :
    Recorded s (s.setFlds l) := by
  induction l generalizing s with
  | nil => exact Recorded.refl s
  | cons p l ih =>
    obtain ⟨hp, hl⟩ := Bool.and_eq_true_iff.1 h
    exact (setFld_recorded s p.2.2 hp).trans (ih _ hl)

theorem setFlag_recorded (s : State) (f : FaultFlag) : Recorded s (setFlag s f) := by
  unfold setFlag
  split
  · exact Recorded.refl s
  · have add : Recorded s { s with flags := s.flags ++ [f] } := ⟨rfl, fun _ _ => rfl, List.subset_append_left _ _⟩
    exact add.trans (setFlds_recorded _ _ rfl)

theorem mem_setFlag (s : State) (f : FaultFlag) : f ∈ (setFlag s f).flags := by
  unfold setFlag
  split
  · assumption
  · simp [showFlags, State.setFlds]

theorem logWrite_recorded (s : State) (r : LogRec) : Recorded s (logWrite s r) := by
  unfold logWrite
  split
  · exact (setFld_recorded s _ rfl).trans (setBit_recorded _ _ rfl)
  · extract_lets r' full a b
    have ha : Recorded s a := ⟨rfl, fun _ _ => rfl, List.Subset.refl _⟩
    have hb : Recorded s b := (ha.trans (setFld_recorded _ _ rfl)).trans (setFld_recorded _ _ rfl)
    split
    · exact hb.trans (setBit_recorded _ _ rfl)
    · exact hb

theorem countRaise_recorded (s : State) (r : Raise) {act : Nat} (h : act < 4) : Recorded s (countRaise s r act) := by
  have hc : inCollector Reg.FAULT.CNT.COUNT act = true := by
    exact decide_eq_true (by simp only [Field.off, Reg.FAULT.CNT.COUNT]; omega)
  exact (setFld_recorded s _ hc).trans (setFlds_recorded _ _ rfl)

theorem react_recorded (s : State) {cls : Nat} (h : cls < 2) : Recorded s (react s cls) := by
  match cls, h with
  | 0, _ => exact Recorded.refl s
  | 1, _ => exact setBit_recorded s true rfl

/-- Flag, count, record and react at class F0, or at F1 when escalated: the flag of class F0 is set and all of it is recorded. -/
theorem acted_recorded (s : State) (r : Raise) (rec : State → LogRec) {act : Nat} (h : act < 2) :
    let flagged := setFlag (setFlag s ⟨r.src, r.unit, 0⟩) ⟨r.src, r.unit, act⟩
    let t := react (logWrite (countRaise flagged r act) (rec flagged)) act
    Recorded s t ∧ Flagged t r.src r.unit 0 := by
  intro flagged t
  have first := setFlag_recorded s ⟨r.src, r.unit, 0⟩
  have second : Recorded _ flagged := setFlag_recorded (setFlag s ⟨r.src, r.unit, 0⟩) ⟨r.src, r.unit, act⟩
  have later : Recorded flagged t :=
    ((countRaise_recorded _ r (by omega)).trans (logWrite_recorded _ _)).trans (react_recorded _ h)
  exact ⟨(first.trans second).trans later, later.flags (second.flags (mem_setFlag _ _))⟩

/-- A class F0 raise of a source that concerns no output, taken while the collector is up and class F3 is not in force. -/
theorem raiseOne_recorded (s : State) (r : Raise) (up : s.collectorUp = true) (ht : s.bit Reg.FAULT.STATUS.TERMINAL 0 = false)
    (hc : r.cls = 0) (ho : faultOutput r.src r.unit = none) :
    Recorded s (raiseOne s r) ∧ Flagged (raiseOne s r) r.src r.unit 0 := by
  unfold raiseOne
  simp only [up, ht, ho, hc, Bool.not_true, Bool.false_eq_true, if_false]
  exact acted_recorded s r (fun u => recordOf u r _ _ false false) (by split <;> omega)

theorem settleRaises_of_quiet {s : State} (h : s.raiseQ = []) : settleRaises s = s := by
  unfold settleRaises drainRaises
  rw [h]

/-- A class F0 raise that the collector takes, of a source that concerns no output, sets its flag and is recorded. -/
theorem raiseFault_recorded {s : State} (h : Live s) {src unit : Nat} (ho : faultOutput src unit = none) :
    Recorded s (raiseFault s src unit 0) ∧ Flagged (raiseFault s src unit 0) src unit 0 := by
  have key := raiseOne_recorded s { src := src, unit := unit, cls := 0, detail := 0, count := s.now, forced := false }
    h.up h.open' rfl ho
  have quiet := (congrArg State.raiseQ key.1.rest).trans h.quiet
  rw [raiseFault, raiseWith, settleRaises_of_quiet quiet]
  exact key

/-! ### Refused requests (R13, R15, R461, R470) -/

/-- A request refused to a lane: FLT_SYS_PRIVWRITE in class F0, the lane as its unit. -/
def refused (s : State) (b : By) : State := raiseFault s Flt.SYS.PRIVWRITE b.lane.val 0

theorem faultOutput_sys (src unit : Nat) (h : src / 256 = 0 ∨ src / 256 = 1) : faultOutput src unit = none := by
  unfold faultOutput
  rcases h with h | h <;> simp [h]

theorem refused_recorded {s : State} (h : Live s) (b : By) :
    Recorded s (refused s b) ∧ Flagged (refused s b) Flt.SYS.PRIVWRITE b.lane.val 0 :=
  raiseFault_recorded h (faultOutput_sys _ _ (by decide))

theorem privOnly_unprivileged (s : State) {b : By} (act : State → State) (h : b.priv = false) :
    privOnly s b act = refused s b := by
  simp [privOnly, refused, h]

theorem gated_disabled {s : State} (b : By) (act : State → State) (h : s.bit Reg.FAULT.CTRL.FORCE_EN 0 = false) :
    gated s b act = refused s b := by
  simp [gated, refused, h]

/-- The requests of O21 that privileged code alone may make. -/
noncomputable def privilegedRequests (b : By) : List Instr :=
  [.logClear b, .logClrdump b, .faultAck b 0xF, .sleepArm b, .powerPulse b, .powerKeep b, .powerAbort b,
    .roundAbort b, .immoGo b, .updateBegin b, .updateVerify b, .updateAbort b, .updateRecover b, .stagingPush b, .hoArm b,
    .hoAbort b, .load b, .keyZeroise b, .canRecover b 0]

/-- The forces and injections of O21. -/
noncomputable def gatedForces (b : By) : List Instr :=
  [.faultForce b 0x0101 2 0, .updateForceStore b, .accessForceRelay b, .keysForceTrng b,
    .powerForceVlane b, .journalForceBank0 b, .lswForceOpen b 0, .hbrForceShort b 0, .valveForceOpen b 0, .lightForceOpen b 0,
    .ledgerForceSegtrip b 0, .injEcc1 b 0]

theorem exec_privilegedRequests (s : State) {b : By} (h : b.priv = false) :
    ∀ i ∈ privilegedRequests b, exec i s = .next (refused s b) := by
  have only (act : State → State) : Host.Outcome.next (φ := Fault) (ρ := Refusal) (privOnly s b act) = .next (refused s b) :=
    congrArg _ (privOnly_unprivileged s act h)
  simp only [privilegedRequests, List.forall_mem_cons, List.not_mem_nil, false_imp_iff, implies_true, and_true]
  refine ⟨?_, ?_, ?_, only _, only _, only _, only _, only _, only _, only _, only _, only _, only _, only _, only _, only _,
    only _, only _, only _⟩
  · show execLogClear b s = _
    simp [execLogClear, refused, h]
  · show execLogClrdump b s = _
    simp [execLogClrdump, refused, h]
  · show execFaultAck b 0xF s = _
    simp [execFaultAck, refused, h]

theorem exec_gatedForces {s : State} (b : By) (h : s.bit Reg.FAULT.CTRL.FORCE_EN 0 = false) :
    ∀ i ∈ gatedForces b, exec i s = .next (refused s b) := by
  have off (act : State → State) : Host.Outcome.next (φ := Fault) (ρ := Refusal) (gated s b act) = .next (refused s b) :=
    congrArg _ (gated_disabled b act h)
  simp only [gatedForces, List.forall_mem_cons, List.not_mem_nil, false_imp_iff, implies_true, and_true]
  exact ⟨off _, off _, off _, off _, off _, off _, off _, off _, off _, off _, off _, off _⟩

/-- Settles O21: each request answers `refused`, of which everything but flags, log and the collector's registers is the frame. -/
theorem unprivilegedRequestsAreRefused : Obligations.UnprivilegedRequestsAreRefused := by
  unfold Obligations.UnprivilegedRequestsAreRefused
  intro s b live
  obtain ⟨rec, flagged⟩ := refused_recorded live b
  refine ⟨fun priv i hi => ⟨_, exec_privilegedRequests s priv i hi, flagged, rec.flags, ?_⟩,
    fun off i hi => ⟨_, exec_gatedForces b off i hi, flagged, rec.flags, ?_⟩⟩
  · rw [rec.rest]; exact ⟨rfl, rfl, rfl, rfl, rfl, rfl⟩
  · rw [rec.rest]; exact ⟨rfl, rfl, rfl, rfl, rfl⟩

end Sys2Proof.Machine
end

section
namespace Sys2Proof.Machine

/-! ### What a write of a register does (R12, R15, R43, R98, R293) -/

theorem exec_registerWrite (s : State) (b : By) (off : BitVec 22) (v : Word32) :
    exec (.registerWrite b off v) s = .next (regWrite s b (off.toNat / 4 * 4) v) := rfl

theorem regWrite_row (s : State) (b : By) {o : Nat} (v : Word32) {r : RegRow} (hr : regRow o = some r) (hu : isUcode o = false) :
    regWrite s b o v = rowWrite s b r o v := by
  simp [regWrite, hr, hu]

theorem regWrite_none (s : State) (b : By) {o : Nat} (v : Word32) (hr : regRow o = none) (hu : isUcode o = false) :
    regWrite s b o v = s := by
  simp [regWrite, hr, hu]

/-- The two forms in which a write is not plains code's write of a staged word. -/
theorem notPlainStaged {b : By} {r : RegRow} (h : b.plain = true → isStaged r = false) : (b.plain && isStaged r) = false := by
  cases hp : b.plain with
  | false => rfl
  | true => exact h hp

/-- A staged word from plains code is refused (R98). -/
theorem rowWrite_plainStaged (s : State) {b : By} {r : RegRow} (o : Nat) (v : Word32) (hp : b.plain = true)
    (hs : isStaged r = true) : rowWrite s b r o v = raiseFault s Flt.TICK.PLAINSTAGE b.lane.val 0 := by
  simp [rowWrite, hp, hs]

/-- A register that the unprivileged view does not show, written in it with a bit set (R15). -/
theorem rowWrite_hidden (s : State) {b : By} {r : RegRow} (o : Nat) {v : Word32} (hn : (b.plain && isStaged r) = false)
    (hp : b.priv = false) (hr : r.shown = 0) (hv : v ≠ 0) : rowWrite s b r o v = refused s b := by
  have bad : aliasFault r (s.word o) v = true := by simpa [aliasFault, hr] using hv
  simp [rowWrite, refused, hn, hp, hr, bad]

/-- The low word of a pair goes to the holding register of the lane's bank (R293). -/
theorem rowWrite_pairLow (s : State) {b : By} {r : RegRow} {o : Nat} (v : Word32) (hn : (b.plain && isStaged r) = false)
    (hp : b.priv = true) (hf : isForce o = false) (hl : pairLow o = true) : rowWrite s b r o v = holdLow s b v := by
  simp [rowWrite, hn, hp, hf, hl]

/-- The high word of a pair commits both (R293). -/
theorem rowWrite_pairHigh (s : State) {b : By} {r : RegRow} {o : Nat} (v : Word32) (hn : (b.plain && isStaged r) = false)
    (hp : b.priv = true) (hf : isForce o = false) (hl : pairLow o = false) (h4 : 4 ≤ o) (hh : pairLow (o - 4) = true) :
    rowWrite s b r o v = commitPair s b o v := by
  simp [rowWrite, hn, hp, hf, hl, h4, hh]

/-! ### A load switch's CTRL (R43, R144) -/

/-- The row of LSW.CTRL in the register map. -/
def lswCtrlRow : RegRow := ⟨0x100000, 0x40, 96, 1, 1, true, 0x3FF7FFF3, 0, 0, 0, 0, 0, 0x400F0, 0⟩

section
variable {n : Nat} (hn : n < 96)
include hn

theorem regRow_lswCtrl : regRow (0x100000 + 0x40 * n) = some lswCtrlRow := by
  have block : regBlockRows (0x100000 + 0x40 * n) = regRowsLSW := by
    unfold regBlockRows
    rw [if_neg (by omega), if_neg (by omega), if_neg (by omega), if_neg (by omega), if_neg (by omega), if_neg (by omega),
      if_pos (by omega)]
  have holds : lswCtrlRow.holds (0x100000 + 0x40 * n) = true := by
    simp [RegRow.holds, lswCtrlRow]; omega
  rw [regRow, block]
  exact List.find?_cons_of_pos holds

theorem isUcode_lswCtrl : isUcode (0x100000 + 0x40 * n) = false := by
  simp [isUcode]; omega

theorem isForce_lswCtrl : isForce (0x100000 + 0x40 * n) = false := by
  simp [isForce]; omega

theorem pairLow_lswCtrl : pairLow (0x100000 + 0x40 * n) = false ∧ pairLow (0x100000 + 0x40 * n - 4) = false := by
  simp [pairLow, writablePairs, Reg.TIME.CMP_LO.V, Reg.POWER.WS_COL_LO.NUMBER, Reg.ACCESS.IMMO_CHAL_LO.VALUE,
    Reg.KEYS.CTX_LO.VALUE]
  omega

/-- CTRL is no field that takes less than is written, and no hardware address register. -/
theorem lswLimited_lswCtrl (s : State) (v : Word32) :
    lswLimited s (0x100000 + 0x40 * n) (v ^^^ macDefault (0x100000 + 0x40 * n)) = (v, false) := by
  have mac : macDefault (0x100000 + 0x40 * n) = 0#32 := by
    unfold macDefault
    rw [if_neg (by omega), if_neg (by omega), if_neg (by omega), if_neg (by omega)]
    rfl
  unfold lswLimited
  rw [mac, BitVec.xor_zero, if_neg (by omega), if_neg (by omega), if_neg (by omega), if_neg (by omega)]

theorem writeActs_lswCtrl (old s : State) (b : By) (v : Word32) : writeActs old s b (0x100000 + 0x40 * n) v = s := by
  unfold writeActs
  rw [if_neg (by omega), if_neg (by omega), if_neg (by omega), if_neg (by omega), if_pos (by omega), if_neg (by omega)]

/-- A scheduled block's write of CTRL is staged: the lane is noted, and the register takes the fields. -/
theorem regWrite_lswCtrl (s : State) {b : By} (v : Word32) (hp : b.plain = false) :
    regWrite s b (0x100000 + 0x40 * n) v =
      (noteStaged s b.lane.val (0x100000 + 0x40 * n)).setWord (0x100000 + 0x40 * n)
        (storedWord lswCtrlRow b.priv (s.word (0x100000 + 0x40 * n)) v) := by
  obtain ⟨low, high⟩ := pairLow_lswCtrl hn
  have allowed (old : Word32) : aliasFault lswCtrlRow old v = false := by simp [aliasFault, lswCtrlRow]
  have shown : (lswCtrlRow.shown != 1) = false := rfl
  have staged : isStaged lswCtrlRow = true := rfl
  rw [regWrite_row s b v (regRow_lswCtrl hn) (isUcode_lswCtrl hn)]
  simp only [rowWrite, hp, allowed, shown, staged, isForce_lswCtrl hn, low, high, lswLimited_lswCtrl hn, writeActs_lswCtrl hn,
    Bool.false_and, Bool.and_false, Bool.false_eq_true, and_false, if_false, if_true]
  rfl

end

/-- A one-bit field is a bit of its word. -/
theorem bit_eq_getLsbD (s : State) {F : Field} (n : Nat) (h : F.len = 1) : s.bit F n = (s.word (F.off n)).getLsbD F.lo := by
  have one : getBits (s.word (F.off n)) F.lo 1 = ((s.word (F.off n)).getLsbD F.lo).toNat := by
    rw [BitVec.getLsbD, Nat.toNat_testBit]; rfl
  rw [State.bit, State.fld, h, one]
  cases (s.word (F.off n)).getLsbD F.lo <;> rfl

theorem getLsbD_storedWord_en (priv : Bool) (old v : Word32) :
    (storedWord lswCtrlRow priv old v).getLsbD Reg.LSW.CTRL.EN.lo = v.getLsbD Reg.LSW.CTRL.EN.lo := by
  cases priv <;> simp [storedWord, lswCtrlRow, Reg.LSW.CTRL.EN]

/-- A scheduled block's write of CTRL stages it: fields, owner, and nothing that the die acts on. -/
theorem lswCtrl_staged (s : State) {b : By} (n : Fin 96) (v : Word32) (hp : b.plain = false) :
    let o := 0x100000 + 0x40 * n.val
    let t := regWrite s b o v
    t.bit Reg.LSW.CTRL.EN n.val = v.getLsbD Reg.LSW.CTRL.EN.lo ∧ t.eff = s.eff ∧ t.flags = s.flags ∧
      smapGet (fun _ => 0) t.seq.owner o = b.lane.val + 1 ∧ (∀ p, p ≠ o → t.word p = s.word p) := by
  intro o t
  have ht : t = _ := regWrite_lswCtrl n.isLt s v hp
  have place : Reg.LSW.CTRL.EN.off n.val = o := rfl
  rw [ht]
  refine ⟨?_, rfl, rfl, smapGet_set_same (fun _ => 0) s.seq.owner o (b.lane.val + 1), fun p hne => word_setWord_ne _ _ hne⟩
  rw [bit_eq_getLsbD _ _ rfl, place, word_setWord_same, getLsbD_storedWord_en]

/-- Plains code's write of CTRL is refused with FLT_TICK_PLAINSTAGE. -/
theorem lswCtrl_plain {s : State} {b : By} (n : Fin 96) (v : Word32) (hp : b.plain = true) (live : Live s) :
    let o := 0x100000 + 0x40 * n.val
    let t := regWrite s b o v
    Flagged t Flt.TICK.PLAINSTAGE b.lane.val 0 ∧ t.word o = s.word o ∧ t.eff = s.eff ∧ t.seq = s.seq := by
  intro o t
  have ht : t = raiseFault s Flt.TICK.PLAINSTAGE b.lane.val 0 :=
    (regWrite_row s b v (regRow_lswCtrl n.isLt) (isUcode_lswCtrl n.isLt)).trans (rowWrite_plainStaged s o v hp rfl)
  obtain ⟨rec, flagged⟩ := raiseFault_recorded live (faultOutput_sys Flt.TICK.PLAINSTAGE b.lane.val (by decide))
  rw [ht]
  exact ⟨flagged, rec.words o (by omega), by rw [rec.rest], by rw [rec.rest]⟩

/-- Settles O17: a staged word (`lswCtrl_staged`, `lswCtrl_plain`), a register that the view does not show (`rowWrite_hidden`), and an
offset without a register (`regWrite_none`). -/
theorem registerWritesAreStaged : Obligations.RegisterWritesAreStaged := by
  unfold Obligations.RegisterWritesAreStaged
  refine ⟨fun s b n v => ?_, fun s b off v r hr hu shown hp hs hv hb live => ?_, fun s b off v hr hu => ?_⟩
  · intro off
    have place : off.toNat = 0x100000 + 0x40 * n.val := by rw [BitVec.toNat_ofNat, Nat.mod_eq_of_lt (by omega)]
    have aligned : off.toNat / 4 * 4 = 0x100000 + 0x40 * n.val := by omega
    have run := exec_registerWrite s b off v
    rw [aligned] at run
    rw [place]
    exact ⟨fun hp => ⟨_, run, lswCtrl_staged s n v hp⟩, fun hp live => ⟨_, run, lswCtrl_plain n v hp live⟩⟩
  · have unstaged := notPlainStaged hs
    have run := exec_registerWrite s b off v
    rw [regWrite_row s b v hr hu, rowWrite_hidden s _ unstaged hp shown hv] at run
    obtain ⟨rec, flagged⟩ := refused_recorded live b
    exact ⟨_, run, flagged, rec.words _ (by omega)⟩
  · rw [exec_registerWrite, regWrite_none s b v hr hu]

end Sys2Proof.Machine
end

section
namespace Sys2Proof.Machine

/-! ### Pairs (R293) -/

theorem exec_pairHighWrite (s : State) (b : By) {off : BitVec 22} (v : Word32) (h4 : 4 ≤ off.toNat / 4 * 4)
    (hh : pairLow (off.toNat / 4 * 4 - 4) = true) :
    exec (.pairHighWrite b off v) s = .next (regWrite s b (off.toNat / 4 * 4) v) :=
  congrArg _ (if_pos ⟨h4, hh⟩)

theorem cmpWritten_word (s : State) (o p : Nat) : (cmpWritten s o).word p = s.word p := by
  unfold cmpWritten
  split <;> rfl

/-- A commit of a pair writes its two words and no other. -/
theorem commitPair_word (s : State) (b : By) (o : Nat) (v : Word32) (p : Nat) :
    (commitPair s b o v).word p =
      if p = o then v
      else if p = o - 4 then smapGet (fun _ => (0 : Word32)) s.timers.holding (bankKey b.lane.val b.plain)
      else s.word p := by
  rw [commitPair, cmpWritten_word]
  split
  · next high => rw [high, word_setWord_same]
  · next high =>
    rw [word_setWord_ne _ _ high]
    split
    · next low => rw [low, word_setWord_same]
    · next low => rw [word_setWord_ne _ _ low]

/-! ### Reads (R12, R292) -/

/-- The RC bits of every row of the map are bits of a word. -/
theorem regBlockRows_rc_lt (o : Nat) : ∀ r ∈ regBlockRows o, r.rc < 0x100000000 := by
  unfold regBlockRows
  repeat' refine iteInduction (motive := fun l : List RegRow => ∀ r ∈ l, r.rc < 0x100000000) (fun _ => ?_) (fun _ => ?_)
  all_goals decide

theorem rcBits_lt (o : Nat) : rcBits o < 0x100000000 := by
  unfold rcBits
  split
  · next r h => exact regBlockRows_rc_lt o r (List.mem_of_find?_eq_some h)
  · decide

theorem ofNat_and_sub (w : Word32) {m : Nat} (h : m < 0x100000000) :
    BitVec.ofNat 32 (w.toNat &&& (2 ^ 32 - 1 - m)) = w &&& ~~~(BitVec.ofNat 32 m) := by
  have out : w.toNat &&& (2 ^ 32 - 1 - m) < 2 ^ 32 := Nat.lt_of_le_of_lt Nat.and_le_left w.isLt
  apply BitVec.eq_of_toNat_eq
  rw [BitVec.toNat_ofNat, Nat.mod_eq_of_lt out, BitVec.toNat_and, BitVec.toNat_not, BitVec.toNat_ofNat, Nat.mod_eq_of_lt h]

/-- A privileged read clears the RC bits of its register. -/
theorem readClears_word_same (s : State) (o : Nat) :
    (readClears s true o).word o = s.word o &&& ~~~(BitVec.ofNat 32 (rcBits o)) := by
  unfold readClears
  split
  · rw [word_setWord_same, ofNat_and_sub _ (rcBits_lt o)]
  · next none =>
    have zero : rcBits o = 0 := by simpa using none
    rw [zero, show ~~~(BitVec.ofNat 32 0) = BitVec.allOnes 32 from rfl, BitVec.and_allOnes]

theorem readClears_word_ne (s : State) (priv : Bool) {o p : Nat} (h : p ≠ o) : (readClears s priv o).word p = s.word p := by
  unfold readClears
  split
  · exact word_setWord_ne s _ h
  · rfl

theorem readClears_timers (s : State) (priv : Bool) (o : Nat) : (readClears s priv o).timers = s.timers := by
  unfold readClears
  split <;> rfl

theorem exec_readClear_single (s : State) (b : By) {off : BitVec 22} (h : groupOf (off.toNat / 4 * 4) = none) :
    exec (.readClear b off) s = .next (readClears s b.priv (off.toNat / 4 * 4)) := by
  show Host.Outcome.next (laneRead s b (off.toNat / 4 * 4)).2 = _
  simp only [laneRead, h]

/-- What a lane's latch holds behind a read of a group's first word. -/
def groupLatch (s : State) (b : By) (g n : Nat) : Latch :=
  { group := some g, words := (upTo n).map fun i => (g + 4 * i, regView s b.priv (g + 4 * i)) }

theorem exec_groupFirstRead (s : State) (b : By) {off : BitVec 22} {n : Nat}
    (h : groupOf (off.toNat / 4 * 4) = some (off.toNat / 4 * 4, n)) :
    exec (.groupFirstRead b off) s = .next ((readClears s b.priv (off.toNat / 4 * 4)).setLatch (bankKey b.lane.val b.plain)
      (groupLatch s b (off.toNat / 4 * 4) n)) := by
  show execGroupFirstRead b off s = _
  simp only [execGroupFirstRead, laneRead, h, if_true, groupLatch]

theorem latch_setLatch_same (s : State) (k : Nat) (l : Latch) : (s.setLatch k l).latch k = l :=
  smapGet_set_same (fun _ => Latch.init) s.timers.latches k l

/-- Settles O18: the holding register (`rowWrite_pairLow`), the commit of both words (`commitPair_word`), the read that clears
(`readClears_word_same`) and the latch of a group (`exec_groupFirstRead`). -/
theorem pairsAndReadsClear : Obligations.PairsAndReadsClear := by
  unfold Obligations.PairsAndReadsClear
  refine ⟨fun s b off v r hp hr hu hf hs => ⟨fun low => ?_, fun low h4 high => ?_⟩, fun s b off hp hg => ?_,
    fun s b off n hg => ?_⟩
  · have unstaged := notPlainStaged hs
    have run := exec_registerWrite s b off v
    rw [regWrite_row s b v hr hu, rowWrite_pairLow s v unstaged hp hf low] at run
    exact ⟨_, run, rfl, smapGet_set_same (fun _ => (0 : Word32)) s.timers.holding (bankKey b.lane.val b.plain) v⟩
  · have unstaged := notPlainStaged hs
    have run := exec_pairHighWrite s b v h4 high
    rw [regWrite_row s b v hr hu, rowWrite_pairHigh s v unstaged hp hf low h4 high] at run
    refine ⟨_, run, ?_, ?_, fun o h1 h2 => ?_⟩
    · rw [commitPair_word, if_pos rfl]
    · rw [commitPair_word, if_neg (by omega), if_pos rfl]
    · rw [commitPair_word, if_neg h1, if_neg h2]
  · have run := exec_readClear_single s b hg
    rw [hp] at run
    exact ⟨_, run, readClears_word_same s _, fun o ho => readClears_word_ne s true ho, readClears_timers s true _⟩
  · refine ⟨_, exec_groupFirstRead s b hg, ?_⟩
    beta_reduce
    rw [latch_setLatch_same]
    exact ⟨rfl, fun i hi => List.mem_map_of_mem (List.mem_range.2 hi)⟩

end Sys2Proof.Machine
end

section
namespace Sys2Proof.Machine

/-! ### What a reset of D-LOGIC passes by (R37, R466) -/

/-- The parts of a state that no hold-over, brake or deferred raise touches: whether the collector is up, the plan, the domains,
the update engine, the log and the level of RSTN. -/
def State.steady (s : State) : Bool × Plan × Domains × Update × List LogRec × Bool :=
  (s.collectorUp, s.plan, s.dom, s.update, s.log, s.rstnLow)

section
variable (s : State) (F : Field) (n v m : Nat)

@[simp] theorem setFld_steady : (s.setFld F n v).steady = s.steady := by simp [State.steady]
@[simp] theorem setBit_steady (b : Bool) : (s.setBit F n b).steady = s.steady := by simp [State.steady]
@[simp] theorem setPair_steady (G : Field) : (s.setPair F G n v).steady = s.steady := by simp [State.setPair]
@[simp] theorem ask_steady (f : Bool) : (s.ask n v m f).steady = s.steady := by simp [State.ask, State.steady]
@[simp] theorem setAccess_steady (a : Access) : State.steady { s with access := a } = s.steady := by simp [State.steady]
@[simp] theorem setLsw_steady (c : LswCh) : (s.setLsw n c).steady = s.steady := by simp [State.steady]
@[simp] theorem setHb_steady (c : HbCh) : (s.setHb n c).steady = s.steady := by simp [State.steady]
@[simp] theorem setSink_steady (c : Sink) : (s.setSink n c).steady = s.steady := by simp [State.steady]
@[simp] theorem setLedger1_steady (c : LedgerCh) : (s.setLedger1 n c).steady = s.steady := by simp [State.steady]

end

theorem foldl_steady {α : Type} {f : State → α → State} (h : ∀ s a, (f s a).steady = s.steady) (l : List α) (s : State) :
    (l.foldl f s).steady = s.steady := by
  induction l generalizing s with
  | nil => rfl
  | cons a l ih => exact (ih _).trans (h s a)

theorem each_steady {f : State → Nat → State} (h : ∀ s n, (f s n).steady = s.steady) (s : State) (l : List Nat) :
    (s.each f l).steady = s.steady := foldl_steady h l s

theorem setFlds_steady (s : State) (l : List (Field × Nat × Nat)) : (s.setFlds l).steady = s.steady := by
  induction l generalizing s with
  | nil => rfl
  | cons p l ih => exact (ih _).trans (setFld_steady ..)

/-! Hold-over, brakes and the end of an access round -/

theorem lswHold_steady (s : State) (n at' : Nat) : (lswHold s n at').steady = s.steady := by simp [lswHold]

theorem sinkHold_steady (s : State) (n at' : Nat) : (sinkHold s n at').steady = s.steady := by simp [sinkHold]

theorem matrixHold_steady (s : State) (at' : Nat) : (matrixHold s at').steady = s.steady := by simp [matrixHold, State.steady]

theorem inrushEdge_steady (s : State) (c : Nat) : (inrushEdge s c).steady = s.steady := by
  unfold inrushEdge
  dsimp only
  split
  · rw [setLedger1_steady]
  · rfl

theorem hbSet_steady (s : State) (m : Nat) (F : Field) (b : Bool) : (hbSet s m F b).steady = s.steady :=
  each_steady (fun t h => setBit_steady t F h b) s _

theorem hbApply_steady (s : State) (m : Nat) : (hbApply s m).steady = s.steady := by
  unfold hbApply
  extract_lets p mode was a b c d e f
  have ha : a.steady = s.steady := each_steady (fun t h => by simp) s _
  have hb : b.steady = a.steady := by
    simp only [b]
    split
    · exact foldl_steady (fun t h => inrushEdge_steady t _) _ a
    · rfl
  have hf : f.steady = b.steady := by
    simp only [f]
    split
    · rfl
    · rw [setBit_steady]
  rw [setHb_steady, hf, hb, ha]

theorem hbResetBrake_steady (s : State) (n : Nat) : (hbResetBrake s n).steady = s.steady := by
  unfold hbResetBrake
  dsimp only
  split
  · rw [hbApply_steady, setHb_steady, hbSet_steady, hbSet_steady]
  · rfl

theorem vdResetBegin_steady (s : State) (n : Nat) : (vdResetBegin s n).steady = s.steady := by
  unfold vdResetBegin
  split
  · rw [vdSetD, setPair_steady]
  · rfl

/-- A choice between what is steady and nothing. -/
theorem ite_steady {c : Prop} [Decidable c] {s a b : State} (ha : a.steady = s.steady) (hb : b.steady = s.steady) :
    (if c then a else b).steady = s.steady := by
  split
  · exact ha
  · exact hb

theorem holdDies_steady (s : State) (die : Nat → Bool) (at' : Nat) : (holdDies s die at').steady = s.steady := by
  unfold holdDies
  extract_lets a b c d
  have ha : a.steady = s.steady := each_steady (fun t n => ite_steady rfl (lswHold_steady t n at')) s _
  have hb : b.steady = a.steady := each_steady (fun t n => ite_steady rfl (sinkHold_steady t n at')) a _
  have hc : c.steady = b.steady := ite_steady (matrixHold_steady b at') rfl
  have hd : d.steady = c.steady := each_steady hbResetBrake_steady c _
  exact ite_steady rfl ((each_steady vdResetBegin_steady d _).trans (hd.trans (hc.trans (hb.trans ha))))

theorem roundStop_steady (s : State) : (roundStop s).steady = s.steady := by
  unfold roundStop
  split
  · rfl
  · simp only [ask_steady, setFlds_steady, setAccess_steady]

/-! Raises while the collector is down -/

theorem deferRaise_steady (s : State) (r : Raise) : (deferRaise s r).steady = s.steady := by
  unfold deferRaise
  split
  · rfl
  · exact ite_steady rfl rfl

theorem drainRaises_steady (k : Nat) (s : State) (down : s.collectorUp = false) : (drainRaises k s).steady = s.steady := by
  induction k generalizing s with
  | zero => rfl
  | succ k ih =>
    unfold drainRaises
    split
    · rfl
    · next r q _ =>
      have one : (raiseOne { s with raiseQ := q } r).steady = s.steady := by
        unfold raiseOne
        rw [if_pos (by simp [down])]
        exact deferRaise_steady _ r
      exact (ih _ ((congrArg Prod.fst one).trans down)).trans one

theorem settleRaises_steady (s : State) (down : s.collectorUp = false) : (settleRaises s).steady = s.steady :=
  drainRaises_steady 256 s down

/-! ### The registers behind a reset (R10, R37) -/

theorem keptWord_zero (o : Nat) (w : Word32) : keptWord o 0 w = regReset o := by
  have none : w &&& BitVec.ofNat 32 0 = 0#32 := BitVec.and_zero
  have all : ~~~(BitVec.ofNat 32 0) = BitVec.allOnes 32 := rfl
  rw [keptWord, none, all, BitVec.and_allOnes, BitVec.zero_or]

/-- A word of which a reset keeps no bit has its reset value behind it. -/
theorem resetRegs_get (mask : Nat → Nat) (m : List (Nat × Word32)) {o : Nat} (h : mask o = 0) :
    smapGet regReset (resetRegs mask m) o = regReset o := by
  have fold (acc : List (Nat × Word32)) (hacc : smapGet regReset acc o = regReset o) :
      smapGet regReset (m.foldl (fun r p => smapSet regReset r p.1 (keptWord p.1 (mask p.1) p.2)) acc) o = regReset o := by
    induction m generalizing acc with
    | nil => exact hacc
    | cons p m ih =>
      refine ih _ ?_
      rw [smapGet_set]
      split
      · next e => rw [← e, h, keptWord_zero]
      · exact hacc
  exact fold [] rfl

/-- Showing a port's link writes ETSTAT of the port and NET.STATUS. -/
theorem linkBits_word (s : State) (e : Nat) (up : Bool) {o : Nat} (h1 : o ≠ Reg.NET.ETSTAT.LINK.off e)
    (h2 : o ≠ Reg.NET.STATUS.ETA_LINK.off 0) : (linkBits s e up).word o = s.word o := by
  have status : o ≠ (if e = 0 then Reg.NET.STATUS.ETA_LINK else Reg.NET.STATUS.ETB_LINK).off 0 := by
    split
    · exact h2
    · exact h2
  exact (word_setWord_ne _ _ status).trans (word_setWord_ne _ _ h1)

/-- Behind a reset of D-LOGIC a word of which no bit is kept has its reset value, but for those that show the Ethernet links. -/
theorem logicReset_word (s : State) {o : Nat} (h : keepMask o = 0)
    (ho : o ∉ [Reg.NET.ETSTAT.LINK.off 0, Reg.NET.ETSTAT.LINK.off 1, Reg.NET.STATUS.ETA_LINK.off 0]) :
    (logicReset s).word o = regReset o := by
  simp only [List.mem_cons, List.not_mem_nil, or_false, not_or] at ho
  obtain ⟨h0, h1, hs⟩ := ho
  exact (linkBits_word _ 1 _ h1 hs).trans ((linkBits_word _ 0 _ h0 hs).trans (resetRegs_get keepMask s.regs h))

theorem logicReset_stopped (s : State) : (logicReset s).lanes = [] ∧ (logicReset s).laneEv = [] ∧ (logicReset s).flags = [] ∧
    (logicReset s).collectorUp = false ∧ (logicReset s).seq = Seq.init := by
  simp [logicReset, linkBits]

theorem logicReset_kept (s : State) : (logicReset s).plan = s.plan ∧ (logicReset s).dom = s.dom ∧
    (logicReset s).update.slots = s.update.slots ∧ (logicReset s).log = s.log ∧ (logicReset s).rstnLow = s.rstnLow := by
  simp [logicReset, linkBits]

/-- The state whose D-LOGIC a controller reset resets: hold-over has begun and the access round has ended, with the collector
down. -/
def beforeReset (s : State) : State :=
  settleRaises (roundStop (settleRaises { holdDies s (fun _ => true) s.now with collectorUp := false }))

theorem controllerReset_eq {s : State} (on : s.dom.logic = true) :
    controllerReset s = { logicReset (beforeReset s) with boot := 2 } := by
  unfold controllerReset
  rw [if_neg (by simp [on])]
  rfl

theorem beforeReset_steady (s : State) : (beforeReset s).steady = (false, s.steady.2) := by
  have downed : State.steady { holdDies s (fun _ => true) s.now with collectorUp := false } = (false, s.steady.2) := by
    rw [← holdDies_steady s (fun _ => true) s.now]
    simp only [State.steady]
  have settled := (settleRaises_steady _ (congrArg Prod.fst downed)).trans downed
  have stopped := (roundStop_steady _).trans settled
  exact (settleRaises_steady _ (congrArg Prod.fst stopped)).trans stopped

theorem controllerReset_stopped {s : State} (on : s.dom.logic = true) : let t := controllerReset s
    t.boot = 2 ∧ t.lanes = [] ∧ t.laneEv = [] ∧ t.flags = [] ∧ t.collectorUp = false ∧ t.seq = Seq.init := by
  rw [controllerReset_eq on]
  generalize beforeReset s = u
  exact ⟨rfl, logicReset_stopped u⟩

theorem word_boot (s : State) (k o : Nat) : State.word { s with boot := k } o = s.word o := rfl

theorem controllerReset_word {s : State} (on : s.dom.logic = true) {o : Nat} (h : keepMask o = 0)
    (ho : o ∉ [Reg.NET.ETSTAT.LINK.off 0, Reg.NET.ETSTAT.LINK.off 1, Reg.NET.STATUS.ETA_LINK.off 0]) :
    (controllerReset s).word o = regReset o := by
  rw [controllerReset_eq on, word_boot, logicReset_word _ h ho]

/-- A controller reset touches no memory, no plan, no power domain, no image slot and no log record. -/
theorem controllerReset_kept {s : State} (on : s.dom.logic = true) : let t := controllerReset s
    t.imem = s.imem ∧ t.dmem = s.dmem ∧ t.shared = s.shared ∧ t.plan = s.plan ∧ t.dom = s.dom ∧
      t.update.slots = s.update.slots ∧ t.log = s.log ∧ t.rstnLow = s.rstnLow := by
  have mem := controllerReset_held s
  have steady := beforeReset_steady s
  have kept := logicReset_kept (beforeReset s)
  simp only [State.held, State.steady, Prod.mk.injEq] at mem steady
  obtain ⟨-, imem, dmem, shared, -⟩ := mem
  obtain ⟨-, plan, dom, update, log, rstn⟩ := steady
  rw [plan, dom, update, log, rstn] at kept
  refine ⟨imem, dmem, shared, ?_⟩
  rw [controllerReset_eq on]
  exact kept

/-! ### The test access port (R477) -/

theorem tapNext_lt (q : Nat) (tms : Bool) (h : q < 16) : tapNext q tms < 16 := by
  have all : ∀ q : Fin 16, ∀ tms, tapNext q tms < 16 := by decide
  exact all ⟨q, h⟩ tms

/-- Five edges with TMS high reach Test-Logic-Reset from every state. -/
theorem tapNext_five (q : Nat) (h : q < 16) :
    tapNext (tapNext (tapNext (tapNext (tapNext q true) true) true) true) true = 0 := by
  have all : ∀ q : Fin 16, tapNext (tapNext (tapNext (tapNext (tapNext q true) true) true) true) true = 0 := by decide
  exact all ⟨q, h⟩

/-- Settles O49: a reset (`controllerReset_stopped`, `controllerReset_word`, `controllerReset_kept`), which RSTN low begins too,
and the controller of the test port over its 16 states. -/
theorem resetsAndTestPort : Obligations.ResetsAndTestPort := by
  unfold Obligations.ResetsAndTestPort
  refine ⟨fun s on i hi => ?_,
    fun s => ⟨fun _ => rfl, fun _ => rfl, fun h => ⟨tapNext_five s.tap h, fun tms => tapNext_lt s.tap tms h⟩⟩⟩
  obtain ⟨boot, lanes, ev, flags, down, seq⟩ := controllerReset_stopped on
  obtain ⟨imem, dmem, shared, plan, dom, slots, log, rstn⟩ := controllerReset_kept on
  have words := fun o => controllerReset_word on (o := o)
  simp only [List.mem_cons, List.not_mem_nil, or_false] at hi
  obtain rfl | rfl := hi
  · exact ⟨_, rfl, boot, lanes, ev, flags, down, seq, words, imem, dmem, shared, plan, dom, slots, log, by simp [rstn]⟩
  · exact ⟨_, rfl, boot, lanes, ev, flags, down, seq, words, imem, dmem, shared, plan, dom, slots, log, by simp⟩

end Sys2Proof.Machine
end

section
/-!
# Proofs of the family 01_architecture

The byte memories under every step; what the stage cutoff freezes and what die link frames raise; and three frames that fail.
-/
namespace Sys2Proof.Machine

/-! ### Byte memories under every step (R32, R53, R88) -/

theorem idle_keeps (s : State) : Keeps s (idle s) :=
  ite_keeps (fun _ => (keeps_of_held (State.later_held s 1)).trans (settleCount_keeps _ _)) fun _ => Keeps.rfl s

/-- A step from a state whose memories have their canonical form ends in such a state: an idle count by `idle_keeps`, a command
by `exec_keeps`. -/
theorem step_memOk {s t : State} (ok : s.memOk = true) (h : step s = .next t) : t.memOk = true := by
  unfold step at h
  split at h
  · cases h
    exact (idle_keeps s).mem ok
  · next i rest _ =>
    obtain ⟨u, hu, keeps⟩ := exec_keeps i { s with pending := rest }
    cases hu.symm.trans h
    exact keeps.mem ok

/-- Settles O55, by the two forms of a step (`step_memOk`). -/
theorem stepsKeepMemories : Obligations.StepsKeepMemories := by
  unfold Obligations.StepsKeepMemories
  exact fun s t ok h => step_memOk ok h

/-- Settles O56: what `exec_held` says of the queue and the memories together, memory by memory. -/
theorem otherCommandsLeaveMemories : Obligations.OtherCommandsLeaveMemories := by
  unfold Obligations.OtherCommandsLeaveMemories
  intro c s t other h
  obtain ⟨u, hu, held⟩ := exec_held c s other
  cases hu.symm.trans h
  simp only [State.held, Prod.mk.injEq] at held
  exact held.2

end Sys2Proof.Machine
end

section
namespace Sys2Proof.Machine

/-! ### What no output and no raise touches (R459 to R463) -/

/-- The sequencer, the plan, what is frozen and what is acted on, the power domains, keys, journal, updates and timers. -/
abbrev Stores := Seq × Plan × List (Nat × Word32) × List (Nat × Word32) × Domains × Keys × Journal × Update × Timers

/-- The stores that no output and no raise touches. -/
def State.stores (s : State) : Stores :=
  (s.seq, s.plan, s.frz, s.eff, s.dom, s.keys, s.journal, s.update, s.timers)

/-- What bringing outputs to what they should do, and reacting to a fault, leave: the stores and the collector's flags. -/
def State.stands (s : State) : Stores × List FaultFlag := (s.stores, s.flags)

/-! The proofs are `(rfl)`, not `rfl`: `simp` then rewrites with them step by step, and the kernel need not unfold a long chain of
updates at once. -/

section
variable (s : State) (F : Field) (n v : Nat)

@[simp] theorem setFld_stands : (s.setFld F n v).stands = s.stands := (rfl)
@[simp] theorem setBit_stands (b : Bool) : (s.setBit F n b).stands = s.stands := (rfl)
@[simp] theorem incFld_stands : (s.incFld F n).stands = s.stands := (rfl)
@[simp] theorem enter_stands : (s.enter n).stands = s.stands := (rfl)
@[simp] theorem ask_stands (u c : Nat) (f : Bool) : (s.ask n u c f).stands = s.stands := (rfl)
@[simp] theorem setLane_stands (c : Lane) : (s.setLane n c).stands = s.stands := (rfl)
@[simp] theorem setLsw_stands (c : LswCh) : (s.setLsw n c).stands = s.stands := (rfl)
@[simp] theorem setHb_stands (c : HbCh) : (s.setHb n c).stands = s.stands := (rfl)
@[simp] theorem setVd_stands (c : VdCh) : (s.setVd n c).stands = s.stands := (rfl)
@[simp] theorem setBank_stands (c : VBank) : (s.setBank n c).stands = s.stands := (rfl)
@[simp] theorem setSink_stands (c : Sink) : (s.setSink n c).stands = s.stands := (rfl)
@[simp] theorem setStage_stands (c : Stage) : (s.setStage n c).stands = s.stands := (rfl)
@[simp] theorem setLedger1_stands (c : LedgerCh) : (s.setLedger1 n c).stands = s.stands := (rfl)

@[simp] theorem setFlds_stands (l : List (Field × Nat × Nat)) : (s.setFlds l).stands = s.stands := by
  induction l generalizing s with
  | nil => rfl
  | cons p l ih => exact ih _

end

@[simp] theorem ite_stands {c : Prop} [Decidable c] (a b : State) :
    (if c then a else b).stands = if c then a.stands else b.stands := apply_ite ..

/-- What each step of a fold leaves, the fold leaves. -/
theorem foldl_view {α β : Type} (g : State → β) {f : State → α → State} (h : ∀ s a, g (f s a) = g s) (l : List α) (s : State) :
    g (l.foldl f s) = g s :=
  List.foldlRecOn (motive := fun t => g t = g s) l f rfl fun t ht a _ => (h t a).trans ht

theorem each_view {β : Type} (g : State → β) {f : State → Nat → State} (h : ∀ s n, g (f s n) = g s) (s : State) (l : List Nat) :
    g (s.each f l) = g s := foldl_view g h l s

@[simp] theorem each_stands {f : State → Nat → State} (h : ∀ s n, (f s n).stands = s.stands) (s : State) (l : List Nat) :
    (s.each f l).stands = s.stands := each_view State.stands h s l

/-! Load switches and bridges -/

@[simp] theorem inrushEdge_stands (s : State) (c : Nat) : (inrushEdge s c).stands = s.stands := by simp [inrushEdge]

@[simp] theorem clampTrip_stands (s : State) (n : Nat) (f : Bool) : (clampTrip s n f).stands = s.stands := by simp [clampTrip]

@[simp] theorem lswApply_stands (s : State) (n : Nat) : (lswApply s n).stands = s.stands := by simp [lswApply]

@[simp] theorem lswSafe_stands (s : State) (n : Nat) : (lswSafe s n).stands = s.stands := by simp [lswSafe]

@[simp] theorem hbApply_stands (s : State) (m : Nat) : (hbApply s m).stands = s.stands := by
  have edges (t : State) : ((hbHalves t m).foldl (fun s h => inrushEdge s (96 + h)) t).stands = t.stands :=
    foldl_view State.stands (fun t h => inrushEdge_stands t _) _ t
  simp [hbApply, edges]

@[simp] theorem hbSafe_stands (s : State) (n : Nat) : (hbSafe s n).stands = s.stands := by simp [hbSafe]

/-! Valve channels and their token -/

@[simp] theorem bankSource_stands (s : State) (b : Nat) : (bankSource s b).stands = s.stands := by simp [bankSource]

@[simp] theorem bankSwitch_stands (s : State) (b : Nat) : (bankSwitch s b).stands = s.stands := by simp [bankSwitch]

@[simp] theorem recordWait_stands (s : State) (n w : Nat) : (recordWait s n w).stands = s.stands := by simp [recordWait]

@[simp] theorem bankWaiters_stands (s : State) (b : Nat) : (bankWaiters s b).stands = s.stands := by simp [bankWaiters]

@[simp] theorem tokenGrant_stands (s : State) (n x : Nat) : (tokenGrant s n x).stands = s.stands := by simp [tokenGrant]

@[simp] theorem tokenNext_stands (s : State) (b x : Nat) : (tokenNext s b x).stands = s.stands := by
  unfold tokenNext
  split
  · simp
  · simp

@[simp] theorem tokenLeave_stands (s : State) (n x : Nat) : (tokenLeave s n x).stands = s.stands := by simp [tokenLeave]

@[simp] theorem vdShow_stands (s : State) (n : Nat) (b : Bool) : (vdShow s n b).stands = s.stands := by simp [vdShow]

@[simp] theorem vdToRelease_stands (s : State) (n x : Nat) (f : Bool) : (vdToRelease s n x f).stands = s.stands := by
  simp [vdToRelease]

@[simp] theorem vdStop_stands (s : State) (n x : Nat) : (vdStop s n x).stands = s.stands := by simp [vdStop]

@[simp] theorem vdSafe_stands (s : State) (n : Nat) : (vdSafe s n).stands = s.stands := by simp [vdSafe]

/-! Sinks, stages and the matrix -/

@[simp] theorem sinkApply_stands (s : State) (n : Nat) : (sinkApply s n).stands = s.stands := by simp [sinkApply]

@[simp] theorem sinkSafe_stands (s : State) (n : Nat) : (sinkSafe s n).stands = s.stands := by simp [sinkSafe]

@[simp] theorem stageApply_stands (s : State) (g : Nat) : (stageApply s g).stands = s.stands := by simp [stageApply]

@[simp] theorem matrixApply_stands (s : State) : (matrixApply s).stands = s.stands := by simp [matrixApply, matrixDark]

@[simp] theorem matrixSafe_stands (s : State) : (matrixSafe s).stands = s.stands := by simp [matrixSafe]

/-! Every output at once -/

@[simp] theorem applyAll_stands (s : State) : (applyAll s).stands = s.stands := by simp [applyAll]

@[simp] theorem safeAll_stands (s : State) : (safeAll s).stands = s.stands := by simp [safeAll]

@[simp] theorem outputsOff_stands (s : State) : (outputsOff s).stands = s.stands := by simp [outputsOff, pksBleed]

/-! Reactions -/

@[simp] theorem roundStop_stands (s : State) : (roundStop s).stands = s.stands := by
  unfold roundStop
  split
  · rfl
  · simp only [ask_stands, setFlds_stands]
    rfl

@[simp] theorem sleepCancel_stands (s : State) : (sleepCancel s).stands = s.stands := by simp [sleepCancel, sleepDisarm]

@[simp] theorem dropQueued_stands (s : State) : (dropQueued s).stands = s.stands := (rfl)

@[simp] theorem dropInFlight_stands (s : State) (l : List Nat) : (dropInFlight s l).stands = s.stands := (rfl)

@[simp] theorem laneHalt_stands (s : State) (n : Nat) : (laneHalt s n).stands = s.stands := (rfl)

@[simp] theorem safeZone_stands (s : State) : (safeZone s).stands = s.stands := by
  have marked : (State.setBit { s with zoneExit := 0 } Reg.FAULT.STATUS.ZONE_SAFE 0 true).stands = s.stands := rfl
  simp only [safeZone, roundStop_stands, safeAll_stands, marked]

@[simp] theorem terminal_stands (s : State) : (terminal s).stands = s.stands := by
  have off (t : State) : (outputsOff { t with hwSafe := true, terminalLatch := true }).stands = t.stands := outputsOff_stands _
  have dump (t : State) (d : Option (List LogRec)) : State.stands { t with dumpNext := d } = t.stands := rfl
  simp [terminal, off, dump]

@[simp] theorem react_stands (s : State) (cls : Nat) : (react s cls).stands = s.stands := by
  unfold react
  split
  · rfl
  · rfl
  · exact safeZone_stands s
  · exact terminal_stands s

/-! Raises: all of that stands but the flags, of which none is lost -/

@[simp] theorem holdUnit_stands (s : State) (u : HeldUnit) : (holdUnit s u).stands = s.stands := by
  cases u <;> simp [holdUnit]

@[simp] theorem takeHold_stands (s : State) (src unit : Nat) (u : HeldUnit) : (takeHold s src unit u).1.stands = s.stands := by
  unfold takeHold
  split
  · rfl
  · simp [showHeld]

@[simp] theorem logWrite_stands (s : State) (r : LogRec) : (logWrite s r).stands = s.stands := by
  have logged (l : List LogRec) : State.stands { s with log := l } = s.stands := rfl
  simp [logWrite, logged]

@[simp] theorem countRaise_stands (s : State) (r : Raise) (act : Nat) : (countRaise s r act).stands = s.stands := by
  simp [countRaise]

@[simp] theorem deferRaise_stands (s : State) (r : Raise) : (deferRaise s r).stands = s.stands := by
  unfold deferRaise
  split
  · rfl
  · split
    · rfl
    · rfl

/-- From `s` to `t` raises may have been taken: the stores stand, and every flag that was pending is pending still. -/
structure Raised (s t : State) : Prop where
  stores : t.stores = s.stores
  flags : s.flags ⊆ t.flags

theorem Raised.of_stands {s t : State} (h : t.stands = s.stands) : Raised s t := by
  obtain ⟨stores, flags⟩ := Prod.mk.injEq .. ▸ h
  exact ⟨stores, fun f hf => flags ▸ hf⟩

theorem Raised.trans {s t u : State} (h : Raised s t) (g : Raised t u) : Raised s u :=
  ⟨g.stores.trans h.stores, fun _ hf => g.flags (h.flags hf)⟩

theorem setFlag_raised (s : State) (f : FaultFlag) : Raised s (setFlag s f) := by
  have recorded := setFlag_recorded s f
  have rest := congrArg State.stores recorded.rest
  exact ⟨rest, recorded.flags⟩

/-- The class at which a raise is acted on: with its flag pending, one above its own (R462). -/
def actsAt (s : State) (r : Raise) : Nat :=
  if decide ((⟨r.src, r.unit, r.cls⟩ : FaultFlag) ∈ s.flags) && decide (r.cls < 3) then r.cls + 1 else r.cls

/-- A raise that is acted on sets its flag, and that of the class at which it acts; all else it does leaves what stands. -/
theorem raiseOne_acts {s : State} (r : Raise) (up : s.collectorUp = true) (ht : s.bit Reg.FAULT.STATUS.TERMINAL 0 = false) :
    (raiseOne s r).stands =
      (setFlag (setFlag s ⟨r.src, r.unit, r.cls⟩) ⟨r.src, r.unit, actsAt s r⟩).stands := by
  unfold raiseOne
  simp only [up, ht, Bool.not_true, Bool.false_eq_true, if_false, react_stands, logWrite_stands, countRaise_stands, actsAt]
  split
  · split
    · exact takeHold_stands ..
    · rfl
  · rfl

theorem raiseOne_raised (s : State) (r : Raise) : Raised s (raiseOne s r) := by
  by_cases up : s.collectorUp = true
  · by_cases ht : s.bit Reg.FAULT.STATUS.TERMINAL 0 = true
    · exact .of_stands (by simp [raiseOne, up, ht])
    · have acts := raiseOne_acts r up (Bool.eq_false_iff.2 ht)
      exact ((setFlag_raised _ _).trans (setFlag_raised _ _)).trans (.of_stands acts)
  · exact .of_stands (by simp [raiseOne, up])

theorem raiseOne_flagged {s : State} (r : Raise) (up : s.collectorUp = true) (ht : s.bit Reg.FAULT.STATUS.TERMINAL 0 = false) :
    Flagged (raiseOne s r) r.src r.unit r.cls :=
  (Raised.of_stands (raiseOne_acts r up ht)).flags ((setFlag_raised _ _).flags (mem_setFlag _ _))

theorem drainRaises_raised (k : Nat) (s : State) : Raised s (drainRaises k s) := by
  induction k generalizing s with
  | zero => exact .of_stands rfl
  | succ k ih =>
    unfold drainRaises
    split
    · exact .of_stands rfl
    · next r q _ =>
      have taken : State.stands { s with raiseQ := q } = s.stands := rfl
      exact ((Raised.of_stands taken).trans (raiseOne_raised _ r)).trans (ih _)

theorem settleRaises_raised (s : State) : Raised s (settleRaises s) := drainRaises_raised 256 s

theorem raiseFault_raised (s : State) (src unit cls : Nat) : Raised s (raiseFault s src unit cls) :=
  (raiseOne_raised s _).trans (settleRaises_raised _)

/-- A raise that the collector takes sets its flag, whatever its class and its reaction. -/
theorem raiseFault_flagged {s : State} (h : Live s) (src unit cls : Nat) : Flagged (raiseFault s src unit cls) src unit cls :=
  (settleRaises_raised _).flags (raiseOne_flagged _ h.up h.open')

end Sys2Proof.Machine
end

section
namespace Sys2Proof.Machine

/-! ### The stage cutoff (R43) -/

theorem settleCount_of_nothing_in_flight {s : State} (h : s.laneEv = []) (c : Nat) : settleCount s c = s := by
  have idle (k x : Nat) : settleFuel k x s = s := by
    unfold settleFuel
    split
    · rfl
    · rw [h]
  unfold settleCount
  exact ite_eq_left_iff.2 fun _ => idle _ _

theorem smapGet_of_not_mem {α : Type} (dflt : Nat → α) {m : List (Nat × α)} {k : Nat} (h : k ∉ m.map Prod.fst) :
    smapGet dflt m k = dflt k := by
  induction m with
  | nil => rfl
  | cons p m ih =>
    rw [List.map_cons, List.mem_cons, not_or] at h
    obtain ⟨first, later⟩ := h
    rw [smapGet, if_neg (Ne.symm first), ih later]

/-- A map written from a list of keys reads as what was written, elsewhere as before. -/
theorem smapGet_foldl_set {α : Type} [DecidableEq α] (dflt f : Nat → α) (l : List Nat) (m : List (Nat × α)) (k : Nat) :
    smapGet dflt (l.foldl (fun m o => smapSet dflt m o (f o)) m) k = if k ∈ l then f k else smapGet dflt m k := by
  induction l generalizing m with
  | nil => rfl
  | cons o l ih =>
    rw [List.foldl_cons, ih, smapGet_set]
    by_cases tail : k ∈ l
    · simp [tail]
    · by_cases head : k = o
      · simp [head]
      · simp [tail, head]

/-- A word taken over at a col that is not among `latchedWords` has its reset value in the output set. -/
theorem frozenWord_of_not_latched {s : State} {o : Nat} {r : RegRow} (hr : regRow o = some r) (hl : r.latched = true)
    (h : o ∉ latchedWords s) : frozenWord s o = regReset o := by
  simp only [latchedWords, List.mem_filter, List.mem_eraseDups, List.mem_append, hr, hl, and_true, not_or] at h
  obtain ⟨written, acted⟩ := h
  simp only [frozenWord, hr]
  split
  · exact smapGet_of_not_mem _ acted
  · exact smapGet_of_not_mem _ written

/-- The output set that a cutoff freezes. -/
def outputSet (s : State) : List (Nat × Word32) := (latchedWords s).foldl (fun m o => smapSet regReset m o (frozenWord s o)) []

theorem outputSet_get {s : State} {o : Nat} {r : RegRow} (hr : regRow o = some r) (hl : r.latched = true) :
    smapGet regReset (outputSet s) o = frozenWord s o := by
  rw [outputSet, smapGet_foldl_set]
  split
  · rfl
  · next h => rw [frozenWord_of_not_latched hr hl h]; rfl

/-! One-shot requests -/

theorem getBits_putBits_zero (w : Word32) {lo len a k : Nat} (h : lo + len ≤ 32) (hz : getBits w a k = 0) :
    getBits (putBits w lo len 0) a k = 0 := by
  apply Nat.eq_of_testBit_eq
  intro i
  have clear := congrArg (·.testBit i) hz
  simp only [getBits_testBit, putBits_testBit w 0 _ h, Nat.zero_testBit] at clear ⊢
  split
  · exact Bool.and_false _
  · exact clear

/-- Clearing a bit sets no other. -/
theorem bit_setBit_false (s : State) {F : Field} (n : Nat) {G : Field} {m : Nat} (hF : F.lo + F.len ≤ 32)
    (h : s.bit G m = false) : (s.setBit F n false).bit G m = false := by
  simp only [State.bit, bne_eq_false_iff_eq] at h ⊢
  by_cases same : G.off m = F.off n
  · rw [State.fld, same] at h
    rw [State.setBit, State.setFld, State.fld, same, word_setWord_same]
    exact getBits_putBits_zero _ hF h
  · exact (fld_setFld_elsewhere s _ same).trans h

theorem bit_setBit_same (s : State) (F : Field) (n : Nat) (hF : F.lo + F.len ≤ 32) : (s.setBit F n false).bit F n = false := by
  simp [State.bit, State.setBit, fld_setFld_same s F n 0 hF]

/-- Clear a request of unit `n`. -/
def clearShot (F : Field) (s : State) (n : Nat) : State := if s.bit F n then s.setBit F n false else s

/-- Clear a request of all its units. -/
def clearUnits (s : State) (p : Field × Nat) : State := s.each (clearShot p.1) (upTo p.2)

theorem clearShots_eq (s : State) : clearShots s = oneShots.foldl clearUnits s := by
  unfold clearShots
  rfl

theorem clearShot_bit (s : State) {F : Field} (n : Nat) {G : Field} {m : Nat} (hF : F.lo + F.len ≤ 32) (h : s.bit G m = false) :
    (clearShot F s n).bit G m = false := by
  unfold clearShot
  split
  · exact bit_setBit_false s n hF h
  · exact h

theorem clearShot_bit_same (s : State) {F : Field} (n : Nat) (hF : F.lo + F.len ≤ 32) : (clearShot F s n).bit F n = false := by
  unfold clearShot
  split
  · exact bit_setBit_same s F n hF
  · next h => exact Bool.eq_false_iff.2 h

/-- What one step of a fold brings about and every later step keeps holds behind the fold. -/
theorem foldl_reaches {α : Type} {P : State → Prop} {f : State → α → State} (l : List α) (h : ∀ s, ∀ a ∈ l, P s → P (f s a))
    {a : α} (ha : a ∈ l) (hit : ∀ s, P (f s a)) (s : State) : P (l.foldl f s) := by
  induction l generalizing s with
  | nil => cases ha
  | cons b l ih =>
    have later : ∀ s, ∀ c ∈ l, P s → P (f s c) := fun s c hc => h s c (List.mem_cons_of_mem b hc)
    rcases List.mem_cons.1 ha with rfl | ha
    · exact List.foldlRecOn l f (hit s) fun t ht c hc => later t c hc ht
    · exact ih later ha (f s b)

/-- Behind `clearShots` every one-shot request of every unit reads 0. -/
theorem clearShots_bit (s : State) {F : Field} {units n : Nat} (hF : (F, units) ∈ oneShots) (hn : n < units) :
    (clearShots s).bit F n = false := by
  have fits : ∀ p ∈ oneShots, p.1.lo + p.1.len ≤ 32 := by decide
  rw [clearShots_eq]
  refine foldl_reaches (P := fun t => t.bit F n = false) oneShots (fun t p hp h => ?_) hF (fun t => ?_) s
  · exact List.foldlRecOn (upTo p.2) (clearShot p.1) h fun t ht m _ => clearShot_bit t m (fits p hp) ht
  · exact foldl_reaches (P := fun t => t.bit F n = false) (upTo units) (fun t m _ h => clearShot_bit t m (fits _ hF) h)
      (List.mem_range.2 hn) (fun t => clearShot_bit_same t n (fits _ hF)) t

/-! The cutoff -/

/-- A RELOAD of channel `n` written before is due (R167). -/
def reloadDue (s : State) (n : Nat) : State :=
  if (s.lswCh n).reload = 1 then s.setLsw n { s.lswCh n with reload := 2 } else s

/-- The state at a cutoff, but for what it notes for the safe zone and the sequencer. -/
def atCutoff (s : State) : State := (clearShots { s with frz := outputSet s }).each reloadDue (upTo 96)

/-- The notes that a cutoff makes last. -/
def noteCutoff (s : State) : State :=
  { s with zoneExit := if s.zoneExit = 1 then 2 else s.zoneExit, seq := { s.seq with cutDone := true, dieReady := [] } }

theorem cutoff_eq (s : State) : cutoff s = noteCutoff (atCutoff s) := by
  unfold cutoff
  extract_lets frz a b
  have state : b = atCutoff s := by unfold atCutoff outputSet reloadDue; rfl
  exact congrArg noteCutoff state

/-- What neither a register bit nor a load switch's hidden state shows is as it was, with the output set frozen. -/
theorem atCutoff_view {β : Type} (g : State → β) (hbit : ∀ s F n b, g (State.setBit s F n b) = g s)
    (hlsw : ∀ s n c, g (State.setLsw s n c) = g s) (s : State) : g (atCutoff s) = g { s with frz := outputSet s } := by
  have reload (t : State) (n : Nat) : g (reloadDue t n) = g t := by rw [reloadDue, apply_ite g, hlsw, ite_self]
  have shot (F : Field) (t : State) (n : Nat) : g (clearShot F t n) = g t := by rw [clearShot, apply_ite g, hbit, ite_self]
  have units (t : State) (p : Field × Nat) : g (clearUnits t p) = g t := each_view g (shot p.1) t (upTo p.2)
  have shots (t : State) : g (clearShots t) = g t := clearShots_eq t ▸ foldl_view g units oneShots t
  rw [atCutoff]
  exact (each_view g reload _ _).trans (shots _)

theorem reloadDue_bit (F : Field) (n : Nat) (s : State) (m : Nat) : (reloadDue s m).bit F n = s.bit F n := by
  unfold reloadDue
  split
  · rfl
  · rfl

theorem noteCutoff_bit (s : State) (F : Field) (n : Nat) : (noteCutoff s).bit F n = s.bit F n := rfl

theorem cutoff_bit (s : State) {F : Field} {units n : Nat} (hF : (F, units) ∈ oneShots) (hn : n < units) :
    (cutoff s).bit F n = false := by
  rw [cutoff_eq, noteCutoff_bit, atCutoff]
  exact (each_view (State.bit · F n) (reloadDue_bit F n) _ _).trans (clearShots_bit _ hF hn)

theorem cutoff_frzWord (s : State) {o : Nat} {r : RegRow} (hr : regRow o = some r) (hl : r.latched = true) :
    (cutoff s).frzWord o = frozenWord s o := by
  rw [cutoff_eq, State.frzWord, noteCutoff, atCutoff_view State.frz (fun _ _ _ _ => rfl) (fun _ _ _ => rfl)]
  exact outputSet_get hr hl

theorem cutoff_now (s : State) : (cutoff s).now = s.now := by
  rw [cutoff_eq, noteCutoff, atCutoff_view State.now (fun _ _ _ _ => rfl) (fun _ _ _ => rfl)]

theorem cutoff_eff (s : State) : (cutoff s).eff = s.eff := by
  rw [cutoff_eq, noteCutoff, atCutoff_view State.eff (fun _ _ _ _ => rfl) (fun _ _ _ => rfl)]

theorem cutoff_seq (s : State) : (cutoff s).seq.cutDone = true ∧ (cutoff s).seq.dieReady = [] := by
  rw [cutoff_eq]
  exact ⟨rfl, rfl⟩

theorem exec_stageCutoff {s : State} (commits : commitsCols s = true) (first : s.seq.cutDone = false) (quiet : s.laneEv = []) :
    exec .stageCutoff s = .next (cutoff (s.reach ((nextCol s).2 - 100))) := by
  show execStageCutoff s = _
  simp [execStageCutoff, commits, first, settleCount_of_nothing_in_flight quiet]

/-! ### Die link frames (R18, R103) -/

theorem exec_dieLinkFrame {s : State} {d : Fin 4} (commits : commitsCols s = true) (cut : s.seq.cutDone = true)
    (linked : d.val ∈ linkedDies s) (here : frameHere s d.val = false) (told : frameTold s d.val = false) (crcOk inTime : Bool) :
    exec (.dieLinkFrame d crcOk inTime) s = .next (
      if !crcOk then raiseFault (noteFrame s (d + 4)) Flt.SYS.DIELINK d 1
      else if !inTime then raiseFault (noteFrame s (d + 4)) Flt.TICK.UNITLATE d 2 else noteFrame s d) := by
  show execDieLinkFrame d crcOk inTime s = _
  simp only [execDieLinkFrame, commits, cut, List.contains_iff_mem.2 linked, here, told]
  cases crcOk
  · rfl
  · cases inTime
    · rfl
    · rfl

theorem noteFrame_live {s : State} (h : Live s) (k : Nat) : Live (noteFrame s k) := ⟨h.up, h.open', h.quiet⟩

theorem frameHere_noteFrame (s : State) (d k : Nat) : frameHere (noteFrame s k) d = (d == k || frameHere s d) := rfl

/-- A frame whose lack is reported raises its fault, and has not arrived behind the raise. -/
theorem missedFrame_flagged {s : State} (live : Live s) {d : Nat} (here : frameHere s d = false) (src cls : Nat) :
    let t := raiseFault (noteFrame s (d + 4)) src d cls
    Flagged t src d cls ∧ frameHere t d = false := by
  refine ⟨raiseFault_flagged (noteFrame_live live _) src d cls, ?_⟩
  have seq := congrArg Prod.fst (raiseFault_raised (noteFrame s (d + 4)) src d cls).stores
  have absent : frameHere (noteFrame s (d + 4)) d = false := by
    rw [frameHere_noteFrame, here, Bool.or_false]
    exact beq_false_of_ne (by omega)
  exact (congrArg (·.dieReady.contains d) seq).trans absent

/-- Settles O12: the cutoff (`exec_stageCutoff` and the lemmas `cutoff_…`), and each answer to a frame (`exec_dieLinkFrame`). -/
theorem outputSetIsFrozenAndSent : Obligations.OutputSetIsFrozenAndSent := by
  unfold Obligations.OutputSetIsFrozenAndSent
  refine ⟨fun s commits first quiet => ?_, fun s d commits cut linked here told => ?_⟩
  · obtain ⟨done, ready⟩ := cutoff_seq (s.reach ((nextCol s).2 - 100))
    refine ⟨_, exec_stageCutoff commits first quiet, done, ready, ?_, cutoff_eff _, fun o r hr hl => cutoff_frzWord _ hr hl,
      fun n hn => cutoff_bit _ (by simp [oneShots]) hn, fun n hn => cutoff_bit _ (by simp [oneShots]) hn⟩
    rw [cutoff_now]
    exact Nat.le_max_right ..
  · have run := exec_dieLinkFrame commits cut linked here told
    exact ⟨⟨_, run true true, by simp [frameHere_noteFrame], rfl, rfl⟩,
      fun inTime live => ⟨_, run false inTime, missedFrame_flagged live here _ _⟩,
      fun live => ⟨_, run true false, missedFrame_flagged live here _ _⟩⟩

end Sys2Proof.Machine
end

section
namespace Sys2Proof.Machine

/-! ### Statements that fail (R34, R309, R463, R470, R482, R483) -/

/-- The register word at an offset behind a command, 0 where the command has no next state. -/
def wordBehind (i : Instr) (s : State) (o : Nat) : Word32 :=
  match exec i s with
  | .next t => t.word o
  | _ => 0

theorem wordBehind_next {i : Instr} {s t : State} (o : Nat) (h : exec i s = .next t) : wordBehind i s o = t.word o := by
  rw [wordBehind, h]

/-- Nothing is powered. -/
def unpowered : State := { State.reset with dom := { keep := false, logic := false, net := false, pwr := 0, wait := 0, uv := 0 } }

/-- Refutes O59: SUPPLY_RISE switches D-KEEP, D-LOGIC and D-NET on (R482, R483), and `onDomains` does not name it. -/
theorem not_storesHaveTheirCommands : ¬ Obligations.StoresHaveTheirCommands := by
  unfold Obligations.StoresHaveTheirCommands
  intro h
  obtain ⟨-, -, -, -, -, -, domains, -⟩ := h (.supplyRise 5000 5000) unpowered _ rfl rfl
  exact absurd (domains rfl) (by decide)

/-- The force enable is set, and FLT_LSW_LIMTO is pending for the unit 8192, which a FAULT_FORCE has named before; no load switch
has that number. -/
def strayUnit : State :=
  { State.reset with
    collectorUp := true, boot := 0, flags := [⟨Flt.LSW.LIMTO, 8192, 0⟩],
    regs := [(Reg.FAULT.CTRL.FORCE_EN.base, 1), (Reg.FAULT.PENDLO.F0.base, 1)] }

/-- Forcing the source again escalates it and holds "load switch 8192" (R463), whose STAT is the register INPUT.VALCFG. -/
theorem strayUnit_valcfg : wordBehind (.faultForce ⟨true, 0, false⟩ 0x1001 0 8192) strayUnit Reg.INPUT.VALCFG.REG.base ≠
    strayUnit.word Reg.INPUT.VALCFG.REG.base := by
  decide

/-- Refutes O60: FAULT_FORCE takes a unit of 14 bits, more than there are outputs, and holding an output that does not exist writes
a register of INPUT (`strayUnit_valcfg`). -/
theorem not_registersHaveTheirCommands : ¬ Obligations.RegistersHaveTheirCommands := by
  unfold Obligations.RegistersHaveTheirCommands
  intro h
  have run : exec (.faultForce ⟨true, 0, false⟩ 0x1001 0 8192) strayUnit = .next _ := rfl
  obtain ⟨-, -, -, input, -⟩ := h _ _ _ Reg.INPUT.VALCFG.REG.base rfl rfl run
  exact strayUnit_valcfg ((wordBehind_next _ run).trans (input rfl (by decide) (by decide)))

/-- Class F3 is in force, and a raise waits whose class is not one of F0 to F3. -/
def strayClass : State :=
  { State.reset with
    collectorUp := true, boot := 0,
    raiseQ := [{ src := 1, unit := 0, cls := 0x540FD, detail := 0, count := 0, forced := false }],
    regs := [(Reg.FAULT.STATUS.TERMINAL.base, 4)] }

/-- Counting the raise that waits counts in the register that would hold FAULT.CNT of its class: AIVAL of input 0. -/
theorem strayClass_aival : wordBehind (.pwrDomainOn 0 0) strayClass (Reg.INPUT.AIVAL.REG.off 0) = 1 := by
  decide +kernel

/-- Refutes O50: a power domain that comes on takes the raises that wait, and the clause on its analog inputs (R309) is stated of
every state, with no hypothesis that nothing waits (`strayClass_aival`). -/
theorem not_domainsFollowTheirSupplies : ¬ Obligations.DomainsFollowTheirSupplies := by
  unfold Obligations.DomainsFollowTheirSupplies
  rintro ⟨-, -, -, on, -⟩
  obtain ⟨t, run, -, -, inputs⟩ := on strayClass 0 0 (by decide) (by decide) (by decide)
  have stays := inputs 0 (by decide) rfl
  rw [← wordBehind_next _ run, strayClass_aival] at stays
  exact absurd stays (by decide)

end Sys2Proof.Machine
end

section
/-!
# Proofs of the family 02_tick_and_plan

What outputs and raises pass by; passes; the narrows switch; handovers; starts and plan loads.
-/
namespace Sys2Proof.Machine

/-! ### What the outputs pass by (R161 to R283, R400)

A view is any function of the state. The rules say which basic updates a view does not see; one lemma for each operation of
Machine/Outputs.lean follows from them for every such view. -/

/-- A view that sees nothing of what the output units and the access engine do: no register from the LSW block on, no hidden state
of a unit, no raise that they ask for. -/
structure Unmoved {β : Type} (g : State → β) : Prop where
  fld : ∀ s F n v, 0x100000 ≤ F.base → g (State.setFld s F n v) = g s
  clamp : ∀ s n f, g (State.ask s 0x1007 n 1 f) = g s
  abort : ∀ s, g (State.ask s 0x2802 0x3FFF 0 false) = g s
  lsw : ∀ s n c, g (State.setLsw s n c) = g s
  hb : ∀ s n c, g (State.setHb s n c) = g s
  vd : ∀ s n c, g (State.setVd s n c) = g s
  bank : ∀ s n c, g (State.setBank s n c) = g s
  sink : ∀ s n c, g (State.setSink s n c) = g s
  stage : ∀ s n c, g (State.setStage s n c) = g s
  ledger1 : ∀ s n c, g (State.setLedger1 s n c) = g s
  access : ∀ s a, g { s with access := a } = g s

section
variable {β : Type} {g : State → β}

theorem Unmoved.bit (h : Unmoved g) (s : State) (F : Field) (n : Nat) (b : Bool) (hF : 0x100000 ≤ F.base) :
    g (s.setBit F n b) = g s := h.fld s F n _ hF

variable (h : Unmoved g)
include h

theorem inrushEdge_view (s : State) (c : Nat) : g (inrushEdge s c) = g s := by
  simp [inrushEdge, apply_ite g, h.ledger1]

theorem clampTrip_view (s : State) (n : Nat) (f : Bool) : g (clampTrip s n f) = g s := by
  simp +decide [clampTrip, h.clamp, h.lsw, h.bit]

theorem lswApply_view (s : State) (n : Nat) : g (lswApply s n) = g s := by
  simp +decide [lswApply, apply_ite g, h.bit, h.lsw, inrushEdge_view h, clampTrip_view h]

theorem lswSafe_view (s : State) (n : Nat) : g (lswSafe s n) = g s := by
  simp +decide [lswSafe, h.bit, lswApply_view h]

theorem hbApply_view (s : State) (m : Nat) : g (hbApply s m) = g s := by
  have edges (t : State) : g ((hbHalves t m).foldl (fun s h => inrushEdge s (96 + h)) t) = g t :=
    foldl_view g (fun t _ => inrushEdge_view h t _) _ t
  simp +decide [hbApply, edges, apply_ite g, h.bit, h.fld, h.hb, each_view g]

theorem hbSafe_view (s : State) (n : Nat) : g (hbSafe s n) = g s := by
  simp +decide [hbSafe, hbApply_view h, h.bit, each_view g]

theorem bankSource_view (s : State) (b : Nat) : g (bankSource s b) = g s := by
  simp +decide [bankSource, h.bit]

theorem bankSwitch_view (s : State) (b : Nat) : g (bankSwitch s b) = g s := by
  simp +decide [bankSwitch, apply_ite g, h.bit, inrushEdge_view h]

theorem recordWait_view (s : State) (n w : Nat) : g (recordWait s n w) = g s := by
  simp +decide [recordWait, h.fld]

theorem bankWaiters_view (s : State) (b : Nat) : g (bankWaiters s b) = g s := by
  simp +decide [bankWaiters, h.fld]

theorem tokenGrant_view (s : State) (n x : Nat) : g (tokenGrant s n x) = g s := by
  simp +decide [tokenGrant, bankSource_view h, h.bit, h.fld, h.vd, recordWait_view h]

theorem tokenNext_view (s : State) (b x : Nat) : g (tokenNext s b x) = g s := by
  unfold tokenNext
  split
  · simp +decide [bankWaiters_view h, bankSource_view h, h.fld]
  · simp [bankWaiters_view h, tokenGrant_view h, h.bank]

theorem tokenLeave_view (s : State) (n x : Nat) : g (tokenLeave s n x) = g s := by
  simp [tokenLeave, apply_ite g, tokenNext_view h, bankWaiters_view h, h.bank, recordWait_view h]

theorem vdShow_view (s : State) (n : Nat) (b : Bool) : g (vdShow s n b) = g s := by
  simp +decide [vdShow, bankSwitch_view h, h.bit]

theorem vdToRelease_view (s : State) (n x : Nat) (f : Bool) : g (vdToRelease s n x f) = g s := by
  simp +decide [vdToRelease, apply_ite g, vdShow_view h, h.fld, h.vd, tokenLeave_view h]

theorem vdStop_view (s : State) (n x : Nat) : g (vdStop s n x) = g s := by
  simp +decide [vdStop, vdShow_view h, h.fld, h.vd, tokenLeave_view h]

theorem vdSafe_view (s : State) (n : Nat) : g (vdSafe s n) = g s := by
  simp +decide [vdSafe, apply_ite g, bankSwitch_view h, h.bit, vdToRelease_view h]

theorem sinkApply_view (s : State) (n : Nat) : g (sinkApply s n) = g s := by
  simp +decide [sinkApply, h.bit, h.fld]

theorem sinkSafe_view (s : State) (n : Nat) : g (sinkSafe s n) = g s := by
  simp +decide [sinkSafe, sinkApply_view h, h.bit]

theorem stageApply_view (s : State) (n : Nat) : g (stageApply s n) = g s := by
  simp +decide [stageApply, apply_ite g, each_view g, sinkApply_view h, inrushEdge_view h, h.bit, h.stage, h.sink]

theorem matrixDark_view (s : State) : g (matrixDark s) = g s := by
  simp +decide [matrixDark, State.setFlds, h.fld]

theorem matrixApply_view (s : State) : g (matrixApply s) = g s := by
  simp +decide [matrixApply, apply_ite g, matrixDark_view h, h.bit]

theorem matrixSafe_view (s : State) : g (matrixSafe s) = g s := by
  simp +decide [matrixSafe, matrixApply_view h, h.bit]

theorem applyAll_view (s : State) : g (applyAll s) = g s := by
  simp [applyAll, each_view g, matrixApply_view h, stageApply_view h, bankSwitch_view h, hbApply_view h, lswApply_view h]

theorem safeAll_view (s : State) : g (safeAll s) = g s := by
  simp [safeAll, each_view g, matrixSafe_view h, sinkSafe_view h, vdSafe_view h, hbSafe_view h, lswSafe_view h]

theorem outputsOff_view (s : State) : g (outputsOff s) = g s := by
  simp +decide [outputsOff, pksBleed, each_view g, applyAll_view h, vdStop_view h, h.bit]

theorem roundStop_view (s : State) : g (roundStop s) = g s := by
  unfold roundStop
  split
  · rfl
  · simp +decide [State.setFlds, h.abort, h.fld, h.access]

theorem sleepCancel_view (s : State) : g (sleepCancel s) = g s := by
  simp +decide [sleepCancel, sleepDisarm, apply_ite g, h.fld, h.bit]

theorem holdUnit_view (s : State) (u : HeldUnit) : g (holdUnit s u) = g s := by
  cases u with
  | lsw n => exact lswSafe_view h s n
  | bridge n => exact hbSafe_view h s n
  | vd n => exact vdSafe_view h s n
  | vb b => simp [holdUnit, bankSwitch_view h, each_view g, vdSafe_view h]
  | sink n => exact sinkSafe_view h s n
  | stage n => simp [holdUnit, each_view g, sinkSafe_view h]
  | matrix => exact matrixSafe_view h s
  | aerial n => rfl

theorem bankZero_view (s : State) (b : Nat) : g (bankZero s b) = g s := by
  simp +decide [bankZero, apply_ite g, each_view g, vdToRelease_view h, vdDrop, h.bit, bankSwitch_view h]

theorem ledgerEff_view (s : State) (c : Nat) : g (ledgerEff s c) = g s := by
  simp +decide [ledgerEff, State.setFlds, apply_ite g, h.fld, lswApply_view h, hbApply_view h, bankZero_view h, bankSwitch_view h,
    matrixApply_view h, stageApply_view h]

theorem releaseResv_view (s : State) (c : Nat) : g (releaseResv s c) = g s := by
  simp +decide [releaseResv, State.setFlds, ledgerEff_view h, h.fld, h.ledger1]

theorem grantUsed_view (s : State) (c : Nat) (on : Bool) : g (grantUsed s c on) = g s := by
  simp [grantUsed, apply_ite g, releaseResv_view h, h.ledger1]

end

/-! ### What raises pass by (R457 to R465) -/

/-- A view that sees nothing of what a raise records, nor of what it does at a class below F3. -/
structure Unlogged {β : Type} (g : State → β) : Prop extends Unmoved g where
  collector : ∀ s F n v, 0x30000 ≤ F.base → g (State.setFld s F n v) = g s
  flags : ∀ s l, g { s with flags := l } = g s
  log : ∀ s l, g { s with log := l } = g s
  zone : ∀ s k, g { s with zoneExit := k } = g s
  defer : ∀ s l, s.collectorUp = false → g { s with deferred := l } = g s
  lost : ∀ s l, g { s with deferLost := l } = g s

/-- A view that sees nothing of what raises do, whatever their class. -/
structure Unraised {β : Type} (g : State → β) : Prop extends Unlogged g where
  queue : ∀ s q, g { s with raiseQ := q } = g s
  full : ∀ s unit, g (State.ask s Flt.FAULT.HELDFULL unit 2 false) = g s
  stop : ∀ s, g (s.enter seqStopped) = g s
  halt : ∀ s n, g (laneHalt s n) = g s
  flight : ∀ s l, g (dropInFlight s l) = g s
  off : ∀ s, g { s with hwSafe := true, terminalLatch := true } = g s
  net : ∀ s x, g { s with net := x } = g s
  dump : ∀ s d, g { s with dumpNext := d } = g s

section
variable {β : Type} {g : State → β} (h : Unlogged g)
include h

theorem Unlogged.record (s : State) (F : Field) (n : Nat) (b : Bool) (hF : 0x30000 ≤ F.base) : g (s.setBit F n b) = g s :=
  h.collector s F n _ hF

theorem setFlag_view (s : State) (f : FaultFlag) : g (setFlag s f) = g s := by
  simp +decide [setFlag, showFlags, State.setFlds, apply_ite g, h.collector, h.flags]

theorem logWrite_view (s : State) (r : LogRec) : g (logWrite s r) = g s := by
  simp +decide [logWrite, State.incFld, apply_ite g, h.record, h.collector, h.log]

theorem countRaise_view (s : State) (r : Raise) (act : Nat) : g (countRaise s r act) = g s := by
  simp +decide [countRaise, State.setFlds, h.collector]

theorem deferRaise_view (s : State) (r : Raise) (down : s.collectorUp = false) : g (deferRaise s r) = g s := by
  unfold deferRaise
  split
  · rfl
  · simp [apply_ite g, h.defer _ _ down, h.lost]

theorem safeZone_view (s : State) : g (safeZone s) = g s := by
  simp +decide [safeZone, roundStop_view h.toUnmoved, safeAll_view h.toUnmoved, h.record, h.zone]

/-- A reaction below class F3. -/
theorem react_view_below {cls : Nat} (hc : cls < 3) (s : State) : g (react s cls) = g s := by
  unfold react
  split
  · rfl
  · exact h.record s Reg.FAULT.STATUS.DEGRADED 0 true (by decide)
  · exact safeZone_view h s
  · next zero one two =>
    rw [imp_false] at zero one two
    omega

theorem takeHold_view (full : ∀ s unit, g (State.ask s Flt.FAULT.HELDFULL unit 2 false) = g s) (s : State) (src unit : Nat) (u : HeldUnit) :
    g (takeHold s src unit u).1 = g s := by
  unfold takeHold
  split
  · exact full s unit
  · simp +decide [showHeld, State.setFlds, holdUnit_view h.toUnmoved, h.collector]

/-- A raise that is acted on reacts in a state that differs by what is recorded of it. -/
theorem raiseOne_reacts (s : State) (r : Raise)
    (hold : r.cls = 0 → ∀ t u, faultOutput r.src r.unit = some u → g (takeHold t r.src r.unit u).1 = g t) :
    g (raiseOne s r) = g s ∨ ∃ t, g t = g s ∧ raiseOne s r = react t (actsAt s r) := by
  have flagged (act : Nat) : g (setFlag (setFlag s ⟨r.src, r.unit, r.cls⟩) ⟨r.src, r.unit, act⟩) = g s :=
    (setFlag_view h _ _).trans (setFlag_view h _ _)
  unfold raiseOne actsAt
  split
  · next down => exact .inl (deferRaise_view h s r (by simpa using down))
  · split
    · exact .inl ((logWrite_view h _ _).trans (countRaise_view h _ _ _))
    · refine .inr ⟨_, (logWrite_view h _ _).trans ((countRaise_view h _ _ _).trans ?_), rfl⟩
      split
      · next u output =>
        split
        · next held => exact (hold (by simpa using And.right (by simpa using held)) _ u output).trans (flagged _)
        · exact flagged _
      · exact flagged _

/-- A raise is not seen where neither its hold, if it takes one, nor its reaction is seen. -/
theorem raiseOne_view_of (s : State) (r : Raise)
    (hold : r.cls = 0 → ∀ t u, faultOutput r.src r.unit = some u → g (takeHold t r.src r.unit u).1 = g t)
    (acts : ∀ t, g (react t (actsAt s r)) = g t) : g (raiseOne s r) = g s := by
  obtain kept | ⟨t, recorded, reacts⟩ := raiseOne_reacts h s r hold
  · exact kept
  · exact (congrArg g reacts).trans ((acts t).trans recorded)

/-- A raise that neither holds an output nor reaches class F3, even when it is escalated. -/
structure Tame (r : Raise) : Prop where
  low : r.cls ≤ 1
  free : r.cls = 0 → faultOutput r.src r.unit = none

omit h in
theorem actsAt_le (s : State) (r : Raise) : actsAt s r ≤ r.cls + 1 := by
  unfold actsAt
  split
  · exact Nat.le_refl _
  · exact Nat.le_succ _

theorem raiseOne_view_tame (s : State) {r : Raise} (tame : Tame r) : g (raiseOne s r) = g s := by
  have low := tame.low
  have below : actsAt s r < 3 := by have := actsAt_le s r; omega
  refine raiseOne_view_of h s r (fun zero t u output => ?_) (react_view_below h below)
  rw [tame.free zero] at output
  cases output

end

section
variable {β : Type} {g : State → β} (h : Unraised g)
include h

theorem terminal_view (s : State) : g (terminal s) = g s := by
  have u := h.toUnmoved
  unfold terminal
  extract_lets a b c d e
  have marked : g a = g s := (h.stop _).trans (h.record s _ 0 true (by decide))
  have halted : g c = g b := each_view g h.halt b _
  have off : g d = g c := (outputsOff_view u _).trans (h.off c)
  have queued : g e = g d := (sleepCancel_view u _).trans (h.net d _)
  have dumped (t : State) (l : Option (List LogRec)) : g (if t.storeHot then t else { t with dumpNext := l }) = g t := by
    split
    · rfl
    · exact h.dump t l
  exact (roundStop_view u _).trans ((dumped e _).trans (queued.trans (off.trans (halted.trans ((h.flight a _).trans marked)))))

theorem react_view (s : State) (cls : Nat) : g (react s cls) = g s := by
  by_cases hc : cls < 3
  · exact react_view_below h.toUnlogged hc s
  · unfold react
    split
    · rfl
    · omega
    · omega
    · exact terminal_view h s

theorem raiseOne_view (s : State) (r : Raise) : g (raiseOne s r) = g s :=
  raiseOne_view_of h.toUnlogged s r (fun _ t u _ => takeHold_view h.toUnlogged h.full t r.src r.unit u) fun t => react_view h t _

theorem drainRaises_view (k : Nat) (s : State) : g (drainRaises k s) = g s := by
  induction k generalizing s with
  | zero => rfl
  | succ k ih =>
    unfold drainRaises
    split
    · rfl
    · exact (ih _).trans ((raiseOne_view h _ _).trans (h.queue s _))

theorem settleRaises_view (s : State) : g (settleRaises s) = g s := drainRaises_view h 256 s

theorem raiseWith_view (s : State) (src unit cls : Nat) (d : BitVec 48) (f : Bool) : g (raiseWith s src unit cls d f) = g s :=
  (settleRaises_view h _).trans (raiseOne_view h s _)

end

/-! Raises of class F0 or F1 that hold no output, with a queue of such raises, never reach class F3. -/

/-- Only tame raises wait. -/
def tameQueue (s : State) : Prop := ∀ r ∈ s.raiseQ, Tame r

theorem tameQueue_ask {s : State} {src unit cls : Nat} (f : Bool) (low : cls ≤ 1) (free : cls = 0 → faultOutput src unit = none) :
    tameQueue (s.ask src unit cls f) = tameQueue s := by
  have new (c : Nat) : Tame { src := src, unit := unit, cls := cls, detail := 0, count := c, forced := f } := ⟨low, free⟩
  simpa [tameQueue, State.ask, or_imp, forall_and] using fun _ => new s.now

theorem unlogged_tameQueue : Unlogged tameQueue where
  fld _ _ _ _ _ := rfl
  clamp _ _ f := tameQueue_ask f (by decide) nofun
  abort _ := tameQueue_ask false (by decide) (by decide)
  lsw _ _ _ := rfl
  hb _ _ _ := rfl
  vd _ _ _ := rfl
  bank _ _ _ := rfl
  sink _ _ _ := rfl
  stage _ _ _ := rfl
  ledger1 _ _ _ := rfl
  access _ _ := rfl
  collector _ _ _ _ _ := rfl
  flags _ _ := rfl
  log _ _ := rfl
  zone _ _ := rfl
  defer _ _ _ := rfl
  lost _ _ := rfl

section
variable {β : Type} {g : State → β} (h : Unlogged g) (queue : ∀ s q, g { s with raiseQ := q } = g s)
include h queue

theorem drainRaises_view_tame (k : Nat) {s : State} (tame : tameQueue s) : g (drainRaises k s) = g s := by
  induction k generalizing s with
  | zero => rfl
  | succ k ih =>
    unfold drainRaises
    split
    · rfl
    · next r q waits =>
      rw [tameQueue, waits] at tame
      obtain ⟨first, rest⟩ := List.forall_mem_cons.1 tame
      have later : tameQueue (raiseOne { s with raiseQ := q } r) := (raiseOne_view_tame unlogged_tameQueue _ first).mpr rest
      exact (ih later).trans ((raiseOne_view_tame h _ first).trans (queue s q))

/-- A raise of class F0 or F1 of a source that concerns no output, where nothing else waits. -/
theorem raiseFault_view_tame {s : State} (quiet : s.raiseQ = []) {src unit cls : Nat} (low : cls ≤ 1)
    (free : faultOutput src unit = none) : g (raiseFault s src unit cls) = g s := by
  have tame : Tame { src := src, unit := unit, cls := cls, detail := 0, count := s.now, forced := false } := ⟨low, fun _ => free⟩
  have waits : tameQueue s := by simp [tameQueue, quiet]
  have later : tameQueue (raiseOne s _) := (raiseOne_view_tame unlogged_tameQueue s tame).mpr waits
  exact (drainRaises_view_tame h queue 256 later).trans (raiseOne_view_tame h s tame)

end
/-! The views that the proofs below take of raises -/

theorem word_setFld_above (s : State) {F : Field} {o b : Nat} (n v : Nat) (low : o < b) (hF : b ≤ F.base) :
    (s.setFld F n v).word o = s.word o :=
  word_setWord_ne s _ (by unfold Field.off; omega)

theorem unmoved_word {o : Nat} (low : o < 0x100000) : Unmoved fun s => s.word o where
  fld s _ n v hF := word_setFld_above s n v low hF
  clamp _ _ _ := rfl
  abort _ := rfl
  lsw _ _ _ := rfl
  hb _ _ _ := rfl
  vd _ _ _ := rfl
  bank _ _ _ := rfl
  sink _ _ _ := rfl
  stage _ _ _ := rfl
  ledger1 _ _ _ := rfl
  access _ _ := rfl

/-- A raise below class F3 writes no register of the SYS, TICK and TIME blocks. -/
theorem unlogged_word {o : Nat} (low : o < 0x30000) : Unlogged fun s => s.word o where
  toUnmoved := unmoved_word (by omega)
  collector s _ n v hF := word_setFld_above s n v low hF
  flags _ _ := rfl
  log _ _ := rfl
  zone _ _ := rfl
  defer _ _ _ := rfl
  lost _ _ := rfl

/-- Is the offset that of a register which no raise writes, whatever its class: one of the blocks SYS, TICK and TIME, but for
TICK.STATUS, which shows STOPPED behind a raise of class F3? -/
def clearOfRaises (o : Nat) : Bool := decide (o < 0x30000) && o != 0x10000

/-- What no raise touches, whatever its class: time, the start that is due, the collector and, while it is up, what is deferred,
the stores, the frozen sets, the logical lanes, and registers. -/
structure Untouched where
  now : Nat
  boot : Nat
  up : Bool
  deferred : List (Nat × Raise)
  stores : Stores
  logical : Nat → Nat
  words : Nat → Word32

def State.untouched (s : State) : Untouched where
  now := s.now
  boot := s.boot
  up := s.collectorUp
  deferred := if s.collectorUp then s.deferred else []
  stores := s.stores
  logical n := (s.lane n).logical
  words o := if clearOfRaises o then s.word o else 0

theorem lane_setLane (s : State) (n m : Nat) (l : Lane) : (s.setLane n l).lane m = if m = n then l else s.lane m :=
  smapGet_set Lane.init s.lanes n m l

theorem lane_setLane_same (s : State) (n : Nat) (l : Lane) : (s.setLane n l).lane n = l := by rw [lane_setLane, if_pos rfl]

theorem laneHalt_untouched (s : State) (n : Nat) : (laneHalt s n).untouched = s.untouched := by
  have logical : (fun m => ((laneHalt s n).lane m).logical) = fun m => (s.lane m).logical := by
    funext m
    rw [laneHalt, lane_setLane]
    split
    · next same => rw [same]
    · rfl
  exact congrArg (fun l => { s.untouched with logical := l }) logical

theorem setFld_untouched (s : State) (F : Field) (n v : Nat) (hF : clearOfRaises (F.off n) = false) :
    (s.setFld F n v).untouched = s.untouched := by
  have words : (s.setFld F n v).untouched.words = s.untouched.words := by
    funext o
    show (if clearOfRaises o then (s.setFld F n v).word o else 0) = if clearOfRaises o then s.word o else 0
    split
    · next clear => exact word_setWord_ne s _ (by rintro rfl; simp [hF] at clear)
    · rfl
  exact congrArg (fun w => { s.untouched with words := w }) words

theorem not_clearOfRaises {F : Field} (n : Nat) (hF : 0x30000 ≤ F.base) : clearOfRaises (F.off n) = false := by
  have out : ¬F.off n < 0x30000 := by unfold Field.off; omega
  simp [clearOfRaises, out]

theorem unraised_untouched : Unraised State.untouched where
  fld s F n v hF := setFld_untouched s F n v (not_clearOfRaises n (by omega))
  clamp _ _ _ := rfl
  abort _ := rfl
  lsw _ _ _ := rfl
  hb _ _ _ := rfl
  vd _ _ _ := rfl
  bank _ _ _ := rfl
  sink _ _ _ := rfl
  stage _ _ _ := rfl
  ledger1 _ _ _ := rfl
  access _ _ := rfl
  collector s F n v hF := setFld_untouched s F n v (not_clearOfRaises n hF)
  flags _ _ := rfl
  log _ _ := rfl
  zone _ _ := rfl
  defer s l down := by simp [State.untouched, down]; exact ⟨rfl, rfl, rfl⟩
  lost _ _ := rfl
  queue _ _ := rfl
  full _ _ := rfl
  stop s := setFld_untouched s _ 0 _ rfl
  halt := laneHalt_untouched
  flight _ _ := rfl
  off _ := rfl
  net _ _ := rfl
  dump _ _ := rfl

theorem word_of_untouched {s t : State} (h : t.untouched = s.untouched) {o : Nat} (clear : clearOfRaises o = true) :
    t.word o = s.word o := by
  have words := congrFun (congrArg Untouched.words h) o
  simpa [State.untouched, clear] using words

theorem fld_of_untouched {s t : State} (h : t.untouched = s.untouched) {F : Field} {n : Nat} (clear : clearOfRaises (F.off n) = true) :
    t.fld F n = s.fld F n := by
  rw [State.fld, word_of_untouched h clear, State.fld]

/-- A field beside the one written, in the same register of the same unit. -/
theorem fld_setFld_neighbour (s : State) {F G : Field} (n v : Nat) (hF : F.lo + F.len ≤ 32) (hb : G.base = F.base)
    (hs : G.stride = F.stride) (hd : G.lo + G.len ≤ F.lo ∨ F.lo + F.len ≤ G.lo) : (s.setFld F n v).fld G n = s.fld G n :=
  fld_setFld_beside s v hF (by rw [Field.off, Field.off, hb, hs]) hd

theorem now_of_untouched {s t : State} (h : t.untouched = s.untouched) : t.now = s.now := congrArg Untouched.now h

theorem stores_of_untouched {s t : State} (h : t.untouched = s.untouched) : t.stores = s.stores := congrArg Untouched.stores h

theorem seq_of_untouched {s t : State} (h : t.untouched = s.untouched) : t.seq = s.seq :=
  congrArg Prod.fst (stores_of_untouched h)

end Sys2Proof.Machine
end

section
namespace Sys2Proof.Machine

/-! ### Passes that run code (R50, R93, R94, R97, R124, R127) -/

/-- A pass has issued: time has reached its count, and its offset is the latest. -/
def passIssued (s : State) (off : Nat) : State :=
  { s.reach (s.colCount + off) with seq := { s.seq with passOff := off } }

theorem passIssued_passed (s : State) (off : Nat) : Passed s (passIssued s off) off := ⟨rfl, Nat.le_max_right ..⟩

/-- A pass that is ready acts on the state that has issued it. -/
theorem passAt_ready {s : State} {kind off lane arg n : Nat} (ready : PassReady s kind off lane arg n) (act : State → Nat → Nat → State) :
    passAt s kind off lane arg act = act (passIssued s off) n (s.colCount + off) := by
  obtain ⟨owner, runs, ⟨later, within⟩, listed, quiet⟩ := ready
  simp [passAt, owner, runs, later, within, listed, settleCount_of_nothing_in_flight quiet, passIssued]

theorem raiseWith_flagged {s : State} (h : Live s) (src unit cls : Nat) (d : BitVec 48) (f : Bool) :
    Flagged (raiseWith s src unit cls d f) src unit cls :=
  (settleRaises_raised _).flags (raiseOne_flagged _ h.up h.open')

/-- TICK.OVERRUN shows an overrun of a lane and block. -/
def overrunShown (s : State) (n block : Nat) : State :=
  (s.setFld Reg.TICK.OVERRUN.BLOCK 0 block).setFld Reg.TICK.OVERRUN.LANE 0 (s.fld Reg.TICK.OVERRUN.LANE 0 ||| 2 ^ n)

/-- The lane's later blocks of the tick are withheld. -/
def withOverrun (s : State) (n : Nat) : State := { s with seq := { s.seq with overrun := n :: s.seq.overrun } }

theorem overrun_eq (s : State) (n block : Nat) :
    overrun s n block = raiseWith (withOverrun (overrunShown s n block) n) Flt.TICK.OVERRUN n 2 (detail16 block) false := by
  unfold overrun overrunShown withOverrun
  simp only [State.setFlds]

theorem Live.setFld {s : State} (live : Live s) {F : Field} {n : Nat} (v : Nat) (hF : Reg.FAULT.STATUS.TERMINAL.off 0 ≠ F.off n) :
    Live (s.setFld F n v) :=
  ⟨live.up, (congrArg (· != 0) (fld_setFld_elsewhere s v hF)).trans live.open', live.quiet⟩

theorem withOverrun_live {s : State} (live : Live s) (n : Nat) : Live (withOverrun s n) := ⟨live.up, live.open', live.quiet⟩

theorem overrunShown_live {s : State} (live : Live s) (n block : Nat) : Live (overrunShown s n block) :=
  (live.setFld _ (by decide)).setFld _ (by decide)

theorem overrunShown_block (s : State) (n block : Nat) : (overrunShown s n block).fld Reg.TICK.OVERRUN.BLOCK 0 = block % 2 ^ 16 := by
  refine (fld_setFld_beside _ _ (by decide) (by decide) (by decide)).trans ?_
  exact fld_setFld_same _ _ _ _ (by decide)

theorem withOverrun_now (s : State) (n : Nat) : (withOverrun s n).now = s.now := rfl

theorem withOverrun_seq (s : State) (n : Nat) : (withOverrun s n).seq = { s.seq with overrun := n :: s.seq.overrun } := rfl

theorem withOverrun_fld (s : State) (n : Nat) (F : Field) (m : Nat) : (withOverrun s n).fld F m = s.fld F m := rfl

/-- An overrun that the collector takes: the flag, the block shown, and the time and the sequencer as they were but for the lane. -/
theorem overrun_live {s : State} (live : Live s) (n : Nat) (block : BitVec 16) :
    Flagged (overrun s n block.toNat) Flt.TICK.OVERRUN n 2 ∧
      (overrun s n block.toNat).fld Reg.TICK.OVERRUN.BLOCK 0 = block.toNat ∧ (overrun s n block.toNat).now = s.now ∧
      (overrun s n block.toNat).seq = { s.seq with overrun := n :: s.seq.overrun } := by
  rw [overrun_eq]
  have shown := overrunShown_live live n block.toNat
  have same := raiseWith_view unraised_untouched (withOverrun (overrunShown s n block.toNat) n) Flt.TICK.OVERRUN n 2
    (detail16 block.toNat) false
  refine ⟨raiseWith_flagged (withOverrun_live shown n) .., ?_, (now_of_untouched same).trans ?_, (seq_of_untouched same).trans ?_⟩
  · rw [fld_of_untouched same (by decide), withOverrun_fld, overrunShown_block]
    exact Nat.mod_eq_of_lt block.isLt
  · rw [withOverrun_now, overrunShown, State.setFld_now, State.setFld_now]
  · rw [withOverrun_seq, overrunShown, State.setFld_seq, State.setFld_seq]

/-! CODE passes -/

/-- The block of a CODE pass is no longer finished once its pass has issued. -/
def codeReleased (s : State) (n block : Nat) : State := s.setLane n { s.lane n with done := (s.lane n).done.filter (· != block) }

/-- A block is withheld for the rest of the tick. -/
def withWithheld (s : State) (n block : Nat) : State := { s with seq := { s.seq with withheld := (n, block) :: s.seq.withheld } }

theorem laneBegin_lane (s : State) (n p pc : Nat) (priv plain : Bool) : (laneBegin s n p pc priv plain).lane n =
    { s.lane n with
      running := true, plain := plain, priv := priv, pc := BitVec.ofNat 32 pc, cyc := cycleAt s p + 4, redirects := [], cur := [],
      waiting := false } := lane_setLane_same ..

theorem codeReleased_atWait (s : State) (n block p : Nat) : atWait (codeReleased s n block) n p = atWait s n p := by
  have lane : (codeReleased s n block).lane n = { s.lane n with done := (s.lane n).done.filter (· != block) } := lane_setLane_same ..
  have cycle : cycleAt (codeReleased s n block) p = cycleAt s p := rfl
  rw [atWait, lane, cycle, atWait]

theorem passCode_starts {s : State} {n p : Nat} (first : s.seq.overrun.contains n = false) (wait : atWait s n p = true)
    (block entry : Nat) : passCode s n p block entry =
      laneBegin ((codeReleased s n block).setLane n { (codeReleased s n block).lane n with block := block }) n p (4 * entry) true false := by
  have first' : (codeReleased s n block).seq.overrun.contains n = false := first
  unfold passCode
  extract_lets l r
  have released : r = codeReleased s n block := rfl
  rw [released, first', codeReleased_atWait, wait]
  rfl

theorem passCode_overruns {s : State} {n p : Nat} (first : s.seq.overrun.contains n = false) (busy : atWait s n p = false)
    (block entry : Nat) : passCode s n p block entry = overrun (withWithheld (codeReleased s n block) n block) n block := by
  have first' : (codeReleased s n block).seq.overrun.contains n = false := first
  unfold passCode
  extract_lets l r
  have released : r = codeReleased s n block := rfl
  rw [released, first', codeReleased_atWait, busy]
  rfl

theorem exec_passCode {s : State} {off n : Nat} {lane : Fin 4} {block entry : BitVec 16}
    (ready : PassReady s 1 off lane.val (block.toNat * 2 ^ 16 + entry.toNat) n) :
    exec (.passCode off lane block entry) s =
      .next (passCode (passIssued s off) n (s.colCount + off) block.toNat entry.toNat) :=
  congrArg _ (passAt_ready ready _)

theorem passCode_holds {s : State} {off n : Nat} {lane : Fin 4} {block entry : BitVec 16}
    (ready : PassReady s 1 off lane.val (block.toNat * 2 ^ 16 + entry.toNat) n) (first : s.seq.overrun.contains n = false) :
    (atWait s n (s.colCount + off) = true → Ends (.passCode off lane block entry) s fun t => Passed s t off ∧
      (t.lane n).running = true ∧ (t.lane n).plain = false ∧ (t.lane n).priv = true ∧ (t.lane n).block = block.toNat ∧
      (t.lane n).pc = BitVec.ofNat 32 (4 * entry.toNat) ∧ (t.lane n).cyc = cycleAt s (s.colCount + off) + 4 ∧
      (t.lane n).gS = (s.lane n).gS ∧ t.regs = s.regs) ∧
    (atWait s n (s.colCount + off) = false → Live s → Ends (.passCode off lane block entry) s fun t => Passed s t off ∧
      Flagged t Flt.TICK.OVERRUN n 2 ∧ t.fld Reg.TICK.OVERRUN.BLOCK 0 = block.toNat ∧ (n, block.toNat) ∈ t.seq.withheld) := by
  have run := exec_passCode ready
  refine ⟨fun wait => ?_, fun busy live => ?_⟩
  · refine ⟨_, run, ?_⟩
    rw [passCode_starts (s := passIssued s off) first wait]
    beta_reduce
    rw [laneBegin_lane, lane_setLane_same, codeReleased, lane_setLane_same]
    exact ⟨⟨rfl, Nat.le_max_right ..⟩, rfl, rfl, rfl, rfl, rfl, rfl, rfl, rfl⟩
  · rw [passCode_overruns (s := passIssued s off) first busy] at run
    have live' : Live (withWithheld (codeReleased (passIssued s off) n block.toNat) n block.toNat) := ⟨live.up, live.open', live.quiet⟩
    obtain ⟨flagged, shown, now, seq⟩ := overrun_live live' n block
    refine ⟨_, run, ⟨?_, ?_⟩, flagged, shown, ?_⟩
    · rw [seq]; rfl
    · rw [now]; exact Nat.le_max_right ..
    · rw [seq]; exact List.mem_cons_self

/-! MARK passes -/

/-- A MARK is content with a block that is withheld, or that has finished before the count. -/
def markContent (s : State) (n p block : Nat) : Bool :=
  s.seq.withheld.contains (n, block) || ((s.lane n).done.contains block && decide ((s.lane n).endedAt ≤ cycleAt s p))

theorem exec_passMark {s : State} {off n : Nat} {lane : Fin 4} {block : BitVec 16}
    (ready : PassReady s 8 off lane.val (block.toNat * 2 ^ 16) n) :
    exec (.passMark off lane block) s = .next (if markContent s n (s.colCount + off) block.toNat then passIssued s off
      else overrun (passIssued s off) n block.toNat) :=
  congrArg _ (passAt_ready ready _)

theorem passMark_holds {s : State} {off n : Nat} {lane : Fin 4} {block : BitVec 16}
    (ready : PassReady s 8 off lane.val (block.toNat * 2 ^ 16) n) (free : (n, block.toNat) ∉ s.seq.withheld) :
    (block.toNat ∈ (s.lane n).done → (s.lane n).endedAt ≤ cycleAt s (s.colCount + off) → Ends (.passMark off lane block) s fun t =>
      Passed s t off ∧ t.lanes = s.lanes ∧ t.regs = s.regs) ∧
    (block.toNat ∉ (s.lane n).done → Live s → Ends (.passMark off lane block) s fun t => Passed s t off ∧
      Flagged t Flt.TICK.OVERRUN n 2 ∧ t.fld Reg.TICK.OVERRUN.BLOCK 0 = block.toNat) := by
  have run := exec_passMark ready
  refine ⟨fun done ended => ?_, fun running live => ?_⟩
  · rw [if_pos (by simp [markContent, done, ended])] at run
    exact ⟨_, run, passIssued_passed s off, rfl, rfl⟩
  · rw [if_neg (by simp [markContent, free, running])] at run
    have live' : Live (passIssued s off) := ⟨live.up, live.open', live.quiet⟩
    obtain ⟨flagged, shown, now, seq⟩ := overrun_live live' n block
    exact ⟨_, run, ⟨by rw [seq]; rfl, by rw [now]; exact Nat.le_max_right ..⟩, flagged, shown⟩

/-! PLAIN passes and their end -/

/-- The context that a PLAIN pass resumes has been taken from LANE_PSAVE. -/
def contextTaken (s : State) (n : Nat) : State := s.setBit Reg.SYS.LANE_PSAVE.VALID n false

/-- Where a PLAIN pass begins, and in which mode. -/
def plainPc (s : State) (n : Nat) : Nat :=
  if s.bit Reg.SYS.LANE_PSAVE.VALID n then 4 * s.fld Reg.SYS.LANE_PSAVE.ADDR n else plainsEntry s
def plainPriv (s : State) (n : Nat) : Bool := !s.bit Reg.SYS.LANE_PSAVE.VALID n || s.bit Reg.SYS.LANE_PSAVE.PRIV n

/-- The lane's plain ends `len` cycles after it has begun, but for the 16 cycles of its end. -/
def plainTimed (s : State) (n len : Nat) : State := s.setLane n { s.lane n with plainEnd := (s.lane n).cyc + len - 16 }

theorem passPlain_starts {s : State} {n p : Nat} (wait : atWait s n p = true) (len : Nat) : passPlain s n p len =
    plainTimed (laneBegin (contextTaken s n) n p (plainPc s n) (plainPriv s n) true) n len := by
  unfold passPlain
  rw [wait]
  rfl

theorem plainTimed_lane (s : State) (n len : Nat) :
    (plainTimed s n len).lane n = { s.lane n with plainEnd := (s.lane n).cyc + len - 16 } := lane_setLane_same ..

theorem plainTimed_bit (s : State) (n len : Nat) (F : Field) (m : Nat) : (plainTimed s n len).bit F m = s.bit F m := rfl

theorem laneBegin_bit (s : State) (n p pc : Nat) (priv plain : Bool) (F : Field) (m : Nat) :
    (laneBegin s n p pc priv plain).bit F m = s.bit F m := rfl

theorem exec_passPlain {s : State} {off n : Nat} {lane : Fin 4} {len : BitVec 20} (ready : PassReady s 9 off lane.val len.toNat n) :
    exec (.passPlain off lane len) s = .next (passPlain (passIssued s off) n (s.colCount + off) len.toNat) :=
  congrArg _ (passAt_ready ready _)

theorem cycleAt_contextTaken (s : State) (n p : Nat) : cycleAt (contextTaken s n) p = cycleAt s p := by
  have count : (contextTaken s n).colCount = s.colCount := by
    unfold contextTaken State.colCount State.pair State.setBit
    rw [fld_setFld_elsewhere, fld_setFld_elsewhere]
    · simp only [Field.off, Reg.TICK.COL_HI.COUNT, Reg.SYS.LANE_PSAVE.VALID]; omega
    · simp only [Field.off, Reg.TICK.COL_LO.COUNT, Reg.SYS.LANE_PSAVE.VALID]; omega
  rw [cycleAt, count, cycleAt]
  rfl

theorem passPlain_holds {s : State} {off n : Nat} {lane : Fin 4} {len : BitVec 20} (ready : PassReady s 9 off lane.val len.toNat n)
    (wait : atWait s n (s.colCount + off) = true) : Ends (.passPlain off lane len) s fun t => Passed s t off ∧
      (t.lane n).running = true ∧ (t.lane n).plain = true ∧ t.bit Reg.SYS.LANE_PSAVE.VALID n = false ∧
      (t.lane n).pc = BitVec.ofNat 32 (if s.bit Reg.SYS.LANE_PSAVE.VALID n then 4 * s.fld Reg.SYS.LANE_PSAVE.ADDR n else plainsEntry s) ∧
      (t.lane n).priv = (!s.bit Reg.SYS.LANE_PSAVE.VALID n || s.bit Reg.SYS.LANE_PSAVE.PRIV n) ∧
      (t.lane n).plainEnd = cycleAt s (s.colCount + off) + 4 + len.toNat - 16 := by
  refine ⟨_, exec_passPlain ready, ?_⟩
  rw [passPlain_starts (s := passIssued s off) wait]
  beta_reduce
  rw [plainTimed_lane, laneBegin_lane, plainTimed_bit, laneBegin_bit, cycleAt_contextTaken]
  exact ⟨⟨rfl, Nat.le_max_right ..⟩, rfl, rfl, bit_setBit_same _ _ _ (by decide), rfl, rfl, rfl⟩

/-- The context of a plain that stops at address `addr` in mode `priv` stands in LANE_PSAVE. -/
def contextSaved (s : State) (n addr : Nat) (priv : Bool) : State :=
  ((s.setFld Reg.SYS.LANE_PSAVE.ADDR n (addr / 4)).setFld Reg.SYS.LANE_PSAVE.PRIV n (if priv then 1 else 0)).setFld
    Reg.SYS.LANE_PSAVE.VALID n 1

theorem contextSaved_shows (s : State) (n addr : Nat) (priv : Bool) : let t := contextSaved s n addr priv
    t.bit Reg.SYS.LANE_PSAVE.VALID n = true ∧
      t.fld Reg.SYS.LANE_PSAVE.ADDR n = addr / 4 % 2 ^ Reg.SYS.LANE_PSAVE.ADDR.len ∧ t.bit Reg.SYS.LANE_PSAVE.PRIV n = priv := by
  simp +decide [contextSaved, State.bit, fld_setFld_neighbour, fld_setFld_same]
  cases priv
  · rfl
  · rfl

theorem contextSaved_lane (s : State) (n addr : Nat) (priv : Bool) (m : Nat) : (contextSaved s n addr priv).lane m = s.lane m := by
  unfold State.lane contextSaved
  rw [State.setFld_lanes, State.setFld_lanes, State.setFld_lanes]

theorem plainStop_saves {s : State} {n : Nat} (runs : (s.lane n).running = true) (plain : (s.lane n).plain = true)
    (straight : (s.lane n).redirects = []) (at' : Nat) :
    plainStop s n at' = scrub (laneStop (contextSaved s n (s.lane n).pc.toNat (s.lane n).priv) n at') n := by
  unfold plainStop contextSaved
  simp only [runs, plain, straight, Bool.and_self, Bool.not_true, Bool.false_eq_true, if_false, List.any_nil, resumeAt, List.find?_nil,
    savePlain, State.setFlds]

theorem scrub_lane (s : State) (n m : Nat) : (scrub s n).lane m = s.lane m := (rfl)
theorem scrub_fld (s : State) (n : Nat) (F : Field) (m : Nat) : (scrub s n).fld F m = s.fld F m := (rfl)
theorem laneStop_fld (s : State) (n at' : Nat) (F : Field) (m : Nat) : (laneStop s n at').fld F m = s.fld F m := (rfl)

theorem laneStop_lane (s : State) (n at' m : Nat) : (laneStop s n at').lane m = if m = n then
    { s.lane n with running := false, plain := false, priv := true, resv := none, redirects := [], cur := [], endedAt := at' }
    else s.lane m := lane_setLane ..

theorem settleTo_of_nothing_in_flight {s : State} (quiet : s.laneEv = []) (c : Nat) : settleTo s c = s := by
  rw [settleTo, quiet]
  rfl

/-- The cycle at which a plain stops: when its time is over, or at the col. -/
def suspendAt (s : State) (n : Nat) : Nat := min (s.lane n).plainEnd (s.seq.tickCyc + s.seq.k * s.seq.period)

theorem exec_plainSuspend {s : State} {lane : Fin 4} (quiet : s.laneEv = []) (runs : (s.lane lane.val).running = true)
    (plain : (s.lane lane.val).plain = true) : exec (.plainSuspend lane) s = .next (plainStop (s.reach (countOf s (suspendAt s lane.val)))
      lane.val (min ((s.lane lane.val).plainEnd + 16) (s.seq.tickCyc + s.seq.k * s.seq.period + 16))) := by
  show execPlainSuspend lane s = _
  unfold execPlainSuspend suspendAt
  extract_lets n l next c t
  have on : ¬(!(l.running && l.plain)) = true := by simp [l, n, runs, plain]
  have settled : t = s.reach (countOf s c) := by
    have still := settleTo_of_nothing_in_flight quiet (c - 1)
    simp only [t, still]
  rw [if_neg on, settled]

theorem plainSuspend_holds {s : State} {lane : Fin 4} (quiet : s.laneEv = []) :
    ((s.lane lane.val).running = true → (s.lane lane.val).plain = true → (s.lane lane.val).redirects = [] → Ends (.plainSuspend lane) s fun t =>
      (t.lane lane.val).running = false ∧ (t.lane lane.val).plain = false ∧ t.bit Reg.SYS.LANE_PSAVE.VALID lane.val = true ∧
      t.fld Reg.SYS.LANE_PSAVE.ADDR lane.val = (s.lane lane.val).pc.toNat / 4 % 2 ^ Reg.SYS.LANE_PSAVE.ADDR.len ∧
      t.bit Reg.SYS.LANE_PSAVE.PRIV lane.val = (s.lane lane.val).priv ∧
      (t.lane lane.val).gP = (s.lane lane.val).gP ∧ ∀ m, m ≠ lane.val → t.lane m = s.lane m) ∧
    ((s.lane lane.val).running = false ∨ (s.lane lane.val).plain = false → exec (.plainSuspend lane) s = .next s) := by
  refine ⟨fun runs plain straight => ?_, fun idle => ?_⟩
  · refine ⟨_, exec_plainSuspend quiet runs plain, ?_⟩
    generalize countOf s (suspendAt s lane.val) = c
    have same (m : Nat) : (s.reach c).lane m = s.lane m := rfl
    rw [plainStop_saves (s := s.reach c) runs plain straight]
    obtain ⟨valid, addr, priv⟩ := contextSaved_shows (s.reach c) lane.val (s.lane lane.val).pc.toNat (s.lane lane.val).priv
    simp only [State.bit, scrub_lane, scrub_fld, laneStop_fld, laneStop_lane, contextSaved_lane, same, if_pos] at valid priv ⊢
    exact ⟨trivial, trivial, valid, addr, priv, trivial, fun m hm => if_neg hm⟩
  · show execPlainSuspend lane s = _
    have off : ((s.lane lane.val).running && (s.lane lane.val).plain) = false := by
      rcases idle with h | h <;> simp [h]
    simp only [execPlainSuspend, off]
    rfl

/-- Settles O10: a NOP pass issues and does no more; the other kinds are `passCode_holds`, `passMark_holds`, `passPlain_holds` and
`plainSuspend_holds`. -/
theorem lanePassesRunCode : Obligations.LanePassesRunCode := by
  unfold Obligations.LanePassesRunCode
  refine ⟨⟨fun s off n lane ready => ?_, fun s off n lane block entry ready first => passCode_holds ready first,
    fun s off n lane block ready free => passMark_holds ready free, fun s off n lane len ready _ wait => passPlain_holds ready wait⟩,
    fun s lane quiet => plainSuspend_holds quiet⟩
  have run : exec (.passNop off lane) s = .next (passIssued s off) := congrArg _ (passAt_ready ready _)
  exact ⟨_, run, passIssued_passed s off, rfl, rfl⟩

end Sys2Proof.Machine
end

section
namespace Sys2Proof.Machine

/-! ### Passes that act on a unit (R47, R93, R278, R305, R339, R343, R398) -/

/-! Commits behind an EDGE pass: a view that sees neither the units nor their raises sees the committed words only. -/

/-- What is made from a view that sees nothing of the outputs sees nothing of them. -/
theorem Unmoved.comp {β γ : Type} {g : State → β} (h : Unmoved g) (f : β → γ) : Unmoved fun s => f (g s) where
  fld s F n v hF := congrArg f (h.fld s F n v hF)
  clamp s n b := congrArg f (h.clamp s n b)
  abort s := congrArg f (h.abort s)
  lsw s n c := congrArg f (h.lsw s n c)
  hb s n c := congrArg f (h.hb s n c)
  vd s n c := congrArg f (h.vd s n c)
  bank s n c := congrArg f (h.bank s n c)
  sink s n c := congrArg f (h.sink s n c)
  stage s n c := congrArg f (h.stage s n c)
  ledger1 s n c := congrArg f (h.ledger1 s n c)
  access s a := congrArg f (h.access s a)

section
variable {β : Type} {g : State → β} (h : Unmoved g)
include h

theorem lswCommit_view (s : State) (n : Nat) (new : Word32) :
    g (lswCommit s n new) = g (s.setEffWord (Reg.LSW.CTRL.REG.off n) new) := by
  unfold lswCommit
  extract_lets oldEn oldGroup a c en renew keepSafe b c' d e v f
  have cleared : g b = g a := by simp +decide [b, apply_ite g, h.bit]
  have shown : g e = g b := by simp +decide [e, d, State.setFlds, h.fld, h.lsw]
  have granted : g f = g e := by simp [f, apply_ite g, h.ledger1, releaseResv_view h]
  exact (lswApply_view h f n).trans (granted.trans (shown.trans cleared))

theorem hbSet_view (s : State) (m : Nat) {F : Field} (b : Bool) (hF : 0x100000 ≤ F.base) : g (hbSet s m F b) = g s := by
  simp [hbSet, each_view g, h.bit, hF]

theorem hbStop_view (s : State) (m : Nat) : g (hbStop s m) = g s := by
  simp +decide [hbStop, apply_ite g, hbApply_view h, h.hb, hbSet_view h]

/-- A commit of a half-bridge, as a view sees it that does not see the request REARM go. -/
theorem hbCommit_view (rearm : ∀ s n, g (State.setEff s Reg.HBR.CTRL.REARM n 0) = g s) (s : State) (n : Nat) (ctrl stop : Word32) :
    g (hbCommit s n ctrl stop) =
      g ((s.setEffWord (Reg.HBR.CTRL.REG.off n) ctrl).setEffWord (Reg.HBR.STOPPOS.REG.off n) stop) := by
  unfold hbCommit
  extract_lets p oldMode oldStop oldEn a mode keepSafe b latch c d e rev ch k l
  split
  · rfl
  · have cleared : g b = g a := by simp +decide [b, apply_ite g, hbSet_view h]
    have armed : g d = g b := by simp +decide [d, c, apply_ite g, rearm, hbSet_view h]
    have stopped : g e = g d := by simp +decide [e, apply_ite g, hbSet_view h]
    have reversed : g k = g e := by simp +decide [k, apply_ite g, h.hb, hbSet_view h]
    have granted : g l = g k := foldl_view g (fun t i => by simp [apply_ite g, h.ledger1, releaseResv_view h]) _ k
    exact (hbStop_view h _ n).trans ((hbApply_view h l n).trans (granted.trans (reversed.trans (stopped.trans (armed.trans cleared)))))

theorem sinkCommit_view (s : State) (n : Nat) (ctrl dim : Word32) : g (sinkCommit s n ctrl dim) =
    g ((s.setEffWord (Reg.LIGHT.SINKCTRL.REG.off n) ctrl).setEffWord (Reg.LIGHT.SINKDIM.REG.off n) dim) := by
  simp +decide [sinkCommit, apply_ite g, sinkApply_view h, h.bit]

theorem bankGrant_view (s : State) (b : Nat) : g (bankGrant s b) = g s := grantUsed_view h s _ _

end
/-- What an EDGE pass is to bring about: the time, the sequencer and one word that the power dies act on. -/
def edgeView (o : Nat) (s : State) : Nat × Seq × Word32 := (s.now, s.seq, s.effWord o)

theorem unmoved_edgeView (o : Nat) : Unmoved (edgeView o) :=
  unraised_untouched.toUnmoved.comp fun u => (u.now, u.stores.1, smapGet regReset u.stores.2.2.2.1 o)

theorem edgeView_settleRaises (o : Nat) (s : State) : edgeView o (settleRaises s) = edgeView o s :=
  congrArg (fun u : Untouched => (u.now, u.stores.1, smapGet regReset u.stores.2.2.2.1 o)) (settleRaises_view unraised_untouched s)

/-- The safe zone is not in force and no output is on hold. -/
structure NothingKept (s : State) : Prop where
  zone : s.zoneSafe = false
  held : ∀ u, held s u = false

theorem nothingKept {s : State} (zone : s.zoneSafe = false) (free : ∀ k, k < 16 → s.bit Reg.FAULT.HELD.VALID k = false) :
    NothingKept s := by
  refine ⟨zone, fun u => ?_⟩
  simp only [held, List.any_eq_false, upTo, List.mem_range]
  intro k hk
  simp [free k hk]

theorem edgeView_setEffWord_same (s : State) (o : Nat) (w : Word32) : edgeView o (s.setEffWord o w) = (s.now, s.seq, w) := by
  rw [edgeView, effWord_setEffWord_same]
  rfl

theorem edgeView_setEffWord_ne (s : State) {o p : Nat} (w : Word32) (h : o ≠ p) : edgeView o (s.setEffWord p w) = edgeView o s := by
  rw [edgeView, effWord_setEffWord_ne _ _ h]
  rfl

theorem setEffWord_now (s : State) (o : Nat) (w : Word32) : (s.setEffWord o w).now = s.now := rfl
theorem setEffWord_seq (s : State) (o : Nat) (w : Word32) : (s.setEffWord o w).seq = s.seq := rfl

/-- The word of a channel's command that an EDGE pass brings into effect is the frozen one. -/
theorem edgeView_lsw {s : State} (kept : NothingKept s) (n : Fin 96) : edgeView (Reg.LSW.CTRL.REG.off n.val) (edgeTake s (.lsw n)) =
    (s.now, s.seq, smapGet regReset s.edge (Reg.LSW.CTRL.REG.off n.val)) := by
  have taken : edgeTake s (.lsw n) = lswCommit s n.val (smapGet regReset s.edge (Reg.LSW.CTRL.REG.off n.val)) := by
    simp [edgeTake, lswTake, kept.zone, kept.held]
  rw [taken, lswCommit_view (unmoved_edgeView _), edgeView_setEffWord_same]

theorem edgeView_rearm (s : State) (n m : Nat) :
    edgeView (Reg.HBR.STOPPOS.REG.off n) (s.setEff Reg.HBR.CTRL.REARM m 0) = edgeView (Reg.HBR.STOPPOS.REG.off n) s := by
  have other : Reg.HBR.STOPPOS.REG.off n ≠ Reg.HBR.CTRL.REARM.off m := by
    simp only [Field.off, Reg.HBR.STOPPOS.REG, Reg.HBR.CTRL.REARM]; omega
  exact edgeView_setEffWord_ne s _ other

theorem edgeView_hbr {s : State} (kept : NothingKept s) (n : Fin 16) :
    edgeView (Reg.HBR.STOPPOS.REG.off n.val) (edgeTake s (.hbr n)) =
      (s.now, s.seq, smapGet regReset s.edge (Reg.HBR.STOPPOS.REG.off n.val)) := by
  have taken : edgeTake s (.hbr n) = hbCommit s n.val (smapGet regReset s.edge (Reg.HBR.CTRL.REG.off n.val))
      (smapGet regReset s.edge (Reg.HBR.STOPPOS.REG.off n.val)) := by
    simp [edgeTake, hbTake, kept.zone, kept.held]
  rw [taken, hbCommit_view (unmoved_edgeView _) (fun t m => edgeView_rearm t n.val m), edgeView_setEffWord_same,
    setEffWord_now, setEffWord_seq]

theorem edgeView_vd {s : State} (kept : NothingKept s) (n : Fin 24) :
    edgeView (Reg.VALVE.CMD.REG.off n.val) (edgeTake s (.vd n)) =
      (s.now, s.seq, smapGet regReset s.edge (Reg.VALVE.CMD.REG.off n.val)) := by
  have taken : edgeTake s (.vd n) = bankGrant (s.setEffWord (Reg.VALVE.CMD.REG.off n.val)
      (smapGet regReset s.edge (Reg.VALVE.CMD.REG.off n.val))) (vdBank n.val) := by
    simp [edgeTake, vdTake, vdKeptSafe, kept.zone, kept.held]
  rw [taken, bankGrant_view (unmoved_edgeView _), edgeView_setEffWord_same]

theorem edgeView_sink {s : State} (kept : NothingKept s) (n : Fin 32) :
    edgeView (Reg.LIGHT.SINKDIM.REG.off n.val) (edgeTake s (.sink n)) =
      (s.now, s.seq, smapGet regReset s.edge (Reg.LIGHT.SINKDIM.REG.off n.val)) := by
  have taken : edgeTake s (.sink n) = sinkCommit s n.val (smapGet regReset s.edge (Reg.LIGHT.SINKCTRL.REG.off n.val))
      (smapGet regReset s.edge (Reg.LIGHT.SINKDIM.REG.off n.val)) := by
    simp [edgeTake, sinkTake, kept.zone, kept.held]
  rw [taken, sinkCommit_view (unmoved_edgeView _), edgeView_setEffWord_same, setEffWord_now, setEffWord_seq]

/-- The state in which the die applies what an EDGE pass brings: 4 counts after the pass. -/
def edgeApplies (s : State) (off : Nat) : State := (passIssued s off).reach (s.colCount + off + 4)

theorem edgeApplies_kept {s : State} (kept : NothingKept s) (off : Nat) : NothingKept (edgeApplies s off) := ⟨kept.zone, kept.held⟩

theorem exec_passEdge {s : State} {off n arg bit die : Nat} {lane : Fin 4} {chan : OutUnit} (unit : edgeUnit chan = some (arg, bit, die))
    (ready : PassReady s 2 off lane.val arg n) (mode : s.edgeMode bit = true) (linked : die ∈ linkedDies s)
    (fed : smapGet (fun _ => 0) s.seq.dieMiss die = 0) :
    exec (.passEdge off lane chan) s = .next (settleRaises (edgeTake (edgeApplies s off) chan)) := by
  have mode' : (edgeApplies s off).edgeMode bit = true := mode
  have linked' : (linkedDies (edgeApplies s off)).contains die = true := List.contains_iff_mem.2 linked
  have fed' : smapGet (fun _ => 0) (edgeApplies s off).seq.dieMiss die = 0 := fed
  show execPassEdge off lane chan s = _
  unfold execPassEdge
  rw [unit]
  dsimp only
  rw [passAt_ready ready]
  have acts : ((edgeApplies s off).edgeMode bit && (linkedDies (edgeApplies s off)).contains die &&
      smapGet (fun _ => 0) (edgeApplies s off).seq.dieMiss die == 0) = true := by
    rw [mode', linked', fed']
    rfl
  exact congrArg _ (if_pos acts)

/-- An EDGE pass of a unit whose frozen word takes effect as `edgeView` says. -/
theorem passEdge_holds {s : State} {off n arg bit die o : Nat} {lane : Fin 4} {chan : OutUnit}
    (unit : edgeUnit chan = some (arg, bit, die)) (ready : PassReady s 2 off lane.val arg n) (mode : s.edgeMode bit = true)
    (linked : die ∈ linkedDies s) (fed : smapGet (fun _ => 0) s.seq.dieMiss die = 0)
    (takes : edgeView o (edgeTake (edgeApplies s off) chan) =
      ((edgeApplies s off).now, (edgeApplies s off).seq, smapGet regReset (edgeApplies s off).edge o)) :
    Ends (.passEdge off lane chan) s fun t => Passed s t off ∧ t.effWord o = smapGet regReset s.edge o := by
  have view := (edgeView_settleRaises o (edgeTake (edgeApplies s off) chan)).trans takes
  simp only [edgeView, Prod.mk.injEq] at view
  obtain ⟨now, seq, eff⟩ := view
  refine ⟨_, exec_passEdge unit ready mode linked fed, ⟨?_, ?_⟩, eff⟩
  · rw [seq]; rfl
  · rw [now]; exact Nat.le_trans (Nat.le_max_right ..) (Nat.le_max_left ..)

/-- The EDGE passes of all four kinds of channel. -/
theorem passEdge_all {s : State} {off n : Nat} {lane : Fin 4} (kept : NothingKept s) :
    (∀ c : Fin 96, PassReady s 2 off lane.val c.val n → s.edgeMode c.val = true → lswDie c.val ∈ linkedDies s →
      smapGet (fun _ => 0) s.seq.dieMiss (lswDie c.val) = 0 → Ends (.passEdge off lane (.lsw c)) s fun t => Passed s t off ∧
        t.effWord (Reg.LSW.CTRL.REG.off c.val) = smapGet regReset s.edge (Reg.LSW.CTRL.REG.off c.val)) ∧
    (∀ c : Fin 16, PassReady s 2 off lane.val (2 ^ 24 + c.val) n → s.edgeMode (96 + c.val) = true → hbDie c.val ∈ linkedDies s →
      smapGet (fun _ => 0) s.seq.dieMiss (hbDie c.val) = 0 → Ends (.passEdge off lane (.hbr c)) s fun t => Passed s t off ∧
        t.effWord (Reg.HBR.STOPPOS.REG.off c.val) = smapGet regReset s.edge (Reg.HBR.STOPPOS.REG.off c.val)) ∧
    (∀ c : Fin 24, PassReady s 2 off lane.val (2 * 2 ^ 24 + c.val) n → s.edgeMode (112 + c.val) = true → vdDie c.val ∈ linkedDies s →
      smapGet (fun _ => 0) s.seq.dieMiss (vdDie c.val) = 0 → Ends (.passEdge off lane (.vd c)) s fun t => Passed s t off ∧
        t.effWord (Reg.VALVE.CMD.REG.off c.val) = smapGet regReset s.edge (Reg.VALVE.CMD.REG.off c.val)) ∧
    (∀ c : Fin 32, PassReady s 2 off lane.val (3 * 2 ^ 24 + c.val) n → s.edgeMode (136 + c.val) = true → sinkDie c.val ∈ linkedDies s →
      smapGet (fun _ => 0) s.seq.dieMiss (sinkDie c.val) = 0 → Ends (.passEdge off lane (.sink c)) s fun t => Passed s t off ∧
        t.effWord (Reg.LIGHT.SINKDIM.REG.off c.val) = smapGet regReset s.edge (Reg.LIGHT.SINKDIM.REG.off c.val)) := by
  have applies := edgeApplies_kept kept off
  exact ⟨fun c ready mode linked fed => passEdge_holds rfl ready mode linked fed (edgeView_lsw applies c),
    fun c ready mode linked fed => passEdge_holds rfl ready mode linked fed (edgeView_hbr applies c),
    fun c ready mode linked fed => passEdge_holds rfl ready mode linked fed (edgeView_vd applies c),
    fun c ready mode linked fed => passEdge_holds rfl ready mode linked fed (edgeView_sink applies c)⟩

/-! SAMPLE passes -/

theorem bit_setBit_true (s : State) {F : Field} (n : Nat) (hF : F.lo + F.len ≤ 32) (one : F.len = 1) :
    (s.setBit F n true).bit F n = true := by
  rw [State.bit, State.setBit, fld_setFld_same _ _ _ _ hF, one]
  rfl

/-- The group 0x20 + i of a SAMPLE pass is the analog input i alone. -/
theorem sampleStart_input (s : State) (p : Nat) (i : Fin 24) : sampleStart s p (0x20 + i.val) = aiStart s p (aiDie i.val) [i.val] := by
  have hi := i.isLt
  unfold sampleStart
  rw [if_neg (by omega), if_neg (by omega), if_pos (by omega), Nat.add_sub_cancel_left]

theorem exec_passSample {s : State} {off n : Nat} {lane : Fin 4} {i : Fin 24} (ready : PassReady s 3 off lane.val (0x20 + i.val) n) :
    exec (.passSample off lane (BitVec.ofNat 8 (0x20 + i.val))) s =
      .next (aiStart (passIssued s off) (s.colCount + off) (aiDie i.val) [i.val]) := by
  have group : (BitVec.ofNat 8 (0x20 + i.val)).toNat = 0x20 + i.val := by
    have hi := i.isLt
    rw [BitVec.toNat_ofNat]
    omega
  show execPassSample off lane _ s = _
  unfold execPassSample
  rw [group, passAt_ready ready, sampleStart_input]

theorem passSample_holds {s : State} {off n : Nat} {lane : Fin 4} {i : Fin 24} (ready : PassReady s 3 off lane.val (0x20 + i.val) n) :
    (smapGet (fun _ => 0) s.timers.aiUntil (aiDie i.val) ≤ s.colCount + off →
      Ends (.passSample off lane (BitVec.ofNat 8 (0x20 + i.val))) s fun t => Passed s t off ∧
        (i.val, s.colCount + off + 2 + aiTime s) ∈ t.timers.conv ∧ t.regs = s.regs) ∧
    (s.colCount + off < smapGet (fun _ => 0) s.timers.aiUntil (aiDie i.val) →
      Ends (.passSample off lane (BitVec.ofNat 8 (0x20 + i.val))) s fun t => Passed s t off ∧
        t.bit Reg.INPUT.INSTAT.OVERLAP 0 = true ∧ t.timers.conv = s.timers.conv) := by
  have run := exec_passSample ready
  refine ⟨fun free => ?_, fun busy => ?_⟩
  · have idle : ¬s.colCount + off < smapGet (fun _ => 0) (passIssued s off).timers.aiUntil (aiDie i.val) := Nat.not_lt.2 free
    rw [aiStart, if_neg idle, if_neg (by simp)] at run
    refine ⟨_, run, ⟨rfl, Nat.le_max_right ..⟩, List.mem_append_right _ ?_, rfl⟩
    have time : aiTime (passIssued s off) = aiTime s := rfl
    simp [time]
  · have running : s.colCount + off < smapGet (fun _ => 0) (passIssued s off).timers.aiUntil (aiDie i.val) := busy
    rw [aiStart, if_pos running] at run
    exact ⟨_, run, ⟨rfl, Nat.le_max_right ..⟩, bit_setBit_true _ 0 (by decide) rfl, rfl⟩

/-! BUS_TX passes -/

/-- The frame of a bus transmit entry at offset `e` of the plan image, for a port on CAN. -/
def busFrame (s : State) (k e : Nat) : TxItem :=
  .bus k (s.plan.be (e + 4) 4) (s.plan.be (e + 1) 1) [] (rdBytes s.shared (s.plan.be (e + 8) 4) (s.plan.be (e + 2) 2))

theorem busTx_can {s : State} {k e : Nat} (entry : s.tableEntry 1 k = some e) (can : s.plan.be e 1 < 8)
    (on : s.fld Reg.NET.CANSTAT.STATE (s.plan.be e 1) ≠ 2) : busTx s k =
      if txHolds k (txQueue s (busPort (s.plan.be e 1))) then
        raiseFault (setTxQueue s (busPort (s.plan.be e 1)) (txReplace k (busFrame s k e) (txQueue s (busPort (s.plan.be e 1)))))
          Flt.NET.TXLATE (s.plan.be e 1) 0
      else txPut s (busPort (s.plan.be e 1)) (busFrame s k e) := by
  unfold busTx busFrame
  rw [entry]
  simp only [can, on, and_false, if_false, if_true, busPayload]

theorem txQueue_setTxQueue (s : State) (q : Nat) (l : List TxItem) : txQueue (setTxQueue s q l) q = l :=
  smapGet_set_same _ s.net.tx q l

/-- The state in which a BUS_TX pass has its frame in the queue: 3 counts after the pass. -/
def busApplies (s : State) (off : Nat) : State := (passIssued s off).reach (s.colCount + off + 3)

theorem exec_passBusTx {s : State} {off n : Nat} {lane : Fin 4} {entry : BitVec 16} (ready : PassReady s 4 off lane.val entry.toNat n) :
    exec (.passBusTx off lane entry) s = .next (busTx (busApplies s off) entry.toNat) := congrArg _ (passAt_ready ready _)

theorem busApplies_now (s : State) (off : Nat) : s.colCount + off ≤ (busApplies s off).now :=
  Nat.le_trans (Nat.le_max_right ..) (Nat.le_max_left ..)

theorem passBusTx_holds {s : State} {off n e : Nat} {lane : Fin 4} {entry : BitVec 16} (ready : PassReady s 4 off lane.val entry.toNat n)
    (listed : s.tableEntry 1 entry.toNat = some e) (can : s.plan.be e 1 < 8) (on : s.fld Reg.NET.CANSTAT.STATE (s.plan.be e 1) ≠ 2) :
    let q := busPort (s.plan.be e 1)
    let x := TxItem.bus entry.toNat (s.plan.be (e + 4) 4) (s.plan.be (e + 1) 1) [] (rdBytes s.shared (s.plan.be (e + 8) 4) (s.plan.be (e + 2) 2))
    (txHolds entry.toNat (txQueue s q) = false → Ends (.passBusTx off lane entry) s fun t => Passed s t off ∧
      txQueue t q = txInsert x (txQueue s q) ∧ t.flags = s.flags) ∧
    (txHolds entry.toNat (txQueue s q) = true → Live s → Ends (.passBusTx off lane entry) s fun t => Passed s t off ∧
      txQueue t q = txReplace entry.toNat x (txQueue s q) ∧ Flagged t Flt.NET.TXLATE (s.plan.be e 1) 0) := by
  intro q x
  have run := exec_passBusTx ready
  rw [busTx_can (s := busApplies s off) listed can on] at run
  refine ⟨fun absent => ?_, fun waits live => ?_⟩
  · have absent' : ¬txHolds entry.toNat (txQueue (busApplies s off) q) = true := Bool.eq_false_iff.1 absent
    exact ⟨_, run.trans (congrArg _ (if_neg absent')), ⟨rfl, busApplies_now s off⟩, txQueue_setTxQueue .., rfl⟩
  · have waits' : txHolds entry.toNat (txQueue (busApplies s off) q) = true := waits
    have live' : Live (setTxQueue (busApplies s off) q (txReplace entry.toNat x (txQueue (busApplies s off) q))) :=
      ⟨live.up, live.open', live.quiet⟩
    have free : faultOutput Flt.NET.TXLATE (s.plan.be e 1) = none := by
      simp [faultOutput, Flt.NET.TXLATE]
    obtain ⟨recorded, flagged⟩ := raiseFault_recorded live' free
    refine ⟨_, run.trans (congrArg _ (if_pos waits')), ⟨?_, ?_⟩, ?_, flagged⟩
    · exact congrArg (·.seq.passOff) recorded.rest
    · exact Nat.le_trans (busApplies_now s off) (Nat.le_of_eq (congrArg State.now recorded.rest).symm)
    · exact (congrArg (txQueue · q) recorded.rest).trans (txQueue_setTxQueue ..)

/-! LIN_SLOT passes -/

theorem exec_passLinSlot {s : State} {off n : Nat} {lane : Fin 4} {entry : BitVec 16} {port : Fin 12}
    (ready : PassReady s 5 off lane.val (entry.toNat * 2 ^ 8 + port.val) n) :
    exec (.passLinSlot off lane entry port) s = .next (linSlot (passIssued s off) port.val entry.toNat (s.colCount + off)) :=
  congrArg _ (passAt_ready ready _)

theorem linSlot_busy {s : State} {l k p e : Nat} (entry : s.tableEntry 3 k = some e) (up : linUp s l = true)
    (busy : p < (linPort s l).busyTo) : linSlot s l k p = s.setBit Reg.NET.LINSTAT.OVERLAP l true := by
  simp [linSlot, entry, up, busy]

theorem linSlot_responder {s : State} {l k p e : Nat} (entry : s.tableEntry 3 k = some e) (up : linUp s l = true)
    (free : (linPort s l).busyTo ≤ p) (responds : s.effBit Reg.NET.LINCFG.CMDR l = false) : linSlot s l k p =
      setLinPort s l { linPort s l with
        armed := (k, rdBytes s.shared (s.plan.be (e + 4) 4) (s.plan.be (e + 3) 1)) :: (linPort s l).armed } := by
  simp [linSlot, entry, up, Nat.not_lt.2 free, responds, busPayload]

theorem linPort_setLinPort (s : State) (l : Nat) (p : LinPort) : linPort (setLinPort s l p) l = p :=
  smapGet_set_same _ s.net.lin l p

theorem passLinSlot_holds {s : State} {off n e : Nat} {lane : Fin 4} {entry : BitVec 16} {port : Fin 12}
    (ready : PassReady s 5 off lane.val (entry.toNat * 2 ^ 8 + port.val) n) (listed : s.tableEntry 3 entry.toNat = some e)
    (up : linUp s port.val = true) :
    (s.colCount + off < (linPort s port.val).busyTo → Ends (.passLinSlot off lane entry port) s fun t => Passed s t off ∧
      t.bit Reg.NET.LINSTAT.OVERLAP port.val = true ∧ t.net = s.net) ∧
    ((linPort s port.val).busyTo ≤ s.colCount + off → s.effBit Reg.NET.LINCFG.CMDR port.val = false →
      Ends (.passLinSlot off lane entry port) s fun t => Passed s t off ∧
        (linPort t port.val).armed = (entry.toNat, rdBytes s.shared (s.plan.be (e + 4) 4) (s.plan.be (e + 3) 1)) :: (linPort s port.val).armed) := by
  have run := exec_passLinSlot ready
  refine ⟨fun busy => ?_, fun free responds => ?_⟩
  · rw [linSlot_busy (s := passIssued s off) listed up busy] at run
    exact ⟨_, run, ⟨rfl, Nat.le_max_right ..⟩, bit_setBit_true _ _ (by decide) rfl, rfl⟩
  · rw [linSlot_responder (s := passIssued s off) listed up free responds] at run
    exact ⟨_, run, ⟨rfl, Nat.le_max_right ..⟩, congrArg LinPort.armed (linPort_setLinPort ..)⟩

/-! SCAN passes -/

theorem bit_setBit_neighbour (s : State) {F G : Field} (n : Nat) (b : Bool) (hF : F.lo + F.len ≤ 32) (hb : G.base = F.base)
    (hs : G.stride = F.stride) (hd : G.lo + G.len ≤ F.lo ∨ F.lo + F.len ≤ G.lo) : (s.setBit F n b).bit G n = s.bit G n := by
  rw [State.bit, State.setBit, fld_setFld_neighbour s n _ hF hb hs hd, State.bit]

theorem setBit_dieDrives (s : State) (F : Field) (n : Nat) (b : Bool) (d : Nat) : (s.setBit F n b).dieDrives d = s.dieDrives d := rfl
theorem setBit_allOff (s : State) (F : Field) (n : Nat) (b : Bool) : (s.setBit F n b).allOff = s.allOff := rfl
theorem setBit_effBit (s : State) (F G : Field) (n m : Nat) (b : Bool) : (s.setBit F n b).effBit G m = s.effBit G m := rfl
theorem setBit_effWord (s : State) (F : Field) (n o : Nat) (b : Bool) : (s.setBit F n b).effWord o = s.effWord o := rfl

/-- The end of hold-over's repetition, with which a SCAN pass begins. -/
def scanBegun (s : State) : State := s.setBit Reg.LIGHT.MXSTAT.HOLDOVER 0 false

theorem scanBegun_rail (s : State) : matrixRail (scanBegun s) = matrixRail s := by
  have other : Reg.LEDGER.RESV.RESV.off (116 + 1) ≠ Reg.LIGHT.MXSTAT.HOLDOVER.off 0 := by decide
  have grant : stageNoGrant (scanBegun s) 1 = stageNoGrant s 1 := by
    rw [stageNoGrant, scanBegun, State.setBit, fld_setFld_elsewhere s _ other, stageNoGrant]
  unfold matrixRail
  rw [grant]
  unfold scanBegun
  rw [bit_setBit_neighbour s (F := Reg.LIGHT.MXSTAT.HOLDOVER) (G := Reg.LIGHT.MXSTAT.PROT_OFF) 0 false (by decide) rfl rfl (by decide),
    bit_setBit_neighbour s (F := Reg.LIGHT.MXSTAT.HOLDOVER) (G := Reg.LIGHT.MXSTAT.SAFE) 0 false (by decide) rfl rfl (by decide),
    setBit_dieDrives, setBit_allOff, setBit_effBit, setBit_effBit]

theorem scanBegun_busy (s : State) : mxBusy (scanBegun s) = mxBusy s := by
  unfold mxBusy scanBegun
  rw [bit_setBit_neighbour s (F := Reg.LIGHT.MXSTAT.HOLDOVER) (G := Reg.LIGHT.MXSTAT.FRAME_BUSY) 0 false (by decide) rfl rfl (by decide),
    bit_setBit_neighbour s (F := Reg.LIGHT.MXSTAT.HOLDOVER) (G := Reg.LIGHT.MXSTAT.LINE_BUSY) 0 false (by decide) rfl rfl (by decide)]

theorem scanBegun_pixels (s : State) : mxPixels (scanBegun s) = mxPixels s := by
  simp only [mxPixels, scanBegun, setBit_effWord]

theorem mxScan_starts {s : State} {p : Nat} {line : Option Nat} (rail : matrixRail s = true) (idle : mxBusy s = false) :
    mxScan s p line = mxStart (scanBegun s) (p + 2) line := by
  show (if !matrixRail (scanBegun s) then _ else if mxBusy (scanBegun s) then _ else _) = _
  rw [scanBegun_rail, scanBegun_busy, rail, idle]
  rfl

theorem mxScan_overlaps {s : State} {p : Nat} {line : Option Nat} (rail : matrixRail s = true) (busy : mxBusy s = true) :
    mxScan s p line = (scanBegun s).setBit Reg.LIGHT.MXSTAT.OVERLAP 0 true := by
  show (if !matrixRail (scanBegun s) then _ else if mxBusy (scanBegun s) then _ else _) = _
  rw [scanBegun_rail, scanBegun_busy, rail, busy]
  rfl

/-- What a SCAN pass is judged by besides MXSTAT. -/
def scanView (s : State) : Nat × Nat × Nat × List (Nat × Word32) := (s.seq.passOff, s.now, s.matrix.start, s.matrix.buf)

theorem scanView_setFld (s : State) (F : Field) (n v : Nat) : scanView (s.setFld F n v) = scanView s := rfl

/-- MXSTAT as a frame or a line begins shows it: its busy bit and its line. -/
theorem mxShown (s : State) (B : Field) (l : Nat) (hb : B.base = Reg.LIGHT.MXSTAT.LINE.base) (hs : B.stride = 0) (one : B.len = 1)
    (low : B.lo < 8) :
    let t := s.setFlds [(B, 0, 1), (Reg.LIGHT.MXSTAT.LINE, 0, l)]
    t.bit B 0 = true ∧ t.fld Reg.LIGHT.MXSTAT.LINE 0 = l % 2 ^ 4 ∧ scanView t = scanView s := by
  refine ⟨?_, fld_setFld_same (s.setFld B 0 1) Reg.LIGHT.MXSTAT.LINE 0 l (by decide), ?_⟩
  · have kept := fld_setFld_neighbour (s.setFld B 0 1) (F := Reg.LIGHT.MXSTAT.LINE) 0 l (by decide) hb hs (.inl (by rw [one]; exact low))
    have set : (s.setFld B 0 1).fld B 0 = 1 := by rw [fld_setFld_same _ _ _ _ (by omega), one]; rfl
    simp only [State.setFlds, State.bit, kept, set]
    decide
  · simp only [State.setFlds, scanView_setFld]

/-- A frame or a line begins at count `at'` with the pixels committed, before MXSTAT shows it. -/
def mxBegun (s : State) (at' : Nat) (starts : List Nat) : State :=
  { s with matrix := { s.matrix with start := at', buf := mxPixels s, lineOff := [], seenCols := [], starts := starts } }

theorem mxStart_frame (s : State) (at' : Nat) : (mxStart s at' none).bit Reg.LIGHT.MXSTAT.FRAME_BUSY 0 = true ∧
    scanView (mxStart s at' none) = (s.seq.passOff, s.now, at', mxPixels s) := by
  obtain ⟨busy, -, view⟩ := mxShown (mxBegun s at' ((s.matrix.starts ++ [at']).drop (s.matrix.starts.length - 1)))
    Reg.LIGHT.MXSTAT.FRAME_BUSY 0 rfl rfl rfl (by decide)
  exact ⟨busy, view⟩

theorem mxStart_line (s : State) (at' : Nat) (l : Fin 12) : (mxStart s at' (some l.val)).bit Reg.LIGHT.MXSTAT.LINE_BUSY 0 = true ∧
    (mxStart s at' (some l.val)).fld Reg.LIGHT.MXSTAT.LINE 0 = l.val ∧
    scanView (mxStart s at' (some l.val)) = (s.seq.passOff, s.now, at', mxPixels s) := by
  obtain ⟨busy, line, view⟩ := mxShown (mxBegun s at' s.matrix.starts) Reg.LIGHT.MXSTAT.LINE_BUSY l.val rfl rfl rfl (by decide)
  exact ⟨busy, line.trans (Nat.mod_eq_of_lt (Nat.lt_trans l.isLt (by decide))), view⟩

theorem exec_passScan {s : State} {off n : Nat} {lane : Fin 4} {line : Option (Fin 12)}
    (ready : PassReady s 6 off lane.val (line.elim 0xFF Fin.val) n) :
    exec (.passScan off lane line) s = .next (mxScan (passIssued s off) (s.colCount + off) (line.map Fin.val)) := by
  cases line with
  | none => exact congrArg _ (passAt_ready ready _)
  | some l => exact congrArg _ (passAt_ready ready _)

theorem scanBegun_view (s : State) : scanView (scanBegun s) = scanView s := scanView_setFld s _ _ _

theorem scan_passed {s t : State} {off a : Nat} {b : List (Nat × Word32)}
    (view : scanView t = ((scanBegun (passIssued s off)).seq.passOff, (scanBegun (passIssued s off)).now, a, b)) :
    Passed s t off ∧ t.matrix.start = a ∧ t.matrix.buf = b := by
  have begun := scanBegun_view (passIssued s off)
  simp only [scanView, Prod.mk.injEq] at view begun
  obtain ⟨offset, now, start, buf⟩ := view
  obtain ⟨offset', now', -⟩ := begun
  exact ⟨⟨offset.trans offset', Nat.le_trans (Nat.le_max_right ..) (Nat.le_of_eq (now.trans now').symm)⟩, start, buf⟩

theorem passScan_frame {s : State} {off n : Nat} {lane : Fin 4} (ready : PassReady s 6 off lane.val 0xFF n) (rail : matrixRail s = true) :
    (mxBusy s = false → Ends (.passScan off lane none) s fun t => Passed s t off ∧ t.bit Reg.LIGHT.MXSTAT.FRAME_BUSY 0 = true ∧
      t.matrix.start = s.colCount + off + 2 ∧ t.matrix.buf = mxPixels s) ∧
    (mxBusy s = true → Ends (.passScan off lane none) s fun t => Passed s t off ∧ t.bit Reg.LIGHT.MXSTAT.OVERLAP 0 = true ∧
      t.matrix = s.matrix) := by
  have run := exec_passScan (line := none) ready
  refine ⟨fun idle => ?_, fun busy => ?_⟩
  · rw [mxScan_starts (s := passIssued s off) rail idle] at run
    obtain ⟨shown, view⟩ := mxStart_frame (scanBegun (passIssued s off)) (s.colCount + off + 2)
    obtain ⟨passed, start, buf⟩ := scan_passed view
    exact ⟨_, run, passed, shown, start, buf.trans (scanBegun_pixels _)⟩
  · rw [mxScan_overlaps (s := passIssued s off) rail busy] at run
    exact ⟨_, run, ⟨rfl, Nat.le_max_right ..⟩, bit_setBit_true _ 0 (by decide) rfl, rfl⟩

theorem passScan_line {s : State} {off n : Nat} {lane : Fin 4} {l : Fin 12} (ready : PassReady s 6 off lane.val l.val n)
    (rail : matrixRail s = true) (idle : mxBusy s = false) :
    Ends (.passScan off lane (some l)) s fun t => Passed s t off ∧ t.bit Reg.LIGHT.MXSTAT.LINE_BUSY 0 = true ∧
      t.fld Reg.LIGHT.MXSTAT.LINE 0 = l.val ∧ t.matrix.start = s.colCount + off + 2 := by
  have run := exec_passScan (line := some l) ready
  rw [mxScan_starts (s := passIssued s off) rail idle] at run
  obtain ⟨shown, line, view⟩ := mxStart_line (scanBegun (passIssued s off)) (s.colCount + off + 2) l
  obtain ⟨passed, start, -⟩ := scan_passed view
  exact ⟨_, run, passed, shown, line, start⟩

/-! ACCESS passes -/

theorem randomBytes_rest (s : State) (n : Nat) :
    (randomBytes s n).1.length = n ∧ (randomBytes s n).2 = { s with fresh := (randomBytes s n).2.fresh } := by
  induction n generalizing s with
  | zero => exact ⟨rfl, rfl⟩
  | succ n ih =>
    obtain ⟨long, rest⟩ := ih { s with fresh := s.fresh + 1 }
    exact ⟨congrArg (· + 1) long, rest⟩

/-- What an ACCESS pass is judged by: the sequencer, the time, the round, the latched plan and the noise source's verdict. -/
def roundView (s : State) : Seq × Nat × Access × Bool := (s.seq, s.now, s.access, s.bit Reg.KEYS.STATUS.TRNG_OK 0)

theorem roundView_setFld (s : State) {F : Field} (n v : Nat) (other : Reg.KEYS.STATUS.TRNG_OK.off 0 ≠ F.off n) :
    roundView (s.setFld F n v) = roundView s := by
  unfold roundView
  rw [State.bit, fld_setFld_elsewhere s v other]
  rfl

theorem clearAnswers_view (s : State) : roundView (clearAnswers s) = roundView s := by
  unfold clearAnswers State.each
  refine List.foldlRecOn (motive := fun t => roundView t = roundView s) (upTo 16) _ rfl fun t same k mem => ?_
  have low : k < 16 := List.mem_range.1 mem
  have off : ∀ F ∈ [Reg.ACCESS.ANS_ID.REG, Reg.ACCESS.ANS_VERD.REG, Reg.ACCESS.ANS_REP_LO.REG, Reg.ACCESS.ANS_REP_HI.REG],
      Reg.KEYS.STATUS.TRNG_OK.off 0 ≠ F.off k := by
    simp only [List.forall_mem_cons, Field.off, Reg.ACCESS.ANS_ID.REG, Reg.ACCESS.ANS_VERD.REG, Reg.ACCESS.ANS_REP_LO.REG,
      Reg.ACCESS.ANS_REP_HI.REG, Reg.KEYS.STATUS.TRNG_OK]
    exact ⟨by omega, by omega, by omega, by omega, by simp⟩
  simp only [List.forall_mem_cons] at off
  obtain ⟨id, verd, lo, hi, -⟩ := off
  simp only [State.setFlds]
  rw [roundView_setFld _ k 0 hi, roundView_setFld _ k 0 lo, roundView_setFld _ k 0 verd, roundView_setFld _ k 0 id]
  exact same

/-- The round that the access entry at offset `e` describes, for a pass at count `p`. -/
def roundOf (s : State) (p e : Nat) (challenge : List Byte) : Round where
  start := p + 5
  txmask := s.plan.be (e + 1) 1
  rssimask := s.plan.be (e + 2) 1
  slotb := s.plan.be (e + 3) 1
  wakeUs := s.plan.be (e + 4) 2
  rssiUs := s.plan.be (e + 6) 2
  ilf := s.plan.be (e + 8) 1
  rcwin := s.plan.be (e + 9) 1
  zonemask := s.plan.be (e + 10) 1
  challenge := challenge
  failed := 0
  valid := []
  granted := false
  lost := []

/-- The state with its round, the answers of the one before cleared and one more round counted. -/
def roundCounted (s : State) (p e : Nat) : State :=
  let c := randomBytes s 6
  (clearAnswers { c.2 with access := { c.2.access with round := some (roundOf c.2 p e c.1) } }).incFld Reg.ACCESS.STATUS.ROUND 0

theorem roundCounted_view (s : State) (p e : Nat) : roundView (roundCounted s p e) =
    (s.seq, s.now, { s.access with round := some (roundOf s p e (randomBytes s 6).1) }, s.bit Reg.KEYS.STATUS.TRNG_OK 0) := by
  unfold roundCounted State.incFld
  rw [roundView_setFld _ 0 _ (by decide), clearAnswers_view, (randomBytes_rest s 6).2]
  rfl

theorem accessPass_starts {s : State} {p e : Nat} (on : s.bit Reg.ACCESS.CTRL.EN 0 = true) (idle : s.access.round = none)
    (noise : s.bit Reg.KEYS.STATUS.TRNG_OK 0 = true) :
    accessPass s p e = (roundCounted s p e).setBit Reg.ACCESS.STATUS.RUNNING 0 true := by
  have noise' : ((roundCounted s p e).setBit Reg.ACCESS.STATUS.RUNNING 0 true).bit Reg.KEYS.STATUS.TRNG_OK 0 = true := by
    have view := (roundView_setFld (roundCounted s p e) (F := Reg.ACCESS.STATUS.RUNNING) 0 1 (by decide)).trans (roundCounted_view s p e)
    exact (congrArg (·.2.2.2) view).trans noise
  have opens : ¬(!s.bit Reg.ACCESS.CTRL.EN 0 || s.access.round.isSome) = true := by simp [on, idle]
  exact (if_neg opens).trans (if_pos noise')

theorem accessPass_overlaps {s : State} {p e : Nat} (runs : s.access.round ≠ none) :
    accessPass s p e = s.setBit Reg.ACCESS.STATUS.OVERLAP 0 true := by
  have some' : s.access.round.isSome = true := Option.isSome_iff_ne_none.2 runs
  simp [accessPass, some']

theorem exec_passAccess {s : State} {off n e : Nat} {lane : Fin 4} {entry : BitVec 16} (ready : PassReady s 7 off lane.val entry.toNat n)
    (listed : s.tableEntry 6 entry.toNat = some e) :
    exec (.passAccess off lane entry) s = .next (accessPass (passIssued s off) (s.colCount + off) e) := by
  have listed' : (passIssued s off).tableEntry 6 entry.toNat = some e := listed
  show execPassAccess off lane entry s = _
  unfold execPassAccess
  rw [passAt_ready ready, listed']

theorem passAccess_holds {s : State} {off n e : Nat} {lane : Fin 4} {entry : BitVec 16} (ready : PassReady s 7 off lane.val entry.toNat n)
    (listed : s.tableEntry 6 entry.toNat = some e) (on : s.bit Reg.ACCESS.CTRL.EN 0 = true) :
    (s.access.round = none → s.bit Reg.KEYS.STATUS.TRNG_OK 0 = true → Ends (.passAccess off lane entry) s fun t => Passed s t off ∧
      t.bit Reg.ACCESS.STATUS.RUNNING 0 = true ∧ (∃ r, t.access.round = some r ∧ r.start = s.colCount + off + 5 ∧ r.challenge.length = 6 ∧
        r.txmask = s.plan.be (e + 1) 1 ∧ r.slotb = s.plan.be (e + 3) 1 ∧ r.valid = [] ∧ r.granted = false)) ∧
    (s.access.round ≠ none → Ends (.passAccess off lane entry) s fun t => Passed s t off ∧
      t.bit Reg.ACCESS.STATUS.OVERLAP 0 = true ∧ t.access = s.access) := by
  have run := exec_passAccess ready listed
  refine ⟨fun idle noise => ?_, fun runs => ?_⟩
  · rw [accessPass_starts (s := passIssued s off) on idle noise] at run
    have view := (roundView_setFld _ (F := Reg.ACCESS.STATUS.RUNNING) 0 1 (by decide)).trans
      (roundCounted_view (passIssued s off) (s.colCount + off) e)
    simp only [roundView, Prod.mk.injEq] at view
    obtain ⟨seq, now, access, -⟩ := view
    refine ⟨_, run, ⟨congrArg Seq.passOff seq, ?_⟩, bit_setBit_true _ 0 (by decide) rfl, _, congrArg Access.round access,
      rfl, (randomBytes_rest _ 6).1, rfl, rfl, rfl, rfl⟩
    exact Nat.le_trans (Nat.le_max_right ..) (Nat.le_of_eq now.symm)
  · rw [accessPass_overlaps (s := passIssued s off) runs] at run
    exact ⟨_, run, ⟨rfl, Nat.le_max_right ..⟩, bit_setBit_true _ 0 (by decide) rfl, rfl⟩

/-- Settles O11: each pass acts on its unit in the state its issue leaves; an EDGE pass by the view of the committed words that no
output and no raise moves. The model's choices it rests on are log 108 (a bus is busy for the longest time of a frame) and
log 111 (the unit of a fault of the ports). -/
theorem unitPassesAct : Obligations.UnitPassesAct :=
  ⟨fun _ _ _ _ _ zone free => passEdge_all (nothingKept zone free), fun _ _ _ _ _ ready => passSample_holds ready,
    fun _ _ _ _ _ _ ready listed can on => passBusTx_holds ready listed can on,
    fun _ _ _ _ _ _ _ ready listed up => passLinSlot_holds ready listed up, fun _ _ _ _ ready rail => passScan_frame ready rail,
    fun _ _ _ _ _ ready rail idle => passScan_line ready rail idle, fun _ _ _ _ _ _ ready listed on => passAccess_holds ready listed on⟩

end Sys2Proof.Machine
end

section
namespace Sys2Proof.Machine

/-! ### The narrows switch (R56, R61, R64, R65) -/

/-- What the narrows switch is to bring about, apart from the sequencer's state: the variant, the loss, the logical lanes and the
registers that no raise writes. -/
def narrowsView (s : State) : Bool × Option Nat × (Nat → Nat) × (Nat → Word32) :=
  (s.seq.narrows, s.seq.lossAt, s.untouched.logical, s.untouched.words)

theorem untouched_logical (s : State) (n : Nat) : s.untouched.logical n = (s.lane n).logical := rfl

theorem narrowsView_of_untouched {s t : State} (h : t.untouched = s.untouched) : narrowsView t = narrowsView s :=
  congrArg (fun u : Untouched => (u.stores.1.narrows, u.stores.1.lossAt, u.logical, u.words)) h

theorem unmoved_narrowsView : Unmoved narrowsView :=
  unraised_untouched.toUnmoved.comp fun u => (u.stores.1.narrows, u.stores.1.lossAt, u.logical, u.words)

/-! Shedding moves outputs and the commands they act on, and gives up who staged them. -/

theorem setEffWord_narrowsView (s : State) (o : Nat) (w : Word32) : narrowsView (s.setEffWord o w) = narrowsView s := (rfl)
theorem setEff_narrowsView (s : State) (F : Field) (n v : Nat) : narrowsView (s.setEff F n v) = narrowsView s := (rfl)
theorem dropOwners_narrowsView (s : State) (l : List Nat) : narrowsView (dropOwners s l) = narrowsView s := (rfl)

theorem sinkShed_narrowsView (s : State) (n : Nat) : narrowsView (sinkShed s n) = narrowsView s := by
  unfold sinkShed
  rw [sinkApply_view unmoved_narrowsView, dropOwners_narrowsView]
  split <;> simp only [setEff_narrowsView]

theorem unitShed_narrowsView (s : State) (u : OutUnit) : narrowsView (unitShed s u) = narrowsView s := by
  cases u with
  | lsw n =>
    unfold unitShed
    simp only [lswApply_view unmoved_narrowsView, dropOwners_narrowsView]
    split <;> simp only [setEffWord_narrowsView]
  | hbr n =>
    simp +decide only [unitShed, hbApply_view unmoved_narrowsView, hbSet_view unmoved_narrowsView, dropOwners_narrowsView, setEff_narrowsView]
  | vd n => simp only [unitShed, vdSafe_view unmoved_narrowsView, dropOwners_narrowsView]
  | vb b => exact each_view narrowsView (vdSafe_view unmoved_narrowsView) s _
  | sink n => exact sinkShed_narrowsView s n
  | stage g => exact each_view narrowsView sinkShed_narrowsView s _
  | matrix =>
    simp +decide only [unitShed, apply_ite narrowsView, unmoved_narrowsView.bit, matrixApply_view unmoved_narrowsView, setEff_narrowsView,
      dropOwners_narrowsView, ite_self]

theorem shedAll_narrowsView (s : State) : narrowsView (shedAll s) = narrowsView s :=
  (narrowsView_of_untouched (settleRaises_view unraised_untouched _)).trans (foldl_view narrowsView unitShed_narrowsView _ s)

/-! The journal part of the snapshot. -/

/-- What the journal's settlements and its registers leave: all that is no journal register and no journal store. -/
structure Unjournalled {β : Type} (g : State → β) : Prop where
  fld : ∀ s F n v, 0x50000 ≤ F.base → g (State.setFld s F n v) = g s
  journal : ∀ s j, g { s with journal := j } = g s

section
variable {β : Type} {g : State → β} (h : Unjournalled g)
include h

theorem ownPost_view (s : State) (q outcome col : Nat) (data : List Byte) : g (ownPost s q outcome col data) = g s := by
  unfold ownPost
  split
  · rfl
  · exact h.journal s _

theorem jShow_view (s : State) : g (jShow s) = g s := by
  have pair (t : State) (L H : Field) (v : Nat) (hL : 0x50000 ≤ L.base) (hH : 0x50000 ≤ H.base) : g (t.setPair L H 0 v) = g t :=
    (h.fld _ H 0 _ hH).trans (h.fld t L 0 v hL)
  unfold jShow
  extract_lets f a b c d e k
  have filled : g b = g s := by
    have busy (x : Bool) : g (a.setBit Reg.JOURNAL.STATUS.BUSY 0 x) = g a := h.fld a _ 0 _ (by decide)
    have shown : g b = g a := by simp only [b, apply_ite g, busy, ite_self]
    exact shown.trans (h.fld s _ 0 f (by decide))
  rw [h.fld k _ 0 _ (by decide), pair e _ _ _ (by decide) (by decide), pair d _ _ _ (by decide) (by decide),
    pair c _ _ _ (by decide) (by decide), pair b _ _ _ (by decide) (by decide)]
  exact filled

/-- The snapshot shows by SNAP_FULL that not every entry found room. -/
theorem jSnapshot_view (shared : ∀ s m, g { s with shared := m } = g s) (full : ∀ s, g (s.setBit Reg.TICK.STATUS.SNAP_FULL 0 true) = g s)
    (s : State) (n c : Nat) : g (jSnapshot s n c) = g s := by
  unfold jSnapshot
  extract_lets el a f m m' j b
  have settled : g a = g s := foldl_view g (fun t e => by simp [apply_ite g, ownPost_view h]) el s
  have stored : g b = g a := (h.journal _ _).trans (shared a m')
  rw [jShow_view h, apply_ite g, full, ite_self]
  exact stored.trans settled

theorem snapJournal_view (shared : ∀ s m, g { s with shared := m } = g s) (full : ∀ s, g (s.setBit Reg.TICK.STATUS.SNAP_FULL 0 true) = g s)
    (event : ∀ s l, g { s with laneEv := l } = g s) (s : State) (n c : Nat) : g (snapJournal s n c) = g s :=
  (event _ _).trans ((event _ _).trans (jSnapshot_view h shared full s n c))

end

theorem setFld_narrowsView (s : State) {F : Field} {n : Nat} (v : Nat) (hF : clearOfRaises (F.off n) = false) :
    narrowsView (s.setFld F n v) = narrowsView s := narrowsView_of_untouched (setFld_untouched s F n v hF)

theorem unjournalled_narrowsView : Unjournalled narrowsView where
  fld s _ n v hF := setFld_narrowsView s v (not_clearOfRaises n (by omega))
  journal _ _ := rfl

theorem snapJournal_narrowsView (s : State) (n c : Nat) : narrowsView (snapJournal s n c) = narrowsView s :=
  snapJournal_view unjournalled_narrowsView (fun _ _ => rfl) (fun s => setFld_narrowsView s 1 (by decide)) (fun _ _ => rfl) s n c

theorem unjournalled_seqState : Unjournalled State.seqState where
  fld s F n v hF := fld_setFld_elsewhere s v (by
    have : Reg.TICK.STATUS.STATE.off 0 = 0x10000 := by decide
    unfold Field.off at this ⊢; omega)
  journal _ _ := rfl

theorem snapJournal_seqState (s : State) (n c : Nat) : (snapJournal s n c).seqState = s.seqState :=
  snapJournal_view unjournalled_seqState (fun _ _ => rfl)
    (fun s => fld_setFld_neighbour s 0 1 (by decide) rfl rfl (by decide)) (fun _ _ => rfl) s n c

/-! The lanes of the narrows variant -/

/-- The index of each element of a list without duplicates. -/
theorem zipIdx_unique {α : Type} {l : List α} (distinct : l.Nodup) {p q : α × Nat} (hp : p ∈ l.zipIdx) (hq : q ∈ l.zipIdx)
    (same : q.1 = p.1) : q.2 = p.2 := by
  have atP : l[p.2]? = some p.1 := List.mem_zipIdx_iff_getElem?.1 hp
  have atQ : l[q.2]? = some q.1 := List.mem_zipIdx_iff_getElem?.1 hq
  have inside : q.2 < l.length := (List.getElem?_eq_some_iff.1 atQ).1
  exact (List.getElem?_inj inside distinct).1 (atQ.trans (same ▸ atP.symm))

theorem lanesIn_nodup (s : State) : (lanesIn s).Nodup := List.Nodup.filter _ List.nodup_range

theorem narrowsLanes_logical (s : State) {p : Nat × Nat} (hp : p ∈ (lanesIn s).zipIdx) : ((narrowsLanes s).lane p.1).logical = p.2 := by
  unfold narrowsLanes
  refine foldl_reaches (P := fun t => (t.lane p.1).logical = p.2) _ (fun t q hq before => ?_) hp (fun t => ?_) s
  · show ((t.setLane q.1 { t.lane q.1 with logical := q.2 }).lane p.1).logical = p.2
    rw [lane_setLane]
    split
    · next same => exact zipIdx_unique (lanesIn_nodup s) hp hq same.symm
    · exact before
  · exact congrArg Lane.logical (lane_setLane_same t p.1 _)

/-- What a start of the lanes afresh leaves: the sequencer, its state, the plan, the waiting raises and the logical lanes. -/
def lanesView (s : State) : Seq × Nat × Plan × List Raise × (Nat → Nat) := (s.seq, s.seqState, s.plan, s.raiseQ, s.untouched.logical)

theorem lanesView_setFld (s : State) {F : Field} {n : Nat} (v : Nat) (other : Reg.TICK.STATUS.STATE.off 0 ≠ F.off n) :
    lanesView (s.setFld F n v) = lanesView s := by
  unfold lanesView State.seqState
  rw [fld_setFld_elsewhere s v other]
  rfl

theorem lanesView_psave (s : State) (n : Nat) : lanesView (s.setFld Reg.SYS.LANE_PSAVE.REG n 0) = lanesView s := by
  have other : Reg.TICK.STATUS.STATE.off 0 ≠ Reg.SYS.LANE_PSAVE.REG.off n := by
    simp only [Field.off, Reg.TICK.STATUS.STATE, Reg.SYS.LANE_PSAVE.REG]; omega
  exact lanesView_setFld s 0 other

theorem lanesView_setLane (s : State) {n : Nat} {l : Lane} (kept : l.logical = (s.lane n).logical) :
    lanesView (s.setLane n l) = lanesView s := by
  have logical : (s.setLane n l).untouched.logical = s.untouched.logical := by
    funext m
    show ((s.setLane n l).lane m).logical = (s.lane m).logical
    rw [lane_setLane]
    split
    · next same => rw [same, kept]
    · rfl
  exact congrArg (fun f => ((s.seq, s.seqState, s.plan, s.raiseQ, f) : Seq × Nat × Plan × List Raise × (Nat → Nat))) logical

theorem dropPlains_lanesView (s : State) : lanesView (dropPlains s) = lanesView s := each_view lanesView lanesView_psave s _

theorem dropContexts_lanesView (s : State) : lanesView (dropContexts s) = lanesView s :=
  (each_view lanesView (fun t n => by
    simp only [apply_ite lanesView, lanesView_setLane, ite_self]) _ _).trans (dropPlains_lanesView s)

theorem freshLanes_lanesView (s : State) : lanesView (freshLanes s) = lanesView s := by
  unfold freshLanes
  refine each_view lanesView (fun t n => ?_) s _
  rw [lanesView_psave]
  exact lanesView_setLane t rfl

/-! The saved plains contexts -/

/-- No lane has a saved plains context. -/
def noContexts (s : State) : Prop := ∀ n, n < 4 → s.fld Reg.SYS.LANE_PSAVE.REG n = 0

theorem psave_cleared (s : State) (n m : Nat) (free : m = n ∨ s.fld Reg.SYS.LANE_PSAVE.REG m = 0) :
    (s.setFld Reg.SYS.LANE_PSAVE.REG n 0).fld Reg.SYS.LANE_PSAVE.REG m = 0 := by
  by_cases same : m = n
  · rw [same, fld_setFld_same _ _ _ _ (by decide), Nat.zero_mod]
  · have other : Reg.SYS.LANE_PSAVE.REG.off m ≠ Reg.SYS.LANE_PSAVE.REG.off n := by
      simp only [Field.off, Reg.SYS.LANE_PSAVE.REG]; omega
    rw [fld_setFld_elsewhere s 0 other]
    exact free.resolve_left same

theorem dropPlains_noContexts (s : State) : noContexts (dropPlains s) := fun n low =>
  foldl_reaches (P := fun t => t.fld Reg.SYS.LANE_PSAVE.REG n = 0) (upTo 4) (fun t m _ before => psave_cleared t m n (.inr before))
    (List.mem_range.2 low) (fun t => psave_cleared t n n (.inl rfl)) s

theorem dropContexts_noContexts (s : State) : noContexts (dropContexts s) := fun n low => by
  refine (each_view (fun t => t.fld Reg.SYS.LANE_PSAVE.REG n) (fun t m => ?_) (dropPlains s) _).trans (dropPlains_noContexts s n low)
  dsimp only
  split <;> rfl

theorem freshLanes_noContexts {s : State} (none' : noContexts s) : noContexts (freshLanes s) := fun n low =>
  List.foldlRecOn (motive := fun t : State => t.fld Reg.SYS.LANE_PSAVE.REG n = 0) (lanesIn s) _ (none' n low)
    fun _ before m _ => psave_cleared _ m n (.inr before)

theorem noContexts_of_narrowsView {s t : State} (h : narrowsView t = narrowsView s) (none' : noContexts s) : noContexts t := by
  intro n low
  have clear : clearOfRaises (Reg.SYS.LANE_PSAVE.REG.off n) = true := by
    have small : Reg.SYS.LANE_PSAVE.REG.off n < 0x1000 := by simp only [Field.off, Reg.SYS.LANE_PSAVE.REG]; omega
    simp only [clearOfRaises, Bool.and_eq_true, decide_eq_true_eq, bne_iff_ne]
    exact ⟨by omega, by omega⟩
  have words := congrFun (congrArg (·.2.2.2) h) (Reg.SYS.LANE_PSAVE.REG.off n)
  have word : t.word (Reg.SYS.LANE_PSAVE.REG.off n) = s.word (Reg.SYS.LANE_PSAVE.REG.off n) := by
    simpa [narrowsView, State.untouched, clear] using words
  rw [State.fld, word]
  exact none' n low

/-! The switch -/

/-- The narrows variant before its objects are shed. -/
def narrowsBegun (s : State) : State := freshLanes (dropContexts (toNarrows s))

theorem narrowsLanes_view (s : State) : (narrowsLanes s).seq = s.seq ∧ (narrowsLanes s).seqState = s.seqState ∧
    (narrowsLanes s).plan = s.plan ∧ (narrowsLanes s).raiseQ = s.raiseQ := by
  have kept := foldl_view (fun t : State => (t.seq, t.seqState, t.plan, t.raiseQ)) (f := fun t (p : Nat × Nat) =>
    { t.setLane p.1 { t.lane p.1 with logical := p.2 } with dmem := placeData t.dmem t.plan 1 p.2 p.1 }) (fun _ _ => rfl)
    (lanesIn s).zipIdx s
  simp only [Prod.mk.injEq] at kept
  exact kept

theorem narrowsBegun_rest (s : State) : (freshLanes (dropContexts (narrowsLanes s))).seq = s.seq ∧
    (freshLanes (dropContexts (narrowsLanes s))).seqState = s.seqState ∧ (freshLanes (dropContexts (narrowsLanes s))).plan = s.plan ∧
    (freshLanes (dropContexts (narrowsLanes s))).raiseQ = s.raiseQ ∧
    ∀ p ∈ (lanesIn s).zipIdx, ((freshLanes (dropContexts (narrowsLanes s))).lane p.1).logical = p.2 := by
  have view := (freshLanes_lanesView _).trans (dropContexts_lanesView (narrowsLanes s))
  simp only [lanesView, Prod.mk.injEq] at view
  obtain ⟨seq, state, plan, queue, logical⟩ := view
  obtain ⟨seq', state', plan', queue'⟩ := narrowsLanes_view s
  exact ⟨seq.trans seq', state.trans state', plan.trans plan', queue.trans queue',
    fun p hp => by rw [← untouched_logical, logical, untouched_logical, narrowsLanes_logical s hp]⟩

theorem enter_seqState (s : State) {q : Nat} (hq : q < 8) : (s.enter q).seqState = q :=
  (fld_setFld_same s Reg.TICK.STATUS.STATE 0 q (by decide)).trans (Nat.mod_eq_of_lt hq)

theorem setFld_rest (s : State) (F : Field) (n v : Nat) : (s.setFld F n v).plan = s.plan ∧ (s.setFld F n v).raiseQ = s.raiseQ ∧
    lanesIn (s.setFld F n v) = lanesIn s := ⟨rfl, rfl, rfl⟩

theorem narrowsBegun_holds (s : State) : (narrowsBegun s).seq.narrows = true ∧ (narrowsBegun s).seq.lossAt = none ∧
    (narrowsBegun s).seqState = seqNarrows ∧ (narrowsBegun s).plan = s.plan ∧ (narrowsBegun s).raiseQ = s.raiseQ ∧
    (∀ p ∈ (lanesIn s).zipIdx, ((narrowsBegun s).lane p.1).logical = p.2) ∧ noContexts (narrowsBegun s) := by
  obtain ⟨seq, state, plan, queue, logical⟩ :=
    narrowsBegun_rest { s.enter seqNarrows with seq := { s.seq with narrows := true, lossAt := none } }
  obtain ⟨plan', queue', lanes⟩ := setFld_rest s Reg.TICK.STATUS.STATE 0 seqNarrows
  exact ⟨congrArg Seq.narrows seq, congrArg Seq.lossAt seq, state.trans (enter_seqState s (by decide)), plan.trans plan',
    queue.trans queue', fun p hp => logical p (lanes ▸ hp), freshLanes_noContexts (dropContexts_noContexts _)⟩

theorem shedAll_of_nothing_to_shed {s : State} (none' : shedRecords s.plan = []) (quiet : s.raiseQ = []) : shedAll s = s := by
  rw [shedAll, none', List.flatMap_nil, List.foldl_nil, settleRaises_of_quiet quiet]

/-- Settles O14: the lanes are numbered as the variant comes into force, and neither the shedding nor the snapshot is seen by the
view of what the switch brings about. -/
theorem narrowsFollowsALaneLoss : Obligations.NarrowsFollowsALaneLoss := by
  intro s d loss runs
  refine ⟨fun due => ?_, fun early => ?_⟩
  · have run : exec .narrowsSwitch s = .next (snapJournal (shedAll (narrowsBegun s)) s.colNum s.colCount) := by
      show execNarrowsSwitch s = _
      unfold execNarrowsSwitch
      rw [loss]
      exact if_pos ⟨runs, due⟩
    obtain ⟨narrows, lossAt, state, plan, queue, logical, none'⟩ := narrowsBegun_holds s
    have view := (snapJournal_narrowsView _ s.colNum s.colCount).trans (shedAll_narrowsView (narrowsBegun s))
    have none'' := noContexts_of_narrowsView view none'
    simp only [narrowsView, Prod.mk.injEq] at view
    obtain ⟨narrowsKept, lossKept, logicalKept, -⟩ := view
    refine ⟨_, run, narrowsKept.trans narrows, lossKept.trans lossAt, fun p hp => ?_, fun nothing quiet => ?_, none''⟩
    · rw [← untouched_logical, logicalKept, untouched_logical]
      exact logical p hp
    · rw [snapJournal_seqState, shedAll_of_nothing_to_shed (plan ▸ nothing) (queue.trans quiet), state]
  · show execNarrowsSwitch s = _
    unfold execNarrowsSwitch
    rw [loss]
    exact if_neg (by omega)

end Sys2Proof.Machine
end

section
namespace Sys2Proof.Machine

/-! ### Handovers (R58, R67 to R70) -/

/-! A copy between memories, at the same addresses -/

/-- In a map of canonical form an entry is what its key reads as. -/
theorem smapGet_of_mem {α : Type} [DecidableEq α] (dflt : Nat → α) {m : List (Nat × α)} (wf : smapWf dflt m = true) {p : Nat × α}
    (hp : p ∈ m) : smapGet dflt m p.1 = p.2 := by
  induction m with
  | nil => cases hp
  | cons q m ih =>
    simp only [smapWf, Bool.and_eq_true] at wf
    obtain ⟨⟨-, rising⟩, wf⟩ := wf
    rcases List.mem_cons.1 hp with rfl | hp
    · exact if_pos rfl
    · exact (if_neg (Nat.ne_of_lt (smapRising_lt rising p hp))).trans (ih wf hp)

/-- What a copy to the same addresses leaves there is what stood in the memory it copies from. -/
theorem rdByte_copyBytes {old : List (Nat × Byte)} (wf : Memory.wf old = true) (m : List (Nat × Byte)) {a n x : Nat} (low : a ≤ x)
    (high : x < a + n) : rdByte (copyBytes old a n m a) x = rdByte old x := by
  have cleared : rdByte (clearBytes m a n) x = 0 := by
    refine smapGet_of_not_mem _ fun listed => ?_
    obtain ⟨p, hp, rfl⟩ := List.mem_map.1 listed
    have outside := (List.mem_filter.1 hp).2
    simp only [Bool.or_eq_true, decide_eq_true_eq] at outside
    omega
  let moved := moveBytes old a n a
  have values : ∀ p ∈ moved, p.2 = rdByte old p.1 := by
    intro p hp
    obtain ⟨q, hq, rfl⟩ := List.mem_map.1 hp
    obtain ⟨hq, inside⟩ := List.mem_filter.1 hq
    simp only [Bool.and_eq_true, decide_eq_true_eq] at inside
    rw [Nat.sub_add_cancel inside.1]
    exact (smapGet_of_mem _ wf hq).symm
  have copied : copyBytes old a n m a =
      (moved.map Prod.fst).foldl (fun m o => smapSet (fun _ => 0) m o (rdByte old o)) (clearBytes m a n) := by
    rw [List.foldl_map]
    refine List.foldl_ext _ _ _ fun t p hp => ?_
    rw [wrByte, values p hp]
  rw [copied, rdByte, smapGet_foldl_set]
  split
  · rfl
  · next absent =>
    refine cleared.trans (Eq.symm (a := rdByte old x) (smapGet_of_not_mem (fun _ => 0) fun listed => absent ?_))
    obtain ⟨q, hq, rfl⟩ := List.mem_map.1 listed
    refine List.mem_map.2 ⟨(q.1 - a + a, q.2), List.mem_map.2 ⟨q, List.mem_filter.2 ⟨hq, by simp; omega⟩, rfl⟩, Nat.sub_add_cancel low⟩

/-! The handover itself -/

/-- What a handover is to bring about, but for the memories and the saved contexts: the sequencer and its registers, and the plans. -/
structure HandView where
  state : Nat
  armed : Bool
  period : Nat
  based : Bool
  num : Nat
  count : Nat
  seq : Seq
  plan : Plan
  shadow : Plan

def State.handView (s : State) : HandView where
  state := s.seqState
  armed := hoArmed s
  period := s.fld Reg.TICK.PERIOD.T 0
  based := s.bit Reg.TICK.STATUS.BASE_AL 0
  num := s.colNum
  count := s.colCount
  seq := s.seq
  plan := s.plan
  shadow := s.shadow

theorem of_handView {s : State} {v : HandView} (h : s.handView = v) : s.seqState = v.state ∧ s.plan = v.plan ∧ s.shadow = v.shadow ∧
    hoArmed s = v.armed ∧ s.fld Reg.TICK.PERIOD.T 0 = v.period ∧ s.seq = v.seq ∧ s.bit Reg.TICK.STATUS.BASE_AL 0 = v.based := by
  subst h
  exact ⟨rfl, rfl, rfl, rfl, rfl, rfl, rfl⟩

/-- Registers of other offsets than those of the view. -/
def besideHandView (o : Nat) : Bool :=
  o != 0x10000 && o != 0x10004 && o != 0x10008 && o != 0x1000C && o != 0x10010 && o != 0x10014

/-- A write to a register is seen by what it makes of six of them. -/
theorem setFld_handView_as (s : State) {F : Field} {n v state period num count : Nat} {armed based : Bool}
    (state' : (s.setFld F n v).seqState = state) (armed' : hoArmed (s.setFld F n v) = armed)
    (period' : (s.setFld F n v).fld Reg.TICK.PERIOD.T 0 = period) (based' : (s.setFld F n v).bit Reg.TICK.STATUS.BASE_AL 0 = based)
    (num' : (s.setFld F n v).colNum = num) (count' : (s.setFld F n v).colCount = count) : (s.setFld F n v).handView =
      { s.handView with state := state, armed := armed, period := period, based := based, num := num, count := count } := by
  simp only [State.handView, state', armed', period', based', num', count']
  rfl

theorem pair_setFld_elsewhere (s : State) {L H F : Field} {m n : Nat} (v : Nat) (low : L.off m ≠ F.off n) (high : H.off m ≠ F.off n) :
    (s.setFld F n v).pair L H m = s.pair L H m := by
  rw [State.pair, fld_setFld_elsewhere s v low, fld_setFld_elsewhere s v high, State.pair]

theorem bit_setFld_elsewhere (s : State) {F G : Field} {n m : Nat} (v : Nat) (h : G.off m ≠ F.off n) :
    (s.setFld F n v).bit G m = s.bit G m := by
  rw [State.bit, fld_setFld_elsewhere s v h, State.bit]

theorem setFld_handView (s : State) {F : Field} {n : Nat} (v : Nat) (beside : besideHandView (F.off n) = true) :
    (s.setFld F n v).handView = s.handView := by
  simp only [besideHandView, Bool.and_eq_true, bne_iff_ne] at beside
  obtain ⟨⟨⟨⟨⟨status, period⟩, lo⟩, hi⟩, numLo⟩, numHi⟩ := beside
  exact setFld_handView_as s (fld_setFld_elsewhere s v status.symm) (bit_setFld_elsewhere s v status.symm)
    (fld_setFld_elsewhere s v period.symm) (bit_setFld_elsewhere s v status.symm) (pair_setFld_elsewhere s v numLo.symm numHi.symm)
    (pair_setFld_elsewhere s v lo.symm hi.symm)

/-- A write to TICK.STATUS is seen by what it makes of STATE, HO_ARMED and BASE_AL. -/
theorem setStatus_handView (s : State) {F : Field} {v state : Nat} {armed based : Bool} (off : F.off 0 = 0x10000)
    (state' : (s.setFld F 0 v).seqState = state) (armed' : hoArmed (s.setFld F 0 v) = armed)
    (based' : (s.setFld F 0 v).bit Reg.TICK.STATUS.BASE_AL 0 = based) :
    (s.setFld F 0 v).handView = { s.handView with state := state, armed := armed, based := based } := by
  have other {o : Nat} (h : o ≠ 0x10000) : o ≠ F.off 0 := off ▸ h
  exact setFld_handView_as s state' armed' (fld_setFld_elsewhere s v (other (by decide))) based'
    (pair_setFld_elsewhere s v (other (by decide)) (other (by decide))) (pair_setFld_elsewhere s v (other (by decide)) (other (by decide)))

theorem setArmed_handView (s : State) (v : Nat) :
    (s.setFld Reg.TICK.STATUS.HO_ARMED 0 v).handView = { s.handView with armed := v % 2 != 0 } :=
  setStatus_handView s rfl (fld_setFld_neighbour s 0 v (by decide) rfl rfl (by decide))
    (congrArg (· != 0) (fld_setFld_same s Reg.TICK.STATUS.HO_ARMED 0 v (by decide)))
    (congrArg (· != 0) (fld_setFld_neighbour s (G := Reg.TICK.STATUS.BASE_AL) 0 v (by decide) rfl rfl (by decide)))

theorem enter_handView (s : State) {q : Nat} (hq : q < 8) : (s.enter q).handView = { s.handView with state := q } :=
  setStatus_handView s rfl (enter_seqState s hq)
    (congrArg (· != 0) (fld_setFld_neighbour s (G := Reg.TICK.STATUS.HO_ARMED) 0 q (by decide) rfl rfl (by decide)))
    (congrArg (· != 0) (fld_setFld_neighbour s (G := Reg.TICK.STATUS.BASE_AL) 0 q (by decide) rfl rfl (by decide)))

theorem unbased_handView (s : State) : (s.setBit Reg.TICK.STATUS.BASE_AL 0 false).handView = { s.handView with based := false } :=
  setStatus_handView s rfl (fld_setFld_neighbour s 0 _ (by decide) rfl rfl (by decide))
    (congrArg (· != 0) (fld_setFld_neighbour s (G := Reg.TICK.STATUS.HO_ARMED) 0 _ (by decide) rfl rfl (by decide)))
    (bit_setBit_same s _ 0 (by decide))

theorem period_handView (s : State) (v : Nat) :
    (s.setFld Reg.TICK.PERIOD.T 0 v).handView = { s.handView with period := v % 2 ^ 19 } :=
  setFld_handView_as s (fld_setFld_elsewhere s v (by decide)) (bit_setFld_elsewhere s v (by decide))
    (fld_setFld_same s Reg.TICK.PERIOD.T 0 v (by decide)) (bit_setFld_elsewhere s v (by decide))
    (pair_setFld_elsewhere s v (by decide) (by decide)) (pair_setFld_elsewhere s v (by decide) (by decide))

theorem planShow_handView (s : State) : (planShow s).handView = { s.handView with period := s.plan.ticks % 2 ^ 19 } := by
  simp (disch := decide) only [planShow, State.setFlds, setFld_handView, period_handView]

theorem setFld_shared (s : State) (F : Field) (n v : Nat) : (s.setFld F n v).shared = s.shared := (rfl)

/-- The plans change places at col H: registers, sequencer and variant tables follow the shadow plan. -/
def hoSwitched (s : State) : State := planShow ({ s with plan := s.shadow, shadow := Plan.empty }.enter seqHandover)

theorem hoSwitched_handView (s : State) : (hoSwitched s).handView =
    { s.handView with state := seqHandover, plan := s.shadow, shadow := Plan.empty, period := s.shadow.ticks % 2 ^ 19 } := by
  unfold hoSwitched
  rw [planShow_handView, enter_handView _ (by decide)]
  rfl

/-- The origin of aligned cols moves to col H when the period changes. -/
def hoRebased (s : State) (rebase : Bool) : State :=
  if rebase then { s with seq := { s.seq with baseN := s.colNum, baseC := s.colCount } }.setBit Reg.TICK.STATUS.BASE_AL 0 false else s

theorem hoRebased_handView (s : State) (rebase : Bool) : (hoRebased s rebase).handView =
    let v := s.handView
    if rebase then { v with based := false, seq := { v.seq with baseN := v.num, baseC := v.count } } else v := by
  cases rebase
  · rfl
  · exact unbased_handView _

/-- The handover is no longer armed, and the supply moves when the performance level falls. -/
def hoSupplied (s : State) : State :=
  let t := s.setFlds [(Reg.TICK.STATUS.HO_ARMED, 0, 0), (Reg.TICK.CTRL.HO_ARM, 0, 0)]
  if s.plan.level < s.shadow.level then supplyMove t (t.colCount + 100) else t

theorem hoSupplied_handView (s : State) : (hoSupplied s).handView = { s.handView with armed := false } := by
  unfold hoSupplied
  extract_lets t
  have disarmed : t.handView = { s.handView with armed := false } := by
    simp (disch := decide) only [t, State.setFlds, setFld_handView, setArmed_handView]
    rfl
  split
  · exact disarmed
  · exact disarmed

/-- Cols of the plan's period and level open from here. -/
def hoRated (s : State) : State := { s with seq := { s.seq with period := s.plan.ticks, k := levelK s.plan.level } }

theorem hoRated_handView (s : State) : (hoRated s).handView =
    { s.handView with seq := { s.handView.seq with period := s.handView.plan.ticks, k := levelK s.handView.plan.level } } := rfl

/-- The state from which the new plan's memories are placed: the plan is in force, with its period and supply. -/
def hoInForce (s : State) : State := hoRated (hoRebased (hoSwitched (hoSupplied s)) (s.shadow.ticks != s.plan.ticks))

/-- The view once a handover has put the plan `shadow` in force over the view `v`. -/
def HandView.handedOver (v : HandView) (shadow : Plan) (rebase : Bool) : HandView where
  state := seqHandover
  armed := false
  period := shadow.ticks % 2 ^ 19
  based := !rebase && v.based
  num := v.num
  count := v.count
  seq := { v.seq with
    period := shadow.ticks, k := levelK shadow.level
    baseN := if rebase then v.num else v.seq.baseN, baseC := if rebase then v.count else v.seq.baseC }
  plan := shadow
  shadow := Plan.empty

theorem hoInForce_handView (s : State) :
    (hoInForce s).handView = s.handView.handedOver s.shadow (s.shadow.ticks != s.plan.ticks) := by
  have shadow : (hoSupplied s).shadow = s.shadow := congrArg HandView.shadow (hoSupplied_handView s)
  unfold hoInForce
  rw [hoRated_handView, hoRebased_handView, hoSwitched_handView, hoSupplied_handView, shadow]
  cases s.shadow.ticks != s.plan.ticks <;> rfl

/-! The memories of the new plan -/

theorem carryState_shared (s : State) {old : List (Nat × Byte)} (wf : Memory.wf old = true) {a : Nat} (low : 0x1E0000 ≤ a)
    (high : a < 0x200000) : rdByte (carryState s old).shared a = rdByte old a :=
  rdByte_copyBytes wf _ low high

/-- Registers outside the TICK block are none of the view's. -/
theorem besideHandView_of_outside {o : Nat} (outside : o < 0x10000 ∨ 0x20000 ≤ o) : besideHandView o = true := by
  simp only [besideHandView, Bool.and_eq_true, bne_iff_ne]
  exact ⟨⟨⟨⟨⟨by omega, by omega⟩, by omega⟩, by omega⟩, by omega⟩, by omega⟩

theorem unjournalled_handView : Unjournalled State.handView where
  fld s F n v hF := setFld_handView s v (besideHandView_of_outside (.inr (by unfold Field.off; omega)))
  journal _ _ := rfl

theorem dropPlains_handView (s : State) : (dropPlains s).handView = s.handView := by
  unfold dropPlains State.each
  refine List.foldlRecOn (motive := fun t : State => t.handView = s.handView) (upTo 4) _ rfl fun t before n hn => ?_
  have low : n < 4 := List.mem_range.1 hn
  have off : Reg.SYS.LANE_PSAVE.REG.off n < 0x10000 := by simp only [Field.off, Reg.SYS.LANE_PSAVE.REG]; omega
  exact (setFld_handView t 0 (besideHandView_of_outside (.inl off))).trans before

/-- Handover commands for the col in force are settled APPLIED. -/
def hoSettled (s : State) : State := (namedFor s 3 s.colNum).foldl (fun t e => ownPost t e.seq 1 t.colNum []) s

theorem hoSettled_handView (s : State) : (hoSettled s).handView = s.handView := by
  unfold hoSettled
  exact foldl_view State.handView (fun t e => ownPost_view unjournalled_handView t _ _ _ _) _ s

/-- The plan in force with its memories: its settlements posted, its code, data and carried state placed. -/
def hoPlaced (s t : State) : State :=
  carryState (placeLanes (hoSettled t)) s.shared

theorem carryState_handView (s : State) (old : List (Nat × Byte)) : (carryState s old).handView = s.handView := by
  unfold carryState
  generalize s.plan.sec 6 0xFF 0xFF = map
  rfl

theorem placeLanes_handView (s : State) : (placeLanes s).handView = s.handView := rfl

theorem hoPlaced_handView (s t : State) : (hoPlaced s t).handView = t.handView := by
  unfold hoPlaced
  rw [carryState_handView, placeLanes_handView, hoSettled_handView]

theorem hoSupplied_shared (s : State) : (hoSupplied s).shared = s.shared := by
  unfold hoSupplied
  extract_lets t
  have disarmed : t.shared = s.shared := by simp only [t, State.setFlds, setFld_shared]
  split
  · exact disarmed
  · exact disarmed

theorem exec_handover {s : State} (armed : hoArmed s = true) (due : s.colNum = hoCol s)
    (runs : s.seqState = seqRun ∨ s.seqState = seqNarrows) :
    exec .handover s = .next (dropPlains (hoPlaced (hoSupplied s) (hoInForce s))) := by
  have serves : ¬(!(hoArmed s && s.colNum == hoCol s && (s.seqState == seqRun || s.seqState == seqNarrows))) = true := by
    rcases runs with runs | runs <;> simp [armed, due, runs]
  show execHandover s = _
  unfold execHandover
  rw [if_neg serves]
  rfl

theorem hoPlaced_shared (s : State) {t : State} (wf : Memory.wf s.shared = true) {a : Nat} (low : 0x1E0000 ≤ a) (high : a < 0x200000) :
    rdByte (dropPlains (hoPlaced s t)).shared a = rdByte s.shared a := by
  have kept : (dropPlains (hoPlaced s t)).shared = (hoPlaced s t).shared :=
    each_view State.shared (fun u n => setFld_shared u _ n 0) _ _
  rw [kept]
  exact carryState_shared _ wf low high

/-- A handover at its col. -/
theorem handover_holds {s : State} (armed : hoArmed s = true) (due : s.colNum = hoCol s)
    (runs : s.seqState = seqRun ∨ s.seqState = seqNarrows) (mem : s.memOk = true) :
    Ends .handover s fun t =>
      t.seqState = seqHandover ∧ t.plan = s.shadow ∧ t.shadow = Plan.empty ∧ hoArmed t = false ∧
      t.fld Reg.TICK.PERIOD.T 0 = s.shadow.ticks % 2 ^ 19 ∧ t.seq.k = levelK s.shadow.level ∧
      (s.shadow.ticks ≠ s.plan.ticks → t.seq.baseN = s.colNum ∧ t.seq.baseC = s.colCount ∧ t.bit Reg.TICK.STATUS.BASE_AL 0 = false) ∧
      (∀ a, 0x1E0000 ≤ a → a < 0x200000 → rdByte t.shared a = rdByte s.shared a) ∧
      (∀ n, n < 4 → t.fld Reg.SYS.LANE_PSAVE.REG n = 0) := by
  have wf : Memory.wf (hoSupplied s).shared = true := by
    simp only [State.memOk, Bool.and_eq_true] at mem
    rw [hoSupplied_shared]
    exact mem.1.2
  have view := (dropPlains_handView (hoPlaced (hoSupplied s) (hoInForce s))).trans ((hoPlaced_handView _ _).trans (hoInForce_handView s))
  obtain ⟨state, plan, shadow, armed', period, seq, based⟩ := of_handView view
  refine ⟨_, exec_handover armed due runs, state, plan, shadow, armed', period, congrArg Seq.k seq, fun differs => ?_,
    fun a low high => ?_, dropPlains_noContexts _⟩
  · have rebase : (s.shadow.ticks != s.plan.ticks) = true := bne_iff_ne.2 differs
    rw [rebase] at seq based
    exact ⟨congrArg Seq.baseN seq, congrArg Seq.baseC seq, based⟩
  · rw [hoPlaced_shared _ wf low high, hoSupplied_shared]

/-! Arms (R67) -/

/-- What arms and aborts are to bring about, and what a raise asks for: the arm, its col, the update engine, the shadow plan, the
collector. -/
structure ArmView where
  armed : Bool
  col : Nat
  upd : Nat
  shadow : Plan
  update : Update
  up : Bool
  shut : Bool
  queue : List Raise

def State.armView (s : State) : ArmView where
  armed := hoArmed s
  col := hoCol s
  upd := updState s
  shadow := s.shadow
  update := s.update
  up := s.collectorUp
  shut := s.bit Reg.FAULT.STATUS.TERMINAL 0
  queue := s.raiseQ

theorem of_armView {s : State} {v : ArmView} (h : s.armView = v) :
    hoArmed s = v.armed ∧ hoCol s = v.col ∧ updState s = v.upd ∧ s.shadow = v.shadow ∧ s.update = v.update := by
  subst h
  exact ⟨rfl, rfl, rfl, rfl, rfl⟩

theorem Live.of_armView {s t : State} (live : Live s) (up : t.armView.up = s.armView.up) (shut : t.armView.shut = s.armView.shut)
    (queue : t.armView.queue = s.armView.queue) : Live t := ⟨up.trans live.up, shut.trans live.open', queue.trans live.quiet⟩

/-- A write to a register is seen by what it makes of five of them. -/
theorem setFld_armView_as (s : State) {F : Field} {n v col upd : Nat} {armed shut : Bool} (armed' : hoArmed (s.setFld F n v) = armed)
    (col' : hoCol (s.setFld F n v) = col) (upd' : updState (s.setFld F n v) = upd)
    (shut' : (s.setFld F n v).bit Reg.FAULT.STATUS.TERMINAL 0 = shut) :
    (s.setFld F n v).armView = { s.armView with armed := armed, col := col, upd := upd, shut := shut } := by
  simp only [State.armView, armed', col', upd', shut']
  rfl

/-- Registers of other offsets than those of the view. -/
def besideArmView (o : Nat) : Bool := o != 0x10000 && o != 0x10028 && o != 0x1002C && o != 0x2C0000 && o != 0x30000

theorem setFld_armView (s : State) {F : Field} {n : Nat} (v : Nat) (beside : besideArmView (F.off n) = true) :
    (s.setFld F n v).armView = s.armView := by
  simp only [besideArmView, Bool.and_eq_true, bne_iff_ne] at beside
  obtain ⟨⟨⟨⟨status, lo⟩, hi⟩, upd⟩, shut⟩ := beside
  exact setFld_armView_as s (bit_setFld_elsewhere s v status.symm) (pair_setFld_elsewhere s v lo.symm hi.symm)
    (fld_setFld_elsewhere s v upd.symm) (bit_setFld_elsewhere s v shut.symm)

theorem setFld_armView_above (s : State) {F : Field} (n v : Nat) (above : 0x2C0000 < F.base) : (s.setFld F n v).armView = s.armView :=
  setFld_armView s v (by
    have off : 0x2C0000 < F.off n := by unfold Field.off; omega
    simp only [besideArmView, Bool.and_eq_true, bne_iff_ne]
    exact ⟨⟨⟨⟨by omega, by omega⟩, by omega⟩, by omega⟩, by omega⟩)

theorem setArmed_armView (s : State) (v : Nat) :
    (s.setFld Reg.TICK.STATUS.HO_ARMED 0 v).armView = { s.armView with armed := v % 2 != 0 } :=
  setFld_armView_as s (congrArg (· != 0) (fld_setFld_same s Reg.TICK.STATUS.HO_ARMED 0 v (by decide)))
    (pair_setFld_elsewhere s v (by decide) (by decide)) (fld_setFld_elsewhere s v (by decide)) (bit_setFld_elsewhere s v (by decide))

/-- A write to UPDATE.STATUS is seen by what it makes of STATE. -/
theorem setUpdStatus_armView (s : State) {F : Field} {v upd : Nat} (off : F.off 0 = 0x2C0000) (upd' : updState (s.setFld F 0 v) = upd) :
    (s.setFld F 0 v).armView = { s.armView with upd := upd } := by
  have other {o : Nat} (h : o ≠ 0x2C0000) : o ≠ F.off 0 := off ▸ h
  exact setFld_armView_as s (bit_setFld_elsewhere s v (other (by decide)))
    (pair_setFld_elsewhere s v (other (by decide)) (other (by decide))) upd' (bit_setFld_elsewhere s v (other (by decide)))

theorem updTo_armView (s : State) {q : Nat} (hq : q < 16) : (updTo s q).armView = { s.armView with upd := q } :=
  setUpdStatus_armView s rfl ((fld_setFld_same s Reg.UPDATE.STATUS.STATE 0 q (by decide)).trans (Nat.mod_eq_of_lt hq))

/-- The fields of UPDATE.STATUS above STATE. -/
theorem updStatus_armView (s : State) {F : Field} (v : Nat) (hb : F.base = Reg.UPDATE.STATUS.STATE.base) (hs : F.stride = 0)
    (above : 4 ≤ F.lo) (hF : F.lo + F.len ≤ 32) : (s.setFld F 0 v).armView = s.armView :=
  setUpdStatus_armView s (by rw [Field.off, hb, hs]; rfl) (fld_setFld_neighbour s 0 v hF hb.symm hs.symm (.inl above))

theorem updErr_armView (s : State) (e : Nat) : (updErr s e).armView = s.armView :=
  updStatus_armView s (F := Reg.UPDATE.STATUS.ERR) e rfl rfl (by decide) (by decide)

/-- A pair of whole words reads as the 64 low bits of what was written. -/
theorem pair_setPair (s : State) {L H : Field} (n : Nat) (hL : L.len = 32) (hH : H.len = 32) (hLlo : L.lo = 0) (hHlo : H.lo = 0)
    (apart : L.off n ≠ H.off n) (v : Nat) : (s.setPair L H n v).pair L H n = v % 2 ^ 64 := by
  unfold State.setPair State.pair
  rw [fld_setFld_same _ H n _ (by omega), fld_setFld_elsewhere _ _ apart, fld_setFld_same _ L n _ (by omega), hL, hH]
  omega

theorem pair_lt (s : State) {L H : Field} (n : Nat) (hL : L.len = 32) (hH : H.len = 32) : s.pair L H n < 2 ^ 64 := by
  have low : s.fld L n < 2 ^ L.len := Nat.mod_lt _ (Nat.two_pow_pos _)
  have high : s.fld H n < 2 ^ H.len := Nat.mod_lt _ (Nat.two_pow_pos _)
  rw [hL] at low
  rw [hH] at high
  unfold State.pair
  omega

theorem setPair_armView (s : State) {L H : Field} {n : Nat} (v : Nat) (col : hoCol (s.setPair L H n v) = hoCol s)
    (beside : ∀ G : Field, G.off 0 ∈ [0x10000, 0x2C0000, 0x30000] → G.off 0 ≠ L.off n ∧ G.off 0 ≠ H.off n) :
    (s.setPair L H n v).armView = s.armView := by
  have other (G : Field) (hG : G.off 0 ∈ [0x10000, 0x2C0000, 0x30000]) : (s.setPair L H n v).fld G 0 = s.fld G 0 := by
    obtain ⟨low, high⟩ := beside G hG
    exact (fld_setFld_elsewhere _ _ high).trans (fld_setFld_elsewhere s _ low)
  simp only [State.armView, col, hoArmed, updState, State.bit, other Reg.TICK.STATUS.HO_ARMED (by decide),
    other Reg.UPDATE.STATUS.STATE (by decide), other Reg.FAULT.STATUS.TERMINAL (by decide)]
  rfl

theorem setHoCol_armView (s : State) : (s.setPair Reg.TICK.HO_COL_LO.NUMBER Reg.TICK.HO_COL_HI.NUMBER 0 (hoCol s)).armView = s.armView := by
  refine setPair_armView s _ ((pair_setPair s 0 rfl rfl rfl rfl (by decide) _).trans (Nat.mod_eq_of_lt (pair_lt s 0 rfl rfl))) ?_
  intro G hG
  have lo : Reg.TICK.HO_COL_LO.NUMBER.off 0 = 0x10028 := by decide
  have hi : Reg.TICK.HO_COL_HI.NUMBER.off 0 = 0x1002C := by decide
  simp only [List.mem_cons, List.not_mem_nil, or_false] at hG
  rw [lo, hi]
  omega

theorem power_armView (s : State) (p : Power) : { s with power := p }.armView = s.armView := rfl

theorem sleepAbort_armView (s : State) : (sleepAbort s).armView = s.armView := by
  unfold sleepAbort sleepDisarm wakePulse
  extract_lets a len
  have aborted : a.armView = s.armView := by
    unfold a State.satAdd State.setBit
    simp (disch := decide) only [setFld_armView_above]
  split
  · exact (power_armView _ _).trans aborted
  · exact aborted

theorem wakeEvent_armView (s : State) (b u : Nat) : (wakeEvent s b u).armView = s.armView := by
  unfold wakeEvent
  extract_lets on st old a c p d
  have first : a.armView = s.armView := by
    unfold a
    split
    · simp (disch := decide) only [State.setFlds, setFld_armView_above]
    · rfl
  have noted : c.armView = s.armView := (setFld_armView_above a 0 _ (by decide)).trans first
  have late : d.armView = s.armView := by
    unfold d State.satAdd State.setBit
    simp (disch := decide) only [setFld_armView_above, noted]
  split
  · rfl
  · split
    · exact (sleepAbort_armView c).trans noted
    · split
      · split
        · exact (power_armView c _).trans noted
        · exact noted
      · exact (power_armView d _).trans late

theorem updShow_armView (s : State) : (updShow s).armView = s.armView := by
  unfold updShow
  extract_lets e k d a
  have shown : a.armView = s.armView := by
    unfold a
    simp (disch := decide) only [State.setFlds, setFld_armView_above, updStatus_armView]
  exact (each_view State.armView (fun t w => setFld_armView_above t w _ (by decide)) a _).trans shown

/-- A write of the selector record that no force makes fail. -/
theorem selWrite_done {s : State} (f : Selector → Selector) (good : s.update.failSel = false) : ∃ t, selWrite s f = (t, true) ∧
    t.armView = { s.armView with update := { s.update with sel := { f s.update.sel with seq := (s.update.sel.seq + 1) % 2 ^ 32 } } } := by
  have writes : ¬s.update.failSel = true := Bool.eq_false_iff.1 good
  exact ⟨_, if_neg writes, updShow_armView _⟩

/-- An activation is armed when the selector record can be written. -/
theorem activationArm_armView {s : State} (h : Nat) (viaReset : Bool) (good : s.update.failSel = false) :
    (activationArm s h viaReset).armView = { s.armView with upd := updArmed, update := { s.update with
      viaReset := viaReset
      sel := { s.update.sel with
        pending := true, pendCol := h, pendSlot := true, pendHalf := s.update.hasCal, seq := (s.update.sel.seq + 1) % 2 ^ 32 } } } := by
  obtain ⟨t, written, view⟩ := selWrite_done
    (fun e => { e with pending := true, pendCol := h, pendSlot := true, pendHalf := s.update.hasCal }) good
  have armed : activationArm s h viaReset = updTo (t.up fun u => { u with viaReset := viaReset }) updArmed := by
    unfold activationArm
    rw [written]
    rfl
  have up : (t.up fun u => { u with viaReset := viaReset }).armView =
      { t.armView with update := { t.armView.update with viaReset := viaReset } } := rfl
  rw [armed, updTo_armView _ (by decide), up, view]

/-- A handover armed, before the update engine joins it. -/
def hoArming (s : State) : State :=
  let t := (s.setPair Reg.TICK.HO_COL_LO.NUMBER Reg.TICK.HO_COL_HI.NUMBER 0 (hoCol s)).setFlds
    [(Reg.TICK.STATUS.HO_ARMED, 0, 1), (Reg.TICK.CTRL.HO_ARM, 0, 1)]
  wakeEvent (if levelRises t then supplyMove t t.now else t) 11 0xFF

theorem hoArming_armView (s : State) : (hoArming s).armView = { s.armView with armed := true } := by
  unfold hoArming
  extract_lets t
  have armed : t.armView = { s.armView with armed := true } := by
    simp (disch := decide) only [t, State.setFlds, setFld_armView, setArmed_armView, setHoCol_armView]
    rfl
  rw [wakeEvent_armView]
  split
  · exact (power_armView t _).trans armed
  · exact armed

/-- The update engine joins a handover of a loaded image; the handover is given up where the selector record cannot be written. -/
def hoJoined (s : State) (h : Nat) : State :=
  let t := activationArm s h false
  if t.update.sel.pending then t else hoAbort t

theorem hoArm_taken {s : State} (taken : hoRefused s (hoCol s) = false) : (hoArm s (hoCol s)).1 =
    if updState (hoArming s) = updLoaded then hoJoined (hoArming s) (hoCol s) else hoArming s := by
  unfold hoArm
  rw [taken, if_neg Bool.false_ne_true]
  show (if updState (hoArming s) = updLoaded then (hoJoined (hoArming s) (hoCol s), true) else (hoArming s, true)).1 = _
  rw [apply_ite Prod.fst]

theorem exec_hoArm {s : State} {b : By} (priv : b.priv = true) (idle : hoArmed s = false) :
    exec (.hoArm b) s = .next (hoArm s (hoCol s)).1 := by
  show Host.Outcome.next _ = _
  rw [privOnly, if_pos priv, if_neg (Bool.eq_false_iff.1 idle)]

theorem hoArm_refused {s : State} (refused' : hoRefused s (hoCol s) = true) (idle : hoArmed s = false) :
    (hoArm s (hoCol s)).1 = (s.setBit Reg.TICK.STATUS.HO_REFUSED 0 true).setBit Reg.TICK.CTRL.HO_ARM 0 false := by
  unfold hoArm
  rw [refused', if_pos rfl, idle]

theorem hoArm_holds {s : State} {b : By} (priv : b.priv = true) (idle : hoArmed s = false) :
    (hoRefused s (hoCol s) = true → Ends (.hoArm b) s fun t =>
      hoArmed t = false ∧ t.bit Reg.TICK.STATUS.HO_REFUSED 0 = true ∧ t.bit Reg.TICK.CTRL.HO_ARM 0 = false ∧ t.power = s.power) ∧
    (hoRefused s (hoCol s) = false → updState s ≠ updLoaded → Ends (.hoArm b) s fun t =>
      hoArmed t = true ∧ hoCol t = hoCol s ∧ t.shadow = s.shadow ∧ t.update = s.update) ∧
    (hoRefused s (hoCol s) = false → updState s = updLoaded → s.update.failSel = false → Ends (.hoArm b) s fun t =>
      hoArmed t = true ∧ updState t = updArmed ∧ t.update.sel.pending = true ∧ t.update.sel.pendCol = hoCol s ∧ t.update.viaReset = false) := by
  have run := exec_hoArm priv idle
  obtain ⟨armed, col, upd, shadow, update⟩ := of_armView (hoArming_armView s)
  refine ⟨fun no => ?_, fun yes other => ?_, fun yes loaded good => ?_⟩
  · rw [hoArm_refused no idle] at run
    refine ⟨_, run, ?_, ?_, bit_setBit_same _ _ 0 (by decide), rfl⟩
    · have beside : hoArmed (s.setBit Reg.TICK.STATUS.HO_REFUSED 0 true) = hoArmed s :=
        bit_setBit_neighbour s (F := Reg.TICK.STATUS.HO_REFUSED) 0 true (by decide) rfl rfl (by decide)
      refine Eq.trans ?_ (beside.trans idle)
      simp (disch := decide) only [hoArmed, State.bit, State.setBit, fld_setFld_elsewhere]
    · refine Eq.trans ?_ (bit_setBit_true s (F := Reg.TICK.STATUS.HO_REFUSED) 0 (by decide) rfl)
      simp (disch := decide) only [State.bit, State.setBit, fld_setFld_elsewhere]
  · rw [hoArm_taken yes, if_neg (upd ▸ other)] at run
    exact ⟨_, run, armed, col, shadow, update⟩
  · have good' : (hoArming s).update.failSel = false := update ▸ good
    have view := activationArm_armView (hoCol s) false good'
    rw [hoArming_armView] at view
    obtain ⟨armed', -, upd', -, update'⟩ := of_armView view
    have pending : (activationArm (hoArming s) (hoCol s) false).update.sel.pending = true := by rw [update']
    rw [hoArm_taken yes, if_pos (upd.trans loaded), hoJoined, if_pos pending] at run
    refine ⟨_, run, armed', upd', pending, ?_, ?_⟩
    · rw [update']
    · rw [update']

/-! Aborts (R70) -/

/-- The cancelling of an armed handover, before its raise. -/
def hoCancelling (s : State) : State :=
  let t := (if levelRises s then supplyMove s s.now else s).setFlds [(Reg.TICK.STATUS.HO_ARMED, 0, 0), (Reg.TICK.CTRL.HO_ARM, 0, 0)]
  if t.update.viaReset then t else activationCancel t

/-- A cancelled activation leaves the arm and the collector, and nothing pending where the selector record can be written. -/
theorem activationCancel_armView (s : State) :
    let v := (activationCancel s).armView
    v.armed = s.armView.armed ∧ v.up = s.armView.up ∧ v.shut = s.armView.shut ∧ v.queue = s.armView.queue ∧
      (s.update.failSel = false → v.update.sel.pending = false) := by
  intro v
  by_cases pending : s.update.sel.pending = true
  · have back : (if s.update.hasCal then updVerified else updLoaded) < 16 := by split <;> decide
    have cancelled : v = _ := congrArg State.armView (if_pos pending)
    rw [updTo_armView _ back] at cancelled
    by_cases good : s.update.failSel = false
    · obtain ⟨t, written, view⟩ := selWrite_done
        (fun e => { e with pending := false, pendCol := 0, pendSlot := false, pendHalf := false }) good
      rw [written, view] at cancelled
      rw [cancelled]
      exact ⟨rfl, rfl, rfl, rfl, fun _ => rfl⟩
    · have failed : (selWrite s fun e => { e with pending := false, pendCol := 0, pendSlot := false, pendHalf := false }).1 =
          updErr (s.up fun u => { u with failSel := false }) 15 := by
        rw [selWrite, if_pos (by simpa using good)]
      rw [failed, updErr_armView] at cancelled
      rw [cancelled]
      exact ⟨rfl, rfl, rfl, rfl, fun good' => absurd good' good⟩
  · have kept : v = s.armView := congrArg State.armView (if_neg pending)
    rw [kept]
    exact ⟨rfl, rfl, rfl, rfl, fun _ => Bool.eq_false_iff.2 pending⟩

theorem hoCancelling_holds {s : State} (live : Live s) : Live (hoCancelling s) ∧ hoArmed (hoCancelling s) = false ∧
    (s.update.viaReset = false → s.update.failSel = false → (hoCancelling s).update.sel.pending = false) := by
  unfold hoCancelling
  extract_lets t
  have view : t.armView = { s.armView with armed := false } := by
    have supplied : (if levelRises s then supplyMove s s.now else s).armView = s.armView := by split <;> rfl
    simp (disch := decide) only [t, State.setFlds, setFld_armView, setArmed_armView, supplied]
    rfl
  obtain ⟨armed, -, -, -, update⟩ := of_armView view
  have live' : Live t := live.of_armView (by rw [view]) (by rw [view]) (by rw [view])
  split
  · next via => exact ⟨live', armed, fun no => absurd via (by rw [update]; exact Bool.eq_false_iff.1 no)⟩
  · obtain ⟨armed', up, shut, queue, cleared⟩ := activationCancel_armView t
    exact ⟨live'.of_armView up shut queue, armed'.trans armed, fun _ good => cleared (by rw [update]; exact good)⟩

theorem exec_hoAbort {s : State} {b : By} (priv : b.priv = true) : exec (.hoAbort b) s = .next (hoAbort s) := by
  show Host.Outcome.next _ = _
  rw [privOnly, if_pos priv]

theorem hoAbort_holds {s : State} {b : By} (priv : b.priv = true) (armed : hoArmed s = true) :
    (s.colNum + 1 < hoCol s → Live s → Ends (.hoAbort b) s fun t =>
      hoArmed t = false ∧ Flagged t Flt.TICK.HANDOVER noUnit 0 ∧
      (s.update.sel.pending = true → s.update.viaReset = false → s.update.failSel = false → t.update.sel.pending = false)) ∧
    (hoCol s ≤ s.colNum + 1 → exec (.hoAbort b) s = .next s) := by
  refine ⟨fun early live => ?_, fun late => ?_⟩
  · obtain ⟨live', disarmed, cleared⟩ := hoCancelling_holds live
    obtain ⟨recorded, flagged⟩ := raiseFault_recorded live' (src := Flt.TICK.HANDOVER) (unit := noUnit) (faultOutput_sys _ _ (by decide))
    have run : exec (.hoAbort b) s = .next (raiseFault (hoCancelling s) Flt.TICK.HANDOVER noUnit 0) := by
      rw [exec_hoAbort priv, hoAbort, if_pos (by simp [armed, early])]
      rfl
    refine ⟨_, run, ?_, flagged, fun _ via good => ?_⟩
    · rw [hoArmed, State.bit, State.fld, recorded.words _ (.inl (by decide))]
      exact disarmed
    · rw [congrArg State.update recorded.rest]
      exact cleared via good
  · rw [exec_hoAbort priv, hoAbort, if_neg (by simp; omega)]

/-- Settles O15: arms and aborts by the view of the arm, the update engine and the collector; the handover by the view of the sequencer
and the plans, with the snapshot area from the copy that closes the carry of state. The model's choices it rests on are log 105
(the bytes of the snapshot area stand) and log 158 (an arm is refused where no plan runs). -/
theorem handoversChangeThePlan : Obligations.HandoversChangeThePlan :=
  ⟨fun _ _ priv idle => hoArm_holds priv idle, fun _ _ priv armed => hoAbort_holds priv armed,
    fun _ armed due runs mem => handover_holds armed due runs mem⟩

end Sys2Proof.Machine
end

section
namespace Sys2Proof.Machine

/-! ### Starts (R59 to R62, R446, R450, R465, R469) -/

/-! The terminal latch: no raise clears it, and a reaction of class F3 sets it. -/

/-- A predicate that each raise leaves true, the taking of raises leaves true. -/
theorem drainRaises_stays {P : State → Prop} (one : ∀ s r, P s → P (raiseOne s r)) (queue : ∀ s q, P s → P { s with raiseQ := q })
    (k : Nat) {s : State} (hs : P s) : P (drainRaises k s) := by
  induction k generalizing s with
  | zero => exact hs
  | succ k ih =>
    unfold drainRaises
    split
    · exact hs
    · next r q _ => exact ih (one _ r (queue s q hs))

theorem unlogged_latch : Unlogged State.terminalLatch where
  fld _ _ _ _ _ := rfl
  clamp _ _ _ := rfl
  abort _ := rfl
  lsw _ _ _ := rfl
  hb _ _ _ := rfl
  vd _ _ _ := rfl
  bank _ _ _ := rfl
  sink _ _ _ := rfl
  stage _ _ _ := rfl
  ledger1 _ _ _ := rfl
  access _ _ := rfl
  collector _ _ _ _ _ := rfl
  flags _ _ := rfl
  log _ _ := rfl
  zone _ _ := rfl
  defer _ _ _ := rfl
  lost _ _ := rfl

/-- Class F3 is in force: the latch is set, and FAULT.STATUS shows it. -/
structure Shut (s : State) : Prop where
  latch : s.terminalLatch = true
  shown : s.bit Reg.FAULT.STATUS.TERMINAL 0 = true

/-- The latch and the word of FAULT.STATUS. -/
def shutView (s : State) : Bool × Word32 := (s.terminalLatch, s.word 0x30000)

theorem unmoved_shutView : Unmoved shutView where
  fld s _ n v hF := congrArg (Prod.mk _) (word_setFld_above s n v (b := 0x100000) (by decide) hF)
  clamp _ _ _ := rfl
  abort _ := rfl
  lsw _ _ _ := rfl
  hb _ _ _ := rfl
  vd _ _ _ := rfl
  bank _ _ _ := rfl
  sink _ _ _ := rfl
  stage _ _ _ := rfl
  ledger1 _ _ _ := rfl
  access _ _ := rfl

theorem Shut.of_view {s t : State} (h : shutView t = shutView s) (shut : Shut s) : Shut t := by
  obtain ⟨latch, word⟩ := Prod.mk.injEq .. ▸ h
  refine ⟨latch.trans shut.latch, ?_⟩
  have shown := shut.shown
  rw [State.bit, State.fld] at shown ⊢
  exact word ▸ shown

/-- Class F3 begins: FAULT.STATUS shows it, and the sequencer stops. -/
def terminalBegun (s : State) : State := (s.setBit Reg.FAULT.STATUS.TERMINAL 0 true).enter seqStopped

theorem terminalBegun_shown (s : State) : (terminalBegun s).bit Reg.FAULT.STATUS.TERMINAL 0 = true :=
  (bit_setFld_elsewhere _ _ (by decide)).trans (bit_setBit_true s (F := Reg.FAULT.STATUS.TERMINAL) 0 (by decide) rfl)

theorem laneHalt_bit (s : State) (n : Nat) (F : Field) (m : Nat) : (laneHalt s n).bit F m = s.bit F m := rfl

theorem dropInFlight_bit (s : State) (l : List Nat) (F : Field) (m : Nat) : (dropInFlight s l).bit F m = s.bit F m := rfl

/-- The state that is latched shows class F3 when the state before showed it. -/
theorem latched_shut {s : State} (shown : s.bit Reg.FAULT.STATUS.TERMINAL 0 = true) :
    Shut { s with hwSafe := true, terminalLatch := true } := ⟨rfl, shown⟩

theorem terminal_shut (s : State) : Shut (terminal s) := by
  have u := unmoved_shutView
  let c := (dropInFlight (terminalBegun s) [0, 1, 2, 3]).each laneHalt [0, 1, 2, 3]
  have halted : c.bit Reg.FAULT.STATUS.TERMINAL 0 = true := by
    rw [each_view (fun t => t.bit Reg.FAULT.STATUS.TERMINAL 0) (fun t n => laneHalt_bit t n _ _), dropInFlight_bit]
    exact terminalBegun_shown s
  have off : Shut (outputsOff { c with hwSafe := true, terminalLatch := true }) := (latched_shut halted).of_view (outputsOff_view u _)
  have dropped (t : State) : shutView (dropQueued t) = shutView t := rfl
  have dumped (t : State) (l : Option (List LogRec)) : shutView (if t.storeHot then t else { t with dumpNext := l }) = shutView t := by
    split <;> rfl
  exact off.of_view ((roundStop_view u _).trans ((dumped _ _).trans ((sleepCancel_view u _).trans (dropped _))))

/-- A write above FAULT.STATUS. -/
theorem setFld_shutView (s : State) {F : Field} (n v : Nat) (hF : 0x30000 < F.base) : shutView (s.setFld F n v) = shutView s :=
  congrArg (Prod.mk _) (word_setFld_above s n v (Nat.lt_succ_self _) hF)

theorem countRaise_shutView (s : State) (r : Raise) (act : Nat) : shutView (countRaise s r act) = shutView s := by
  simp (disch := decide) only [countRaise, State.setFlds, setFld_shutView]

theorem logWrite_shutView (s : State) (r : LogRec) : shutView (logWrite s r) = shutView s := by
  unfold logWrite State.incFld State.setBit
  split
  · simp (disch := decide) only [setFld_shutView]
  · extract_lets r' full a b
    have written : shutView b = shutView s :=
      (setFld_shutView _ 0 _ (by decide)).trans (setFld_shutView a 0 _ (by decide))
    split
    · exact (setFld_shutView b 0 _ (by decide)).trans written
    · exact written

theorem deferRaise_shutView (s : State) (r : Raise) : shutView (deferRaise s r) = shutView s := by
  unfold deferRaise
  split
  · rfl
  · split <;> rfl

/-- While class F3 is in force, raises are logged and counted. -/
theorem raiseOne_shut (s : State) (r : Raise) (shut : Shut s) : Shut (raiseOne s r) := by
  unfold raiseOne
  split
  · exact shut.of_view (deferRaise_shutView s r)
  · rw [if_pos shut.shown]
    exact shut.of_view ((logWrite_shutView _ _).trans (countRaise_shutView s r r.cls))

theorem react_shut (s : State) {cls : Nat} (high : 3 ≤ cls) : Shut (react s cls) := by
  unfold react
  split
  · omega
  · omega
  · omega
  · exact terminal_shut s

theorem react_latch (s : State) (cls : Nat) (latch : s.terminalLatch = true) : (react s cls).terminalLatch = true := by
  by_cases low : cls < 3
  · exact (react_view_below unlogged_latch low s).trans latch
  · exact (react_shut s (by omega)).latch

theorem raiseOne_latch (s : State) (r : Raise) (latch : s.terminalLatch = true) : (raiseOne s r).terminalLatch = true := by
  have hold (t : State) (u : HeldUnit) : (takeHold t r.src r.unit u).1.terminalLatch = t.terminalLatch :=
    takeHold_view unlogged_latch (fun _ _ => rfl) t r.src r.unit u
  obtain kept | ⟨t, recorded, reacts⟩ := raiseOne_reacts unlogged_latch s r fun _ t u _ => hold t u
  · exact kept.trans latch
  · rw [reacts]
    exact react_latch t _ (recorded.trans latch)

theorem settleRaises_latch {s : State} (latch : s.terminalLatch = true) : (settleRaises s).terminalLatch = true :=
  drainRaises_stays (P := fun t => t.terminalLatch = true) raiseOne_latch (fun _ _ h => h) 256 latch

/-- A raise of class F3 that the collector takes puts class F3 in force. -/
theorem raiseFault_terminal {s : State} (up : s.collectorUp = true) (latch : s.terminalLatch = true) :
    Shut (raiseFault s Flt.FAULT.TERMINAL noUnit 3) := by
  refine drainRaises_stays raiseOne_shut (fun t q shut => ⟨shut.latch, shut.shown⟩) 256 ?_
  by_cases shown : s.bit Reg.FAULT.STATUS.TERMINAL 0 = true
  · exact raiseOne_shut s _ ⟨latch, shown⟩
  · have free : faultOutput Flt.FAULT.TERMINAL noUnit = none := by decide
    unfold raiseOne
    rw [if_neg (by simp [up]), if_neg shown]
    simp only [free]
    exact react_shut _ (by split <;> omega)

/-! What a start keeps from the coming up of the collector on: the time, the collector, the recovery request, and a set latch. -/

def startView (s : State) : Nat × Nat × Bool × List (Nat × Raise) × Bool :=
  (s.boot, s.now, s.collectorUp, if s.collectorUp then s.deferred else [], s.update.recoverReq)

/-- What each part of a start from `s` to `t` does not touch. -/
structure Starting (s t : State) : Prop where
  view : startView t = startView s
  latch : s.terminalLatch = true → t.terminalLatch = true

namespace Starting

theorem refl (s : State) : Starting s s := ⟨rfl, id⟩

theorem trans {s t u : State} (h : Starting s t) (k : Starting t u) : Starting s u := ⟨k.view.trans h.view, fun l => k.latch (h.latch l)⟩

theorem setFld (s : State) (F : Field) (n v : Nat) : Starting s (s.setFld F n v) := ⟨rfl, id⟩

theorem withSeq (s : State) (q : Seq) : Starting s { s with seq := q } := ⟨rfl, id⟩

theorem withPlan (s : State) (p : Plan) : Starting s { s with plan := p } := ⟨rfl, id⟩

theorem withModel (s : State) (m : Model) : Starting s { s with model := m } := ⟨rfl, id⟩

theorem withJournal (s : State) (j : Journal) : Starting s { s with journal := j } := ⟨rfl, id⟩

theorem setBit (s : State) (F : Field) (n : Nat) (b : Bool) : Starting s (s.setBit F n b) := setFld s F n _

theorem satAdd (s : State) (F : Field) (n d : Nat) : Starting s (s.satAdd F n d) := setFld s F n _

theorem setFlds (s : State) (l : List (Field × Nat × Nat)) : Starting s (s.setFlds l) := by
  induction l generalizing s with
  | nil => exact refl s
  | cons p l ih => exact (setFld s p.1 p.2.1 p.2.2).trans (ih _)

theorem foldl {α : Type} {f : State → α → State} (h : ∀ s a, Starting s (f s a)) (l : List α) (s : State) :
    Starting s (l.foldl f s) :=
  List.foldlRecOn (motive := Starting s) l f (refl s) fun t ht a _ => ht.trans (h t a)

theorem ite {c : Prop} [Decidable c] {s a b : State} (ha : Starting s a) (hb : Starting s b) : Starting s (if c then a else b) := by
  split
  · exact ha
  · exact hb

theorem view_of_untouched {s t : State} (h : t.untouched = s.untouched) : startView t = startView s :=
  congrArg (fun u : Untouched => (u.boot, u.now, u.up, u.deferred, u.stores.2.2.2.2.2.2.2.1.recoverReq)) h

theorem raise (s : State) (src unit cls : Nat) (d : BitVec 48) (f : Bool) : Starting s (raiseWith s src unit cls d f) :=
  ⟨view_of_untouched (raiseWith_view unraised_untouched ..), fun latch => settleRaises_latch (raiseOne_latch s _ latch)⟩

theorem fault (s : State) (src unit cls : Nat) : Starting s (raiseFault s src unit cls) := raise s src unit cls 0 false

theorem takeDeferred (s : State) (r : Raise) : Starting s (takeDeferred s r) := by
  unfold Machine.takeDeferred
  extract_lets a b
  have u := unraised_untouched
  have untouched : (settleRaises (react b r.cls)).untouched = s.untouched :=
    (settleRaises_view u _).trans ((react_view u b _).trans ((logWrite_view u.toUnlogged _ _).trans
      ((countRaise_view u.toUnlogged _ _ _).trans (setFlag_view u.toUnlogged _ _))))
  have latch : b.terminalLatch = s.terminalLatch :=
    (logWrite_view unlogged_latch _ _).trans ((countRaise_view unlogged_latch _ _ _).trans (setFlag_view unlogged_latch _ _))
  exact ⟨view_of_untouched untouched, fun l => settleRaises_latch (react_latch b _ (latch.trans l))⟩

/-! The key store -/

theorem randomBytes (s : State) (n : Nat) : Starting s (randomBytes s n).2 := by
  rw [(randomBytes_rest s n).2]
  exact ⟨rfl, id⟩

theorem setKeyMat (s : State) (k : Nat) (m : List Byte) : Starting s (setKeyMat s k m) := ⟨rfl, id⟩

theorem deriveSlots (s : State) (puf : Bool) : Starting s (deriveSlots s puf) := by
  unfold Machine.deriveSlots
  refine foldl (fun t d => ?_) _ s
  split
  · exact (setKeyMat t _ _).trans (setFlds _ _)
  · exact (setFld t _ _ _).trans (setKeyMat _ _ _)

theorem newFirstBoot (s : State) : Starting s (newFirstBoot s) := by
  unfold Machine.newFirstBoot
  extract_lets r
  have held : Starting s { r.2 with keys := { r.2.keys with fb := some r.1 } } := (randomBytes s 16).trans ⟨rfl, id⟩
  exact (held.trans (satAdd _ _ _ _)).trans (setBit _ _ _ _)

theorem checkRecords (s : State) (bad : List Nat) : Starting s (checkRecords s bad) :=
  (foldl (fun t k => (setBit t _ k true).trans (raise _ _ _ _ _ _)) _ s).trans ⟨rfl, id⟩

theorem keysStart (s : State) (k : KeysIn) : Starting s (keysStart s k) := by
  unfold Machine.keysStart
  extract_lets keys a b c d e f
  have idle : Starting s a := ⟨rfl, id⟩
  have derived : Starting s c := (idle.trans (setFlds a _)).trans (deriveSlots b k.puf)
  have puf : Starting s d := derived.trans (ite (refl c) (fault c _ _ _))
  have noise : Starting s e := puf.trans (ite (refl d) (fault d _ _ _))
  have root : Starting s f := noise.trans (by
    unfold f
    split
    · exact ite (newFirstBoot e) (refl e)
    · exact ite (setBit e _ _ _) (fault e _ _ _))
  exact root.trans (checkRecords f k.bad)

/-! The journal -/

theorem setPair (s : State) (L H : Field) (n v : Nat) : Starting s (s.setPair L H n v) := (setFld s L n v).trans (setFld _ H n _)

theorem jShow (s : State) : Starting s (jShow s) := by
  unfold Machine.jShow
  extract_lets f a b c d e k
  have busy : Starting s b := (setFld s _ _ _).trans (ite (setBit a _ _ _) (ite (setBit a _ _ _) (refl a)))
  exact ((((busy.trans (setPair b _ _ _ _)).trans (setPair c _ _ _ _)).trans (setPair d _ _ _ _)).trans (setPair e _ _ _ _)).trans (setFld k _ _ _)

theorem bankLost (s : State) (b : Nat) (forced : Bool) : Starting s (bankLost s b forced) :=
  ((setBit s _ _ _).trans (setBit _ _ _ _)).trans (raise _ _ _ _ _ _)

theorem jWrite (s : State) (r : JRec) (fail : BitVec 2) : Starting s (jWrite s r fail).1 := by
  unfold Machine.jWrite
  extract_lets j u pad ok bad forced a at' ring j' b c
  split
  · split
    · exact refl s
    · exact (setBit s _ _ _).trans (fault _ _ _ _)
  · have free : Starting s a := ⟨rfl, id⟩
    split
    · exact free.trans (raise a _ _ _ _ _)
    · have placed : Starting s b := free.trans ⟨rfl, id⟩
      exact ((placed.trans (setBit b _ _ _)).trans (foldl (fun t k => bankLost t k forced) bad c)).trans (jShow _)

theorem dropUncorr (s : State) (bad : List Nat) : Starting s (dropUncorr s bad) := by
  unfold Machine.dropUncorr
  extract_lets hit keep arch j
  exact (withJournal s _).trans (foldl (fun t p => raise t _ _ _ _ _) hit _)

theorem expireAll (s : State) : Starting s (expireAll s).1 := by
  unfold Machine.expireAll
  refine List.foldlRecOn (motive := fun p : State × Nat => Starting s p.1) (unsettled s) _ (refl s) fun p before e _ => ?_
  dsimp only
  split
  · exact before.trans (jWrite p.1 _ 0)
  · exact before.trans (jWrite p.1 _ 0)

theorem journalStart (s : State) (power : Bool) (bad : List Nat) : Starting s (journalStart s power bad) := by
  unfold Machine.journalStart
  extract_lets a b voids last j c x d m e j' f
  have dropped : Starting s b := (ite (setFlds s _) (refl s)).trans (dropUncorr a bad)
  have voided : Starting s c := dropped.trans ⟨rfl, id⟩
  have expired : Starting s d := voided.trans (by
    unfold d x
    split
    · exact expireAll c
    · exact refl c)
  have begun : Starting s f := (expired.trans (jWrite d (.start m) 0)).trans ⟨rfl, id⟩
  exact (begun.trans ((satAdd f _ _ _).trans (satAdd _ _ _ _))).trans (jShow _)

/-! The committed image -/

theorem updShow (s : State) : Starting s (updShow s) :=
  (setFlds s _).trans (foldl (fun t w => setFld t _ w _) _ _)

theorem selWrite (s : State) (f : Selector → Selector) : Starting s (selWrite s f).1 := by
  unfold Machine.selWrite
  split
  · exact trans (t := s.up fun u => { u with failSel := false }) ⟨rfl, id⟩ (setFld _ _ _ _)
  · exact trans (t := s.up fun u => { u with sel := { f u.sel with seq := (u.sel.seq + 1) % 2 ^ 32 } }) ⟨rfl, id⟩ (updShow _)

theorem resolvePending (s : State) : Starting s (resolvePending s) := by
  unfold Machine.resolvePending
  extract_lets e a
  split
  · exact updShow s
  · split
    · exact selWrite s _
    · exact ((selWrite s _).trans (setBit a _ _ _)).trans (fault _ _ _ _)

theorem lswCalLoad (s : State) : Starting s (lswCalLoad s) := by
  unfold Machine.lswCalLoad
  split
  · exact trans (t := { s with lswCal := [] }) ⟨rfl, id⟩ (fault _ _ _ _)
  · exact ⟨rfl, id⟩

theorem litLoad (s : State) : Starting s (litLoad s) := by
  unfold Machine.litLoad
  extract_lets r b a
  have loaded : Starting s a := ⟨rfl, id⟩
  exact loaded.trans (ite (refl a) (fault a _ _ _))

theorem modelLoad (s : State) : Starting s (modelLoad s) := by
  unfold Machine.modelLoad
  split
  · exact (withModel s _).trans (setFlds _ _)
  · exact ((withModel s _).trans (setFlds _ _)).trans (fault _ _ _ _)

theorem deviceLoad (s : State) : Starting s (deviceLoad s) := ⟨rfl, id⟩

theorem startSelect (s : State) (level : Nat) : Starting s (startSelect s level).1 := by
  unfold Machine.startSelect
  extract_lets first a b
  have tried : Starting s a := ⟨rfl, id⟩
  split
  · exact tried
  · split
    · exact ((tried.trans (selWrite a _)).trans (setBit b _ _ _)).trans (fault _ _ _ _)
    · exact tried

/-! The plan -/

theorem placeLanes (s : State) : Starting s (placeLanes s) := ⟨rfl, id⟩

theorem enter (s : State) (q : Nat) : Starting s (s.enter q) := setFld s _ _ _

theorem armFirst (s : State) : Starting s (armFirst s) :=
  ((setFlds s _).trans (enter (planShow s) _)).trans (withSeq ((planShow s).enter seqArmed) _)

theorem loadBegin (s : State) (level : Nat) : Starting s (loadBegin s level) := (withSeq s _).trans (enter _ _)

theorem loadFailed (s : State) (check : Nat) : Starting s (loadFailed s check) := by
  unfold Machine.loadFailed
  extract_lets q a
  have failed : Starting s a := (withSeq s _).trans (enter _ _)
  exact failed.trans ((setFlds a _).trans (fault _ _ _ _))

theorem recoveryStart (s : State) : Starting s (recoveryStart s) := (setBit s _ _ _).trans (enter _ _)

theorem planStart (s : State) (boot : Nat) : Starting s (planStart s boot) := by
  unfold Machine.planStart
  split
  · exact recoveryStart s
  · split
    · exact ite ((placeLanes s).trans (armFirst _)) (refl s)
    · extract_lets a wake level r
      have emptied : Starting s a := withPlan s _
      split
      · split
        · exact emptied.trans (ite (loadBegin a _) (loadFailed a _))
        · exact emptied.trans (loadBegin a _)
      · exact (emptied.trans (startSelect a level)).trans (ite (loadBegin _ _) ((fault _ _ _ _).trans (recoveryStart _)))

theorem collectorStart (s : State) :
    Starting { s with collectorUp := true, deferred := [], deferLost := [] } (collectorStart s) :=
  (foldl takeDeferred _ _).trans (foldl (fun t _ => raise t _ _ _ _ _) _ _)

end Starting

/-! The start itself -/

/-- What a reset of D-LOGIC does not touch of what a start asks for. -/
def wakeView (s : State) : Nat × Bool × Bool := (s.now, s.update.recoverReq, s.terminalLatch)

theorem wakeView_setFld (s : State) (F : Field) (n v : Nat) : wakeView (s.setFld F n v) = wakeView s := rfl

theorem logicReset_wakeView (s : State) : wakeView (logicReset s) = wakeView s := by
  simp [wakeView, logicReset, linkBits]

theorem keepersGone_wakeView (s : State) : wakeView (keepersGone s) = wakeView s := rfl

theorem unparked_wakeView (s : State) (b : Bool) : wakeView { s with parked := b } = wakeView s := rfl

theorem logicUp_wakeView (s : State) : wakeView (logicUp s) = wakeView s := by
  unfold logicUp
  split
  · rfl
  · extract_lets lost a b
    have reset : wakeView b = wakeView s := by
      unfold b
      rw [keepersGone_wakeView, unparked_wakeView, logicReset_wakeView]
    exact (each_view wakeView (f := fun t n => t.setLane n { t.lane n with inService := false }) (fun _ _ => rfl) b lost).trans reset

/-- The count at which a start sets the time base. -/
theorem timeStart_view (s : State) (x : StartIn) : (timeStart s x).update = s.update ∧ (timeStart s x).terminalLatch = s.terminalLatch ∧
    (s.boot = 1 → (timeStart s x).now = match s.timers.timeWord with | none => 0 | some w => (w + 1) * 2 ^ 32) ∧
    (s.boot = 2 → (timeStart s x).now = s.now) := by
  unfold timeStart
  split
  · next one => exact ⟨rfl, rfl, fun _ => rfl, fun two => absurd (one.symm.trans two) (by decide)⟩
  · next four =>
    exact ⟨rfl, rfl, fun one => absurd (four.symm.trans one) (by decide), fun two => absurd (four.symm.trans two) (by decide)⟩
  · next other _ => exact ⟨rfl, rfl, fun one => absurd one other, fun _ => rfl⟩

/-- D-LOGIC stands ready, with its lanes shown, and no start is due any more. -/
def startReady (s : State) (x : StartIn) : State := { showLanes (logicUp (timeStart s x)) with boot := 0 }

theorem wakeView_boot (s : State) (k : Nat) : wakeView { s with boot := k } = wakeView s := rfl

theorem startReady_wakeView (s : State) (x : StartIn) : wakeView (startReady s x) = wakeView (timeStart s x) := by
  unfold startReady showLanes
  rw [wakeView_boot, wakeView_setFld, logicUp_wakeView]

/-- The collector, the key store, the journal and the device table are up. -/
def startUp (s : State) (x : StartIn) : State :=
  let c := collectorStart (startReady s x)
  deviceLoad (journalStart (keysStart (c.setBit Reg.LOG.STATUS.DUMP_VALID 0 (!c.dump.isEmpty)) x.keys) (s.boot == 1) x.bad)

theorem startUp_starting (s : State) (x : StartIn) :
    Starting { startReady s x with collectorUp := true, deferred := [], deferLost := [] } (startUp s x) :=
  ((((Starting.collectorStart _).trans (Starting.setBit _ _ _ _)).trans (Starting.keysStart _ _)).trans
    (Starting.journalStart _ _ _)).trans (Starting.deviceLoad _)

/-- The committed image is resolved, and its calibration and its harness model are loaded. -/
def startImage (s : State) (boot : Nat) : State :=
  let t := litLoad (lswCalLoad (resolvePending s))
  if boot < 3 then modelLoad t else t

theorem startImage_starting (s : State) (boot : Nat) : Starting s (startImage s boot) :=
  (((Starting.resolvePending s).trans (Starting.lswCalLoad _)).trans (Starting.litLoad _)).trans
    (Starting.ite (Starting.modelLoad _) (Starting.refl _))

theorem exec_start {s : State} {x : StartIn} (due : s.boot ≠ 0) (high : s.rstnLow = false) (logic : s.dom.logic = true) :
    exec (.start x) s = .next (if (startUp s x).terminalLatch then raiseFault (startUp s x) Flt.FAULT.TERMINAL noUnit 3
      else planStart (startImage (startUp s x) s.boot) s.boot) := by
  have starts : ¬(s.boot = 0 ∨ s.rstnLow ∨ !s.dom.logic) := by simp [due, high, logic]
  show execStart x s = _
  unfold execStart
  rw [if_neg starts]
  exact (apply_ite Host.Outcome.next _ _ _).symm

theorem exec_start_none {s : State} {x : StartIn} (none' : s.boot = 0 ∨ s.rstnLow = true ∨ s.dom.logic = false) :
    exec (.start x) s = .next s := by
  have stays : s.boot = 0 ∨ s.rstnLow ∨ !s.dom.logic := none'.imp_right (Or.imp_right fun h => by rw [h]; rfl)
  exact if_pos stays

/-- A recovery start enters recovery, with no plan. -/
theorem recoveryStart_holds (s : State) :
    (recoveryStart s).bit Reg.UPDATE.STATUS.RECOVERY 0 = true ∧ (recoveryStart s).seqState = seqNoPlan :=
  ⟨(bit_setFld_elsewhere _ _ (by decide)).trans (bit_setBit_true s (F := Reg.UPDATE.STATUS.RECOVERY) 0 (by decide) rfl),
    enter_seqState _ (by decide)⟩

theorem start_holds {s : State} {x : StartIn} (due : s.boot ≠ 0) (high : s.rstnLow = false) (logic : s.dom.logic = true) :
    Ends (.start x) s fun t =>
      t.boot = 0 ∧ t.collectorUp = true ∧ t.deferred = [] ∧
      (s.boot = 1 → t.now = match s.timers.timeWord with | none => 0 | some w => (w + 1) * 2 ^ 32) ∧
      (s.boot = 2 → t.now = s.now) ∧
      (s.terminalLatch = true → t.bit Reg.FAULT.STATUS.TERMINAL 0 = true) ∧
      (s.update.recoverReq = true → t.terminalLatch = true ∨ (t.bit Reg.UPDATE.STATUS.RECOVERY 0 = true ∧ t.seqState = seqNoPlan)) := by
  obtain ⟨update, latch, first, second⟩ := timeStart_view s x
  have ready := startReady_wakeView s x
  simp only [wakeView, Prod.mk.injEq] at ready
  obtain ⟨now, request, latched⟩ := ready
  have up := startUp_starting s x
  have kept {t : State} (h : Starting (startUp s x) t) : t.boot = 0 ∧ t.now = (timeStart s x).now ∧ t.collectorUp = true ∧
      t.deferred = [] ∧ t.update.recoverReq = s.update.recoverReq := by
    have view := (up.trans h).view
    simp only [startView, Prod.mk.injEq, if_true] at view
    obtain ⟨boot, now', up', deferred, request'⟩ := view
    rw [up', if_pos rfl] at deferred
    exact ⟨boot, now'.trans now, up', deferred, request'.trans (request.trans (congrArg Update.recoverReq update))⟩
  refine ⟨_, exec_start due high logic, ?_⟩
  by_cases latch' : (startUp s x).terminalLatch = true
  · rw [if_pos latch']
    obtain ⟨-, -, collector, -, -⟩ := kept (Starting.refl _)
    have shut := raiseFault_terminal collector latch'
    obtain ⟨boot, now', up', deferred, -⟩ := kept (Starting.fault (startUp s x) Flt.FAULT.TERMINAL noUnit 3)
    exact ⟨boot, up', deferred, fun one => now'.trans (first one), fun two => now'.trans (second two), fun _ => shut.shown,
      fun _ => .inl shut.latch⟩
  · rw [if_neg latch']
    have image := startImage_starting (startUp s x) s.boot
    obtain ⟨boot, now', up', deferred, -⟩ := kept (image.trans (Starting.planStart _ s.boot))
    obtain ⟨-, -, -, -, request'⟩ := kept image
    refine ⟨boot, up', deferred, fun one => now'.trans (first one), fun two => now'.trans (second two), fun set => ?_, fun asked => .inr ?_⟩
    · exact absurd (up.latch (latched.trans (latch.trans set))) latch'
    · rw [planStart, if_pos (request'.trans asked)]
      exact recoveryStart_holds _

/-! ### Plan loads (R59 to R62) -/

/-- What the first col depends on, and the check shown. -/
def loadView (s : State) : Plan × Nat × Nat × Nat × Nat :=
  (s.plan, s.now, s.journal.lastCommit, s.fld Reg.TICK.PHASE.P 0, s.fld Reg.TICK.LOADERR.CHECK 0)

theorem loadView_setFld_as (s : State) {F : Field} {n v p c : Nat} (phase : (s.setFld F n v).fld Reg.TICK.PHASE.P 0 = p)
    (check : (s.setFld F n v).fld Reg.TICK.LOADERR.CHECK 0 = c) :
    loadView (s.setFld F n v) = (s.plan, s.now, s.journal.lastCommit, p, c) := by
  rw [loadView, phase, check]
  rfl

theorem loadView_setFld (s : State) {F : Field} {n : Nat} (v : Nat) (phase : Reg.TICK.PHASE.P.off 0 ≠ F.off n)
    (check : Reg.TICK.LOADERR.CHECK.off 0 ≠ F.off n) : loadView (s.setFld F n v) = loadView s :=
  loadView_setFld_as s (fld_setFld_elsewhere s v phase) (fld_setFld_elsewhere s v check)

theorem firstCol_of_loadView {s t : State} (h : loadView t = loadView s) : firstCol t = firstCol s := by
  simp only [loadView, Prod.mk.injEq] at h
  obtain ⟨plan, now, last, phase, -⟩ := h
  simp only [firstCol, plan, now, last, phase]

theorem sharedFill_loadView (s : State) : loadView (sharedFill s) = loadView s := by
  unfold sharedFill
  generalize s.plan.sec 7 0xFF 0xFF = image
  rfl

theorem declaredLoad_loadView (s : State) : loadView (declaredLoad s) = loadView s := by
  unfold declaredLoad
  refine foldl_view loadView (fun t i => ?_) _ s
  dsimp only
  split
  · rfl
  · refine foldl_view loadView (fun u k => ?_) _ t
    split <;> rfl

theorem placeLanes_loadView (s : State) : loadView (placeLanes s) = loadView s := rfl

theorem planShow_loadView (s : State) : loadView (planShow s) = loadView s := by
  simp (disch := decide) only [planShow, State.setFlds, loadView_setFld]

/-- A plan that stands in its registers awaits its first col. -/
def awaiting (s : State) : State := { s with seq := { s.seq with
  period := s.plan.ticks, k := levelK s.plan.level, firstCol := some (firstCol s), loading := false, narrows := false } }

theorem awaiting_holds (s : State) : (awaiting s).seqState = s.seqState ∧ (awaiting s).plan = s.plan ∧
    (awaiting s).seq.firstCol = some (firstCol s) ∧ (awaiting s).fld Reg.TICK.PERIOD.T 0 = s.fld Reg.TICK.PERIOD.T 0 ∧
    (awaiting s).fld Reg.TICK.LOADERR.CHECK 0 = s.fld Reg.TICK.LOADERR.CHECK 0 ∧ (awaiting s).seq.loading = false :=
  ⟨rfl, rfl, rfl, rfl, rfl, rfl⟩

theorem armFirst_eq (s : State) : armFirst s = awaiting ((planShow s).enter seqArmed) := rfl

theorem armFirst_holds (s : State) : (armFirst s).seqState = seqArmed ∧ (armFirst s).plan = s.plan ∧
    (armFirst s).seq.firstCol = some (firstCol s) ∧ (armFirst s).fld Reg.TICK.PERIOD.T 0 = s.plan.ticks % 2 ^ 19 ∧
    (armFirst s).fld Reg.TICK.LOADERR.CHECK 0 = s.fld Reg.TICK.LOADERR.CHECK 0 ∧ (armFirst s).seq.loading = false := by
  have armed : loadView ((planShow s).enter seqArmed) = loadView s :=
    (loadView_setFld (planShow s) seqArmed (by decide) (by decide)).trans (planShow_loadView s)
  have view : ((planShow s).enter seqArmed).handView = { s.handView with state := seqArmed, period := s.plan.ticks % 2 ^ 19 } := by
    rw [enter_handView _ (by decide), planShow_handView]
  have first := firstCol_of_loadView armed
  simp only [loadView, Prod.mk.injEq] at armed
  obtain ⟨plan, -, -, -, check⟩ := armed
  obtain ⟨state, -, -, -, period, -, -⟩ := of_handView view
  obtain ⟨state', plan', first', period', check', loading⟩ := awaiting_holds ((planShow s).enter seqArmed)
  rw [armFirst_eq]
  exact ⟨state'.trans state, plan'.trans plan, first'.trans (congrArg some first), period'.trans period, check'.trans check, loading⟩

/-- The loader shows the check that failed, or none. -/
def loadShown (s : State) (check : Nat) : State := s.setFlds [(Reg.TICK.LOADERR.TARGET, 0, 0), (Reg.TICK.LOADERR.CHECK, 0, check)]

theorem loadShown_view (s : State) (check : Nat) : loadView (loadShown s check) =
    (s.plan, s.now, s.journal.lastCommit, s.fld Reg.TICK.PHASE.P 0, check % 2 ^ 4) := by
  let t := s.setFld Reg.TICK.LOADERR.TARGET 0 0
  have target : loadView t = loadView s := loadView_setFld_as s (fld_setFld_elsewhere s _ (by decide))
    (fld_setFld_neighbour s 0 _ (by decide) rfl rfl (by decide))
  have shown : loadView (loadShown s check) = (t.plan, t.now, t.journal.lastCommit, t.fld Reg.TICK.PHASE.P 0, check % 2 ^ 4) :=
    loadView_setFld_as t (fld_setFld_elsewhere t _ (by decide)) (fld_setFld_same t Reg.TICK.LOADERR.CHECK 0 check (by decide))
  simp only [loadView, Prod.mk.injEq] at target
  obtain ⟨plan, now, last, phase, -⟩ := target
  rw [shown, plan, now, last, phase]

/-- A plan that is accepted, with its code, its data and its declared values in place. -/
def planPlaced (s : State) (p : Plan) : State := declaredLoad (sharedFill (placeLanes { loadShown s 0 with plan := p }))

theorem withPlan_loadView (s : State) (p : Plan) : loadView { s with plan := p } = (p, (loadView s).2) := rfl

theorem planPlaced_view (s : State) (p : Plan) : loadView (planPlaced s p) =
    (p, s.now, s.journal.lastCommit, s.fld Reg.TICK.PHASE.P 0, 0) := by
  unfold planPlaced
  rw [declaredLoad_loadView, sharedFill_loadView, placeLanes_loadView, withPlan_loadView, loadShown_view]
  rfl

theorem exec_planLoadDone {s : State} (loading : s.seq.loading = true) (state : s.seqState = seqLoading) {c : Nat} {o : Option Plan}
    (judged : loadCheck s s.seq.loadLevel = (c, o)) : (∀ p, c = 0 → o = some p → exec .planLoadDone s = .next (armFirst (planPlaced s p))) ∧
      ((c = 0 → o = none) → exec .planLoadDone s = .next (loadFailed s c)) := by
  have loads : ¬(!s.seq.loading || decide (s.seqState ≠ seqLoading)) = true := by simp [loading, state]
  have run : exec .planLoadDone s = match (c, o) with
      | (0, some p) => .next (armFirst (planPlaced s p))
      | (c, _) => .next (loadFailed s c) := by
    show execPlanLoadDone s = _
    unfold execPlanLoadDone
    rw [if_neg loads, judged]
    rfl
  refine ⟨fun p zero plan => ?_, fun bad => ?_⟩
  · subst zero plan
    exact run
  · cases c with
    | zero =>
      have none' := bad rfl
      subst none'
      exact run
    | succ c => exact run

theorem planAccepted_holds (s : State) (p : Plan) :
    (armFirst (planPlaced s p)).seqState = seqArmed ∧ (armFirst (planPlaced s p)).plan = p ∧
      (armFirst (planPlaced s p)).seq.firstCol = some (firstCol { s with plan := p }) ∧
      (armFirst (planPlaced s p)).fld Reg.TICK.PERIOD.T 0 = p.ticks % 2 ^ 19 ∧
      (armFirst (planPlaced s p)).fld Reg.TICK.LOADERR.CHECK 0 = 0 ∧ (armFirst (planPlaced s p)).seq.loading = false := by
  obtain ⟨state, plan, first, period, check, loading⟩ := armFirst_holds (planPlaced s p)
  have view := planPlaced_view s p
  have same : firstCol (planPlaced s p) = firstCol { s with plan := p } := by
    simp only [loadView, Prod.mk.injEq] at view
    obtain ⟨plan', now, last, phase, -⟩ := view
    simp only [firstCol, plan', now, last, phase]
    rfl
  simp only [loadView, Prod.mk.injEq] at view
  obtain ⟨plan', -, -, -, check'⟩ := view
  exact ⟨state, plan.trans plan', first.trans (congrArg some same), period.trans (by rw [plan']), check.trans check', loading⟩

/-! Loads that fail -/

theorem setFld_plan (s : State) (F : Field) (n v : Nat) : (s.setFld F n v).plan = s.plan := rfl
theorem setFld_seq (s : State) (F : Field) (n v : Nat) : (s.setFld F n v).seq = s.seq := rfl
theorem setFld_imem (s : State) (F : Field) (n v : Nat) : (s.setFld F n v).imem = s.imem := rfl

/-- The sequencer is back in NOPLAN, and the check that failed is shown. -/
def loadRefused (s : State) (check : Nat) : State :=
  loadShown ({ s with seq := { s.seq with loading := false } }.enter seqNoPlan) check

theorem loadRefused_live {s : State} (live : Live s) (check : Nat) : Live (loadRefused s check) := by
  have idle : Live { s with seq := { s.seq with loading := false } } := ⟨live.up, live.open', live.quiet⟩
  exact ((idle.setFld _ (by decide)).setFld _ (by decide)).setFld _ (by decide)

theorem loadRefused_shown (s : State) (check : Nat) :
    (loadRefused s check).seqState = seqNoPlan ∧ (loadRefused s check).fld Reg.TICK.LOADERR.CHECK 0 = check % 16 ∧
      (loadRefused s check).plan = s.plan ∧ (loadRefused s check).imem = s.imem := by
  let t := { s with seq := { s.seq with loading := false } }.enter seqNoPlan
  have view := loadShown_view t check
  simp only [loadView, Prod.mk.injEq] at view
  obtain ⟨plan, -, -, -, shown⟩ := view
  have state : (loadRefused s check).seqState = t.seqState :=
    (fld_setFld_elsewhere _ _ (by decide)).trans (fld_setFld_elsewhere t _ (by decide))
  refine ⟨state.trans (enter_seqState _ (by decide)), shown, plan.trans ?_, ?_⟩
  · exact setFld_plan _ _ _ _
  · exact (setFld_imem _ _ _ _).trans ((setFld_imem _ _ _ _).trans (setFld_imem _ _ _ _))

theorem loadFailed_holds {s : State} (live : Live s) (check : Nat) :
    Flagged (loadFailed s check) Flt.TICK.PLANLOAD noUnit 1 ∧ (loadFailed s check).seqState = seqNoPlan ∧ (loadFailed s check).plan = s.plan ∧
      (loadFailed s check).imem = s.imem ∧ (loadFailed s check).fld Reg.TICK.LOADERR.CHECK 0 = check % 16 := by
  have live' := loadRefused_live live check
  obtain ⟨state, shown, plan, imem⟩ := loadRefused_shown s check
  have word {o : Nat} (low : o < 0x30000) :
      (raiseFault (loadRefused s check) Flt.TICK.PLANLOAD noUnit 1).word o = (loadRefused s check).word o :=
    raiseFault_view_tame (unlogged_word low) (fun _ _ => rfl) live'.quiet (by decide) (faultOutput_sys _ _ (by decide))
  have plan' := congrArg (fun x : Stores => x.2.1) (raiseFault_raised (loadRefused s check) Flt.TICK.PLANLOAD noUnit 1).stores
  have imem' := congrArg (fun x : Held => x.2.1) (raiseFault_held (loadRefused s check) Flt.TICK.PLANLOAD noUnit 1)
  refine ⟨raiseFault_flagged live' _ _ _, ?_, plan'.trans plan, imem'.trans imem, ?_⟩
  · refine Eq.trans ?_ state
    show State.fld _ _ _ = State.fld _ _ _
    rw [State.fld, State.fld]
    exact congrArg (fun w => getBits w _ _) (word (by decide))
  · refine Eq.trans ?_ shown
    rw [State.fld, State.fld]
    exact congrArg (fun w => getBits w _ _) (word (by decide))

theorem planLoadDone_holds {s : State} (loading : s.seq.loading = true) (state : s.seqState = seqLoading) (live : Live s) :
    Ends .planLoadDone s fun t =>
      match loadCheck s s.seq.loadLevel with
      | (0, some p) => t.seqState = seqArmed ∧ t.plan = p ∧ t.seq.firstCol = some (firstCol { s with plan := p }) ∧
          t.fld Reg.TICK.PERIOD.T 0 = p.ticks % 2 ^ 19 ∧ t.fld Reg.TICK.LOADERR.CHECK 0 = 0 ∧ t.seq.loading = false
      | (c, _) => c ≠ 0 → Flagged t Flt.TICK.PLANLOAD noUnit 1 ∧ t.seqState = seqNoPlan ∧ t.plan = s.plan ∧ t.imem = s.imem ∧
          t.fld Reg.TICK.LOADERR.CHECK 0 = c % 16 := by
  rcases judged : loadCheck s s.seq.loadLevel with ⟨c, o⟩
  obtain ⟨accepted, failed⟩ := exec_planLoadDone loading state judged
  match c, o with
  | 0, some p => exact ⟨_, accepted p rfl rfl, planAccepted_holds s p⟩
  | 0, none => exact ⟨_, failed fun _ => rfl, fun bad => absurd rfl bad⟩
  | c + 1, _ => exact ⟨_, failed nofun, fun _ => loadFailed_holds live (c + 1)⟩

/-! Requests for a load -/

theorem exec_load {s : State} {b : By} (priv : b.priv = true) : exec (.load b) s = .next (loadRequest s) := by
  show Host.Outcome.next _ = _
  rw [privOnly, if_pos priv]

theorem loadBegin_holds (s : State) (level : Nat) : (loadBegin s level).seqState = seqLoading ∧ (loadBegin s level).seq.loading = true ∧
    (loadBegin s level).seq.loadLevel = level ∧ (loadBegin s level).plan = s.plan := by
  let t := { s with seq := { s.seq with loading := true, loadLevel := level } }
  have seq : (loadBegin s level).seq = t.seq := setFld_seq t _ _ _
  exact ⟨enter_seqState t (by decide), congrArg Seq.loading seq, congrArg Seq.loadLevel seq, setFld_plan t _ _ _⟩

theorem load_holds {s : State} {b : By} (priv : b.priv = true) :
    (s.seqState = seqNoPlan → s.bit Reg.UPDATE.STATUS.RECOVERY 0 = false → s.boot = 0 → Ends (.load b) s fun t =>
      t.seqState = seqLoading ∧ t.seq.loading = true ∧ t.seq.loadLevel = s.fld Reg.POWER.PERF.REQ 0 ∧ t.plan = s.plan) ∧
    (s.seqState ≠ seqNoPlan → exec (.load b) s = .next s) := by
  refine ⟨fun idle service up => ?_, fun busy => ?_⟩
  · have loads : s.seqState = seqNoPlan ∧ !s.bit Reg.UPDATE.STATUS.RECOVERY 0 ∧ s.boot = 0 := ⟨idle, by simp [service], up⟩
    have run : exec (.load b) s = .next (loadBegin s (s.fld Reg.POWER.PERF.REQ 0)) := by
      rw [exec_load priv, loadRequest, if_pos loads]
    exact ⟨_, run, loadBegin_holds s _⟩
  · rw [exec_load priv, loadRequest, if_neg fun loads => busy loads.1]

/-- Settles O51: a start by the parts that leave its time, its collector, its recovery request and a set latch, with class F3 kept in
force by the raise that ends it; loads by the first col and the check shown. The model's choices it rests on are log 1 (a start that
is not due, and a load outside NOPLAN, do nothing) and log 118 (the state that a load ends in). -/
theorem startsAndPlanLoads : Obligations.StartsAndPlanLoads :=
  ⟨fun _ _ none' => exec_start_none none', fun _ _ due high logic => start_holds due high logic,
    fun _ loading state live => planLoadDone_holds loading state live, fun _ _ priv => load_holds priv⟩

end Sys2Proof.Machine
end

section
namespace Sys2Proof.Machine

/-! ### What an operation in flight does at its time (R8, R82, R88, R107, R113, R120 to R123, R498) -/

/-! Registers of a lane -/

/-- A general register after a write: g0 reads 0, the register written its value, any other its own. -/
theorem Lane.gpr_setGpr (l : Lane) (p : Bool) (rd : Nat) (v : Word) (q : Bool) (r : Nat) :
    (l.setGpr p rd v).gpr q r = if r = 0 then 0 else if q = p ∧ r = rd then v else l.gpr q r := by
  by_cases zero : r = 0
  · simp [Lane.gpr, zero]
  by_cases discarded : rd = 0
  · simp [Lane.setGpr, discarded, zero]
  · cases p <;> cases q <;> simp [Lane.gpr, Lane.setGpr, discarded, zero, smapGet_set]

theorem Lane.prd_setGpr (l : Lane) (p : Bool) (rd : Nat) (v : Word) (q : Bool) (i : Nat) :
    (l.setGpr p rd v).prd q i = l.prd q i := by
  unfold Lane.setGpr
  split
  · rfl
  · split <;> rfl

/-- A bit of a byte after one bit is set. -/
theorem getLsbD_withBit (b : Byte) {i j : Nat} (v : Bool) (hj : j < 8) :
    (withBit b i v).getLsbD j = if j = i then v else b.getLsbD j := by
  have mask : (BitVec.ofNat 8 (2 ^ i)).getLsbD j = decide (j = i) := by
    rw [BitVec.getLsbD_ofNat, Nat.testBit_two_pow, decide_eq_true hj, Bool.true_and, decide_eq_decide, eq_comm]
  unfold withBit
  cases v
  · rw [if_neg Bool.false_ne_true, BitVec.getLsbD_and, BitVec.getLsbD_not, mask]
    by_cases same : j = i <;> simp [same, hj]
  · rw [if_pos rfl, BitVec.getLsbD_or, mask]
    by_cases same : j = i <;> simp [same]

/-- A predicate after a write: p0 reads 1, the predicate written its value, any other its own. -/
theorem Lane.prd_setPrd (l : Lane) (p : Bool) (pd : Nat) (v : Bool) (q : Bool) {i : Nat} (hi : i < 8) :
    (l.setPrd p pd v).prd q i = if i = 0 then true else if q = p ∧ i = pd then v else l.prd q i := by
  by_cases zero : i = 0
  · simp [Lane.prd, zero]
  have named : (i == 0) = false := beq_false_of_ne zero
  by_cases discarded : pd = 0
  · simp [Lane.setPrd, discarded, zero]
  · cases p <;> cases q <;> simp [Lane.prd, Lane.setPrd, discarded, zero, named, getLsbD_withBit _ v hi]

theorem Lane.gpr_setPrd (l : Lane) (p : Bool) (pd : Nat) (v : Bool) (q : Bool) (r : Nat) :
    (l.setPrd p pd v).gpr q r = l.gpr q r := by
  unfold Lane.setPrd
  split
  · rfl
  · split <;> rfl

/-! Operations in flight -/

theorem mem_evInsert {x e : LaneEv} {l : List LaneEv} : x ∈ evInsert e l ↔ x = e ∨ x ∈ l := by
  induction l with
  | nil => simp [evInsert]
  | cons y l ih =>
    unfold evInsert
    split
    · exact List.mem_cons
    · rw [List.mem_cons, ih, List.mem_cons, or_left_comm]

/-- Among the operations in flight stand the one just scheduled and those before. -/
theorem mem_inFlight {s : State} {n c due : Nat} {a : LaneAct} {x : LaneEv} : x ∈ (inFlight s n c due a).laneEv ↔
    x = { due := due, prio := actPrio a, issue := c, lane := n, act := a } ∨ x ∈ s.laneEv := mem_evInsert

@[simp] theorem inFlight_lane (s : State) (n c due : Nat) (a : LaneAct) (m : Nat) : (inFlight s n c due a).lane m = s.lane m := (rfl)

/-! Reservations (R122, R123) -/

/-- The reservation on the granule of an address stands. -/
def Lane.reserves (l : Lane) (a : Nat) : Bool :=
  match l.resv with
  | some r => r.gran == a / 8 && !r.broken
  | none => false

theorem Lane.reserves_eq (l : Lane) (a : Nat) :
    l.reserves a = decide (∃ r, l.resv = some r ∧ r.gran = a / 8 ∧ r.broken = false) := by
  cases h : l.resv with
  | none => simp [Lane.reserves, h]
  | some r => simp [Lane.reserves, h, Bool.decide_and, Bool.beq_eq_decide_eq]

/-- A change of each lane in turn changes every lane of the list once. -/
theorem each_lane {f : State → Nat → State} {g : Nat → Lane → Lane}
    (one : ∀ s n m, (f s n).lane m = if m = n then g n (s.lane n) else s.lane m) (s : State) {l : List Nat} (once : l.Nodup) (m : Nat) :
    (s.each f l).lane m = if m ∈ l then g m (s.lane m) else s.lane m := by
  induction l generalizing s with
  | nil => rfl
  | cons n l ih =>
    obtain ⟨fresh, once⟩ := List.nodup_cons.1 once
    refine (ih (f s n) once).trans ?_
    rw [one]
    by_cases here : m = n
    · subst here; simp [fresh]
    · simp [here]

/-- A lane behind a write of `size` bytes at `a`: the reservation of another lane than the writer is broken where the write touches
its granule. -/
def Lane.afterWrite (writer a size n : Nat) (l : Lane) : Lane :=
  match l.resv with
  | some r =>
    if n ≠ writer ∧ a / 8 ≤ r.gran ∧ r.gran ≤ (a + size - 1) / 8 then { l with resv := some { r with broken := true } } else l
  | none => l

theorem Lane.afterWrite_own (l : Lane) (a size n : Nat) : l.afterWrite n a size n = l := by
  unfold Lane.afterWrite
  split
  · exact if_neg fun h => h.1 rfl
  · rfl

theorem Lane.afterWrite_other {l : Lane} {r : Resv} (held : l.resv = some r) {writer n : Nat} (other : n ≠ writer) (a size : Nat) :
    (l.afterWrite writer a size n).resv =
      some { r with broken := r.broken || (decide (a / 8 ≤ r.gran) && decide (r.gran ≤ (a + size - 1) / 8)) } := by
  by_cases touched : a / 8 ≤ r.gran ∧ r.gran ≤ (a + size - 1) / 8
  · simp [Lane.afterWrite, held, other, touched]
  · have spared : (decide (a / 8 ≤ r.gran) && decide (r.gran ≤ (a + size - 1) / 8)) = false := by
      rw [← Bool.decide_and, decide_eq_false touched]
    simp only [Lane.afterWrite, held, if_neg fun h => touched (And.right h), spared, Bool.or_false]

theorem breakResv_lane (s : State) (writer a size n : Nat) : (breakResv s writer a size).lane n =
    if n ∈ upTo 4 then (s.lane n).afterWrite writer a size n else s.lane n := by
  refine each_lane (g := Lane.afterWrite writer a size) (fun s n m => ?_) s List.nodup_range n
  have self : (if m = n then s.lane n else s.lane m) = s.lane m := by
    split
    · next h => rw [h]
    · rfl
  unfold Lane.afterWrite
  cases h : (s.lane n).resv with
  | none => exact self.symm
  | some r =>
    dsimp only
    split
    · exact lane_setLane ..
    · exact self.symm

/-- Breaking reservations touches the lanes only. -/
theorem breakResv_view {β : Type} (g : State → β) (h : ∀ s n l, g (s.setLane n l) = g s) (s : State) (writer a size : Nat) :
    g (breakResv s writer a size) = g s :=
  each_view g (fun s n => by
    split
    · split
      · exact h ..
      · rfl
    · rfl) s _

/-! A store that lands in shared memory (R8, R120, R123) -/

theorem laneAct_land {s : State} {e : LaneEv} {a size : Nat} {v : Word} (act : e.act = .land a size v) :
    laneAct s e = breakResv { s with shared := wrLE s.shared a v.toNat size } e.lane a size := by
  unfold laneAct
  rw [act]

theorem land_holds {s : State} {e : LaneEv} {a size : Nat} {v : Word} (act : e.act = .land a size v) :
    (∀ i, i < size → rdByte (laneAct s e).shared (a + i) = BitVec.ofNat 8 (v.toNat / 256 ^ i)) ∧
    (∀ b, b < a ∨ a + size ≤ b → rdByte (laneAct s e).shared b = rdByte s.shared b) ∧
    (∀ n, n < 4 → n ≠ e.lane → ∀ r, (s.lane n).resv = some r →
      ((laneAct s e).lane n).resv = some { r with broken := r.broken || (decide (a / 8 ≤ r.gran) && decide (r.gran ≤ (a + size - 1) / 8)) }) ∧
    ((laneAct s e).lane e.lane = s.lane e.lane) ∧
    (laneAct s e).imem = s.imem ∧ (laneAct s e).dmem = s.dmem ∧ (laneAct s e).regs = s.regs := by
  rw [laneAct_land act]
  let t := { s with shared := wrLE s.shared a v.toNat size }
  have shared : (breakResv t e.lane a size).shared = wrLE s.shared a v.toNat size := breakResv_view State.shared (fun _ _ _ => rfl) ..
  refine ⟨fun i hi => ?_, fun b outside => ?_, fun n hn other r held => ?_, ?_, breakResv_view State.imem (fun _ _ _ => rfl) ..,
    breakResv_view State.dmem (fun _ _ _ => rfl) .., breakResv_view State.regs (fun _ _ _ => rfl) ..⟩
  · rw [shared, rdByte_wrLE _ _ _ _ _ hi]
  · rw [shared, rdByte_wrLE_ne _ _ _ _ _ outside]
  · have there : n ∈ upTo 4 := List.mem_range.2 hn
    rw [breakResv_lane, if_pos there]
    exact Lane.afterWrite_other held other a size
  · rw [breakResv_lane, Lane.afterWrite_own, ite_self]
    rfl

/-! A local store (R82, R498) -/

/-- A local store of a word without an error writes its bytes, with the error that was injected into it, which is then spent. -/
theorem dstoreAct_clean {s : State} {n off : Nat} (clean : dmemErrAt s n off = 0) (size : Nat) (v : Word) :
    dstoreAct s n off size v =
      (setDmemErr { s with dmem := wrLE s.dmem (n * laneSize + off) v.toNat size } n off
        (if (s.lane n).ecc2 then 2 else if (s.lane n).ecc1 then 1 else 0)).setLane n { s.lane n with ecc1 := false, ecc2 := false } := by
  have readable : ¬(size < 8 ∧ (0 : Nat) = 2) := fun h => absurd h.2 (by decide)
  have correct : ¬(size < 8 ∧ (0 : Nat) ≠ 0) := fun h => h.2 rfl
  unfold dstoreAct
  simp only [clean, readable, correct, if_false]
  rfl

theorem laneAct_dstore {s : State} {e : LaneEv} {a size : Nat} {v : Word} (act : e.act = .dstore a size v) :
    laneAct s e = dstoreAct s e.lane a size v := by
  unfold laneAct
  rw [act]

theorem dstore_holds {s : State} {e : LaneEv} {a size : Nat} {v : Word} (act : e.act = .dstore a size v)
    (clean : dmemErrAt s e.lane a = 0) :
    (∀ i, i < size → rdByte (laneAct s e).dmem (e.lane * laneSize + a + i) = BitVec.ofNat 8 (v.toNat / 256 ^ i)) ∧
    (∀ b, b < e.lane * laneSize + a ∨ e.lane * laneSize + a + size ≤ b → rdByte (laneAct s e).dmem b = rdByte s.dmem b) ∧
    (laneAct s e).imem = s.imem ∧ (laneAct s e).shared = s.shared ∧ (laneAct s e).regs = s.regs ∧
    (laneAct s e).laneEv = s.laneEv := by
  rw [laneAct_dstore act, dstoreAct_clean clean]
  exact ⟨fun i hi => rdByte_wrLE _ _ _ _ _ hi, fun b outside => rdByte_wrLE_ne _ _ _ _ _ outside, rfl, rfl, rfl, rfl⟩

/-! Loads and atomics at their slot (R82, R88, R121 to R123) -/

theorem laneAct_shLoad {s : State} {e : LaneEv} {p sgn : Bool} {rd a size : Nat} (act : e.act = .shLoad p rd a size sgn) :
    laneAct s e = inFlight s e.lane e.issue (e.due + 5) (.gpr p rd (extendTo size sgn (rdLE s.shared a size))) := by
  unfold laneAct
  rw [act]

theorem laneAct_tas {s : State} {e : LaneEv} {p : Bool} {rd a : Nat} (act : e.act = .tas p rd a) :
    let old := extendTo 8 false (rdLE s.shared a 8)
    laneAct s e = inFlight (inFlight s e.lane e.issue (e.due + 5) (.gpr p rd old)) e.lane e.issue (e.due + 2) (.land a 8 (old ||| 1)) := by
  unfold laneAct
  rw [act]

theorem laneAct_lr {s : State} {e : LaneEv} {p : Bool} {rd a : Nat} (act : e.act = .lr p rd a) :
    laneAct s e = inFlight (s.setLane e.lane { s.lane e.lane with resv := some { gran := a / 8, slot := e.due, broken := false } })
      e.lane e.issue (e.due + 5) (.gpr p rd (extendTo 8 false (rdLE s.shared a 8))) := by
  unfold laneAct
  rw [act]
  rfl

theorem lr_holds {s : State} {e : LaneEv} {p : Bool} {rd a : Nat} (act : e.act = .lr p rd a) :
    ((laneAct s e).lane e.lane).resv = some { gran := a / 8, slot := e.due, broken := false } ∧
    { due := e.due + 5, prio := 4, issue := e.issue, lane := e.lane, act := .gpr p rd (extendTo 8 false (rdLE s.shared a 8)) } ∈
      (laneAct s e).laneEv := by
  rw [laneAct_lr act]
  refine ⟨?_, mem_inFlight.2 (.inl rfl)⟩
  rw [inFlight_lane, lane_setLane_same]

/-- The lane's reservation is cleared. -/
def unreserved (s : State) (n : Nat) : State := s.setLane n { s.lane n with resv := none }

theorem laneAct_sc {s : State} {e : LaneEv} {p : Bool} {pd a : Nat} {v : Word} (act : e.act = .sc p pd a v) :
    laneAct s e = inFlight (if (s.lane e.lane).reserves a then inFlight (unreserved s e.lane) e.lane e.issue (e.due + 2) (.land a 8 v)
      else unreserved s e.lane) e.lane e.issue (e.due + 5) (.pred p pd ((s.lane e.lane).reserves a)) := by
  unfold laneAct
  rw [act]
  rfl

theorem sc_holds {s : State} {e : LaneEv} {p : Bool} {pd a : Nat} {v : Word} (act : e.act = .sc p pd a v) :
    ((laneAct s e).lane e.lane).resv = none ∧
    let ok := decide (∃ r, (s.lane e.lane).resv = some r ∧ r.gran = a / 8 ∧ r.broken = false)
    ({ due := e.due + 5, prio := 4, issue := e.issue, lane := e.lane, act := .pred p pd ok } ∈ (laneAct s e).laneEv) ∧
    (ok = true → { due := e.due + 2, prio := 2, issue := e.issue, lane := e.lane, act := .land a 8 v } ∈ (laneAct s e).laneEv) ∧
    (ok = false → ∀ x ∈ (laneAct s e).laneEv, x ∈ s.laneEv ∨ x.act = .pred p pd false) := by
  have cleared : ((unreserved s e.lane).lane e.lane).resv = none := by rw [unreserved, lane_setLane_same]
  rw [laneAct_sc act, ← Lane.reserves_eq]
  refine ⟨?_, mem_inFlight.2 (.inl rfl), fun stands => ?_, fun lost x hx => ?_⟩
  · rw [inFlight_lane]
    split
    · rw [inFlight_lane, cleared]
    · exact cleared
  · rw [if_pos stands]
    exact mem_inFlight.2 (.inr (mem_inFlight.2 (.inl rfl)))
  · rw [lost, if_neg Bool.false_ne_true] at hx
    rcases mem_inFlight.1 hx with rfl | before
    · exact .inr rfl
    · exact .inl before

/-! Results that are due (R107, R113) -/

theorem laneAct_gpr {s : State} {e : LaneEv} {p : Bool} {rd : Nat} {v : Word} (act : e.act = .gpr p rd v) :
    laneAct s e = s.setLane e.lane ((s.lane e.lane).setGpr p rd v) := by
  unfold laneAct
  rw [act]

theorem laneAct_pred {s : State} {e : LaneEv} {p v : Bool} {pd : Nat} (act : e.act = .pred p pd v) :
    laneAct s e = s.setLane e.lane ((s.lane e.lane).setPrd p pd v) := by
  unfold laneAct
  rw [act]

/-- Settles O6: a slot's sample (`laneAct_shLoad`, `laneAct_tas`, `lr_holds`, `sc_holds`), bytes that land (`land_holds`) or are
stored locally (`dstore_holds`), and the banks behind a result (`Lane.gpr_setGpr`, `Lane.prd_setPrd`). -/
theorem operationsInFlightAct : Obligations.OperationsInFlightAct := by
  unfold Obligations.OperationsInFlightAct
  refine ⟨fun s e p rd a => ⟨fun size sgn => laneAct_shLoad, laneAct_tas, lr_holds, fun v => sc_holds⟩,
    fun s e a size v => land_holds, fun s e a size v => dstore_holds, fun s e p => ⟨fun rd v act => ?_, fun pd v hpd act => ?_⟩⟩
  · rw [laneAct_gpr act, lane_setLane_same]
    exact ⟨fun q r => Lane.gpr_setGpr .., fun q i => Lane.prd_setGpr .., rfl⟩
  · rw [laneAct_pred act, lane_setLane_same]
    exact ⟨fun q i hi => Lane.prd_setPrd _ p pd v q hi, fun q r => Lane.gpr_setPrd .., rfl⟩

end Sys2Proof.Machine
end

section
namespace Sys2Proof.Machine

/-! ### A bundle of one operation (R81, R110, R115) -/

/-- Nothing acts where nothing in flight is due. -/
theorem settleTo_of_none_due {s : State} {c : Nat} (later : ∀ e ∈ s.laneEv, c < e.due) : settleTo s c = s := by
  unfold settleTo
  cases h : s.laneEv with
  | nil => rfl
  | cons e r =>
    have first : ¬e.due ≤ c := Nat.not_le.2 (later e (h ▸ List.mem_cons_self))
    show settleFuel (4 * r.length + 4) c s = s
    rw [settleFuel, h]
    exact if_neg first

/-- The state in which the operation's bundle acts: the time base has reached its cycle. -/
def Op.begun (op : Op) (s : State) : State := (s.reach (countOf s (op.cyc s))).setLane op.lane.val (op.at s)

theorem badBundle_of_legal {ys : List Syl} (legal : bundleCause ys = 0) : badBundle ys = false := by
  by_contra bad
  rw [Bool.not_eq_false] at bad
  by_cases code : ys.any badEncoding <;> simp [bundleCause, bad, code] at legal

/-- A bundle of one legal operation has at most eight syllables, and its operation no more extensions than its row allows. -/
theorem extensions_of_legal {k : OpKind} {op : Op} (legal : bundleCause [{ kind := k, op := op }] = 0) :
    1 + op.ext.length ≤ 8 ∧ op.ext.length ≤ if (opRow k).ext then 2 else 0 := by
  have sound := badBundle_of_legal legal
  simp only [badBundle, Bool.or_eq_false_iff, decide_eq_false_iff_not, not_lt, List.any_cons, List.any_nil, Bool.or_false] at sound
  obtain ⟨⟨⟨⟨⟨⟨-, syls⟩, -⟩, -⟩, -⟩, exts⟩, -⟩ := sound
  exact ⟨syls, exts⟩

/-- A lane without redirects and gathered syllables stands as it is when its bundle begins. -/
theorem Lane.begun_of_straight {l : Lane} (straight : l.redirects = []) (first : l.cur = []) :
    { l with pc := BitVec.ofNat 32 l.pc.toNat, priv := l.priv || false, redirects := [], cur := [] } = l := by
  rw [BitVec.ofNat_toNat, BitVec.setWidth_eq, Bool.or_false, ← straight, ← first]

theorem laneOp_issues {s : State} {k : OpKind} {op : Op} (ready : Ready s k op) :
    laneOp k op s = issue s op.lane.val [{ kind := k, op := op }] (1 + op.ext.length) 0 := by
  have size := (extensions_of_legal ready.legal).1
  have syls : sylCount [{ kind := k, op := op }] = 1 + op.ext.length := rfl
  have first : (s.lane op.lane.val).cur = [] := ready.first
  have on : (!((s.lane op.lane.val).running && (s.lane op.lane.val).inService)) = false := by
    rw [← Op.at, ready.runs, ready.service]; rfl
  unfold laneOp
  simp only [on, first, List.nil_append, ready.stop, syls, ready.legal, Bool.true_or, if_true, Bool.false_eq_true, if_false,
    Nat.min_eq_right size]

/-- A lane that is ready issues the operation in a bundle of its own. -/
theorem laneOp_ready {s : State} {k : OpKind} {op : Op} (ready : Ready s k op) : laneOp k op s =
    let a := opRun (op.ctx s) { kind := k, op := op } (Acc.start (op.begun s))
    if a.lost then a.st else bundleEnd (op.ctx s) false a := by
  rw [laneOp_issues ready]
  obtain ⟨runs, -, first, -, flight, straight, ⟨above, below⟩, aligned, -, -, -⟩ := ready
  unfold issue
  extract_lets c t l hit target pc rest l' next notAddr fetch cause x begun ran ran'
  have ht : t = s.reach (countOf s (op.cyc s)) := congrArg (State.reach · _) (settleTo_of_none_due flight)
  have hl : l = op.at s := by simp only [l, ht]; rfl
  have hhit : hit = none := by simp only [hit, hl, straight, List.find?_nil]
  have hpc : pc = (op.at s).pc.toNat := by simp only [pc, target, hhit, hl, Option.bind_none]
  have hl' : l' = op.at s := by
    simp only [l', hl, hhit, hpc, rest, straight, List.filter_nil]
    exact Lane.begun_of_straight straight first
  have hnext : next = (op.at s).pc.toNat + 4 * (1 + op.ext.length) := by simp only [next, hpc]
  have hfetch : fetch = false := by
    have entry : plainsEntry t = plainsEntry s := by rw [ht]; rfl
    have stop' : windowEnd t = windowEnd s := by rw [ht]; rfl
    simp [fetch, notAddr, target, hhit, hnext, hpc, aligned, entry, stop', above, below]
  have hx : x = op.ctx s := by
    simp only [x, hl', hpc, hnext, rest, hl, straight]
    rfl
  have hcause : cause = 0 := if_neg (Bool.eq_false_iff.1 hfetch)
  have hstart : Acc.start (t.setLane op.lane.val l') = Acc.start (op.begun s) := by rw [ht, hl']; rfl
  have hran : ran = ran' := by
    simp only [ran, ran', begun, hcause, if_true, List.foldl_cons, List.foldl_nil, hx, hstart]
    rfl
  have on : ¬(!l.running) = true := by rw [hl, runs]; exact Bool.false_ne_true
  rw [if_neg on, hran, hx, hfetch]

/-! What a bundle leaves of the state -/

theorem issued_begun (s : State) (op : Op) : Issued s (op.begun s) op (op.at s) s.laneEv where
  lane := lane_setLane_same ..
  others m hm := by rw [Op.begun, lane_setLane, if_neg hm]; rfl
  flight := rfl
  now := rfl
  rest := rfl

namespace Issued
variable {s t : State} {op : Op} {l : Lane} {ev : List LaneEv}

theorem setLane (h : Issued s t op l ev) (l' : Lane) : Issued s (t.setLane op.lane.val l') op l' ev where
  lane := lane_setLane_same ..
  others m hm := by rw [lane_setLane, if_neg hm, h.others m hm]
  flight := h.flight
  now := h.now
  rest := by rw [State.setLane, h.rest]

theorem inFlight (h : Issued s t op l s.laneEv) (due : Nat) (a : LaneAct) :
    Issued s (inFlight t op.lane.val (op.cyc s) due a) op l (op.fly s due a) where
  lane := h.lane
  others := h.others
  flight := by rw [Machine.inFlight, h.flight]; rfl
  now := h.now
  rest := by rw [Machine.inFlight, h.rest]

theorem endBlock (h : Issued s t op l ev) (at' : Nat) (wait : Bool) : Issued s (endBlock t op.lane.val at' wait) op
    { l with
      running := false, plain := false, priv := true, resv := none, redirects := [], cur := [], endedAt := at',
      done := l.block :: l.done, waiting := wait && pwrMode s != 0 } ev := by
  have stopped : Issued s (laneStop t op.lane.val at') op _ ev := h.setLane _
  have mode : pwrMode (laneStop t op.lane.val at') = pwrMode s := by rw [stopped.rest]; rfl
  have ended := stopped.setLane
  unfold Machine.endBlock
  dsimp only
  rw [mode, stopped.lane, h.lane]
  exact ended _

end Issued

/-! Behind the operation -/

/-- The redirect that a bundle's branch leaves, if it has one (R82). -/
def Op.redirects (op : Op) (s : State) : Option (Option Word) → List Redirect
  | some t => [{ due := op.cyc s + 3, target := t, trap := false }]
  | none => []

/-- The lane behind a bundle of this operation, by its branch and by whether it drops the privilege. -/
def Op.past (op : Op) (s : State) (branch : Option (Option Word)) (drop : Bool) : Lane :=
  { op.after s with redirects := op.redirects s branch, priv := (op.at s).priv && !drop }

/-- The state behind the bundle, before a block or plain ends with it. -/
def Op.passed (op : Op) (s : State) (a : Acc) : State := a.st.setLane op.lane.val (op.past s a.branch a.drop)

/-- The operation has run as `a` says: it has not trapped, its lane stands as it was, and `ev` is in flight. -/
structure Ran (s : State) (k : OpKind) (op : Op) (a : Acc) (ev : List LaneEv) : Prop where
  run : opRun (op.ctx s) { kind := k, op := op } (Acc.start (op.begun s)) = a
  traps : a.traps = []
  kept : a.lost = false
  issued : Issued s a.st op (op.at s) ev

/-- A bundle whose operation has not trapped ends as the operation says: not at all, with the plain, or with the block. -/
theorem laneOp_ran {s : State} {k : OpKind} {op : Op} {a : Acc} {ev : List LaneEv} (ready : Ready s k op) (ran : Ran s k op a ev) :
    laneOp k op s =
      if a.stop = 0 then op.passed s a
      else if (op.at s).plain then
        savePlain (op.passed s a) op.lane.val (op.ctx s).next (op.cyc s + 1) ((op.at s).priv && !a.drop)
      else endBlock (op.passed s a) op.lane.val (op.cyc s + 1) (a.stop == 2) := by
  obtain ⟨run, traps, kept, issued⟩ := ran
  rw [laneOp_ready ready, run]
  dsimp only
  rw [kept, if_neg Bool.false_ne_true]
  have lane : a.st.lane (op.ctx s).n = op.at s := issued.lane
  unfold bundleEnd
  extract_lets st l plain br tr past stop ended
  have hl : l = op.at s := lane
  have htr : tr = [] := by simp [tr, traps]
  have hpast : past = op.passed s a := by
    simp only [past, htr, List.append_nil, hl, ready.straight, List.nil_append]
    rfl
  have hstop : stop = a.stop := by simp [stop]
  have time : (plain && decide ((past.lane (op.ctx s).n).plainEnd ≤ (op.ctx s).c + 1)) = false := by
    have same : (past.lane (op.ctx s).n).plainEnd = (op.at s).plainEnd := by
      rw [hpast, Op.passed, Op.ctx, lane_setLane_same]
      rfl
    rw [same, Bool.and_eq_false_imp]
    exact fun p => decide_eq_false (Nat.not_le.2 (ready.time p))
  rw [traps]
  show ended = _
  simp only [ended, hstop, time, Bool.false_eq_true, if_false]
  rw [hpast, hl]
  rfl

/-- An operation that ends neither block nor plain leaves its lane at the next bundle. -/
theorem completes_of_ran {i : Instr} {s : State} {k : OpKind} {op : Op} {a : Acc} {ev : List LaneEv} (ready : Ready s k op)
    (exec' : exec i s = .next (laneOp k op s)) (ran : Ran s k op a ev) (goes : a.stop = 0) :
    Completes i s op (op.past s a.branch a.drop) ev := by
  rw [laneOp_ran ready ran, if_pos goes] at exec'
  exact ⟨_, exec', ran.issued.setLane _⟩

/-! ### Branches (R82, R115) -/

theorem returnAddr_begun (s : State) (op : Op) (next : Nat) : returnAddr (op.begun s) op.lane.val next = returnAddr s op.lane.val next := by
  have word (a : Nat) : codeWord (op.begun s) op.lane.val a = codeWord s op.lane.val a := by
    unfold codeWord
    rw [(issued_begun s op).lane]
    rfl
  have len (k a : Nat) : bundleLen (op.begun s) op.lane.val k a = bundleLen s op.lane.val k a := by
    induction k generalizing a with
    | zero => rfl
    | succ k ih => rw [bundleLen, bundleLen, word, ih]
  rw [returnAddr, returnAddr, len, len]

/-- An operation without extension syllables: the next bundle stands behind its word. -/
theorem next_of_legal {s : State} {k : OpKind} {op : Op} (ready : Ready s k op) (short : (opRow k).ext = false) :
    (op.ctx s).next = (op.at s).pc.toNat + 4 := by
  have none' := (extensions_of_legal ready.legal).2
  rw [short] at none'
  simp [Op.ctx, Nat.le_zero.1 none']

/-- What a branch does outside of delay slots: it goes where its guard sends it, and delivers the link where it is taken. -/
theorem branchTo_ctx (s : State) (k : OpKind) (op : Op) (target : Word) (link : Bool) (a : Acc) :
    branchTo (op.ctx s) { kind := k, op := op } target link a =
      if op.guard s then
        if link then
          ({ a with branch := some (some target) } : Acc).put (op.ctx s) (op.cyc s + 1)
            (.gpr (op.at s).plain 63 (returnAddr a.st op.lane.val (op.ctx s).next))
        else { a with branch := some (some target) }
      else { a with branch := some none } := by
  have guard : (op.ctx s).guard op = op.guard s := rfl
  have slot : (op.ctx s).inSlot = false := rfl
  unfold branchTo control
  rw [guard, slot]
  cases op.guard s
  · rfl
  · rfl

/-- What a branch with a link leaves in flight. -/
def Op.linked (op : Op) (s : State) : Bool → List LaneEv
  | true =>
    if op.guard s then op.fly s (op.cyc s + 1) (.gpr (op.at s).plain 63 (returnAddr s op.lane.val ((op.at s).pc.toNat + 4)))
    else s.laneEv
  | false => s.laneEv

/-- A branch is taken or not three cycles later, and is over with its own bundle. -/
theorem branch_completes {i : Instr} {s : State} {k : OpKind} {op : Op} {target : Word} (link : Bool)
    (ready : Ready s k op) (exec' : exec i s = .next (laneOp k op s))
    (run : ∀ a, opRun (op.ctx s) { kind := k, op := op } a = branchTo (op.ctx s) { kind := k, op := op } target link a)
    (short : (opRow k).ext = false) :
    Completes i s op { op.after s with redirects := [{
      due := op.cyc s + 3, target := if op.guard s then some target else none, trap := false }] } (op.linked s link) := by
  have ran := (run _).trans (branchTo_ctx s k op target link (Acc.start (op.begun s)))
  have lane (t : Option Word) : op.past s (some t) false =
      { op.after s with redirects := [{ due := op.cyc s + 3, target := t, trap := false }] } := by
    rw [Op.past, Bool.not_false, Bool.and_true]; rfl
  rw [← lane]
  cases taken : op.guard s
  · rw [taken] at ran
    have idle : op.linked s link = s.laneEv := by
      cases link
      · rfl
      · exact if_neg (Bool.eq_false_iff.1 taken)
    rw [idle]
    exact completes_of_ran ready exec' ⟨ran, rfl, rfl, issued_begun s op⟩ rfl
  · rw [taken] at ran
    cases link
    · exact completes_of_ran ready exec' ⟨ran, rfl, rfl, issued_begun s op⟩ rfl
    · have flying := (issued_begun s op).inFlight (op.cyc s + 1)
        (.gpr (op.at s).plain 63 (returnAddr s op.lane.val ((op.at s).pc.toNat + 4)))
      rw [Op.linked, if_pos taken]
      rw [if_pos rfl, if_pos rfl, next_of_legal ready short] at ran
      refine completes_of_ran ready exec' ⟨ran, rfl, rfl, ?_⟩ rfl
      show Issued s (Machine.inFlight _ _ _ _ (.gpr _ 63 (returnAddr (op.begun s) _ _))) _ _ _
      rw [returnAddr_begun]
      exact flying

theorem relTarget_ctx (s : State) (op : Op) :
    relTarget (op.ctx s) op = BitVec.ofInt 64 ((((op.at s).pc.toNat : Int) + 4 * op.opnd.toInt) % 2 ^ 32) := by
  have nonneg : 0 ≤ (((op.at s).pc.toNat : Int) + 4 * op.opnd.toInt) % 2 ^ 32 := Int.emod_nonneg _ (by decide)
  unfold relTarget Op.off18 Op.ctx
  conv_rhs => rw [← Int.toNat_of_nonneg nonneg]
  rw [BitVec.ofInt_natCast]

/-! ### Ends (R124 to R127) -/

theorem control_ctx {s : State} {op : Op} (taken : op.guard s = true) (k : OpKind) (act : Acc → Acc) (a : Acc) :
    control (op.ctx s) { kind := k, op := op } act a = act a := by
  have guard : (op.ctx s).guard op = true := taken
  unfold control
  rw [guard]
  rfl

theorem opEndb_ctx {s : State} {op : Op} (taken : op.guard s = true) (k : OpKind) (a : Acc) :
    opEndb (op.ctx s) { kind := k, op := op } a = { a with stop := 1 } :=
  control_ctx taken k (fun a => { a with stop := 1 }) a

theorem opWait_ctx {s : State} {op : Op} (taken : op.guard s = true) (scheduled : (op.at s).plain = false) (k : OpKind) (a : Acc) :
    opWait (op.ctx s) { kind := k, op := op } a = { a with stop := 2 } := by
  refine (control_ctx taken k (fun a => if (op.ctx s).l.plain then a.trap 0x0E 0 else { a with stop := 2 }) a).trans ?_
  exact if_neg (Bool.eq_false_iff.1 scheduled)

theorem opDropp_ctx {s : State} {op : Op} (taken : op.guard s = true) (k : OpKind) (a : Acc) :
    opDropp (op.ctx s) { kind := k, op := op } a = { a with drop := true } :=
  control_ctx taken k (fun a => { a with drop := true }) a

/-- A scheduled block that ends puts its lane at the end-of-block wait, and in waiting where it ends by WAIT with a valley selected. -/
theorem blockEnd_completes {i : Instr} {s : State} {k : OpKind} {op : Op} (w : Bool) (ready : Ready s k op)
    (exec' : exec i s = .next (laneOp k op s)) (scheduled : (op.at s).plain = false)
    (run : opRun (op.ctx s) { kind := k, op := op } (Acc.start (op.begun s)) =
      { Acc.start (op.begun s) with stop := if w then 2 else 1 }) :
    Completes i s op
      { op.after s with
        running := false, priv := true, resv := none, endedAt := op.cyc s + 1, done := (op.at s).block :: (op.at s).done,
        waiting := w && decide (s.fld Reg.POWER.PWR_MODE.MODE 0 ≠ 0) } s.laneEv := by
  have stops : (if w then 2 else 1) ≠ 0 := by cases w <;> decide
  have waits : ((if w then 2 else 1) == 2) = w := by cases w <;> rfl
  rw [laneOp_ran ready ⟨run, rfl, rfl, issued_begun s op⟩, if_neg stops, if_neg (Bool.eq_false_iff.1 scheduled), waits] at exec'
  refine ⟨_, exec', ?_⟩
  have issued := ((issued_begun s op).setLane (op.past s none false)).endBlock (op.cyc s + 1) w
  have mode : (pwrMode s != 0) = decide (s.fld Reg.POWER.PWR_MODE.MODE 0 ≠ 0) := by
    rw [Bool.eq_iff_iff, bne_iff_ne, decide_eq_true_iff, pwrMode]
  have lane : { op.after s with
        running := false, priv := true, resv := none, endedAt := op.cyc s + 1, done := (op.at s).block :: (op.at s).done,
        waiting := w && decide (s.fld Reg.POWER.PWR_MODE.MODE 0 ≠ 0) } = { op.past s none false with
        running := false, plain := false, priv := true, resv := none, redirects := [], cur := [], endedAt := op.cyc s + 1,
        done := (op.at s).block :: (op.at s).done, waiting := w && pwrMode s != 0 } := by
    rw [mode, ← scheduled, ← ready.straight, ← ready.first]
    rfl
  rw [lane]
  exact issued

theorem savePlain_eq (s : State) (n addr at' : Nat) (priv : Bool) :
    savePlain s n addr at' priv = scrub (laneStop (contextSaved s n addr priv) n at') n := by
  simp only [savePlain, contextSaved, State.setFlds]

/-- The end of a plain passes by what no register, no lane and no scrubbing touches. -/
theorem savePlain_view {β : Type} (g : State → β) (fields : ∀ s F n v, g (s.setFld F n v) = g s) (lanes : ∀ s n l, g (s.setLane n l) = g s)
    (scrubbed : ∀ s n, g (scrub s n) = g s) (s : State) (n addr at' : Nat) (priv : Bool) : g (savePlain s n addr at' priv) = g s := by
  rw [savePlain_eq, scrubbed, laneStop, lanes, contextSaved, fields, fields, fields]

/-- The context of a plain that ends is saved, and the lane is at its end-of-block wait. -/
theorem savePlain_holds (s : State) (n addr at' : Nat) (priv : Bool) : let t := savePlain s n addr at' priv
    (t.lane n).running = false ∧ (t.lane n).plain = false ∧ (t.lane n).endedAt = at' ∧ t.bit Reg.SYS.LANE_PSAVE.VALID n = true ∧
      t.fld Reg.SYS.LANE_PSAVE.ADDR n = addr / 4 % 2 ^ Reg.SYS.LANE_PSAVE.ADDR.len ∧ t.bit Reg.SYS.LANE_PSAVE.PRIV n = priv := by
  obtain ⟨valid, resumes, mode⟩ := contextSaved_shows s n addr priv
  rw [savePlain_eq]
  simp only [State.bit, scrub_lane, scrub_fld, laneStop_fld, laneStop_lane, if_pos] at valid mode ⊢
  exact ⟨trivial, trivial, trivial, valid, resumes, mode⟩

theorem plainEnd_holds {s : State} {op : Op} (ready : Ready s .endb op) (taken : op.guard s = true) (plain : (op.at s).plain = true) :
    ∃ t, exec (.laneEndb op) s = .next t ∧ (t.lane op.lane.val).running = false ∧ (t.lane op.lane.val).plain = false ∧
      (t.lane op.lane.val).endedAt = op.cyc s + 1 ∧ t.bit Reg.SYS.LANE_PSAVE.VALID op.lane.val = true ∧
      t.fld Reg.SYS.LANE_PSAVE.ADDR op.lane.val = ((op.at s).pc.toNat + 4) / 4 % 2 ^ Reg.SYS.LANE_PSAVE.ADDR.len ∧
      t.bit Reg.SYS.LANE_PSAVE.PRIV op.lane.val = (op.at s).priv ∧ t.dmem = s.dmem ∧ t.shared = s.shared ∧ t.flags = s.flags := by
  have exec' : exec (.laneEndb op) s = .next (laneOp .endb op s) := rfl
  rw [laneOp_ran ready ⟨opEndb_ctx taken .endb _, rfl, rfl, issued_begun s op⟩, if_neg Nat.one_ne_zero, if_pos plain,
    next_of_legal ready (by decide)] at exec'
  let u := op.passed s { Acc.start (op.begun s) with stop := 1 }
  obtain ⟨running, plain, ended, valid, resumes, mode⟩ :=
    savePlain_holds u op.lane.val ((op.at s).pc.toNat + 4) (op.cyc s + 1) ((op.at s).priv && !false)
  exact ⟨_, exec', running, plain, ended, valid, resumes, mode.trans (Bool.and_true _),
    savePlain_view State.dmem State.setFld_dmem State.setLane_dmem (fun _ _ => rfl) u ..,
    savePlain_view State.shared State.setFld_shared State.setLane_shared (fun _ _ => rfl) u ..,
    savePlain_view State.flags State.setFld_flags State.setLane_flags (fun _ _ => rfl) u ..⟩

/-- Settles O7: branches by `branch_completes`, where the model's log 16 stands behind the link (the lengths of the delay slots are read
from the lane's memory); ENDB and WAIT by `blockEnd_completes` and `plainEnd_holds`. -/
theorem branchesAndBlockEnds : Obligations.BranchesAndBlockEnds := by
  unfold Obligations.BranchesAndBlockEnds
  refine ⟨⟨fun s op ready => ?_, fun s op ready => ?_, fun s op ready => ?_, fun s op ready => ?_⟩,
    fun s op w ready taken scheduled => ?_, fun s op => plainEnd_holds, fun s op ready taken => ?_⟩
  · rw [← relTarget_ctx]
    exact branch_completes false ready rfl (fun _ => rfl) (by decide)
  · exact branch_completes false ready rfl (fun _ => rfl) (by decide)
  · rw [← relTarget_ctx]
    exact branch_completes true ready rfl (fun _ => rfl) (by decide)
  · exact branch_completes true ready rfl (fun _ => rfl) (by decide)
  · cases w
    · exact blockEnd_completes false ready rfl scheduled (opEndb_ctx taken .endb _)
    · exact blockEnd_completes true ready rfl scheduled (opWait_ctx taken scheduled .wait _)
  · have completes := completes_of_ran (i := .laneDropp op) ready rfl ⟨opDropp_ctx taken .dropp _, rfl, rfl, issued_begun s op⟩ rfl
    have lane : op.past s none true = { op.after s with priv := false } := by
      rw [Op.past, Bool.not_true, Bool.and_false, Op.redirects, ← ready.straight]
      rfl
    exact lane ▸ completes

end Sys2Proof.Machine
end

section
/-!
# Proofs of the family 04_svavar_isa

Results of the operations; operations that deliver; rows of the opcode table; memory operations; traps; lane faults.
-/
namespace Sys2Proof.Machine

/-! ### The results of the operations as R115 and R116 give them -/

theorem resAdd_eq (a b : Word) : resAdd a b = BitVec.ofNat 64 (a.toNat + b.toNat) := by
  rw [BitVec.ofNat_add, BitVec.ofNat_toNat, BitVec.ofNat_toNat, BitVec.setWidth_eq, BitVec.setWidth_eq, resAdd]

theorem resSub_eq (a b : Word) : resSub a b = BitVec.ofInt 64 (a.toInt - b.toInt) := by
  apply BitVec.eq_of_toInt_eq
  rw [resSub, BitVec.toInt_sub, BitVec.toInt_ofInt]

theorem resShli_eq (a : Word) (n : Nat) : resShli a n = BitVec.ofNat 64 (a.toNat * 2 ^ n) := by
  apply BitVec.eq_of_toNat_eq
  rw [resShli, BitVec.toNat_shiftLeft, BitVec.toNat_ofNat, Nat.shiftLeft_eq]

theorem resShri_eq (a : Word) (n : Nat) : resShri a n = BitVec.ofNat 64 (a.toNat / 2 ^ n) := by
  apply BitVec.eq_of_toNat_eq
  rw [resShri, BitVec.toNat_ushiftRight, BitVec.toNat_ofNat, Nat.shiftRight_eq_div_pow]
  exact (Nat.mod_eq_of_lt (Nat.lt_of_le_of_lt (Nat.div_le_self ..) a.isLt)).symm

theorem resSari_eq (a : Word) (n : Nat) : resSari a n = BitVec.ofInt 64 (a.toInt / 2 ^ n) := by
  rw [resSari, BitVec.sshiftRight_eq, Int.shiftRight_eq_div_pow]
  rfl

theorem resLih_eq (old : Word) (imm : Nat) :
    resLih old (imm % 4096) = BitVec.ofNat 64 (imm % 2 ^ 12 * 2 ^ 52 + old.toNat % 2 ^ 52) := by
  rw [resLih, Nat.mod_mod]
  rfl

theorem resMin_eq (a b : Word) : resMin a b = if a.toInt ≤ b.toInt then a else b := by
  simp only [resMin, BitVec.sle, decide_eq_true_eq]

theorem resMax_eq (a b : Word) : resMax a b = if a.toInt ≤ b.toInt then b else a := by
  simp only [resMax, BitVec.sle, decide_eq_true_eq]

theorem resMinu_eq (a b : Word) : resMinu a b = if a.toNat ≤ b.toNat then a else b := by
  simp only [resMinu, BitVec.ule, decide_eq_true_eq]

theorem resMaxu_eq (a b : Word) : resMaxu a b = if a.toNat ≤ b.toNat then b else a := by
  simp only [resMaxu, BitVec.ule, decide_eq_true_eq]

/-- ABS: only −2^63 has a magnitude past 2^63 − 1 (R115). -/
theorem resAbs_eq (a : Word) : resAbs a =
    if a.toInt = -2 ^ 63 then BitVec.ofNat 64 (2 ^ 63 - 1) else BitVec.ofNat 64 a.toInt.natAbs := by
  have low := a.le_toInt
  have high := a.toInt_lt
  unfold resAbs saturate64
  rw [if_neg (by omega)]
  by_cases least : a.toInt = -2 ^ 63
  · rw [if_pos least, if_pos (by omega)]
    rfl
  · rw [if_neg least, if_neg (by omega), BitVec.ofInt_natCast]

/-- Of the numbers below 64, those whose power of two is above `a`: all for 0, else those past the highest bit of `a`. -/
theorem countP_below_pow {a : Nat} (h : a < 2 ^ 64) :
    (List.range 64).countP (fun i => decide (a < 2 ^ i)) = if a = 0 then 64 else 63 - Nat.log2 a := by
  have above (m n : Nat) : (List.range n).countP (fun i => decide (m ≤ i)) = n - m := by
    induction n with
    | zero => simp
    | succ n ih =>
      rw [List.range_succ, List.countP_append, ih, List.countP_singleton]
      split
      · next hm => have := of_decide_eq_true hm; omega
      · next hm => have := of_decide_eq_false (Bool.eq_false_iff.2 hm); omega
  split
  · next zero => subst zero; decide
  · next nonzero =>
    have past (i : Nat) : decide (a < 2 ^ i) = decide (Nat.log2 a + 1 ≤ i) :=
      decide_eq_decide.2 ((Nat.log2_lt nonzero).symm)
    simp only [past, above]
    omega

theorem resClz_eq (a : Word) : resClz a = BitVec.ofNat 64 ((List.range 64).countP fun i => a.toNat < 2 ^ i) := by
  rw [resClz, countP_below_pow a.isLt]

theorem resPopc_eq (a : Word) : resPopc a = BitVec.ofNat 64 ((List.range 64).countP fun i => a.getLsbD i) := by
  rw [resPopc, List.countP_eq_length_filter]

/-- Shifting the sign bit of the low `n + 1` bits to the top and back copies it above them (R115). -/
theorem resSext_eq (a : Word) {n : Nat} (h : n < 64) : resSext a n = (a.setWidth (n + 1)).signExtend 64 := by
  apply BitVec.eq_of_getLsbD_eq
  intro i hi
  rw [resSext, BitVec.getLsbD_sshiftRight, BitVec.getLsbD_signExtend, BitVec.msb_eq_getLsbD_last, BitVec.msb_eq_getLsbD_last]
  simp only [BitVec.getLsbD_shiftLeft, BitVec.getLsbD_setWidth]
  by_cases low : i < n + 1
  · have inside : 63 - n + i < 64 := by omega
    have back : 63 - n + i - (63 - n) = i := by omega
    simp [hi, low, inside, back]
  · have outside : ¬63 - n + i < 64 := by omega
    have sign : 63 - (63 - n) = n := by omega
    have word : ¬64 ≤ i := by omega
    have top : ¬63 < 63 - n := by omega
    simp [hi, low, outside, sign, word, top]

theorem saturate64_eq (v : Int) : saturate64 v = clamp64 v := by
  unfold saturate64 clamp64
  congr 1
  omega

theorem resMul_eq (a b : Word) : resMul a b = BitVec.ofNat 64 (a.toNat * b.toNat) := by
  rw [BitVec.ofNat_mul, BitVec.ofNat_toNat, BitVec.ofNat_toNat, BitVec.setWidth_eq, BitVec.setWidth_eq, resMul]

/-- A word is zero exactly where the number it holds is. -/
theorem word_eq_zero_iff (b : Word) : b = 0 ↔ b.toNat = 0 := by
  rw [← BitVec.toNat_inj]; rfl

/-- Dividing −2^63 by −1 wraps to −2^63 (R116). -/
theorem resDiv_eq (a b : Word) : resDiv a b =
    if b.toNat = 0 then BitVec.ofNat 64 (2 ^ 64 - 1)
    else if a.toInt = -2 ^ 63 ∧ b.toInt = -1 then BitVec.ofInt 64 (-2 ^ 63)
    else BitVec.ofInt 64 (a.toInt.tdiv b.toInt) := by
  simp only [resDiv, word_eq_zero_iff]
  split
  · rfl
  · split
    · next wraps => rw [wraps.1, wraps.2]; rfl
    · rfl

theorem resDivu_eq (a b : Word) : resDivu a b =
    if b.toNat = 0 then BitVec.ofNat 64 (2 ^ 64 - 1) else BitVec.ofNat 64 (a.toNat / b.toNat) := by
  simp only [resDivu, word_eq_zero_iff]
  rfl

theorem resRem_eq (a b : Word) : resRem a b =
    if b.toNat = 0 then a
    else if a.toInt = -2 ^ 63 ∧ b.toInt = -1 then 0
    else BitVec.ofInt 64 (a.toInt.tmod b.toInt) := by
  simp only [resRem, word_eq_zero_iff]
  split
  · rfl
  · split
    · next wraps => rw [wraps.1, wraps.2]; rfl
    · rfl

theorem resRemu_eq (a b : Word) : resRemu a b = if b.toNat = 0 then a else BitVec.ofNat 64 (a.toNat % b.toNat) := by
  simp only [resRemu, word_eq_zero_iff]

theorem predPack_eq (p : Nat → Bool) :
    predPack p = BitVec.ofNat 64 (((List.range 8).map fun i => if p i then 2 ^ i else 0).sum) := by
  rw [predPack, List.sum_eq_foldl, List.foldl_map]

/-- Bit `i` of a word as a digit of its number. -/
theorem getLsbD_eq_digit (a : Word) (i : Nat) : a.getLsbD i = decide (a.toNat / 2 ^ i % 2 = 1) :=
  Nat.testBit_eq_decide_div_mod_eq ..

end Sys2Proof.Machine
end

section
namespace Sys2Proof.Machine

/-! ### Operations that deliver and do no more (R82, R83, R113 to R115) -/

/-- The operation has run and has neither trapped nor redirected, ended or lost its lane: it leaves its lane as `l`, with `ev` in
flight. -/
def Delivers (s : State) (k : OpKind) (op : Op) (l : Lane) (ev : List LaneEv) : Prop :=
  ∃ t, opRun (op.ctx s) { kind := k, op := op } (Acc.start (op.begun s)) = Acc.start t ∧ Issued s t op l ev

/-- A bundle whose operation delivers leaves its lane at the next bundle. -/
theorem bundleEnd_start {s t : State} {k : OpKind} {op : Op} {l : Lane} {ev : List LaneEv} (ready : Ready s k op)
    (issued : Issued s t op l ev) (straight : l.redirects = []) (time : l.plainEnd = (op.at s).plainEnd) :
    bundleEnd (op.ctx s) false (Acc.start t) =
      t.setLane op.lane.val { l with pc := (op.after s).pc, cyc := op.cyc s + 1 } := by
  unfold bundleEnd
  extract_lets st l' plain br tr past stop ended
  have hl : l' = l := issued.lane
  have htr : tr = [] := by simp [tr, Acc.start]
  have hpast : past = t.setLane op.lane.val { l with pc := (op.after s).pc, cyc := op.cyc s + 1 } := by
    simp only [past, htr, hl, straight, br, Acc.start, Bool.not_false, Bool.and_true, List.append_nil]
    rw [← straight]
    rfl
  have on : (plain && decide ((past.lane (op.ctx s).n).plainEnd ≤ (op.ctx s).c + 1)) = false := by
    have same : (past.lane (op.ctx s).n).plainEnd = (op.at s).plainEnd := by
      rw [hpast, Op.ctx, lane_setLane_same]
      exact time
    rw [same, Bool.and_eq_false_imp]
    exact fun p => decide_eq_false (Nat.not_le.2 (ready.time p))
  show ended = _
  have hstop : stop = 0 := by simp [stop, Acc.start]
  simp only [ended, hstop, on, Bool.false_eq_true, if_false, if_true]
  exact hpast

theorem completes_of_delivers {i : Instr} {s : State} {k : OpKind} {op : Op} {l : Lane} {ev : List LaneEv} (ready : Ready s k op)
    (exec' : exec i s = .next (laneOp k op s)) (delivers : Delivers s k op l ev) (straight : l.redirects = [])
    (time : l.plainEnd = (op.at s).plainEnd) :
    Completes i s op { l with pc := (op.after s).pc, cyc := op.cyc s + 1 } ev := by
  obtain ⟨t, run, issued⟩ := delivers
  refine ⟨_, exec'.trans (congrArg _ ?_), issued.setLane _⟩
  rw [laneOp_ready ready, run]
  exact bundleEnd_start ready issued straight time

/-- The same where the operation leaves its lane as it stood. -/
theorem completes_of_delivers_same {i : Instr} {s : State} {k : OpKind} {op : Op} {ev : List LaneEv} (ready : Ready s k op)
    (exec' : exec i s = .next (laneOp k op s)) (delivers : Delivers s k op (op.at s) ev) : Completes i s op (op.after s) ev :=
  completes_of_delivers ready exec' delivers ready.straight rfl

/-! Results of a bundle -/

theorem Issued.fly {s t : State} {op : Op} {l : Lane} {ev : List LaneEv} (h : Issued s t op l ev) (due : Nat) (a : LaneAct) :
    Issued s (Machine.inFlight t op.lane.val (op.cyc s) due a) op l
      (evInsert { due := due, prio := actPrio a, issue := op.cyc s, lane := op.lane.val, act := a } ev) where
  lane := h.lane
  others := h.others
  flight := by rw [Machine.inFlight, h.flight]
  now := h.now
  rest := by rw [Machine.inFlight, h.rest]

/-- A result for a general register comes after the latency of its operation; no residue error waits. -/
theorem gpr_start {s t : State} {op : Op} (k : OpKind) (v : Word) (clean : (t.lane op.lane.val).residue = false) :
    (Acc.start t).gpr (op.ctx s) { kind := k, op := op } v =
      Acc.start (inFlight t op.lane.val (op.cyc s) (op.cyc s + latencyOf k) (.gpr (op.at s).plain op.rd v)) := by
  have none' : (residueChecked k && ((Acc.start t).st.lane (op.ctx s).n).residue) = false := by
    rw [Bool.and_eq_false_imp]
    exact fun _ => clean
  unfold Acc.gpr
  simp only [none', Bool.false_eq_true, if_false]
  rfl

section
variable {s : State} {k : OpKind} {op : Op}

theorem ctx_guard (s : State) (op : Op) : (op.ctx s).guard op = op.guard s := rfl

theorem begun_lane (s : State) (op : Op) : (op.begun s).lane op.lane.val = op.at s := (issued_begun s op).lane

theorem putGpr_taken (ready : Ready s k op) (taken : op.guard s = true) (v : Word) :
    putGpr (op.ctx s) { kind := k, op := op } v (Acc.start (op.begun s)) =
      Acc.start (inFlight (op.begun s) op.lane.val (op.cyc s) (op.cyc s + latencyOf k) (.gpr (op.at s).plain op.rd v)) := by
  rw [putGpr, if_pos ((ctx_guard s op).trans taken)]
  exact gpr_start k v (by rw [begun_lane, ready.clean])

theorem putPred_taken (taken : op.guard s = true) (v : Bool) :
    putPred (op.ctx s) { kind := k, op := op } v (Acc.start (op.begun s)) =
      Acc.start (inFlight (op.begun s) op.lane.val (op.cyc s) (op.cyc s + 1) (.pred (op.at s).plain op.pd v)) := by
  rw [putPred, if_pos ((ctx_guard s op).trans taken)]
  rfl

/-- The state in which a divide acts: it has taken the divider for 20 cycles (R83). -/
def Op.dividing (op : Op) (s : State) : State :=
  (op.begun s).setLane op.lane.val { op.at s with divUntil := op.cyc s + 20 }

theorem issued_dividing (s : State) (op : Op) :
    Issued s (op.dividing s) op { op.at s with divUntil := op.cyc s + 20 } s.laneEv := (issued_begun s op).setLane _

/-- A divide takes the divider whether its guard is true or not; where it is free, the result comes after 20 cycles. -/
theorem putDiv_start (k : OpKind) (v : Word) :
    putDiv (op.ctx s) { kind := k, op := op } v (Acc.start (op.begun s)) =
      if op.guard s = false then Acc.start (op.dividing s)
      else if op.cyc s < (op.at s).divUntil then (Acc.start (op.dividing s)).trap 0x07 0
      else (Acc.start (op.dividing s)).gpr (op.ctx s) { kind := k, op := op } v := by
  have lane : (Acc.start (op.begun s)).st.lane (op.ctx s).n = op.at s := begun_lane s op
  unfold putDiv
  rw [ctx_guard, lane]
  cases op.guard s
  · rfl
  · simp only [decide_eq_true_eq]
    rfl

end

end Sys2Proof.Machine
end

section
namespace Sys2Proof.Machine

/-! ### The rows of R115 -/

theorem laneIdentity_eq (s : State) (op : Op) : laneIdentity (op.ctx s) s.seq.narrows = BitVec.ofNat 64 (op.lane.val +
    4 * ((op.at s).logical % 4) + 16 * s.seq.narrows.toNat + 32 * (op.at s).priv.toNat + 64 * (op.at s).plain.toNat) := by
  have digit (p : Bool) (v : Nat) : (if p then v else 0) = v * p.toNat := by
    cases p <;> simp
  unfold laneIdentity
  simp only [digit]
  rfl

theorem predNe_eq (a b : Word) : predNe a b = decide (a ≠ b) := by
  rw [predNe, bne, beq_eq_decide, decide_not]

/-- The command of a row runs its operation, which computes the row's value and hands it to `put`. -/
structure Computes {α : Type} (put : Ctx → Syl → α → Acc → Acc) (r : (Op → Instr) × OpKind × (State → Op → α)) : Prop where
  runs : ∀ s op, exec (r.1 op) s = .next (laneOp r.2.1 op s)
  value : ∀ s op, opRun (op.ctx s) { kind := r.2.1, op := op } (Acc.start (op.begun s)) =
    put (op.ctx s) { kind := r.2.1, op := op } (r.2.2 s op) (Acc.start (op.begun s))

theorem aluRows_compute : ∀ r ∈ aluRows, Computes putGpr r := by
  simp only [aluRows, List.forall_mem_cons, List.not_mem_nil, false_imp_iff, implies_true, and_true]
  exact
    ⟨⟨fun _ _ => rfl, fun _ _ => congrArg (putGpr _ _ · _) (resAdd_eq _ _)⟩, -- ADD
    ⟨fun _ _ => rfl, fun _ _ => congrArg (putGpr _ _ · _) (resAdd_eq _ _)⟩, -- ADDI
    ⟨fun _ _ => rfl, fun _ _ => congrArg (putGpr _ _ · _) (resSub_eq _ _)⟩, -- SUB
    ⟨fun _ _ => rfl, fun _ _ => rfl⟩, -- AND
    ⟨fun _ _ => rfl, fun _ _ => rfl⟩, -- ANDI
    ⟨fun _ _ => rfl, fun _ _ => rfl⟩, -- OR
    ⟨fun _ _ => rfl, fun _ _ => rfl⟩, -- ORI
    ⟨fun _ _ => rfl, fun _ _ => rfl⟩, -- XOR
    ⟨fun _ _ => rfl, fun _ _ => rfl⟩, -- XORI
    ⟨fun _ _ => rfl, fun _ _ => congrArg (putGpr _ _ · _) (resShli_eq _ _)⟩, -- SHL
    ⟨fun _ _ => rfl, fun _ _ => congrArg (putGpr _ _ · _) (resShli_eq _ _)⟩, -- SHLI
    ⟨fun _ _ => rfl, fun _ _ => congrArg (putGpr _ _ · _) (resShri_eq _ _)⟩, -- SHR
    ⟨fun _ _ => rfl, fun _ _ => congrArg (putGpr _ _ · _) (resShri_eq _ _)⟩, -- SHRI
    ⟨fun _ _ => rfl, fun _ _ => congrArg (putGpr _ _ · _) (resSari_eq _ _)⟩, -- SAR
    ⟨fun _ _ => rfl, fun _ _ => congrArg (putGpr _ _ · _) (resSari_eq _ _)⟩, -- SARI
    ⟨fun _ _ => rfl, fun _ _ => rfl⟩, -- MOV
    ⟨fun _ _ => rfl, fun _ _ => rfl⟩, -- LI
    ⟨fun _ _ => rfl, fun _ _ => congrArg (putGpr _ _ · _) (resLih_eq _ _)⟩, -- LIH
    ⟨fun _ _ => rfl, fun _ _ => congrArg (putGpr _ _ · _) (resMin_eq _ _)⟩, -- MIN
    ⟨fun _ _ => rfl, fun _ _ => congrArg (putGpr _ _ · _) (resMax_eq _ _)⟩, -- MAX
    ⟨fun _ _ => rfl, fun _ _ => congrArg (putGpr _ _ · _) (resMinu_eq _ _)⟩, -- MINU
    ⟨fun _ _ => rfl, fun _ _ => congrArg (putGpr _ _ · _) (resMaxu_eq _ _)⟩, -- MAXU
    ⟨fun _ _ => rfl, fun _ _ => congrArg (putGpr _ _ · _) (resAbs_eq _)⟩, -- ABS
    ⟨fun _ _ => rfl, fun _ _ => congrArg (putGpr _ _ · _) (resClz_eq _)⟩, -- CLZ
    ⟨fun _ _ => rfl, fun _ _ => congrArg (putGpr _ _ · _) (resPopc_eq _)⟩, -- POPC
    ⟨fun _ _ => rfl, fun _ _ => congrArg (putGpr _ _ · _) (resSext_eq _ (Nat.mod_lt _ (by decide)))⟩, -- SEXT
    ⟨fun _ _ => rfl, fun _ _ => congrArg (putGpr _ _ · _) (saturate64_eq _)⟩, -- ADDS
    ⟨fun _ _ => rfl, fun _ _ => congrArg (putGpr _ _ · _) (saturate64_eq _)⟩, -- SUBS
    ⟨fun _ _ => rfl, fun _ _ => congrArg (putGpr _ _ · _) (predPack_eq _)⟩, -- PGET
    ⟨fun _ _ => rfl, fun _ _ => rfl⟩, -- RDCYC
    ⟨fun _ _ => rfl, fun s op => congrArg (putGpr _ _ · _) (laneIdentity_eq s op)⟩⟩ -- RDLANE

theorem mulRows_compute : ∀ r ∈ mulRows, Computes putGpr r := by
  simp only [mulRows, List.forall_mem_cons, List.not_mem_nil, false_imp_iff, implies_true, and_true]
  exact
    ⟨⟨fun _ _ => rfl, fun _ _ => congrArg (putGpr _ _ · _) (resMul_eq _ _)⟩, -- MUL
    ⟨fun _ _ => rfl, fun _ _ => rfl⟩, -- MULHS
    ⟨fun _ _ => rfl, fun _ _ => rfl⟩⟩ -- MULHU

theorem divRows_compute : ∀ r ∈ divRows, Computes putDiv r := by
  simp only [divRows, List.forall_mem_cons, List.not_mem_nil, false_imp_iff, implies_true, and_true]
  exact
    ⟨⟨fun _ _ => rfl, fun _ _ => congrArg (putDiv _ _ · _) (resDiv_eq _ _)⟩, -- DIV
    ⟨fun _ _ => rfl, fun _ _ => congrArg (putDiv _ _ · _) (resDivu_eq _ _)⟩, -- DIVU
    ⟨fun _ _ => rfl, fun _ _ => congrArg (putDiv _ _ · _) (resRem_eq _ _)⟩, -- REM
    ⟨fun _ _ => rfl, fun _ _ => congrArg (putDiv _ _ · _) (resRemu_eq _ _)⟩⟩ -- REMU

theorem predRows_compute : ∀ r ∈ predRows, Computes putPred r := by
  simp only [predRows, List.forall_mem_cons, List.not_mem_nil, false_imp_iff, implies_true, and_true]
  exact
    ⟨⟨fun _ _ => rfl, fun _ _ => congrArg (putPred _ _ · _) (beq_eq_decide ..)⟩, -- CMPEQ
    ⟨fun _ _ => rfl, fun _ _ => congrArg (putPred _ _ · _) (predNe_eq _ _)⟩, -- CMPNE
    ⟨fun _ _ => rfl, fun _ _ => rfl⟩, -- CMPLT
    ⟨fun _ _ => rfl, fun _ _ => rfl⟩, -- CMPLE
    ⟨fun _ _ => rfl, fun _ _ => rfl⟩, -- CMPLTU
    ⟨fun _ _ => rfl, fun _ _ => rfl⟩, -- CMPLEU
    ⟨fun _ _ => rfl, fun _ _ => congrArg (putPred _ _ · _) (beq_eq_decide ..)⟩, -- CMPEQI
    ⟨fun _ _ => rfl, fun _ _ => rfl⟩, -- CMPLTI
    ⟨fun _ _ => rfl, fun _ _ => congrArg (putPred _ _ · _) (getLsbD_eq_digit _ _)⟩, -- TSTB
    ⟨fun _ _ => rfl, fun _ _ => rfl⟩, -- PAND
    ⟨fun _ _ => rfl, fun _ _ => rfl⟩, -- POR
    ⟨fun _ _ => rfl, fun _ _ => rfl⟩⟩ -- PNOT

/-! A guarded operation of a row, with a true and with a false guard (R114) -/

section
variable {α : Type} {s : State} {op : Op}

theorem putGpr_completes {r : (Op → Instr) × OpKind × (State → Op → Word)} (row : Computes putGpr r) (ready : Ready s r.2.1 op)
    (taken : op.guard s = true) : Completes (r.1 op) s op (op.after s)
      (op.fly s (op.cyc s + latencyOf r.2.1) (.gpr (op.at s).plain op.rd (r.2.2 s op))) :=
  completes_of_delivers_same ready (row.runs s op)
    ⟨_, (row.value s op).trans (putGpr_taken ready taken _), (issued_begun s op).inFlight _ _⟩

theorem putPred_completes {r : (Op → Instr) × OpKind × (State → Op → Bool)} (row : Computes putPred r) (ready : Ready s r.2.1 op)
    (taken : op.guard s = true) : Completes (r.1 op) s op (op.after s)
      (op.fly s (op.cyc s + 1) (.pred (op.at s).plain op.pd (r.2.2 s op))) :=
  completes_of_delivers_same ready (row.runs s op)
    ⟨_, (row.value s op).trans (putPred_taken taken _), (issued_begun s op).inFlight _ _⟩

theorem putDiv_completes {r : (Op → Instr) × OpKind × (State → Op → Word)} (row : Computes putDiv r) (ready : Ready s r.2.1 op)
    (taken : op.guard s = true) (free : (op.at s).divUntil ≤ op.cyc s) :
    Completes (r.1 op) s op { op.after s with divUntil := op.cyc s + 20 }
      (op.fly s (op.cyc s + latencyOf r.2.1) (.gpr (op.at s).plain op.rd (r.2.2 s op))) := by
  have issued := issued_dividing s op
  have clean : ((op.dividing s).lane op.lane.val).residue = false := by rw [issued.lane, ← ready.clean]
  have run := (row.value s op).trans (putDiv_start _ _)
  rw [if_neg (by simp [taken]), if_neg (Nat.not_lt.2 free), gpr_start _ _ clean] at run
  exact completes_of_delivers ready (row.runs s op) ⟨_, run, issued.inFlight _ _⟩ ready.straight rfl

/-- An operation that does nothing where its guard is false. -/
theorem idle_completes {i : Instr} {k : OpKind} (ready : Ready s k op) (runs : exec i s = .next (laneOp k op s))
    (idle : opRun (op.ctx s) { kind := k, op := op } (Acc.start (op.begun s)) = Acc.start (op.begun s)) :
    Completes i s op (op.after s) s.laneEv :=
  completes_of_delivers_same ready runs ⟨_, idle, issued_begun s op⟩

/-- An operation of a row that a false guard keeps from doing anything. -/
theorem row_idles {put : Ctx → Syl → α → Acc → Acc} (guarded : ∀ x y v a, x.guard y.op = false → put x y v a = a)
    {r : (Op → Instr) × OpKind × (State → Op → α)} (row : Computes put r) (ready : Ready s r.2.1 op) (idle : op.guard s = false) :
    Completes (r.1 op) s op (op.after s) s.laneEv :=
  idle_completes ready (row.runs s op) ((row.value s op).trans (guarded _ _ _ _ idle))

theorem putDiv_idles {r : (Op → Instr) × OpKind × (State → Op → Word)} (row : Computes putDiv r) (ready : Ready s r.2.1 op)
    (idle : op.guard s = false) : Completes (r.1 op) s op { op.after s with divUntil := op.cyc s + 20 } s.laneEv :=
  completes_of_delivers ready (row.runs s op)
    ⟨_, ((row.value s op).trans (putDiv_start _ _)).trans (if_pos idle), issued_dividing s op⟩ ready.straight rfl

end

theorem putGpr_unguarded {x : Ctx} {y : Syl} (v : Word) (a : Acc) (idle : x.guard y.op = false) : putGpr x y v a = a :=
  if_neg (Bool.eq_false_iff.1 idle)

theorem putPred_unguarded {x : Ctx} {y : Syl} (v : Bool) (a : Acc) (idle : x.guard y.op = false) : putPred x y v a = a :=
  if_neg (Bool.eq_false_iff.1 idle)

theorem control_unguarded {x : Ctx} {y : Syl} (act : Acc → Acc) (a : Acc) (idle : x.guard y.op = false) : control x y act a = a :=
  if_pos (by rw [idle]; rfl)

theorem opPset_unguarded {x : Ctx} {y : Syl} (a : Acc) (idle : x.guard y.op = false) : opPset x y a = a :=
  if_neg (Bool.eq_false_iff.1 idle)

theorem opEndb_unguarded {x : Ctx} {y : Syl} (a : Acc) (idle : x.guard y.op = false) : opEndb x y a = a := control_unguarded _ a idle

theorem opWait_unguarded {x : Ctx} {y : Syl} (a : Acc) (idle : x.guard y.op = false) : opWait x y a = a := control_unguarded _ a idle

theorem opDropp_unguarded {x : Ctx} {y : Syl} (a : Acc) (idle : x.guard y.op = false) : opDropp x y a = a :=
  control_unguarded _ a idle

theorem opTrap_unguarded {x : Ctx} {y : Syl} (a : Acc) (idle : x.guard y.op = false) : opTrap x y a = a := control_unguarded _ a idle

/-- Settles O1: each row computes its value (`aluRows_compute`, `mulRows_compute`, `divRows_compute`), which its operation delivers
after its latency. -/
theorem registerOperationsDeliver : Obligations.RegisterOperationsDeliver := by
  unfold Obligations.RegisterOperationsDeliver
  have alu : ∀ r ∈ aluRows, latencyOf r.2.1 = 1 := by decide
  have mul : ∀ r ∈ mulRows, latencyOf r.2.1 = 3 := by decide
  have div : ∀ r ∈ divRows, latencyOf r.2.1 = 20 := by decide
  refine ⟨fun r hr s op ready taken => ?_, fun r hr s op ready taken => ?_, fun r hr s op ready taken free => ?_⟩
  · exact alu r hr ▸ putGpr_completes (aluRows_compute r hr) ready taken
  · exact mul r hr ▸ putGpr_completes (mulRows_compute r hr) ready taken
  · exact div r hr ▸ putDiv_completes (divRows_compute r hr) ready taken free

/-- Settles O3: the rows by `row_idles` and `putDiv_idles`, PSET and the control operations by their guard. -/
theorem falseGuardDoesNothing : Obligations.FalseGuardDoesNothing := by
  unfold Obligations.FalseGuardDoesNothing
  refine ⟨fun k f listed s op ready idle => ?_, fun r hr s op ready idle => putDiv_idles (divRows_compute r hr) ready idle⟩
  simp only [List.mem_append, List.mem_map, or_assoc] at listed
  rcases listed with ⟨r, hr, row⟩ | ⟨r, hr, row⟩ | ⟨r, hr, row⟩ | other
  · cases row
    exact row_idles (fun _ _ => putGpr_unguarded) (aluRows_compute r hr) ready idle
  · cases row
    exact row_idles (fun _ _ => putGpr_unguarded) (mulRows_compute r hr) ready idle
  · cases row
    exact row_idles (fun _ _ => putPred_unguarded) (predRows_compute r hr) ready idle
  · simp only [List.mem_cons, List.not_mem_nil, or_false, Prod.mk.injEq] at other
    rcases other with ⟨rfl, rfl⟩ | ⟨rfl, rfl⟩ | ⟨rfl, rfl⟩ | ⟨rfl, rfl⟩ | ⟨rfl, rfl⟩
    · exact idle_completes ready rfl (opPset_unguarded _ idle)
    · exact idle_completes ready rfl (opEndb_unguarded _ idle)
    · exact idle_completes ready rfl (opWait_unguarded _ idle)
    · exact idle_completes ready rfl (opDropp_unguarded _ idle)
    · exact idle_completes ready rfl (opTrap_unguarded _ idle)

end Sys2Proof.Machine
end

section
namespace Sys2Proof.Machine

/-! ### PSET, SEL and NOP (R114, R115) -/

/-- A predicate of PSET, delivered one cycle later. -/
def Op.unpack (op : Op) (s : State) (i : Nat) : LaneEv where
  due := op.cyc s + 1
  prio := 4
  issue := op.cyc s
  lane := op.lane.val
  act := .pred (op.at s).plain i (predUnpack (op.srcA s) i)

/-- Predicates delivered one by one join what is in flight. -/
theorem issued_unpack {s t : State} {op : Op} {l : Lane} {ev : List LaneEv} (h : Issued s t op l ev) (ps : List Nat) :
    ∃ u ev', ps.foldl (fun a i => a.put (op.ctx s) ((op.ctx s).c + 1) (.pred (op.ctx s).l.plain i (predUnpack ((op.ctx s).ra op) i)))
        (Acc.start t) = Acc.start u ∧ Issued s u op l ev' ∧ ∀ e, e ∈ ev' ↔ e ∈ ev ∨ ∃ i ∈ ps, e = op.unpack s i := by
  induction ps generalizing t ev with
  | nil => exact ⟨t, ev, rfl, h, by simp⟩
  | cons i ps ih =>
    obtain ⟨u, ev', run, issued, mem⟩ := ih (h.fly (op.cyc s + 1) (.pred (op.at s).plain i (predUnpack (op.srcA s) i)))
    refine ⟨u, ev', run, issued, fun e => ?_⟩
    rw [mem, mem_evInsert, List.exists_mem_cons_iff, or_comm (a := e = _), or_assoc]
    rfl

/-- Settles O2: the rows by `putPred_completes`, PSET predicate by predicate (`issued_unpack`), SEL without its guard. -/
theorem predicatesAndSelDeliver : Obligations.PredicatesAndSelDeliver := by
  unfold Obligations.PredicatesAndSelDeliver
  refine ⟨⟨fun r hr s op ready taken => putPred_completes (predRows_compute r hr) ready taken, fun s op ready taken => ?_,
    fun s op ready => idle_completes ready rfl rfl⟩, fun s op ready => ?_⟩
  · obtain ⟨t, ev, run, issued, mem⟩ := issued_unpack (issued_begun s op) [1, 2, 3, 4, 5, 6, 7]
    have start : opPset (op.ctx s) { kind := .pset, op := op } (Acc.start (op.begun s)) = Acc.start t :=
      (if_pos ((ctx_guard s op).trans taken)).trans run
    refine ⟨ev, completes_of_delivers_same ready rfl ⟨t, start, issued⟩, fun e => (mem e).trans (or_congr_right ?_)⟩
    have range (i : Nat) : i ∈ [1, 2, 3, 4, 5, 6, 7] ↔ 1 ≤ i ∧ i ≤ 7 := by
      simp only [List.mem_cons, List.not_mem_nil, or_false]; omega
    simp only [range, Op.unpack, predUnpack, getLsbD_eq_digit, and_assoc]
  · have clean : ((op.begun s).lane op.lane.val).residue = false := by rw [begun_lane, ready.clean]
    exact completes_of_delivers_same ready rfl ⟨_, gpr_start .sel _ clean, (issued_begun s op).inFlight _ _⟩

end Sys2Proof.Machine
end

section
namespace Sys2Proof.Machine

/-! ### Memory operations (R83, R117 to R122, R497) -/

/-- An access that does not trap keeps to the slots of its window, and an atomic one to shared memory (R118, R121). -/
theorem memCause_none {x : Ctx} {s : State} {slot : Slot} {addr : Word} {size : Nat} {writes atomic : Bool}
    (ok : memCause x s slot addr size writes atomic = 0) :
    (slot = .c → localWindow (windowOf (addr.toNat % 2 ^ 32)).1 = true) ∧
      (atomic = true → (windowOf (addr.toNat % 2 ^ 32)).1 = .shared) := by
  have trapless : ¬((slot == .c && !localWindow (windowOf (addr.toNat % 2 ^ 32)).1) ||
      (atomic && (windowOf (addr.toNat % 2 ^ 32)).1 != .shared)) = true := by
    intro traps
    unfold memCause at ok
    simp only [traps, if_true] at ok
    split at ok
    · cases ok
    · split at ok
      · cases ok
      · cases ok
  simp only [Bool.or_eq_true, Bool.and_eq_true, beq_iff_eq, bne_iff_ne, Bool.not_eq_true', not_or, not_and] at trapless
  obtain ⟨slotC, shared⟩ := trapless
  exact ⟨fun c => Bool.not_eq_false _ ▸ slotC c, fun a => not_not.1 (shared a)⟩

theorem slot_of_legal {k : OpKind} {op : Op} (legal : bundleCause [{ kind := k, op := op }] = 0) :
    (opRow k).slots.testBit op.slot.num = true := by
  have sound := badBundle_of_legal legal
  simp only [badBundle, Bool.or_eq_false_iff, List.any_cons, List.any_nil, Bool.or_false] at sound
  obtain ⟨⟨⟨-, slot⟩, -⟩, -⟩ := sound
  simpa using slot

/-- The cause of a trap looks at what the beginning of the bundle does not change. -/
theorem memCause_begun (s : State) (op : Op) (slot : Slot) (addr : Word) (size : Nat) (writes atomic : Bool) :
    memCause (op.ctx s) (op.begun s) slot addr size writes atomic = memCause (op.ctx s) s slot addr size writes atomic := by
  have lane : (op.begun s).lane (op.ctx s).n = s.lane (op.ctx s).n := begun_lane s op
  unfold memCause
  rw [lane]
  rfl

/-- A memory operation has slot C or D (R118). -/
theorem slotD_of_far {k : OpKind} {slot : Slot} (notA : (opRow k).slots.testBit 0 = false) (notB : (opRow k).slots.testBit 1 = false)
    (allowed : (opRow k).slots.testBit slot.num = true) (notC : slot ≠ .c) : slot = .d := by
  cases slot with
  | a => exact absurd allowed (Bool.eq_false_iff.1 notA)
  | b => exact absurd allowed (Bool.eq_false_iff.1 notB)
  | c => exact absurd rfl notC
  | d => rfl

/-- A bundle behind an access to a window in a slot: the shared path is held up to the access's slot of the wheel, or to its data of
MRAM (R83, R117). -/
def Acc.path (a : Acc) (x : Ctx) (slot : Slot) (w : Window) : Acc :=
  if slot == .d && !localWindow w then
    { a with st := a.st.setLane x.n { a.st.lane x.n with
        pathUntil := max (a.st.lane x.n).pathUntil (if w == .mram then nextSlot a.st x.n x.c + 48 else nextSlot a.st x.n x.c) } }
  else a

/-- A memory operation holds the path; with a true guard it then loses its lane, traps, or acts. -/
theorem memIssue_eq (x : Ctx) (y : Syl) (addr : Word) (size : Nat) (writes atomic sum : Bool) (act : Window → Nat → Nat → Acc → Acc)
    (a : Acc) :
    let win := windowOf (addr.toNat % 2 ^ 32)
    let b := a.path x y.op.slot win.1
    let cause := memCause x a.st y.op.slot addr size writes atomic
    memIssue x y addr size writes atomic sum act a =
      if !x.guard y.op then b
      else if sum && (a.st.lane x.n).residue then
        { b with st := laneLoss (b.st.setLane x.n { b.st.lane x.n with residue := false }) x.n .residue, lost := true }
      else if cause ≠ 0 then b.trap cause (addr.toNat % 2 ^ 32)
      else act win.1 win.2 (nextSlot a.st x.n x.c) b := rfl

/-- A memory operation that does not trap acts on its window, at the offset its address gives, with the lane's next slot. -/
theorem memIssue_ctx {s : State} {k : OpKind} {op : Op} (ready : Ready s k op) (taken : op.guard s = true)
    {size : Nat} {writes atomic : Bool} (ok : accessOk s k op size writes atomic) (sum : Bool)
    (act : Window → Nat → Nat → Acc → Acc) :
    memIssue (op.ctx s) { kind := k, op := op } (memAddr s k op size) size writes atomic sum act (Acc.start (op.begun s)) =
      act (memWin s k op size).1 (memWin s k op size).2 (op.wheel s)
        ((Acc.start (op.begun s)).path (op.ctx s) op.slot (memWin s k op size).1) := by
  have lane : ((Acc.start (op.begun s)).st.lane (op.ctx s).n).residue = false := by
    rw [← ready.clean]
    exact congrArg Lane.residue (begun_lane s op)
  have cause : memCause (op.ctx s) (Acc.start (op.begun s)).st op.slot (memAddr s k op size) size writes atomic = 0 :=
    (memCause_begun ..).trans ok
  rw [memIssue_eq]
  simp only [ctx_guard, taken, lane, cause, Bool.not_true, Bool.and_false, Bool.false_eq_true, ne_eq, not_true_eq_false, if_false]
  rfl

/-- An access to local data memory or the plan tables holds nothing. -/
theorem path_near (a : Acc) (x : Ctx) (slot : Slot) {w : Window} (near : localWindow w = true) : a.path x slot w = a := by
  simp [Acc.path, near]

/-- The state in which an access to the shared path acts: it holds the path up to a cycle (R83, R119). -/
def Op.accessing (op : Op) (s : State) (until' : Nat) : State :=
  (op.begun s).setLane op.lane.val { op.at s with pathUntil := max (op.at s).pathUntil until' }

theorem issued_accessing (s : State) (op : Op) (until' : Nat) :
    Issued s (op.accessing s until') op { op.at s with pathUntil := max (op.at s).pathUntil until' } s.laneEv :=
  (issued_begun s op).setLane _

/-- An access to another window that does not trap has slot D and holds the path. -/
theorem path_far {s : State} {k : OpKind} {op : Op} (ready : Ready s k op) (notA : (opRow k).slots.testBit 0 = false)
    (notB : (opRow k).slots.testBit 1 = false) {size : Nat} {writes atomic : Bool} (ok : accessOk s k op size writes atomic)
    (far : localWindow (memWin s k op size).1 = false) :
    (Acc.start (op.begun s)).path (op.ctx s) op.slot (memWin s k op size).1 =
      Acc.start (op.accessing s (if (memWin s k op size).1 == .mram then op.wheel s + 48 else op.wheel s)) := by
  obtain ⟨slotC, -⟩ := memCause_none ok
  have slot := slotD_of_far notA notB (slot_of_legal ready.legal) fun c => Bool.eq_false_iff.1 far (slotC c)
  have lane : (Acc.start (op.begun s)).st.lane (op.ctx s).n = op.at s := begun_lane s op
  have holds : (op.slot == .d && !localWindow (memWin s k op size).1) = true := by rw [slot, far]; rfl
  rw [Acc.path, if_pos holds, lane]
  rfl

/-! Loads, stores and atomics -/

/-- The command of a row runs a memory operation, which acts on its window by `act`; its slots are C and D (R115, R118). -/
structure Accesses (f : Op → Instr) (k : OpKind) (size : Nat) (writes atomic : Bool)
    (act : State → Op → Window → Nat → Nat → Acc → Acc) : Prop where
  runs : ∀ s op, exec (f op) s = .next (laneOp k op s)
  access : ∀ s op, ∃ sum, opRun (op.ctx s) { kind := k, op := op } (Acc.start (op.begun s)) =
    memIssue (op.ctx s) { kind := k, op := op } (memAddr s k op size) size writes atomic sum (act s op) (Acc.start (op.begun s))
  notA : (opRow k).slots.testBit 0 = false
  notB : (opRow k).slots.testBit 1 = false

namespace Accesses
variable {f : Op → Instr} {k : OpKind} {size : Nat} {writes atomic : Bool} {act : State → Op → Window → Nat → Nat → Acc → Acc}
  {s : State} {op : Op} (row : Accesses f k size writes atomic act) (ready : Ready s k op) (taken : op.guard s = true)
  (ok : accessOk s k op size writes atomic)
include row ready taken ok

theorem acts : opRun (op.ctx s) { kind := k, op := op } (Acc.start (op.begun s)) =
    act s op (memWin s k op size).1 (memWin s k op size).2 (op.wheel s)
      ((Acc.start (op.begun s)).path (op.ctx s) op.slot (memWin s k op size).1) := by
  obtain ⟨sum, access⟩ := row.access s op
  exact access.trans (memIssue_ctx ready taken ok sum _)

/-- An access to local data memory or the plan tables that leaves an act in flight. -/
theorem near {w : Window} (win : (memWin s k op size).1 = w) (close : localWindow w = true) {due : Nat} {a : LaneAct}
    (put : ∀ b, b = Acc.start (op.begun s) → act s op w (memWin s k op size).2 (op.wheel s) b = b.put (op.ctx s) due a) :
    Completes (f op) s op (op.after s) (op.fly s due a) := by
  have run := row.acts ready taken ok
  rw [win, path_near _ _ _ close, put _ rfl] at run
  exact completes_of_delivers_same ready (row.runs s op) ⟨_, run, (issued_begun s op).inFlight due a⟩

/-- An access to the shared path that leaves an act in flight. -/
theorem far {w : Window} (win : (memWin s k op size).1 = w) (shared : localWindow w = false) {due : Nat} {a : LaneAct}
    (put : ∀ b, act s op w (memWin s k op size).2 (op.wheel s) b = b.put (op.ctx s) due a) :
    Completes (f op) s op (op.afterShared s (if w == .mram then op.wheel s + 48 else op.wheel s)) (op.fly s due a) := by
  have run := row.acts ready taken ok
  rw [path_far ready row.notA row.notB ok (win ▸ shared), win, put] at run
  exact completes_of_delivers ready (row.runs s op) ⟨_, run, (issued_accessing s op _).inFlight due a⟩ ready.straight rfl

end Accesses

theorem loadRows_access : ∀ r ∈ loadRows, Accesses r.1 r.2.1 r.2.2.1 false false
    fun s op => loadAct (op.ctx s) op.rd r.2.2.1 r.2.2.2 := by
  simp only [loadRows, List.forall_mem_cons, List.not_mem_nil, false_imp_iff, implies_true, and_true]
  and_intros <;> exact ⟨fun _ _ => rfl, fun _ _ => ⟨true, rfl⟩, rfl, rfl⟩

theorem storeRows_access : ∀ r ∈ storeRows, Accesses r.1 r.2.1 r.2.2 true false
    fun s op => storeAct (op.ctx s) (op.srcD s) r.2.2 := by
  simp only [storeRows, List.forall_mem_cons, List.not_mem_nil, false_imp_iff, implies_true, and_true]
  and_intros <;> exact ⟨fun _ _ => rfl, fun _ _ => ⟨true, rfl⟩, rfl, rfl⟩

/-- The act of an atomic operation at its slot (R121, R122). -/
def atomicAct (k : OpKind) (s : State) (op : Op) (off : Nat) : LaneAct :=
  if k = .tas then .tas (op.at s).plain op.rd off
  else if k = .lr then .lr (op.at s).plain op.rd off
  else .sc (op.at s).plain op.pd off (op.srcB s)

theorem atomicRows_access : ∀ r ∈ atomicRows, Accesses r.1 r.2.1 8 r.2.2 true
    fun s op _ off slot a => a.put (op.ctx s) slot (atomicAct r.2.1 s op off) := by
  simp only [atomicRows, List.forall_mem_cons, List.not_mem_nil, false_imp_iff, implies_true, and_true]
  exact
    ⟨⟨fun _ _ => rfl, fun _ _ => ⟨true, rfl⟩, rfl, rfl⟩, -- TAS
    ⟨fun _ _ => rfl, fun _ _ => ⟨true, rfl⟩, rfl, rfl⟩, -- LR
    ⟨fun _ _ => rfl, fun _ _ => ⟨false, rfl⟩, rfl, rfl⟩⟩ -- SC

/-- A load of a word of local data memory without an error delivers what the word holds at issue (R82, R139). -/
theorem localLoad_clean {s : State} {op : Op} {off : Nat} (clean : dmemErrAt s op.lane.val off = 0) (rd size : Nat) (sgn : Bool) :
    localLoad (op.ctx s) rd off size sgn (Acc.start (op.begun s)) = (Acc.start (op.begun s)).put (op.ctx s) (op.cyc s + 3)
      (.gpr (op.at s).plain rd (extendTo size sgn (rdLE s.dmem (op.lane.val * laneSize + off) size))) := by
  have none' : dmemErrAt (Acc.start (op.begun s)).st (op.ctx s).n off = 0 := clean
  unfold localLoad
  rw [none']
  rfl

/-- Settles O4: each row accesses its window (`loadRows_access`, `storeRows_access`), and what the access leaves in flight follows
window by window. -/
theorem loadsAndStoresAccessTheirWindow : Obligations.LoadsAndStoresAccessTheirWindow := by
  unfold Obligations.LoadsAndStoresAccessTheirWindow
  refine ⟨fun r hr s op ready taken ok => ?_, fun r hr s op ready taken ok => ?_⟩
  · have row := loadRows_access r hr
    dsimp only
    split
    next win =>
      intro clean
      exact row.near ready taken ok win rfl fun b start => start ▸ localLoad_clean clean ..
    next win => exact row.near ready taken ok win rfl fun b start => start ▸ rfl
    next win => exact row.far ready taken ok win rfl fun b => rfl
    next priv win => exact row.far ready taken ok win rfl fun b => rfl
    next win => exact row.far ready taken ok win rfl fun b => rfl
    next => trivial
  · have row := storeRows_access r hr
    dsimp only
    split
    next win => exact row.near ready taken ok win rfl fun b _ => rfl
    next win => exact row.far ready taken ok win rfl fun b => rfl
    next priv win => exact row.far ready taken ok win rfl fun b => rfl
    next => trivial

/-- Settles O5: an atomic access that does not trap is one of shared memory (`memCause_none`), and takes its slot. -/
theorem atomicsTakeTheSlot : Obligations.AtomicsTakeTheSlot := by
  unfold Obligations.AtomicsTakeTheSlot
  intro r hr s op k ready taken ok off slot
  obtain ⟨-, atomic⟩ := memCause_none ok
  have shared : (memWin s k op 8).1 = .shared := atomic rfl
  exact ⟨shared, (atomicRows_access r hr).far ready taken ok shared rfl fun b => rfl⟩

end Sys2Proof.Machine
end

section
namespace Sys2Proof.Machine

/-! ### What a raise leaves in flight (R137, R459) -/

theorem unlogged_laneEv : Unlogged State.laneEv where
  fld _ _ _ _ _ := rfl
  clamp _ _ _ := rfl
  abort _ := rfl
  lsw _ _ _ := rfl
  hb _ _ _ := rfl
  vd _ _ _ := rfl
  bank _ _ _ := rfl
  sink _ _ _ := rfl
  stage _ _ _ := rfl
  ledger1 _ _ _ := rfl
  access _ _ := rfl
  collector _ _ _ _ _ := rfl
  flags _ _ := rfl
  log _ _ := rfl
  zone _ _ := rfl
  defer _ _ _ := rfl
  lost _ _ := rfl

/-- A list of which dropping operations in flight may take some, and of which nothing else that class F3 does is seen, shrinks in the
terminal reaction. -/
theorem terminal_shrinks {α : Type} {g : State → List α} (h : Unlogged g) (stop : ∀ s, g (s.enter seqStopped) = g s)
    (halt : ∀ s n, g (laneHalt s n) = g s) (flight : ∀ s l, g (dropInFlight s l) ⊆ g s)
    (off : ∀ s, g { s with hwSafe := true, terminalLatch := true } = g s) (net : ∀ s x, g { s with net := x } = g s)
    (dump : ∀ s d, g { s with dumpNext := d } = g s) (s : State) : g (terminal s) ⊆ g s := by
  have u := h.toUnmoved
  unfold terminal
  extract_lets a b c d e
  have begun : g a = g s := (stop _).trans (h.record s _ 0 true (by decide))
  have halted : g c = g b := each_view g halt b _
  have off' : g d = g c := (outputsOff_view u _).trans (off c)
  have queued : g e = g d := (sleepCancel_view u _).trans (net d _)
  have dumped (t : State) (l : Option (List LogRec)) : g (if t.storeHot then t else { t with dumpNext := l }) = g t := by
    split
    · rfl
    · exact dump t l
  rw [roundStop_view u, dumped, queued, off', halted, ← begun]
  exact flight a _

/-- The terminal reaction puts nothing new in flight. -/
theorem terminal_laneEv (s : State) : (terminal s).laneEv ⊆ s.laneEv :=
  terminal_shrinks unlogged_laneEv (fun _ => rfl) (fun _ _ => rfl) (fun _ _ => List.filter_sublist.subset) (fun _ => rfl)
    (fun _ _ => rfl) (fun _ _ => rfl) s

theorem react_laneEv (s : State) (cls : Nat) : (react s cls).laneEv ⊆ s.laneEv := by
  by_cases below : cls < 3
  · rw [react_view_below unlogged_laneEv below]
    exact List.Subset.refl _
  · unfold react
    split
    · exact List.Subset.refl _
    · omega
    · omega
    · exact terminal_laneEv s

theorem raiseOne_laneEv (s : State) (r : Raise) : (raiseOne s r).laneEv ⊆ s.laneEv := by
  have hold : r.cls = 0 → ∀ t u, faultOutput r.src r.unit = some u → (takeHold t r.src r.unit u).1.laneEv = t.laneEv :=
    fun _ t u _ => takeHold_view unlogged_laneEv (fun _ _ => rfl) t r.src r.unit u
  obtain kept | ⟨t, recorded, reacts⟩ := raiseOne_reacts unlogged_laneEv s r hold
  · rw [kept]
    exact List.Subset.refl _
  · rw [reacts, ← recorded]
    exact react_laneEv t _

theorem raiseWith_laneEv (s : State) (src unit cls : Nat) (d : BitVec 48) (f : Bool) :
    (raiseWith s src unit cls d f).laneEv ⊆ s.laneEv :=
  drainRaises_stays (P := fun t => t.laneEv ⊆ s.laneEv) (fun t r ht => List.Subset.trans (raiseOne_laneEv t r) ht) (fun _ _ ht => ht) 256
    (raiseOne_laneEv s _)

/-- A raise of class F0 with its detail, of a source that concerns no output, is recorded and no more. -/
theorem raiseWith_recorded {s : State} (live : Live s) {src unit : Nat} (free : faultOutput src unit = none) (d : BitVec 48) (f : Bool) :
    Recorded s (raiseWith s src unit 0 d f) := by
  have key := (raiseOne_recorded s { src := src, unit := unit, cls := 0, detail := d, count := s.now, forced := f }
    live.up live.open' rfl free).1
  have quiet := (congrArg State.raiseQ key.rest).trans live.quiet
  rw [raiseWith, settleRaises_of_quiet quiet]
  exact key

/-! ### Traps (R132 to R135) -/

/-- The registers behind a trap of a lane, before its source is raised: the first cause is recorded, each trapped operation counted,
and a plain's cause shown. -/
def trapShown (s : State) (n pc : Nat) (plain : Bool) (cause addr count : Nat) : State :=
  let s := if s.bit Reg.SYS.LANE_TRAP.VALID n then s
    else s.setFlds [(Reg.SYS.LANE_TRAP.VALID, n, 1), (Reg.SYS.LANE_TRAP.PLAIN, n, if plain then 1 else 0),
      (Reg.SYS.LANE_TRAP.CAUSE, n, cause), (Reg.SYS.LANE_TPC.ADDR, n, pc), (Reg.SYS.LANE_TADDR.ADDR, n, addr)]
  let s := s.satAdd Reg.SYS.LANE_TRAP.COUNT n count
  if plain then s.setFlds [(Reg.SYS.LANE_PTRAP.VALUE, n, cause), (Reg.SYS.LANE_PTPC.VALUE, n, pc)] else s

theorem laneTrap_eq (s : State) (n pc : Nat) (plain : Bool) (cause addr : Nat) (traps : List (Nat × Nat)) :
    laneTrap s n pc plain ((cause, addr) :: traps) =
      raiseWith (trapShown s n pc plain cause addr (traps.length + 1)) Flt.SYS.LANETRAP n (if plain then 0 else 2) (detail8 cause) false :=
  rfl

/-- A register of the lane at another offset keeps its value. -/
theorem fld_setFld_apart (s : State) {F G : Field} (n v : Nat) (hs : G.stride = F.stride) (hb : G.base ≠ F.base) :
    (s.setFld F n v).fld G n = s.fld G n :=
  fld_setFld_elsewhere s v (by unfold Field.off; rw [hs]; omega)

/-- What sees none of the lane's own registers of the SYS block sees nothing of what a trap shows. -/
theorem trapShown_view {β : Type} (g : State → β) {n : Nat}
    (fld : ∀ s F v, F.base < 0x200 → F.stride = 0x40 → g (State.setFld s F n v) = g s)
    (s : State) (pc : Nat) (plain : Bool) (cause addr count : Nat) : g (trapShown s n pc plain cause addr count) = g s := by
  simp +decide [trapShown, State.setFlds, State.satAdd, apply_ite g, fld]

theorem trapShown_live {s : State} (live : Live s) {n : Nat} (low : n < 4) (pc : Nat) (plain : Bool) (cause addr count : Nat) :
    Live (trapShown s n pc plain cause addr count) where
  up := (trapShown_view State.collectorUp (fun _ _ _ _ _ => rfl) ..).trans live.up
  open' := by
    refine (trapShown_view (fun s => s.bit Reg.FAULT.STATUS.TERMINAL 0) (fun s F v base stride => ?_) ..).trans live.open'
    refine bit_setFld_elsewhere s v ?_
    simp only [Field.off, Reg.FAULT.STATUS.TERMINAL, stride]
    omega
  quiet := (trapShown_view State.raiseQ (fun _ _ _ _ _ => rfl) ..).trans live.quiet

/-- The first trap of a plain is recorded: its cause and the address of its bundle. -/
theorem trapShown_first {s : State} {n : Nat} (first : s.bit Reg.SYS.LANE_TRAP.VALID n = false) (pc cause addr count : Nat) :
    let t := trapShown s n pc true cause addr count
    t.fld Reg.SYS.LANE_TRAP.CAUSE n = cause % 2 ^ 8 ∧ t.fld Reg.SYS.LANE_TPC.ADDR n = pc % 2 ^ 32 := by
  simp +decide [trapShown, first, State.setFlds, State.satAdd, fld_setFld_neighbour, fld_setFld_apart, fld_setFld_same]
  exact ⟨rfl, rfl⟩

/-- Traps that the collector takes: their source is flagged in the class of the code, and nothing new is in flight; the first trap of
a plain is recorded, with the lanes as they were. -/
theorem laneTrap_holds {s : State} (live : Live s) {n : Nat} (low : n < 4) (pc : Nat) (plain : Bool) (cause addr : Nat)
    (traps : List (Nat × Nat)) :
    let t := laneTrap s n pc plain ((cause, addr) :: traps)
    Flagged t Flt.SYS.LANETRAP n (if plain then 0 else 2) ∧ t.laneEv ⊆ s.laneEv ∧
      (plain = true → s.bit Reg.SYS.LANE_TRAP.VALID n = false →
        t.fld Reg.SYS.LANE_TRAP.CAUSE n = cause % 2 ^ 8 ∧ t.fld Reg.SYS.LANE_TPC.ADDR n = pc % 2 ^ 32 ∧ t.lanes = s.lanes) := by
  rw [laneTrap_eq]
  intro t
  have live' := trapShown_live live low pc plain cause addr (traps.length + 1)
  have flight : (trapShown s n pc plain cause addr (traps.length + 1)).laneEv = s.laneEv :=
    trapShown_view State.laneEv (fun _ _ _ _ _ => rfl) ..
  refine ⟨raiseWith_flagged live' .., flight ▸ raiseWith_laneEv .., fun isPlain first => ?_⟩
  subst isPlain
  have recorded : Recorded (trapShown s n pc true cause addr (traps.length + 1)) t :=
    raiseWith_recorded live' (faultOutput_sys _ _ (by decide)) _ _
  obtain ⟨causeIs, pcIs⟩ := trapShown_first first pc cause addr (traps.length + 1)
  have kept (F : Field) (base : F.base < 0x200) (stride : F.stride = 0x40) :
      t.fld F n = (trapShown s n pc true cause addr (traps.length + 1)).fld F n := by
    rw [State.fld, State.fld, recorded.words _ (.inl (by unfold Field.off; rw [stride]; omega))]
  refine ⟨(kept _ (by decide) rfl).trans causeIs, (kept _ (by decide) rfl).trans pcIs, ?_⟩
  exact (congrArg State.lanes recorded.rest).trans (trapShown_view State.lanes (fun _ _ _ _ _ => rfl) ..)

/-! ### A bundle that traps -/

/-- `t` is `s` but for its lanes. -/
def LanesOnly (s t : State) : Prop := t = { s with lanes := t.lanes }

theorem LanesOnly.refl (s : State) : LanesOnly s s := rfl

theorem LanesOnly.trans {s t u : State} (h : LanesOnly s t) (g : LanesOnly t u) : LanesOnly s u := by
  rw [LanesOnly, g, h]

theorem LanesOnly.setLane {s t : State} (h : LanesOnly s t) (n : Nat) (l : Lane) : LanesOnly s (t.setLane n l) :=
  h.trans rfl

theorem LanesOnly.live {s t : State} (h : LanesOnly s t) (live : Live s) : Live t := by
  rw [h]
  exact ⟨live.up, live.open', live.quiet⟩

/-- The redirect that a trap in a plain leaves (R134). -/
def trapRedirect (s : State) (c : Nat) : Redirect :=
  { due := c + 3, target := some (BitVec.ofNat 64 (plainsEntry s + 0x40)), trap := true }

/-- A plain whose time is over stays on its lane while a redirect is under way (R127). -/
theorem plainStop_redirected {s : State} {n : Nat} (later : ((s.lane n).redirects.any fun r => (s.lane n).cyc < r.due) = true)
    (at' : Nat) : LanesOnly s (plainStop s n at') ∧ ((plainStop s n at').lane n).redirects = (s.lane n).redirects := by
  unfold plainStop
  simp only [later, if_true]
  split
  · exact ⟨.refl s, rfl⟩
  · exact ⟨(LanesOnly.refl s).setLane _ _, by rw [lane_setLane_same]⟩

/-- A bundle with a trapped operation does not end its block or plain by its time; a plain is redirected to the trap vector. -/
theorem bundleEnd_trapped (x : Ctx) {a : Acc} (goes : a.stop = 0) (trapped : a.traps ≠ []) :
    ∃ u, bundleEnd x false a = laneTrap u x.n x.pc x.l.plain a.traps ∧ LanesOnly a.st u ∧
      (x.l.plain = true → a.branch = none → (u.lane x.n).redirects = (a.st.lane x.n).redirects ++ [trapRedirect a.st x.c]) := by
  unfold bundleEnd
  extract_lets st l plain br tr past stop ended
  have hstop : stop = 0 := by simp [stop, goes]
  have lanes : LanesOnly a.st past := (LanesOnly.refl a.st).setLane _ _
  have lane : past.lane x.n = _ := lane_setLane_same ..
  refine ⟨ended, rfl, ?_⟩
  simp only [ended, hstop, if_true]
  cases isPlain : x.l.plain with
  | false =>
    simp only [plain, isPlain, Bool.false_and, Bool.false_eq_true, if_false]
    exact ⟨lanes, nofun⟩
  | true =>
    have htr : tr = [trapRedirect a.st x.c] := by
      simp only [tr, plain, isPlain, Bool.true_and, Bool.not_eq_true', List.isEmpty_eq_false_iff]
      exact if_pos trapped
    have later : ((past.lane x.n).redirects.any fun r => (past.lane x.n).cyc < r.due) = true := by
      simp [lane, htr, trapRedirect]
    obtain ⟨stays, redirects⟩ := plainStop_redirected later ((past.lane x.n).plainEnd + 16)
    have leaves (t : State) (only : LanesOnly a.st t) (same : (t.lane x.n).redirects = (past.lane x.n).redirects) :
        LanesOnly a.st t ∧ (true = true → a.branch = none →
          (t.lane x.n).redirects = (a.st.lane x.n).redirects ++ [trapRedirect a.st x.c]) := by
      refine ⟨only, fun _ straight => ?_⟩
      simp [same, lane, htr, br, straight, l, st]
    split
    · exact leaves _ (lanes.trans stays) redirects
    · exact leaves _ lanes rfl

end Sys2Proof.Machine
end

section
namespace Sys2Proof.Machine

/-! ### TRAP (R132) -/

/-- The byte memories behind a trap. -/
theorem laneTrap_memories {s u : State} (only : LanesOnly s u) (n pc : Nat) (plain : Bool) (traps : List (Nat × Nat)) :
    (laneTrap u n pc plain traps).dmem = s.dmem ∧ (laneTrap u n pc plain traps).shared = s.shared := by
  have held : (laneTrap u n pc plain traps).held = s.held := (laneTrap_held u n pc plain traps).trans (by rw [only]; rfl)
  simp only [State.held, Prod.mk.injEq] at held
  obtain ⟨-, -, dmem, shared, -⟩ := held
  exact ⟨dmem, shared⟩

theorem begun_lanesOnly (s : State) (op : Op) : LanesOnly (s.reach (countOf s (op.cyc s))) (op.begun s) := rfl

theorem opTrap_ctx {s : State} {op : Op} (taken : op.guard s = true) (k : OpKind) (a : Acc) :
    opTrap (op.ctx s) { kind := k, op := op } a = a.trap 0x0D 0 :=
  control_ctx taken k (fun a => a.trap 0x0D 0) a

/-- A bundle that has trapped, in a state where the collector takes raises. -/
theorem trappedBundle_holds {s : State} (live : Live s) {x : Ctx} (low : x.n < 4) {a : Acc} (goes : a.stop = 0) {cause addr : Nat}
    (trapped : a.traps = [(cause, addr)]) (only : LanesOnly s a.st) :
    let t := bundleEnd x false a
    Flagged t Flt.SYS.LANETRAP x.n (if x.l.plain then 0 else 2) ∧ t.dmem = s.dmem ∧ t.shared = s.shared ∧ (∀ e ∈ t.laneEv, e ∈ s.laneEv) ∧
      (x.l.plain = true → s.bit Reg.SYS.LANE_TRAP.VALID x.n = false →
        t.fld Reg.SYS.LANE_TRAP.CAUSE x.n = cause % 2 ^ 8 ∧ t.fld Reg.SYS.LANE_TPC.ADDR x.n = x.pc % 2 ^ 32 ∧
        (a.branch = none → (t.lane x.n).redirects = (a.st.lane x.n).redirects ++ [trapRedirect a.st x.c])) := by
  obtain ⟨u, ends, later, redirects⟩ := bundleEnd_trapped x goes (trapped ▸ List.cons_ne_nil _ _)
  have onlyU := only.trans later
  rw [trapped] at ends
  obtain ⟨flagged, flight, first⟩ := laneTrap_holds (onlyU.live live) low x.pc x.l.plain cause addr []
  obtain ⟨dmem, shared⟩ := laneTrap_memories onlyU x.n x.pc x.l.plain [(cause, addr)]
  intro t
  have ht : t = laneTrap u x.n x.pc x.l.plain [(cause, addr)] := ends
  rw [ht]
  have flightU : u.laneEv = s.laneEv := by rw [onlyU]
  refine ⟨flagged, dmem, shared, fun e he => flightU ▸ flight he, fun plain invalid => ?_⟩
  have invalidU : u.bit Reg.SYS.LANE_TRAP.VALID x.n = false := by rw [onlyU]; exact invalid
  obtain ⟨causeIs, pcIs, lanes⟩ := first plain invalidU
  refine ⟨causeIs, pcIs, fun straight => ?_⟩
  rw [State.lane, lanes]
  exact redirects plain straight

theorem trap_holds {s : State} {op : Op} (ready : Ready s .trap op) (taken : op.guard s = true) (live : Live s) :
    ∃ t, exec (.laneTrap op) s = .next t ∧ Flagged t Flt.SYS.LANETRAP op.lane.val (if (op.at s).plain then 0 else 2) ∧
      t.dmem = s.dmem ∧ t.shared = s.shared ∧ (∀ e ∈ t.laneEv, e ∈ s.laneEv) ∧
      ((op.at s).plain = true → s.bit Reg.SYS.LANE_TRAP.VALID op.lane.val = false →
        t.fld Reg.SYS.LANE_TRAP.CAUSE op.lane.val = 0x0D ∧ t.fld Reg.SYS.LANE_TPC.ADDR op.lane.val = (op.at s).pc.toNat ∧
        (t.lane op.lane.val).redirects = [{ due := op.cyc s + 3, target := some (BitVec.ofNat 64 (plainsEntry s + 0x40)), trap := true }]) := by
  have reached : Live (s.reach (countOf s (op.cyc s))) := ⟨live.up, live.open', live.quiet⟩
  have run : opRun (op.ctx s) { kind := .trap, op := op } (Acc.start (op.begun s)) = (Acc.start (op.begun s)).trap 0x0D 0 :=
    opTrap_ctx taken .trap _
  have exec' : exec (.laneTrap op) s = .next (bundleEnd (op.ctx s) false ((Acc.start (op.begun s)).trap 0x0D 0)) := by
    show Host.Outcome.next (laneOp .trap op s) = _
    rw [laneOp_ready ready, run]
    rfl
  obtain ⟨flagged, dmem, shared, flight, first⟩ :=
    trappedBundle_holds (x := op.ctx s) (a := (Acc.start (op.begun s)).trap 0x0D 0) reached op.lane.isLt rfl rfl (begun_lanesOnly s op)
  refine ⟨_, exec', flagged, dmem, shared, flight, fun plain invalid => ?_⟩
  obtain ⟨causeIs, pcIs, redirects⟩ := first plain invalid
  refine ⟨causeIs, pcIs.trans (Nat.mod_eq_of_lt (op.at s).pc.isLt), (redirects rfl).trans ?_⟩
  have straight : ((op.begun s).lane op.lane.val).redirects = [] := by rw [begun_lane, ready.straight]
  exact congrArg (· ++ [trapRedirect (op.begun s) (op.cyc s)]) straight

/-! ### A suppressed bundle (R109, R132, R497) -/

/-- From `a` to `b` an operation has issued that is not performed: the lanes may have changed (the divider and the shared path stay
held), and it has neither trapped, ended its block nor lost its lane. -/
structure Idles (a b : Acc) : Prop where
  only : LanesOnly a.st b.st
  traps : b.traps = a.traps
  stop : b.stop = a.stop
  lost : b.lost = a.lost

theorem Idles.refl (a : Acc) : Idles a a := ⟨.refl _, rfl, rfl, rfl⟩

theorem Idles.trans {a b c : Acc} (h : Idles a b) (g : Idles b c) : Idles a c :=
  ⟨h.only.trans g.only, g.traps.trans h.traps, g.stop.trans h.stop, g.lost.trans h.lost⟩

section
variable {x : Ctx} {y : Syl} (idle : x.guard y.op = false)
include idle

theorem putDiv_unguarded (v : Word) (a : Acc) : Idles a (putDiv x y v a) := by
  unfold putDiv
  simp only [idle, Bool.not_false, if_true]
  exact ⟨(LanesOnly.refl _).setLane _ _, rfl, rfl, rfl⟩

theorem memIssue_unguarded (addr : Word) (size : Nat) (writes atomic sum : Bool) (act : Window → Nat → Nat → Acc → Acc) (a : Acc) :
    Idles a (memIssue x y addr size writes atomic sum act a) := by
  rw [memIssue_eq, if_pos (by rw [idle]; rfl), Acc.path]
  split
  · exact ⟨(LanesOnly.refl _).setLane _ _, rfl, rfl, rfl⟩
  · exact .refl a

theorem branchTo_unguarded (target : Word) (link : Bool) (a : Acc) : Idles a (branchTo x y target link a) := by
  unfold branchTo
  split
  · exact ⟨.refl _, rfl, rfl, rfl⟩
  · rw [control_unguarded _ _ idle]
    exact .refl a

theorem opArith_unguarded (a : Acc) : Idles a (opArith x y a) := by
  unfold opArith
  simp only [putGpr_unguarded _ _ idle]
  split <;> simp only [Idles.refl, putDiv_unguarded idle]

theorem opCompare_unguarded (a : Acc) : Idles a (opCompare x y a) := by
  unfold opCompare
  simp only [putPred_unguarded _ _ idle]
  split <;> exact .refl a

theorem opMemory_unguarded (a : Acc) : Idles a (opMemory x y a) := by
  unfold opMemory
  split <;> simp only [opLoad, opLddx, opStore, opStdx, opTas, opLr, opSc, memIssue_unguarded idle, Idles.refl]

theorem opRun_unguarded (executes : y.kind ≠ .sel) (a : Acc) : Idles a (opRun x y a) := by
  unfold opRun
  simp only [opPset_unguarded _ idle, opEndb_unguarded _ idle, opWait_unguarded _ idle, opDropp_unguarded _ idle,
    opTrap_unguarded _ idle, opRdcyc, opRdlane, putGpr_unguarded _ _ idle]
  split
  case h_2 sel => exact absurd sel executes
  all_goals simp only [Idles.refl, opBr, opBrl, opBri, opBril, branchTo_unguarded idle, opCompare_unguarded idle,
    opMemory_unguarded idle, opArith_unguarded idle]

end

theorem opSuppressed_idles (x : Ctx) (y : Syl) (a : Acc) : Idles a (opSuppressed x y a) := by
  unfold opSuppressed
  split
  · exact .refl a
  · next executes =>
    have never : x.guard { y.op with pred := 0, neg := true } = false := rfl
    exact opRun_unguarded never (fun sel => executes (by simp [show y.kind = .sel from sel])) a

/-- No operation of a suppressed bundle is performed. -/
theorem suppressed_idles (x : Ctx) (ys : List Syl) (a : Acc) : Idles a (ys.foldl (fun a y => opSuppressed x y a) a) := by
  induction ys generalizing a with
  | nil => exact .refl a
  | cons y ys ih => exact (opSuppressed_idles x y a).trans (ih _)

/-- A lane that runs straight on inside its code window suppresses a bundle that is illegal itself. -/
theorem issue_illegal {s : State} {n : Nat} {ys : List Syl} {words bad : Nat} (runs : (s.lane n).running = true)
    (first : (s.lane n).cur = []) (flight : ∀ e ∈ s.laneEv, (s.lane n).cyc < e.due) (straight : (s.lane n).redirects = [])
    (above : plainsEntry s ≤ (s.lane n).pc.toNat) (below : (s.lane n).pc.toNat + 4 * words ≤ windowEnd s)
    (aligned : (s.lane n).pc.toNat % 4 = 0) (illegal : bad ≠ 0) :
    ∃ x a, issue s n ys words bad = bundleEnd x false (a.trap bad 0) ∧ x.n = n ∧ x.l = s.lane n ∧ x.pc = (s.lane n).pc.toNat ∧
      Idles (Acc.start (s.reach (countOf s (s.lane n).cyc))) a := by
  unfold issue
  extract_lets c t l hit target pc rest l' next notAddr fetch cause x begun ran
  have ht : t = s.reach (countOf s c) := congrArg (State.reach · _) (settleTo_of_none_due flight)
  have hl : l = s.lane n := by simp only [l, ht]; rfl
  have hhit : hit = none := by simp only [hit, hl, straight, List.find?_nil]
  have hpc : pc = (s.lane n).pc.toNat := by simp only [pc, target, hhit, hl, Option.bind_none]
  have hl' : l' = s.lane n := by
    simp only [l', hl, hhit, hpc, rest, straight, List.filter_nil]
    exact Lane.begun_of_straight straight first
  have hfetch : fetch = false := by
    have entry : plainsEntry t = plainsEntry s := by rw [ht]; rfl
    have stop' : windowEnd t = windowEnd s := by rw [ht]; rfl
    simp [fetch, notAddr, target, hhit, next, hpc, aligned, entry, stop', above, below]
  have hcause : cause = bad := if_neg (Bool.eq_false_iff.1 hfetch)
  have suppressed := suppressed_idles x ys begun
  have hran : ran = (ys.foldl (fun a y => opSuppressed x y a) begun).trap bad 0 := by
    simp only [ran, hcause, hfetch, illegal, if_false, Bool.false_eq_true]
  have kept : ran.lost = false := by rw [hran]; exact suppressed.lost
  have on : ¬(!l.running) = true := by rw [hl, runs]; exact Bool.false_ne_true
  have started : Idles (Acc.start t) begun := ⟨(LanesOnly.refl t).setLane n l', rfl, rfl, rfl⟩
  rw [if_neg on, kept, hfetch, hran, ← show t = s.reach (countOf s (s.lane n).cyc) from ht]
  exact ⟨x, _, rfl, rfl, hl', hpc, started.trans suppressed⟩

theorem illegalEncoding_holds {s : State} {lane : Fin 4} {words : List Word32} (runs : (s.lane lane.val).running = true)
    (service : (s.lane lane.val).inService = true) (first : (s.lane lane.val).cur = [])
    (illegal : (bundleWords 8 words).any illegalWord = true) (flight : ∀ e ∈ s.laneEv, (s.lane lane.val).cyc < e.due)
    (straight : (s.lane lane.val).redirects = []) (above : plainsEntry s ≤ (s.lane lane.val).pc.toNat)
    (below : (s.lane lane.val).pc.toNat + 4 * (bundleWords 8 words).length ≤ windowEnd s)
    (aligned : (s.lane lane.val).pc.toNat % 4 = 0) (live : Live s) :
    ∃ t, exec (.illegalEncoding lane words) s = .next t ∧
      Flagged t Flt.SYS.LANETRAP lane.val (if (s.lane lane.val).plain then 0 else 2) ∧
      t.dmem = s.dmem ∧ t.shared = s.shared ∧ (∀ e ∈ t.laneEv, e ∈ s.laneEv) ∧
      ((s.lane lane.val).plain = true → s.bit Reg.SYS.LANE_TRAP.VALID lane.val = false →
        t.fld Reg.SYS.LANE_TRAP.CAUSE lane.val = 0x08 ∧ t.fld Reg.SYS.LANE_TPC.ADDR lane.val = (s.lane lane.val).pc.toNat) := by
  have some' : (bundleWords 8 words).isEmpty = false := by
    cases h : bundleWords 8 words with
    | nil => rw [h] at illegal; cases illegal
    | cons w ws => rfl
  obtain ⟨x, a, issues, xn, xl, xpc, only, traps, stop, -⟩ := issue_illegal (ys := joinWords lane (bundleWords 8 words)) runs first flight
    straight above below aligned (show 0x08 ≠ 0 by decide)
  have exec' : exec (.illegalEncoding lane words) s = .next (bundleEnd x false (a.trap 0x08 0)) := by
    show execIllegalEncoding lane words s = _
    simp only [execIllegalEncoding, runs, service, first, some', illegal, List.isEmpty_nil, Bool.and_self, Bool.not_true,
      Bool.or_self, Bool.false_eq_true, if_false, if_true, issues]
  have reached : Live (s.reach (countOf s (s.lane lane.val).cyc)) := ⟨live.up, live.open', live.quiet⟩
  have trapped : (a.trap 0x08 0).traps = [(0x08, 0)] := congrArg (· ++ [(0x08, 0)]) traps
  obtain ⟨flagged, dmem, shared, flight', record⟩ :=
    trappedBundle_holds (x := x) (a := a.trap 0x08 0) reached (xn ▸ lane.isLt) stop trapped only
  rw [xn, xl] at flagged
  rw [xn, xl, xpc] at record
  refine ⟨_, exec', flagged, dmem, shared, flight', fun plain invalid => ?_⟩
  obtain ⟨causeIs, pcIs, -⟩ := record plain invalid
  exact ⟨causeIs, pcIs.trans (Nat.mod_eq_of_lt (s.lane lane.val).pc.isLt)⟩

/-- Settles O8: a TRAP and an illegal bundle leave a trapped bundle (`trap_holds`, `illegalEncoding_holds`), and what that records and
leaves is `trappedBundle_holds`. -/
theorem trapsAreRecorded : Obligations.TrapsAreRecorded := by
  unfold Obligations.TrapsAreRecorded
  exact ⟨fun s op ready taken live => trap_holds ready taken live,
    fun s lane words runs service first illegal flight straight above below aligned live =>
      illegalEncoding_holds runs service first illegal flight straight above below aligned live⟩

end Sys2Proof.Machine
end

section
namespace Sys2Proof.Machine

/-! ### A statement that fails (R63, R136) -/

/-- The flags behind a command, none where the command has no next state. -/
def flagsBehind (i : Instr) (s : State) : List FaultFlag :=
  match exec i s with
  | .next t => t.flags
  | _ => []

theorem flagsBehind_next {i : Instr} {s t : State} (h : exec i s = .next t) : flagsBehind i s = t.flags := by
  rw [flagsBehind, h]

/-- Lane 0 has staged FAULT.STATUS, whose word before was that of class F3 in force. No write stages that register (R63). -/
def strayStage : State :=
  { State.reset with
    collectorUp := true, boot := 0,
    seq := { Seq.init with staged := [(0, Reg.FAULT.STATUS.REG.base, 4)], owner := [(Reg.FAULT.STATUS.REG.base, 1)] } }

/-- The lane's loss puts back the word it staged, and while class F3 shows the raise of the clock fault sets no flag. -/
theorem strayStage_flags : flagsBehind (.laneFault 0 .clock) strayStage = [] := by
  decide +kernel

/-- Refutes O9: a lane fault discards what its lane has staged before it raises its source (R63), and the statement speaks of every
state, one with a staged word of the collector's own registers among them (`strayStage_flags`). -/
theorem not_laneFaultsAndInjections : ¬ Obligations.LaneFaultsAndInjections := by
  unfold Obligations.LaneFaultsAndInjections
  rintro ⟨fault, -⟩
  obtain ⟨t, run, -, -, -, -, -, flagged⟩ := fault strayStage 0 .clock ⟨rfl, by decide, rfl⟩ (by decide) rfl rfl
  have pending : ⟨Flt.SYS.LANECLK, 0, 1⟩ ∈ t.flags := flagged
  rw [← flagsBehind_next run, strayStage_flags] at pending
  exact absurd pending (List.not_mem_nil)

end Sys2Proof.Machine
end

section
/-!
# Proofs of the family 05_load_switches

What switching a load switch passes by; raises of class F0 that are not escalated; protective switch-offs; restarts, refills and
free-wheel tests; direct inputs and the mirror scan.
-/
namespace Sys2Proof.Machine

/-! ### Views of a load switch that is switched (R161 to R171) -/

theorem lswCh_setLsw (s : State) (n m : Nat) (c : LswCh) : (s.setLsw n c).lswCh m = if m = n then c else s.lswCh m :=
  smapGet_set (fun _ => LswCh.init) s.lsw n m c

@[simp] theorem lswCh_setLsw_same (s : State) (n : Nat) (c : LswCh) : (s.setLsw n c).lswCh n = c := by
  rw [lswCh_setLsw, if_pos rfl]

theorem fld_setLsw (s : State) (n m : Nat) (c : LswCh) (F : Field) : (s.setLsw n c).fld F m = s.fld F m := rfl

theorem fld_reach (s : State) (c : Nat) (F : Field) (n : Nat) : (s.reach c).fld F n = s.fld F n := rfl

theorem bit_setLsw (s : State) (n m : Nat) (c : LswCh) (F : Field) : (s.setLsw n c).bit F m = s.bit F m := rfl

theorem bit_setBit_value (s : State) {F : Field} (n : Nat) (b : Bool) (hF : F.lo + F.len ≤ 32) (one : F.len = 1) :
    (s.setBit F n b).bit F n = b := by
  cases b with
  | false => exact bit_setBit_same s F n hF
  | true => exact bit_setBit_true s n hF one

theorem lswCh_setFld (s : State) (F : Field) (n v m : Nat) : (s.setFld F n v).lswCh m = s.lswCh m := rfl

theorem lswCh_setBit (s : State) (F : Field) (n m : Nat) (b : Bool) : (s.setBit F n b).lswCh m = s.lswCh m := rfl

/-- STAT shows whether the channel is off for lack of a free-wheel path (R169). -/
def lswShown (s : State) (n : Nat) : State := s.setBit Reg.LSW.STAT.FW_BLOCK n (lswWanted s n && lswNoFreewheel s n)

/-- STAT shows the switch on. -/
def lswLighted (s : State) (n : Nat) : State := s.setBit Reg.LSW.STAT.ON n true

/-- The switch-on edge, at which an inrush window may start to run. -/
def lswTurnOn (s : State) (n : Nat) : State :=
  inrushEdge ((lswLighted s n).setLsw n { (lswLighted s n).lswCh n with onSince := (lswLighted s n).now }) n

/-- STAT shows the switch off and its limiter at rest. -/
def lswDark (s : State) (n : Nat) : State := (s.setBit Reg.LSW.STAT.ON n false).setBit Reg.LSW.STAT.IN_LIMIT n false

/-- The switch-off edge, behind which the on-time is counted. -/
def lswTurnOff (s : State) (n : Nat) : State :=
  (lswDark s n).setLsw n { (lswDark s n).lswCh n with
    onTime := ((lswDark s n).lswCh n).onTime + ((lswDark s n).now - ((lswDark s n).lswCh n).onSince) }

theorem lswApply_eq (s : State) (n : Nat) : lswApply s n =
    if lswOn (lswShown s n) n = (lswShown s n).bit Reg.LSW.STAT.ON n then lswShown s n
    else if lswOn (lswShown s n) n then lswTurnOn (lswShown s n) n
    else if ((lswDark (lswShown s n) n).lswCh n).forceClamp then clampTrip (lswTurnOff (lswShown s n) n) n true
    else lswTurnOff (lswShown s n) n := by
  unfold lswApply lswTurnOn lswTurnOff lswLighted lswDark lswShown
  rfl

/-- With no clamp trip armed, the switch is brought to what it should do by an edge or by nothing. -/
theorem lswApply_unarmed {s : State} {n : Nat} (free : (s.lswCh n).forceClamp = false) : lswApply s n =
    if lswOn (lswShown s n) n = (lswShown s n).bit Reg.LSW.STAT.ON n then lswShown s n
    else if lswOn (lswShown s n) n then lswTurnOn (lswShown s n) n else lswTurnOff (lswShown s n) n := by
  have unarmed : ((lswDark (lswShown s n) n).lswCh n).forceClamp = false := by
    rw [lswDark, lswShown, lswCh_setBit, lswCh_setBit, lswCh_setBit, free]
  rw [lswApply_eq, unarmed, if_neg Bool.false_ne_true]

/-- A view that does not see channel `n` switched: not the bits of its STAT that say so, not its on-time, not the run of an inrush
window. -/
structure Unswitched {β : Type} (g : State → β) (n : Nat) : Prop where
  block : ∀ s b, g (State.setBit s Reg.LSW.STAT.FW_BLOCK n b) = g s
  on : ∀ s b, g (State.setBit s Reg.LSW.STAT.ON n b) = g s
  limit : ∀ s b, g (State.setBit s Reg.LSW.STAT.IN_LIMIT n b) = g s
  time : ∀ s a b, g (State.setLsw s n { s.lswCh n with onTime := a, onSince := b }) = g s
  inrush : ∀ s c v, g (State.setLedger1 s c v) = g s

theorem Unswitched.edge {β : Type} {g : State → β} {n : Nat} (h : Unswitched g n) (s : State) (c : Nat) : g (inrushEdge s c) = g s := by
  simp [inrushEdge, apply_ite g, h.inrush]

/-- With no clamp trip armed, a view that does not see the switching does not see that the switch is brought to what it should do. -/
theorem lswApply_unseen {β : Type} {g : State → β} {n : Nat} (h : Unswitched g n) {s : State}
    (free : (s.lswCh n).forceClamp = false) : g (lswApply s n) = g s := by
  have shown : g (lswShown s n) = g s := h.block s _
  have lit (t : State) : g (lswTurnOn t n) = g t := (h.edge _ n).trans ((h.time _ _ _).trans (h.on t true))
  have dark (t : State) : g (lswTurnOff t n) = g t := (h.time _ _ _).trans ((h.limit _ _).trans (h.on t false))
  rw [lswApply_unarmed free]
  split
  · exact shown
  · split
    · exact (lit _).trans shown
    · exact (dark _).trans shown

theorem unswitched_word {o n : Nat} (other : o ≠ Reg.LSW.STAT.REG.off n) : Unswitched (fun s => s.word o) n where
  block s _ := word_setWord_ne s _ other
  on s _ := word_setWord_ne s _ other
  limit s _ := word_setWord_ne s _ other
  time _ _ _ := rfl
  inrush _ _ _ := rfl

theorem Unswitched.comp {β γ : Type} {g : State → β} {n : Nat} (h : Unswitched g n) (f : β → γ) : Unswitched (fun s => f (g s)) n where
  block s b := congrArg f (h.block s b)
  on s b := congrArg f (h.on s b)
  limit s b := congrArg f (h.limit s b)
  time s a b := congrArg f (h.time s a b)
  inrush s c v := congrArg f (h.inrush s c v)

theorem unswitched_fld {F : Field} {m n : Nat} (other : F.off m ≠ Reg.LSW.STAT.REG.off n) : Unswitched (fun s => s.fld F m) n :=
  (unswitched_word other).comp fun w => getBits w F.lo F.len

theorem off_ne {F G : Field} (n : Nat) (base : F.base ≠ G.base) (stride : F.stride = G.stride) : F.off n ≠ G.off n := by
  rw [Field.off, Field.off, stride]
  omega

/-- A field of STAT that does not say whether the switch is on, limits or lacks a free-wheel path. -/
structure StatBeside (F : Field) : Prop where
  base : F.base = Reg.LSW.STAT.REG.base
  stride : F.stride = Reg.LSW.STAT.REG.stride
  apart : 2 ≤ F.lo ∧ F.lo + F.len ≤ 7 ∨ 8 ≤ F.lo

theorem unswitched_stat {F : Field} (beside : StatBeside F) (n : Nat) : Unswitched (fun s => s.fld F n) n := by
  obtain ⟨base, stride, apart⟩ := beside
  exact {
    block := fun s _ => fld_setFld_neighbour s n _ (by decide) base stride (by simp only [Reg.LSW.STAT.FW_BLOCK]; omega)
    on := fun s _ => fld_setFld_neighbour s n _ (by decide) base stride (by simp only [Reg.LSW.STAT.ON]; omega)
    limit := fun s _ => fld_setFld_neighbour s n _ (by decide) base stride (by simp only [Reg.LSW.STAT.IN_LIMIT]; omega)
    time := fun _ _ _ => rfl
    inrush := fun _ _ _ => rfl }

/-- What a channel holds besides its on-time. -/
theorem unswitched_chan {β : Type} {f : LswCh → β} (blind : ∀ c a b, f { c with onTime := a, onSince := b } = f c) (m n : Nat) :
    Unswitched (fun s => f (s.lswCh m)) n where
  block _ _ := rfl
  on _ _ := rfl
  limit _ _ := rfl
  time s a b := by
    rw [lswCh_setLsw]
    split
    · next same => rw [blind, same]
    · rfl
  inrush _ _ _ := rfl

/-- What the collector is when a raise comes: up or not, in class F3 or not, with raises that wait. -/
def collectorView (s : State) : Bool × Bool × List Raise := (s.collectorUp, s.bit Reg.FAULT.STATUS.TERMINAL 0, s.raiseQ)

theorem Live.of_view {s t : State} (live : Live s) (h : collectorView t = collectorView s) : Live t := by
  simp only [collectorView, Prod.mk.injEq] at h
  obtain ⟨up, open', quiet⟩ := h
  exact ⟨up.trans live.up, open'.trans live.open', quiet.trans live.quiet⟩

theorem setFld_collectorView (s : State) {F : Field} (n v : Nat) (above : 0x30000 < F.base) :
    collectorView (s.setFld F n v) = collectorView s := by
  have shown : (s.setFld F n v).bit Reg.FAULT.STATUS.TERMINAL 0 = s.bit Reg.FAULT.STATUS.TERMINAL 0 :=
    bit_setFld_elsewhere s v (by simp only [Field.off, Reg.FAULT.STATUS.TERMINAL]; omega)
  rw [collectorView, shown]
  rfl

theorem setFld_live {s : State} (live : Live s) {F : Field} (n v : Nat) (above : 0x30000 < F.base) : Live (s.setFld F n v) :=
  live.of_view (setFld_collectorView s n v above)

theorem unswitched_collector (n : Nat) : Unswitched collectorView n where
  block s _ := setFld_collectorView s n _ (by decide)
  on s _ := setFld_collectorView s n _ (by decide)
  limit s _ := setFld_collectorView s n _ (by decide)
  time _ _ _ := rfl
  inrush _ _ _ := rfl

theorem unswitched_armed (m n : Nat) : Unswitched (fun s => (s.lswCh m).forceClamp) n :=
  unswitched_chan (fun _ _ _ => rfl) m n

theorem lswApply_live {s : State} {n : Nat} (free : (s.lswCh n).forceClamp = false) (live : Live s) : Live (lswApply s n) :=
  live.of_view (lswApply_unseen (unswitched_collector n) free)

theorem Calm.setFld {s : State} (calm : Calm s) (F : Field) (n v : Nat) : Calm (s.setFld F n v) := by
  obtain ⟨quiet, free⟩ := calm
  exact ⟨quiet, fun m => (congrArg LswCh.forceClamp (lswCh_setFld s F n v m)).trans (free m)⟩

theorem lswApply_calm {s : State} (n : Nat) (calm : Calm s) : Calm (lswApply s n) := by
  obtain ⟨quiet, free⟩ := calm
  have waits := lswApply_unseen ((unswitched_collector n).comp fun c => c.2.2) (free n)
  exact ⟨waits.trans quiet, fun m => (lswApply_unseen (unswitched_armed m n) (free n)).trans (free m)⟩

/-! ### Raises of class F0 (R459 to R462) -/

theorem raiseWith_raised (s : State) (src unit cls : Nat) (d : BitVec 48) (f : Bool) : Raised s (raiseWith s src unit cls d f) :=
  (raiseOne_raised s _).trans (settleRaises_raised _)

/-- A raise of class F0 whose flag is not pending is recorded and no more, also of a source that concerns an output. -/
theorem raiseOne_recorded_fresh {s : State} {r : Raise} (live : Live s) (zero : r.cls = 0) (fresh : ⟨r.src, r.unit, 0⟩ ∉ s.flags) :
    Recorded s (raiseOne s r) := by
  unfold raiseOne
  simp only [live.up, live.open', zero, fresh, Bool.not_true, Bool.false_eq_true, if_false, decide_false, Bool.false_and]
  have acted := (acted_recorded s r (fun u => recordOf u r 0 false false false) (act := 0) (by omega)).1
  split
  · exact acted
  · exact acted

theorem raiseWith_recorded_fresh {s : State} (live : Live s) {src unit : Nat} (fresh : ⟨src, unit, 0⟩ ∉ s.flags) (d : BitVec 48) (f : Bool) :
    Recorded s (raiseWith s src unit 0 d f) := by
  have key := raiseOne_recorded_fresh (r := { src := src, unit := unit, cls := 0, detail := d, count := s.now, forced := f }) live rfl fresh
  have quiet := (congrArg State.raiseQ key.rest).trans live.quiet
  rw [raiseWith, settleRaises_of_quiet quiet]
  exact key

theorem setFlag_shutView (s : State) (f : FaultFlag) : shutView (setFlag s f) = shutView s := by
  unfold setFlag
  split
  · rfl
  · simp (disch := decide) only [showFlags, State.setFlds, setFld_shutView]
    rfl

theorem open_of_shutView {s t : State} (h : shutView t = shutView s) :
    t.bit Reg.FAULT.STATUS.TERMINAL 0 = s.bit Reg.FAULT.STATUS.TERMINAL 0 := by
  have word : t.word 0x30000 = s.word 0x30000 := congrArg Prod.snd h
  have off : Reg.FAULT.STATUS.TERMINAL.off 0 = 0x30000 := by decide
  simp only [State.bit, State.fld, off, word]

theorem react_open (s : State) {cls : Nat} (low : cls ≤ 1) :
    (react s cls).bit Reg.FAULT.STATUS.TERMINAL 0 = s.bit Reg.FAULT.STATUS.TERMINAL 0 := by
  match cls, low with
  | 0, _ => rfl
  | 1, _ => exact bit_setBit_neighbour s 0 true (by decide) rfl rfl (by decide)

/-- Flags, count, record and a reaction of class F0 or F1 do not put class F3 in force. -/
theorem acted_open (s : State) (f g : FaultFlag) (r : Raise) (rec : LogRec) {act : Nat} (low : act ≤ 1) :
    (react (logWrite (countRaise (setFlag (setFlag s f) g) r act) rec) act).bit Reg.FAULT.STATUS.TERMINAL 0 =
      s.bit Reg.FAULT.STATUS.TERMINAL 0 := by
  rw [react_open _ low, open_of_shutView]
  rw [logWrite_shutView, countRaise_shutView, setFlag_shutView, setFlag_shutView]

/-- A raise of class F0 of a source that concerns no output leaves the collector ready for the next. -/
theorem raiseFault_live {s : State} (live : Live s) {src unit : Nat} (free : faultOutput src unit = none) :
    Live (raiseFault s src unit 0) := by
  have rest := (raiseFault_recorded live free).1.rest
  refine ⟨(congrArg State.collectorUp rest).trans live.up, ?_, (congrArg State.raiseQ rest).trans live.quiet⟩
  have one := (raiseOne_recorded s ⟨src, unit, 0, 0, s.now, false⟩ live.up live.open' rfl free).1.rest
  rw [raiseFault, raiseWith, settleRaises_of_quiet ((congrArg State.raiseQ one).trans live.quiet), raiseOne]
  simp only [live.up, live.open', free, Bool.not_true, Bool.false_eq_true, if_false]
  exact (acted_open s _ _ _ _ (by split <;> omega)).trans live.open'

/-! ### Protective switch-offs (R161, R164 to R166) -/

/-- A restart is asked for behind a protective switch-off: a committed command, or the lit configured safe state (R165). -/
def lswAsked (s : State) (n : Nat) : Bool := s.effBit Reg.LSW.CTRL.EN n || lswLit s n

/-- Only what asks for a restart can want the switch on. -/
theorem lswWanted_asked {s : State} {n : Nat} (wanted : lswWanted s n = true) : lswAsked s n = true := by
  have commanded (h : lswCommanded s n = true) : lswAsked s n = true := by
    simp only [lswCommanded, Bool.and_eq_true] at h
    simp [lswAsked, h.1]
  unfold lswWanted at wanted
  split at wanted
  · next safe =>
    split at wanted
    · next lit => simp [lswAsked, lswLit, safe, lit]
    · exact commanded wanted
    · cases wanted
  · exact commanded wanted

theorem lswOn_protected {s : State} {n : Nat} (idle : (s.lswCh n).fwBusy = false) (cut : (s.lswCh n).prot = lswAsked s n) :
    lswOn s n = false := by
  unfold lswOn
  rw [idle, cut]
  cases wanted : lswWanted s n
  · simp
  · simp [lswWanted_asked wanted]

theorem lswAsked_setBit (s : State) {F : Field} {n : Nat} (b : Bool) (hF : F.lo + F.len ≤ 32)
    (base : Reg.LSW.STAT.SAFE.base = F.base) (stride : Reg.LSW.STAT.SAFE.stride = F.stride)
    (apart : Reg.LSW.STAT.SAFE.lo + Reg.LSW.STAT.SAFE.len ≤ F.lo ∨ F.lo + F.len ≤ Reg.LSW.STAT.SAFE.lo) :
    lswAsked (s.setBit F n b) n = lswAsked s n := by
  unfold lswAsked lswLit
  rw [bit_setBit_neighbour s n b hF base stride apart]
  rfl

theorem lswTurnOff_on (s : State) (n : Nat) : (lswTurnOff s n).bit Reg.LSW.STAT.ON n = false := by
  rw [lswTurnOff, bit_setLsw, lswDark,
    bit_setBit_neighbour _ (F := Reg.LSW.STAT.IN_LIMIT) (G := Reg.LSW.STAT.ON) n false (by decide) rfl rfl (by decide)]
  exact bit_setBit_same s Reg.LSW.STAT.ON n (by decide)

theorem lswApply_protected {s : State} {n : Nat} (free : (s.lswCh n).forceClamp = false) (idle : (s.lswCh n).fwBusy = false)
    (cut : (s.lswCh n).prot = lswAsked s n) : (lswApply s n).bit Reg.LSW.STAT.ON n = false := by
  have asked : lswAsked (lswShown s n) n = lswAsked s n :=
    lswAsked_setBit s (F := Reg.LSW.STAT.FW_BLOCK) _ (by decide) rfl rfl (by decide)
  have off : lswOn (lswShown s n) n = false := by
    rw [lswOn_protected]
    · rw [lswShown, lswCh_setBit, idle]
    · rw [asked, lswShown, lswCh_setBit, cut]
  rw [lswApply_unarmed free, off]
  split
  · next same => exact same.symm
  · exact lswTurnOff_on _ n

/-- A protection meets the channel: a restart is asked for or not, and a free-wheel test ends. -/
def lswCutting (s : State) (n : Nat) : State :=
  s.setLsw n { s.lswCh n with prot := lswAsked s n, offAt := s.now, fwBusy := false }

/-- The channel behind it: switched off, its on-time restarted. -/
def lswCut (s : State) (n : Nat) : State :=
  (lswApply (lswCutting s n) n).setLsw n { (lswApply (lswCutting s n) n).lswCh n with onTime := 0 }

theorem lswProtect_eq (s : State) (n : Nat) (f : Bool) : lswProtect s n f =
    if (lswCut s n).fld Reg.LSW.RETRY.RETRY_LEFT n = 0 then
      raiseWith (lswApply ((lswCut s n).setFlds [(Reg.LSW.STAT.LOCKED, n, 1), (Reg.LSW.STAT.RETRY_PEND, n, 0)]) n) Flt.LSW.LOCKOUT n 1 0 f
    else settleRaises ((lswCut s n).setBit Reg.LSW.STAT.RETRY_PEND n (lswAsked s n)) := rfl

section
variable {s : State} {n : Nat} (free : (s.lswCh n).forceClamp = false)
include free

theorem lswCutting_unarmed : ((lswCutting s n).lswCh n).forceClamp = false := by
  rw [lswCutting, lswCh_setLsw_same]
  exact free

theorem lswCut_unseen {β : Type} {g : State → β} (h : Unswitched g n) (blind : ∀ t c, g (State.setLsw t n c) = g t) :
    g (lswCut s n) = g s :=
  (blind _ _).trans ((lswApply_unseen h (lswCutting_unarmed free)).trans (blind s _))

theorem lswCut_off : (lswCut s n).bit Reg.LSW.STAT.ON n = false := by
  rw [lswCut, bit_setLsw]
  refine lswApply_protected (lswCutting_unarmed free) ?_ ?_
  · rw [lswCutting, lswCh_setLsw_same]
  · rw [lswCutting, lswCh_setLsw_same]
    rfl

theorem lswCut_unarmed : ((lswCut s n).lswCh n).forceClamp = false := by
  rw [lswCut, lswCh_setLsw_same]
  exact (lswApply_unseen (unswitched_armed n n) (lswCutting_unarmed free)).trans (lswCutting_unarmed free)

end

/-! ### Trips (R161) -/

/-- The event bit and the counter of a protection: in the upper half of STAT, and in EVCOUNT. -/
structure TripFields (ev cnt : Field) : Prop where
  base : ev.base = Reg.LSW.STAT.REG.base
  stride : ev.stride = Reg.LSW.STAT.REG.stride
  high : 16 ≤ ev.lo
  fits : ev.lo + ev.len ≤ 32
  countBase : cnt.base = Reg.LSW.EVCOUNT.REG.base
  countStride : cnt.stride = Reg.LSW.EVCOUNT.REG.stride

theorem tripFields_limit : TripFields Reg.LSW.STAT.EV_LIMTO Reg.LSW.EVCOUNT.LIMTO := ⟨rfl, rfl, by decide, by decide, rfl, rfl⟩
theorem tripFields_short : TripFields Reg.LSW.STAT.EV_SHORT Reg.LSW.EVCOUNT.SHORT := ⟨rfl, rfl, by decide, by decide, rfl, rfl⟩
theorem tripFields_thermal : TripFields Reg.LSW.STAT.EV_THERM Reg.LSW.EVCOUNT.THERM := ⟨rfl, rfl, by decide, by decide, rfl, rfl⟩

/-- A view that sees nothing of the trip of channel `n`: neither its STAT and EVCOUNT nor its hidden state. -/
structure Untripped {β : Type} (g : State → β) (n : Nat) : Prop where
  stat : ∀ s F v, F.base = Reg.LSW.STAT.REG.base → F.stride = Reg.LSW.STAT.REG.stride → g (State.setFld s F n v) = g s
  count : ∀ s F v, F.base = Reg.LSW.EVCOUNT.REG.base → F.stride = Reg.LSW.EVCOUNT.REG.stride → g (State.setFld s F n v) = g s
  chan : ∀ s c, g (State.setLsw s n c) = g s
  inrush : ∀ s c v, g (State.setLedger1 s c v) = g s

theorem Untripped.unswitched {β : Type} {g : State → β} {n : Nat} (h : Untripped g n) : Unswitched g n where
  block s _ := h.stat s _ _ rfl rfl
  on s _ := h.stat s _ _ rfl rfl
  limit s _ := h.stat s _ _ rfl rfl
  time s _ _ := h.chan s _
  inrush := h.inrush

theorem untripped_word {o n : Nat} (notStat : o ≠ Reg.LSW.STAT.REG.off n) (notCount : o ≠ Reg.LSW.EVCOUNT.REG.off n) :
    Untripped (fun s => s.word o) n where
  stat s F _ base stride := word_setWord_ne s _ (by rw [Field.off, base, stride]; exact notStat)
  count s F _ base stride := word_setWord_ne s _ (by rw [Field.off, base, stride]; exact notCount)
  chan _ _ := rfl
  inrush _ _ _ := rfl

theorem untripped_retry (n : Nat) : Untripped (fun s => s.word (Reg.LSW.RETRY.RETRY_LEFT.off n)) n :=
  untripped_word (off_ne n (by decide) rfl) (off_ne n (by decide) rfl)

theorem untripped_collector (n : Nat) : Untripped collectorView n where
  stat s F v base _ := setFld_collectorView s n v (by rw [base]; decide)
  count s F v base _ := setFld_collectorView s n v (by rw [base]; decide)
  chan _ _ := rfl
  inrush _ _ _ := rfl

theorem untripped_stands (n : Nat) : Untripped State.stands n where
  stat _ _ _ _ _ := (rfl)
  count _ _ _ _ _ := (rfl)
  chan _ _ := (rfl)
  inrush _ _ _ := (rfl)

/-- STAT and EVCOUNT show the trip. -/
def tripShown (s : State) (n : Nat) (ev cnt : Field) : State := (s.setBit ev n true).satAdd cnt n 1

/-- The channel behind a trip that a restart may follow. -/
def lswPending (s : State) (n : Nat) (ev cnt : Field) : State :=
  (lswCut (tripShown s n ev cnt) n).setBit Reg.LSW.STAT.RETRY_PEND n (lswAsked (tripShown s n ev cnt) n)

theorem lswCh_tripShown (s : State) (n m : Nat) (ev cnt : Field) : (tripShown s n ev cnt).lswCh m = s.lswCh m := rfl

section
variable {s : State} {n : Nat} {ev cnt : Field} (fields : TripFields ev cnt)
include fields

theorem tripShown_unseen {β : Type} {g : State → β} (h : Untripped g n) : g (tripShown s n ev cnt) = g s :=
  (h.count _ cnt _ fields.countBase fields.countStride).trans (h.stat s ev _ fields.base fields.stride)

/-- The lower half of STAT does not show the event. -/
theorem tripShown_stat {G : Field} (base : G.base = Reg.LSW.STAT.REG.base) (stride : G.stride = Reg.LSW.STAT.REG.stride)
    (low : G.lo + G.len ≤ 16) : (tripShown s n ev cnt).fld G n = s.fld G n := by
  obtain ⟨evBase, evStride, high, fits, countBase, countStride⟩ := fields
  have counted : (tripShown s n ev cnt).fld G n = (s.setBit ev n true).fld G n :=
    fld_setFld_apart _ n _ (stride.trans countStride.symm) (by rw [base, countBase]; decide)
  exact counted.trans (fld_setFld_neighbour s n _ fits (base.trans evBase.symm) (stride.trans evStride.symm) (.inl (by omega)))

theorem tripShown_asked : lswAsked (tripShown s n ev cnt) n = lswAsked s n := by
  have safe : (tripShown s n ev cnt).fld Reg.LSW.STAT.SAFE n = s.fld Reg.LSW.STAT.SAFE n :=
    tripShown_stat fields rfl rfl (by decide)
  simp only [lswAsked, lswLit, State.bit, safe]
  rfl

variable (free : (s.lswCh n).forceClamp = false)
include free

omit fields in
theorem tripShown_unarmed : ((tripShown s n ev cnt).lswCh n).forceClamp = false := by
  rw [lswCh_tripShown, free]

theorem tripped_unseen {β : Type} {g : State → β} (h : Untripped g n) : g (lswCut (tripShown s n ev cnt) n) = g s :=
  (lswCut_unseen (tripShown_unarmed free) h.unswitched h.chan).trans (tripShown_unseen fields h)

theorem lswPending_unseen {β : Type} {g : State → β} (h : Untripped g n) : g (lswPending s n ev cnt) = g s :=
  (h.stat _ Reg.LSW.STAT.RETRY_PEND _ rfl rfl).trans (tripped_unseen fields free h)

omit fields in
theorem lswPending_off : (lswPending s n ev cnt).bit Reg.LSW.STAT.ON n = false := by
  rw [lswPending, bit_setBit_neighbour (F := Reg.LSW.STAT.RETRY_PEND) (G := Reg.LSW.STAT.ON) _ n _ (by decide) rfl rfl (by decide)]
  exact lswCut_off (tripShown_unarmed free)

theorem lswPending_latch : (lswPending s n ev cnt).bit Reg.LSW.STAT.TLATCH n = s.bit Reg.LSW.STAT.TLATCH n := by
  have cut : (lswCut (tripShown s n ev cnt) n).fld Reg.LSW.STAT.TLATCH n = (tripShown s n ev cnt).fld Reg.LSW.STAT.TLATCH n :=
    lswCut_unseen (tripShown_unarmed free) (unswitched_stat (F := Reg.LSW.STAT.TLATCH) ⟨rfl, rfl, by decide⟩ n) fun _ _ => rfl
  rw [lswPending, bit_setBit_neighbour (F := Reg.LSW.STAT.RETRY_PEND) (G := Reg.LSW.STAT.TLATCH) _ n _ (by decide) rfl rfl (by decide),
    State.bit, cut, tripShown_stat (G := Reg.LSW.STAT.TLATCH) fields rfl rfl (by decide), State.bit]

end

theorem fld_of_word {s t : State} {F : Field} {n : Nat} (h : t.word (F.off n) = s.word (F.off n)) : t.fld F n = s.fld F n := by
  rw [State.fld, h, State.fld]

theorem bit_of_word {s t : State} {F : Field} {n : Nat} (h : t.word (F.off n) = s.word (F.off n)) : t.bit F n = s.bit F n := by
  rw [State.bit, fld_of_word h, State.bit]

/-- A raise of class F0 that is not escalated writes no register of the load switches. -/
theorem Recorded.lsw {s t : State} (h : Recorded s t) (F : Field) (n : Nat) (above : 0x50000 ≤ F.base) :
    t.word (F.off n) = s.word (F.off n) := h.words _ (.inr (by unfold Field.off; omega))

/-- A protective switch-off with a retry left: the committed command stands, the switch is off, a restart pends where one is asked
for, and no other channel shows any of it. -/
structure SwitchedOff (s t : State) (n : Nat) : Prop where
  eff : t.eff = s.eff
  off : t.bit Reg.LSW.STAT.ON n = false
  pend : t.bit Reg.LSW.STAT.RETRY_PEND n = lswAsked s n
  left : t.fld Reg.LSW.RETRY.RETRY_LEFT n = s.fld Reg.LSW.RETRY.RETRY_LEFT n
  others : ∀ m, m ≠ n → t.word (Reg.LSW.STAT.REG.off m) = s.word (Reg.LSW.STAT.REG.off m)

section
variable {s : State} {n : Nat} {ev cnt : Field} (fields : TripFields ev cnt) (live : Live s) (free : (s.lswCh n).forceClamp = false)
include fields live free

theorem lswPending_live : Live (lswPending s n ev cnt) := live.of_view (lswPending_unseen fields free (untripped_collector n))

omit live in
theorem tripped_left : (lswCut (tripShown s n ev cnt) n).fld Reg.LSW.RETRY.RETRY_LEFT n = s.fld Reg.LSW.RETRY.RETRY_LEFT n :=
  fld_of_word (tripped_unseen fields free (untripped_retry n))

/-- A trip with a retry left switches the channel off, asks for a restart, and raises its source. -/
theorem lswTrip_retries (left : s.fld Reg.LSW.RETRY.RETRY_LEFT n ≠ 0) (src : Nat) (f : Bool) :
    lswTrip s n ev cnt src f = raiseWith (lswPending s n ev cnt) src n 0 0 f := by
  have quiet := (lswPending_live fields live free).quiet
  show raiseWith (lswProtect (tripShown s n ev cnt) n f) src n 0 0 f = _
  rw [lswProtect_eq, tripped_left fields free, if_neg left, ← lswPending, settleRaises_of_quiet quiet]

theorem lswTrip_flagged (left : s.fld Reg.LSW.RETRY.RETRY_LEFT n ≠ 0) (src : Nat) (f : Bool) : Flagged (lswTrip s n ev cnt src f) src n 0 := by
  rw [lswTrip_retries fields live free left]
  exact raiseWith_flagged (lswPending_live fields live free) src n 0 0 f

/-- A trip with no retry left locks the channel. -/
theorem lswTrip_locks (left : s.fld Reg.LSW.RETRY.RETRY_LEFT n = 0) (src : Nat) (f : Bool) :
    Flagged (lswTrip s n ev cnt src f) Flt.LSW.LOCKOUT n 1 := by
  show Flagged (raiseWith (lswProtect (tripShown s n ev cnt) n f) src n 0 0 f) _ _ _
  refine (raiseWith_raised _ src n 0 0 f).flags ?_
  rw [lswProtect_eq, tripped_left fields free, if_pos left, State.setFlds, State.setFlds, State.setFlds]
  refine raiseWith_flagged (lswApply_live ?_ (live.of_view ?_)) Flt.LSW.LOCKOUT n 1 0 f
  · rw [lswCh_setFld, lswCh_setFld]
    exact lswCut_unarmed (tripShown_unarmed free)
  · have h := untripped_collector n
    exact (h.stat _ Reg.LSW.STAT.RETRY_PEND _ rfl rfl).trans ((h.stat _ Reg.LSW.STAT.LOCKED _ rfl rfl).trans (tripped_unseen fields free h))

/-- A trip with a retry left, of a source that is not pending, writes to the channel that pends and no more than a record. -/
theorem lswTrip_recorded (left : s.fld Reg.LSW.RETRY.RETRY_LEFT n ≠ 0) {src : Nat} (fresh : Fresh s src n) (f : Bool) :
    Recorded (lswPending s n ev cnt) (lswTrip s n ev cnt src f) := by
  have flags : (lswPending s n ev cnt).flags = s.flags := congrArg Prod.snd (lswPending_unseen fields free (untripped_stands n))
  rw [lswTrip_retries fields live free left src f]
  refine raiseWith_recorded_fresh (lswPending_live fields live free) ?_ 0 f
  rw [flags]
  exact fun pending => fresh _ pending ⟨rfl, rfl⟩

theorem lswTrip_latch (left : s.fld Reg.LSW.RETRY.RETRY_LEFT n ≠ 0) {src : Nat} (fresh : Fresh s src n) (f : Bool) :
    (lswTrip s n ev cnt src f).bit Reg.LSW.STAT.TLATCH n = s.bit Reg.LSW.STAT.TLATCH n :=
  (bit_of_word ((lswTrip_recorded fields live free left fresh f).lsw _ n (by decide))).trans (lswPending_latch fields free)

theorem lswTrip_switchesOff (left : s.fld Reg.LSW.RETRY.RETRY_LEFT n ≠ 0) {src : Nat} (fresh : Fresh s src n) (f : Bool) :
    SwitchedOff s (lswTrip s n ev cnt src f) n := by
  have recorded := lswTrip_recorded fields live free left fresh f
  have shown (F : Field) (above : 0x50000 ≤ F.base) : (lswTrip s n ev cnt src f).bit F n = (lswPending s n ev cnt).bit F n :=
    bit_of_word (recorded.lsw F n above)
  refine ⟨?_, ?_, ?_, ?_, fun m other => ?_⟩
  · rw [recorded.rest]
    exact congrArg (fun v : Stores × List FaultFlag => v.1.2.2.2.1) (lswPending_unseen fields free (untripped_stands n))
  · rw [shown _ (by decide), lswPending_off free]
  · rw [shown _ (by decide), ← tripShown_asked fields, lswPending, bit_setBit_value _ n _ (by decide) rfl]
  · exact (fld_of_word (recorded.lsw _ n (by decide))).trans (fld_of_word (lswPending_unseen fields free (untripped_retry n)))
  · refine (recorded.lsw _ m (by decide)).trans (lswPending_unseen fields free (untripped_word ?_ ?_))
    · simp only [Field.off, Reg.LSW.STAT.REG]; omega
    · simp only [Field.off, Reg.LSW.STAT.REG, Reg.LSW.EVCOUNT.REG]; omega

end

/-! The commands -/

theorem gated_enabled {s : State} {b : By} (forced : Forced s b) (act : State → State) : gated s b act = act s := by
  simp [gated, forced.priv, forced.enabled]

/-- The state in which a thermal trip acts: the latch is set (R164). -/
def latched (s : State) (n : Nat) : State := s.setBit Reg.LSW.STAT.TLATCH n true

/-- From `s` to `u` at most the latch of channel `n` has been set. -/
structure Latches (s u : State) (n : Nat) : Prop where
  live : Live s → Live u
  chan : u.lswCh n = s.lswCh n
  left : u.fld Reg.LSW.RETRY.RETRY_LEFT n = s.fld Reg.LSW.RETRY.RETRY_LEFT n
  flags : u.flags = s.flags
  eff : u.eff = s.eff
  asked : lswAsked u n = lswAsked s n
  others : ∀ m, m ≠ n → u.word (Reg.LSW.STAT.REG.off m) = s.word (Reg.LSW.STAT.REG.off m)

theorem Latches.refl (s : State) (n : Nat) : Latches s s n := ⟨id, rfl, rfl, rfl, rfl, rfl, fun _ _ => rfl⟩

theorem latches_latched (s : State) (n : Nat) : Latches s (latched s n) n where
  live live := setFld_live live n _ (by decide)
  chan := lswCh_setBit ..
  left := fld_setFld_apart s n _ rfl (by decide)
  flags := rfl
  eff := rfl
  asked := lswAsked_setBit s (F := Reg.LSW.STAT.TLATCH) true (by decide) rfl rfl (by decide)
  others m other := word_setWord_ne s _ (by simp only [Field.off, Reg.LSW.STAT.REG, Reg.LSW.STAT.TLATCH]; omega)

/-- The command is a trip of channel `n` that raises `src`, acting in `s` itself or, a thermal one, with the latch set. -/
structure Trips (i : Instr) (s : State) (n src : Nat) (u : State) (ev cnt : Field) : Prop where
  runs : exec i s = .next (lswTrip u n ev cnt src false)
  fields : TripFields ev cnt
  start : Latches s u n
  latch : ∀ m, i = .overTemperatureTrip m → u.bit Reg.LSW.STAT.TLATCH n = true

theorem limitTimeout_trips {s : State} {n : Fin 96} (limits : s.bit Reg.LSW.STAT.IN_LIMIT n.val = true)
    (timed : s.effFld Reg.LSW.ILIM.TLIM n.val ≠ 0) :
    Trips (.limitTimeout n) s n.val Flt.LSW.LIMTO s Reg.LSW.STAT.EV_LIMTO Reg.LSW.EVCOUNT.LIMTO where
  runs := congrArg Host.Outcome.next (if_pos (by simp [limits, timed]))
  fields := tripFields_limit
  start := .refl s _
  latch := nofun

theorem hardShort_trips {s : State} {n : Fin 96} (on : s.bit Reg.LSW.STAT.ON n.val = true) :
    Trips (.hardShort n) s n.val Flt.LSW.SHORT s Reg.LSW.STAT.EV_SHORT Reg.LSW.EVCOUNT.SHORT where
  runs := congrArg Host.Outcome.next (if_pos on)
  fields := tripFields_short
  start := .refl s _
  latch := nofun

theorem overTemperature_trips {s : State} {n : Fin 96} (driven : s.allOff = false) :
    Trips (.overTemperatureTrip n) s n.val Flt.LSW.THERM (latched s n.val) Reg.LSW.STAT.EV_THERM Reg.LSW.EVCOUNT.THERM where
  runs := congrArg Host.Outcome.next (if_neg (by simp [driven]))
  fields := tripFields_thermal
  start := latches_latched s _
  latch _ _ := bit_setBit_true s n.val (by decide) rfl

/-- The forced trips act as the real ones (R179). -/
theorem lswForceTherm_trips {s : State} {b : By} (forced : Forced s b) (n : Fin 96) : exec (.lswForceTherm b n) s =
    .next (lswTrip (latched s n.val) n.val Reg.LSW.STAT.EV_THERM Reg.LSW.EVCOUNT.THERM Flt.LSW.THERM true) :=
  congrArg Host.Outcome.next (gated_enabled forced _)

theorem lswForceShort_trips {s : State} {b : By} (forced : Forced s b) (n : Fin 96) : exec (.lswForceShort b n) s =
    .next (lswTrip s n.val Reg.LSW.STAT.EV_SHORT Reg.LSW.EVCOUNT.SHORT Flt.LSW.SHORT true) :=
  congrArg Host.Outcome.next (gated_enabled forced _)

section
variable {s u : State} {n : Nat} {ev cnt : Field} (fields : TripFields ev cnt) (start : Latches s u n) (live : Live s) (calm : Calm s)
include start calm

theorem Latches.unarmed : (u.lswCh n).forceClamp = false := by
  rw [start.chan]
  exact calm.2 n

include fields live

theorem Latches.trip_flagged (left : s.fld Reg.LSW.RETRY.RETRY_LEFT n ≠ 0) (src : Nat) (f : Bool) : Flagged (lswTrip u n ev cnt src f) src n 0 :=
  lswTrip_flagged fields (start.live live) (start.unarmed calm) (start.left.trans_ne left) src f

end

section
variable {i : Instr} {s u : State} {n src : Nat} {ev cnt : Field} (trips : Trips i s n src u ev cnt) (live : Live s) (calm : Calm s)
include trips live calm

theorem Trips.raises (left : s.fld Reg.LSW.RETRY.RETRY_LEFT n ≠ 0) : Raises i s src n 0 :=
  ⟨_, trips.runs, trips.start.trip_flagged trips.fields live calm left src false⟩

theorem Trips.locks (left : s.fld Reg.LSW.RETRY.RETRY_LEFT n = 0) : Raises i s Flt.LSW.LOCKOUT n 1 :=
  ⟨_, trips.runs, lswTrip_locks trips.fields (trips.start.live live) (trips.start.unarmed calm) (trips.start.left.trans left) src false⟩

theorem Trips.switchesOff (left : s.fld Reg.LSW.RETRY.RETRY_LEFT n ≠ 0) (fresh : Fresh s src n) : Ends i s fun t =>
    SwitchedOff s t n ∧ ∀ m, i = .overTemperatureTrip m → t.bit Reg.LSW.STAT.TLATCH n = true := by
  obtain ⟨runs, fields, start, latch⟩ := trips
  have freshStart : Fresh u src n := by
    rw [Fresh, start.flags]
    exact fresh
  have liveStart := start.live live
  have unarmed := start.unarmed calm
  have leftStart := start.left.trans_ne left
  have cut := lswTrip_switchesOff fields liveStart unarmed leftStart freshStart false
  have kept := lswTrip_latch fields liveStart unarmed leftStart freshStart false
  exact ⟨_, runs, ⟨cut.eff.trans start.eff, cut.off, cut.pend.trans start.asked, cut.left.trans start.left,
    fun m other => (cut.others m other).trans (start.others m other)⟩, fun m thermal => kept.trans (latch m thermal)⟩

end

/-! Open loads, shorts to battery and clamp trips (R163, R171) -/

theorem openLoadOn_raises {s : State} {n : Fin 96} (live : Live s) (on : s.bit Reg.LSW.STAT.ON n.val = true)
    (level : s.effFld Reg.LSW.ILIM.IOL n.val ≠ 0) : Raises (.openLoadOn n) s Flt.LSW.OPEN n.val 0 := by
  have shown : Live (s.setBit Reg.LSW.STAT.EV_OPEN_ON n.val true) := setFld_live live _ _ (by decide)
  exact ⟨_, congrArg Host.Outcome.next (if_pos (by simp [lswConducts, on, level])), raiseFault_flagged shown ..⟩

theorem lswForceOpen_raises {s : State} {b : By} (forced : Forced s b) (n : Fin 96) (live : Live s) :
    Raises (.lswForceOpen b n) s Flt.LSW.OPEN n.val 0 := by
  refine ⟨_, congrArg Host.Outcome.next (gated_enabled forced _), ?_⟩
  refine raiseWith_flagged ?_ ..
  split
  · exact setFld_live (F := Reg.LSW.STAT.EV_OPEN_ON) live _ _ (by decide)
  · exact setFld_live (F := Reg.LSW.STAT.EV_OPEN_OFF) live _ _ (by decide)

/-- An off channel's output is measured. -/
def voutShown (s : State) (n : Nat) (vout : Int) : State := s.setFld Reg.LSW.VOUT.VALUE n (unsigned 12 (vout / 20))

theorem exec_offStateDiag {s : State} {n : Fin 96} (vout : Int) (diag : s.effBit Reg.LSW.CFG.OFFDIAG n.val = true)
    (off : s.bit Reg.LSW.STAT.ON n.val = false) (driven : s.allOff = false) : exec (.offStateDiag n vout) s = .next
      (if 6000 < vout then raiseFault ((voutShown s n.val vout).setBit Reg.LSW.STAT.EV_STB n.val true) Flt.LSW.STB n.val 0
      else if 1500 ≤ vout then raiseFault ((voutShown s n.val vout).setBit Reg.LSW.STAT.EV_OPEN_OFF n.val true) Flt.LSW.OPEN n.val 0
      else voutShown s n.val vout) :=
  congrArg Host.Outcome.next (if_pos (by simp [diag, off, driven]))

theorem voutShown_live {s : State} (live : Live s) (n : Nat) (vout : Int) (F : Field) (above : 0x30000 < F.base) :
    Live ((voutShown s n vout).setBit F n true) :=
  setFld_live (setFld_live live n _ (by decide)) n _ above

/-- Raises that wait are taken: the first of them sets its flag. -/
theorem settleRaises_flagged {s : State} {r : Raise} {q : List Raise} (up : s.collectorUp = true)
    (ht : s.bit Reg.FAULT.STATUS.TERMINAL 0 = false) (waits : s.raiseQ = r :: q) : Flagged (settleRaises s) r.src r.unit r.cls := by
  rw [settleRaises, drainRaises, waits]
  exact (drainRaises_raised 255 _).flags (raiseOne_flagged (s := { s with raiseQ := q }) r up ht)

/-- STAT and FW show a clamp trip. -/
def clampShown (s : State) (n : Nat) : State := (s.setBit Reg.LSW.STAT.EV_FWFAIL n true).setBit Reg.LSW.FW.FW_OK n false

/-- The channel is held off behind it, and no trip is armed. -/
def clampHeld (s : State) (n : Nat) : State :=
  (clampShown s n).setLsw n { (clampShown s n).lswCh n with clampHold := true, forceClamp := false }

theorem clampTrip_eq (s : State) (n : Nat) (f : Bool) : clampTrip s n f = (clampHeld s n).ask Flt.LSW.FREEWHEEL n 1 f := rfl

theorem lswCh_ask (s : State) (src unit cls m : Nat) (f : Bool) : (s.ask src unit cls f).lswCh m = s.lswCh m := rfl

theorem clampTrip_unarmed (s : State) (n : Nat) (f : Bool) : ((clampTrip s n f).lswCh n).forceClamp = false := by
  rw [clampTrip_eq, lswCh_ask, clampHeld, lswCh_setLsw_same]

theorem clampHeld_live {s : State} (live : Live s) (n : Nat) : Live (clampHeld s n) :=
  (setFld_live (setFld_live live n _ (by decide)) n _ (by decide)).of_view ((untripped_collector n).chan _ _)

/-- A raise that is asked for where nothing else waits. -/
theorem ask_collectorView {s : State} (live : Live s) (src unit cls : Nat) (f : Bool) : collectorView (s.ask src unit cls f) =
    (true, false, [{ src := src, unit := unit, cls := cls, detail := 0, count := s.now, forced := f }]) := by
  show (s.collectorUp, s.bit Reg.FAULT.STATUS.TERMINAL 0, s.raiseQ ++ [_]) = _
  rw [live.up, live.open', live.quiet, List.nil_append]

theorem clampTrip_raises {s : State} {n : Fin 96} (live : Live s) : Raises (.clampTrip n) s Flt.LSW.FREEWHEEL n.val 1 := by
  have asked := ask_collectorView (clampHeld_live live n.val) Flt.LSW.FREEWHEEL n.val 1 false
  rw [← clampTrip_eq] at asked
  have view := (lswApply_unseen (unswitched_collector n.val) (clampTrip_unarmed s n.val false)).trans asked
  simp only [collectorView, Prod.mk.injEq] at view
  obtain ⟨up, open', waits⟩ := view
  exact ⟨_, rfl, settleRaises_flagged up open' waits⟩

/-- Settles O22: a trip raises its source (`Trips.raises`) and switches off behind the committed command (`Trips.switchesOff`), or
locks the channel (`Trips.locks`); the other protections set their flag in the state that shows them. -/
theorem loadSwitchProtections : Obligations.LoadSwitchProtections := by
  unfold Obligations.LoadSwitchProtections
  refine ⟨fun s n live calm => ⟨fun left => ⟨fun limits timed => ?_, fun on => ?_, fun driven => ?_, fun b forced => ⟨?_, ?_⟩⟩,
    fun on level => openLoadOn_raises live on level, fun vout diag off driven => ⟨fun high => ?_, fun above below => ?_, fun low => ?_⟩,
    clampTrip_raises live, fun b forced => lswForceOpen_raises forced n live⟩, fun s n i src trip live calm fresh => ?_⟩
  · exact (limitTimeout_trips limits timed).raises live calm left
  · exact (hardShort_trips on).raises live calm left
  · exact (overTemperature_trips driven).raises live calm left
  · exact ⟨_, lswForceTherm_trips forced n, (latches_latched s n.val).trip_flagged tripFields_thermal live calm left _ true⟩
  · exact ⟨_, lswForceShort_trips forced n, (Latches.refl s n.val).trip_flagged tripFields_short live calm left _ true⟩
  · refine ⟨_, exec_offStateDiag vout diag off driven, ?_⟩
    rw [if_pos high]
    exact raiseFault_flagged (voutShown_live live _ vout _ (by decide)) ..
  · refine ⟨_, exec_offStateDiag vout diag off driven, ?_⟩
    rw [if_neg (by omega), if_pos above]
    exact raiseFault_flagged (voutShown_live live _ vout _ (by decide)) ..
  · refine ⟨_, exec_offStateDiag vout diag off driven, ?_⟩
    rw [if_neg (by omega), if_neg (by omega)]
    exact ⟨rfl, rfl⟩
  · have trips : ∃ u ev cnt, Trips i s n.val src u ev cnt := by
      obtain ⟨rfl, rfl, limits, timed⟩ | ⟨rfl, rfl, on⟩ | ⟨rfl, rfl, driven⟩ := trip
      · exact ⟨_, _, _, limitTimeout_trips limits timed⟩
      · exact ⟨_, _, _, hardShort_trips on⟩
      · exact ⟨_, _, _, overTemperature_trips driven⟩
    obtain ⟨u, ev, cnt, trips⟩ := trips
    refine ⟨fun left => ?_, fun none' => trips.locks live calm none'⟩
    obtain ⟨t, runs, cut, latch⟩ := trips.switchesOff live calm left fresh
    exact ⟨t, runs, cut.eff, cut.off, cut.pend, latch n, cut.left, fun m _ other => cut.others m other⟩

/-! ### Restarts and refills (R166, R167) -/

theorem unswitched_queue (n : Nat) : Unswitched State.raiseQ n :=
  ⟨fun _ _ => rfl, fun _ _ => rfl, fun _ _ => rfl, fun _ _ _ => rfl, fun _ _ _ => rfl⟩

theorem unswitched_now (n : Nat) : Unswitched State.now n :=
  ⟨fun _ _ => rfl, fun _ _ => rfl, fun _ _ => rfl, fun _ _ _ => rfl, fun _ _ _ => rfl⟩

theorem unswitched_effBit (F : Field) (m n : Nat) : Unswitched (fun s => s.effBit F m) n :=
  ⟨fun _ _ => rfl, fun _ _ => rfl, fun _ _ => rfl, fun _ _ _ => rfl, fun _ _ _ => rfl⟩

theorem unswitched_bit {F : Field} {m n : Nat} (other : F.off m ≠ Reg.LSW.STAT.REG.off n) : Unswitched (fun s => s.bit F m) n :=
  (unswitched_fld other).comp (· != 0)

/-- Where nothing waits and no clamp trip is armed, bringing the switch to what it should do raises nothing. -/
theorem settle_lswApply {s : State} {n : Nat} (quiet : s.raiseQ = []) (free : (s.lswCh n).forceClamp = false) :
    settleRaises (lswApply s n) = lswApply s n :=
  settleRaises_of_quiet ((lswApply_unseen (unswitched_queue n) free).trans quiet)

/-- The count at which a restart is due. -/
def retryDue (s : State) (n : Nat) : Nat := (s.lswCh n).offAt + max (s.effFld Reg.LSW.RETRY.TRETRY n) 1 * 100000

/-- A retry is used up. -/
def retrySpent (s : State) (n : Nat) : State :=
  (s.reach (retryDue s n)).setFld Reg.LSW.RETRY.RETRY_LEFT n ((s.reach (retryDue s n)).fld Reg.LSW.RETRY.RETRY_LEFT n - 1)

/-- The restart is counted and pends no longer. -/
def retryShown (s : State) (n : Nat) : State :=
  ((retrySpent s n).satAdd Reg.LSW.EVCOUNT.RETRIES n 1).setBit Reg.LSW.STAT.RETRY_PEND n false

/-- The channel is no longer cut off, and no inrush window runs. -/
def retryBegun (s : State) (n : Nat) : State := (retryShown s n).setLsw n { s.lswCh n with prot := false, win := false }

theorem exec_retryRestart {s : State} {n : Fin 96} (cut : (s.lswCh n.val).prot = true) (unlocked : s.bit Reg.LSW.STAT.LOCKED n.val = false)
    (cool : s.bit Reg.LSW.STAT.TLATCH n.val = false) (left : s.fld Reg.LSW.RETRY.RETRY_LEFT n.val ≠ 0) :
    exec (.retryRestart n) s = .next (settleRaises (lswApply (retryBegun s n.val) n.val)) := by
  show execRetryRestart n s = _
  unfold execRetryRestart
  exact if_pos (by simp [cut, unlocked, cool, left])

theorem retryBegun_left (s : State) (n : Nat) :
    (retryBegun s n).fld Reg.LSW.RETRY.RETRY_LEFT n = s.fld Reg.LSW.RETRY.RETRY_LEFT n - 1 := by
  have small : s.fld Reg.LSW.RETRY.RETRY_LEFT n < 2 ^ Reg.LSW.RETRY.RETRY_LEFT.len := getBits_lt ..
  have spent : (retrySpent s n).fld Reg.LSW.RETRY.RETRY_LEFT n = s.fld Reg.LSW.RETRY.RETRY_LEFT n - 1 := by
    rw [retrySpent, fld_setFld_same _ _ _ _ (by decide), fld_reach]
    exact Nat.mod_eq_of_lt (by omega)
  rw [retryBegun, fld_setLsw, retryShown, State.setBit,
    fld_setFld_apart (F := Reg.LSW.STAT.RETRY_PEND) (G := Reg.LSW.RETRY.RETRY_LEFT) _ n _ rfl (by decide), State.satAdd,
    fld_setFld_apart (F := Reg.LSW.EVCOUNT.RETRIES) (G := Reg.LSW.RETRY.RETRY_LEFT) _ n _ rfl (by decide), spent]

theorem retryBegun_now (s : State) (n : Nat) : (retryBegun s n).now = max s.now (retryDue s n) := rfl

theorem retryBegun_queue (s : State) (n : Nat) : (retryBegun s n).raiseQ = s.raiseQ := rfl

theorem retryRestart_ends {s : State} {n : Fin 96} (calm : Calm s) (cut : (s.lswCh n.val).prot = true)
    (unlocked : s.bit Reg.LSW.STAT.LOCKED n.val = false) (cool : s.bit Reg.LSW.STAT.TLATCH n.val = false)
    (left : s.fld Reg.LSW.RETRY.RETRY_LEFT n.val ≠ 0) : Ends (.retryRestart n) s fun t =>
      t.fld Reg.LSW.RETRY.RETRY_LEFT n.val + 1 = s.fld Reg.LSW.RETRY.RETRY_LEFT n.val ∧ t.bit Reg.LSW.STAT.RETRY_PEND n.val = false ∧
      (t.lswCh n.val).prot = false ∧ retryDue s n.val ≤ t.now := by
  obtain ⟨quiet, free⟩ := calm
  have unarmed : ((retryBegun s n.val).lswCh n.val).forceClamp = false := by
    rw [retryBegun, lswCh_setLsw_same]
    exact free n.val
  have kept {β : Type} {g : State → β} (h : Unswitched g n.val) := lswApply_unseen h unarmed
  refine ⟨_, exec_retryRestart cut unlocked cool left, ?_⟩
  rw [settle_lswApply ((retryBegun_queue s n.val).trans quiet) unarmed]
  refine ⟨?_, ?_, ?_, ?_⟩
  · have spent := (kept (unswitched_fld (F := Reg.LSW.RETRY.RETRY_LEFT) (off_ne n.val (by decide) rfl))).trans (retryBegun_left s n.val)
    omega
  · have pend := (kept ((unswitched_stat (F := Reg.LSW.STAT.RETRY_PEND) ⟨rfl, rfl, by decide⟩ n.val).comp (· != 0)))
    refine pend.trans ?_
    show (retryBegun s n.val).bit Reg.LSW.STAT.RETRY_PEND n.val = false
    rw [retryBegun, bit_setLsw, retryShown, bit_setBit_same _ _ _ (by decide)]
  · refine (kept (unswitched_chan (f := LswCh.prot) (fun _ _ _ => rfl) n.val n.val)).trans ?_
    rw [retryBegun, lswCh_setLsw_same]
  · rw [kept (unswitched_now n.val), retryBegun_now]
    exact Nat.le_max_right ..

theorem exec_retryRefill {s : State} {n : Fin 96} (refills : s.effFld Reg.LSW.RETRY.REFILL n.val ≠ 0)
    (on : s.bit Reg.LSW.STAT.ON n.val = true) : exec (.retryRefill n) s =
      .next (lswRefill (s.later (s.effFld Reg.LSW.RETRY.REFILL n.val * 10000000 - lswOnTime s n.val)) n.val) := by
  have needed : ¬(s.effFld Reg.LSW.RETRY.REFILL n.val * 10000000 = 0 ∨ (!s.bit Reg.LSW.STAT.ON n.val) = true) := by
    simp [refills, on]
  show execRetryRefill n s = _
  rw [execRetryRefill]
  exact if_neg needed

theorem lswRefill_refills (s : State) (n : Nat) : let t := lswRefill s n
    t.fld Reg.LSW.RETRY.RETRY_LEFT n = s.effFld Reg.LSW.RETRY.RETRY_MAX n ∧ (t.lswCh n).onTime = 0 := by
  have small : s.effFld Reg.LSW.RETRY.RETRY_MAX n < 2 ^ Reg.LSW.RETRY.RETRY_LEFT.len := getBits_lt ..
  intro t
  refine ⟨?_, ?_⟩
  · simp only [t, lswRefill]
    rw [fld_setLsw, fld_setFld_same _ _ _ _ (by decide), Nat.mod_eq_of_lt small]
  · simp only [t, lswRefill, lswCh_setLsw_same]

theorem effFld_later (s : State) (d : Nat) (F : Field) (n : Nat) : (s.later d).effFld F n = s.effFld F n := rfl

theorem retryRefill_ends {s : State} {n : Fin 96} (refills : s.effFld Reg.LSW.RETRY.REFILL n.val ≠ 0)
    (on : s.bit Reg.LSW.STAT.ON n.val = true) : Ends (.retryRefill n) s fun t =>
      t.fld Reg.LSW.RETRY.RETRY_LEFT n.val = s.effFld Reg.LSW.RETRY.RETRY_MAX n.val ∧ (t.lswCh n.val).onTime = 0 := by
  refine ⟨_, exec_retryRefill refills on, ?_⟩
  have refilled := lswRefill_refills (s.later (s.effFld Reg.LSW.RETRY.REFILL n.val * 10000000 - lswOnTime s n.val)) n.val
  rw [effFld_later] at refilled
  exact refilled

theorem reload_ends (s : State) (n : Fin 96) : Ends (.reload n) s fun t => (t.lswCh n.val).reload = 1 ∧ t.regs = s.regs ∧ t.eff = s.eff :=
  ⟨_, rfl, by rw [lswCh_setLsw_same], rfl, rfl⟩

theorem lswForceClamp_ends {s : State} {b : By} (forced : Forced s b) (n : Fin 96) :
    Ends (.lswForceClamp b n) s fun t => (t.lswCh n.val).forceClamp = true ∧ t.regs = s.regs :=
  ⟨_, congrArg Host.Outcome.next (gated_enabled forced _), by rw [lswCh_setLsw_same], rfl⟩

/-! ### Free-wheel tests (R170) -/

theorem effFld_setEff_same (s : State) (F : Field) (n v : Nat) (hF : F.lo + F.len ≤ 32) : (s.setEff F n v).effFld F n = v % 2 ^ F.len := by
  rw [State.effFld, State.setEff, effWord_setEffWord_same, getBits_putBits_same _ _ hF]

theorem effFld_setEff_neighbour (s : State) {F G : Field} (n v : Nat) (hF : F.lo + F.len ≤ 32) (base : G.base = F.base)
    (stride : G.stride = F.stride) (apart : G.lo + G.len ≤ F.lo ∨ F.lo + F.len ≤ G.lo) : (s.setEff F n v).effFld G n = s.effFld G n := by
  have off : G.off n = F.off n := by rw [Field.off, Field.off, base, stride]
  rw [State.effFld, State.setEff, off, effWord_setEffWord_same, getBits_putBits_beside _ _ hF apart, State.effFld, off]

theorem effBit_setLsw (s : State) (n m : Nat) (c : LswCh) (F : Field) : (s.setLsw n c).effBit F m = s.effBit F m := rfl

theorem bit_setEff (s : State) (F G : Field) (n m v : Nat) : (s.setEff F n v).bit G m = s.bit G m := rfl

theorem fwStat_apart (n : Nat) : Reg.LSW.FW.REG.off n ≠ Reg.LSW.STAT.REG.off n :=
  off_ne n (by decide) rfl

/-- A committed FWTEST is taken. -/
def fwTaken (s : State) (n : Nat) : State := s.setEff Reg.LSW.CTRL.FWTEST n 0

/-- The test's pulse begins. -/
def fwBegun (s : State) (n : Nat) : State :=
  ((fwTaken s n).setLsw n { (fwTaken s n).lswCh n with fwBusy := true }).setBit Reg.LSW.FW.FW_BUSY n true

/-- A test is not started on a channel that is held over, locked or hot. -/
def fwBarred (s : State) (n : Nat) : Bool :=
  s.bit Reg.LSW.STAT.HOLDOVER n || s.bit Reg.LSW.STAT.LOCKED n || s.bit Reg.LSW.STAT.TLATCH n

theorem lswCh_fwTaken (s : State) (n m : Nat) : (fwTaken s n).lswCh m = s.lswCh m := rfl

theorem fwTaken_en (s : State) (n : Nat) : (fwTaken s n).effBit Reg.LSW.CTRL.EN n = s.effBit Reg.LSW.CTRL.EN n := by
  rw [State.effBit, fwTaken, effFld_setEff_neighbour (F := Reg.LSW.CTRL.FWTEST) (G := Reg.LSW.CTRL.EN) s n 0 (by decide) rfl rfl (by decide),
    State.effBit]

theorem fwTaken_request (s : State) (n : Nat) : (fwTaken s n).effBit Reg.LSW.CTRL.FWTEST n = false := by
  rw [State.effBit, fwTaken, effFld_setEff_same _ _ _ _ (by decide)]
  rfl

theorem exec_fwTest {s : State} {n : Fin 96} (asked : s.effBit Reg.LSW.CTRL.FWTEST n.val = true)
    (off : s.effBit Reg.LSW.CTRL.EN n.val = false) : exec (.fwTest n) s =
      if fwBarred s n.val then .next ((fwTaken s n.val).setFld Reg.LSW.FW.FW_RESULT n.val 3)
      else .next (settleRaises (lswApply (fwBegun s n.val) n.val)) := by
  have still : ¬(fwTaken s n.val).effBit Reg.LSW.CTRL.EN n.val = true := by rw [fwTaken_en, off]; exact Bool.false_ne_true
  show execFwTest n s = _
  unfold execFwTest
  rw [if_neg (by simp [asked])]
  exact if_neg still

theorem fwTest_ends {s : State} {n : Fin 96} (calm : Calm s) (asked : s.effBit Reg.LSW.CTRL.FWTEST n.val = true)
    (off : s.effBit Reg.LSW.CTRL.EN n.val = false) : Ends (.fwTest n) s fun t => t.effBit Reg.LSW.CTRL.FWTEST n.val = false ∧
      if fwBarred s n.val then t.fld Reg.LSW.FW.FW_RESULT n.val = 3
      else t.bit Reg.LSW.FW.FW_BUSY n.val = true ∧ (t.lswCh n.val).fwBusy = true := by
  obtain ⟨quiet, free⟩ := calm
  have run := exec_fwTest asked off
  by_cases barred : fwBarred s n.val = true
  · rw [if_pos barred] at run
    refine ⟨_, run, fwTaken_request s n.val, ?_⟩
    rw [if_pos barred, fld_setFld_same _ _ _ _ (by decide)]
    rfl
  · have chan : (fwBegun s n.val).lswCh n.val = { (fwTaken s n.val).lswCh n.val with fwBusy := true } := by
      rw [fwBegun, lswCh_setBit, lswCh_setLsw_same]
    have unarmed : ((fwBegun s n.val).lswCh n.val).forceClamp = false := by
      rw [chan, lswCh_fwTaken, free]
    have waits : (fwBegun s n.val).raiseQ = [] := quiet
    have kept {β : Type} {g : State → β} (h : Unswitched g n.val) := lswApply_unseen h unarmed
    rw [if_neg barred, settle_lswApply waits unarmed] at run
    refine ⟨_, run, ?_, ?_⟩
    · rw [kept (unswitched_effBit _ _ _), fwBegun, setBit_effBit, effBit_setLsw, fwTaken_request]
    · rw [if_neg barred]
      refine ⟨?_, ?_⟩
      · refine (kept (unswitched_bit (F := Reg.LSW.FW.FW_BUSY) (fwStat_apart n.val))).trans ?_
        exact bit_setBit_true _ n.val (by decide) rfl
      · refine (kept (unswitched_chan (f := LswCh.fwBusy) (fun _ _ _ => rfl) n.val n.val)).trans ?_
        rw [chan]

/-! The end of a test -/

/-- The pulse is over. -/
def fwOver (s : State) (n : Nat) : State :=
  (s.setLsw n { s.lswCh n with fwBusy := false }).setBit Reg.LSW.FW.FW_BUSY n false

/-- The pulse is over and the output has been watched for 5 µs. -/
def fwPulsed (s : State) (n : Nat) : State :=
  (lswApply (fwOver (s.later (max (s.effFld Reg.LSW.FW.FW_PULSE n) 4 * 100)) n) n).later 500

/-- FW and STAT show a failed test. -/
def fwFailed (s : State) (n : Nat) : State :=
  (s.setFld Reg.LSW.FW.FW_RESULT n 2).setFlds [(Reg.LSW.FW.FW_OK, n, 0), (Reg.LSW.STAT.EV_FWFAIL, n, 1)]

/-- FW shows a test that decides nothing; the path stays verified or not. -/
def fwUnsure (s : State) (n : Nat) (ok : Bool) : State := (s.setFld Reg.LSW.FW.FW_RESULT n 3).setBit Reg.LSW.FW.FW_OK n ok

/-- FW shows a passed test, and a clamp trip holds the channel off no longer. -/
def fwVerified (s : State) (n : Nat) : State :=
  ((s.setFld Reg.LSW.FW.FW_RESULT n 1).setBit Reg.LSW.FW.FW_OK n true).setLsw n { s.lswCh n with clampHold := false }

/-- A passed test, behind which the switch is brought to what it should do. -/
def fwPassed (s : State) (n : Nat) : State := lswApply (fwVerified s n) n

/-- Above -0.2 V with enough current the spec leaves the result open. -/
def fwOpen (s : State) (n : Nat) (ok : Bool) : State :=
  if s.free.1 % 3 = 0 then fwPassed s.free.2 n else if s.free.1 % 3 = 1 then fwFailed s.free.2 n else fwUnsure s.free.2 n ok

/-- The state behind a test's result, from the output's minimum in mV and the current at the end of the pulse (R170). -/
def fwResult (s : State) (n : Nat) (ok : Bool) (vmin : Int) (current : Nat) : State :=
  if vmin < -2500 then fwFailed s n
  else if current < lswFwMin n then fwUnsure s n ok
  else if vmin ≤ -200 then fwPassed s n
  else fwOpen s n ok

theorem exec_fwTestEnd {s : State} {n : Fin 96} (busy : s.bit Reg.LSW.FW.FW_BUSY n.val = true)
    (free : (s.lswCh n.val).forceClamp = false) (vmin : Int) (current : Nat) : exec (.fwTestEnd n vmin current) s =
      .next (settleRaises (fwResult (fwPulsed s n.val) n.val (s.bit Reg.LSW.FW.FW_OK n.val) vmin current)) := by
  show execFwTestEnd n vmin current s = _
  unfold execFwTestEnd
  rw [if_neg (by simp [busy])]
  extract_lets u okBefore armed v w fail unsure pass x
  have unarmed : armed = false := free
  unfold fwResult
  by_cases low : vmin < -2500
  · rw [if_pos (.inr low), if_pos low]
    rfl
  · rw [if_neg (by simp [unarmed, low]), if_neg low]
    by_cases weak : current < lswFwMin n.val
    · rw [if_pos weak, if_pos weak]
      rfl
    · rw [if_neg weak, if_neg weak]
      by_cases pulled : vmin ≤ -200
      · rw [if_pos pulled, if_pos pulled]
        rfl
      · rw [if_neg pulled, if_neg pulled]
        rfl

/-- From `s` to `t` FW has come to show a result and whether the path is verified, and nothing waits to be raised that did not. -/
structure FwShows (s t : State) (n result : Nat) (ok : Bool) : Prop where
  busy : t.bit Reg.LSW.FW.FW_BUSY n = s.bit Reg.LSW.FW.FW_BUSY n
  result : t.fld Reg.LSW.FW.FW_RESULT n = result
  ok : t.bit Reg.LSW.FW.FW_OK n = ok
  queue : t.raiseQ = s.raiseQ

theorem FwShows.congr {s t u : State} {n result : Nat} {ok : Bool} (h : FwShows s t n result ok)
    (word : u.word (Reg.LSW.FW.REG.off n) = t.word (Reg.LSW.FW.REG.off n)) (queue : u.raiseQ = t.raiseQ) : FwShows s u n result ok where
  busy := (bit_of_word (F := Reg.LSW.FW.FW_BUSY) word).trans h.busy
  result := (fld_of_word (F := Reg.LSW.FW.FW_RESULT) word).trans h.result
  ok := (bit_of_word (F := Reg.LSW.FW.FW_OK) word).trans h.ok
  queue := queue.trans h.queue

theorem fwWritten_shows (s : State) (n : Nat) {r : Nat} (small : r < 4) (ok : Bool) :
    FwShows s ((s.setFld Reg.LSW.FW.FW_RESULT n r).setBit Reg.LSW.FW.FW_OK n ok) n r ok where
  busy := by
    rw [bit_setBit_neighbour (F := Reg.LSW.FW.FW_OK) (G := Reg.LSW.FW.FW_BUSY) _ n ok (by decide) rfl rfl (by decide), State.bit,
      fld_setFld_neighbour (F := Reg.LSW.FW.FW_RESULT) (G := Reg.LSW.FW.FW_BUSY) s n r (by decide) rfl rfl (by decide), State.bit]
  result := by
    rw [State.setBit, fld_setFld_neighbour (F := Reg.LSW.FW.FW_OK) (G := Reg.LSW.FW.FW_RESULT) _ n _ (by decide) rfl rfl (by decide),
      fld_setFld_same _ _ _ _ (by decide)]
    exact Nat.mod_eq_of_lt small
  ok := bit_setBit_value _ n ok (by decide) rfl
  queue := rfl

theorem fwFailed_shows (s : State) (n : Nat) : FwShows s (fwFailed s n) n 2 false := by
  show FwShows s (((s.setFld Reg.LSW.FW.FW_RESULT n 2).setBit Reg.LSW.FW.FW_OK n false).setFld Reg.LSW.STAT.EV_FWFAIL n 1) n 2 false
  exact (fwWritten_shows s n (by decide) false).congr (word_setWord_ne _ _ (fwStat_apart n)) (State.setFld_raiseQ ..)

theorem fwVerified_unarmed {s : State} {n : Nat} (free : (s.lswCh n).forceClamp = false) :
    ((fwVerified s n).lswCh n).forceClamp = false := by
  rw [fwVerified, lswCh_setLsw_same]
  exact free

theorem fwPassed_shows {s : State} {n : Nat} (free : (s.lswCh n).forceClamp = false) : FwShows s (fwPassed s n) n 1 true :=
  (fwWritten_shows s n (by decide) true).congr (lswApply_unseen (unswitched_word (fwStat_apart n)) (fwVerified_unarmed free))
    (lswApply_unseen (unswitched_queue n) (fwVerified_unarmed free))

theorem fwOpen_shows {s : State} {n : Nat} (free : (s.lswCh n).forceClamp = false) (ok : Bool) :
    ∃ r ok', FwShows s (fwOpen s n ok) n r ok' := by
  have same {t : State} {r : Nat} {ok' : Bool} (h : FwShows s.free.2 t n r ok') : FwShows s t n r ok' := ⟨h.busy, h.result, h.ok, h.queue⟩
  unfold fwOpen
  split
  · exact ⟨1, true, same (fwPassed_shows free)⟩
  · split
    · exact ⟨2, false, same (fwFailed_shows _ n)⟩
    · exact ⟨3, ok, same (fwWritten_shows _ n (by decide) ok)⟩

/-- The result of a test by the output's minimum and the current at the end of the pulse. -/
theorem fwResult_shows {s : State} {n : Nat} (free : (s.lswCh n).forceClamp = false) (ok : Bool) (vmin : Int) (current : Nat) :
    ∃ r ok', FwShows s (fwResult s n ok vmin current) n r ok' ∧ (vmin < -2500 → r = 2 ∧ ok' = false) ∧
      (-2500 ≤ vmin → current < lswFwMin n → r = 3 ∧ ok' = ok) ∧
      (-2500 ≤ vmin → vmin ≤ -200 → lswFwMin n ≤ current → r = 1 ∧ ok' = true) := by
  unfold fwResult
  split
  · next low =>
    exact ⟨2, false, fwFailed_shows s n, fun _ => ⟨rfl, rfl⟩, fun high => absurd low (by omega), fun high => absurd low (by omega)⟩
  · next high =>
    split
    · next weak =>
      exact ⟨3, ok, fwWritten_shows s n (by decide) ok, fun low => absurd low high, fun _ _ => ⟨rfl, rfl⟩,
        fun _ _ strong => absurd weak (by omega)⟩
    · next strong =>
      split
      · exact ⟨1, true, fwPassed_shows free, fun low => absurd low high, fun _ weak => absurd weak strong, fun _ _ _ => ⟨rfl, rfl⟩⟩
      · next above =>
        obtain ⟨r, ok', shows'⟩ := fwOpen_shows free ok
        exact ⟨r, ok', shows', fun low => absurd low high, fun _ weak => absurd weak strong, fun _ pulled => absurd pulled above⟩

section
variable {s : State} {n : Nat} (free : (s.lswCh n).forceClamp = false)
include free

theorem fwOver_unarmed (d : Nat) : ((fwOver (s.later d) n).lswCh n).forceClamp = false := by
  rw [fwOver, lswCh_setBit, lswCh_setLsw_same]
  exact free

theorem fwPulsed_unseen {β : Type} {g : State → β} (h : Unswitched g n) (blind : ∀ t d, g (State.later t d) = g t) :
    ∃ d, g (fwPulsed s n) = g (fwOver (s.later d) n) :=
  ⟨_, (blind _ 500).trans (lswApply_unseen h (fwOver_unarmed free _))⟩

theorem fwPulsed_unarmed : ((fwPulsed s n).lswCh n).forceClamp = false := by
  obtain ⟨d, kept⟩ := fwPulsed_unseen free (unswitched_armed n n) fun _ _ => rfl
  exact kept.trans (fwOver_unarmed free d)

theorem fwPulsed_queue : (fwPulsed s n).raiseQ = s.raiseQ := by
  obtain ⟨d, kept⟩ := fwPulsed_unseen free (unswitched_queue n) fun _ _ => rfl
  exact kept

theorem fwPulsed_shows : (fwPulsed s n).bit Reg.LSW.FW.FW_BUSY n = false ∧
    (fwPulsed s n).bit Reg.LSW.FW.FW_OK n = s.bit Reg.LSW.FW.FW_OK n := by
  obtain ⟨d, word⟩ := fwPulsed_unseen free (unswitched_word (fwStat_apart n)) fun _ _ => rfl
  refine ⟨(bit_of_word (F := Reg.LSW.FW.FW_BUSY) word).trans (bit_setBit_same _ _ n (by decide)),
    (bit_of_word (F := Reg.LSW.FW.FW_OK) word).trans ?_⟩
  rw [fwOver, bit_setBit_neighbour (F := Reg.LSW.FW.FW_BUSY) (G := Reg.LSW.FW.FW_OK) _ n false (by decide) rfl rfl (by decide), bit_setLsw]
  rfl

end

theorem fwTestEnd_ends {s : State} {n : Fin 96} (calm : Calm s) (busy : s.bit Reg.LSW.FW.FW_BUSY n.val = true) (vmin : Int) (current : Nat) :
    Ends (.fwTestEnd n vmin current) s fun t => t.bit Reg.LSW.FW.FW_BUSY n.val = false ∧
      (vmin < -2500 → t.fld Reg.LSW.FW.FW_RESULT n.val = 2 ∧ t.bit Reg.LSW.FW.FW_OK n.val = false) ∧
      (-2500 ≤ vmin → current < lswFwMin n.val →
        t.fld Reg.LSW.FW.FW_RESULT n.val = 3 ∧ t.bit Reg.LSW.FW.FW_OK n.val = s.bit Reg.LSW.FW.FW_OK n.val) ∧
      (-2500 ≤ vmin → vmin ≤ -200 → lswFwMin n.val ≤ current →
        t.fld Reg.LSW.FW.FW_RESULT n.val = 1 ∧ t.bit Reg.LSW.FW.FW_OK n.val = true) := by
  obtain ⟨quiet, free⟩ := calm
  have run := exec_fwTestEnd busy (free n.val) vmin current
  obtain ⟨ended, -⟩ := fwPulsed_shows (free n.val)
  obtain ⟨r, ok, shows', failed, unsure, passed⟩ :=
    fwResult_shows (fwPulsed_unarmed (free n.val)) (s.bit Reg.LSW.FW.FW_OK n.val) vmin current
  have waits := shows'.queue.trans ((fwPulsed_queue (free n.val)).trans quiet)
  rw [settleRaises_of_quiet waits] at run
  refine ⟨_, run, shows'.busy.trans ended, ?_⟩
  rw [shows'.result, shows'.ok]
  exact ⟨failed, unsure, passed⟩

/-! ### The limiter and direct inputs (R150, R161) -/

theorem currentLimit_ends (s : State) (n : Fin 96) (limiting : Bool) : Ends (.currentLimit n limiting) s fun t =>
    t.bit Reg.LSW.STAT.IN_LIMIT n.val = (limiting && s.bit Reg.LSW.STAT.ON n.val) ∧
    (∀ o, o ≠ Reg.LSW.STAT.REG.off n.val → t.word o = s.word o) :=
  ⟨_, rfl, bit_setBit_value s n.val _ (by decide) rfl, fun _ other => word_setWord_ne s _ other⟩

/-- The levels of the direct inputs behind an edge at one of them. -/
def dinLevel (old pin : Nat) (level : Bool) : Nat := if level then old ||| 2 ^ pin else old &&& (2 ^ 24 - 1 - 2 ^ pin)

theorem dinLevel_testBit (old : Nat) {pin q : Nat} (hp : pin < 24) (hq : q < 24) (level : Bool) :
    (dinLevel old pin level).testBit q = if q = pin then level else old.testBit q := by
  cases level with
  | true =>
    rw [dinLevel, if_pos rfl, Nat.testBit_or, Nat.testBit_two_pow]
    by_cases same : q = pin
    · simp [same]
    · simp [same, Ne.symm same]
  | false =>
    have small : 2 ^ pin < 2 ^ 24 := Nat.pow_lt_pow_right (by decide) hp
    have mask : 2 ^ 24 - 1 - 2 ^ pin = 2 ^ 24 - (2 ^ pin + 1) := by omega
    rw [dinLevel, if_neg Bool.false_ne_true, Nat.testBit_and, mask, Nat.testBit_two_pow_sub_succ small, Nat.testBit_two_pow]
    by_cases same : q = pin
    · simp [same]
    · simp [same, Ne.symm same, hq]

/-- A channel that follows the pin takes its level. -/
def dinFollow (pin : Nat) (s : State) (n : Nat) : State :=
  if s.effFld Reg.LSW.CFG.DIN n = pin then lswApply (s.setBit Reg.LSW.STAT.DIN_ACTIVE n (dinActive s n)) n else s

theorem exec_dinEdge (s : State) (pin : Fin 24) (level : Bool) : exec (.dinEdge pin level) s =
    .next (settleRaises ((s.setFld Reg.LSW.DINSTAT.LEVEL 0 (dinLevel (s.fld Reg.LSW.DINSTAT.LEVEL 0) pin.val level)).each
      (dinFollow pin.val) (upTo 96))) := rfl

theorem dinFollow_keeps {s : State} (calm : Calm s) (pin n : Nat) :
    Calm (dinFollow pin s n) ∧ (dinFollow pin s n).fld Reg.LSW.DINSTAT.LEVEL 0 = s.fld Reg.LSW.DINSTAT.LEVEL 0 := by
  unfold dinFollow
  split
  · have other : Reg.LSW.DINSTAT.LEVEL.off 0 ≠ Reg.LSW.STAT.REG.off n := by
      simp only [Field.off, Reg.LSW.DINSTAT.LEVEL, Reg.LSW.STAT.REG]; omega
    have shown : Calm (s.setBit Reg.LSW.STAT.DIN_ACTIVE n (dinActive s n)) := calm.setFld ..
    exact ⟨lswApply_calm n shown, (lswApply_unseen (unswitched_fld other) (shown.2 n)).trans (fld_setFld_elsewhere s _ other)⟩
  · exact ⟨calm, rfl⟩

theorem dinEdge_ends {s : State} (calm : Calm s) (pin : Fin 24) (level : Bool) : Ends (.dinEdge pin level) s fun t =>
    ∀ q, q < 24 → (t.fld Reg.LSW.DINSTAT.LEVEL 0).testBit q = if q = pin.val then level else (s.fld Reg.LSW.DINSTAT.LEVEL 0).testBit q := by
  have followed (t : State) (start : Calm t) : Calm (t.each (dinFollow pin.val) (upTo 96)) ∧
      (t.each (dinFollow pin.val) (upTo 96)).fld Reg.LSW.DINSTAT.LEVEL 0 = t.fld Reg.LSW.DINSTAT.LEVEL 0 :=
    List.foldlRecOn (motive := fun u => Calm u ∧ u.fld Reg.LSW.DINSTAT.LEVEL 0 = t.fld Reg.LSW.DINSTAT.LEVEL 0) (upTo 96) (dinFollow pin.val)
      ⟨start, rfl⟩ fun u hu n _ => ⟨(dinFollow_keeps hu.1 _ n).1, (dinFollow_keeps hu.1 _ n).2.trans hu.2⟩
  have run := exec_dinEdge s pin level
  obtain ⟨settled, shown⟩ := followed (s.setFld Reg.LSW.DINSTAT.LEVEL 0 (dinLevel (s.fld Reg.LSW.DINSTAT.LEVEL 0) pin.val level))
    (calm.setFld ..)
  rw [settleRaises_of_quiet settled.1] at run
  refine ⟨_, run, fun q hq => ?_⟩
  rw [shown, fld_setFld_same _ _ _ _ (by decide), Nat.testBit_mod_two_pow, dinLevel_testBit _ pin.isLt hq]
  simp [Reg.LSW.DINSTAT.LEVEL, hq]

/-! ### The mirror scan (R153, R154, R159) -/

/-- The code that the converter gives for a sense pin. -/
def mirrorCode (pins : List Nat) (p : Nat) : Nat := min (pins.getD p 0) 0xFFF

/-- What one sense pin does at a select code. -/
def mirrorPin (code : Nat) (pins : List Nat) (s : State) (p : Nat) : State :=
  if code < 12 then s.setFlds [(Reg.LSW.ISENSE.CODE, mirrorChan code p, mirrorCode pins p),
    (Reg.LSW.ISENSE.PINFAULT, mirrorChan code p, s.fld Reg.LSW.SENSESTAT.PINFAULT 0 / 2 ^ p % 2)]
  else if code = 12 then pinCheck (s.setFld Reg.LSW.SENSEPIN.OFS p (mirrorCode pins p)) 12 p (mirrorCode pins p)
  else pinCheck (s.setFld Reg.LSW.SENSEPIN.CAL p (mirrorCode pins p)) 13 p (mirrorCode pins p)

/-- A code is selected and has settled. -/
def mirrorSelected (s : State) (code at' : Nat) : State :=
  ({ s with scanAt := some (at' + scanSettle s + 100) }.reach (at' + scanSettle s + 100)).setFld Reg.LSW.SENSESTAT.SEL 0 code

/-- The last code ends the scan. -/
def mirrorEnded (s : State) (last : Bool) : State :=
  if last then { s with scanAt := none }.setBit Reg.LSW.SENSESTAT.SCAN_BUSY 0 false else s

theorem exec_mirrorScanConversion {s : State} {a : Nat} (runs : s.scanAt = some a) (code : Fin 14) (pins : List Nat) (last : Bool) :
    exec (.mirrorScanConversion code pins last) s =
      .next (mirrorEnded ((upTo 8).foldl (mirrorPin code.val pins) (mirrorSelected s code.val a)) last) := by
  show execMirrorScanConversion code pins last s = _
  unfold execMirrorScanConversion
  rw [runs]
  rfl

theorem mirrorEnded_ends (s : State) :
    (mirrorEnded s true).bit Reg.LSW.SENSESTAT.SCAN_BUSY 0 = false ∧ (mirrorEnded s true).scanAt = none := by
  rw [mirrorEnded, if_pos rfl]
  exact ⟨bit_setBit_same _ _ 0 (by decide), rfl⟩

theorem mirrorEnded_flags (s : State) (last : Bool) : (mirrorEnded s last).flags = s.flags := by
  unfold mirrorEnded
  split
  · rfl
  · rfl

theorem mirrorEnded_code (s : State) (last : Bool) (n : Nat) : (mirrorEnded s last).fld Reg.LSW.ISENSE.CODE n = s.fld Reg.LSW.ISENSE.CODE n := by
  unfold mirrorEnded
  split
  · exact fld_setFld_elsewhere _ _ (by simp only [Field.off, Reg.LSW.ISENSE.CODE, Reg.LSW.SENSESTAT.SCAN_BUSY]; omega)
  · rfl

/-! Codes of channels -/

section
variable {code : Nat} (low : code < 12) (pins : List Nat) (s : State)
include low

theorem mirrorPin_code_same (p : Nat) :
    (mirrorPin code pins s p).fld Reg.LSW.ISENSE.CODE (mirrorChan code p) = mirrorCode pins p := by
  have small : mirrorCode pins p < 2 ^ Reg.LSW.ISENSE.CODE.len := Nat.lt_of_le_of_lt (Nat.min_le_right ..) (by decide)
  simp only [mirrorPin, low, if_true, State.setFlds]
  rw [fld_setFld_neighbour (F := Reg.LSW.ISENSE.PINFAULT) (G := Reg.LSW.ISENSE.CODE) _ _ _ (by decide) rfl rfl (by decide),
    fld_setFld_same _ _ _ _ (by decide), Nat.mod_eq_of_lt small]

theorem mirrorPin_code_other {p q : Nat} (other : p ≠ q) :
    (mirrorPin code pins s q).fld Reg.LSW.ISENSE.CODE (mirrorChan code p) = s.fld Reg.LSW.ISENSE.CODE (mirrorChan code p) := by
  have apart : mirrorChan code p ≠ mirrorChan code q := by unfold mirrorChan; omega
  simp only [mirrorPin, low, if_true, State.setFlds]
  rw [fld_setFld_elsewhere _ _ (by simp only [Field.off, Reg.LSW.ISENSE.CODE, Reg.LSW.ISENSE.PINFAULT]; omega),
    fld_setFld_elsewhere _ _ (by simp only [Field.off]; simp only [Reg.LSW.ISENSE.CODE]; omega)]

theorem mirrorPins_code {p : Nat} (hp : p < 8) :
    ((upTo 8).foldl (mirrorPin code pins) s).fld Reg.LSW.ISENSE.CODE (mirrorChan code p) = mirrorCode pins p := by
  refine foldl_reaches (P := fun t => t.fld Reg.LSW.ISENSE.CODE (mirrorChan code p) = mirrorCode pins p) (upTo 8)
    (fun t q _ set => ?_) (List.mem_range.2 hp) (fun t => mirrorPin_code_same low pins t p) s
  by_cases same : p = q
  · rw [← same]
    exact mirrorPin_code_same low pins t p
  · exact (mirrorPin_code_other low pins t same).trans set

end

/-! Checks of the pins -/

/-- FLT_LSW_SENSEPIN concerns a sense pin and no output. -/
theorem faultOutput_sensePin (p : Nat) : faultOutput Flt.LSW.SENSEPIN p = none := by
  unfold faultOutput
  split
  · rfl
  · simp [Flt.LSW.SENSEPIN]

theorem pinCheck_live {s : State} (live : Live s) (code p v : Nat) : Live (pinCheck s code p v) := by
  unfold pinCheck
  extract_lets old ok
  split
  · exact raiseFault_live (setFld_live live 0 _ (by decide)) (faultOutput_sensePin p)
  · split
    · split
      · exact setFld_live live 0 _ (by decide)
      · exact live
    · exact live

theorem pinCheck_flags (s : State) (code p v : Nat) : s.flags ⊆ (pinCheck s code p v).flags := by
  unfold pinCheck
  extract_lets old ok
  split
  · have raised := (raiseFault_raised (s.setFld Reg.LSW.SENSESTAT.PINFAULT 0 (old ||| 2 ^ p)) Flt.LSW.SENSEPIN p 0).flags
    rwa [State.setFld_flags] at raised
  · split
    · split
      · rw [State.setFld_flags]
        exact List.Subset.refl _
      · exact List.Subset.refl _
    · exact List.Subset.refl _

theorem pinCheck_raises {s : State} (live : Live s) {code v : Nat} (p : Nat) (bad : pinBad code v = true) :
    Flagged (pinCheck s code p v) Flt.LSW.SENSEPIN p 0 := by
  unfold pinCheck
  rw [if_pos bad]
  exact raiseFault_flagged (setFld_live live 0 _ (by decide)) ..

theorem mirrorPin_live {s : State} (live : Live s) (code : Nat) (pins : List Nat) (p : Nat) : Live (mirrorPin code pins s p) := by
  unfold mirrorPin
  split
  · exact setFld_live (setFld_live live _ _ (by decide)) _ _ (by decide)
  · split
    · exact pinCheck_live (setFld_live live p _ (by decide)) 12 p _
    · exact pinCheck_live (setFld_live live p _ (by decide)) 13 p _

theorem mirrorPin_flags (s : State) (code : Nat) (pins : List Nat) (p : Nat) : s.flags ⊆ (mirrorPin code pins s p).flags := by
  unfold mirrorPin
  split
  · rw [State.setFlds, State.setFlds, State.setFlds, State.setFld_flags, State.setFld_flags]
    exact List.Subset.refl _
  · split
    · have checked := pinCheck_flags (s.setFld Reg.LSW.SENSEPIN.OFS p (mirrorCode pins p)) 12 p (mirrorCode pins p)
      rwa [State.setFld_flags] at checked
    · have checked := pinCheck_flags (s.setFld Reg.LSW.SENSEPIN.CAL p (mirrorCode pins p)) 13 p (mirrorCode pins p)
      rwa [State.setFld_flags] at checked

theorem mirrorPin_raises {s : State} (live : Live s) {code : Nat} (checks : code = 12 ∨ code = 13) (pins : List Nat) (p : Nat)
    (bad : pinBad code (mirrorCode pins p) = true) : Flagged (mirrorPin code pins s p) Flt.LSW.SENSEPIN p 0 := by
  unfold mirrorPin
  obtain rfl | rfl := checks
  · rw [if_neg (by omega), if_pos rfl]
    exact pinCheck_raises (setFld_live live p _ (by decide)) p bad
  · rw [if_neg (by omega), if_neg (by omega)]
    exact pinCheck_raises (setFld_live live p _ (by decide)) p bad

/-- What one step of a fold brings about from a state of the kind that every step keeps, and every later step leaves. -/
theorem foldl_reaches_from {α : Type} {P Q : State → Prop} {f : State → α → State} (keeps : ∀ s a, Q s → Q (f s a))
    (stays : ∀ s a, P s → P (f s a)) {l : List α} {a : α} (ha : a ∈ l) (hit : ∀ s, Q s → P (f s a)) {s : State} (hs : Q s) :
    P (l.foldl f s) := by
  induction l generalizing s with
  | nil => cases ha
  | cons b l ih =>
    rcases List.mem_cons.1 ha with rfl | ha
    · exact List.foldlRecOn l f (hit s hs) fun t ht c _ => stays t c ht
    · exact ih ha (keeps s b hs)

theorem mirrorSelected_live {s : State} (live : Live s) (code at' : Nat) : Live (mirrorSelected s code at') := by
  have reached : Live ({ s with scanAt := some (at' + scanSettle s + 100) }.reach (at' + scanSettle s + 100)) := ⟨live.up, live.open', live.quiet⟩
  exact setFld_live reached 0 code (by decide)

theorem pinBad_offset {v : Nat} (above : 20 * 10000 < v * 12207) : pinBad 12 v = true := by
  rw [pinBad, if_pos rfl]
  exact decide_eq_true above

theorem pinBad_current {v : Nat} (below : v * 12207 < 19600000) : pinBad 13 v = true := by
  rw [pinBad, if_neg (by decide), decide_eq_true below, Bool.true_or]

theorem mirrorScanConversion_raises {s : State} {a : Nat} (runs : s.scanAt = some a) (live : Live s) {code : Fin 14}
    (checks : code.val = 12 ∨ code.val = 13) (pins : List Nat) (last : Bool) {p : Nat} (hp : p < 8)
    (bad : pinBad code.val (mirrorCode pins p) = true) :
    Raises (.mirrorScanConversion code pins last) s Flt.LSW.SENSEPIN p 0 := by
  refine ⟨_, exec_mirrorScanConversion runs code pins last, ?_⟩
  rw [Flagged, mirrorEnded_flags]
  exact foldl_reaches_from (P := fun t => Flagged t Flt.LSW.SENSEPIN p 0) (Q := Live) (fun t q h => mirrorPin_live h code.val pins q)
    (fun t q h => mirrorPin_flags t code.val pins q h) (List.mem_range.2 hp) (fun t h => mirrorPin_raises h checks pins p bad)
    (mirrorSelected_live live code.val a)

/-- Settles O23: restarts, refills and tests by what their commands come to, inputs and the scan by the folds over channels and pins. -/
theorem loadSwitchRetriesAndInputs : Obligations.LoadSwitchRetriesAndInputs := by
  unfold Obligations.LoadSwitchRetriesAndInputs
  refine ⟨fun s n calm => ⟨fun cut unlocked cool left => retryRestart_ends calm cut unlocked cool left,
    fun refills on => retryRefill_ends refills on, reload_ends s n,
    fun asked off => fwTest_ends calm asked off, fun vmin current busy => fwTestEnd_ends calm busy vmin current,
    fun b forced => lswForceClamp_ends forced n⟩, currentLimit_ends, fun s pin level calm => dinEdge_ends calm pin level,
    fun s code pins last a runs => ⟨_, exec_mirrorScanConversion runs code pins last, fun low p hp => ?_, fun ends => ?_⟩,
    fun s code pins last a p runs live hp => ⟨fun twelve above => ?_, fun thirteen below => ?_⟩⟩
  · exact (mirrorEnded_code _ last _).trans (mirrorPins_code low pins _ hp)
  · subst ends
    exact mirrorEnded_ends _
  · exact mirrorScanConversion_raises runs live (.inl twelve) pins last hp (by rw [twelve]; exact pinBad_offset above)
  · exact mirrorScanConversion_raises runs live (.inr thirteen) pins last hp (by rw [thirteen]; exact pinBad_current below)

end Sys2Proof.Machine
end

section
/-!
# Proofs of the family 07_motor_bridges

What bringing a bridge to its mode passes by; protections of a half-bridge and of all halves; the position and the brakes.
-/
namespace Sys2Proof.Machine

/-! ### Fields that share no bit (R5, R7) -/

/-- Two fields of the half-bridges share no bit, whatever their units: they stand in different registers of a block of stride 0x40,
or in different bits. -/
def fieldsApart (F G : Field) : Bool :=
  decide (F.stride = 0x40 ∧ G.stride = 0x40 ∧ F.base % 0x40 ≠ G.base % 0x40) ||
    decide (F.lo + F.len ≤ 32 ∧ (G.lo + G.len ≤ F.lo ∨ F.lo + F.len ≤ G.lo))

theorem fld_setFld_of_fieldsApart (s : State) {F G : Field} (n v m : Nat) (h : fieldsApart F G = true) : (s.setFld F n v).fld G m = s.fld G m := by
  simp only [fieldsApart, Bool.or_eq_true, decide_eq_true_eq] at h
  by_cases same : G.off m = F.off n
  · obtain ⟨strideF, strideG, base⟩ | ⟨fits, beside⟩ := h
    · rw [Field.off, Field.off, strideF, strideG] at same
      omega
    · exact fld_setFld_beside s v fits same beside
  · exact fld_setFld_elsewhere s v same

theorem bit_setFld_of_fieldsApart (s : State) {F G : Field} (n v m : Nat) (h : fieldsApart F G = true) : (s.setFld F n v).bit G m = s.bit G m := by
  rw [State.bit, fld_setFld_of_fieldsApart s n v m h, State.bit]

/-- A field written in one unit, read in another. -/
theorem fld_setFld_unit (s : State) (F : Field) (n v m : Nat) (hF : F.lo + F.len ≤ 32) :
    (s.setFld F n v).fld F m = if F.off m = F.off n then v % 2 ^ F.len else s.fld F m := by
  split
  · next same => rw [State.fld, State.setFld, same, word_setWord_same, getBits_putBits_same _ _ hF]
  · next other => exact fld_setFld_elsewhere s v other

theorem bit_setBit_unit (s : State) (F : Field) (n : Nat) (b : Bool) (m : Nat) (hF : F.lo + F.len ≤ 32) (one : F.len = 1) :
    (s.setBit F n b).bit F m = if F.off m = F.off n then b else s.bit F m := by
  rw [State.bit, State.setBit, fld_setFld_unit s F n _ m hF, one]
  split
  · cases b
    · rfl
    · rfl
  · rfl

/-! ### Half-bridges -/

theorem hbCh_setHb (s : State) (n m : Nat) (c : HbCh) : (s.setHb n c).hbCh m = if m = n then c else s.hbCh m :=
  smapGet_set (fun _ => HbCh.init) s.hbr n m c

@[simp] theorem hbCh_setHb_same (s : State) (n : Nat) (c : HbCh) : (s.setHb n c).hbCh n = c := by
  rw [hbCh_setHb, if_pos rfl]

theorem fld_setHb (s : State) (n m : Nat) (c : HbCh) (F : Field) : (s.setHb n c).fld F m = s.fld F m := rfl

theorem bit_setHb (s : State) (n m : Nat) (c : HbCh) (F : Field) : (s.setHb n c).bit F m = s.bit F m := rfl

theorem hbCh_setFld (s : State) (F : Field) (n v m : Nat) : (s.setFld F n v).hbCh m = s.hbCh m := rfl

theorem eff_of_stands {s t : State} (h : t.stands = s.stands) : t.eff = s.eff :=
  congrArg (fun v : Stores × List FaultFlag => v.1.2.2.2.1) h

theorem flags_of_stands {s t : State} (h : t.stands = s.stands) : t.flags = s.flags := congrArg Prod.snd h

theorem effFld_of_eff {s t : State} (h : t.eff = s.eff) (F : Field) (n : Nat) : t.effFld F n = s.effFld F n := by
  simp only [State.effFld, State.effWord, h]

theorem hbPaired_of_eff {s t : State} (h : t.eff = s.eff) (n : Nat) : hbPaired t n = hbPaired s n := by
  rw [hbPaired, effFld_of_eff h, hbPaired]

theorem hbHalves_of_eff {s t : State} (h : t.eff = s.eff) (m : Nat) : hbHalves t m = hbHalves s m := by
  rw [hbHalves, hbPaired_of_eff h, hbHalves]

/-- The master of a bridge is one of its halves. -/
theorem mem_hbHalves (s : State) (m : Nat) : m ∈ hbHalves s m := by
  unfold hbHalves
  split
  · exact List.mem_cons_self
  · exact List.mem_singleton_self m

@[simp] theorem hbSet_stands (s : State) (m : Nat) (F : Field) (b : Bool) : (hbSet s m F b).stands = s.stands :=
  each_stands (fun t h => setBit_stands t F h b) s _

theorem hbSet_unseen {β : Type} {g : State → β} {F : Field} (h : ∀ s n v, g (State.setFld s F n v) = g s) (s : State) (m : Nat) (b : Bool) :
    g (hbSet s m F b) = g s :=
  each_view g (fun t k => h t k _) s _

/-- What is set of a bridge is set in each of its halves. -/
theorem bit_hbSet_half (s : State) (m : Nat) {F : Field} (b : Bool) (hF : F.lo + F.len ≤ 32) (one : F.len = 1) {h : Nat}
    (half : h ∈ hbHalves s m) : (hbSet s m F b).bit F h = b := by
  refine foldl_reaches (P := fun t => t.bit F h = b) (f := fun t k => t.setBit F k b) (hbHalves s m) (fun t k _ set => ?_) half
    (fun t => bit_setBit_value t h b hF one) s
  rw [bit_setBit_unit t F k b h hF one, set, ite_self]

/-! ### A bridge that is brought to its mode (R208, R211 to R217, R221, R222) -/

/-- STAT shows the mode that the bridge applies. -/
def hbShown (s : State) (m : Nat) : State :=
  s.each (fun t h => (t.setFld Reg.HBR.STAT.APPLIED h (hbMode s m)).setBit Reg.HBR.STAT.DRIVING h (hbDrive (hbPaired s m) (hbMode s m)))
    (hbHalves s m)

/-- The switch-on edges of a drive mode, at which an inrush window may start to run. -/
def hbRushed (s t : State) (m : Nat) : State :=
  if hbDrive (hbPaired s m) (hbMode s m) then (hbHalves t m).foldl (fun s h => inrushEdge s (96 + h)) t else t

/-- The direction of a drive mode. -/
def hbTurned (s : State) (m : Nat) (c : HbCh) : HbCh :=
  if hbDrive (hbPaired s m) (hbMode s m) then { c with fwd := hbMode s m == 1 } else c

/-- The count at which a coast begins. -/
def hbCoasted (s : State) (m now : Nat) (c : HbCh) : HbCh :=
  if hbMode s m = 0 then (if s.fld Reg.HBR.STAT.APPLIED m = 0 then c else { c with coastFrom := some now }) else { c with coastFrom := none }

/-- A mode other than COAST ends an extrapolation. -/
def hbSettled (s t : State) (m : Nat) : State := if hbMode s m = 0 then t else t.setBit Reg.HBR.RIPSTAT.EST m false

theorem hbApply_eq (s : State) (m : Nat) : hbApply s m =
    let t := hbRushed s (hbShown s m) m
    (hbSettled s t m).setHb m (hbCoasted s m t.now (hbTurned s m (t.hbCh m))) := rfl

theorem hbSettled_chan (s t : State) (m : Nat) : (hbSettled s t m).hbCh m = t.hbCh m := by
  unfold hbSettled
  split
  · rfl
  · exact hbCh_setFld ..

/-- Of a half-bridge's hidden state, its mode moves the direction and the begin of a coast. -/
theorem hbCoasted_turned (s : State) (m now : Nat) (c : HbCh) :
    ∃ a b, hbCoasted s m now (hbTurned s m c) = { c with fwd := a, coastFrom := b } := by
  have turned : ∃ a, hbTurned s m c = { c with fwd := a } := by
    unfold hbTurned
    split
    · exact ⟨_, rfl⟩
    · exact ⟨c.fwd, rfl⟩
  obtain ⟨a, turned⟩ := turned
  rw [turned]
  unfold hbCoasted
  split
  · split
    · exact ⟨a, c.coastFrom, rfl⟩
    · exact ⟨a, _, rfl⟩
  · exact ⟨a, _, rfl⟩

/-- The fields that show the mode of a bridge. -/
def driveFields : List Field := [Reg.HBR.STAT.APPLIED, Reg.HBR.STAT.DRIVING, Reg.HBR.RIPSTAT.EST]

/-- A view that does not see a bridge brought to its mode: not the fields that show it, not the direction and the begin of a coast,
not the run of an inrush window. -/
structure Undriven {β : Type} (g : State → β) : Prop where
  fld : ∀ F ∈ driveFields, ∀ s n v, g (State.setFld s F n v) = g s
  turn : ∀ s m a b, g (State.setHb s m { s.hbCh m with fwd := a, coastFrom := b }) = g s
  inrush : ∀ s c v, g (State.setLedger1 s c v) = g s

section
variable {β : Type} {g : State → β}

theorem hbRushed_unseen (inrush : ∀ s c v, g (State.setLedger1 s c v) = g s) (s t : State) (m : Nat) : g (hbRushed s t m) = g t := by
  have edge (u : State) (k : Nat) : g (inrushEdge u (96 + k)) = g u := by simp [inrushEdge, apply_ite g, inrush]
  unfold hbRushed
  split
  · exact foldl_view g edge _ t
  · rfl

theorem hbSettled_unseen (est : ∀ s n v, g (State.setFld s Reg.HBR.RIPSTAT.EST n v) = g s) (s t : State) (m : Nat) :
    g (hbSettled s t m) = g t := by
  unfold hbSettled
  split
  · rfl
  · exact est t m _

variable (h : Undriven g)
include h

theorem hbShown_unseen (s : State) (m : Nat) : g (hbShown s m) = g s :=
  each_view g (fun t k => (h.fld Reg.HBR.STAT.DRIVING (by decide) _ k _).trans (h.fld Reg.HBR.STAT.APPLIED (by decide) t k _)) s _

theorem hbApply_unseen (s : State) (m : Nat) : g (hbApply s m) = g s := by
  rw [hbApply_eq]
  extract_lets t
  have chan : (hbSettled s t m).hbCh m = t.hbCh m := hbSettled_chan s t m
  obtain ⟨a, b, moved⟩ := hbCoasted_turned s m t.now (t.hbCh m)
  rw [moved, ← chan, h.turn, hbSettled_unseen (h.fld Reg.HBR.RIPSTAT.EST (by decide)), hbRushed_unseen h.inrush, hbShown_unseen h]

end

theorem undriven_fld {G : Field} (clear : (driveFields.all fun F => fieldsApart F G) = true) (m : Nat) : Undriven (fun s => s.fld G m) where
  fld F hF s n v := fld_setFld_of_fieldsApart s n v m (List.all_eq_true.1 clear F hF)
  turn _ _ _ _ := rfl
  inrush _ _ _ := rfl

theorem Undriven.comp {β γ : Type} {g : State → β} (h : Undriven g) (f : β → γ) : Undriven (fun s => f (g s)) where
  fld F hF s n v := congrArg f (h.fld F hF s n v)
  turn s m a b := congrArg f (h.turn s m a b)
  inrush s c v := congrArg f (h.inrush s c v)

theorem undriven_bit {G : Field} (clear : (driveFields.all fun F => fieldsApart F G) = true) (m : Nat) : Undriven (fun s => s.bit G m) :=
  (undriven_fld clear m).comp (· != 0)

/-- What a half-bridge holds besides its direction and the begin of its coast. -/
theorem undriven_chan {β : Type} {f : HbCh → β} (blind : ∀ c a b, f { c with fwd := a, coastFrom := b } = f c) (k : Nat) :
    Undriven (fun s => f (s.hbCh k)) where
  fld _ _ _ _ _ := rfl
  turn s m a b := by
    rw [hbCh_setHb]
    split
    · next same => rw [blind, same]
    · rfl
  inrush _ _ _ := rfl

theorem undriven_now : Undriven State.now := ⟨fun _ _ _ _ _ => rfl, fun _ _ _ _ => rfl, fun _ _ _ => rfl⟩

theorem undriven_collector : Undriven collectorView where
  fld F hF s n v := setFld_collectorView s n v (by
    have above : ∀ F ∈ driveFields, 0x30000 < F.base := by decide
    exact above F hF)
  turn _ _ _ _ := rfl
  inrush _ _ _ := rfl

theorem hbApply_live {s : State} (m : Nat) (live : Live s) : Live (hbApply s m) := live.of_view (hbApply_unseen undriven_collector s m)

theorem hbShown_applied (s : State) (m : Nat) {h : Nat} (half : h ∈ hbHalves s m) :
    (hbShown s m).fld Reg.HBR.STAT.APPLIED h = hbMode s m % 2 ^ Reg.HBR.STAT.APPLIED.len := by
  have step (t : State) (k : Nat) :
      ((t.setFld Reg.HBR.STAT.APPLIED k (hbMode s m)).setBit Reg.HBR.STAT.DRIVING k (hbDrive (hbPaired s m) (hbMode s m))).fld
        Reg.HBR.STAT.APPLIED h = if Reg.HBR.STAT.APPLIED.off h = Reg.HBR.STAT.APPLIED.off k then
          hbMode s m % 2 ^ Reg.HBR.STAT.APPLIED.len else t.fld Reg.HBR.STAT.APPLIED h := by
    rw [State.setBit, fld_setFld_of_fieldsApart _ _ _ _ (by decide), fld_setFld_unit _ _ _ _ _ (by decide)]
  refine foldl_reaches (P := fun t => t.fld Reg.HBR.STAT.APPLIED h = hbMode s m % 2 ^ Reg.HBR.STAT.APPLIED.len) (hbHalves s m)
    (fun t k _ set => ?_) half (fun t => ?_) s
  · rw [step, set, ite_self]
  · rw [step, if_pos rfl]

/-- Each half of a bridge shows the mode that the bridge applies. -/
theorem hbApply_applied (s : State) (m : Nat) {h : Nat} (half : h ∈ hbHalves s m) :
    (hbApply s m).fld Reg.HBR.STAT.APPLIED h = hbMode s m % 2 ^ Reg.HBR.STAT.APPLIED.len := by
  have settled := hbSettled_unseen (g := fun t => t.fld Reg.HBR.STAT.APPLIED h) (fun t n v => fld_setFld_of_fieldsApart t n v h (by decide))
  have rushed := hbRushed_unseen (g := fun t => t.fld Reg.HBR.STAT.APPLIED h) fun _ _ _ => rfl
  rw [hbApply_eq, fld_setHb]
  exact (settled ..).trans ((rushed ..).trans (hbShown_applied s m half))

end Sys2Proof.Machine
end

section
namespace Sys2Proof.Machine

/-! ### Fresh raises of class F0 (R461, R462) -/

theorem Recorded.eff {s t : State} (h : Recorded s t) : t.eff = s.eff := by rw [h.rest]

theorem not_pending_of_fresh {s : State} {src unit : Nat} (fresh : Fresh s src unit) (cls : Nat) :
    (⟨src, unit, cls⟩ : FaultFlag) ∉ s.flags := fun pending => fresh _ pending ⟨rfl, rfl⟩

theorem Fresh.of_flags {s t : State} {src unit : Nat} (fresh : Fresh s src unit) (h : t.flags = s.flags) : Fresh t src unit := by
  rw [Fresh, h]
  exact fresh

theorem mem_flags_setFlag {s : State} {f g : FaultFlag} (h : g ∈ (setFlag s f).flags) : g ∈ s.flags ∨ g = f := by
  unfold setFlag at h
  split at h
  · exact .inl h
  · simpa [showFlags, State.setFlds] using h

/-- A raise of class F0 whose flag is not pending, where nothing waits, is that one raise. -/
theorem raiseFault_fresh_eq {s : State} (live : Live s) {src unit : Nat} (fresh : Fresh s src unit) :
    raiseFault s src unit 0 = raiseOne s ⟨src, unit, 0, 0, s.now, false⟩ := by
  have recorded := raiseOne_recorded_fresh (r := ⟨src, unit, 0, 0, s.now, false⟩) live rfl (not_pending_of_fresh fresh 0)
  exact settleRaises_of_quiet ((congrArg State.raiseQ recorded.rest).trans live.quiet)

/-- It leaves the collector ready for the next. -/
theorem raiseFault_live_fresh {s : State} (live : Live s) {src unit : Nat} (fresh : Fresh s src unit) : Live (raiseFault s src unit 0) := by
  have rest := (raiseWith_recorded_fresh live (not_pending_of_fresh fresh 0) 0 false).rest
  refine ⟨(congrArg State.collectorUp rest).trans live.up, ?_, (congrArg State.raiseQ rest).trans live.quiet⟩
  rw [raiseFault_fresh_eq live fresh]
  unfold raiseOne
  simp only [live.up, live.open', not_pending_of_fresh fresh 0, Bool.not_true, Bool.false_eq_true, if_false, decide_false, Bool.false_and]
  split
  · exact (acted_open s _ _ _ _ (Nat.zero_le 1)).trans live.open'
  · exact (acted_open s _ _ _ _ (Nat.zero_le 1)).trans live.open'

/-- It sets no flag of another source or unit. -/
theorem raiseFault_fresh_other {s : State} (live : Live s) {src unit : Nat} (fresh : Fresh s src unit) {src' unit' : Nat}
    (other : ¬(src = src' ∧ unit = unit')) (fresh' : Fresh s src' unit') : Fresh (raiseFault s src unit 0) src' unit' := by
  rw [raiseFault_fresh_eq live fresh]
  have acts := flags_of_stands (raiseOne_acts ⟨src, unit, 0, 0, s.now, false⟩ live.up live.open')
  have zero : actsAt s ⟨src, unit, 0, 0, s.now, false⟩ = 0 := by simp [actsAt, not_pending_of_fresh fresh 0]
  intro f pending
  rw [acts, zero] at pending
  obtain (old | rfl) | rfl := (mem_flags_setFlag pending).imp_left mem_flags_setFlag
  · exact fresh' f old
  · exact other
  · exact other

/-! ### Switch-offs of a bridge (R214, R215) -/

/-- The fields that say why a bridge brakes or coasts. -/
def reasonFields : List Field :=
  [Reg.HBR.STAT.STOPPED, Reg.HBR.STAT.EV_STOP, Reg.HBR.STAT.REVERSING, Reg.HBR.STAT.PROT_OFF]

/-- A view that sees neither a bridge brought to its mode nor the reasons for its mode. -/
structure Unbridged {β : Type} (g : State → β) : Prop extends Undriven g where
  reason : ∀ F ∈ reasonFields, ∀ s n v, g (State.setFld s F n v) = g s
  pend : ∀ s m p, g (State.setHb s m { s.hbCh m with pend := p }) = g s

theorem unbridged_fld {G : Field} (clear : ((driveFields ++ reasonFields).all fun F => fieldsApart F G) = true) (m : Nat) :
    Unbridged (fun s => s.fld G m) where
  toUndriven := undriven_fld (List.all_eq_true.2 fun F hF => List.all_eq_true.1 clear F (List.mem_append_left _ hF)) m
  reason F hF s n v := fld_setFld_of_fieldsApart s n v m (List.all_eq_true.1 clear F (List.mem_append_right _ hF))
  pend _ _ _ := rfl

theorem Unbridged.comp {β γ : Type} {g : State → β} (h : Unbridged g) (f : β → γ) : Unbridged (fun s => f (g s)) where
  toUndriven := h.toUndriven.comp f
  reason F hF s n v := congrArg f (h.reason F hF s n v)
  pend s m p := congrArg f (h.pend s m p)

theorem unbridged_bit {G : Field} (clear : ((driveFields ++ reasonFields).all fun F => fieldsApart F G) = true) (m : Nat) :
    Unbridged (fun s => s.bit G m) := (unbridged_fld clear m).comp (· != 0)

theorem unbridged_collector : Unbridged collectorView where
  toUndriven := undriven_collector
  reason F hF s n v := setFld_collectorView s n v (by
    have above : ∀ F ∈ reasonFields, 0x30000 < F.base := by decide
    exact above F hF)
  pend _ _ _ := rfl

/-- The reasons behind a protective switch-off: PROT_OFF set, no reversal, no drive mode that waits. -/
def hbGuarded (s : State) (m : Nat) : State :=
  let t := hbSet (hbSet s m Reg.HBR.STAT.PROT_OFF true) m Reg.HBR.STAT.REVERSING false
  t.setHb m { t.hbCh m with pend := 0 }

theorem hbProtect_eq (s : State) (n : Nat) : hbProtect s n = hbApply (hbGuarded s (hbMaster s n)) (hbMaster s n) := rfl

theorem hbGuarded_stands (s : State) (m : Nat) : (hbGuarded s m).stands = s.stands := by simp [hbGuarded]

theorem hbGuarded_halves (s : State) (m : Nat) : hbHalves (hbGuarded s m) m = hbHalves s m :=
  hbHalves_of_eff (eff_of_stands (hbGuarded_stands s m)) m

theorem hbGuarded_prot (s : State) (m : Nat) {h : Nat} (half : h ∈ hbHalves s m) :
    (hbGuarded s m).bit Reg.HBR.STAT.PROT_OFF h = true := by
  have kept (t : State) : (hbSet t m Reg.HBR.STAT.REVERSING false).bit Reg.HBR.STAT.PROT_OFF h = t.bit Reg.HBR.STAT.PROT_OFF h :=
    hbSet_unseen (g := fun t => t.bit Reg.HBR.STAT.PROT_OFF h) (fun t n v => bit_setFld_of_fieldsApart t n v h (by decide)) t m false
  rw [hbGuarded, bit_setHb, kept, bit_hbSet_half s m true (by decide) rfl half]

/-- A bridge that is switched off protectively applies COAST. -/
theorem hbMode_protected {s : State} {m : Nat} (off : s.bit Reg.HBR.STAT.PROT_OFF m = true) : hbMode s m = 0 := by
  unfold hbMode
  simp only [off, if_true, ite_self]

theorem hbProtect_stands (s : State) (n : Nat) : (hbProtect s n).stands = s.stands := by
  rw [hbProtect_eq, hbApply_stands, hbGuarded_stands]

theorem hbProtect_unseen {β : Type} {g : State → β} (h : Unbridged g) (s : State) (n : Nat) : g (hbProtect s n) = g s := by
  rw [hbProtect_eq, hbApply_unseen h.toUndriven, hbGuarded, h.pend, hbSet_unseen (h.reason Reg.HBR.STAT.REVERSING (by decide)),
    hbSet_unseen (h.reason Reg.HBR.STAT.PROT_OFF (by decide))]

/-- Behind a protective switch-off every half of the bridge shows PROT_OFF and coasts. -/
theorem hbProtect_off (s : State) (n : Nat) {h : Nat} (half : h ∈ hbHalves s (hbMaster s n)) :
    (hbProtect s n).bit Reg.HBR.STAT.PROT_OFF h = true ∧ (hbProtect s n).fld Reg.HBR.STAT.APPLIED h = 0 := by
  have guarded := hbGuarded_halves s (hbMaster s n) ▸ half
  have coast : hbMode (hbGuarded s (hbMaster s n)) (hbMaster s n) = 0 := hbMode_protected (hbGuarded_prot s _ (mem_hbHalves s _))
  rw [hbProtect_eq]
  refine ⟨(hbApply_unseen (undriven_bit (by decide) h) _ _).trans (hbGuarded_prot s _ half), ?_⟩
  rw [hbApply_applied _ _ guarded, coast]
  rfl

/-! ### Trips (R214 to R216) -/

/-- The event bit of a protection in STAT, beside the bits that move with the mode, and its counter in EVCOUNT. -/
structure BridgeTrip (ev cnt : Field) : Prop where
  one : ev.len = 1
  fits : ev.lo + ev.len ≤ 32
  clear : ((driveFields ++ reasonFields).all fun F => fieldsApart F ev) = true
  counts : fieldsApart cnt ev = true
  latch : fieldsApart ev Reg.HBR.STAT.TLATCH = true ∧ fieldsApart cnt Reg.HBR.STAT.TLATCH = true
  above : 0x50000 ≤ ev.base ∧ 0x50000 ≤ cnt.base

theorem bridgeTrip_short : BridgeTrip Reg.HBR.STAT.EV_SHORT Reg.HBR.EVCOUNT.SHORT :=
  ⟨rfl, by decide, by decide, by decide, by decide, by decide⟩

theorem bridgeTrip_thermal : BridgeTrip Reg.HBR.STAT.EV_THERM Reg.HBR.EVCOUNT.THERM :=
  ⟨rfl, by decide, by decide, by decide, by decide, by decide⟩

theorem tripShown_live {s : State} (live : Live s) (n : Nat) {ev cnt : Field} (above : 0x50000 ≤ ev.base ∧ 0x50000 ≤ cnt.base) :
    Live (tripShown s n ev cnt) := setFld_live (setFld_live live n _ (by omega)) n _ (by omega)

theorem tripShown_bit (s : State) (n : Nat) {ev cnt : Field} (one : ev.len = 1) (fits : ev.lo + ev.len ≤ 32) (counts : fieldsApart cnt ev = true) :
    (tripShown s n ev cnt).bit ev n = true :=
  (bit_setFld_of_fieldsApart _ n _ n counts).trans (bit_setBit_true s n fits one)

theorem hbTrip_eq (s : State) (n : Nat) (ev cnt : Field) (src : Nat) (f : Bool) :
    hbTrip s n ev cnt src f = raiseWith (hbProtect (tripShown s n ev cnt) n) src n 0 0 f := rfl

/-- What a trip of a half leaves: the committed command as it is, every half of the bridge in COAST with PROT_OFF. -/
structure BridgeOff (s t : State) (n : Nat) : Prop where
  eff : t.eff = s.eff
  off : ∀ h ∈ hbHalves s (hbMaster s n), t.bit Reg.HBR.STAT.PROT_OFF h = true ∧ t.fld Reg.HBR.STAT.APPLIED h = 0

section
variable {s : State} {n src : Nat} {ev cnt : Field} (trip : BridgeTrip ev cnt) (live : Live s)
include trip live

theorem hbTripped_live : Live (hbProtect (tripShown s n ev cnt) n) :=
  (tripShown_live live n trip.above).of_view (hbProtect_unseen unbridged_collector _ n)

theorem hbTrip_flagged (f : Bool) : Flagged (hbTrip s n ev cnt src f) src n 0 := by
  rw [hbTrip_eq]
  exact raiseWith_flagged (hbTripped_live trip live) src n 0 0 f

variable (fresh : Fresh s src n)
include fresh

theorem hbTrip_recorded (f : Bool) : Recorded (hbProtect (tripShown s n ev cnt) n) (hbTrip s n ev cnt src f) := by
  have quiet : Fresh (hbProtect (tripShown s n ev cnt) n) src n := fresh.of_flags (flags_of_stands (hbProtect_stands _ n))
  rw [hbTrip_eq]
  exact raiseWith_recorded_fresh (hbTripped_live trip live) (not_pending_of_fresh quiet 0) 0 f

/-- A trip whose source is not pending shows its event, and switches the bridge off. -/
theorem hbTrip_ends (f : Bool) : BridgeOff s (hbTrip s n ev cnt src f) n ∧ (hbTrip s n ev cnt src f).bit ev n = true ∧
    (hbTrip s n ev cnt src f).bit Reg.HBR.STAT.TLATCH n = s.bit Reg.HBR.STAT.TLATCH n := by
  have recorded := hbTrip_recorded trip live fresh f
  have shown (F : Field) (h : Nat) (hF : 0x50000 ≤ F.base) :
      (hbTrip s n ev cnt src f).fld F h = (hbProtect (tripShown s n ev cnt) n).fld F h := fld_of_word (recorded.lsw F h hF)
  have shownBit (F : Field) (h : Nat) (hF : 0x50000 ≤ F.base) :
      (hbTrip s n ev cnt src f).bit F h = (hbProtect (tripShown s n ev cnt) n).bit F h := bit_of_word (recorded.lsw F h hF)
  obtain ⟨one, fits, clear, counts, ⟨latchEv, latchCnt⟩, above⟩ := trip
  refine ⟨⟨?_, fun h half => ?_⟩, ?_, ?_⟩
  · exact recorded.eff.trans (eff_of_stands (hbProtect_stands _ n))
  · rw [shownBit _ h (by decide), shown _ h (by decide)]
    exact hbProtect_off (tripShown s n ev cnt) n half
  · rw [shownBit _ n above.1]
    exact (hbProtect_unseen (unbridged_bit clear n) _ n).trans (tripShown_bit s n one fits counts)
  · rw [shownBit _ n (by decide)]
    refine (hbProtect_unseen (unbridged_bit (by decide) n) _ n).trans ?_
    exact (bit_setFld_of_fieldsApart _ n _ n latchCnt).trans (bit_setFld_of_fieldsApart s n _ n latchEv)

end

theorem bridgeShort_exec {s : State} {n : Fin 16} (conducts : s.fld Reg.HBR.STAT.APPLIED n.val ≠ 0) : exec (.bridgeShort n) s =
    .next (hbTrip s n.val Reg.HBR.STAT.EV_SHORT Reg.HBR.EVCOUNT.SHORT Flt.HBR.SHORT false) :=
  congrArg Host.Outcome.next (if_pos (by simp [hbConducts, conducts]))

/-- The state in which a thermal trip of a half-bridge acts: its latch is set (R216). -/
def hbLatched (s : State) (n : Nat) : State := s.setBit Reg.HBR.STAT.TLATCH n true

theorem hbLatched_live {s : State} (live : Live s) (n : Nat) : Live (hbLatched s n) := setFld_live live n _ (by decide)

theorem hbThermal_eq (s : State) (n : Nat) (f : Bool) : hbThermal s n f =
    hbTrip (hbLatched s n) n Reg.HBR.STAT.EV_THERM Reg.HBR.EVCOUNT.THERM Flt.HBR.THERM f := rfl

theorem bridgeOverTemperature_exec {s : State} (n : Fin 16) (driven : s.allOff = false) :
    exec (.bridgeOverTemperature n) s = .next (hbThermal s n.val false) :=
  congrArg Host.Outcome.next (if_neg (by simp [driven]))

theorem hbThermal_flagged {s : State} (live : Live s) (n : Nat) (f : Bool) : Flagged (hbThermal s n f) Flt.HBR.THERM n 0 :=
  hbTrip_flagged bridgeTrip_thermal (hbLatched_live live n) f

/-- A thermal trip whose source is not pending sets the latch, and switches the bridge off. -/
theorem hbThermal_ends {s : State} (live : Live s) {n : Nat} (fresh : Fresh s Flt.HBR.THERM n) (f : Bool) :
    BridgeOff s (hbThermal s n f) n ∧ (hbThermal s n f).bit Reg.HBR.STAT.TLATCH n = true := by
  obtain ⟨⟨eff, off⟩, -, latch⟩ := hbTrip_ends (src := Flt.HBR.THERM) (n := n) bridgeTrip_thermal (hbLatched_live live n) fresh f
  rw [hbThermal_eq]
  exact ⟨⟨eff, off⟩, latch.trans (bit_setBit_true s n (by decide) rfl)⟩

/-! ### Brake limits and stalls (R212, R214) -/

theorem brakeLimit_raises {s : State} {n : Fin 16} (live : Live s)
    (brakes : s.fld Reg.HBR.STAT.APPLIED n.val ∈ (if hbPaired s n.val then [3, 4] else [2])) :
    Raises (.brakeLimit n) s Flt.HBR.BRKLIM n.val 0 := by
  have limits : (if hbPaired s n.val then s.fld Reg.HBR.STAT.APPLIED n.val == 3 || s.fld Reg.HBR.STAT.APPLIED n.val == 4
      else s.fld Reg.HBR.STAT.APPLIED n.val == 2) = true := by
    cases paired : hbPaired s n.val
    · simpa [paired] using brakes
    · simpa [paired] using brakes
  exact ⟨_, congrArg Host.Outcome.next (if_pos limits),
    raiseFault_flagged (tripShown_live (ev := Reg.HBR.STAT.EV_BRKLIM) (cnt := Reg.HBR.EVCOUNT.BRKLIM) live n.val (by decide)) ..⟩

/-- A stall is shown. -/
def stallShown (s : State) (m : Nat) : State := tripShown s m Reg.HBR.STAT.EV_STALL Reg.HBR.EVCOUNT.STALL

/-- A stall is shown, and brakes the bridge where STALL_BRAKE says so. -/
def hbStalled (s : State) (m : Nat) : State :=
  if (stallShown s m).effBit Reg.HBR.CFG.STALL_BRAKE m then hbApply (hbSet (stallShown s m) m Reg.HBR.STAT.STOPPED true) m
  else stallShown s m

theorem hbStall_eq (s : State) (n : Nat) (f : Bool) : hbStall s n f =
    raiseWith (hbStalled s (hbMaster s n)) Flt.HBR.STALL (hbMaster s n) 0 0 f := rfl

theorem hbStalled_live {s : State} (live : Live s) (m : Nat) : Live (hbStalled s m) := by
  have shown : Live (stallShown s m) := tripShown_live live m (by decide)
  unfold hbStalled
  split
  · exact hbApply_live m (shown.of_view (hbSet_unseen (unbridged_collector.reason Reg.HBR.STAT.STOPPED (by decide)) _ m true))
  · exact shown

theorem stallShown_stands (s : State) (m : Nat) : (stallShown s m).stands = s.stands := (setFld_stands ..).trans (setBit_stands ..)

theorem hbStalled_stands (s : State) (m : Nat) : (hbStalled s m).stands = s.stands := by
  unfold hbStalled
  split
  · rw [hbApply_stands, hbSet_stands, stallShown_stands]
  · exact stallShown_stands s m

theorem hbStalled_stopped {s : State} {m : Nat} (brakes : s.effBit Reg.HBR.CFG.STALL_BRAKE m = true) :
    (hbStalled s m).bit Reg.HBR.STAT.STOPPED m = true := by
  have asked : (stallShown s m).effBit Reg.HBR.CFG.STALL_BRAKE m = true := by
    rw [State.effBit, effFld_of_eff (eff_of_stands (stallShown_stands s m)), ← State.effBit, brakes]
  rw [hbStalled, if_pos asked]
  exact (hbApply_unseen (undriven_bit (by decide) m) _ m).trans (bit_hbSet_half _ m true (by decide) rfl (mem_hbHalves _ m))

theorem hbStall_flagged {s : State} (live : Live s) (n : Nat) (f : Bool) : Flagged (hbStall s n f) Flt.HBR.STALL (hbMaster s n) 0 := by
  rw [hbStall_eq]
  exact raiseWith_flagged (hbStalled_live live _) ..

/-- A stall whose source is not pending brakes the bridge behind its committed command. -/
theorem hbStall_ends {s : State} (live : Live s) {n : Nat} (fresh : Fresh s Flt.HBR.STALL (hbMaster s n))
    (brakes : s.effBit Reg.HBR.CFG.STALL_BRAKE (hbMaster s n) = true) (f : Bool) :
    (hbStall s n f).eff = s.eff ∧ (hbStall s n f).bit Reg.HBR.STAT.STOPPED (hbMaster s n) = true := by
  have stands := hbStalled_stands s (hbMaster s n)
  have quiet := not_pending_of_fresh (fresh.of_flags (flags_of_stands stands)) 0
  have recorded := raiseWith_recorded_fresh (hbStalled_live live (hbMaster s n)) quiet 0 f
  rw [hbStall_eq]
  exact ⟨recorded.eff.trans (eff_of_stands stands), (bit_of_word (recorded.lsw _ _ (by decide))).trans (hbStalled_stopped brakes)⟩

theorem stall_exec {s : State} {n : Fin 16} (drives : s.bit Reg.HBR.STAT.DRIVING (hbMaster s n.val) = true)
    (timed : s.effFld Reg.HBR.CFG.TSTALL (hbMaster s n.val) ≠ 0) : exec (.stall n) s = .next (hbStall s n.val false) :=
  congrArg Host.Outcome.next (if_pos (by simp [drives, timed]))

/-! ### Overvoltage (R214) -/

/-- Overvoltage is shown in one half, and its bridge brought to its mode. -/
def ovShown (above : Bool) (s : State) (n : Nat) : State :=
  if hbMaster (s.setBit Reg.HBR.STAT.OV n above) n = n then hbApply (s.setBit Reg.HBR.STAT.OV n above) n
  else s.setBit Reg.HBR.STAT.OV n above

/-- What SUPB_OVERVOLTAGE does in one half. -/
def ovStep (above : Bool) (s : State) (n : Nat) : State :=
  if above && !s.bit Reg.HBR.STAT.OV n then raiseFault ((ovShown above s n).setBit Reg.HBR.STAT.EV_OV n true) Flt.HBR.OV n 0
  else ovShown above s n

theorem supbOvervoltage_exec (s : State) (above : Bool) : exec (.supbOvervoltage above) s = .next ((upTo 16).foldl (ovStep above) s) := rfl

theorem ovShown_unseen {β : Type} {g : State → β} (h : Undriven g) (above : Bool) (s : State) (n : Nat) :
    g (ovShown above s n) = g (s.setBit Reg.HBR.STAT.OV n above) := by
  unfold ovShown
  split
  · exact hbApply_unseen h _ n
  · rfl

theorem ovShown_stands (above : Bool) (s : State) (n : Nat) : (ovShown above s n).stands = s.stands := by
  unfold ovShown
  split
  · rw [hbApply_stands, setBit_stands]
  · exact setBit_stands ..

theorem ovShown_live {s : State} (live : Live s) (above : Bool) (n : Nat) : Live (ovShown above s n) :=
  live.of_view ((ovShown_unseen undriven_collector above s n).trans (setFld_collectorView s n _ (by decide)))

theorem ovShown_bit_same (above : Bool) (s : State) (n : Nat) : (ovShown above s n).bit Reg.HBR.STAT.OV n = above :=
  (ovShown_unseen (undriven_bit (by decide) n) above s n).trans (bit_setBit_value s n above (by decide) rfl)

/-- The fields that show overvoltage. -/
def ovFields : List Field := [Reg.HBR.STAT.OV, Reg.HBR.STAT.EV_OV]

/-- Overvoltage shown in one half leaves what the others show of it. -/
theorem ovShown_bit_other (above : Bool) (s : State) {n m : Nat} (other : m ≠ n) {F : Field} (hF : F ∈ ovFields) :
    (ovShown above s n).bit F m = s.bit F m := by
  have clear : ∀ F ∈ ovFields, (driveFields.all fun G => fieldsApart G F) = true := by decide
  have stat : ∀ F ∈ ovFields, F.base = Reg.HBR.STAT.OV.base ∧ F.stride = 0x40 := by decide
  refine (ovShown_unseen (undriven_bit (clear F hF) m) above s n).trans (bit_setFld_elsewhere s _ ?_)
  obtain ⟨base, stride⟩ := stat F hF
  rw [Field.off, Field.off, base, stride, show Reg.HBR.STAT.OV.stride = 0x40 from rfl]
  omega

section
variable {above : Bool} {s : State} {n : Nat} (live : Live s) (fresh : Fresh s Flt.HBR.OV n)
include live fresh

/-- The half in which overvoltage begins is ready to raise it. -/
theorem ovEvent_ready (above : Bool) : Live ((ovShown above s n).setBit Reg.HBR.STAT.EV_OV n true) ∧
    Fresh ((ovShown above s n).setBit Reg.HBR.STAT.EV_OV n true) Flt.HBR.OV n :=
  ⟨setFld_live (ovShown_live live above n) n _ (by decide),
    fresh.of_flags ((State.setBit_flags ..).trans (flags_of_stands (ovShown_stands above s n)))⟩

theorem ovStep_live (above : Bool) : Live (ovStep above s n) := by
  obtain ⟨live', fresh'⟩ := ovEvent_ready live fresh above
  unfold ovStep
  split
  · exact raiseFault_live_fresh live' fresh'
  · exact ovShown_live live above n

theorem ovStep_fresh (above : Bool) {m : Nat} (other : m ≠ n) (fresh' : Fresh s Flt.HBR.OV m) : Fresh (ovStep above s n) Flt.HBR.OV m := by
  obtain ⟨liveEvent, freshEvent⟩ := ovEvent_ready live fresh above
  have shown : Fresh (ovShown above s n) Flt.HBR.OV m := fresh'.of_flags (flags_of_stands (ovShown_stands above s n))
  unfold ovStep
  split
  · exact raiseFault_fresh_other liveEvent freshEvent (fun same => other same.2.symm) (shown.of_flags (State.setBit_flags ..))
  · exact shown

/-- The raise of one half writes no register of the bridges. -/
theorem ovStep_bit (above : Bool) (F : Field) (m : Nat) (hF : 0x50000 ≤ F.base) : (ovStep above s n).bit F m =
    if above && !s.bit Reg.HBR.STAT.OV n then ((ovShown above s n).setBit Reg.HBR.STAT.EV_OV n true).bit F m
    else (ovShown above s n).bit F m := by
  obtain ⟨liveEvent, freshEvent⟩ := ovEvent_ready live fresh above
  unfold ovStep
  split
  · exact bit_of_word ((raiseWith_recorded_fresh liveEvent (not_pending_of_fresh freshEvent 0) 0 false).lsw F m hF)
  · rfl

theorem ovStep_bit_other (above : Bool) {m : Nat} (other : m ≠ n) {F : Field} (hF : F ∈ ovFields) : (ovStep above s n).bit F m = s.bit F m := by
  have stat : ∀ F ∈ ovFields, F.base = 0x13000C ∧ F.stride = 0x40 := by decide
  obtain ⟨base, stride⟩ := stat F hF
  rw [ovStep_bit live fresh above F m (by omega)]
  split
  · refine (bit_setFld_elsewhere _ _ ?_).trans (ovShown_bit_other above s other hF)
    simp only [Field.off, base, stride, Reg.HBR.STAT.EV_OV]
    omega
  · exact ovShown_bit_other above s other hF

end

/-- What a half shows of overvoltage that begins or ends. -/
structure OvTold (above : Bool) (s t : State) (n : Nat) : Prop where
  shown : t.bit Reg.HBR.STAT.OV n = above
  raised : above = true → s.bit Reg.HBR.STAT.OV n = false → Flagged t Flt.HBR.OV n 0 ∧ t.bit Reg.HBR.STAT.EV_OV n = true

theorem ovStep_told (above : Bool) {s : State} {n : Nat} (live : Live s) (fresh : Fresh s Flt.HBR.OV n) : OvTold above s (ovStep above s n) n := by
  have ovKept : ((ovShown above s n).setBit Reg.HBR.STAT.EV_OV n true).bit Reg.HBR.STAT.OV n = (ovShown above s n).bit Reg.HBR.STAT.OV n :=
    bit_setFld_of_fieldsApart _ n _ n (by decide)
  refine ⟨?_, fun high begins => ?_⟩
  · rw [ovStep_bit live fresh above _ n (by decide), ovKept, ite_self, ovShown_bit_same]
  · have acts : (above && !s.bit Reg.HBR.STAT.OV n) = true := by rw [high, begins]; rfl
    refine ⟨?_, ?_⟩
    · rw [ovStep, if_pos acts]
      exact raiseFault_flagged (ovEvent_ready live fresh above).1 ..
    · rw [ovStep_bit live fresh above _ n (by decide), if_pos acts]
      exact bit_setBit_true _ n (by decide) rfl

theorem ovStep_flags (above : Bool) (s : State) (n : Nat) : s.flags ⊆ (ovStep above s n).flags := by
  have shown := flags_of_stands (ovShown_stands above s n)
  unfold ovStep
  split
  · have raised := (raiseFault_raised ((ovShown above s n).setBit Reg.HBR.STAT.EV_OV n true) Flt.HBR.OV n 0).flags
    rwa [State.setBit_flags, shown] at raised
  · rw [shown]
    exact List.Subset.refl _

/-- Overvoltage is told half by half: none of them meets a raise of another, and those told already stand. -/
theorem ovSteps_told (above : Bool) {l : List Nat} (nodup : l.Nodup) {s : State} (live : Live s) (fresh : ∀ n ∈ l, Fresh s Flt.HBR.OV n) :
    (∀ n ∈ l, OvTold above s (l.foldl (ovStep above) s) n) ∧ s.flags ⊆ (l.foldl (ovStep above) s).flags ∧
      ∀ m, m ∉ l → ∀ F ∈ ovFields, (l.foldl (ovStep above) s).bit F m = s.bit F m := by
  induction l generalizing s with
  | nil => exact ⟨nofun, List.Subset.refl _, fun _ _ _ _ => rfl⟩
  | cons b l ih =>
    obtain ⟨new, nodup⟩ := List.nodup_cons.1 nodup
    have freshHead := fresh b List.mem_cons_self
    have other {n : Nat} (hn : n ∈ l) : n ≠ b := fun same => new (same ▸ hn)
    obtain ⟨told, flags, kept⟩ := ih nodup (ovStep_live live freshHead above) fun n hn =>
      ovStep_fresh live freshHead above (other hn) (fresh n (List.mem_cons_of_mem b hn))
    refine ⟨fun n hn => ?_, List.Subset.trans (ovStep_flags above s b) flags, fun m away F hF => ?_⟩
    · obtain rfl | hn := List.mem_cons.1 hn
      · obtain ⟨shown, raised⟩ := ovStep_told above live freshHead
        exact ⟨(kept _ new Reg.HBR.STAT.OV (by decide)).trans shown, fun high begins =>
          ⟨flags (raised high begins).1, (kept _ new Reg.HBR.STAT.EV_OV (by decide)).trans (raised high begins).2⟩⟩
      · obtain ⟨shown, raised⟩ := told n hn
        have before := ovStep_bit_other live freshHead above (other hn) (F := Reg.HBR.STAT.OV) (by decide)
        exact ⟨shown, fun high begins => raised high (before.trans begins)⟩
    · obtain ⟨apart', away⟩ := not_or.1 (mt List.mem_cons.2 away)
      exact (kept m away F hF).trans (ovStep_bit_other live freshHead above apart' hF)

theorem supbOvervoltage_ends {s : State} (above : Bool) (live : Live s) (fresh : ∀ n, n < 16 → Fresh s Flt.HBR.OV n) :
    Ends (.supbOvervoltage above) s fun t => ∀ n, n < 16 → OvTold above s t n := by
  refine ⟨_, supbOvervoltage_exec s above, fun n hn => ?_⟩
  exact (ovSteps_told above List.nodup_range live fun m hm => fresh m (List.mem_range.1 hm)).1 n (List.mem_range.2 hn)

/-- Settles O25: shorts and thermal trips by `hbTrip_ends`, stalls by `hbStall_ends`, the forces as the real ones, overvoltage half by
half (`ovSteps_told`). The brake of an unpaired half is its mode LOW, as the model's log 70 reads R212. -/
theorem bridgeProtectionsReact : Obligations.BridgeProtectionsReact := by
  unfold Obligations.BridgeProtectionsReact
  refine ⟨fun s n live => ⟨fun conducts => ⟨?_, fun fresh => ?_⟩, fun driven => ⟨?_, fun fresh => ?_⟩,
    fun brakes => brakeLimit_raises live brakes, fun drives timed => ⟨?_, fun fresh brakes => ?_⟩, fun b forced => ⟨?_, ?_, ?_⟩⟩,
    fun s above live fresh => ?_⟩
  · exact ⟨_, bridgeShort_exec conducts, hbTrip_flagged bridgeTrip_short live false⟩
  · obtain ⟨⟨eff, off⟩, event, -⟩ := hbTrip_ends bridgeTrip_short live fresh false
    exact ⟨_, bridgeShort_exec conducts, eff, event, off⟩
  · exact ⟨_, bridgeOverTemperature_exec n driven, hbThermal_flagged live n.val false⟩
  · obtain ⟨⟨eff, off⟩, latch⟩ := hbThermal_ends live fresh false
    exact ⟨_, bridgeOverTemperature_exec n driven, eff, latch, off⟩
  · exact ⟨_, stall_exec drives timed, hbStall_flagged live n.val false⟩
  · exact ⟨_, stall_exec drives timed, hbStall_ends live fresh brakes false⟩
  · exact ⟨_, congrArg Host.Outcome.next (gated_enabled forced _), hbStall_flagged live n.val true⟩
  · exact ⟨_, congrArg Host.Outcome.next (gated_enabled forced _), hbThermal_flagged live n.val true⟩
  · exact ⟨_, congrArg Host.Outcome.next (gated_enabled forced _), hbTrip_flagged bridgeTrip_short live true⟩
  · obtain ⟨t, run, told⟩ := supbOvervoltage_ends above live fresh
    exact ⟨t, run, fun n hn => ⟨(told n hn).shown, (told n hn).raised⟩⟩

end Sys2Proof.Machine
end

section
namespace Sys2Proof.Machine

theorem fld_satAdd_same (s : State) {F : Field} (n d : Nat) (hF : F.lo + F.len ≤ 32) :
    (s.satAdd F n d).fld F n = min (s.fld F n + d) (2 ^ F.len - 1) := by
  have small : min (s.fld F n + d) (2 ^ F.len - 1) < 2 ^ F.len :=
    Nat.lt_of_le_of_lt (Nat.min_le_right ..) (Nat.sub_one_lt (Nat.two_pow_pos _).ne')
  rw [State.satAdd, fld_setFld_same _ _ _ _ hF, Nat.mod_eq_of_lt small]

/-! ### The position stop (R224) -/

/-- The reasons behind a position stop: STOPPED and EV_STOP set, no reversal, no drive mode that waits. -/
def hbStopped (s : State) (m : Nat) : State :=
  let t := hbSet (hbSet (hbSet s m Reg.HBR.STAT.STOPPED true) m Reg.HBR.STAT.EV_STOP true) m Reg.HBR.STAT.REVERSING false
  t.setHb m { t.hbCh m with pend := 0 }

/-- The position stop fires, or does nothing. -/
theorem hbStop_cases (s : State) (m : Nat) : hbStop s m = s ∨ hbStop s m = hbApply (hbStopped s m) m := by
  unfold hbStop
  split
  · exact .inr rfl
  · exact .inl rfl

theorem hbStop_unseen {β : Type} {g : State → β} (h : Unbridged g) (s : State) (m : Nat) : g (hbStop s m) = g s := by
  obtain idle | fires := hbStop_cases s m
  · rw [idle]
  · rw [fires, hbApply_unseen h.toUndriven, hbStopped, h.pend, hbSet_unseen (h.reason Reg.HBR.STAT.REVERSING (by decide)),
      hbSet_unseen (h.reason Reg.HBR.STAT.EV_STOP (by decide)), hbSet_unseen (h.reason Reg.HBR.STAT.STOPPED (by decide))]

theorem unbridged_now : Unbridged State.now := ⟨undriven_now, fun _ _ _ _ _ => rfl, fun _ _ _ => rfl⟩

theorem unbridged_ripple (k : Nat) : Unbridged (fun s => (s.hbCh k).lastRip) where
  toUndriven := undriven_chan (f := HbCh.lastRip) (fun _ _ _ => rfl) k
  reason _ _ _ _ _ := rfl
  pend s m p := by
    rw [hbCh_setHb]
    split
    · next same => rw [same]
    · rfl

/-- No reversal brake runs in the bridge, and no drive mode waits for its end. -/
def Unreversed (s : State) (m : Nat) : Prop := s.bit Reg.HBR.STAT.REVERSING m = false ∧ (s.hbCh m).pend = 0

/-- REVERSING dropped with the drive mode that waits for its end. -/
theorem unreversed_cleared (s : State) (m : Nat) {c : HbCh} (idle : c.pend = 0) :
    Unreversed ((hbSet s m Reg.HBR.STAT.REVERSING false).setHb m c) m := by
  refine ⟨?_, by rw [hbCh_setHb_same, idle]⟩
  rw [bit_setHb]
  exact bit_hbSet_half s m false (by decide) rfl (mem_hbHalves s m)

theorem hbApply_unreversed {s : State} {m : Nat} (h : Unreversed s m) : Unreversed (hbApply s m) m :=
  ⟨(hbApply_unseen (undriven_bit (by decide) m) s m).trans h.1,
    (hbApply_unseen (undriven_chan (f := HbCh.pend) (fun _ _ _ => rfl) m) s m).trans h.2⟩

theorem hbStop_unreversed {s : State} {m : Nat} (h : Unreversed s m) : Unreversed (hbStop s m) m := by
  obtain idle | fires := hbStop_cases s m
  · rw [idle]
    exact h
  · rw [fires]
    exact hbApply_unreversed (unreversed_cleared _ m rfl)

/-! ### A count of the position (R221, R223) -/

/-- POS behind one count up or down, modulo 2^32. -/
def posMoved (pos : Nat) (up : Bool) : Nat := (pos + (if up then 1 else 2 ^ 32 - 1)) % 2 ^ 32

/-- A count on the signed position is one modulo 2^32. -/
theorem unsigned_signed_count {pos : Nat} (small : pos < 2 ^ 32) (up : Bool) :
    unsigned 32 (if up then signed 32 pos + 1 else signed 32 pos - 1) = posMoved pos up := by
  unfold unsigned signed posMoved
  cases up with
  | true => simp only [if_true]; split <;> omega
  | false => simp only [Bool.false_eq_true, if_false]; split <;> omega

/-- POS and OVF behind one count. -/
def hbMoved (s : State) (m : Nat) : State :=
  let wraps := if (s.hbCh m).fwd then hbPos s m == 2 ^ 31 - 1 else hbPos s m == -(2 ^ 31)
  let t := s.setFld Reg.HBR.POS.POS m (unsigned 32 (if (s.hbCh m).fwd then hbPos s m + 1 else hbPos s m - 1))
  if wraps then t.setBit Reg.HBR.RIPSTAT.OVF m true else t

theorem hbCount_eq (s : State) (m : Nat) : hbCount s m = hbStop (hbMoved s m) m := rfl

theorem hbMoved_chan (s : State) (m k : Nat) : (hbMoved s m).hbCh k = s.hbCh k := by
  unfold hbMoved
  extract_lets wraps t
  split
  · exact (hbCh_setFld ..).trans (hbCh_setFld ..)
  · exact hbCh_setFld ..

theorem hbMoved_pos (s : State) (m : Nat) :
    (hbMoved s m).fld Reg.HBR.POS.POS m = posMoved (s.fld Reg.HBR.POS.POS m) (s.hbCh m).fwd := by
  have moved : (s.setFld Reg.HBR.POS.POS m (unsigned 32 (if (s.hbCh m).fwd then hbPos s m + 1 else hbPos s m - 1))).fld
      Reg.HBR.POS.POS m = posMoved (s.fld Reg.HBR.POS.POS m) (s.hbCh m).fwd := by
    have small : s.fld Reg.HBR.POS.POS m < 2 ^ 32 := getBits_lt ..
    rw [hbPos, unsigned_signed_count small, fld_setFld_same _ _ _ _ (by decide)]
    exact Nat.mod_mod _ _
  unfold hbMoved
  extract_lets wraps t
  split
  · exact (fld_setFld_of_fieldsApart t m _ m (by decide)).trans moved
  · exact moved

theorem hbMoved_inserted (s : State) (m : Nat) :
    (hbMoved s m).fld Reg.HBR.RIPSTAT.INSERTED m = s.fld Reg.HBR.RIPSTAT.INSERTED m := by
  unfold hbMoved
  extract_lets wraps t
  have counted : t.fld Reg.HBR.RIPSTAT.INSERTED m = s.fld Reg.HBR.RIPSTAT.INSERTED m := fld_setFld_of_fieldsApart s m _ m (by decide)
  split
  · exact (fld_setFld_of_fieldsApart t m _ m (by decide)).trans counted
  · exact counted

theorem hbCount_pos (s : State) (m : Nat) :
    (hbCount s m).fld Reg.HBR.POS.POS m = posMoved (s.fld Reg.HBR.POS.POS m) (s.hbCh m).fwd := by
  rw [hbCount_eq]
  exact (hbStop_unseen (unbridged_fld (by decide) m) _ m).trans (hbMoved_pos s m)

theorem hbCount_inserted (s : State) (m : Nat) :
    (hbCount s m).fld Reg.HBR.RIPSTAT.INSERTED m = s.fld Reg.HBR.RIPSTAT.INSERTED m := by
  rw [hbCount_eq]
  exact (hbStop_unseen (unbridged_fld (by decide) m) _ m).trans (hbMoved_inserted s m)

theorem hbCount_ripple (s : State) (m : Nat) : ((hbCount s m).hbCh m).lastRip = (s.hbCh m).lastRip := by
  rw [hbCount_eq]
  exact (hbStop_unseen (unbridged_ripple m) _ m).trans (congrArg HbCh.lastRip (hbMoved_chan s m m))

/-- What a count of the bridge adds to POS, from a state whose position and direction are those of `s`. -/
theorem hbCount_pos_from {s t : State} {m : Nat} (pos : t.fld Reg.HBR.POS.POS m = s.fld Reg.HBR.POS.POS m)
    (fwd : (t.hbCh m).fwd = (s.hbCh m).fwd) :
    (hbCount t m).fld Reg.HBR.POS.POS m = posMoved (s.fld Reg.HBR.POS.POS m) (s.hbCh m).fwd := by
  rw [hbCount_pos, pos, fwd]

/-! ### Ripples that are accepted or rejected (R220, R221) -/

/-- The least time between two ripples, in percent of PERIOD (R220). -/
def ripMin (s : State) (m : Nat) : Nat := max 10 (min (s.effFld Reg.HBR.RIPCFG.RIP_MIN m) 90)

/-- PERIOD follows the latest two ripples, and the ripple is noted. -/
def ripNoted (s : State) (m count : Nat) : State :=
  let t := if (s.hbCh m).lastRip.isSome then
    (s.reach count).setFld Reg.HBR.PERIOD.COUNTS m (min (count - (s.hbCh m).lastRip.getD 0) 0xFFFFFFFF) else s.reach count
  t.setHb m { s.hbCh m with lastRip := some count, moving := true }

theorem ripNoted_chan (s : State) (m count : Nat) : (ripNoted s m count).hbCh m = { s.hbCh m with lastRip := some count, moving := true } :=
  hbCh_setHb_same ..

theorem ripNoted_pos (s : State) (m count : Nat) : (ripNoted s m count).fld Reg.HBR.POS.POS m = s.fld Reg.HBR.POS.POS m := by
  unfold ripNoted
  extract_lets t
  rw [fld_setHb]
  unfold t
  split
  · exact fld_setFld_of_fieldsApart _ m _ m (by decide)
  · rfl

section
variable {s : State} {n : Fin 16} {m count mean ampl : Nat} (even : m = n.val / 2 * 2) (paired : hbPaired s m = true)
  (conducts : s.fld Reg.HBR.STAT.APPLIED m ≠ 0) (enough : 300 ≤ mean) (clear : 3 * mean ≤ ampl * 100)
include even paired conducts enough clear

theorem rippleAccept_exec : exec (.rippleAccept n count mean ampl) s = .next
    (if (s.hbCh m).moving && (count - (s.hbCh m).lastRip.getD 0) * 100 < ripMin s m * s.fld Reg.HBR.PERIOD.COUNTS m then
      (s.reach count).satAdd Reg.HBR.RIPSTAT.REJECTED m 1 else hbCount (ripNoted s m count) m) := by
  subst even
  have counts : (!hbPaired s (n.val / 2 * 2) || s.fld Reg.HBR.STAT.APPLIED (n.val / 2 * 2) == 0 || mean < 300 || ampl * 100 < 3 * mean) = false := by
    simp [paired, conducts, enough, clear]
  refine (if_neg (Bool.eq_false_iff.1 counts)).trans ?_
  exact (apply_ite Host.Outcome.next ..).symm

theorem rippleAccept_counts (inTime : (s.hbCh m).moving = false ∨
      ripMin s m * s.fld Reg.HBR.PERIOD.COUNTS m ≤ (count - (s.hbCh m).lastRip.getD 0) * 100) :
    Ends (.rippleAccept n count mean ampl) s fun t =>
      t.fld Reg.HBR.POS.POS m = posMoved (s.fld Reg.HBR.POS.POS m) (s.hbCh m).fwd ∧ (t.hbCh m).lastRip = some count := by
  have late : ((s.hbCh m).moving && decide ((count - (s.hbCh m).lastRip.getD 0) * 100 < ripMin s m * s.fld Reg.HBR.PERIOD.COUNTS m)) = false := by
    rcases inTime with still | late
    · rw [still, Bool.false_and]
    · rw [decide_eq_false (Nat.not_lt.2 late), Bool.and_false]
  have run := rippleAccept_exec (count := count) even paired conducts enough clear
  rw [if_neg (Bool.eq_false_iff.1 late)] at run
  refine ⟨_, run, hbCount_pos_from (ripNoted_pos s m count) ?_, ?_⟩
  · rw [ripNoted_chan]
  · rw [hbCount_ripple, ripNoted_chan]

theorem rippleAccept_rejects (moving : (s.hbCh m).moving = true)
    (early : (count - (s.hbCh m).lastRip.getD 0) * 100 < ripMin s m * s.fld Reg.HBR.PERIOD.COUNTS m) :
    Ends (.rippleAccept n count mean ampl) s fun t => t.fld Reg.HBR.POS.POS m = s.fld Reg.HBR.POS.POS m ∧
      t.fld Reg.HBR.RIPSTAT.REJECTED m = min (s.fld Reg.HBR.RIPSTAT.REJECTED m + 1) 255 := by
  have rejects : ((s.hbCh m).moving && decide ((count - (s.hbCh m).lastRip.getD 0) * 100 < ripMin s m * s.fld Reg.HBR.PERIOD.COUNTS m)) = true := by
    rw [moving, decide_eq_true early]
    rfl
  have run := rippleAccept_exec (count := count) even paired conducts enough clear
  rw [if_pos rejects] at run
  exact ⟨_, run, fld_setFld_of_fieldsApart _ m _ m (by decide), fld_satAdd_same (s.reach count) m 1 (by decide)⟩

end

end Sys2Proof.Machine
end

section
namespace Sys2Proof.Machine

/-! ### Ripples that are inserted (R220, R221) -/

/-- The count at which a ripple is missed: RIP_MAX percent of PERIOD behind the last (R220). -/
def ripMissed (s : State) (m last : Nat) : Nat :=
  last + max 110 (s.effFld Reg.HBR.RIPCFG.RIP_MAX m) * s.fld Reg.HBR.PERIOD.COUNTS m / 100

/-- A missed ripple is inserted, shown and noted. -/
def ripInserted (s : State) (m last : Nat) : State :=
  (((s.reach (ripMissed s m last)).satAdd Reg.HBR.RIPSTAT.INSERTED m 1).setFld Reg.HBR.PERIOD.COUNTS m
    (min (ripMissed s m last - last) 0xFFFFFFFF)).setHb m { s.hbCh m with lastRip := some (ripMissed s m last) }

theorem ripInserted_pos (s : State) (m last : Nat) : (ripInserted s m last).fld Reg.HBR.POS.POS m = s.fld Reg.HBR.POS.POS m := by
  rw [ripInserted, fld_setHb, fld_setFld_of_fieldsApart _ _ _ _ (by decide)]
  exact fld_setFld_of_fieldsApart _ m _ m (by decide)

theorem ripInserted_fwd (s : State) (m last : Nat) : ((ripInserted s m last).hbCh m).fwd = (s.hbCh m).fwd := by
  rw [ripInserted, hbCh_setHb_same]

theorem ripInserted_inserted (s : State) (m last : Nat) :
    (ripInserted s m last).fld Reg.HBR.RIPSTAT.INSERTED m = min (s.fld Reg.HBR.RIPSTAT.INSERTED m + 1) 255 := by
  rw [ripInserted, fld_setHb, fld_setFld_of_fieldsApart _ _ _ _ (by decide)]
  exact fld_satAdd_same (s.reach _) m 1 (by decide)

theorem rippleInsert_exec {s : State} {n : Fin 16} {m last : Nat} (even : m = n.val / 2 * 2) (ripple : (s.hbCh m).lastRip = some last)
    (paired : hbPaired s m = true) (drives : s.bit Reg.HBR.STAT.DRIVING m = true) (moving : (s.hbCh m).moving = true) :
    exec (.rippleInsert n) s = .next (hbCount (ripInserted s m last) m) := by
  subst even
  have engine : (!hbPaired s (n.val / 2 * 2) || !s.bit Reg.HBR.STAT.DRIVING (n.val / 2 * 2) || !(s.hbCh (n.val / 2 * 2)).moving) = false := by
    simp [paired, drives, moving]
  show execRippleInsert n s = _
  simp only [execRippleInsert, hbEven, ripple]
  exact if_neg (Bool.eq_false_iff.1 engine)

theorem rippleInsert_counts {s : State} {n : Fin 16} {m : Nat} (even : m = n.val / 2 * 2) (ripple : (s.hbCh m).lastRip.isSome = true)
    (paired : hbPaired s m = true) (drives : s.bit Reg.HBR.STAT.DRIVING m = true) (moving : (s.hbCh m).moving = true) :
    Ends (.rippleInsert n) s fun t => t.fld Reg.HBR.POS.POS m = posMoved (s.fld Reg.HBR.POS.POS m) (s.hbCh m).fwd ∧
      t.fld Reg.HBR.RIPSTAT.INSERTED m = min (s.fld Reg.HBR.RIPSTAT.INSERTED m + 1) 255 := by
  obtain ⟨last, known⟩ := Option.isSome_iff_exists.1 ripple
  exact ⟨_, rippleInsert_exec even known paired drives moving, hbCount_pos_from (ripInserted_pos ..) (ripInserted_fwd ..),
    (hbCount_inserted _ m).trans (ripInserted_inserted s m last)⟩

/-! ### Extrapolation in COAST (R222) -/

/-- One PERIOD passes in COAST: the estimate is shown and the ripple noted. -/
def ripEstimated (s : State) (m : Nat) : State :=
  ((s.reach ((s.hbCh m).lastRip.getD 0 + s.fld Reg.HBR.PERIOD.COUNTS m)).setBit Reg.HBR.RIPSTAT.EST m true).setHb m
    { s.hbCh m with lastRip := some ((s.hbCh m).lastRip.getD 0 + s.fld Reg.HBR.PERIOD.COUNTS m) }

theorem ripEstimated_chan (s : State) (m : Nat) : (ripEstimated s m).hbCh m =
    { s.hbCh m with lastRip := some ((s.hbCh m).lastRip.getD 0 + s.fld Reg.HBR.PERIOD.COUNTS m) } := hbCh_setHb_same ..

theorem ripEstimated_pos (s : State) (m : Nat) : (ripEstimated s m).fld Reg.HBR.POS.POS m = s.fld Reg.HBR.POS.POS m := by
  rw [ripEstimated, fld_setHb]
  exact fld_setFld_of_fieldsApart _ m _ m (by decide)

/-- The engine's note of ripples is forgotten at the end of the extrapolation. -/
def ripForgotten (s : State) (m : Nat) : State :=
  (s.reach ((s.hbCh m).coastFrom.getD 0 + s.effFld Reg.HBR.RIPCFG.EXTRAP m * 100000)).setHb m
    { s.hbCh m with moving := false, coastFrom := none, lastRip := none }

/-- The end of the extrapolation as RIPSTAT shows it. -/
def ripExpired (s : State) (m : Nat) : State :=
  ((ripForgotten s m).setFld Reg.HBR.RIPSTAT.EST m 0).setFld Reg.HBR.RIPSTAT.POS_VALID m 0

theorem ripForgotten_collectorView (s : State) (m : Nat) : collectorView (ripForgotten s m) = collectorView s := rfl

theorem ripExpired_live {s : State} (live : Live s) (m : Nat) : Live (ripExpired s m) :=
  setFld_live (setFld_live (live.of_view (ripForgotten_collectorView s m)) m 0 (by decide)) m 0 (by decide)

theorem ripExpired_flags (s : State) (m : Nat) : (ripExpired s m).flags = s.flags := by
  rw [ripExpired, State.setFld_flags, State.setFld_flags, ripForgotten, State.setHb_flags, State.reach_flags]

theorem ripExpired_invalid (s : State) (m : Nat) : (ripExpired s m).bit Reg.HBR.RIPSTAT.POS_VALID m = false :=
  bit_setBit_same _ Reg.HBR.RIPSTAT.POS_VALID m (by decide)

theorem ripExpired_pos (s : State) (m : Nat) : (ripExpired s m).fld Reg.HBR.POS.POS m = s.fld Reg.HBR.POS.POS m := by
  rw [ripExpired, fld_setFld_of_fieldsApart _ _ _ _ (by decide), fld_setFld_of_fieldsApart _ _ _ _ (by decide), ripForgotten, fld_setHb,
    fld_reach]

section
variable {s : State} {n : Fin 16} {m : Nat} (even : m = n.val / 2 * 2) (coasts : s.fld Reg.HBR.STAT.APPLIED m = 0)
  (extrapolates : hbExtrapolates s m = true)
include even coasts extrapolates

theorem extrapolation_runs : (hbMode' s (hbEven n.val) == 0 && hbExtrapolates s (hbEven n.val)) = true := by
  subst even
  simp [hbMode', hbEven, coasts, extrapolates]

theorem rippleExtrapolate_exec : exec (.rippleExtrapolate n) s = .next (hbCount (ripEstimated s m) m) := by
  have runs := extrapolation_runs even coasts extrapolates
  subst even
  exact if_pos runs

theorem rippleExtrapolate_counts : Ends (.rippleExtrapolate n) s fun t =>
    t.fld Reg.HBR.POS.POS m = posMoved (s.fld Reg.HBR.POS.POS m) (s.hbCh m).fwd ∧
      (t.hbCh m).lastRip = some ((s.hbCh m).lastRip.getD 0 + s.fld Reg.HBR.PERIOD.COUNTS m) := by
  refine ⟨_, rippleExtrapolate_exec even coasts extrapolates, hbCount_pos_from (ripEstimated_pos s m) ?_, ?_⟩
  · rw [ripEstimated_chan]
  · rw [hbCount_ripple, ripEstimated_chan]

theorem rippleExtrapExpiry_exec : exec (.rippleExtrapExpiry n) s = .next (raiseFault (ripExpired s m) Flt.HBR.RIPPLE m 0) := by
  have runs := extrapolation_runs even coasts extrapolates
  subst even
  exact if_pos runs

theorem rippleExtrapExpiry_raises (live : Live s) : Raises (.rippleExtrapExpiry n) s Flt.HBR.RIPPLE m 0 :=
  ⟨_, rippleExtrapExpiry_exec even coasts extrapolates, raiseFault_flagged (ripExpired_live live m) ..⟩

theorem rippleExtrapExpiry_ends (live : Live s) (fresh : Fresh s Flt.HBR.RIPPLE m) : Ends (.rippleExtrapExpiry n) s fun t =>
    t.bit Reg.HBR.RIPSTAT.POS_VALID m = false ∧ t.fld Reg.HBR.POS.POS m = s.fld Reg.HBR.POS.POS m := by
  have quiet := not_pending_of_fresh (fresh.of_flags (ripExpired_flags s m)) 0
  have recorded := raiseWith_recorded_fresh (ripExpired_live live m) quiet 0 false
  exact ⟨_, rippleExtrapExpiry_exec even coasts extrapolates, (bit_of_word (recorded.lsw _ m (by decide))).trans (ripExpired_invalid s m),
    (fld_of_word (recorded.lsw _ m (by decide))).trans (ripExpired_pos s m)⟩

end

/-! ### The end of a reversal brake (R211) -/

/-- The time of a reversal brake has passed. -/
def brakeTimed (s : State) (m : Nat) : State := s.reach ((s.hbCh m).brakeFrom + s.effFld Reg.HBR.CFG.REVBRAKE m * 100000)

/-- REVERSING is dropped behind it, and the drive mode that waited is the committed one. -/
def brakeEnded (s : State) (m : Nat) : State :=
  (hbSet (brakeTimed s m) m Reg.HBR.STAT.REVERSING false).setHb m
    { (brakeTimed s m).hbCh m with pend := 0 }

theorem brakeEnded_unreversed (s : State) (m : Nat) : Unreversed (brakeEnded s m) m := unreversed_cleared _ m rfl

theorem brakeEnded_now (s : State) (m : Nat) : (brakeEnded s m).now = (brakeTimed s m).now :=
  (State.setHb_now ..).trans (hbSet_unseen (unbridged_now.reason Reg.HBR.STAT.REVERSING (by decide)) _ m false)

theorem reversalBrakeEnd_exec {s : State} {n : Fin 16} (brakes : s.bit Reg.HBR.STAT.REVERSING (hbMaster s n.val) = true) :
    exec (.reversalBrakeEnd n) s = .next (hbStop (hbApply (brakeEnded s (hbMaster s n.val)) (hbMaster s n.val)) (hbMaster s n.val)) :=
  if_pos brakes

theorem reversalBrakeEnd_ends {s : State} {n : Fin 16} (brakes : s.bit Reg.HBR.STAT.REVERSING (hbMaster s n.val) = true) :
    Ends (.reversalBrakeEnd n) s fun t => t.bit Reg.HBR.STAT.REVERSING (hbMaster s n.val) = false ∧
      (t.hbCh (hbMaster s n.val)).pend = 0 ∧
      (s.hbCh (hbMaster s n.val)).brakeFrom + s.effFld Reg.HBR.CFG.REVBRAKE (hbMaster s n.val) * 100000 ≤ t.now := by
  obtain ⟨dropped, idle⟩ := hbStop_unreversed (hbApply_unreversed (brakeEnded_unreversed s (hbMaster s n.val)))
  refine ⟨_, reversalBrakeEnd_exec brakes, dropped, idle, ?_⟩
  rw [hbStop_unseen unbridged_now, hbApply_unseen undriven_now, brakeEnded_now]
  exact Nat.le_max_right ..

/-! ### Writes of POS (R15, R223, R227) -/

/-- POS takes a written value and is valid. -/
def posSet (s : State) (n v : Nat) : State := (s.setFld Reg.HBR.POS.POS n v).setBit Reg.HBR.RIPSTAT.POS_VALID n true

theorem posWrite_exec {s : State} {b : By} {n : Fin 16} (val : Word32) (priv : b.priv = true)
    (serves : ¬(hbPaired s n.val = true ∧ n.val % 2 = 1)) :
    exec (.posWrite b n val) s = .next (hbStop (posSet s n.val val.toNat) n.val) := by
  have own : (hbPaired s n.val && n.val % 2 == 1) = false := by simpa using serves
  show execPosWrite b n val s = _
  simp only [execPosWrite, priv, own, Bool.not_true, Bool.false_eq_true, if_false]
  rfl

theorem posWrite_ends {s : State} {b : By} {n : Fin 16} (val : Word32) (priv : b.priv = true)
    (serves : ¬(hbPaired s n.val = true ∧ n.val % 2 = 1)) : Ends (.posWrite b n val) s fun t =>
      t.fld Reg.HBR.POS.POS n.val = val.toNat ∧ t.bit Reg.HBR.RIPSTAT.POS_VALID n.val = true := by
  refine ⟨_, posWrite_exec val priv serves, (hbStop_unseen (unbridged_fld (by decide) _) _ _).trans ?_,
    (hbStop_unseen (unbridged_bit (by decide) _) _ _).trans (bit_setBit_true _ _ (by decide) rfl)⟩
  have kept : (posSet s n.val val.toNat).fld Reg.HBR.POS.POS n.val =
      (s.setFld Reg.HBR.POS.POS n.val val.toNat).fld Reg.HBR.POS.POS n.val := fld_setFld_of_fieldsApart _ _ _ _ (by decide)
  rw [kept, fld_setFld_same _ _ _ _ (by decide)]
  exact Nat.mod_eq_of_lt val.isLt

theorem posWrite_refused {s : State} {b : By} {n : Fin 16} {val : Word32} (plain : b.priv = false)
    (changes : s.fld Reg.HBR.POS.POS n.val ≠ val.toNat) : exec (.posWrite b n val) s = .next (refused s b) := by
  show execPosWrite b n val s = _
  simp only [execPosWrite, plain, changes, Bool.not_false, if_true, if_false]
  rfl

/-- Settles O26: accepted, inserted and extrapolated ripples by what one count does (`hbCount_pos_from`), the brake's end by what the
stop and the mode leave of a bridge that does not reverse (`Unreversed`), POS writes by what the stop passes by. -/
theorem bridgePositionAndBrakes : Obligations.BridgePositionAndBrakes := by
  unfold Obligations.BridgePositionAndBrakes
  refine ⟨fun s n => ⟨fun count mean ampl paired conducts enough clear => ⟨fun inTime => ?_, fun moving early => ?_⟩,
    fun ripple paired drives moving => rippleInsert_counts rfl ripple paired drives moving,
    fun coasts extrapolates => ⟨rippleExtrapolate_counts rfl coasts extrapolates, fun live =>
      ⟨rippleExtrapExpiry_raises rfl coasts extrapolates live, fun fresh => rippleExtrapExpiry_ends rfl coasts extrapolates live fresh⟩⟩⟩,
    fun s n => ⟨fun brakes => reversalBrakeEnd_ends brakes, fun b val priv serves => posWrite_ends val priv serves,
      fun b val plain changes live => ?_⟩⟩
  · exact rippleAccept_counts rfl paired conducts enough clear inTime
  · exact rippleAccept_rejects rfl paired conducts enough clear moving early
  · obtain ⟨recorded, flagged⟩ := refused_recorded live b
    exact ⟨_, posWrite_refused plain changes, flagged, fld_of_word (recorded.lsw _ _ (by decide))⟩

end Sys2Proof.Machine
end

section
/-!
# Proofs of the family 08_valve_drive

What the peak token, the bank switch and the end of a profile pass by; valve commands and microcode writes; protections of channels,
banks and the peak supply.
-/
namespace Sys2Proof.Machine

/-! ### Fields of the valve block (R5, R7, R259) -/

/-- Two fields of the valve block share no bit, whatever their units: they stand in different registers of blocks whose strides are
multiples of 0x40, or in different bits. -/
def valveApart (F G : Field) : Bool :=
  decide (F.stride % 0x40 = 0 ∧ G.stride % 0x40 = 0 ∧ F.base % 0x40 ≠ G.base % 0x40) ||
    decide (F.lo + F.len ≤ 32 ∧ (G.lo + G.len ≤ F.lo ∨ F.lo + F.len ≤ G.lo))

theorem off_mod_of_stride {F : Field} (stride : F.stride % 0x40 = 0) (n : Nat) : F.off n % 0x40 = F.base % 0x40 := by
  rw [Field.off, Nat.add_mod, Nat.mul_mod, stride, Nat.zero_mul, Nat.zero_mod, Nat.add_zero, Nat.mod_mod]

theorem fld_setFld_of_valveApart (s : State) {F G : Field} (n v m : Nat) (h : valveApart F G = true) : (s.setFld F n v).fld G m = s.fld G m := by
  simp only [valveApart, Bool.or_eq_true, decide_eq_true_eq] at h
  by_cases same : G.off m = F.off n
  · obtain ⟨strideF, strideG, base⟩ | ⟨fits, beside⟩ := h
    · exact absurd ((off_mod_of_stride strideF n).symm.trans ((congrArg (· % 0x40) same).symm.trans (off_mod_of_stride strideG m))) base
    · exact fld_setFld_beside s v fits same beside
  · exact fld_setFld_elsewhere s v same

theorem bit_setFld_of_valveApart (s : State) {F G : Field} (n v m : Nat) (h : valveApart F G = true) : (s.setFld F n v).bit G m = s.bit G m := by
  rw [State.bit, fld_setFld_of_valveApart s n v m h, State.bit]

theorem bit_setBit_of_valveApart (s : State) {F G : Field} (n m : Nat) (b : Bool) (h : valveApart F G = true) :
    (s.setBit F n b).bit G m = s.bit G m := bit_setFld_of_valveApart s n _ m h

theorem vdCh_setVd (s : State) (n m : Nat) (c : VdCh) : (s.setVd n c).vdCh m = if m = n then c else s.vdCh m :=
  smapGet_set (fun _ => VdCh.init) s.vd n m c

@[simp] theorem vdCh_setVd_same (s : State) (n : Nat) (c : VdCh) : (s.setVd n c).vdCh n = c := by
  rw [vdCh_setVd, if_pos rfl]

theorem bank_setBank (s : State) (b c : Nat) (k : VBank) : (s.setBank b k).bank c = if c = b then k else s.bank c :=
  smapGet_set (fun _ => VBank.init) s.vbank b c k

@[simp] theorem bank_setBank_same (s : State) (b : Nat) (k : VBank) : (s.setBank b k).bank b = k := by
  rw [bank_setBank, if_pos rfl]

theorem fld_setVd (s : State) (n m : Nat) (c : VdCh) (F : Field) : (s.setVd n c).fld F m = s.fld F m := rfl

theorem bit_setVd (s : State) (n m : Nat) (c : VdCh) (F : Field) : (s.setVd n c).bit F m = s.bit F m := rfl

/-! ### What the engine's token and switches pass by (R235, R243 to R245, R252, R254) -/

/-- A view that sees neither the listed fields nor what the engine keeps besides: the contexts of the profiles but for an armed force
of the coil model, the banks' hidden state, the run of inrush windows. -/
structure BlindTo {β : Type} (L : List Field) (g : State → β) : Prop where
  fld : ∀ F ∈ L, ∀ s n v, g (State.setFld s F n v) = g s
  chan : ∀ s n c, c.forceHot = (State.vdCh s n).forceHot → g (State.setVd s n c) = g s
  bank : ∀ s b c, g (State.setBank s b c) = g s
  inrush : ∀ s c v, g (State.setLedger1 s c v) = g s

/-- The fields that move with the peak token. -/
def tokenFields : List Field :=
  [Reg.VALVE.PWAIT.LASTWAIT, Reg.VALVE.PWAIT.MAXWAIT, Reg.VALVE.BANKSTAT.HOLDER, Reg.VALVE.BANKSTAT.SRC_PKS, Reg.VALVE.BANKSTAT.WAITERS,
    Reg.VALVE.PSTAT.PHASE, Reg.VALVE.PSTAT.PK_CUT]

/-- The fields that show a bank switch. -/
def switchFields : List Field := [Reg.VALVE.BANKSTAT.VB_ON, Reg.VALVE.BANKSTAT.ACTIVE]

/-- The fields that show a channel and its bank switch. -/
def showFields : List Field := [Reg.VALVE.STAT.LS_ON, Reg.VALVE.STAT.ACTIVE] ++ switchFields

/-- The fields that move as a profile goes to its RELEASE address or to IDLE. -/
def leaveFields : List Field := Reg.VALVE.PSTAT.PC :: tokenFields ++ showFields

/-- The fields that move as a profile ends. -/
def endFields : List Field := [Reg.VALVE.PSTAT.QUEUED, Reg.VALVE.STAT.EV_DROP, Reg.VALVE.PSTAT.PROT_OFF] ++ leaveFields

section
variable {β : Type} {L : List Field} {g : State → β}

theorem BlindTo.mono {K : List Field} (h : BlindTo L g) (sub : K ⊆ L) : BlindTo K g where
  fld F hF := h.fld F (sub hF)
  chan := h.chan
  bank := h.bank
  inrush := h.inrush

theorem BlindTo.bit (h : BlindTo L g) {F : Field} (hF : F ∈ L) (s : State) (n : Nat) (b : Bool) : g (s.setBit F n b) = g s := h.fld F hF s n _

theorem BlindTo.comp {γ : Type} (h : BlindTo L g) (f : β → γ) : BlindTo L (fun s => f (g s)) where
  fld F hF s n v := congrArg f (h.fld F hF s n v)
  chan s n c hot := congrArg f (h.chan s n c hot)
  bank s b c := congrArg f (h.bank s b c)
  inrush s c v := congrArg f (h.inrush s c v)

theorem BlindTo.ite {P : Prop} [Decidable P] {a b t : State} (first : g a = g t) (second : g b = g t) : g (if P then a else b) = g t := by
  split
  · exact first
  · exact second

theorem bankSource_blind (h : BlindTo [Reg.VALVE.BANKSTAT.SRC_PKS] g) (s : State) (b : Nat) : g (bankSource s b) = g s :=
  h.bit (by decide) s b _

theorem bankSwitch_blind (h : BlindTo switchFields g) (s : State) (b : Nat) : g (bankSwitch s b) = g s := by
  have edge (t : State) (c : Nat) : g (inrushEdge t c) = g t := by simp [inrushEdge, apply_ite g, h.inrush]
  simp +decide [bankSwitch, apply_ite g, edge, h.bit]

theorem vdShow_blind (h : BlindTo showFields g) (s : State) (n : Nat) (b : Bool) : g (vdShow s n b) = g s := by
  simp +decide [vdShow, bankSwitch_blind (h.mono (List.subset_append_right _ _)), h.bit]

section
variable (h : BlindTo tokenFields g)
include h

theorem recordWait_blind (s : State) (n w : Nat) : g (recordWait s n w) = g s := by
  simp +decide [recordWait, h.fld]

omit h in
theorem recordWait_vdCh (s : State) (n w m : Nat) : (recordWait s n w).vdCh m = s.vdCh m := by
  rw [recordWait, State.vdCh, State.setFld_vd, State.setFld_vd, State.vdCh]

theorem bankWaiters_blind (s : State) (b : Nat) : g (bankWaiters s b) = g s := h.fld _ (by decide) s b _

theorem tokenGrant_blind (s : State) (n x : Nat) : g (tokenGrant s n x) = g s := by
  have source := bankSource_blind (h.mono (K := [Reg.VALVE.BANKSTAT.SRC_PKS]) (by decide))
  have context (w : Nat) (c : VdCh) (hot : c.forceHot = (s.vdCh n).forceHot) : g ((recordWait s n w).setVd n c) = g s :=
    (h.chan _ n c (by rw [hot, recordWait_vdCh])).trans (recordWait_blind h s n w)
  unfold tokenGrant
  refine (source _ _).trans ((h.bit (by decide) _ n false).trans ?_)
  exact (h.fld _ (by decide) _ n _).trans ((h.fld _ (by decide) _ _ _).trans (context _ _ (by rfl)))

theorem tokenNext_blind (s : State) (b x : Nat) : g (tokenNext s b x) = g s := by
  have source := bankSource_blind (h.mono (K := [Reg.VALVE.BANKSTAT.SRC_PKS]) (by decide))
  unfold tokenNext
  split
  · exact (bankWaiters_blind h _ b).trans ((source _ b).trans (h.fld _ (by decide) s b 7))
  · exact (bankWaiters_blind h _ b).trans ((tokenGrant_blind h _ _ x).trans (h.bank s b _))

theorem tokenLeave_blind (s : State) (n x : Nat) : g (tokenLeave s n x) = g s := by
  simp [tokenLeave, apply_ite g, tokenNext_blind h, bankWaiters_blind h, h.bank, recordWait_blind h]

end

theorem vdDrop_blind (h : BlindTo [Reg.VALVE.PSTAT.QUEUED, Reg.VALVE.STAT.EV_DROP] g) (s : State) (n : Nat) : g (vdDrop s n) = g s := by
  simp +decide [vdDrop, apply_ite g, h.bit]

section
variable (h : BlindTo leaveFields g)
include h

theorem vdToRelease_blind (s : State) (n x : Nat) (f : Bool) : g (vdToRelease s n x f) = g s := by
  have leaves := tokenLeave_blind (h.mono (K := tokenFields) (by decide)) s n x
  have shows := vdShow_blind (h.mono (K := showFields) (by decide))
  unfold vdToRelease
  refine BlindTo.ite rfl (BlindTo.ite (BlindTo.ite (h.chan s n _ (by rfl)) rfl) ((shows _ n false).trans ?_))
  exact (h.fld _ (by decide) _ n _).trans ((h.fld _ (by decide) _ n _).trans ((h.chan _ n _ (by rfl)).trans leaves))

theorem vdStop_blind (s : State) (n x : Nat) : g (vdStop s n x) = g s := by
  have leaves := tokenLeave_blind (h.mono (K := tokenFields) (by decide)) s n x
  have shows := vdShow_blind (h.mono (K := showFields) (by decide))
  exact (shows _ n false).trans ((h.fld _ (by decide) _ n _).trans ((h.chan _ n _ (by rfl)).trans leaves))

end

theorem vdEnd_blind (h : BlindTo endFields g) (s : State) (n : Nat) : g (vdEnd s n) = g s :=
  (h.bit (by decide) _ n true).trans ((vdDrop_blind (h.mono (by decide)) _ n).trans (vdStop_blind (h.mono (by decide)) s n _))

end

theorem blindTo_fld {L : List Field} {G : Field} (clear : (L.all fun F => valveApart F G) = true) (m : Nat) :
    BlindTo L (fun s => s.fld G m) where
  fld F hF s n v := fld_setFld_of_valveApart s n v m (List.all_eq_true.1 clear F hF)
  chan _ _ _ _ := rfl
  bank _ _ _ := rfl
  inrush _ _ _ := rfl

theorem blindTo_bit {L : List Field} {G : Field} (clear : (L.all fun F => valveApart F G) = true) (m : Nat) :
    BlindTo L (fun s => s.bit G m) :=
  (blindTo_fld clear m).comp (· != 0)

theorem blindTo_now (L : List Field) : BlindTo L State.now := ⟨fun _ _ _ _ _ => rfl, fun _ _ _ _ => rfl, fun _ _ _ => rfl, fun _ _ _ => rfl⟩

theorem blindTo_stands (L : List Field) : BlindTo L State.stands :=
  ⟨fun _ _ _ _ _ => rfl, fun _ _ _ _ => rfl, fun _ _ _ => rfl, fun _ _ _ => rfl⟩

theorem blindTo_ucode (L : List Field) : BlindTo L State.ucode :=
  ⟨fun _ _ _ _ _ => rfl, fun _ _ _ _ => rfl, fun _ _ _ => rfl, fun _ _ _ => rfl⟩

theorem blindTo_collector {L : List Field} (above : (L.all fun F => decide (0x30000 < F.base)) = true) : BlindTo L collectorView where
  fld F hF s n v := setFld_collectorView s n v (of_decide_eq_true (List.all_eq_true.1 above F hF))
  chan _ _ _ _ := rfl
  bank _ _ _ := rfl
  inrush _ _ _ := rfl

/-- An armed force of the coil model. -/
theorem blindTo_forceHot (L : List Field) (m : Nat) : BlindTo L (fun s => (s.vdCh m).forceHot) where
  fld _ _ _ _ _ := rfl
  chan s n c hot := by
    rw [vdCh_setVd]
    split
    · next same => rw [hot, same]
    · rfl
  bank _ _ _ := rfl
  inrush _ _ _ := rfl

end Sys2Proof.Machine
end

section
namespace Sys2Proof.Machine

/-! ### Profiles that go to RELEASE, stop or end (R235, R242, R252) -/

theorem vdDesc_of {s t : State} {n : Nat} (prof : t.fld Reg.VALVE.PSTAT.PROF n = s.fld Reg.VALVE.PSTAT.PROF n) (ucode : t.ucode = s.ucode) :
    vdDesc t n = vdDesc s n := by
  simp only [vdDesc, ucWord, prof, ucode]

/-- STAT shows the low side as it was just switched. -/
theorem vdShow_lowSide (s : State) (n : Nat) (b : Bool) : (vdShow s n b).bit Reg.VALVE.STAT.LS_ON n = b := by
  refine (bankSwitch_blind (blindTo_bit (by decide) n) _ _).trans ?_
  rw [bit_setBit_of_valveApart _ _ _ _ (by decide), bit_setBit_value _ _ _ (by decide) rfl]

/-- A profile that runs and is sent away shows RELEASE, its address, and an open low side. -/
theorem vdToRelease_runs {s : State} {n : Nat} (x : Nat) (f : Bool) (runs : vdPhase s n ≠ vdIdle) (away : vdPhase s n ≠ vdRelease) :
    vdPhase (vdToRelease s n x f) n = vdRelease ∧ (vdToRelease s n x f).fld Reg.VALVE.PSTAT.PC n = descRelease (vdDesc s n) ∧
      (vdToRelease s n x f).bit Reg.VALVE.STAT.LS_ON n = false := by
  have desc : vdDesc (tokenLeave s n x) n = vdDesc s n :=
    vdDesc_of (tokenLeave_blind (blindTo_fld (by decide) n) s n x) (tokenLeave_blind (blindTo_ucode _) s n x)
  have address : descRelease (vdDesc s n) < 2 ^ Reg.VALVE.PSTAT.PC.len := Nat.mod_lt _ (by decide)
  unfold vdToRelease
  simp only [if_neg runs, if_neg away, desc]
  refine ⟨(vdShow_blind (blindTo_fld (by decide) n) _ n false).trans ?_, (vdShow_blind (blindTo_fld (by decide) n) _ n false).trans ?_,
    vdShow_lowSide _ n false⟩
  · rw [fld_setFld_of_valveApart _ _ _ _ (by decide), fld_setFld_same _ _ _ _ (by decide)]
    rfl
  · rw [fld_setFld_same _ _ _ _ (by decide), Nat.mod_eq_of_lt address]

/-- A profile that is sent away, or is away already, is in RELEASE. -/
theorem vdToRelease_phase {s : State} {n : Nat} (x : Nat) (runs : vdPhase s n ≠ vdIdle) : vdPhase (vdToRelease s n x false) n = vdRelease := by
  by_cases away : vdPhase s n = vdRelease
  · rw [vdToRelease, if_neg runs, if_pos away, if_neg Bool.false_ne_true, away]
  · exact (vdToRelease_runs x false runs away).1

theorem vdStop_idle (s : State) (n x : Nat) : vdPhase (vdStop s n x) n = vdIdle ∧ (vdStop s n x).bit Reg.VALVE.STAT.LS_ON n = false :=
  ⟨(vdShow_blind (blindTo_fld (by decide) n) _ n false).trans (fld_setFld_same _ _ _ _ (by decide)), vdShow_lowSide _ n false⟩

/-- A profile has ended: IDLE with its low side open, and PROT_OFF. -/
def VdEnded (t : State) (n : Nat) : Prop :=
  vdPhase t n = vdIdle ∧ t.bit Reg.VALVE.PSTAT.PROT_OFF n = true ∧ t.bit Reg.VALVE.STAT.LS_ON n = false

theorem vdEnd_ended (s : State) (n : Nat) : VdEnded (vdEnd s n) n := by
  obtain ⟨idle, opened⟩ := vdStop_idle s n (stepAt s.now)
  refine ⟨?_, bit_setBit_true _ n (by decide) rfl, ?_⟩
  · exact (fld_setFld_of_valveApart _ n _ n (by decide)).trans ((vdDrop_blind (blindTo_fld (by decide) n) _ n).trans idle)
  · exact (bit_setFld_of_valveApart _ n _ n (by decide)).trans ((vdDrop_blind (blindTo_bit (by decide) n) _ n).trans opened)

/-! ### Microcode writes (R238) -/

theorem ucBlock_ucode (s : State) (b : Nat) : (ucBlock s b).ucode = s.ucode := by
  unfold ucBlock
  exact each_view State.ucode (fun t n => State.setBit_ucode t _ n _) s _

/-- No raise writes the microcode stores. -/
theorem unraised_ucode : Unraised State.ucode where
  fld _ _ _ _ _ := rfl
  clamp _ _ _ := rfl
  abort _ := rfl
  lsw _ _ _ := rfl
  hb _ _ _ := rfl
  vd _ _ _ := rfl
  bank _ _ _ := rfl
  sink _ _ _ := rfl
  stage _ _ _ := rfl
  ledger1 _ _ _ := rfl
  access _ _ := rfl
  collector _ _ _ _ _ := rfl
  flags _ _ := rfl
  log _ _ := rfl
  zone _ _ := rfl
  defer _ _ _ := rfl
  lost _ _ := rfl
  queue _ _ := rfl
  full _ _ := rfl
  stop _ := rfl
  halt _ _ := rfl
  flight _ _ := rfl
  off _ := rfl
  net _ _ := rfl
  dump _ _ := rfl

/-- The store of a bank with one word replaced, the latched low half below the high half `val`. -/
def ucStored (s : State) (bank : Nat) (word : Nat) (val : Word32) : List (Nat × Word) :=
  smapSet (fun _ => 0) s.ucode (bank * 512 + word) (BitVec.ofNat 64 ((s.bank bank).low.2.toNat + val.toNat * 2 ^ 32))

/-- Behind the write of a high half the whole word is stored, and a parity fault of it is past. -/
def ucWritten (s : State) (bank word : Nat) (val : Word32) : State :=
  let t := { s with ucode := ucStored s bank word val }
  ucBlock (t.setBank bank { t.bank bank with
    bad := (t.bank bank).bad.filter (· != word), todo := (t.bank bank).todo.filter (· != word) }) bank

theorem ucWritten_ucode (s : State) (bank word : Nat) (val : Word32) : (ucWritten s bank word val).ucode = ucStored s bank word val :=
  ucBlock_ucode ..

section
variable {s : State} {b : By} {bank : Fin 4} (priv : b.priv = true)
include priv

theorem microcodeWrite_low (rests : bankActive s bank.val = false) (word : BitVec 9) (val : Word32) :
    exec (.microcodeWrite b bank word false val) s = .next (s.setBank bank.val { s.bank bank.val with low := (word.toNat, val) }) := by
  show execMicrocodeWrite b bank word false val s = _
  simp [execMicrocodeWrite, priv, rests]

theorem microcodeWrite_high (rests : bankActive s bank.val = false) {word : BitVec 9} (latched : (s.bank bank.val).low.1 = word.toNat)
    (val : Word32) : exec (.microcodeWrite b bank word true val) s = .next (ucWritten s bank.val word.toNat val) := by
  show execMicrocodeWrite b bank word true val s = _
  simp only [execMicrocodeWrite, priv, rests, latched, Bool.not_true, Bool.false_eq_true, if_false, ne_eq, not_true_eq_false]
  rfl

theorem microcodeWrite_active (runs : bankActive s bank.val = true) (word : BitVec 9) (high : Bool) (val : Word32) :
    exec (.microcodeWrite b bank word high val) s = .next (raiseFault s Flt.VALVE.CFG bank.val 0) := by
  show execMicrocodeWrite b bank word high val s = _
  simp [execMicrocodeWrite, priv, runs]

end

/-- A word of a store, behind the write of one. -/
theorem ucWord_ucWritten (s : State) (b w : Nat) (val : Word32) (c v : Nat) :
    ucWord (ucWritten s b w val) c v = if c * 512 + v = b * 512 + w then (s.bank b).low.2.toNat + val.toNat * 2 ^ 32 else ucWord s c v := by
  have low := (s.bank b).low.2.isLt
  have high := val.isLt
  rw [ucWord, ucWritten_ucode, ucStored, smapGet_set]
  split
  · rw [BitVec.toNat_ofNat, Nat.mod_eq_of_lt (by omega)]
  · rfl

end Sys2Proof.Machine
end

section
namespace Sys2Proof.Machine

/-! ### Starts (R234 to R236) -/

theorem fld_of_regs {s t : State} (h : t.regs = s.regs) (F : Field) (n : Nat) : t.fld F n = s.fld F n := by
  rw [State.fld, State.word, h, State.fld, State.word]

theorem colCount_of_regs {s t : State} (h : t.regs = s.regs) : t.colCount = s.colCount := by
  simp only [State.colCount, State.pair, fld_of_regs h]

theorem vdKeptSafe_of_regs {s t : State} (h : t.regs = s.regs) (n : Nat) : vdKeptSafe t n = vdKeptSafe s n := by
  simp only [vdKeptSafe, State.zoneSafe, held, State.bit, fld_of_regs h]

/-- A committed START is taken, at the count at which the die applies its commit at the latest. -/
def startTaken (s : State) (n : Nat) : State :=
  (s.setEff Reg.VALVE.CMD.START n 0).reach (vdApplied (s.setEff Reg.VALVE.CMD.START n 0))

/-- A start that waits for the end of a release: the profile and the later deadline are kept. -/
def vdQueued (u : State) (n prof d : Nat) : State :=
  let c := u.vdCh n
  let d := if u.bit Reg.VALVE.PSTAT.QUEUED n then max c.qD d else d
  bankSwitch ((u.setVd n { c with qProf := prof, qD := d }).setBit Reg.VALVE.PSTAT.QUEUED n true) (vdBank n)

/-- A start of profile `prof` with deadline `d` at step `x`, by the channel's phase. -/
def vdStarted (u : State) (n prof d x : Nat) : State :=
  let ph := vdPhase u n
  let why := vdRefusal u n (if ph == vdIdle || ph == vdRelease then some prof else none)
  if why ≠ 0 then u.setFlds [(Reg.VALVE.STAT.EV_REFUSED, n, 1), (Reg.VALVE.STAT.REASON, n, why)]
  else if ph = vdIdle then vdBegin u n prof d x
  else if ph = vdRelease then vdQueued u n prof d
  else vdSetD u n (max (vdD u n) d)

theorem startTaken_now (s : State) (n : Nat) : (startTaken s n).now = max s.now (s.colCount + 4) := by
  rw [startTaken, State.reach_now, vdApplied, State.setEff_now, ← Nat.max_assoc, Nat.max_self, colCount_of_regs (State.setEff_regs ..)]

theorem startTaken_effFld (s : State) {F : Field} (n : Nat) (base : F.base = Reg.VALVE.CMD.START.base) (stride : F.stride = 0x80)
    (apart : F.lo + F.len ≤ 16 ∨ 17 ≤ F.lo) : (startTaken s n).effFld F n = s.effFld F n := by
  rw [State.effFld, State.effWord, startTaken, State.reach_eff]
  exact effFld_setEff_neighbour s n 0 (by decide) base stride apart

theorem startTaken_fld (s : State) (n : Nat) (F : Field) (m : Nat) : (startTaken s n).fld F m = s.fld F m :=
  fld_of_regs (by rw [startTaken, State.reach_regs, State.setEff_regs]) F m

theorem startTaken_bit (s : State) (n : Nat) (F : Field) (m : Nat) : (startTaken s n).bit F m = s.bit F m := by
  rw [State.bit, startTaken_fld, State.bit]

theorem startTaken_ucWord (s : State) (n b w : Nat) : ucWord (startTaken s n) b w = ucWord s b w := by
  rw [ucWord, startTaken, State.reach_ucode, State.setEff_ucode, ucWord]

theorem startTaken_phase (s : State) (n m : Nat) : vdPhase (startTaken s n) m = vdPhase s m := startTaken_fld ..

theorem startTaken_deadline (s : State) (n m : Nat) : vdD (startTaken s n) m = vdD s m := by
  simp only [vdD, State.pair, startTaken_fld]

theorem startTaken_done (s : State) (n : Nat) : (startTaken s n).effBit Reg.VALVE.CMD.START n = false := by
  rw [State.effBit, State.effFld, State.effWord, startTaken, State.reach_eff]
  exact congrArg (· != 0) (effFld_setEff_same s _ n 0 (by decide))

theorem valveStart_exec {s : State} {n : Fin 24} (start : s.effBit Reg.VALVE.CMD.START n.val = true)
    (stays : s.effBit Reg.VALVE.CMD.OFF n.val = false) (drives : s.allOff = false) (free : vdKeptSafe s n.val = false) :
    let x := stepAt (max s.now (s.colCount + 4))
    exec (.valveStart n) s = .next (vdStarted (startTaken s n.val) n.val (s.effFld Reg.VALVE.CMD.PROF n.val) (vdDeadline s n.val x) x) := by
  intro x
  have asked : ¬(!s.effBit Reg.VALVE.CMD.START n.val || s.effBit Reg.VALVE.CMD.OFF n.val) = true := by
    simp [start, stays]
  have open' : ¬((s.setEff Reg.VALVE.CMD.START n.val 0).allOff || vdKeptSafe (s.setEff Reg.VALVE.CMD.START n.val 0) n.val) = true := by
    have kept := vdKeptSafe_of_regs (State.setEff_regs s Reg.VALVE.CMD.START n.val 0) n.val
    have off : (s.setEff Reg.VALVE.CMD.START n.val 0).allOff = s.allOff := by
      rw [State.allOff, State.setEff_hwSafe, State.setEff_parked, State.setEff_dom, State.allOff]
    rw [off, kept, drives, free]
    decide
  have prof := startTaken_effFld s (F := Reg.VALVE.CMD.PROF) n.val rfl rfl (by decide)
  have dur := startTaken_effFld s (F := Reg.VALVE.CMD.DUR) n.val rfl rfl (by decide)
  have deadline : vdDeadline (startTaken s n.val) n.val x = vdDeadline s n.val x := by rw [vdDeadline, dur, vdDeadline]
  have step : stepAt (startTaken s n.val).now = x := congrArg stepAt (startTaken_now s n.val)
  rw [← deadline, ← prof, ← step]
  show execValveStart n s = _
  unfold execValveStart
  rw [if_neg asked, if_neg open']
  simp only [vdStarted, apply_ite Host.Outcome.next]
  rfl

theorem bankSwitch_vd (s : State) (b : Nat) : (bankSwitch s b).vd = s.vd := by
  have edge (t : State) (c : Nat) : (inrushEdge t c).vd = t.vd := by simp [inrushEdge, apply_ite State.vd]
  simp [bankSwitch, apply_ite State.vd, edge]

/-- A start that no flag refuses, of a profile whose descriptor is valid where one would run. -/
theorem vdRefusal_none {s : State} {n : Nat} (ok : StartOk s n) (fresh : Bool) :
    vdRefusal (startTaken s n) n (if fresh then some (s.effFld Reg.VALVE.CMD.PROF n) else none) = 0 := by
  obtain ⟨store, coil, bank, prot, valid⟩ := ok
  have desc : descValid (ucWord (startTaken s n) (vdBank n) (s.effFld Reg.VALVE.CMD.PROF n)) = true  := by
    rw [startTaken_ucWord, valid]
  cases fresh with
  | true => simp [vdRefusal, startTaken_bit, store, coil, bank, prot, desc]
  | false => simp [vdRefusal, startTaken_bit, store, coil, bank, prot]

theorem vdRefusal_store {s : State} {n : Nat} (blocked : s.bit Reg.VALVE.PSTAT.UC_BLOCK n = true) (prof : Option Nat) :
    vdRefusal (startTaken s n) n prof = 1 := by
  simp [vdRefusal, startTaken_bit, blocked]

section
variable {s : State} {n d x : Nat}

theorem vdStarted_idle (ok : StartOk s n) (idle : vdPhase s n = vdIdle) :
    vdStarted (startTaken s n) n (s.effFld Reg.VALVE.CMD.PROF n) d x = vdBegin (startTaken s n) n (s.effFld Reg.VALVE.CMD.PROF n) d x := by
  have phase : vdPhase (startTaken s n) n = vdIdle := (startTaken_phase s n n).trans idle
  simp only [vdStarted, vdRefusal_none ok, ne_eq, not_true_eq_false, if_false, phase, if_true]

theorem vdStarted_release (ok : StartOk s n) (away : vdPhase s n = vdRelease) :
    vdStarted (startTaken s n) n (s.effFld Reg.VALVE.CMD.PROF n) d x = vdQueued (startTaken s n) n (s.effFld Reg.VALVE.CMD.PROF n) d := by
  have phase : vdPhase (startTaken s n) n = vdRelease := (startTaken_phase s n n).trans away
  have other : ¬vdRelease = vdIdle := by decide
  simp only [vdStarted, vdRefusal_none ok, ne_eq, not_true_eq_false, if_false, phase, other, if_true]

theorem vdStarted_hold (ok : StartOk s n) (holds : vdPhase s n = vdHold) :
    vdStarted (startTaken s n) n (s.effFld Reg.VALVE.CMD.PROF n) d x = vdSetD (startTaken s n) n (max (vdD s n) d) := by
  have phase : vdPhase (startTaken s n) n = vdHold := (startTaken_phase s n n).trans holds
  have idle : ¬vdHold = vdIdle := by decide
  have away : ¬vdHold = vdRelease := by decide
  simp only [vdStarted, vdRefusal_none ok, ne_eq, not_true_eq_false, if_false, phase, idle, away, startTaken_deadline]

theorem vdStarted_blocked (blocked : s.bit Reg.VALVE.PSTAT.UC_BLOCK n = true) (prof : Nat) :
    vdStarted (startTaken s n) n prof d x = (startTaken s n).setFlds [(Reg.VALVE.STAT.EV_REFUSED, n, 1), (Reg.VALVE.STAT.REASON, n, 1)] := by
  simp only [vdStarted, vdRefusal_store blocked]
  rfl

end

theorem vdD_vdSetD (s : State) (n d : Nat) : vdD (vdSetD s n d) n = d % 2 ^ 64 :=
  pair_setPair s n rfl rfl rfl rfl (by simp only [Field.off, Reg.VALVE.DEADLO.COUNT, Reg.VALVE.DEADHI.COUNT]; omega) d

theorem fld_vdSetD (s : State) {F : Field} (n d m : Nat) (low : valveApart Reg.VALVE.DEADLO.COUNT F = true)
    (high : valveApart Reg.VALVE.DEADHI.COUNT F = true) : (vdSetD s n d).fld F m = s.fld F m :=
  (fld_setFld_of_valveApart _ n _ m high).trans (fld_setFld_of_valveApart s n d m low)

theorem vdShow_deadline (s : State) (n : Nat) (b : Bool) (m : Nat) : vdD (vdShow s n b) m = vdD s m := by
  have low := vdShow_blind (blindTo_fld (G := Reg.VALVE.DEADLO.COUNT) (by decide) m) s n b
  have high := vdShow_blind (blindTo_fld (G := Reg.VALVE.DEADHI.COUNT) (by decide) m) s n b
  simp only [vdD, State.pair, low, high]

/-- A profile that begins: PRE, at its first instruction, with its deadline. -/
theorem vdBegin_begins (s : State) (n : Nat) {prof : Nat} (small : prof < 2 ^ Reg.VALVE.PSTAT.PROF.len) (d x : Nat) :
    vdPhase (vdBegin s n prof d x) n = vdPre ∧ (vdBegin s n prof d x).fld Reg.VALVE.PSTAT.PROF n = prof ∧
      (vdBegin s n prof d x).fld Reg.VALVE.PSTAT.PC n = descEntry (ucWord s (vdBank n) prof) ∧ vdD (vdBegin s n prof d x) n = d % 2 ^ 64 := by
  have entry : descEntry (ucWord s (vdBank n) prof) < 2 ^ Reg.VALVE.PSTAT.PC.len := Nat.mod_lt _ (by decide)
  unfold vdBegin
  simp only [State.setFlds]
  refine ⟨(vdShow_blind (blindTo_fld (by decide) n) _ n false).trans ?_, (vdShow_blind (blindTo_fld (by decide) n) _ n false).trans ?_,
    (vdShow_blind (blindTo_fld (by decide) n) _ n false).trans ?_, (vdShow_deadline ..).trans (vdD_vdSetD ..)⟩
  · rw [fld_vdSetD _ _ _ _ (by decide) (by decide), fld_setFld_of_valveApart _ _ _ _ (by decide), fld_setFld_of_valveApart _ _ _ _ (by decide),
      fld_setFld_of_valveApart _ _ _ _ (by decide), fld_setFld_same _ _ _ _ (by decide)]
    rfl
  · rw [fld_vdSetD _ _ _ _ (by decide) (by decide), fld_setFld_of_valveApart _ _ _ _ (by decide), fld_setFld_of_valveApart _ _ _ _ (by decide),
      fld_setFld_same _ _ _ _ (by decide), Nat.mod_eq_of_lt small]
  · rw [fld_vdSetD _ _ _ _ (by decide) (by decide), fld_setFld_of_valveApart _ _ _ _ (by decide), fld_setFld_same _ _ _ _ (by decide),
      Nat.mod_eq_of_lt entry]

theorem effBit_of_stands {s t : State} (h : t.stands = s.stands) (F : Field) (n : Nat) : t.effBit F n = s.effBit F n := by
  rw [State.effBit, effFld_of_eff (eff_of_stands h), State.effBit]

theorem vdBegin_stands (s : State) (n prof d x : Nat) : (vdBegin s n prof d x).stands = s.stands := by
  simp [vdBegin, vdSetD, State.setPair]

section
variable {s : State} {n : Fin 24} (start : s.effBit Reg.VALVE.CMD.START n.val = true)
  (stays : s.effBit Reg.VALVE.CMD.OFF n.val = false) (drives : s.allOff = false) (free : vdKeptSafe s n.val = false)
include start stays drives free

theorem valveStart_begins (ok : StartOk s n.val) (idle : vdPhase s n.val = vdIdle) : Ends (.valveStart n) s fun t =>
    vdPhase t n.val = vdPre ∧ t.fld Reg.VALVE.PSTAT.PROF n.val = s.effFld Reg.VALVE.CMD.PROF n.val ∧
      t.fld Reg.VALVE.PSTAT.PC n.val = descEntry (ucWord s (vdBank n.val) (s.effFld Reg.VALVE.CMD.PROF n.val)) ∧
      vdD t n.val = vdDeadline s n.val (stepAt (max s.now (s.colCount + 4))) % 2 ^ 64 ∧ t.effBit Reg.VALVE.CMD.START n.val = false := by
  refine ⟨_, (valveStart_exec start stays drives free).trans (congrArg _ (vdStarted_idle ok idle)), ?_⟩
  obtain ⟨phase, prof, pc, deadline⟩ := vdBegin_begins (startTaken s n.val) n.val
    (prof := s.effFld Reg.VALVE.CMD.PROF n.val) (getBits_lt _ _ _) _ _
  exact ⟨phase, prof, pc.trans (by rw [startTaken_ucWord]), deadline,
    (effBit_of_stands (vdBegin_stands ..) _ _).trans (startTaken_done s n.val)⟩

theorem valveStart_queues (ok : StartOk s n.val) (away : vdPhase s n.val = vdRelease) : Ends (.valveStart n) s fun t =>
    t.bit Reg.VALVE.PSTAT.QUEUED n.val = true ∧ (t.vdCh n.val).qProf = s.effFld Reg.VALVE.CMD.PROF n.val ∧ vdPhase t n.val = vdRelease := by
  refine ⟨_, (valveStart_exec start stays drives free).trans (congrArg _ (vdStarted_release ok away)), ?_, ?_, ?_⟩
  · exact (bankSwitch_blind (blindTo_bit (by decide) n.val) _ _).trans (bit_setBit_true _ _ (by decide) rfl)
  · rw [vdQueued, State.vdCh, bankSwitch_vd, State.setBit_vd, ← State.vdCh, vdCh_setVd_same]
  · exact (bankSwitch_blind (blindTo_fld (by decide) n.val) _ _).trans ((fld_setFld_of_valveApart _ _ _ _ (by decide)).trans
      ((fld_setVd ..).trans ((startTaken_phase ..).trans away)))

theorem valveStart_extends (ok : StartOk s n.val) (holds : vdPhase s n.val = vdHold) : Ends (.valveStart n) s fun t =>
    vdD t n.val = max (vdD s n.val) (vdDeadline s n.val (stepAt (max s.now (s.colCount + 4)))) % 2 ^ 64 ∧ vdPhase t n.val = vdHold :=
  ⟨_, (valveStart_exec start stays drives free).trans (congrArg _ (vdStarted_hold ok holds)), vdD_vdSetD ..,
    (fld_vdSetD _ _ _ _ (by decide) (by decide)).trans ((startTaken_phase ..).trans holds)⟩

theorem valveStart_refused (blocked : s.bit Reg.VALVE.PSTAT.UC_BLOCK n.val = true) : Ends (.valveStart n) s fun t =>
    t.bit Reg.VALVE.STAT.EV_REFUSED n.val = true ∧ t.fld Reg.VALVE.STAT.REASON n.val = 1 ∧ vdPhase t n.val = vdPhase s n.val := by
  refine ⟨_, (valveStart_exec start stays drives free).trans (congrArg _ (vdStarted_blocked blocked _)), ?_, ?_, ?_⟩
  · exact (bit_setFld_of_valveApart _ _ _ _ (by decide)).trans (bit_setBit_true (startTaken s n.val) _ (by decide) rfl)
  · exact fld_setFld_same _ _ _ _ (by decide)
  · exact (fld_setFld_of_valveApart _ _ _ _ (by decide)).trans ((fld_setFld_of_valveApart _ _ _ _ (by decide)).trans (startTaken_phase ..))

end

end Sys2Proof.Machine
end

section
namespace Sys2Proof.Machine

/-! ### OFF and rearms (R235, R253) -/

/-- A committed OFF is taken, and a START beside it dropped, at the count at which the die applies its commit at the latest. -/
def offTaken (s : State) (n : Nat) : State :=
  let t := (s.setEff Reg.VALVE.CMD.OFF n 0).setEff Reg.VALVE.CMD.START n 0
  t.reach (vdApplied t)

theorem offTaken_regs (s : State) (n : Nat) : (offTaken s n).regs = s.regs := by
  rw [offTaken, State.reach_regs, State.setEff_regs, State.setEff_regs]

theorem offTaken_phase (s : State) (n m : Nat) : vdPhase (offTaken s n) m = vdPhase s m := fld_of_regs (offTaken_regs s n) _ m

theorem offTaken_desc (s : State) (n m : Nat) : vdDesc (offTaken s n) m = vdDesc s m :=
  vdDesc_of (fld_of_regs (offTaken_regs s n) _ m) (by rw [offTaken, State.reach_ucode, State.setEff_ucode, State.setEff_ucode])

theorem offTaken_done (s : State) (n : Nat) : (offTaken s n).effBit Reg.VALVE.CMD.OFF n = false := by
  have taken : ((s.setEff Reg.VALVE.CMD.OFF n 0).setEff Reg.VALVE.CMD.START n 0).effFld Reg.VALVE.CMD.OFF n = 0 :=
    (effFld_setEff_neighbour _ n 0 (by decide) (by rfl) (by rfl) (by decide)).trans (effFld_setEff_same s _ n 0 (by decide))
  rw [State.effBit, State.effFld, State.effWord, offTaken, State.reach_eff]
  exact congrArg (· != 0) taken

theorem valveOff_exec {s : State} {n : Fin 24} (asked : s.effBit Reg.VALVE.CMD.OFF n.val = true) :
    exec (.valveOff n) s = if vdPhase s n.val = vdRelease then
      .next (bankSwitch ((offTaken s n.val).setBit Reg.VALVE.PSTAT.QUEUED n.val false) (vdBank n.val))
      else .next (vdToRelease (offTaken s n.val) n.val (stepAt (offTaken s n.val).now) false) := by
  rw [← offTaken_phase s n.val n.val]
  show execValveOff n s = _
  unfold execValveOff
  rw [if_neg (by simp [asked])]
  rfl

/-- OFF sends a profile that runs to its RELEASE address. -/
theorem valveOff_releases {s : State} {n : Fin 24} (asked : s.effBit Reg.VALVE.CMD.OFF n.val = true) (runs : vdPhase s n.val ≠ vdIdle)
    (away : vdPhase s n.val ≠ vdRelease) : Ends (.valveOff n) s fun t =>
      vdPhase t n.val = vdRelease ∧ t.fld Reg.VALVE.PSTAT.PC n.val = descRelease (vdDesc s n.val) ∧
        t.bit Reg.VALVE.STAT.LS_ON n.val = false ∧ t.effBit Reg.VALVE.CMD.OFF n.val = false := by
  obtain ⟨phase, pc, opened⟩ := vdToRelease_runs (s := offTaken s n.val) (n := n.val) (stepAt (offTaken s n.val).now) false
    (by rwa [offTaken_phase]) (by rwa [offTaken_phase])
  rw [offTaken_desc] at pc
  exact ⟨_, (valveOff_exec asked).trans (if_neg away), phase, pc, opened,
    (effBit_of_stands (vdToRelease_stands ..) _ _).trans (offTaken_done s n.val)⟩

/-- In RELEASE, OFF cancels a queued start. -/
theorem valveOff_cancels {s : State} {n : Fin 24} (asked : s.effBit Reg.VALVE.CMD.OFF n.val = true) (away : vdPhase s n.val = vdRelease) :
    Ends (.valveOff n) s fun t => t.bit Reg.VALVE.PSTAT.QUEUED n.val = false ∧ vdPhase t n.val = vdRelease := by
  refine ⟨_, (valveOff_exec asked).trans (if_pos away), ?_, ?_⟩
  · exact (bankSwitch_blind (blindTo_bit (by decide) n.val) _ _).trans (bit_setBit_same _ _ _ (by decide))
  · exact (bankSwitch_blind (blindTo_fld (by decide) n.val) _ _).trans
      ((fld_setFld_of_valveApart _ _ _ _ (by decide)).trans ((offTaken_phase ..).trans away))

/-- A rearm that no latch keeps leaves PROT_OFF, of the channel and of its bank. -/
theorem valveRearm_ends {s : State} {n : Fin 24} (asked : s.effBit Reg.VALVE.CMD.REARM n.val = true)
    (cool : s.bit Reg.VALVE.STAT.TLATCH n.val = false) (bankCool : (s.bank (vdBank n.val)).latch = false) : Ends (.valveRearm n) s fun t =>
      t.bit Reg.VALVE.PSTAT.PROT_OFF n.val = false ∧ t.bit Reg.VALVE.BANKSTAT.VB_PROT (vdBank n.val) = false := by
  have cleared : exec (.valveRearm n) s = .next (bankSwitch ((((s.setEff Reg.VALVE.CMD.REARM n.val 0).setBit Reg.VALVE.PSTAT.PROT_OFF
      n.val false).setBit Reg.VALVE.BANKSTAT.VB_PROT (vdBank n.val) false)) (vdBank n.val)) := by
    have latch : (s.setEff Reg.VALVE.CMD.REARM n.val 0).bit Reg.VALVE.STAT.TLATCH n.val = false := by
      rw [State.bit, fld_of_regs (State.setEff_regs ..), ← State.bit, cool]
    have bank : ((s.setEff Reg.VALVE.CMD.REARM n.val 0).bank (vdBank n.val)).latch = false := by
      rw [State.bank, State.setEff_vbank, ← State.bank, bankCool]
    show execValveRearm n s = _
    unfold execValveRearm
    rw [if_neg (by simp [asked])]
    exact if_neg (by rw [latch, bank]; simp)
  refine ⟨_, cleared, ?_, ?_⟩
  · refine (bankSwitch_blind (blindTo_bit (by decide) n.val) _ _).trans ?_
    exact (bit_setFld_of_valveApart _ _ _ _ (by decide)).trans (bit_setBit_same _ _ _ (by decide))
  · exact (bankSwitch_blind (blindTo_bit (by decide) _) _ _).trans (bit_setBit_same _ _ _ (by decide))

/-- Settles O27: microcode by the word that a high half stores (`ucWord_ucWritten`) and by the raise of a bank that runs, starts by the
phase in which they are taken (`vdStarted`), OFF by the release of a profile that runs. A blocked start reports the lowest code that
applies (the model's log 74); PHASE reads RELEASE from the jump (log 79). -/
theorem valveCommandsAct : Obligations.ValveCommandsAct := by
  unfold Obligations.ValveCommandsAct
  refine ⟨fun s b bank word val priv rests => ⟨?_, fun latched => ?_⟩, fun s b bank word high val priv runs live => ?_,
    fun s n start stays drives free => ⟨valveStart_begins start stays drives free, valveStart_queues start stays drives free,
      valveStart_extends start stays drives free, valveStart_refused start stays drives free⟩,
    fun s n asked => ⟨valveOff_releases asked, valveOff_cancels asked⟩, fun s n asked cool bankCool => valveRearm_ends asked cool bankCool⟩
  · exact ⟨_, microcodeWrite_low priv rests word val, by rw [bank_setBank_same], rfl⟩
  · refine ⟨_, microcodeWrite_high priv rests latched val, ?_, fun c w _ hw other => ?_⟩
    · rw [ucWord_ucWritten, if_pos rfl]
    · have small := word.isLt
      rw [ucWord_ucWritten, if_neg (by omega)]
  · exact ⟨_, microcodeWrite_active priv runs word high val, raiseFault_flagged live .., raiseWith_view unraised_ucode ..⟩

end Sys2Proof.Machine
end

section
namespace Sys2Proof.Machine

/-! ### Protections that end the profile (R252) -/

/-- A raise of class F0 that is not escalated leaves what a valve channel shows. -/
theorem VdEnded.of_recorded {s t : State} {n : Nat} (h : Recorded s t) (ended : VdEnded s n) : VdEnded t n := by
  obtain ⟨idle, off, opened⟩ := ended
  exact ⟨(fld_of_word (h.lsw _ n (by decide))).trans idle, (bit_of_word (h.lsw _ n (by decide))).trans off,
    (bit_of_word (h.lsw _ n (by decide))).trans opened⟩

theorem raiseWith_recorded_of_fresh {s : State} (live : Live s) {src unit : Nat} (fresh : Fresh s src unit) (f : Bool) :
    Recorded s (raiseWith s src unit 0 0 f) := raiseWith_recorded_fresh live (not_pending_of_fresh fresh 0) 0 f

theorem vdEnd_live {s : State} (live : Live s) (n : Nat) : Live (vdEnd s n) :=
  live.of_view (vdEnd_blind (blindTo_collector (by decide)) s n)

theorem vdEnd_stands (s : State) (n : Nat) : (vdEnd s n).stands = s.stands := vdEnd_blind (blindTo_stands _) s n

theorem vdToRelease_live {s : State} (live : Live s) (n x : Nat) (f : Bool) : Live (vdToRelease s n x f) :=
  live.of_view (vdToRelease_blind (blindTo_collector (by decide)) s n x f)

theorem tripShown_flags (s : State) (n : Nat) (ev cnt : Field) : (tripShown s n ev cnt).flags = s.flags :=
  (State.setFld_flags ..).trans (State.setBit_flags ..)

/-- The event bit of a protection in STAT and its counter in EVCOUNT, beside the thermal latch. -/
structure ValveTrip (ev cnt : Field) : Prop where
  above : 0x50000 ≤ ev.base ∧ 0x50000 ≤ cnt.base
  latch : valveApart ev Reg.VALVE.STAT.TLATCH = true ∧ valveApart cnt Reg.VALVE.STAT.TLATCH = true

theorem valveTrip_short : ValveTrip Reg.VALVE.STAT.EV_SHORT Reg.VALVE.EVCOUNT.SHORT := ⟨by decide, by decide⟩
theorem valveTrip_open : ValveTrip Reg.VALVE.STAT.EV_OPEN Reg.VALVE.EVCOUNT.OPEN := ⟨by decide, by decide⟩
theorem valveTrip_thermal : ValveTrip Reg.VALVE.STAT.EV_THERM Reg.VALVE.EVCOUNT.THERM := ⟨by decide, by decide⟩

theorem vdTrip_eq (s : State) (n : Nat) (ev cnt : Field) (src : Nat) (f : Bool) :
    vdTrip s n ev (some cnt) src f = raiseWith (vdEnd (tripShown s n ev cnt) n) src n 0 0 f := rfl

section
variable {s : State} {n src : Nat} {ev cnt : Field} (trip : ValveTrip ev cnt) (live : Live s)
include trip live

theorem vdTripped_live : Live (vdEnd (tripShown s n ev cnt) n) := vdEnd_live (tripShown_live live n trip.above) n

theorem vdTrip_flagged (f : Bool) : Flagged (vdTrip s n ev (some cnt) src f) src n 0 := by
  rw [vdTrip_eq]
  exact raiseWith_flagged (vdTripped_live trip live) src n 0 0 f

/-- A trip whose source is not pending ends the profile, and leaves the thermal latch as it is. -/
theorem vdTrip_ends (fresh : Fresh s src n) (f : Bool) : VdEnded (vdTrip s n ev (some cnt) src f) n ∧
    (vdTrip s n ev (some cnt) src f).bit Reg.VALVE.STAT.TLATCH n = s.bit Reg.VALVE.STAT.TLATCH n := by
  have flags : (vdEnd (tripShown s n ev cnt) n).flags = s.flags := (flags_of_stands (vdEnd_stands _ n)).trans (tripShown_flags ..)
  have recorded := raiseWith_recorded_of_fresh (vdTripped_live (n := n) trip live) (fresh.of_flags flags) f
  obtain ⟨latchEv, latchCnt⟩ := trip.latch
  rw [vdTrip_eq]
  refine ⟨(vdEnd_ended _ n).of_recorded recorded, (bit_of_word (recorded.lsw _ n (by decide))).trans ?_⟩
  refine (vdEnd_blind (blindTo_bit (by decide) n) _ n).trans ?_
  exact (bit_setFld_of_valveApart _ n _ n latchCnt).trans (bit_setFld_of_valveApart s n _ n latchEv)

end

theorem vdLive_of {s : State} {n : Nat} (runs : vdPhase s n ≠ vdIdle) (drives : s.allOff = false) : vdLive s n = true := by
  simp [vdLive, runs, drives]

theorem vdShort_exec {s : State} {n : Fin 24} (runs : vdPhase s n.val ≠ vdIdle) (drives : s.allOff = false) : exec (.vdShort n) s =
    .next (vdTrip s n.val Reg.VALVE.STAT.EV_SHORT (some Reg.VALVE.EVCOUNT.SHORT) Flt.VALVE.SHORT false) :=
  congrArg Host.Outcome.next (if_pos (vdLive_of runs drives))

theorem openCoil_exec {s : State} {n : Fin 24} (feeds : vdPhase s n.val = vdPeak ∨ vdPhase s n.val = vdHold) (drives : s.allOff = false) :
    exec (.openCoil n) s = .next (vdTrip s n.val Reg.VALVE.STAT.EV_OPEN (some Reg.VALVE.EVCOUNT.OPEN) Flt.VALVE.OPEN false) := by
  have runs : vdPhase s n.val ≠ vdIdle := by
    obtain peak | hold := feeds
    · rw [peak]; decide
    · rw [hold]; decide
  exact congrArg Host.Outcome.next (if_pos (by simpa [vdLive_of runs drives] using feeds))

/-- The state in which a thermal trip of a valve channel acts: its latch is set (R164). -/
def vdLatched (s : State) (n : Nat) : State := s.setBit Reg.VALVE.STAT.TLATCH n true

theorem vdLatched_live {s : State} (live : Live s) (n : Nat) : Live (vdLatched s n) := setFld_live live n _ (by decide)

theorem vdThermal_eq (s : State) (n : Nat) (f : Bool) : vdThermal s n f =
    vdTrip (vdLatched s n) n Reg.VALVE.STAT.EV_THERM (some Reg.VALVE.EVCOUNT.THERM) Flt.VALVE.THERM f := rfl

theorem vdThermal_flagged {s : State} (live : Live s) (n : Nat) (f : Bool) : Flagged (vdThermal s n f) Flt.VALVE.THERM n 0 := by
  rw [vdThermal_eq]
  exact vdTrip_flagged valveTrip_thermal (vdLatched_live live n) f

/-- A thermal trip whose source is not pending sets the latch, and ends the profile. -/
theorem vdThermal_ends {s : State} (live : Live s) {n : Nat} (fresh : Fresh s Flt.VALVE.THERM n) (f : Bool) :
    VdEnded (vdThermal s n f) n ∧ (vdThermal s n f).bit Reg.VALVE.STAT.TLATCH n = true := by
  have quiet : Fresh (vdLatched s n) Flt.VALVE.THERM n := fresh.of_flags (State.setBit_flags ..)
  obtain ⟨ended, latch⟩ := vdTrip_ends valveTrip_thermal (vdLatched_live live n) quiet f
  rw [vdThermal_eq]
  exact ⟨ended, latch.trans (bit_setBit_true s n (by decide) rfl)⟩

theorem vdOverTemperature_exec {s : State} (n : Fin 24) (drives : s.allOff = false) :
    exec (.vdOverTemperature n) s = .next (vdThermal s n.val false) := congrArg Host.Outcome.next (if_neg (by simp [drives]))

theorem longClamp_raises {s : State} (n : Fin 24) (live : Live s) (drives : s.allOff = false) :
    Raises (.longClamp n) s Flt.VALVE.CLAMP n.val 0 :=
  ⟨_, congrArg Host.Outcome.next (if_neg (by simp [drives])),
    raiseFault_flagged (setFld_live (F := Reg.VALVE.STAT.EV_CLAMP) live n.val 1 (by decide)) ..⟩

/-! ### The end of a peak and of a run (R242, R243, R245) -/

/-- The holder's rail is battery for the rest of its peak, and the cut is shown. -/
def peakMarked (s : State) (n : Nat) : State :=
  ((vdMod s n fun c => { c with battery := true }).setBit Reg.VALVE.PSTAT.PK_CUT n true).satAdd Reg.VALVE.EVCOUNT.PKCUT n 1

theorem peakCut_eq (s : State) (n y : Nat) : peakCut s n y = raiseFault (tokenNext (peakMarked s n) (vdBank n) y) Flt.VALVE.PEAKCUT n 0 := rfl

/-- The fields that move with a cut. -/
def cutFields : List Field := Reg.VALVE.EVCOUNT.PKCUT :: tokenFields

theorem peakMarked_blind {β : Type} {g : State → β} (h : BlindTo [Reg.VALVE.EVCOUNT.PKCUT, Reg.VALVE.PSTAT.PK_CUT] g) (s : State) (n : Nat) :
    g (peakMarked s n) = g s :=
  (h.fld _ (by decide) _ n _).trans ((h.bit (by decide) _ n true).trans (h.chan s n _ (by rfl)))

theorem peakTaken_blind {β : Type} {g : State → β} (h : BlindTo cutFields g) (s : State) (n y : Nat) :
    g (tokenNext (peakMarked s n) (vdBank n) y) = g s :=
  (tokenNext_blind (h.mono (by decide)) _ _ y).trans (peakMarked_blind (h.mono (by decide)) s n)

theorem peakTaken_live {s : State} (live : Live s) (n y : Nat) : Live (tokenNext (peakMarked s n) (vdBank n) y) :=
  live.of_view (peakTaken_blind (blindTo_collector (by decide)) s n y)

theorem peakCut_flagged {s : State} (live : Live s) (n y : Nat) : Flagged (peakCut s n y) Flt.VALVE.PEAKCUT n 0 := by
  rw [peakCut_eq]
  exact raiseFault_flagged (peakTaken_live live n y) ..

theorem peakTaken_fresh {s : State} {n src unit : Nat} (fresh : Fresh s src unit) (y : Nat) :
    Fresh (tokenNext (peakMarked s n) (vdBank n) y) src unit :=
  fresh.of_flags (flags_of_stands (peakTaken_blind (blindTo_stands _) s n y))

theorem peakCut_recorded {s : State} (live : Live s) {n : Nat} (fresh : Fresh s Flt.VALVE.PEAKCUT n) (y : Nat) :
    Recorded (tokenNext (peakMarked s n) (vdBank n) y) (peakCut s n y) := by
  rw [peakCut_eq]
  exact raiseWith_recorded_of_fresh (peakTaken_live live n y) (peakTaken_fresh fresh y) false

/-- With no channel in the queue the token is free. -/
theorem tokenNext_empty {s : State} {b : Nat} (empty : (s.bank b).queue = []) (y : Nat) :
    tokenNext s b y = bankWaiters (bankSource (s.setFld Reg.VALVE.BANKSTAT.HOLDER b 7) b) b := by
  unfold tokenNext
  split
  · rfl
  · next waits => rw [empty] at waits; cases waits

end Sys2Proof.Machine
end

section
namespace Sys2Proof.Machine

theorem peakMarked_bank (s : State) (n b : Nat) : (peakMarked s n).bank b = s.bank b := by
  rw [peakMarked, State.satAdd, State.bank, State.setFld_vbank, State.setBit_vbank, vdMod, State.setVd_vbank, State.bank]

theorem reach_live {s : State} (live : Live s) (c : Nat) : Live (s.reach c) :=
  ⟨live.up, (congrArg (· != 0) (fld_reach ..)).trans live.open', live.quiet⟩

theorem setVd_live {s : State} (live : Live s) (n : Nat) (c : VdCh) : Live (s.setVd n c) :=
  ⟨live.up, (bit_setVd ..).trans live.open', live.quiet⟩

theorem reach_stands (s : State) (c : Nat) : (s.reach c).stands = s.stands := (rfl)

section
variable {s : State} {n : Fin 24} {g : Nat} (granted : (s.vdCh n.val).granted = some g)
  (holds : s.fld Reg.VALVE.BANKSTAT.HOLDER (vdBank n.val) = n.val % 6)
include granted holds

theorem peakCut_exec : exec (.peakCut n) s =
    .next (peakCut (s.reach (100 * (g + descPkMax (vdDesc s n.val)))) n.val (g + descPkMax (vdDesc s n.val))) := by
  show execPeakCut n s = _
  simp only [execPeakCut, granted]
  exact if_pos (beq_iff_eq.2 holds)

theorem peakCut_raises (live : Live s) : Raises (.peakCut n) s Flt.VALVE.PEAKCUT n.val 0 :=
  ⟨_, peakCut_exec granted holds, peakCut_flagged (reach_live live _) ..⟩

/-- PKMAX behind its grant, a holder that nothing waits behind leaves the token free. -/
theorem peakCut_ends (live : Live s) (fresh : Fresh s Flt.VALVE.PEAKCUT n.val) (empty : (s.bank (vdBank n.val)).queue = []) :
    Ends (.peakCut n) s fun t => t.fld Reg.VALVE.BANKSTAT.HOLDER (vdBank n.val) = 7 ∧ t.bit Reg.VALVE.PSTAT.PK_CUT n.val = true ∧
      100 * (g + descPkMax (vdDesc s n.val)) ≤ t.now := by
  refine ⟨_, peakCut_exec granted holds, ?_⟩
  generalize g + descPkMax (vdDesc s n.val) = y
  have recorded := peakCut_recorded (reach_live live (100 * y)) (fresh.of_flags (flags_of_stands (reach_stands s (100 * y)))) y
  have free : ((peakMarked (s.reach (100 * y)) n.val).bank (vdBank n.val)).queue = [] := by
    rw [peakMarked_bank, State.bank, State.reach_vbank, ← State.bank, empty]
  have marked : (peakMarked (s.reach (100 * y)) n.val).bit Reg.VALVE.PSTAT.PK_CUT n.val = true :=
    (bit_setFld_of_valveApart _ _ _ _ (by decide)).trans (bit_setBit_true _ _ (by decide) rfl)
  have now := peakTaken_blind (blindTo_now _) (s.reach (100 * y)) n.val y
  refine ⟨?_, (bit_of_word (recorded.lsw _ _ (by decide))).trans ?_, ?_⟩
  · rw [fld_of_word (recorded.lsw _ _ (by decide)), tokenNext_empty free]
    refine (fld_setFld_of_valveApart _ _ _ _ (by decide)).trans ((fld_setFld_of_valveApart _ _ _ _ (by decide)).trans ?_)
    exact fld_setFld_same _ _ _ _ (by decide)
  · rw [tokenNext_empty free]
    exact (bit_setFld_of_valveApart _ _ _ _ (by decide)).trans ((bit_setFld_of_valveApart _ _ _ _ (by decide)).trans
      ((bit_setFld_of_valveApart _ _ _ _ (by decide)).trans marked))
  · rw [recorded.rest, now, State.reach_now]
    exact Nat.le_max_right ..

end

/-- RUNMAX has passed: the run is noted and shown as over. -/
def runOver (s : State) (n : Nat) : State :=
  (vdMod (s.reach (100 * ((s.vdCh n).start + descRunMax (vdDesc s n) * 1000))) n fun c => { c with ranOut := true }).setBit
    Reg.VALVE.STAT.RUN_TO n true

theorem runOver_phase (s : State) (n : Nat) : vdPhase (runOver s n) n = vdPhase s n :=
  (fld_setFld_of_valveApart _ n _ n (by decide)).trans ((fld_setVd ..).trans (fld_reach ..))

theorem runOver_live {s : State} (live : Live s) (n : Nat) : Live (runOver s n) :=
  setFld_live (setVd_live (reach_live live _) n _) n 1 (by decide)

theorem runOver_stands (s : State) (n : Nat) : (runOver s n).stands = s.stands :=
  (setBit_stands ..).trans ((setVd_stands ..).trans (reach_stands ..))

section
variable {s : State} {n : Fin 24} (runs : vdPhase s n.val ≠ vdIdle) (counts : (s.vdCh n.val).ranOut = false)
  (bound : ¬(vdPhase s n.val = vdHold ∧ vdD s n.val = dForever))
include runs counts bound

theorem runmaxExpiry_exec : ∃ x, exec (.runmaxExpiry n) s =
    .next (raiseFault (vdToRelease (runOver s n.val) n.val x false) Flt.VALVE.RUNMAX n.val 0) :=
  ⟨_, if_neg (by simp [runs, counts, bound])⟩

theorem runmaxExpiry_raises (live : Live s) : Raises (.runmaxExpiry n) s Flt.VALVE.RUNMAX n.val 0 := by
  obtain ⟨x, expires⟩ := runmaxExpiry_exec runs counts bound
  exact ⟨_, expires, raiseFault_flagged (vdToRelease_live (runOver_live live n.val) ..) ..⟩

theorem runmaxExpiry_ends (live : Live s) (fresh : Fresh s Flt.VALVE.RUNMAX n.val) : Ends (.runmaxExpiry n) s fun t =>
    vdPhase t n.val = vdRelease ∧ t.bit Reg.VALVE.STAT.RUN_TO n.val = true := by
  obtain ⟨x, expires⟩ := runmaxExpiry_exec runs counts bound
  have flags := flags_of_stands ((vdToRelease_stands (runOver s n.val) n.val x false).trans (runOver_stands s n.val))
  have recorded := raiseWith_recorded_of_fresh (vdToRelease_live (runOver_live live n.val) n.val x false) (fresh.of_flags flags) false
  refine ⟨_, expires, (fld_of_word (recorded.lsw _ _ (by decide))).trans (vdToRelease_phase x ?_),
    (bit_of_word (recorded.lsw _ _ (by decide))).trans ?_⟩
  · rwa [runOver_phase]
  · exact (vdToRelease_blind (blindTo_bit (by decide) _) _ _ x false).trans (bit_setBit_true _ _ (by decide) rfl)

end

/-! ### The coil model (R249 to R251) -/

/-- The temperature of an update: the model's step, or the limit where it is forced. -/
def coilNext (s : State) (n irms : Nat) : Int := if (s.vdCh n).forceHot then coilMax s n else coilStep s n 100000 irms

/-- The temperature is stored, and a force of the model is past. -/
def coilStored (s : State) (n : Nat) (theta : Int) : State := vdMod (coilStore s n theta) n fun c => { c with forceHot := false }

/-- A hold is derated from the warning on. -/
def coilShown (s : State) (n : Nat) (theta : Int) : State :=
  let t := coilStored s n theta
  if coilWarn t n ≤ theta then t.setBit Reg.VALVE.PSTAT.DERATED n true else t

/-- At the limit a profile that runs is sent to its RELEASE address. -/
def coilReleased (u : State) (n : Nat) : State := (vdToRelease u n (stepAt u.now + 1) false).setBit Reg.VALVE.STAT.EV_COILHOT n true

theorem coilShown_cases (s : State) (n : Nat) (theta : Int) :
    coilShown s n theta = (coilStored s n theta).setBit Reg.VALVE.PSTAT.DERATED n true ∨ coilShown s n theta = coilStored s n theta := by
  simp only [coilShown]
  split
  · exact .inl rfl
  · exact .inr rfl

theorem coilStored_stands (s : State) (n : Nat) (theta : Int) : (coilStored s n theta).stands = s.stands := by
  simp [coilStored, coilStore, vdMod]

theorem coilShown_stands (s : State) (n : Nat) (theta : Int) : (coilShown s n theta).stands = s.stands := by
  obtain derated | plain := coilShown_cases s n theta
  · rw [derated, setBit_stands, coilStored_stands]
  · rw [plain, coilStored_stands]

theorem coilStored_live {s : State} (live : Live s) (n : Nat) (theta : Int) : Live (coilStored s n theta) :=
  setVd_live (setVd_live (setFld_live live n (unsigned 16 theta) (by decide)) n _) n _

theorem coilShown_live {s : State} (live : Live s) (n : Nat) (theta : Int) : Live (coilShown s n theta) := by
  obtain derated | plain := coilShown_cases s n theta
  · rw [derated]
    exact setFld_live (coilStored_live live n theta) n _ (by decide)
  · rw [plain]
    exact coilStored_live live n theta

/-- What an update leaves of the model: the temperature, and no force. -/
def CoilAt (t : State) (n : Nat) (theta : Int) : Prop :=
  t.fld Reg.VALVE.THETA.THETA n = unsigned 16 theta ∧ (t.vdCh n).forceHot = false

theorem coilStored_at (s : State) (n : Nat) (theta : Int) : CoilAt (coilStored s n theta) n theta := by
  have small : unsigned 16 theta < 2 ^ Reg.VALVE.THETA.THETA.len := by
    have len : Reg.VALVE.THETA.THETA.len = 16 := rfl
    rw [unsigned, len]
    omega
  refine ⟨?_, ?_⟩
  · exact (fld_setVd ..).trans ((fld_setVd ..).trans ((fld_setFld_same _ _ _ _ (by decide)).trans (Nat.mod_eq_of_lt small)))
  · rw [coilStored, vdMod, vdCh_setVd_same]

/-- What sees neither THETA nor an armed force keeps what an update leaves. -/
theorem CoilAt.of_eq {s t : State} {n : Nat} {theta : Int} (h : CoilAt s n theta)
    (shown : t.fld Reg.VALVE.THETA.THETA n = s.fld Reg.VALVE.THETA.THETA n) (forced : (t.vdCh n).forceHot = (s.vdCh n).forceHot) :
    CoilAt t n theta := ⟨shown.trans h.1, forced.trans h.2⟩

theorem CoilAt.setBit {s : State} {n : Nat} {theta : Int} (h : CoilAt s n theta) {F : Field} (m : Nat) (b : Bool)
    (clear : valveApart F Reg.VALVE.THETA.THETA = true) : CoilAt (s.setBit F m b) n theta :=
  h.of_eq (fld_setFld_of_valveApart s m _ n clear) (by rw [State.vdCh, State.setBit_vd, State.vdCh])

theorem coilShown_at (s : State) (n : Nat) (theta : Int) : CoilAt (coilShown s n theta) n theta := by
  obtain derated | plain := coilShown_cases s n theta
  · rw [derated]
    exact (coilStored_at s n theta).setBit n true (by decide)
  · rw [plain]
    exact coilStored_at s n theta

theorem CoilAt.released {u : State} {n : Nat} {theta : Int} (h : CoilAt u n theta) : CoilAt (coilReleased u n) n theta :=
  (h.of_eq (vdToRelease_blind (blindTo_fld (by decide) n) u n _ false) (vdToRelease_blind (blindTo_forceHot _ n) u n _ false)).setBit n true
    (by decide)

theorem CoilAt.of_recorded {s t : State} {n : Nat} {theta : Int} (h : CoilAt s n theta) (recorded : Recorded s t) : CoilAt t n theta :=
  h.of_eq (fld_of_word (recorded.lsw _ n (by decide))) (by rw [recorded.rest, State.vdCh, State.vdCh])

theorem coilReleased_live {u : State} (live : Live u) (n : Nat) : Live (coilReleased u n) :=
  setFld_live (vdToRelease_live live n _ false) n 1 (by decide)

theorem coilReleased_flags (s : State) (n : Nat) (theta : Int) : (coilReleased (coilShown s n theta) n).flags = s.flags :=
  flags_of_stands ((setBit_stands ..).trans ((vdToRelease_stands ..).trans (coilShown_stands s n theta)))

theorem coilMax_of_stands {s t : State} (h : t.stands = s.stands) (n : Nat) : coilMax t n = coilMax s n := by
  rw [coilMax, effFld_of_eff (eff_of_stands h), coilMax]

section
variable {s : State} {n : Fin 24} (powered : s.dom.pwr.getLsbD (vdDie n.val) = true) (irms : Nat)
include powered

/-- An update shows the temperature, and at the limit releases the profile and raises its source, with an armed force always. -/
theorem coilModelUpdate_exec : exec (.coilModelUpdate n irms) s = .next
    (raiseWith (coilReleased (coilShown s n.val (coilNext s n.val irms)) n.val) Flt.VALVE.COILHOT n.val 0 0 (s.vdCh n.val).forceHot) ∨
    ((s.vdCh n.val).forceHot = false ∧ exec (.coilModelUpdate n irms) s = .next (coilShown s n.val (coilNext s n.val irms))) := by
  have maxKept := coilMax_of_stands (coilShown_stands s n.val (coilNext s n.val irms)) n.val
  have run : exec (.coilModelUpdate n irms) s = execCoilModelUpdate n irms s := rfl
  rw [run]
  unfold execCoilModelUpdate
  rw [if_neg (by simp [powered])]
  extract_lets forced old theta stored shown runs
  split
  · exact .inl rfl
  · next cool =>
    refine .inr ⟨Bool.eq_false_iff.2 fun armed => cool ⟨?_, .inr (.inr armed)⟩, rfl⟩
    have limit : theta = coilMax s n.val := if_pos armed
    rw [limit]
    exact maxKept.le

/-- An update leaves its temperature, whether the limit is reached or not. -/
theorem coilModelUpdate_ends (live : Live s) (fresh : Fresh s Flt.VALVE.COILHOT n.val) :
    Ends (.coilModelUpdate n irms) s fun t => CoilAt t n.val (coilNext s n.val irms) := by
  have shown := coilShown_at s n.val (coilNext s n.val irms)
  have ready := coilReleased_live (coilShown_live live n.val (coilNext s n.val irms)) n.val
  obtain hot | ⟨-, cool⟩ := coilModelUpdate_exec powered irms
  · exact ⟨_, hot, shown.released.of_recorded (raiseWith_recorded_of_fresh ready (fresh.of_flags (coilReleased_flags ..)) _)⟩
  · exact ⟨_, cool, shown⟩

theorem coilModelUpdate_raises (live : Live s) (armed : (s.vdCh n.val).forceHot = true) :
    Raises (.coilModelUpdate n irms) s Flt.VALVE.COILHOT n.val 0 := by
  obtain hot | ⟨unarmed, -⟩ := coilModelUpdate_exec powered irms
  · exact ⟨_, hot, raiseWith_flagged (coilReleased_live (coilShown_live live ..) n.val) ..⟩
  · rw [armed] at unarmed
    cases unarmed

end

end Sys2Proof.Machine
end

section
namespace Sys2Proof.Machine

/-! ### Protections of a bank (R252) -/

theorem bankSwitch_protected {s : State} {b : Nat} (prot : s.bit Reg.VALVE.BANKSTAT.VB_PROT b = true) :
    (bankSwitch s b).bit Reg.VALVE.BANKSTAT.VB_ON b = false := by
  simp only [bankSwitch, prot, Bool.not_true, Bool.and_false, Bool.false_and, Bool.false_eq_true, if_false]
  exact (bit_setFld_of_valveApart _ b _ b (by decide)).trans (bit_setBit_same _ _ _ (by decide))

/-- A protection of a bank shows, and latches where it is thermal. -/
def bankGuarded (s : State) (b : Nat) (thermal : Bool) : State :=
  let t := s.setBit Reg.VALVE.BANKSTAT.VB_PROT b true
  if thermal then t.setBank b { t.bank b with latch := true } else t

/-- Every profile of the bank ends, and the bank switch opens. -/
def bankTripped (s : State) (b : Nat) (thermal : Bool) : State := bankSwitch ((bankGuarded s b thermal).each vdEnd (bankChans b)) b

theorem bankGuarded_view {β : Type} {g : State → β} (bank : ∀ s b c, g (State.setBank s b c) = g s) (s : State) (b : Nat)
    (thermal : Bool) : g (bankGuarded s b thermal) = g (s.setBit Reg.VALVE.BANKSTAT.VB_PROT b true) := by
  simp only [bankGuarded]
  split
  · exact bank _ b _
  · rfl

theorem bankTripped_blind {β : Type} {g : State → β} (h : BlindTo endFields g) (s : State) (b : Nat) (thermal : Bool) :
    g (bankTripped s b thermal) = g (s.setBit Reg.VALVE.BANKSTAT.VB_PROT b true) :=
  (bankSwitch_blind (h.mono (by decide)) _ b).trans ((each_view g (vdEnd_blind h) _ _).trans (bankGuarded_view h.bank s b thermal))

theorem bankTripped_live {s : State} (live : Live s) (b : Nat) (thermal : Bool) : Live (bankTripped s b thermal) :=
  Live.of_view (setFld_live live b 1 (by decide)) (bankTripped_blind (blindTo_collector (by decide)) s b thermal)

theorem bankTripped_flags (s : State) (b : Nat) (thermal : Bool) : (bankTripped s b thermal).flags = s.flags :=
  flags_of_stands ((bankTripped_blind (blindTo_stands _) s b thermal).trans (setBit_stands ..))

theorem bankTripped_off (s : State) (b : Nat) (thermal : Bool) : (bankTripped s b thermal).bit Reg.VALVE.BANKSTAT.VB_PROT b = true ∧
    (bankTripped s b thermal).bit Reg.VALVE.BANKSTAT.VB_ON b = false := by
  have guarded : (s.setBit Reg.VALVE.BANKSTAT.VB_PROT b true).bit Reg.VALVE.BANKSTAT.VB_PROT b = true := bit_setBit_true s b (by decide) rfl
  have kept := each_view (fun t => t.bit Reg.VALVE.BANKSTAT.VB_PROT b) (vdEnd_blind (blindTo_bit (by decide) b)) (bankGuarded s b thermal)
    (bankChans b)
  refine ⟨(bankTripped_blind (blindTo_bit (by decide) b) s b thermal).trans guarded, bankSwitch_protected ?_⟩
  exact kept.trans ((bankGuarded_view (g := fun t => t.bit Reg.VALVE.BANKSTAT.VB_PROT b) (fun _ _ _ => rfl) s b thermal).trans guarded)

section
variable {s : State} {b : Fin 4} {thermal : Bool} (drives : s.allOff = false)
  (conducts : s.bit Reg.VALVE.BANKSTAT.VB_ON b.val = true ∨ thermal = true)
include drives conducts

theorem vbProtection_exec : exec (.vbProtection b thermal) s =
    .next (raiseFault (bankTripped s b.val thermal) (if thermal then Flt.VALVE.VBTHERM else Flt.VALVE.VBSHORT) b.val 0) :=
  if_neg (by simpa [drives, or_iff_not_imp_left] using conducts)

theorem vbProtection_raises (live : Live s) :
    Raises (.vbProtection b thermal) s (if thermal then Flt.VALVE.VBTHERM else Flt.VALVE.VBSHORT) b.val 0 :=
  ⟨_, vbProtection_exec drives conducts, raiseFault_flagged (bankTripped_live live ..) ..⟩

theorem vbProtection_ends (live : Live s) (fresh : Fresh s (if thermal then Flt.VALVE.VBTHERM else Flt.VALVE.VBSHORT) b.val) :
    Ends (.vbProtection b thermal) s fun t =>
      t.bit Reg.VALVE.BANKSTAT.VB_PROT b.val = true ∧ t.bit Reg.VALVE.BANKSTAT.VB_ON b.val = false := by
  obtain ⟨prot, off⟩ := bankTripped_off s b.val thermal
  have recorded := raiseWith_recorded_of_fresh (bankTripped_live live b.val thermal) (fresh.of_flags (bankTripped_flags s b.val thermal)) false
  exact ⟨_, vbProtection_exec drives conducts, (bit_of_word (recorded.lsw _ _ (by decide))).trans prot,
    (bit_of_word (recorded.lsw _ _ (by decide))).trans off⟩

end

/-! ### The peak supply: READY and the measured capacitance (R230, R231) -/

/-- The fields that follow from V_lim. -/
def limitFields : List Field := [Reg.VALVE.PKSSTAT.VLIM, Reg.VALVE.PKSSTAT.BLEED, Reg.VALVE.PKSSTAT.READY]

theorem pksApply_blind {β : Type} {g : State → β} (h : BlindTo limitFields g) (s : State) : g (pksApply s) = g s :=
  (h.fld _ (by decide) _ 0 _).trans ((h.fld _ (by decide) _ 0 _).trans (h.fld _ (by decide) s 0 _))

theorem pksRuns_setFld (s : State) {F : Field} (n v : Nat) (clear : valveApart F Reg.VALVE.PKSSTAT.OV = true) :
    pksRuns (s.setFld F n v) = pksRuns s := by
  rw [pksRuns, bit_setFld_of_valveApart s n v 0 clear, State.effBit, effFld_setFld, State.setFld_dom, State.allOff, State.setFld_hwSafe,
    State.setFld_parked, State.setFld_dom, pksRuns, State.effBit, State.allOff]

theorem pksApply_ready (s : State) : (pksApply s).bit Reg.VALVE.PKSSTAT.READY 0 = (pksRuns s &&
    (decide (pksVlim s ≤ s.fld Reg.VALVE.PKSSTAT.VPKS 0 + 4) && decide (s.fld Reg.VALVE.PKSSTAT.VPKS 0 ≤ pksVlim s + 4))) := by
  refine (bit_setBit_value _ 0 _ (by decide) rfl).trans ?_
  rw [pksRuns_setFld _ _ _ (by decide)]

theorem pksApply_bleed (s : State) : (pksApply s).bit Reg.VALVE.PKSSTAT.BLEED 0 =
    (!pksRuns s || decide (pksVlim s < s.fld Reg.VALVE.PKSSTAT.VPKS 0)) := by
  refine (bit_setFld_of_valveApart _ 0 _ 0 (by decide)).trans ((bit_setBit_value _ 0 _ (by decide) rfl).trans ?_)
  rw [pksRuns_setFld _ _ _ (by decide)]

theorem pksVlim_le (s : State) : pksVlim s ≤ 240 := by
  have vset : min (max (s.effFld Reg.VALVE.PKSCTL.VSET 0) 80) 240 ≤ 240 := Nat.min_le_right ..
  simp only [pksVlim]
  split
  · exact vset
  · exact (Nat.min_le_left ..).trans vset

/-- The measured voltage does not enter V_lim. -/
theorem pksVlim_measured (s : State) (v : Nat) : pksVlim (s.setFld Reg.VALVE.PKSSTAT.VPKS 0 v) = pksVlim s := by
  have cap : pksCap (s.setFld Reg.VALVE.PKSSTAT.VPKS 0 v) = pksCap s := by
    rw [pksCap, effFld_setFld, fld_setFld_of_valveApart _ _ _ _ (by decide), pksCap]
  rw [pksVlim, cap, effFld_setFld, fld_setFld_elsewhere _ _ (by decide), pksVlim]

section
variable {s : State} (runs : pksRuns s = true)
include runs

/-- Within 1 V of V_lim the charger shows its voltage and READY. -/
theorem pksReady_ends (calm : s.loadDump.getLsbD 0 = false) {vpks : Nat} (low : pksVlim s * 250 ≤ vpks + 1000)
    (high : vpks ≤ pksVlim s * 250 + 1000) : Ends (.pksReady vpks) s fun t =>
      t.fld Reg.VALVE.PKSSTAT.VPKS 0 = vpks / 250 ∧ t.bit Reg.VALVE.PKSSTAT.READY 0 = true := by
  have limit := pksVlim_le s
  have small : vpks / 250 ≤ 255 := by omega
  have charges : exec (.pksReady vpks) s = .next (pksApply (s.setFld Reg.VALVE.PKSSTAT.VPKS 0 (vpks / 250))) := by
    rw [← Nat.min_eq_left small]
    exact if_pos (by rw [runs, calm, decide_eq_true low, decide_eq_true high]; rfl)
  have shown : (s.setFld Reg.VALVE.PKSSTAT.VPKS 0 (vpks / 250)).fld Reg.VALVE.PKSSTAT.VPKS 0 = vpks / 250 :=
    (fld_setFld_same s _ 0 _ (by decide)).trans (Nat.mod_eq_of_lt (Nat.lt_succ_of_le small))
  have below : pksVlim s ≤ vpks / 250 + 4 := by omega
  have above : vpks / 250 ≤ pksVlim s + 4 := by omega
  refine ⟨_, charges, (pksApply_blind (blindTo_fld (by decide) 0) _).trans shown, ?_⟩
  rw [pksApply_ready, pksRuns_setFld _ _ _ (by decide), pksVlim_measured, shown, runs, decide_eq_true below, decide_eq_true above]
  rfl

/-- A measured capacitance is shown, and with it V_lim. -/
def capShown (s : State) (cap : Nat) : State :=
  pksApply (s.setFlds [(Reg.VALVE.PKSSTAT.CMEAS, 0, min cap 0xFFF), (Reg.VALVE.PKSSTAT.CMEAS_VALID, 0, 1)])

omit runs in
theorem capShown_stands (s : State) (cap : Nat) : (capShown s cap).stands = s.stands :=
  (pksApply_blind (blindTo_stands _) _).trans (setFlds_stands s _)

theorem pksCapMeasure_exec (cap : Nat) : exec (.pksCapMeasure cap) s =
    .next (if s.effFld Reg.VALVE.PKSCFG.CAP 0 * 120 < cap * 100 then raiseFault (capShown s cap) Flt.VALVE.PKS noUnit 0
      else capShown s cap) := by
  rw [← effFld_of_eff (eff_of_stands (capShown_stands s cap))]
  exact if_neg (by simp [runs])

theorem pksCapMeasure_ends {cap : Nat} (sound : cap * 100 ≤ s.effFld Reg.VALVE.PKSCFG.CAP 0 * 120) : Ends (.pksCapMeasure cap) s fun t =>
    t.fld Reg.VALVE.PKSSTAT.CMEAS 0 = min cap 0xFFF ∧ t.bit Reg.VALVE.PKSSTAT.CMEAS_VALID 0 = true ∧ t.flags = s.flags := by
  have small : min cap 0xFFF < 2 ^ Reg.VALVE.PKSSTAT.CMEAS.len := Nat.lt_of_le_of_lt (Nat.min_le_right ..) (by decide)
  refine ⟨_, (pksCapMeasure_exec runs cap).trans (congrArg _ (if_neg (Nat.not_lt.2 sound))), ?_, ?_, flags_of_stands (capShown_stands s cap)⟩
  · refine (pksApply_blind (blindTo_fld (by decide) 0) _).trans ((fld_setFld_of_valveApart _ 0 _ 0 (by decide)).trans ?_)
    exact (fld_setFld_same s _ 0 _ (by decide)).trans (Nat.mod_eq_of_lt small)
  · exact (pksApply_blind (blindTo_bit (by decide) 0) _).trans (bit_setBit_true _ 0 (by decide) rfl)

theorem pksCapMeasure_raises (live : Live s) {cap : Nat} (large : s.effFld Reg.VALVE.PKSCFG.CAP 0 * 120 < cap * 100) :
    Raises (.pksCapMeasure cap) s Flt.VALVE.PKS noUnit 0 := by
  have shown : Live (capShown s cap) := Live.of_view (setFld_live (setFld_live live 0 _ (by decide)) 0 1 (by decide))
    (pksApply_blind (blindTo_collector (by decide)) _)
  exact ⟨_, (pksCapMeasure_exec runs cap).trans (congrArg _ (if_pos large)), raiseFault_flagged shown ..⟩

end

end Sys2Proof.Machine
end

section
namespace Sys2Proof.Machine

/-! ### Holders that PKS feeds (R232, R243 to R245) -/

/-- The fields that say who holds a bank's token, and whether PKS feeds it. -/
def holderFields : List Field := [Reg.VALVE.BANKSTAT.SRC_PKS, Reg.VALVE.BANKSTAT.HOLDER]

/-- A bank that PKS feeds has a channel of its own as its holder. -/
def Sourced (s : State) : Prop :=
  ∀ c, c < 4 → s.bit Reg.VALVE.BANKSTAT.SRC_PKS c = true → s.fld Reg.VALVE.BANKSTAT.HOLDER c < 6

theorem Sourced.of_eq {s t : State} (h : Sourced s) (same : ∀ F ∈ holderFields, ∀ c, t.fld F c = s.fld F c) : Sourced t := by
  intro c hc fed
  rw [State.bit, same Reg.VALVE.BANKSTAT.SRC_PKS (by decide)] at fed
  rw [same Reg.VALVE.BANKSTAT.HOLDER (by decide)]
  exact h c hc fed

theorem Sourced.of_recorded {s t : State} (h : Sourced s) (recorded : Recorded s t) : Sourced t :=
  h.of_eq fun F hF c => fld_of_word (recorded.lsw F c (by
    have above : ∀ F ∈ holderFields, 0x50000 ≤ F.base := by decide
    exact above F hF))

/-- What sees neither field keeps the sources. -/
theorem Sourced.of_blind {L : List Field} (clear : (holderFields.all fun G => L.all fun F => valveApart F G) = true) {s t : State}
    (h : Sourced s) (blind : ∀ G c, BlindTo L (fun u => u.fld G c) → t.fld G c = s.fld G c) : Sourced t :=
  h.of_eq fun G hG c => blind G c (blindTo_fld (List.all_eq_true.1 clear G hG) c)

theorem bankstat_off_ne {F G : Field} (hF : F ∈ holderFields) (hG : G ∈ holderFields) {b c : Nat} (other : c ≠ b) :
    G.off c ≠ F.off b := by
  have place : ∀ F ∈ holderFields, F.base = 0x14F004 ∧ F.stride = 0x40 := by decide
  obtain ⟨baseF, strideF⟩ := place F hF
  obtain ⟨baseG, strideG⟩ := place G hG
  rw [Field.off, Field.off, baseF, strideF, baseG, strideG]
  omega

/-- The source of one bank follows its holder; those of the others stand. -/
theorem bankSource_sourced {s : State} {b : Nat}
    (own : s.fld Reg.VALVE.BANKSTAT.HOLDER b < 6 ∨ s.fld Reg.VALVE.BANKSTAT.HOLDER b = 7)
    (others : ∀ c, c < 4 → c ≠ b → s.bit Reg.VALVE.BANKSTAT.SRC_PKS c = true → s.fld Reg.VALVE.BANKSTAT.HOLDER c < 6) :
    Sourced (bankSource s b) := by
  intro c hc fed
  have holder : (bankSource s b).fld Reg.VALVE.BANKSTAT.HOLDER c = s.fld Reg.VALVE.BANKSTAT.HOLDER c :=
    fld_setFld_of_valveApart s b _ c (by decide)
  rw [holder]
  by_cases same : c = b
  · subst same
    refine own.resolve_right fun free => ?_
    have source : (bankSource s c).bit Reg.VALVE.BANKSTAT.SRC_PKS c = _ := bit_setBit_value s c _ (by decide) rfl
    rw [source, free] at fed
    cases fed
  · refine others c hc same ?_
    rw [← fed]
    exact (bit_setFld_elsewhere s _ (bankstat_off_ne (by decide) (by decide) same)).symm

theorem bankWaiters_sourced {s : State} (h : Sourced s) (b : Nat) : Sourced (bankWaiters s b) :=
  h.of_blind (L := [Reg.VALVE.BANKSTAT.WAITERS]) (by decide) fun _ _ blind => blind.fld _ (by decide) s b _

/-- HOLDER of one bank is written, its own channel or none, and the source follows. -/
theorem setHolder_sourced {s t : State} (h : Sourced s) (b : Nat) {v : Nat} (known : v < 6 ∨ v = 7)
    (same : ∀ F ∈ holderFields, ∀ c, t.fld F c = (s.setFld Reg.VALVE.BANKSTAT.HOLDER b v).fld F c) : Sourced (bankSource t b) := by
  have holder := same Reg.VALVE.BANKSTAT.HOLDER (by decide)
  have source := same Reg.VALVE.BANKSTAT.SRC_PKS (by decide)
  have written : (s.setFld Reg.VALVE.BANKSTAT.HOLDER b v).fld Reg.VALVE.BANKSTAT.HOLDER b = v :=
    (fld_setFld_same s _ b v (by decide)).trans (Nat.mod_eq_of_lt (by simp only [Reg.VALVE.BANKSTAT.HOLDER]; omega))
  refine bankSource_sourced (by rwa [holder, written]) fun c hc other fed => ?_
  rw [holder, fld_setFld_elsewhere s v (bankstat_off_ne (by decide) (by decide) other)]
  rw [State.bit, source, fld_setFld_elsewhere s v (bankstat_off_ne (by decide) (by decide) other)] at fed
  exact h c hc fed

theorem recordWait_sourced {s : State} (h : Sourced s) (n w : Nat) : Sourced (recordWait s n w) :=
  h.of_blind (L := [Reg.VALVE.PWAIT.LASTWAIT, Reg.VALVE.PWAIT.MAXWAIT]) (by decide) fun _ _ blind =>
    (blind.fld _ (by decide) _ n _).trans (blind.fld _ (by decide) s n _)

/-- Whichever channel is granted the token, each bank that PKS feeds has a holder. -/
theorem tokenGrant_sourced {s : State} (h : Sourced s) (n x : Nat) : Sourced (tokenGrant s n x) := by
  unfold tokenGrant
  extract_lets b c since waited noted shown
  have held : Sourced noted := (recordWait_sourced h n (x - since)).of_eq fun F _ c => fld_setVd ..
  refine setHolder_sourced (s := noted) (v := n - 6 * b) held b (.inl ?_) fun F hF c => ?_
  · show n - 6 * (n / 6) < 6
    omega
  · have phase : ∀ F ∈ holderFields, valveApart Reg.VALVE.PSTAT.PHASE F = true := by decide
    have cut : ∀ F ∈ holderFields, valveApart Reg.VALVE.PSTAT.PK_CUT F = true := by decide
    exact (fld_setFld_of_valveApart _ n _ c (cut F hF)).trans (fld_setFld_of_valveApart _ n _ c (phase F hF))

theorem tokenNext_sourced {s : State} (h : Sourced s) (b y : Nat) : Sourced (tokenNext s b y) := by
  unfold tokenNext
  split
  · exact bankWaiters_sourced (setHolder_sourced h b (.inr rfl) fun _ _ _ => rfl) b
  · have queued (k : VBank) : Sourced (s.setBank b k) := h.of_eq fun _ _ _ => rfl
    exact bankWaiters_sourced (tokenGrant_sourced (queued _) _ y) b

theorem peakMarked_sourced {s : State} (h : Sourced s) (n : Nat) : Sourced (peakMarked s n) :=
  h.of_blind (by decide) fun _ _ blind => peakMarked_blind blind s n

theorem peakCut_sourced {s : State} (h : Sourced s) (live : Live s) {n : Nat} (fresh : Fresh s Flt.VALVE.PEAKCUT n) (y : Nat) :
    Sourced (peakCut s n y) := (tokenNext_sourced (peakMarked_sourced h n) _ y).of_recorded (peakCut_recorded live fresh y)

/-! ### An overvoltage of the peak supply (R252) -/

/-- An overvoltage is measured and shown. -/
def pksMeasured (s : State) (vpks : Nat) : State :=
  s.setFlds [(Reg.VALVE.PKSSTAT.VPKS, 0, min (vpks / 250) 255), (Reg.VALVE.PKSSTAT.OV, 0, 1)]

/-- With it V_lim is shown, and what follows. -/
def pksOver (s : State) (vpks : Nat) : State := pksApply (pksMeasured s vpks)

/-- The fields of the peak supply that an overvoltage moves. -/
def overFields : List Field := [Reg.VALVE.PKSSTAT.VPKS, Reg.VALVE.PKSSTAT.OV] ++ limitFields

/-- The holder of a bank that PKS feeds is cut. -/
def pksCut (y : Nat) (s : State) (b : Nat) : State :=
  if s.bit Reg.VALVE.BANKSTAT.SRC_PKS b then peakCut s (6 * b + s.fld Reg.VALVE.BANKSTAT.HOLDER b) y else s

theorem pksOvervoltage_exec {s : State} {vpks : Nat} (high : pksVlim s * 250 + 3000 < vpks) : exec (.pksOvervoltage vpks) s =
    .next (raiseFault ((upTo 4).foldl (pksCut (stepAt (pksOver s vpks).now)) (pksOver s vpks)) Flt.VALVE.PKS noUnit 1) :=
  if_neg (Nat.not_le.2 high)

theorem pksOver_blind {β : Type} {g : State → β} (h : BlindTo overFields g) (s : State) (vpks : Nat) : g (pksOver s vpks) = g s :=
  (pksApply_blind (h.mono (by decide)) _).trans ((h.fld _ (by decide) _ 0 1).trans (h.fld _ (by decide) s 0 _))

theorem pksOver_sourced {s : State} (h : Sourced s) (vpks : Nat) : Sourced (pksOver s vpks) :=
  h.of_blind (by decide) fun _ _ blind => pksOver_blind blind s vpks

/-- What the peak supply shows behind an overvoltage: OV, with the charger off and the bleed running. -/
def Bleeds (t : State) : Prop :=
  t.bit Reg.VALVE.PKSSTAT.OV 0 = true ∧ t.bit Reg.VALVE.PKSSTAT.READY 0 = false ∧ t.bit Reg.VALVE.PKSSTAT.BLEED 0 = true

theorem pksOver_bleeds (s : State) (vpks : Nat) : Bleeds (pksOver s vpks) := by
  have overvolted : (pksMeasured s vpks).bit Reg.VALVE.PKSSTAT.OV 0 = true := bit_setBit_true _ 0 (by decide) rfl
  have stopped : pksRuns (pksMeasured s vpks) = false := by
    rw [pksRuns, overvolted, Bool.not_true, Bool.and_false, Bool.false_and, Bool.false_and]
  refine ⟨(pksApply_blind (blindTo_bit (by decide) 0) _).trans overvolted, ?_, ?_⟩
  · rw [pksOver, pksApply_ready, stopped, Bool.false_and]
  · rw [pksOver, pksApply_bleed, stopped, Bool.not_false, Bool.true_or]

theorem Bleeds.of_word {s t : State} (h : Bleeds s) (same : t.word 0x14F108 = s.word 0x14F108) : Bleeds t := by
  obtain ⟨overvolted, ready, bleed⟩ := h
  exact ⟨(bit_of_word same).trans overvolted, (bit_of_word same).trans ready, (bit_of_word same).trans bleed⟩

/-- The states between the cuts of an overvoltage, with the banks of `l` to come: the collector takes raises, none of those to come is
pending, and the peak supply bleeds. -/
structure Cutting (s : State) (l : List Nat) : Prop where
  live : Live s
  supply : Fresh s Flt.VALVE.PKS noUnit
  cuts : ∀ b ∈ l, ∀ h, h < 6 → Fresh s Flt.VALVE.PEAKCUT (6 * b + h)
  sourced : Sourced s
  bleeds : Bleeds s

/-- The peak supply's own register. -/
theorem blindTo_pksstat {β : Type} (f : Word32 → β) : BlindTo cutFields (fun s => f (s.word 0x14F108)) where
  fld F hF s n v := by
    have place : ∀ F ∈ cutFields, F.stride % 0x40 = 0 ∧ F.base % 0x40 ≠ 0x14F108 % 0x40 := by decide
    obtain ⟨stride, base⟩ := place F hF
    have other : 0x14F108 ≠ F.off n := fun same => base ((off_mod_of_stride stride n).symm.trans (congrArg (· % 0x40) same.symm))
    exact congrArg f (word_setWord_ne s _ other)
  chan _ _ _ _ := rfl
  bank _ _ _ := rfl
  inrush _ _ _ := rfl

theorem pksCut_cutting {s : State} {b : Nat} {l : List Nat} (new : b ∉ l) (bank : b < 4) (y : Nat) (h : Cutting s (b :: l)) :
    Cutting (pksCut y s b) l := by
  obtain ⟨live, supply, cuts, sourced, bleeds⟩ := h
  have later : ∀ c ∈ l, ∀ h, h < 6 → Fresh s Flt.VALVE.PEAKCUT (6 * c + h) := fun c hc => cuts c (List.mem_cons_of_mem b hc)
  unfold pksCut
  split
  · next fed =>
    have holder := sourced b bank fed
    generalize s.fld Reg.VALVE.BANKSTAT.HOLDER b = k at holder ⊢
    have fresh := cuts b List.mem_cons_self k holder
    have ready := peakTaken_live live (6 * b + k) y
    have quiet := peakTaken_fresh (n := 6 * b + k) fresh y
    have recorded := peakCut_recorded live fresh y
    refine ⟨raiseFault_live_fresh ready quiet,
      raiseFault_fresh_other ready quiet (fun same => absurd same.1 (by decide)) (peakTaken_fresh supply y),
      fun c hc h hh => raiseFault_fresh_other ready quiet (fun same => ?_) (peakTaken_fresh (later c hc h hh) y),
      peakCut_sourced sourced live fresh y, bleeds.of_word ?_⟩
    · exact new (by rw [show b = c by omega]; exact hc)
    · exact (recorded.words _ (by decide)).trans (peakTaken_blind (blindTo_pksstat id) s _ y)
  · exact ⟨live, supply, later, sourced, bleeds⟩

theorem pksCuts_cutting (y : Nat) {l : List Nat} (nodup : l.Nodup) (banks : ∀ b ∈ l, b < 4) {s : State} (h : Cutting s l) :
    Cutting (l.foldl (pksCut y) s) [] := by
  induction l generalizing s with
  | nil => exact h
  | cons b l ih =>
    obtain ⟨new, nodup⟩ := List.nodup_cons.1 nodup
    obtain ⟨bank, banks⟩ := List.forall_mem_cons.1 banks
    exact ih nodup banks (pksCut_cutting new bank y h)

/-- A raise of class F0 or F1 whose flag is not pending is recorded and no more. -/
theorem raiseFault_recorded_low {s : State} (live : Live s) {src unit cls : Nat} (low : cls ≤ 1)
    (fresh : (⟨src, unit, cls⟩ : FaultFlag) ∉ s.flags) : Recorded s (raiseFault s src unit cls) := by
  have one : Recorded s (raiseOne s ⟨src, unit, cls, 0, s.now, false⟩) := by
    have acted (u : LogRec) : Recorded s (react (logWrite (countRaise (setFlag (setFlag s ⟨src, unit, cls⟩) ⟨src, unit, cls⟩)
        ⟨src, unit, cls, 0, s.now, false⟩ cls) u) cls) :=
      ((((setFlag_recorded s _).trans (setFlag_recorded _ _)).trans (countRaise_recorded _ _ (by omega))).trans
        (logWrite_recorded _ u)).trans (react_recorded _ (by omega))
    unfold raiseOne
    simp only [live.up, live.open', fresh, Bool.not_true, Bool.false_eq_true, if_false, decide_false, Bool.false_and]
    split
    · exact acted _
    · exact acted _
  rw [raiseFault, raiseWith, settleRaises_of_quiet ((congrArg State.raiseQ one.rest).trans live.quiet)]
  exact one

theorem pksOvervoltage_ends {s : State} {vpks : Nat} (high : pksVlim s * 250 + 3000 < vpks) (live : Live s)
    (supply : Fresh s Flt.VALVE.PKS noUnit) (cuts : ∀ n, n < 24 → Fresh s Flt.VALVE.PEAKCUT n) (sourced : Sourced s) :
    Ends (.pksOvervoltage vpks) s fun t => Flagged t Flt.VALVE.PKS noUnit 1 ∧ Bleeds t := by
  have flags : (pksOver s vpks).flags = s.flags := flags_of_stands (pksOver_blind (blindTo_stands _) s vpks)
  have start : Cutting (pksOver s vpks) (upTo 4) :=
    ⟨live.of_view (pksOver_blind (blindTo_collector (by decide)) s vpks), supply.of_flags flags,
      fun b hb h hh => (cuts _ (by have := List.mem_range.1 hb; omega)).of_flags flags, pksOver_sourced sourced vpks, pksOver_bleeds s vpks⟩
  obtain ⟨ready, quiet, -, -, bleeds⟩ := pksCuts_cutting (stepAt (pksOver s vpks).now) List.nodup_range
    (fun b hb => List.mem_range.1 hb) start
  have recorded := raiseFault_recorded_low ready (Nat.le_refl 1) (not_pending_of_fresh quiet 1)
  exact ⟨_, pksOvervoltage_exec high, raiseFault_flagged ready .., bleeds.of_word (recorded.words _ (by decide))⟩

/-- Settles O29: the protections of a channel by the trip that ends its profile (`vdTrip_ends`), the cut and the run's end by the token
and the release they pass through, the coil model by `CoilAt`, a bank's protection by its switch, an overvoltage of the peak supply cut
by cut (`Cutting`). A release reads RELEASE from the jump (the model's log 79); V_lim is in 0.25 V, rounded down (log 83). -/
theorem valveProtectionsReact : Obligations.ValveProtectionsReact := by
  unfold Obligations.ValveProtectionsReact
  refine ⟨⟨fun s n live => ⟨fun runs drives => ⟨?_, fun fresh => ?_⟩, fun feeds drives => ⟨?_, fun fresh => ?_⟩,
      fun drives => ⟨?_, fun fresh => ?_⟩, fun drives => longClamp_raises n live drives,
      fun g granted holds => ⟨peakCut_raises granted holds live, peakCut_ends granted holds live⟩,
      fun runs counts bound => ⟨runmaxExpiry_raises runs counts bound live, runmaxExpiry_ends runs counts bound live⟩,
      fun irms powered fresh => coilModelUpdate_ends powered irms live fresh,
      fun irms powered armed => coilModelUpdate_raises powered irms live armed, fun b forced => ⟨?_, ?_, ?_, ?_⟩⟩,
    fun s b thermal live drives conducts => ⟨vbProtection_raises drives conducts live, vbProtection_ends drives conducts live⟩⟩,
    fun s => ⟨fun vpks runs calm low high => pksReady_ends runs calm low high, fun cap runs sound => pksCapMeasure_ends runs sound,
      fun cap runs live large => pksCapMeasure_raises runs live large,
      fun vpks high live supply cuts sourced => pksOvervoltage_ends high live supply cuts sourced⟩⟩
  · exact ⟨_, vdShort_exec runs drives, vdTrip_flagged valveTrip_short live false⟩
  · exact ⟨_, vdShort_exec runs drives, (vdTrip_ends valveTrip_short live fresh false).1⟩
  · exact ⟨_, openCoil_exec feeds drives, vdTrip_flagged valveTrip_open live false⟩
  · exact ⟨_, openCoil_exec feeds drives, (vdTrip_ends valveTrip_open live fresh false).1⟩
  · exact ⟨_, vdOverTemperature_exec n drives, vdThermal_flagged live n.val false⟩
  · exact ⟨_, vdOverTemperature_exec n drives, vdThermal_ends live fresh false⟩
  · exact ⟨_, congrArg Host.Outcome.next (gated_enabled forced _), vdThermal_flagged live n.val true⟩
  · exact ⟨_, congrArg Host.Outcome.next (gated_enabled forced _), vdTrip_flagged valveTrip_open live true⟩
  · exact ⟨_, congrArg Host.Outcome.next (gated_enabled forced _), vdTrip_flagged valveTrip_short live true⟩
  · exact ⟨_, congrArg Host.Outcome.next (gated_enabled forced _), by rw [vdMod, vdCh_setVd_same], rfl⟩

end Sys2Proof.Machine
end

section
/-!
# Proofs of the family 09_lighting

What bringing a sink, a stage or the matrix to what it should do passes by; protections of sinks, stages and the matrix; rearms,
measurements, the LED model and frames.
-/
namespace Sys2Proof.Machine

/-! ### Fields of the lighting block (R5, R7, R287) -/

/-- Two fields share no bit in any of their first 32 units: they stand in different registers of blocks whose strides are multiples
of 0x20, in blocks that do not overlap, or in different bits. -/
def lightApart (F G : Field) : Bool :=
  decide (F.stride % 0x20 = 0 ∧ G.stride % 0x20 = 0 ∧ F.base % 0x20 ≠ G.base % 0x20) ||
    decide (F.base + F.stride * 31 < G.base ∨ G.base + G.stride * 31 < F.base) ||
    decide (F.lo + F.len ≤ 32 ∧ (G.lo + G.len ≤ F.lo ∨ F.lo + F.len ≤ G.lo))

theorem off_le_of_unit (F : Field) {n : Nat} (unit : n < 32) : F.base ≤ F.off n ∧ F.off n ≤ F.base + F.stride * 31 :=
  ⟨Nat.le_add_right .., Nat.add_le_add_left (Nat.mul_le_mul_left _ (Nat.le_of_lt_succ unit)) _⟩

theorem off_mod_of_stride_mod {F : Field} {d : Nat} (stride : F.stride % d = 0) (n : Nat) : F.off n % d = F.base % d := by
  rw [Field.off, Nat.add_mod, Nat.mul_mod, stride, Nat.zero_mul, Nat.zero_mod, Nat.add_zero, Nat.mod_mod]

section
variable (s : State) {F G : Field} {n m : Nat} (hn : n < 32) (hm : m < 32)
include hn hm

theorem fld_setFld_of_lightApart (v : Nat) (h : lightApart F G = true) : (s.setFld F n v).fld G m = s.fld G m := by
  simp only [lightApart, Bool.or_eq_true, decide_eq_true_eq] at h
  by_cases same : G.off m = F.off n
  · obtain (⟨strideF, strideG, base⟩ | blocks) | ⟨fits, beside⟩ := h
    · have place := congrArg (· % 0x20) same
      simp only [off_mod_of_stride_mod strideF, off_mod_of_stride_mod strideG] at place
      exact absurd place.symm base
    · have inF := off_le_of_unit F hn
      have inG := off_le_of_unit G hm
      omega
    · exact fld_setFld_beside s v fits same beside
  · exact fld_setFld_elsewhere s v same

theorem bit_setFld_of_lightApart (v : Nat) (h : lightApart F G = true) : (s.setFld F n v).bit G m = s.bit G m := by
  rw [State.bit, fld_setFld_of_lightApart s hn hm v h, State.bit]

theorem bit_setBit_of_lightApart (b : Bool) (h : lightApart F G = true) : (s.setBit F n b).bit G m = s.bit G m :=
  bit_setFld_of_lightApart s hn hm _ h

end

theorem sink_setSink_same (s : State) (n : Nat) (c : Sink) : (s.setSink n c).sink n = c :=
  smapGet_set_same (fun _ => Sink.init) s.sinks n c

theorem stage_setStage_same (s : State) (n : Nat) (c : Stage) : (s.setStage n c).stage n = c :=
  smapGet_set_same (fun _ => Stage.init) s.stages n c

theorem sink_setStage (s : State) (n m : Nat) (c : Stage) : (s.setStage n c).sink m = s.sink m := by
  rw [State.sink, State.setStage_sinks, State.sink]

theorem stage_setFld (s : State) (F : Field) (n v m : Nat) : (s.setFld F n v).stage m = s.stage m := by
  rw [State.stage, State.setFld_stages, State.stage]

theorem sink_setFld (s : State) (F : Field) (n v m : Nat) : (s.setFld F n v).sink m = s.sink m := by
  rw [State.sink, State.setFld_sinks, State.sink]

theorem sink_setFlds (s : State) (l : List (Field × Nat × Nat)) (m : Nat) : (s.setFlds l).sink m = s.sink m := by
  induction l generalizing s with
  | nil => rfl
  | cons p l ih => exact (ih _).trans (sink_setFld ..)

theorem fld_setStage (s : State) (n m : Nat) (c : Stage) (F : Field) : (s.setStage n c).fld F m = s.fld F m := rfl

theorem bit_setStage (s : State) (n m : Nat) (c : Stage) (F : Field) : (s.setStage n c).bit F m = s.bit F m := rfl

/-! ### What the lighting units pass by (R263 to R265, R273, R274, R278) -/

/-- A view that sees neither the listed fields of the lighting units nor what the units keep besides, nor the run of inrush windows. -/
structure Unlit {β : Type} (L : List Field) (v : State → β) : Prop where
  fld : ∀ F ∈ L, ∀ s n x, n < 32 → v (State.setFld s F n x) = v s
  sink : ∀ s n c, v (State.setSink s n c) = v s
  stage : ∀ s n c, v (State.setStage s n c) = v s
  inrush : ∀ s c w, v (State.setLedger1 s c w) = v s

/-- The fields that show what a sink does. -/
def sinkFields : List Field := [Reg.LIGHT.SINKMEAS.IEFF, Reg.LIGHT.SINKSTAT.TCAP, Reg.LIGHT.SINKSTAT.ON]

/-- The fields that move behind RUN as a stage starts or stops. -/
def stageFields : List Field := [Reg.LIGHT.STAGESTAT.READY, Reg.LIGHT.SINKMEAS.VALID] ++ sinkFields

/-- The fields that show a frame or line of the matrix. -/
def matrixFields : List Field := [Reg.LIGHT.MXSTAT.FRAME_BUSY, Reg.LIGHT.MXSTAT.LINE_BUSY, Reg.LIGHT.MXSTAT.LINE]

theorem each_view_of_mem {β : Type} {v : State → β} {f : State → Nat → State} {l : List Nat} (h : ∀ s, ∀ n ∈ l, v (f s n) = v s)
    (s : State) : v (s.each f l) = v s :=
  List.foldlRecOn (motive := fun t => v t = v s) l f rfl fun t ht n hn => (h t n hn).trans ht

theorem stageSinks_lt {k n : Nat} (stage : k < 4) (mem : n ∈ stageSinks k) : n < 32 := by
  obtain ⟨i, low, rfl⟩ := List.mem_map.1 mem
  have bound : i < 8 := List.mem_range.1 low
  omega

/-- A stage whose RUN is set begins with no headroom measured; one whose RUN is clear loses READY, its setpoint and, when committed
off or without supply, what it measured. -/
def stageTurned (s : State) (k : Nat) (on was : Bool) : State :=
  if on then (if was then s else
    inrushEdge (s.each (fun s n => s.setBit Reg.LIGHT.SINKMEAS.VALID n false) (stageSinks k)) (116 + k))
  else
    let s := (s.setBit Reg.LIGHT.STAGESTAT.READY k false).setStage k { s.stage k with setp := 0 }
    if s.effBit Reg.LIGHT.STAGECTRL.EN k && s.dom.pwr.getLsbD (stageDie k) then s
    else s.each (fun s n => (s.setSink n { s.sink n with vf := none }).setBit Reg.LIGHT.SINKMEAS.VALID n false) (stageSinks k)

theorem stageApply_eq (s : State) (k : Nat) : stageApply s k =
    (stageTurned (s.setBit Reg.LIGHT.STAGESTAT.RUN k (stageOn s k)) k (stageOn s k) (s.bit Reg.LIGHT.STAGESTAT.RUN k)).each sinkApply
      (stageSinks k) := rfl

section
variable {β : Type} {L : List Field} {v : State → β}

theorem Unlit.mono {K : List Field} (h : Unlit L v) (sub : K ⊆ L) : Unlit K v where
  fld F hF := h.fld F (sub hF)
  sink := h.sink
  stage := h.stage
  inrush := h.inrush

theorem Unlit.bit (h : Unlit L v) {F : Field} (hF : F ∈ L) (s : State) {n : Nat} (hn : n < 32) (b : Bool) : v (s.setBit F n b) = v s :=
  h.fld F hF s n _ hn

theorem sinkApply_unlit (h : Unlit sinkFields v) (s : State) {n : Nat} (hn : n < 32) : v (sinkApply s n) = v s :=
  (h.bit (by decide) _ hn _).trans ((h.bit (by decide) _ hn _).trans (h.fld _ (by decide) s n _ hn))

theorem inrushEdge_unlit (h : Unlit L v) (s : State) (c : Nat) : v (inrushEdge s c) = v s := by
  simp [inrushEdge, apply_ite v, h.inrush]

theorem stageTurned_unlit (h : Unlit stageFields v) (s : State) {k : Nat} (hk : k < 4) (on was : Bool) : v (stageTurned s k on was) = v s := by
  have valid (t : State) {n : Nat} (mem : n ∈ stageSinks k) : v (t.setBit Reg.LIGHT.SINKMEAS.VALID n false) = v t :=
    h.bit (by decide) t (stageSinks_lt hk mem) false
  have ready : v ((s.setBit Reg.LIGHT.STAGESTAT.READY k false).setStage k { s.stage k with setp := 0 }) = v s :=
    (h.stage _ k _).trans (h.bit (by decide) s (by omega) false)
  cases on with
  | true =>
    cases was with
    | true => rfl
    | false => exact (inrushEdge_unlit h _ _).trans (each_view_of_mem (fun t n mem => valid t mem) s)
  | false =>
    rw [stageTurned, if_neg Bool.false_ne_true]
    dsimp only
    split
    · exact ready
    · exact (each_view_of_mem (fun t n mem => (valid _ mem).trans (h.sink t n _)) _).trans ready

/-- Of a stage that is brought to what it should do, such a view sees RUN. -/
theorem stageApply_unlit (h : Unlit stageFields v) (s : State) {k : Nat} (hk : k < 4) :
    v (stageApply s k) = v (s.setBit Reg.LIGHT.STAGESTAT.RUN k (stageOn s k)) := by
  rw [stageApply_eq]
  exact (each_view_of_mem (fun t n mem => sinkApply_unlit (h.mono (by decide)) t (stageSinks_lt hk mem)) _).trans
    (stageTurned_unlit h _ hk _ _)

theorem matrixDark_unlit (h : Unlit matrixFields v) (s : State) : v (matrixDark s) = v s :=
  (h.fld _ (by decide) _ 0 0 (by decide)).trans ((h.fld _ (by decide) _ 0 0 (by decide)).trans (h.fld _ (by decide) s 0 0 (by decide)))

/-- Of the matrix that is brought to what it should do, such a view sees RAIL_OK. -/
theorem matrixApply_unlit (h : Unlit matrixFields v) (s : State) :
    v (matrixApply s) = v (s.setBit Reg.LIGHT.MXSTAT.RAIL_OK 0 (matrixRail s)) := by
  simp only [matrixApply]
  split
  · rfl
  · exact matrixDark_unlit h _

end

theorem unlit_bit {L : List Field} {G : Field} (clear : (L.all fun F => lightApart F G) = true) {m : Nat} (hm : m < 32) :
    Unlit L (fun s => s.bit G m) where
  fld F hF s _ x hn := bit_setFld_of_lightApart s hn hm x (List.all_eq_true.1 clear F hF)
  sink _ _ _ := rfl
  stage _ _ _ := rfl
  inrush _ _ _ := rfl

theorem unlit_fld {L : List Field} {G : Field} (clear : (L.all fun F => lightApart F G) = true) {m : Nat} (hm : m < 32) :
    Unlit L (fun s => s.fld G m) where
  fld F hF s _ x hn := fld_setFld_of_lightApart s hn hm x (List.all_eq_true.1 clear F hF)
  sink _ _ _ := rfl
  stage _ _ _ := rfl
  inrush _ _ _ := rfl

theorem unlit_collector {L : List Field} (above : (L.all fun F => decide (0x30000 < F.base)) = true) : Unlit L collectorView where
  fld F hF s n x _ := setFld_collectorView s n x (of_decide_eq_true (List.all_eq_true.1 above F hF))
  sink _ _ _ := rfl
  stage _ _ _ := rfl
  inrush _ _ _ := rfl

theorem sinkApply_live {s : State} (live : Live s) {n : Nat} (hn : n < 32) : Live (sinkApply s n) :=
  live.of_view (sinkApply_unlit (unlit_collector (by decide)) s hn)

theorem stageApply_live {s : State} (live : Live s) {k : Nat} (hk : k < 4) : Live (stageApply s k) :=
  Live.of_view (setFld_live live k _ (by decide)) (stageApply_unlit (unlit_collector (by decide)) s hk)

theorem setStage_live {s : State} (live : Live s) (k : Nat) (c : Stage) : Live (s.setStage k c) := ⟨live.up, live.open', live.quiet⟩

theorem sinkApply_sink (s : State) (n m : Nat) : (sinkApply s n).sink m = s.sink m := rfl

/-! ### Units that a protection holds off (R275, R280) -/

theorem sinkApply_protected {s : State} {n : Nat} (prot : s.bit Reg.LIGHT.SINKSTAT.PROT_OFF n = true) :
    (sinkApply s n).bit Reg.LIGHT.SINKSTAT.ON n = false :=
  (bit_setBit_value _ n _ (by decide) rfl).trans (by simp [prot])

theorem stageOn_protected {s : State} {k : Nat} (prot : s.bit Reg.LIGHT.STAGESTAT.PROT_OFF k = true) : stageOn s k = false := by
  simp [stageOn, prot]

theorem stageApply_protected {s : State} {k : Nat} (hk : k < 4) (prot : s.bit Reg.LIGHT.STAGESTAT.PROT_OFF k = true) :
    (stageApply s k).bit Reg.LIGHT.STAGESTAT.RUN k = false := by
  rw [stageApply_unlit (unlit_bit (by decide) (by omega)) s hk, bit_setBit_value _ k _ (by decide) rfl, stageOn_protected prot]

theorem stageApply_bit (s : State) {G : Field} {k : Nat} (hk : k < 4)
    (clear : ((Reg.LIGHT.STAGESTAT.RUN :: stageFields).all fun F => lightApart F G) = true) :
    (stageApply s k).bit G k = s.bit G k := by
  have unlit := unlit_bit clear (m := k) (by omega)
  exact (stageApply_unlit (unlit.mono (List.subset_cons_self ..)) s hk).trans (unlit.bit List.mem_cons_self s (by omega) _)

theorem matrixRail_protected {s : State} (prot : s.bit Reg.LIGHT.MXSTAT.PROT_OFF 0 = true) : matrixRail s = false := by
  simp [matrixRail, prot]

end Sys2Proof.Machine
end

section
namespace Sys2Proof.Machine

/-! ### Protections of sinks (R275) -/

/-- Behind a protection's raise that is not escalated the committed commands stand, and the outputs show what the protection left. -/
theorem raiseFault_leaves {s u : State} (live : Live u) (stands : u.stands = s.stands) {src unit cls : Nat} (low : cls ≤ 1)
    (fresh : Fresh s src unit) : (raiseFault u src unit cls).eff = s.eff ∧
      ∀ F n, 0x50000 ≤ F.base → (raiseFault u src unit cls).bit F n = u.bit F n := by
  have recorded := raiseFault_recorded_low live low (not_pending_of_fresh (fresh.of_flags (flags_of_stands stands)) cls)
  exact ⟨recorded.eff.trans (eff_of_stands stands), fun F n above => bit_of_word (recorded.lsw F n above)⟩

/-- An open string is noted and leaves the tracking of its stage. -/
def sinkOpened (s : State) (n : Nat) : State :=
  let t := s.setFlds [(Reg.LIGHT.SINKSTAT.EXCLUDED, n, 1), (Reg.LIGHT.SINKSTAT.EV_OPEN, n, 1)]
  t.setStage (sinkStage n) { t.stage (sinkStage n) with target := stageTarget t (sinkStage n) }

/-- A string short is noted, and with SHRT_ACT the sink goes off. -/
def sinkShorted (s : State) (n : Nat) : State :=
  let t := s.setBit Reg.LIGHT.SINKSTAT.EV_SHORT n true
  if t.effBit Reg.LIGHT.SINKCFG.SHRT_ACT n then sinkApply (t.setBit Reg.LIGHT.SINKSTAT.PROT_OFF n true) n else t

/-- A sink too hot is latched off. -/
def sinkHeated (s : State) (n : Nat) : State :=
  sinkApply (s.setFlds [(Reg.LIGHT.SINKSTAT.TLATCH, n, 1), (Reg.LIGHT.SINKSTAT.EV_THERM, n, 1), (Reg.LIGHT.SINKSTAT.PROT_OFF, n, 1)]) n

theorem sinkOpen_eq (s : State) (n : Nat) (f : Bool) : sinkOpen s n f = raiseWith (sinkOpened s n) Flt.LIGHT.OPEN n 0 0 f := rfl

theorem sinkShort_eq (s : State) (n : Nat) (f : Bool) : sinkShort s n f = raiseWith (sinkShorted s n) Flt.LIGHT.SHORT n 0 0 f := rfl

theorem sinkThermal_eq (s : State) (n : Nat) (f : Bool) : sinkThermal s n f = raiseWith (sinkHeated s n) Flt.LIGHT.THERM n 0 0 f := rfl

theorem sinkOpened_stands (s : State) (n : Nat) : (sinkOpened s n).stands = s.stands := (setStage_stands ..).trans (setFlds_stands ..)

theorem sinkShorted_cases (s : State) (n : Nat) :
    sinkShorted s n = s.setBit Reg.LIGHT.SINKSTAT.EV_SHORT n true ∧ s.effBit Reg.LIGHT.SINKCFG.SHRT_ACT n = false ∨
    sinkShorted s n = sinkApply ((s.setBit Reg.LIGHT.SINKSTAT.EV_SHORT n true).setBit Reg.LIGHT.SINKSTAT.PROT_OFF n true) n := by
  have act : (s.setBit Reg.LIGHT.SINKSTAT.EV_SHORT n true).effBit Reg.LIGHT.SINKCFG.SHRT_ACT n = s.effBit Reg.LIGHT.SINKCFG.SHRT_ACT n :=
    effBit_of_stands (setBit_stands ..) ..
  cases acts : s.effBit Reg.LIGHT.SINKCFG.SHRT_ACT n with
  | true => exact .inr (if_pos (act.trans acts))
  | false => exact .inl ⟨if_neg (by simp [act, acts]), rfl⟩

theorem sinkShorted_stands (s : State) (n : Nat) : (sinkShorted s n).stands = s.stands := by
  obtain ⟨noted, -⟩ | off := sinkShorted_cases s n
  · rw [noted, setBit_stands]
  · rw [off, sinkApply_stands, setBit_stands, setBit_stands]

theorem sinkHeated_stands (s : State) (n : Nat) : (sinkHeated s n).stands = s.stands := (sinkApply_stands ..).trans (setFlds_stands ..)

section
variable {s : State} (live : Live s)
include live

theorem sinkOpened_live (n : Nat) : Live (sinkOpened s n) :=
  setStage_live (setFld_live (setFld_live live n 1 (by decide)) n 1 (by decide)) _ _

theorem sinkShorted_live {n : Nat} (hn : n < 32) : Live (sinkShorted s n) := by
  have noted : Live (s.setBit Reg.LIGHT.SINKSTAT.EV_SHORT n true) := setFld_live live n 1 (by decide)
  obtain ⟨left, -⟩ | off := sinkShorted_cases s n
  · rw [left]
    exact noted
  · rw [off]
    exact sinkApply_live (setFld_live noted n 1 (by decide)) hn

theorem sinkHeated_live {n : Nat} (hn : n < 32) : Live (sinkHeated s n) :=
  sinkApply_live (setFld_live (setFld_live (setFld_live live n 1 (by decide)) n 1 (by decide)) n 1 (by decide)) hn

end

theorem bit_setFld_one (s : State) {F : Field} (n : Nat) (hF : F.lo + F.len ≤ 32) (one : F.len = 1) : (s.setFld F n 1).bit F n = true :=
  bit_setBit_true s n hF one

theorem sinkOpened_excluded (s : State) {n : Nat} (hn : n < 32) : (sinkOpened s n).bit Reg.LIGHT.SINKSTAT.EXCLUDED n = true := by
  simp only [sinkOpened, State.setFlds]
  rw [bit_setStage, bit_setFld_of_lightApart _ hn hn _ (by decide), bit_setFld_one _ n (by decide) rfl]

/-- A sink that a protection holds off: PROT_OFF, and not ON. -/
def SinkOff (t : State) (n : Nat) : Prop := t.bit Reg.LIGHT.SINKSTAT.PROT_OFF n = true ∧ t.bit Reg.LIGHT.SINKSTAT.ON n = false

theorem sinkApply_off {s : State} {n : Nat} (hn : n < 32) (prot : s.bit Reg.LIGHT.SINKSTAT.PROT_OFF n = true) : SinkOff (sinkApply s n) n :=
  ⟨(sinkApply_unlit (unlit_bit (by decide) hn) s hn).trans prot, sinkApply_protected prot⟩

theorem sinkShorted_shows (s : State) {n : Nat} (hn : n < 32) : (sinkShorted s n).bit Reg.LIGHT.SINKSTAT.EV_SHORT n = true ∧
    (s.effBit Reg.LIGHT.SINKCFG.SHRT_ACT n = true → SinkOff (sinkShorted s n) n) := by
  have event := bit_setBit_true s (F := Reg.LIGHT.SINKSTAT.EV_SHORT) n (by decide) rfl
  obtain ⟨noted, ignored⟩ | off := sinkShorted_cases s n
  · rw [noted, ignored]
    exact ⟨event, fun acts => absurd acts Bool.false_ne_true⟩
  · rw [off]
    refine ⟨(sinkApply_unlit (unlit_bit (by decide) hn) _ hn).trans ((bit_setBit_of_lightApart _ hn hn true (by decide)).trans event),
      fun _ => sinkApply_off hn (bit_setBit_true _ n (by decide) rfl)⟩

theorem sinkHeated_shows (s : State) {n : Nat} (hn : n < 32) :
    (sinkHeated s n).bit Reg.LIGHT.SINKSTAT.TLATCH n = true ∧ SinkOff (sinkHeated s n) n := by
  refine ⟨(sinkApply_unlit (unlit_bit (by decide) hn) _ hn).trans ?_, sinkApply_off hn (bit_setFld_one _ n (by decide) rfl)⟩
  exact (bit_setFld_of_lightApart _ hn hn 1 (by decide)).trans ((bit_setFld_of_lightApart _ hn hn 1 (by decide)).trans
    (bit_setFld_one s n (by decide) rfl))

theorem SinkOff.of_bits {t u : State} {n : Nat} (off : SinkOff u n) (shown : ∀ F m, 0x50000 ≤ F.base → t.bit F m = u.bit F m) : SinkOff t n := by
  obtain ⟨prot, dark⟩ := off
  exact ⟨(shown _ n (by decide)).trans prot, (shown _ n (by decide)).trans dark⟩

section
variable {s : State} {n : Fin 32}

section
variable (runs : s.bit Reg.LIGHT.STAGESTAT.RUN (sinkStage n.val) = true) (asked : sinkAsked s n.val ≠ 0)
include runs asked

theorem sinkLive_of_runs : sinkLive s n.val = true := by
  simp [sinkLive, runs, asked]

theorem openString_exec (tracked : s.bit Reg.LIGHT.SINKSTAT.EXCLUDED n.val = false) :
    exec (.openString n) s = .next (raiseFault (sinkOpened s n.val) Flt.LIGHT.OPEN n.val 0) :=
  congrArg Host.Outcome.next ((if_pos (by rw [sinkLive_of_runs runs asked, tracked]; rfl)).trans (sinkOpen_eq s n.val false))

theorem stringShort_exec : exec (.stringShort n) s = .next (raiseFault (sinkShorted s n.val) Flt.LIGHT.SHORT n.val 0) :=
  congrArg Host.Outcome.next ((if_pos (sinkLive_of_runs runs asked)).trans (sinkShort_eq s n.val false))

end

theorem sinkOverTemperature_exec (n : Fin 32) (drives : s.allOff = false) :
    exec (.sinkOverTemperature n) s = .next (raiseFault (sinkHeated s n.val) Flt.LIGHT.THERM n.val 0) :=
  congrArg Host.Outcome.next ((if_neg (by simp [drives])).trans (sinkThermal_eq s n.val false))

theorem openString_reacts (live : Live s) (runs : s.bit Reg.LIGHT.STAGESTAT.RUN (sinkStage n.val) = true) (asked : sinkAsked s n.val ≠ 0)
    (tracked : s.bit Reg.LIGHT.SINKSTAT.EXCLUDED n.val = false) : Raises (.openString n) s Flt.LIGHT.OPEN n.val 0 ∧
      (Fresh s Flt.LIGHT.OPEN n.val → Ends (.openString n) s fun t => t.bit Reg.LIGHT.SINKSTAT.EXCLUDED n.val = true ∧ t.eff = s.eff) := by
  have ready := sinkOpened_live live n.val
  refine ⟨⟨_, openString_exec runs asked tracked, raiseFault_flagged ready ..⟩, fun fresh => ⟨_, openString_exec runs asked tracked, ?_⟩⟩
  obtain ⟨eff, shown⟩ := raiseFault_leaves ready (sinkOpened_stands s n.val) (Nat.zero_le 1) fresh
  exact ⟨(shown _ _ (by decide)).trans (sinkOpened_excluded s n.isLt), eff⟩

theorem stringShort_reacts (live : Live s) (runs : s.bit Reg.LIGHT.STAGESTAT.RUN (sinkStage n.val) = true) (asked : sinkAsked s n.val ≠ 0) :
    Raises (.stringShort n) s Flt.LIGHT.SHORT n.val 0 ∧ (Fresh s Flt.LIGHT.SHORT n.val → Ends (.stringShort n) s fun t =>
      t.eff = s.eff ∧ t.bit Reg.LIGHT.SINKSTAT.EV_SHORT n.val = true ∧
        (s.effBit Reg.LIGHT.SINKCFG.SHRT_ACT n.val = true → SinkOff t n.val)) := by
  have ready := sinkShorted_live live n.isLt
  refine ⟨⟨_, stringShort_exec runs asked, raiseFault_flagged ready ..⟩, fun fresh => ⟨_, stringShort_exec runs asked, ?_⟩⟩
  obtain ⟨eff, shown⟩ := raiseFault_leaves ready (sinkShorted_stands s n.val) (Nat.zero_le 1) fresh
  obtain ⟨event, off⟩ := sinkShorted_shows s n.isLt
  exact ⟨eff, (shown _ _ (by decide)).trans event, fun acts => (off acts).of_bits shown⟩

theorem sinkOverTemperature_reacts (n : Fin 32) (live : Live s) (drives : s.allOff = false) :
    Raises (.sinkOverTemperature n) s Flt.LIGHT.THERM n.val 0 ∧ (Fresh s Flt.LIGHT.THERM n.val → Ends (.sinkOverTemperature n) s fun t =>
      t.eff = s.eff ∧ t.bit Reg.LIGHT.SINKSTAT.TLATCH n.val = true ∧ SinkOff t n.val) := by
  have ready := sinkHeated_live live n.isLt
  refine ⟨⟨_, sinkOverTemperature_exec n drives, raiseFault_flagged ready ..⟩, fun fresh => ⟨_, sinkOverTemperature_exec n drives, ?_⟩⟩
  obtain ⟨eff, shown⟩ := raiseFault_leaves ready (sinkHeated_stands s n.val) (Nat.zero_le 1) fresh
  obtain ⟨latched, off⟩ := sinkHeated_shows s n.isLt
  exact ⟨eff, (shown _ _ (by decide)).trans latched, off.of_bits shown⟩

end

/-! ### Protections of stages and the matrix (R275, R280) -/

/-- The event bit that shows a stage protection. -/
def tripEvent : StageTrip → Field
  | .overvoltage => Reg.LIGHT.STAGESTAT.EV_OV
  | .short => Reg.LIGHT.STAGESTAT.EV_OSHORT
  | .leak => Reg.LIGHT.STAGESTAT.EV_LEAK
  | .thermal => Reg.LIGHT.STAGESTAT.EV_THERM

/-- A stage protection shows, and latches where it is thermal. -/
def stageGuarded (s : State) (k : Nat) (trip : StageTrip) : State :=
  let t := (s.setBit (tripEvent trip) k true).setBit Reg.LIGHT.STAGESTAT.PROT_OFF k true
  if trip = .thermal then t.setBit Reg.LIGHT.STAGESTAT.TLATCH k true else t

theorem stageTrip_eq (s : State) (k : Nat) (trip : StageTrip) (f : Bool) : stageTrip s k trip f =
    raiseWith (stageApply (stageGuarded s k trip) k) (if trip = .leak then Flt.LIGHT.LEAK else Flt.LIGHT.STAGE) k
      (if trip = .leak then 1 else 0) 0 f := by
  cases trip <;> rfl

theorem tripEvent_above (trip : StageTrip) : 0x30000 < (tripEvent trip).base := by
  cases trip <;> decide

theorem stageGuarded_stands (s : State) (k : Nat) (trip : StageTrip) : (stageGuarded s k trip).stands = s.stands := by
  simp [stageGuarded]

theorem stageGuarded_live {s : State} (live : Live s) (k : Nat) (trip : StageTrip) : Live (stageGuarded s k trip) := by
  have shown := setFld_live (setFld_live live k 1 (tripEvent_above trip)) (F := Reg.LIGHT.STAGESTAT.PROT_OFF) k 1 (by decide)
  unfold stageGuarded
  split
  · exact setFld_live shown k 1 (by decide)
  · exact shown

theorem stageGuarded_shows (s : State) {k : Nat} (hk : k < 4) (trip : StageTrip) :
    (stageGuarded s k trip).bit Reg.LIGHT.STAGESTAT.PROT_OFF k = true ∧
      (trip = .thermal → (stageGuarded s k trip).bit Reg.LIGHT.STAGESTAT.TLATCH k = true) := by
  have unit : k < 32 := by omega
  have prot := bit_setBit_true (s.setBit (tripEvent trip) k true) (F := Reg.LIGHT.STAGESTAT.PROT_OFF) k (by decide) rfl
  unfold stageGuarded
  split
  · exact ⟨(bit_setBit_of_lightApart _ unit unit true (by decide)).trans prot, fun _ => bit_setBit_true _ k (by decide) rfl⟩
  · next cool => exact ⟨prot, fun hot => absurd hot cool⟩

/-- What a stage protection leaves: PROT_OFF, not RUN, and a thermal one its latch. -/
theorem stageTripped_shows (s : State) {k : Nat} (hk : k < 4) (trip : StageTrip) : let t := stageApply (stageGuarded s k trip) k
    t.bit Reg.LIGHT.STAGESTAT.PROT_OFF k = true ∧ t.bit Reg.LIGHT.STAGESTAT.RUN k = false ∧
      (trip = .thermal → t.bit Reg.LIGHT.STAGESTAT.TLATCH k = true) := by
  obtain ⟨prot, latched⟩ := stageGuarded_shows s hk trip
  exact ⟨(stageApply_bit _ hk (by decide)).trans prot, stageApply_protected hk prot,
    fun hot => (stageApply_bit _ hk (by decide)).trans (latched hot)⟩

theorem stageProtection_exec {s : State} {g : Fin 4} {trip : StageTrip}
    (meets : if trip = .thermal then s.allOff = false
      else s.bit Reg.LIGHT.STAGESTAT.RUN g.val = true ∧ (trip = .short → s.bit Reg.LIGHT.STAGESTAT.READY g.val = true)) :
    exec (.stageProtection g trip) s = .next (stageTrip s g.val trip false) := by
  refine congrArg Host.Outcome.next (if_pos ?_)
  cases trip with
  | thermal => simpa using meets
  | short => simpa using meets
  | overvoltage => exact meets.1
  | leak => exact meets.1

theorem stageProtection_reacts {s : State} {g : Fin 4} {trip : StageTrip} (live : Live s)
    (meets : if trip = .thermal then s.allOff = false
      else s.bit Reg.LIGHT.STAGESTAT.RUN g.val = true ∧ (trip = .short → s.bit Reg.LIGHT.STAGESTAT.READY g.val = true)) :
    let src := if trip = .leak then Flt.LIGHT.LEAK else Flt.LIGHT.STAGE
    Raises (.stageProtection g trip) s src g.val (if trip = .leak then 1 else 0) ∧
    (Fresh s src g.val → Ends (.stageProtection g trip) s fun t => t.eff = s.eff ∧
      t.bit Reg.LIGHT.STAGESTAT.PROT_OFF g.val = true ∧ t.bit Reg.LIGHT.STAGESTAT.RUN g.val = false ∧
      (trip = .thermal → t.bit Reg.LIGHT.STAGESTAT.TLATCH g.val = true)) := by
  have ready := stageApply_live (stageGuarded_live live g.val trip) g.isLt
  have stands := (stageApply_stands (stageGuarded s g.val trip) g.val).trans (stageGuarded_stands s g.val trip)
  have low : (if trip = .leak then 1 else 0) ≤ 1 := by split <;> decide
  have run := (stageProtection_exec meets).trans (congrArg _ (stageTrip_eq s g.val trip false))
  refine ⟨⟨_, run, raiseWith_flagged ready ..⟩, fun fresh => ⟨_, run, ?_⟩⟩
  obtain ⟨eff, shown⟩ := raiseFault_leaves ready stands low fresh
  obtain ⟨prot, stopped, latched⟩ := stageTripped_shows s g.isLt trip
  exact ⟨eff, (shown _ _ (by decide)).trans prot, (shown _ _ (by decide)).trans stopped,
    fun hot => (shown _ _ (by decide)).trans (latched hot)⟩

theorem lightForces_raise {s : State} (live : Live s) {b : By} (forced : Forced s b) (n : Fin 32) :
    Raises (.lightForceLeak b n) s Flt.LIGHT.LEAK (sinkStage n.val) 1 ∧ Raises (.lightForceTherm b n) s Flt.LIGHT.THERM n.val 0 ∧
      Raises (.lightForceShort b n) s Flt.LIGHT.SHORT n.val 0 ∧ Raises (.lightForceOpen b n) s Flt.LIGHT.OPEN n.val 0 := by
  have stage : sinkStage n.val < 4 := Nat.div_lt_of_lt_mul n.isLt
  have acts (act : State → State) {u : State} (act_eq : act s = u) : Host.Outcome.next (φ := Fault) (ρ := Refusal) (gated s b act) = .next u :=
    congrArg _ ((gated_enabled forced act).trans act_eq)
  refine ⟨⟨_, acts _ (stageTrip_eq ..), ?_⟩, ⟨_, acts _ (sinkThermal_eq ..), ?_⟩, ⟨_, acts _ (sinkShort_eq ..), ?_⟩,
    ⟨_, acts _ (sinkOpen_eq ..), ?_⟩⟩
  · exact raiseWith_flagged (stageApply_live (stageGuarded_live live (sinkStage n.val) .leak) stage) ..
  · exact raiseWith_flagged (sinkHeated_live live n.isLt) ..
  · exact raiseWith_flagged (sinkShorted_live live n.isLt) ..
  · exact raiseWith_flagged (sinkOpened_live live n.val) ..

section
variable {s : State} (live : Live s) (busy : mxBusy s = true)
include live busy

theorem matrixDiag_column_raises (c : Fin 16) : Raises (.matrixDiag (.column c)) s Flt.LIGHT.MXCOL c.val 0 := by
  have noted : Live { s with matrix := { s.matrix with seenCols := (s.matrix.seenCols ++ [c.val]).eraseDups } } :=
    ⟨live.up, live.open', live.quiet⟩
  exact ⟨_, if_neg (by simp [busy]), raiseFault_flagged (setFld_live noted 0 _ (by decide)) ..⟩

theorem matrixDiag_line_raises (l : Fin 12) : Raises (.matrixDiag (.line l)) s Flt.LIGHT.MXLINE l.val 0 := by
  have noted : Live { s with matrix := { s.matrix with lineOff := (s.matrix.lineOff ++ [l.val]).eraseDups } } :=
    ⟨live.up, live.open', live.quiet⟩
  exact ⟨_, if_neg (by simp [busy]), raiseFault_flagged (setFld_live noted 0 _ (by decide)) ..⟩

end

/-- A protection of the rail switches it off. -/
theorem matrixDiag_rail_ends {s : State} (rail : matrixRail s = true) : Ends (.matrixDiag .rail) s fun t =>
    t.bit Reg.LIGHT.MXSTAT.PROT_OFF 0 = true ∧ t.bit Reg.LIGHT.MXSTAT.RAIL_OK 0 = false := by
  have prot := bit_setBit_true s (F := Reg.LIGHT.MXSTAT.PROT_OFF) 0 (by decide) rfl
  refine ⟨_, congrArg Host.Outcome.next (if_pos rail), (matrixApply_unlit (unlit_bit (by decide) (by decide)) _).trans ?_,
    (matrixApply_unlit (unlit_bit (by decide) (by decide)) _).trans ?_⟩
  · exact (bit_setBit_of_lightApart _ (by decide) (by decide) _ (by decide)).trans prot
  · rw [bit_setBit_value _ 0 _ (by decide) rfl, matrixRail_protected prot]

end Sys2Proof.Machine
end

section
namespace Sys2Proof.Machine

/-! ### Rearms (R276, R280) -/

theorem effBit_setEff_zero (s : State) {F : Field} (n : Nat) (hF : F.lo + F.len ≤ 32) : (s.setEff F n 0).effBit F n = false := by
  rw [State.effBit, effFld_setEff_same s F n 0 hF, Nat.zero_mod]
  rfl

/-- A request is taken back in what is acted on, and stays so behind what touches no committed command. -/
theorem effBit_taken {s t : State} {F : Field} {n : Nat} (stands : t.stands = (s.setEff F n 0).stands) (hF : F.lo + F.len ≤ 32) :
    t.effBit F n = false := (effBit_of_stands stands F n).trans (effBit_setEff_zero s n hF)

/-- A sink behind its rearm. -/
def sinkRearmed (s : State) (n : Nat) : State :=
  sinkApply ((s.setEff Reg.LIGHT.SINKCTRL.REARM n 0).setFlds
    [(Reg.LIGHT.SINKSTAT.PROT_OFF, n, 0), (Reg.LIGHT.SINKSTAT.EXCLUDED, n, 0)]) n

theorem sinkRearm_ends {s : State} {n : Fin 32} (asks : s.effBit Reg.LIGHT.SINKCTRL.REARM n.val = true)
    (cool : s.bit Reg.LIGHT.SINKSTAT.TLATCH n.val = false) : Ends (.sinkRearm n) s fun t =>
      t.bit Reg.LIGHT.SINKSTAT.PROT_OFF n.val = false ∧ t.bit Reg.LIGHT.SINKSTAT.EXCLUDED n.val = false ∧
        t.effBit Reg.LIGHT.SINKCTRL.REARM n.val = false := by
  have run : exec (.sinkRearm n) s = .next (sinkRearmed s n.val) := by
    refine (if_neg (by simp [asks])).trans (if_neg ?_)
    rw [bit_setEff, cool]
    exact Bool.false_ne_true
  refine ⟨_, run, (sinkApply_unlit (unlit_bit (by decide) n.isLt) _ n.isLt).trans ?_,
    (sinkApply_unlit (unlit_bit (by decide) n.isLt) _ n.isLt).trans ?_, effBit_taken (s := s) ?_ (by decide)⟩
  · exact (bit_setFld_of_lightApart _ n.isLt n.isLt 0 (by decide)).trans (bit_setBit_same _ _ _ (by decide))
  · exact bit_setBit_same _ _ _ (by decide)
  · exact (sinkApply_stands ..).trans (setFlds_stands ..)

/-- A stage behind its rearm. -/
def stageRearmed (s : State) (k : Nat) : State :=
  stageApply ((s.setEff Reg.LIGHT.STAGECTRL.REARM k 0).setBit Reg.LIGHT.STAGESTAT.PROT_OFF k false) k

theorem stageRearm_ends {s : State} {g : Fin 4} (asks : s.effBit Reg.LIGHT.STAGECTRL.REARM g.val = true)
    (cool : s.bit Reg.LIGHT.STAGESTAT.TLATCH g.val = false) (quiet : s.raiseQ = []) : Ends (.stageRearm g) s fun t =>
      t.bit Reg.LIGHT.STAGESTAT.PROT_OFF g.val = false ∧ t.effBit Reg.LIGHT.STAGECTRL.REARM g.val = false := by
  have waits : (stageRearmed s g.val).raiseQ = [] := by
    have kept := stageApply_unlit (unlit_collector (by decide))
      ((s.setEff Reg.LIGHT.STAGECTRL.REARM g.val 0).setBit Reg.LIGHT.STAGESTAT.PROT_OFF g.val false) g.isLt
    simp only [collectorView, Prod.mk.injEq] at kept
    obtain ⟨-, -, waits⟩ := kept
    exact waits.trans quiet
  have run : exec (.stageRearm g) s = .next (stageRearmed s g.val) := by
    rw [← settleRaises_of_quiet waits]
    refine (if_neg (by simp [asks])).trans (if_neg ?_)
    rw [bit_setEff, cool]
    exact Bool.false_ne_true
  refine ⟨_, run, (stageApply_bit _ g.isLt (by decide)).trans (bit_setBit_same _ _ _ (by decide)), effBit_taken (s := s) ?_ (by decide)⟩
  exact (stageApply_stands ..).trans (setBit_stands ..)

theorem matrixRearm_ends {s : State} (asks : s.effBit Reg.LIGHT.MXCTRL.REARM 0 = true) : Ends .matrixRearm s fun t =>
    t.bit Reg.LIGHT.MXSTAT.PROT_OFF 0 = false ∧ t.effBit Reg.LIGHT.MXCTRL.REARM 0 = false := by
  refine ⟨_, if_neg (by simp [asks]), (matrixApply_unlit (unlit_bit (by decide) (by decide)) _).trans ?_, effBit_taken (s := s) ?_ (by decide)⟩
  · exact (bit_setBit_of_lightApart _ (by decide) (by decide) _ (by decide)).trans (bit_setBit_same _ _ _ (by decide))
  · exact (matrixApply_stands ..).trans (setBit_stands ..)

/-! ### Headroom, setpoint and READY (R272 to R274) -/

/-- A headroom measurement is kept and shown. -/
def headroomShown (s : State) (n hr vout : Nat) : State :=
  (s.setSink n { s.sink n with vf := some (vout - hr), hr := hr }).setFlds
    [(Reg.LIGHT.SINKMEAS.HR, n, min (hr / 10) 0xFFF), (Reg.LIGHT.SINKMEAS.VALID, n, 1),
      (Reg.LIGHT.LEDTH.VF, n, min ((vout - hr) / 20) 0xFFF), (Reg.LIGHT.STAGESTAT.VOUT, sinkStage n, min (vout / 20) 0xFFF),
      (Reg.LIGHT.SINKSTAT.DROPOUT, n, if hr + 200 < stageHR s (sinkStage n) then 1 else 0)]

theorem headroomMeasure_exec {s : State} {n : Fin 32} (runs : s.bit Reg.LIGHT.STAGESTAT.RUN (sinkStage n.val) = true)
    (asked : sinkAsked s n.val ≠ 0) (hr vout : Nat) : ∃ c, exec (.headroomMeasure n hr vout) s =
      .next ((headroomShown s n.val hr vout).setStage (sinkStage n.val) c) :=
  ⟨_, if_neg (by simp [runs, asked])⟩

theorem headroomShown_meas (s : State) {n : Nat} (hn : n < 32) (hr vout : Nat) :
    (headroomShown s n hr vout).fld Reg.LIGHT.SINKMEAS.HR n = min (hr / 10) 0xFFF ∧
      (headroomShown s n hr vout).bit Reg.LIGHT.SINKMEAS.VALID n = true := by
  have stage : sinkStage n < 32 := Nat.lt_of_le_of_lt (Nat.div_le_self ..) hn
  have small : min (hr / 10) 0xFFF < 2 ^ Reg.LIGHT.SINKMEAS.HR.len := Nat.lt_of_le_of_lt (Nat.min_le_right ..) (by decide)
  simp only [headroomShown, State.setFlds]
  refine ⟨?_, ?_⟩
  · rw [fld_setFld_of_lightApart _ hn hn _ (by decide), fld_setFld_of_lightApart _ stage hn _ (by decide),
      fld_setFld_of_lightApart _ hn hn _ (by decide), fld_setFld_of_lightApart _ hn hn _ (by decide),
      fld_setFld_same _ _ _ _ (by decide), Nat.mod_eq_of_lt small]
  · rw [bit_setFld_of_lightApart _ hn hn _ (by decide), bit_setFld_of_lightApart _ stage hn _ (by decide),
      bit_setFld_of_lightApart _ hn hn _ (by decide), bit_setFld_one _ n (by decide) rfl]

theorem headroomShown_dropout (s : State) (n hr vout : Nat) :
    (headroomShown s n hr vout).bit Reg.LIGHT.SINKSTAT.DROPOUT n = decide (hr + 200 < stageHR s (sinkStage n)) := by
  simp only [headroomShown, State.setFlds]
  rw [State.bit, fld_setFld_same _ _ _ _ (by decide)]
  split
  · next low => exact (decide_eq_true low).symm
  · next high => exact (decide_eq_false high).symm

theorem headroomMeasure_ends {s : State} {n : Fin 32} (runs : s.bit Reg.LIGHT.STAGESTAT.RUN (sinkStage n.val) = true)
    (asked : sinkAsked s n.val ≠ 0) (hr vout : Nat) : Ends (.headroomMeasure n hr vout) s fun t =>
      (t.sink n.val).vf = some (vout - hr) ∧ t.fld Reg.LIGHT.SINKMEAS.HR n.val = min (hr / 10) 0xFFF ∧
        t.bit Reg.LIGHT.SINKMEAS.VALID n.val = true ∧
        t.bit Reg.LIGHT.SINKSTAT.DROPOUT n.val = decide (hr + 200 < stageHR s (sinkStage n.val)) := by
  obtain ⟨c, run⟩ := headroomMeasure_exec runs asked hr vout
  obtain ⟨shown, valid⟩ := headroomShown_meas s n.isLt hr vout
  refine ⟨_, run, ?_, (fld_setStage ..).trans shown, (bit_setStage ..).trans valid,
    (bit_setStage ..).trans (headroomShown_dropout s n.val hr vout)⟩
  rw [sink_setStage, headroomShown, sink_setFlds, sink_setSink_same]

/-- The setpoint moves towards the target by at most 50 mV. -/
def setpointNext (p v : Nat) : Nat := if p < v then min (p + 50) v else max (p - 50) v

theorem setpointNext_moves (p v : Nat) : let q := setpointNext p v
    q ≤ p + 50 ∧ p ≤ q + 50 ∧ (p ≤ v → p ≤ q ∧ q ≤ v) ∧ (v ≤ p → v ≤ q ∧ q ≤ p) := by
  intro q
  simp only [q, setpointNext]
  split
  · omega
  · omega

/-- A stage behind a step of its setpoint. -/
def stageStepped (s : State) (k : Nat) : Stage :=
  { s.stage k with setp := setpointNext (s.stage k).setp (stageTarget s k), target := stageTarget s k }

theorem setpointStep_exec {s : State} {g : Fin 4} (runs : s.bit Reg.LIGHT.STAGESTAT.RUN g.val = true) (vout : Nat) :
    exec (.setpointStep g vout) s =
      .next ((s.setStage g.val (stageStepped s g.val)).setFld Reg.LIGHT.STAGESTAT.VOUT g.val (min (vout / 20) 0xFFF)) :=
  if_neg (by simp [runs])

theorem setpointStep_ends {s : State} {g : Fin 4} (runs : s.bit Reg.LIGHT.STAGESTAT.RUN g.val = true) (vout : Nat) :
    Ends (.setpointStep g vout) s fun t =>
      let p := (s.stage g.val).setp; let q := (t.stage g.val).setp; let v := stageTarget s g.val
      (t.stage g.val).target = v ∧ q ≤ p + 50 ∧ p ≤ q + 50 ∧ (p ≤ v → p ≤ q ∧ q ≤ v) ∧ (v ≤ p → v ≤ q ∧ q ≤ p) := by
  have stepped : ((s.setStage g.val (stageStepped s g.val)).setFld Reg.LIGHT.STAGESTAT.VOUT g.val (min (vout / 20) 0xFFF)).stage g.val =
      stageStepped s g.val := by rw [stage_setFld, stage_setStage_same]
  refine ⟨_, setpointStep_exec runs vout, ?_⟩
  dsimp only
  rw [stepped]
  exact ⟨rfl, setpointNext_moves ..⟩

theorem stageReady_ends {s : State} {g : Fin 4} {vout : Nat} (runs : s.bit Reg.LIGHT.STAGESTAT.RUN g.val = true)
    (low : stageTarget s g.val ≤ vout + 500) (high : vout ≤ stageTarget s g.val + 500) :
    Ends (.stageReady g vout) s fun t => t.bit Reg.LIGHT.STAGESTAT.READY g.val = true :=
  ⟨_, if_pos (by simp [runs, low, high]), bit_setFld_one _ _ (by decide) rfl⟩

end Sys2Proof.Machine
end

section
namespace Sys2Proof.Machine

/-! ### The LED model (R269 to R271) -/

/-- The model of a sink's LED with a new rise, over the reference of its die. -/
def ledKept (s : State) (n : Nat) (rise ref : Int) : State :=
  let t := { s with dieRef := smapSet (fun _ => 0) s.dieRef (sinkDie n) ref }
  t.setSink n { t.sink n with
    rise := rise, first := (t.sink n).first || (sinkSource t n).isNone, modelAt := some (slowNow t),
    modSeen := some (t.effWord (Reg.LIGHT.LEDMOD.REG.off n)).toNat }

/-- LEDTH shows the temperature and the terrace of the new rise. -/
def ledShown (s : State) (n : Nat) (rise ref : Int) : State :=
  let t := ledKept s n rise ref
  t.setFlds [(Reg.LIGHT.LEDTH.THETA, n, unsigned 16 (ledTheta t n rise)),
    (Reg.LIGHT.LEDTH.TERRACE, n, terraceOf t (sinkStage n) (ledTheta t n rise) (t.fld Reg.LIGHT.LEDTH.TERRACE n))]

/-- Behind an update of the LED model of sink `n`: its rise and temperature are stored, and a raise would be the first. -/
structure Modelled (s t : State) (n : Nat) (rise theta : Int) : Prop where
  rise : (t.sink n).rise = rise
  theta : t.fld Reg.LIGHT.LEDTH.THETA n = unsigned 16 theta
  live : Live t
  flags : t.flags = s.flags

theorem ledTheta_reference {s : State} {n : Nat} (own : sinkSource s n = none) (rise ref : Int) :
    ledTheta (ledKept s n rise ref) n rise = ref - -rise / 2 ^ 32 := by
  have source : sinkSource (ledKept s n rise ref) n = none := own
  have reference : smapGet (fun _ => 0) (ledKept s n rise ref).dieRef (sinkDie n) = ref :=
    smapGet_set_same (fun _ => (0 : Int)) s.dieRef (sinkDie n) ref
  rw [ledTheta, sinkTsrc, source, reference]

section
variable {s t : State} {n : Nat} {rise theta : Int} (hn : n < 32)
include hn

theorem ledShown_modelled (live : Live s) (ref : Int) : Modelled s (ledShown s n rise ref) n rise (ledTheta (ledKept s n rise ref) n rise) where
  rise := by
    simp only [ledShown, sink_setFlds, ledKept, sink_setSink_same]
  theta := by
    have small (x : Int) : unsigned 16 x < 2 ^ Reg.LIGHT.LEDTH.THETA.len := by
      have len : Reg.LIGHT.LEDTH.THETA.len = 16 := rfl
      rw [unsigned, len]
      omega
    simp only [ledShown, State.setFlds]
    rw [fld_setFld_of_lightApart _ hn hn _ (by decide), fld_setFld_same _ _ _ _ (by decide), Nat.mod_eq_of_lt (small _)]
  live := by
    have kept : Live (ledKept s n rise ref) := ⟨live.up, live.open', live.quiet⟩
    exact setFld_live (setFld_live kept n _ (by decide)) n _ (by decide)
  flags := flags_of_stands ((setFlds_stands ..).trans (setSink_stands ..))

/-- A bit of SINKSTAT is not seen by the model. -/
theorem Modelled.setBit (h : Modelled s t n rise theta) {F : Field} (b : Bool) (clear : lightApart F Reg.LIGHT.LEDTH.THETA = true)
    (above : 0x30000 < F.base) : Modelled s (t.setBit F n b) n rise theta where
  rise := h.rise
  theta := (fld_setFld_of_lightApart t hn hn _ clear).trans h.theta
  live := setFld_live h.live n _ above
  flags := h.flags

theorem Modelled.sinkApply (h : Modelled s t n rise theta) : Modelled s (sinkApply t n) n rise theta where
  rise := (congrArg Sink.rise (sinkApply_sink t n n)).trans h.rise
  theta := (sinkApply_unlit (unlit_fld (by decide) hn) t hn).trans h.theta
  live := sinkApply_live h.live hn
  flags := (flags_of_stands (sinkApply_stands t n)).trans h.flags

omit hn in
/-- A raise that is not escalated leaves rise and temperature. -/
theorem Modelled.raised (h : Modelled s t n rise theta) {src unit : Nat} (fresh : Fresh s src unit) :
    ((raiseFault t src unit 0).sink n).rise = rise ∧ (raiseFault t src unit 0).fld Reg.LIGHT.LEDTH.THETA n = unsigned 16 theta := by
  have recorded := raiseWith_recorded_of_fresh h.live (fresh.of_flags h.flags) false
  refine ⟨?_, (fld_of_word (recorded.lsw _ n (by decide))).trans h.theta⟩
  rw [raiseFault, recorded.rest]
  exact h.rise

end

/-- An update ends in the sink brought to what it should do, and raises the limit where it is newly reached. -/
theorem ledModelUpdate_exec {s : State} {n : Fin 32} (powered : s.dom.pwr.getLsbD (sinkDie n.val) = true) (live : Live s) (irms : Nat)
    (ref : Int) : let rise := ledRise s n.val 100000 irms
    ∃ t, Modelled s t n.val rise (ledTheta (ledKept s n.val rise ref) n.val rise) ∧
      (exec (.ledModelUpdate n irms ref) s = .next t ∨ exec (.ledModelUpdate n irms ref) s = .next (raiseFault t Flt.LIGHT.LEDHOT n.val 0)) := by
  intro rise
  have shown := ledShown_modelled n.isLt (rise := rise) live ref
  have hot := ((shown.setBit n.isLt (F := Reg.LIGHT.SINKSTAT.HOT_OFF) true (by decide) (by decide)).setBit n.isLt
    (F := Reg.LIGHT.SINKSTAT.EV_LEDHOT) true (by decide) (by decide)).sinkApply n.isLt
  have cooled := (shown.setBit n.isLt (F := Reg.LIGHT.SINKSTAT.HOT_OFF) false (by decide) (by decide)).sinkApply n.isLt
  have run : exec (.ledModelUpdate n irms ref) s = execLedModelUpdate n irms ref s := rfl
  rw [run]
  unfold execLedModelUpdate
  rw [if_neg (by simp [powered])]
  extract_lets
  split
  · refine ⟨_, hot, ?_⟩
    split
    · exact .inl rfl
    · exact .inr rfl
  · split
    · exact ⟨_, cooled, .inl rfl⟩
    · exact ⟨_, shown.sinkApply n.isLt, .inl rfl⟩

theorem ledModelUpdate_ends {s : State} {n : Fin 32} (powered : s.dom.pwr.getLsbD (sinkDie n.val) = true) (live : Live s)
    (fresh : Fresh s Flt.LIGHT.LEDHOT n.val) (irms : Nat) (ref : Int) : Ends (.ledModelUpdate n irms ref) s fun t =>
      (t.sink n.val).rise = ledRise s n.val 100000 irms ∧ (sinkSource s n.val = none →
        t.fld Reg.LIGHT.LEDTH.THETA n.val = unsigned 16 (ref - -(ledRise s n.val 100000 irms) / 2 ^ 32)) := by
  obtain ⟨t, modelled, quiet | raised⟩ := ledModelUpdate_exec powered live irms ref
  · exact ⟨_, quiet, modelled.rise, fun own => by rw [modelled.theta, ledTheta_reference own]⟩
  · obtain ⟨rise, theta⟩ := modelled.raised fresh
    exact ⟨_, raised, rise, fun own => by rw [theta, ledTheta_reference own]⟩

/-! ### Frames of the matrix (R278, R282) -/

/-- The end of a frame: counted, with what it met in MXDIAG. -/
def frameCounted (s : State) : State :=
  ((s.reach (s.matrix.start + 12 * (mxBlank s + mxOn s))).incFld Reg.LIGHT.MXSTAT.FRAMES 0).setFlds
    [(Reg.LIGHT.MXDIAG.COLOPEN, 0, bitsOf s.matrix.seenCols), (Reg.LIGHT.MXDIAG.LINESHORT, 0, bitsOf s.matrix.lineOff)]

theorem matrixFrameEnd_exec {s : State} (busy : s.bit Reg.LIGHT.MXSTAT.FRAME_BUSY 0 = true) :
    exec .matrixFrameEnd s = .next (matrixDark (frameCounted s)) := if_pos busy

theorem frameCounted_frames (s : State) :
    (frameCounted s).fld Reg.LIGHT.MXSTAT.FRAMES 0 = (s.fld Reg.LIGHT.MXSTAT.FRAMES 0 + 1) % 2 ^ 16 := by
  refine (fld_setFld_of_lightApart _ (by decide) (by decide) _ (by decide)).trans
    ((fld_setFld_of_lightApart _ (by decide) (by decide) _ (by decide)).trans ?_)
  exact fld_setFld_same _ _ _ _ (by decide)

theorem matrixDark_frame (s : State) : (matrixDark s).bit Reg.LIGHT.MXSTAT.FRAME_BUSY 0 = false :=
  (bit_setFld_of_lightApart _ (by decide) (by decide) 0 (by decide)).trans
    ((bit_setFld_of_lightApart _ (by decide) (by decide) 0 (by decide)).trans (bit_setBit_same s _ 0 (by decide)))

/-- A frame ends dark, is counted, and has taken its time. -/
theorem matrixFrameEnd_ends {s : State} (busy : s.bit Reg.LIGHT.MXSTAT.FRAME_BUSY 0 = true) : Ends .matrixFrameEnd s fun t =>
    t.bit Reg.LIGHT.MXSTAT.FRAME_BUSY 0 = false ∧ t.fld Reg.LIGHT.MXSTAT.FRAMES 0 = (s.fld Reg.LIGHT.MXSTAT.FRAMES 0 + 1) % 2 ^ 16 ∧
      s.matrix.start + 12 * (mxBlank s + mxOn s) ≤ t.now := by
  refine ⟨_, matrixFrameEnd_exec busy, matrixDark_frame _, ?_, Nat.le_max_right ..⟩
  exact (matrixDark_unlit (unlit_fld (by decide) (by decide)) _).trans (frameCounted_frames s)

/-- In hold-over, or in the safe state that repeats, the frame starts again after its interval. -/
theorem matrixHoldoverFrame_ends {s : State} (repeats : s.bit Reg.LIGHT.MXSTAT.HOLDOVER 0 = true ∨
    (s.bit Reg.LIGHT.MXSTAT.SAFE 0 = true ∧ s.effBit Reg.LIGHT.MXRAIL.SAFE 0 = true)) (rail : matrixRail s = true)
    (idle : mxBusy s = false) (started : s.matrix.starts ≠ []) : Ends .matrixHoldoverFrame s fun t =>
      t.bit Reg.LIGHT.MXSTAT.FRAME_BUSY 0 = true ∧ t.matrix.start = max s.now (s.matrix.starts.getLastD 0 + mxInterval s) := by
  obtain ⟨busy, view⟩ := mxStart_frame (s.reach (max s.now (s.matrix.starts.getLastD 0 + mxInterval s)))
    (max s.now (s.matrix.starts.getLastD 0 + mxInterval s))
  simp only [scanView, Prod.mk.injEq] at view
  obtain ⟨-, -, start, -⟩ := view
  exact ⟨_, if_pos (by simpa [rail, idle, started] using repeats), busy, start⟩

/-- Settles O30: a protection by what it shows (`SinkOff`, `stageTripped_shows`) behind a raise that is not escalated
(`raiseFault_leaves`); a rearm by what bringing its unit to what it should do passes by (`Unlit`); an update of the LED model by
`Modelled`; a frame by MXSTAT. The LED's rise is kept in 2^-38 K (the model's log 88); READY is judged against V_target, as the model
does where R274 names the setpoint. -/
theorem lightingReacts : Obligations.LightingReacts := by
  unfold Obligations.LightingReacts
  refine ⟨⟨fun s n live => ⟨fun runs asked => ?_, fun drives => sinkOverTemperature_reacts n live drives,
        fun b forced => lightForces_raise live forced n⟩,
      fun s g trip live meets => stageProtection_reacts live meets,
      fun s live => ⟨fun busy => ?_, fun rail => matrixDiag_rail_ends rail⟩⟩,
    fun s n asks cool => sinkRearm_ends asks cool, fun s g asks cool quiet => stageRearm_ends asks cool quiet,
    fun s asks => matrixRearm_ends asks, fun s n hr vout runs asked => headroomMeasure_ends runs asked hr vout,
    fun s g vout runs => setpointStep_ends runs vout, fun s g vout runs low high => stageReady_ends runs low high,
    fun s n irms ref powered live fresh => ledModelUpdate_ends powered live fresh irms ref,
    fun s busy => matrixFrameEnd_ends busy,
    fun s repeats rail idle started => matrixHoldoverFrame_ends repeats rail idle started⟩
  · obtain ⟨raises, leaves⟩ := stringShort_reacts live runs asked
    exact ⟨fun tracked => openString_reacts live runs asked tracked, raises, leaves⟩
  · have scans : mxBusy s = true := by simpa [mxBusy] using busy
    exact ⟨fun c => matrixDiag_column_raises live scans c, fun l => matrixDiag_line_raises live scans l⟩

end Sys2Proof.Machine
end

section
/-!
# Proofs of the family 10_inputs_and_timers

The count that passes on an empty queue; fields that share no bit; what a wake event touches; the time base, compare channels,
counters and capture units; switch and analog inputs.
-/
namespace Sys2Proof.Machine

/-! ### The count that passes on an empty queue (R90, R288) -/

theorem imem_of_held {s t : State} (h : t.held = s.held) : t.imem = s.imem := congrArg (fun x : Held => x.2.1) h

theorem dstoreAct_imem (s : State) (n off size : Nat) (v : Word) : (dstoreAct s n off size v).imem = s.imem := by
  unfold dstoreAct
  extract_lets err t
  have corrected : t.imem = s.imem := by
    unfold t
    split
    · exact imem_of_held (dmemCorrected_held s n)
    · rfl
  split
  · exact imem_of_held (laneLoss_held ..)
  · exact corrected

/-- No act of a lane writes instruction memory: stores land in data or shared memory. -/
theorem laneAct_imem (s : State) (e : LaneEv) : (laneAct s e).imem = s.imem := by
  unfold laneAct
  extract_lets n
  cases e.act with
  | sc plain pd a v => exact imem_of_held ((inFlight_held ..).trans
      (ite_held (fun _ => (inFlight_held ..).trans (State.setLane_held ..)) fun _ => State.setLane_held ..))
  | land a size v => exact breakResv_view State.imem (fun _ _ _ => rfl) ..
  | portB a bs => exact breakResv_view State.imem (fun _ _ _ => rfl) ..
  | dstore a size v => exact dstoreAct_imem ..
  | regRead plain rd off priv sgn => exact imem_of_held ((inFlight_held ..).trans (laneRead_held ..))
  | regWrite plain priv off v => exact imem_of_held (regWrite_held ..)
  | resFault => exact imem_of_held (laneLoss_held ..)
  | _ => rfl

theorem settleFuel_imem (k c : Nat) (s : State) : (settleFuel k c s).imem = s.imem := by
  induction k generalizing s with
  | zero => rfl
  | succ k ih =>
    unfold settleFuel
    split
    · rfl
    · split
      · exact (ih _).trans (laneAct_imem ..)
      · rfl

theorem settleCount_imem (s : State) (c : Nat) : (settleCount s c).imem = s.imem := by
  unfold settleCount
  extract_lets x
  split
  · rfl
  · exact settleFuel_imem ..

theorem idle_imem (s : State) : (idle s).imem = s.imem := by
  unfold idle
  split
  · exact settleCount_imem ..
  · rfl

theorem step_of_empty {s : State} (empty : s.pending = []) : step s = .next (idle s) := by
  unfold step
  rw [empty]

/-- Settles O53: on an empty queue a step is `idle`, whose acts of the lanes leave instruction memory alone (`laneAct_imem`). -/
theorem idleStepPassesACount : Obligations.IdleStepPassesACount := by
  unfold Obligations.IdleStepPassesACount
  intro s empty
  rw [step_of_empty empty]
  refine ⟨fun stands => ?_, fun runs quiet => ?_, _, rfl, idle_imem s⟩
  · rw [idle, if_neg (Bool.eq_false_iff.1 stands)]
  · have nothing : (s.later 1).laneEv = [] := quiet
    rw [idle, if_pos runs, settleCount_of_nothing_in_flight nothing]

end Sys2Proof.Machine
end

section
namespace Sys2Proof.Machine

/-! ### Fields that share no bit (R4, R5, R7) -/

/-- Two fields share no bit in any of their units up to `u`: their registers lie apart by the step of their strides or by the span of
their units, or they hold other bits. -/
def unitsApart (u : Nat) (F G : Field) : Bool :=
  decide (F.base % Nat.gcd F.stride G.stride ≠ G.base % Nat.gcd F.stride G.stride) ||
    decide (F.base + F.stride * u < G.base ∨ G.base + G.stride * u < F.base) ||
    decide (F.lo + F.len ≤ 32 ∧ (G.lo + G.len ≤ F.lo ∨ F.lo + F.len ≤ G.lo))

theorem off_within (F : Field) {n u : Nat} (unit : n ≤ u) : F.base ≤ F.off n ∧ F.off n ≤ F.base + F.stride * u :=
  ⟨Nat.le_add_right .., Nat.add_le_add_left (Nat.mul_le_mul_left _ unit) _⟩

section
variable (s : State) {u : Nat} {F G : Field} {n m : Nat} (hn : n ≤ u) (hm : m ≤ u)
include hn hm

theorem fld_setFld_of_unitsApart (v : Nat) (h : unitsApart u F G = true) : (s.setFld F n v).fld G m = s.fld G m := by
  simp only [unitsApart, Bool.or_eq_true, decide_eq_true_eq] at h
  by_cases same : G.off m = F.off n
  · obtain (steps | spans) | ⟨fits, beside⟩ := h
    · have place := congrArg (· % Nat.gcd F.stride G.stride) same
      have strideF := Nat.mod_eq_zero_of_dvd (Nat.gcd_dvd_left F.stride G.stride)
      have strideG := Nat.mod_eq_zero_of_dvd (Nat.gcd_dvd_right F.stride G.stride)
      simp only [off_mod_of_stride_mod strideF, off_mod_of_stride_mod strideG] at place
      exact absurd place.symm steps
    · have inF := off_within F hn
      have inG := off_within G hm
      omega
    · exact fld_setFld_beside s v fits same beside
  · exact fld_setFld_elsewhere s v same

theorem bit_setFld_of_unitsApart (v : Nat) (h : unitsApart u F G = true) : (s.setFld F n v).bit G m = s.bit G m := by
  rw [State.bit, fld_setFld_of_unitsApart s hn hm v h, State.bit]

end

/-- What no field shows stays as several fields are set. -/
theorem setFlds_view {β : Type} (g : State → β) (h : ∀ s F n v, g (State.setFld s F n v) = g s) (s : State)
    (l : List (Field × Nat × Nat)) : g (s.setFlds l) = g s := by
  induction l generalizing s with
  | nil => rfl
  | cons p l ih => exact (ih _).trans (h ..)

/-- A bit of a field that is set by its place reads 1. -/
theorem testBit_setFld_or (s : State) (F : Field) (n old : Nat) {k : Nat} (fits : F.lo + F.len ≤ 32) (hk : k < F.len) :
    ((s.setFld F n (old ||| 2 ^ k)).fld F n).testBit k = true := by
  rw [fld_setFld_same s F n _ fits, Nat.testBit_mod_two_pow, Nat.testBit_or, Nat.testBit_two_pow_self]
  simp [hk]

/-! ### What a wake event touches (R375, R376, R381) -/

/-- From `s` to `t` only registers from the POWER block on and what the power controller keeps have changed. -/
structure PowerOnly (s t : State) : Prop where
  rest : t = { s with regs := t.regs, power := t.power }
  words : ∀ o, o < 0x2E0000 → t.word o = s.word o

theorem PowerOnly.refl (s : State) : PowerOnly s s := ⟨rfl, fun _ _ => rfl⟩

theorem PowerOnly.trans {s t u : State} (h : PowerOnly s t) (g : PowerOnly t u) : PowerOnly s u :=
  ⟨by rw [g.rest, h.rest], fun o ho => (g.words o ho).trans (h.words o ho)⟩

theorem PowerOnly.setFld (s : State) {F : Field} (n v : Nat) (h : 0x2E0000 ≤ F.base) : PowerOnly s (s.setFld F n v) :=
  ⟨rfl, fun o ho => word_setWord_ne s _ (by unfold Field.off; omega)⟩

theorem PowerOnly.setPower (s : State) (p : Power) : PowerOnly s { s with power := p } := ⟨rfl, fun _ _ => rfl⟩

theorem PowerOnly.ite {c : Prop} [Decidable c] {s a b : State} (ha : PowerOnly s a) (hb : PowerOnly s b) :
    PowerOnly s (if c then a else b) := by
  split
  · exact ha
  · exact hb

theorem PowerOnly.fld {s t : State} (h : PowerOnly s t) (F : Field) (n : Nat) (below : F.off n < 0x2E0000) : t.fld F n = s.fld F n := by
  rw [State.fld, h.words _ below, State.fld]

theorem PowerOnly.bit {s t : State} (h : PowerOnly s t) (F : Field) (n : Nat) (below : F.off n < 0x2E0000) : t.bit F n = s.bit F n := by
  rw [State.bit, h.fld F n below, State.bit]

theorem PowerOnly.now {s t : State} (h : PowerOnly s t) : t.now = s.now := by rw [h.rest]

theorem PowerOnly.timers {s t : State} (h : PowerOnly s t) : t.timers = s.timers := by rw [h.rest]

theorem sleepAbort_powerOnly (s : State) : PowerOnly s (sleepAbort s) := by
  unfold sleepAbort sleepDisarm
  extract_lets a
  have aborted : PowerOnly s a := (((PowerOnly.setFld s 0 _ (by decide)).trans (.setFld _ 0 _ (by decide))).trans
    (.setFld _ 0 _ (by decide))).trans (.setFld _ 0 _ (by decide))
  exact .ite (aborted.trans (.setPower _ _)) aborted

theorem wakeEvent_powerOnly (s : State) (b u : Nat) : PowerOnly s (wakeEvent s b u) := by
  unfold wakeEvent
  extract_lets on st old a c p d
  have first : PowerOnly s a := .ite ((PowerOnly.setFld s 0 _ (by decide)).trans (.setFld _ 0 _ (by decide))) (.refl s)
  have noted : PowerOnly s c := first.trans (.setFld a 0 _ (by decide))
  have late : PowerOnly s d := (noted.trans (.setFld c 0 _ (by decide))).trans (.setFld _ 0 _ (by decide))
  exact .ite (.refl s) (.ite (noted.trans (sleepAbort_powerOnly c))
    (.ite (.ite (noted.trans (.setPower _ _)) noted) (late.trans (.setPower _ _))))

/-- A wake event noted: the first of them with its source and unit, each with its bit. -/
def wakeNoted (s : State) (b u : Nat) : State :=
  let old := s.fld Reg.POWER.WAKEREASON.REASON 0
  let t := if old = 0 then s.setFlds [(Reg.POWER.WAKEREASON.FIRST, 0, b), (Reg.POWER.WAKEDETAIL.UNIT, 0, u)] else s
  t.setFld Reg.POWER.WAKEREASON.REASON 0 (old ||| 2 ^ b)

theorem wakeNoted_shows (s : State) {b : Nat} (source : b < 12) (u : Nat) :
    ((wakeNoted s b u).fld Reg.POWER.WAKEREASON.REASON 0).testBit b = true :=
  testBit_setFld_or _ _ 0 _ (by decide) source

theorem wakeNoted_power (s : State) (b u : Nat) : (wakeNoted s b u).power = s.power := by
  rw [wakeNoted, State.setFld_power]
  split
  · exact setFlds_view State.power (fun _ _ _ _ => rfl) ..
  · rfl

theorem wakeNoted_now (s : State) (b u : Nat) : (wakeNoted s b u).now = s.now := by
  rw [wakeNoted, State.setFld_now]
  split
  · exact setFlds_view State.now (fun _ _ _ _ => rfl) ..
  · rfl

/-- In the valley of a sleep whose watershed has passed, the first wake of an enabled source is noted and starts the exit. -/
theorem wakeEvent_starts_exit {s : State} {b : Nat} (enabled : (s.fld Reg.POWER.WAKEEN.EN 0).testBit b = true)
    (passed : sleepState s = sleepPassed) (valley : inValley s = true) (stays : s.power.exitAt = none) (u : Nat) :
    wakeEvent s b u = { wakeNoted s b u with power := { s.power with exitAt := some s.now } } := by
  have wakes : ¬(!(decide (10 ≤ b) || (s.fld Reg.POWER.WAKEEN.EN 0).testBit b) || sleepState s == sleepIdle) = true := by
    rw [enabled, passed, Bool.or_true]
    decide
  have unarmed : ¬sleepState s = sleepArmed := by rw [passed]; decide
  have valley' : inValley (wakeNoted s b u) = true := by rw [inValley, wakeNoted_power]; exact valley
  have none' : (wakeNoted s b u).power.exitAt.isNone = true := by rw [wakeNoted_power, stays]; rfl
  rw [← wakeNoted_power s b u, ← wakeNoted_now s b u]
  exact (if_neg wakes).trans ((if_neg unarmed).trans ((if_pos valley').trans (if_pos none')))

end Sys2Proof.Machine
end

section
namespace Sys2Proof.Machine

/-! ### The time base (R289 to R291) -/

theorem setFld_live_below {s : State} (live : Live s) (F : Field) (n v : Nat) (below : F.off n < 0x30000) : Live (s.setFld F n v) := by
  have elsewhere : Reg.FAULT.STATUS.TERMINAL.off 0 ≠ F.off n := by
    have status : Reg.FAULT.STATUS.TERMINAL.off 0 = 0x30000 := by decide
    omega
  exact ⟨live.up, (bit_setFld_elsewhere s v elsewhere).trans live.open', live.quiet⟩

theorem Recorded.bit_below {s t : State} (h : Recorded s t) (F : Field) (n : Nat) (below : F.off n < 0x30000) :
    t.bit F n = s.bit F n := by
  rw [State.bit, State.fld, h.words _ (Or.inl below), State.bit, State.fld]

theorem Recorded.now_eq {s t : State} (h : Recorded s t) : t.now = s.now := by rw [h.rest]

/-- The time-base word is written to the side areas. -/
def timeWordWritten (s : State) : State := s.tm fun t => { t with timeWord := some (s.now / 2 ^ 32) }

/-- A carry writes the time-base word; where the word was already there, the count is the next at which the high half changes. -/
theorem timeBaseCarry_ends {s : State} (runs : timeRuns s = true) : Ends .timeBaseCarry s fun t =>
    t.timers.timeWord = some (t.now / 2 ^ 32) ∧ t.regs = s.regs ∧
      (s.timers.timeWord = some (s.now / 2 ^ 32) → t.now = (s.now / 2 ^ 32 + 1) * 2 ^ 32) := by
  have runs' : ¬(!timeRuns s) = true := by simp [runs]
  by_cases written : s.timers.timeWord = some (s.now / 2 ^ 32)
  · have ahead : s.now ≤ (s.now / 2 ^ 32 + 1) * 2 ^ 32 := by omega
    have next : exec .timeBaseCarry s = .next (timeWordWritten (s.reach ((s.now / 2 ^ 32 + 1) * 2 ^ 32))) :=
      (if_neg runs').trans (by rw [if_pos written]; rfl)
    exact ⟨_, next, rfl, rfl, fun _ => Nat.max_eq_right ahead⟩
  · have next : exec .timeBaseCarry s = .next (timeWordWritten s) := (if_neg runs').trans (by rw [if_neg written]; rfl)
    exact ⟨_, next, rfl, rfl, fun same => absurd same written⟩

theorem slowratio_taken {s : State} {ratio : Nat} (runs : timeRuns s = true) (low : slowNominal * 98 ≤ ratio * 100)
    (high : ratio * 100 ≤ slowNominal * 102) : Ends (.slowratioMeasure ratio) s fun t =>
      t.fld Reg.TIME.SLOWRATIO.VALUE 0 = ratio ∧ t.flags = s.flags := by
  have runs' : ¬(!timeRuns s) = true := by simp [runs]
  have near : ¬(ratio * 100 < slowNominal * 98 ∨ slowNominal * 102 < ratio * 100) := by omega
  have small : ratio < 2 ^ 32 := by unfold slowNominal at high; omega
  exact ⟨_, (if_neg runs').trans (if_neg near), (fld_setFld_same s _ 0 _ (by decide)).trans (Nat.mod_eq_of_lt small), State.setFld_flags ..⟩

theorem slowratio_raises {s : State} {ratio : Nat} (runs : timeRuns s = true) (live : Live s)
    (far : ratio * 100 < slowNominal * 98 ∨ slowNominal * 102 < ratio * 100) :
    Raises (.slowratioMeasure ratio) s Flt.TIME.SLOWBASE noUnit 0 := by
  have runs' : ¬(!timeRuns s) = true := by simp [runs]
  exact ⟨_, (if_neg runs').trans (if_pos far), raiseFault_flagged (setFld_live_below live _ 0 _ (by decide)) _ _ _⟩

/-! Grandmaster time (R73, R290, R335) -/

/-- A sync message is taken: on the port of the time base, near enough, with both dies on. -/
structure SyncTaken (s : State) (port pdelay : Nat) : Prop where
  enabled : s.effBit Reg.NET.GPTP.EN 0 = true
  onPort : s.effFld Reg.NET.GPTP.PORT 0 = port
  near : pdelay ≤ s.effFld Reg.NET.GPTP.PDMAX 0
  net : s.dom.net = true
  logic : s.dom.logic = true

/-- The offset of the grandmaster's time from the time base, in counts. -/
def syncOffset (s : State) (ns : Nat) : Int := ((ns / 10 : Nat) : Int) - s.now

/-- A sync message shows its offset. -/
def syncShown (s : State) (ns : Nat) : State :=
  s.setFld Reg.TIME.SYNCOFS.OFS 0 (unsigned 32 (min (max (syncOffset s ns) (-(2 ^ 31))) (2 ^ 31 - 1)))

theorem syncShown_offset {s : State} {ns : Nat} (near : (syncOffset s ns).natAbs ≤ 1000) :
    (syncShown s ns).fld Reg.TIME.SYNCOFS.OFS 0 = unsigned 32 (syncOffset s ns) := by
  have held : min (max (syncOffset s ns) (-(2 ^ 31))) (2 ^ 31 - 1) = syncOffset s ns := by omega
  have small : unsigned 32 (syncOffset s ns) < 2 ^ 32 := by unfold unsigned; omega
  rw [syncShown, held]
  exact (fld_setFld_same s _ 0 _ (by decide)).trans (Nat.mod_eq_of_lt small)

theorem syncShown_live {s : State} (live : Live s) (ns : Nat) : Live (syncShown s ns) := setFld_live_below live _ 0 _ (by decide)

theorem syncShown_seqState (s : State) (ns : Nat) : (syncShown s ns).seqState = s.seqState :=
  fld_setFld_elsewhere s _ (by decide)

theorem syncShown_planRuns (s : State) (ns : Nat) : (syncShown s ns).planRuns = s.planRuns := by
  simp only [State.planRuns, syncShown_seqState]

/-- The rate is locked, at a free value. -/
def rateLocked (s : State) : State :=
  s.free.2.setFlds [(Reg.TIME.SYNC.RATE, 0, unsigned 16 ((s.free.1 % 20001 : Nat) - 10000 : Int)), (Reg.TIME.SYNC.LOCK, 0, 1)]

theorem rateLocked_now (s : State) : (rateLocked s).now = s.now := setFlds_view State.now (fun _ _ _ _ => rfl) ..

theorem rateLocked_flags (s : State) : (rateLocked s).flags = s.flags := setFlds_view State.flags (fun _ _ _ _ => rfl) ..

theorem rateLocked_lock (s : State) : (rateLocked s).bit Reg.TIME.SYNC.LOCK 0 = true := bit_setFld_one _ 0 (by decide) rfl

theorem rateLocked_offset (s : State) : (rateLocked s).fld Reg.TIME.SYNCOFS.OFS 0 = s.fld Reg.TIME.SYNCOFS.OFS 0 :=
  (fld_setFld_elsewhere _ _ (by decide)).trans (fld_setFld_elsewhere _ _ (by decide))

theorem timeStep_now (s : State) (c : Nat) : (timeStep s c).now = c := by rw [timeStep, State.setBit_now]

theorem not_planRuns_of_stopped {s : State} (stopped : s.seqState = seqNoPlan ∨ s.seqState = seqArmed) : s.planRuns = false := by
  obtain state | state := stopped
  · rw [State.planRuns, state]; decide
  · rw [State.planRuns, state]; decide

section
variable {s : State} {port : Fin 3} {pdelay : Nat} (taken : SyncTaken s port.val pdelay) (ns : Nat)
include taken

theorem SyncTaken.guard : ¬(!s.effBit Reg.NET.GPTP.EN 0 || s.effFld Reg.NET.GPTP.PORT 0 != port.val ||
    s.effFld Reg.NET.GPTP.PDMAX 0 < pdelay || !s.dom.net || !s.dom.logic) = true := by
  obtain ⟨enabled, onPort, near, net, logic⟩ := taken
  simp [enabled, onPort, near, net, logic]

/-- While a plan runs, a time within 10 µs locks the rate. -/
theorem syncMessage_locks (runs : s.planRuns = true) (near : (syncOffset s ns).natAbs ≤ 1000) :
    Ends (.syncMessage port pdelay ns) s fun t => t.bit Reg.TIME.SYNC.LOCK 0 = true ∧ t.now = s.now ∧ t.flags = s.flags ∧
      t.fld Reg.TIME.SYNCOFS.OFS 0 = unsigned 32 (syncOffset s ns) := by
  exact ⟨rateLocked (syncShown s ns), (if_neg taken.guard).trans ((if_pos ((syncShown_planRuns s ns).trans runs)).trans (if_pos near)),
    rateLocked_lock _, (rateLocked_now _).trans (State.setFld_now ..), (rateLocked_flags _).trans (State.setFld_flags ..),
    (rateLocked_offset _).trans (syncShown_offset near)⟩

/-- While a plan runs, a time farther off is a loss of the sync. -/
theorem syncMessage_lost (runs : s.planRuns = true) (live : Live s) (far : 1000 < (syncOffset s ns).natAbs) :
    Raises (.syncMessage port pdelay ns) s Flt.TIME.SYNCLOST noUnit 0 := by
  have live' : Live ((syncShown s ns).setBit Reg.TIME.SYNC.LOCK 0 false) :=
    setFld_live_below (syncShown_live live ns) _ 0 _ (by decide)
  exact ⟨_, (if_neg taken.guard).trans ((if_pos ((syncShown_planRuns s ns).trans runs)).trans (if_neg (Nat.not_le_of_lt far))),
    raiseFault_flagged live' _ _ _⟩

section
variable (stopped : s.seqState = seqNoPlan ∨ s.seqState = seqArmed)
include stopped

theorem syncMessage_of_stopped : exec (.syncMessage port pdelay ns) s =
    if syncOffset s ns = 0 then .next (syncShown s ns)
    else if 0 < syncOffset s ns then .next (timeStep (syncShown s ns) (ns / 10))
    else .next (raiseFault ((syncShown s ns).setBit Reg.TIME.SYNC.BEHIND 0 true) Flt.TIME.STEPBACK noUnit 0) := by
  have plain : ¬(syncShown s ns).planRuns = true := by rw [syncShown_planRuns, not_planRuns_of_stopped stopped]; decide
  have stopped' : (syncShown s ns).seqState = seqNoPlan ∨ (syncShown s ns).seqState = seqArmed := by rwa [syncShown_seqState]
  exact (if_neg taken.guard).trans ((if_neg plain).trans (if_pos stopped'))

/-- With no plan running a later time steps the base. -/
theorem syncMessage_steps (later : s.now < ns / 10) : Ends (.syncMessage port pdelay ns) s fun t =>
    t.now = ns / 10 ∧ t.bit Reg.TIME.SYNC.STEPPED 0 = true := by
  have ahead : 0 < syncOffset s ns := by unfold syncOffset; omega
  rw [Ends, syncMessage_of_stopped taken ns stopped, if_neg (by omega), if_pos ahead]
  exact ⟨_, rfl, timeStep_now .., bit_setFld_one _ 0 (by decide) rfl⟩

/-- With no plan running an earlier time is shown as behind and raised; the base stands. -/
theorem syncMessage_behind (live : Live s) (earlier : ns / 10 < s.now) : Ends (.syncMessage port pdelay ns) s fun t =>
    Flagged t Flt.TIME.STEPBACK noUnit 0 ∧ t.now = s.now ∧ t.bit Reg.TIME.SYNC.BEHIND 0 = true := by
  have behind : syncOffset s ns < 0 := by unfold syncOffset; omega
  have live' : Live ((syncShown s ns).setBit Reg.TIME.SYNC.BEHIND 0 true) :=
    setFld_live_below (syncShown_live live ns) _ 0 _ (by decide)
  obtain ⟨recorded, flagged⟩ := raiseFault_recorded live' (src := Flt.TIME.STEPBACK) (unit := noUnit) (by decide)
  rw [Ends, syncMessage_of_stopped taken ns stopped, if_neg (by omega), if_neg (by omega)]
  exact ⟨_, rfl, flagged, recorded.now_eq.trans (by rw [State.setBit_now, syncShown, State.setFld_now]),
    (recorded.bit_below _ 0 (by decide)).trans (bit_setBit_true _ 0 (by decide) rfl)⟩

end
end

end Sys2Proof.Machine
end

section
namespace Sys2Proof.Machine

/-! ### Compare channels (R295 to R297) -/

theorem fld_setCmp (s : State) (n m : Nat) (c : CmpCh) (F : Field) : (s.setCmp n c).fld F m = s.fld F m := rfl

theorem bit_setCmp (s : State) (n m : Nat) (c : CmpCh) (F : Field) : (s.setCmp n c).bit F m = s.bit F m := rfl

theorem setCmp_now (s : State) (n : Nat) (c : CmpCh) : (s.setCmp n c).now = s.now := rfl

theorem cmpV_setCmp (s : State) (n m : Nat) (c : CmpCh) : cmpV (s.setCmp n c) m = cmpV s m := rfl

/-- The count at which an armed channel fires: its value or, where that lies behind, now; at most once per count. -/
def fireCount (s : State) (n : Nat) : Nat :=
  let due := if cmpAhead (cmpV s n) s.now then cmpV s n else s.now
  match (s.cmp n).last with
  | some l => if due ≤ l then l + 1 else due
  | none => due

theorem fireCount_reaches {s : State} {n : Nat} (ahead : cmpAhead (cmpV s n) s.now = true) : cmpV s n ≤ fireCount s n := by
  unfold fireCount
  rw [if_pos ahead]
  dsimp only
  split
  · split
    · omega
    · exact Nat.le_refl _
  · exact Nat.le_refl _

/-- A firing shows its event, and that its value was missed. -/
def fireShown (s : State) (n : Nat) : State :=
  let t := s.reach (fireCount s n)
  let u := if n < 32 then t.setFld Reg.TIME.CMPEV0.EV 0 (t.fld Reg.TIME.CMPEV0.EV 0 ||| 2 ^ n)
    else t.setFld Reg.TIME.CMPEV1.EV 0 (t.fld Reg.TIME.CMPEV1.EV 0 ||| 2 ^ (n - 32))
  if (s.cmp n).behind then u.setBit Reg.TIME.CMP_CTRL.MISS n true else u

/-- A channel that has fired at `c` disarms, or moves its value on by its period. -/
def fireNext (s : State) (n v c : Nat) : State :=
  if s.fld Reg.TIME.CMP_PER.PERIOD n = 0 then (s.setBit Reg.TIME.CMP_CTRL.ARM n false).setCmp n { last := some c, behind := false }
  else (s.setPair Reg.TIME.CMP_LO.V Reg.TIME.CMP_HI.V n ((v + s.fld Reg.TIME.CMP_PER.PERIOD n) % 2 ^ 64)).setCmp n
    { last := some c, behind := !cmpAhead ((v + s.fld Reg.TIME.CMP_PER.PERIOD n) % 2 ^ 64) c }

/-- The event bit of a compare channel. -/
def cmpEvent (s : State) (n : Nat) : Bool :=
  if n < 32 then (s.fld Reg.TIME.CMPEV0.EV 0).testBit n else (s.fld Reg.TIME.CMPEV1.EV 0).testBit (n - 32)

theorem fireShown_fld (s : State) {n m : Nat} (hn : n ≤ 47) (hm : m ≤ 47) {G : Field} (ev0 : unitsApart 47 Reg.TIME.CMPEV0.EV G = true)
    (ev1 : unitsApart 47 Reg.TIME.CMPEV1.EV G = true) (miss : unitsApart 47 Reg.TIME.CMP_CTRL.MISS G = true) :
    (fireShown s n).fld G m = s.fld G m := by
  unfold fireShown
  extract_lets t u
  have shown : u.fld G m = s.fld G m := by
    unfold u
    split
    · exact fld_setFld_of_unitsApart t (by omega) hm _ ev0
    · exact fld_setFld_of_unitsApart t (by omega) hm _ ev1
  split
  · exact (fld_setFld_of_unitsApart u hn hm _ miss).trans shown
  · exact shown

theorem fireShown_now (s : State) (n : Nat) : (fireShown s n).now = max s.now (fireCount s n) := by
  unfold fireShown
  extract_lets t u
  have shown : u.now = t.now := by
    unfold u
    split
    · exact State.setFld_now ..
    · exact State.setFld_now ..
  split
  · exact (State.setBit_now ..).trans shown
  · exact shown

theorem fireShown_event (s : State) {n : Nat} (hn : n ≤ 47) : cmpEvent (fireShown s n) n = true := by
  unfold fireShown
  extract_lets t u
  have shown : cmpEvent u n = true := by
    unfold cmpEvent u
    split
    · next low => exact testBit_setFld_or t _ 0 _ (by decide) low
    · exact testBit_setFld_or t _ 0 _ (by decide) (by simp only [Reg.TIME.CMPEV1.EV]; omega)
  have missed : cmpEvent (u.setBit Reg.TIME.CMP_CTRL.MISS n true) n = cmpEvent u n := by
    rw [cmpEvent, State.setBit, fld_setFld_of_unitsApart u hn (Nat.zero_le 47) _ (by decide),
      fld_setFld_of_unitsApart u hn (Nat.zero_le 47) _ (by decide), cmpEvent]
  split
  · exact missed.trans shown
  · exact shown

theorem fireNext_fld (s : State) {n m : Nat} (v c : Nat) (hn : n ≤ 47) (hm : m ≤ 47) {G : Field}
    (arm : unitsApart 47 Reg.TIME.CMP_CTRL.ARM G = true) (low : unitsApart 47 Reg.TIME.CMP_LO.V G = true)
    (high : unitsApart 47 Reg.TIME.CMP_HI.V G = true) : (fireNext s n v c).fld G m = s.fld G m := by
  unfold fireNext
  split
  · exact (fld_setCmp ..).trans (fld_setFld_of_unitsApart s hn hm _ arm)
  · rw [fld_setCmp, State.setPair]
    exact (fld_setFld_of_unitsApart _ hn hm _ high).trans (fld_setFld_of_unitsApart s hn hm _ low)

theorem fireNext_now (s : State) (n v c : Nat) : (fireNext s n v c).now = s.now := by
  unfold fireNext
  split
  · exact (setCmp_now ..).trans (State.setBit_now ..)
  · rw [setCmp_now, State.setPair, State.setFld_now, State.setFld_now]

theorem fireNext_event (s : State) {n : Nat} (v c : Nat) (hn : n ≤ 47) : cmpEvent (fireNext s n v c) n = cmpEvent s n := by
  simp only [cmpEvent, fireNext_fld s v c hn (Nat.zero_le 47) (G := Reg.TIME.CMPEV0.EV) (by decide) (by decide) (by decide),
    fireNext_fld s v c hn (Nat.zero_le 47) (G := Reg.TIME.CMPEV1.EV) (by decide) (by decide) (by decide)]

theorem fireNext_disarms {s : State} {n : Nat} (v c : Nat) (once : s.fld Reg.TIME.CMP_PER.PERIOD n = 0) :
    (fireNext s n v c).bit Reg.TIME.CMP_CTRL.ARM n = false := by
  rw [fireNext, if_pos once, bit_setCmp]
  exact bit_setBit_same s _ n (by decide)

theorem fireNext_moves {s : State} {n : Nat} (v c : Nat) (hn : n ≤ 47) (again : s.fld Reg.TIME.CMP_PER.PERIOD n ≠ 0) :
    cmpV (fireNext s n v c) n = (v + s.fld Reg.TIME.CMP_PER.PERIOD n) % 2 ^ 64 ∧
      (fireNext s n v c).bit Reg.TIME.CMP_CTRL.ARM n = s.bit Reg.TIME.CMP_CTRL.ARM n := by
  have apart : Reg.TIME.CMP_LO.V.off n ≠ Reg.TIME.CMP_HI.V.off n := by simp only [Field.off, Reg.TIME.CMP_LO.V, Reg.TIME.CMP_HI.V]; omega
  rw [fireNext, if_neg again, cmpV_setCmp, bit_setCmp]
  refine ⟨(pair_setPair s n rfl rfl rfl rfl apart _).trans (Nat.mod_mod _ _), ?_⟩
  exact (bit_setFld_of_unitsApart _ hn hn _ (by decide)).trans (bit_setFld_of_unitsApart s hn hn _ (by decide))

/-- An armed channel outside a valley fires; where WAKE is set it is a wake event too. -/
theorem compareFire_exec {s : State} {n : Fin 48} (awake : inValley s = false) (logic : s.dom.logic = true)
    (armed : s.bit Reg.TIME.CMP_CTRL.ARM n.val = true) : ∃ t, exec (.compareFire n) s = .next t ∧
      PowerOnly (fireNext (fireShown s n.val) n.val (cmpV s n.val) (fireCount s n.val)) t := by
  have awake' : ¬inValley s = true := Bool.eq_false_iff.1 awake
  have ready : ¬(!s.dom.logic || !s.bit Reg.TIME.CMP_CTRL.ARM n.val) = true := by simp [logic, armed]
  refine ⟨if (fireNext (fireShown s n.val) n.val (cmpV s n.val) (fireCount s n.val)).bit Reg.TIME.CMP_CTRL.WAKE n.val then _ else _,
    (if_neg awake').trans (if_neg ready), .ite (wakeEvent_powerOnly _ 7 n.val) (.refl _)⟩

/-- A register of an early block lies below the POWER block. -/
theorem off_below_power {F : Field} {n u : Nat} (unit : n ≤ u) (below : F.base + F.stride * u < 0x2E0000) : F.off n < 0x2E0000 :=
  Nat.lt_of_le_of_lt (off_within F unit).2 below

theorem PowerOnly.cmpV {s t : State} (h : PowerOnly s t) {n : Nat} (hn : n ≤ 47) : cmpV t n = cmpV s n := by
  rw [Machine.cmpV, State.pair, h.fld _ n (off_below_power hn (by decide)), h.fld _ n (off_below_power hn (by decide)), Machine.cmpV,
    State.pair]

theorem PowerOnly.cmpEvent {s t : State} (h : PowerOnly s t) {n : Nat} : cmpEvent t n = cmpEvent s n := by
  rw [Machine.cmpEvent, h.fld _ 0 (by decide), h.fld _ 0 (by decide), Machine.cmpEvent]

/-- A channel that fires shows its event, and disarms or moves its value on; a value ahead has been reached. -/
theorem compareFire_ends {s : State} {n : Fin 48} (awake : inValley s = false) (logic : s.dom.logic = true)
    (armed : s.bit Reg.TIME.CMP_CTRL.ARM n.val = true) : Ends (.compareFire n) s fun t => cmpEvent t n.val = true ∧
      (s.fld Reg.TIME.CMP_PER.PERIOD n.val = 0 → t.bit Reg.TIME.CMP_CTRL.ARM n.val = false) ∧
      (s.fld Reg.TIME.CMP_PER.PERIOD n.val ≠ 0 → cmpV t n.val = (cmpV s n.val + s.fld Reg.TIME.CMP_PER.PERIOD n.val) % 2 ^ 64 ∧
        t.bit Reg.TIME.CMP_CTRL.ARM n.val = true) ∧
      (cmpAhead (cmpV s n.val) s.now = true → cmpV s n.val ≤ t.now) := by
  obtain ⟨t, runs, power⟩ := compareFire_exec awake logic armed
  have hn : n.val ≤ 47 := by omega
  have arm := power.bit Reg.TIME.CMP_CTRL.ARM n.val (off_below_power hn (by decide))
  have period : (fireShown s n.val).fld Reg.TIME.CMP_PER.PERIOD n.val = s.fld Reg.TIME.CMP_PER.PERIOD n.val :=
    fireShown_fld s hn hn (by decide) (by decide) (by decide)
  have armed' : (fireShown s n.val).bit Reg.TIME.CMP_CTRL.ARM n.val = true := by
    rw [State.bit, fireShown_fld s hn hn (by decide) (by decide) (by decide)]
    exact armed
  refine ⟨t, runs, power.cmpEvent.trans ((fireNext_event _ _ _ hn).trans (fireShown_event s hn)),
    fun once => ?_, fun again => ?_, fun ahead => ?_⟩
  · exact arm.trans (fireNext_disarms _ _ (period.trans once))
  · obtain ⟨moved, stays⟩ := fireNext_moves (cmpV s n.val) (fireCount s n.val) hn (ne_of_eq_of_ne period again)
    exact ⟨(power.cmpV hn).trans (period ▸ moved), arm.trans (stays.trans armed')⟩
  · rw [power.now, fireNext_now, fireShown_now]
    exact Nat.le_trans (fireCount_reaches ahead) (Nat.le_max_right ..)

end Sys2Proof.Machine
end

section
namespace Sys2Proof.Machine

/-! ### Up/down counters (R298, R299) -/

/-- A step's count and direction are shown. -/
def udcCounted (s : State) (n v : Nat) (down : Bool) : State :=
  ((s.tm fun t => { t with udc := smapSet (fun _ => 0) t.udc n s.now }).setFld Reg.TIME.UDC_COUNT.VALUE n v).setBit Reg.TIME.UDC_CTRL.DIR n down

/-- A turn is shown, and a match. -/
def udcTurned (s : State) (n v : Nat) (turn : Bool) : State :=
  let t := if turn then s.setBit Reg.TIME.UDC_CTRL.TURN n true else s
  if v = t.fld Reg.TIME.UDC_MATCH.VALUE n then t.setBit Reg.TIME.UDC_CTRL.MATCH_EV n true else t

/-- A wrap is shown, with its event where EV asks for it. -/
def udcWrapped (s : State) (n : Nat) (wrap : Bool) : State :=
  if wrap then
    let t := s.setBit Reg.TIME.UDC_CTRL.OVF n true
    if t.bit Reg.TIME.UDC_CTRL.EV n then t.setFld Reg.TIME.UDCEV.EV 0 (t.fld Reg.TIME.UDCEV.EV 0 ||| 2 ^ n) else t
  else s

/-- The registers behind a step with its count, wrap, turn and direction. -/
def udcShown (s : State) (n : Nat) (r : Nat × Bool × Bool × Bool) : State :=
  udcWrapped (udcTurned (udcCounted s n r.1 r.2.2.2) n r.1 r.2.2.1) n r.2.1

section
variable (s : State) {n : Nat} (hn : n ≤ 15)
include hn

theorem udcTurned_fld {G : Field} (v : Nat) (turn : Bool) (turned : unitsApart 15 Reg.TIME.UDC_CTRL.TURN G = true)
    (matched : unitsApart 15 Reg.TIME.UDC_CTRL.MATCH_EV G = true) : (udcTurned s n v turn).fld G n = s.fld G n := by
  unfold udcTurned
  extract_lets t
  have first : t.fld G n = s.fld G n := by
    unfold t
    split
    · exact fld_setFld_of_unitsApart s hn hn _ turned
    · rfl
  split
  · exact (fld_setFld_of_unitsApart t hn hn _ matched).trans first
  · exact first

theorem udcWrapped_fld {G : Field} (wrap : Bool) (wrapped : unitsApart 15 Reg.TIME.UDC_CTRL.OVF G = true)
    (event : unitsApart 15 Reg.TIME.UDCEV.EV G = true) : (udcWrapped s n wrap).fld G n = s.fld G n := by
  unfold udcWrapped
  split
  · extract_lets t
    have first : t.fld G n = s.fld G n := fld_setFld_of_unitsApart s hn hn _ wrapped
    split
    · exact (fld_setFld_of_unitsApart t (Nat.zero_le _) hn _ event).trans first
    · exact first
  · rfl

theorem udcShown_count (r : Nat × Bool × Bool × Bool) : (udcShown s n r).fld Reg.TIME.UDC_COUNT.VALUE n = r.1 % 2 ^ 32 := by
  rw [udcShown, udcWrapped_fld _ hn _ (by decide) (by decide), udcTurned_fld _ hn _ _ (by decide) (by decide), udcCounted, State.setBit,
    fld_setFld_of_unitsApart _ hn hn _ (by decide)]
  exact fld_setFld_same _ _ _ _ (by decide)

theorem udcShown_direction (r : Nat × Bool × Bool × Bool) : (udcShown s n r).bit Reg.TIME.UDC_CTRL.DIR n = r.2.2.2 := by
  rw [State.bit, udcShown, udcWrapped_fld _ hn _ (by decide) (by decide), udcTurned_fld _ hn _ _ (by decide) (by decide)]
  exact bit_setBit_value _ n _ (by decide) rfl

theorem udcShown_turn {r : Nat × Bool × Bool × Bool} (turns : r.2.2.1 = true) : (udcShown s n r).bit Reg.TIME.UDC_CTRL.TURN n = true := by
  rw [State.bit, udcShown, udcWrapped_fld _ hn _ (by decide) (by decide), udcTurned, if_pos turns]
  have turned (t : State) : (t.setBit Reg.TIME.UDC_CTRL.TURN n true).bit Reg.TIME.UDC_CTRL.TURN n = true := bit_setBit_true t n (by decide) rfl
  split
  · exact (bit_setFld_of_unitsApart _ hn hn _ (by decide)).trans (turned _)
  · exact turned _

theorem udcShown_wrap {r : Nat × Bool × Bool × Bool} (wraps : r.2.1 = true) : (udcShown s n r).bit Reg.TIME.UDC_CTRL.OVF n = true := by
  rw [udcShown, udcWrapped, if_pos wraps]
  have wrapped (t : State) : (t.setBit Reg.TIME.UDC_CTRL.OVF n true).bit Reg.TIME.UDC_CTRL.OVF n = true := bit_setBit_true t n (by decide) rfl
  dsimp only
  split
  · exact (bit_setFld_of_unitsApart _ (Nat.zero_le _) hn _ (by decide)).trans (wrapped _)
  · exact wrapped _

end

/-- A running counter in a mode of 1 to 4 steps as `udcStep` says; on its prescaler the step has its time. -/
theorem counterStep_exec {s : State} {n : Fin 16} (dirHigh : Bool) (logic : s.dom.logic = true)
    (runs : s.bit Reg.TIME.UDC_CTRL.RUN n.val = true) {mode : Nat} (selected : s.fld Reg.TIME.UDC_CTRL.MODE n.val = mode)
    (counts : 0 < mode ∧ mode ≤ 4) : ∃ u, exec (.counterStep n dirHigh) s = .next (udcShown u n.val (udcStep mode
      (s.fld Reg.TIME.UDC_COUNT.VALUE n.val) (s.fld Reg.TIME.UDC_TOP.VALUE n.val) (s.bit Reg.TIME.UDC_CTRL.DIR n.val) dirHigh)) := by
  subst selected
  have mode : udcMode s n.val = s.fld Reg.TIME.UDC_CTRL.MODE n.val := if_pos counts.2
  have on : ¬(!s.dom.logic || !s.bit Reg.TIME.UDC_CTRL.RUN n.val || udcMode s n.val == 0) = true := by
    rw [mode]
    simp [logic, runs, Nat.ne_of_gt counts.1]
  by_cases ext : udcMode s n.val = 4
  · exact ⟨s, (if_neg on).trans (by simp only [ext, if_true, ← mode]; rfl)⟩
  · exact ⟨s.reach (smapGet (fun _ => 0) s.timers.udc n.val + s.fld Reg.TIME.UDC_PRESC.PRESC n.val + 1),
      (if_neg on).trans (by simp only [ext, if_false, ← mode]; rfl)⟩

/-! What a step counts in each mode (R298) -/

theorem udcStep_up {mode : Nat} {dirHigh : Bool} (up : mode = 1 ∨ (mode = 4 ∧ dirHigh = true)) (count top : Nat) (down : Bool) :
    (udcStep mode count top down dirHigh).1 % 2 ^ 32 = (if count = top then 0 else (count + 1) % 2 ^ 32) ∧
      (count = top → (udcStep mode count top down dirHigh).2.1 = true) := by
  have step : (udcStep mode count top down dirHigh).1 = (if count = top ∨ count = 2 ^ 32 - 1 then (0, true) else (count + 1, false)).1 ∧
      (udcStep mode count top down dirHigh).2.1 = (if count = top ∨ count = 2 ^ 32 - 1 then (0, true) else (count + 1, false)).2 := by
    obtain rfl | ⟨rfl, rfl⟩ := up
    · exact ⟨rfl, rfl⟩
    · exact ⟨rfl, rfl⟩
  obtain ⟨value, wrap⟩ := step
  rw [value, wrap]
  refine ⟨?_, fun last => by rw [if_pos (Or.inl last)]⟩
  by_cases last : count = top
  · rw [if_pos (Or.inl last), if_pos last]
    exact Nat.zero_mod _
  · rw [if_neg last]
    split
    · omega
    · rfl

theorem udcStep_down {mode : Nat} {dirHigh : Bool} (way : mode = 2 ∨ (mode = 4 ∧ dirHigh = false)) (count top : Nat) (down : Bool) :
    (udcStep mode count top down dirHigh).1 = (if count = 0 then top else count - 1) ∧
      (count = 0 → (udcStep mode count top down dirHigh).2.1 = true) := by
  have step : (udcStep mode count top down dirHigh).1 = (if count = 0 then (top, true) else (count - 1, false)).1 ∧
      (udcStep mode count top down dirHigh).2.1 = (if count = 0 then (top, true) else (count - 1, false)).2 := by
    obtain rfl | ⟨rfl, rfl⟩ := way
    · exact ⟨rfl, rfl⟩
    · exact ⟨rfl, rfl⟩
  obtain ⟨value, wrap⟩ := step
  rw [value, wrap]
  refine ⟨?_, fun none => by rw [if_pos none]⟩
  split
  · rfl
  · rfl

theorem udcStep_triangle_up {count top : Nat} (below : count < top) (dirHigh : Bool) :
    udcStep 3 count top false dirHigh = (count + 1, false, false, false) := if_neg (Nat.not_le_of_lt below)

theorem udcStep_triangle_turn (top : Nat) (dirHigh : Bool) : udcStep 3 top top false dirHigh = (top - 1, false, true, true) :=
  if_pos (Nat.le_refl top)

theorem fld_lt_whole (s : State) (F : Field) (n : Nat) (whole : F.len = 32) : s.fld F n < 2 ^ 32 :=
  whole ▸ Nat.mod_lt _ (Nat.two_pow_pos _)

section
variable {s : State} {n : Fin 16} (dirHigh : Bool) (logic : s.dom.logic = true) (runs : s.bit Reg.TIME.UDC_CTRL.RUN n.val = true)
include logic runs

theorem counterStep_up (up : s.fld Reg.TIME.UDC_CTRL.MODE n.val = 1 ∨ (s.fld Reg.TIME.UDC_CTRL.MODE n.val = 4 ∧ dirHigh = true)) :
    Ends (.counterStep n dirHigh) s fun t => t.fld Reg.TIME.UDC_COUNT.VALUE n.val =
        (if s.fld Reg.TIME.UDC_COUNT.VALUE n.val = s.fld Reg.TIME.UDC_TOP.VALUE n.val then 0
          else (s.fld Reg.TIME.UDC_COUNT.VALUE n.val + 1) % 2 ^ 32) ∧
      (s.fld Reg.TIME.UDC_COUNT.VALUE n.val = s.fld Reg.TIME.UDC_TOP.VALUE n.val → t.bit Reg.TIME.UDC_CTRL.OVF n.val = true) := by
  have hn : n.val ≤ 15 := by omega
  obtain ⟨u, next⟩ := counterStep_exec dirHigh logic runs rfl (by omega)
  obtain ⟨value, wraps⟩ := udcStep_up up (s.fld Reg.TIME.UDC_COUNT.VALUE n.val) (s.fld Reg.TIME.UDC_TOP.VALUE n.val)
    (s.bit Reg.TIME.UDC_CTRL.DIR n.val)
  exact ⟨_, next, (udcShown_count u hn _).trans value, fun last => udcShown_wrap u hn (wraps last)⟩

theorem counterStep_down (way : s.fld Reg.TIME.UDC_CTRL.MODE n.val = 2 ∨ (s.fld Reg.TIME.UDC_CTRL.MODE n.val = 4 ∧ dirHigh = false)) :
    Ends (.counterStep n dirHigh) s fun t => t.fld Reg.TIME.UDC_COUNT.VALUE n.val =
        (if s.fld Reg.TIME.UDC_COUNT.VALUE n.val = 0 then s.fld Reg.TIME.UDC_TOP.VALUE n.val
          else s.fld Reg.TIME.UDC_COUNT.VALUE n.val - 1) ∧
      (s.fld Reg.TIME.UDC_COUNT.VALUE n.val = 0 → t.bit Reg.TIME.UDC_CTRL.OVF n.val = true) := by
  have hn : n.val ≤ 15 := by omega
  have count := fld_lt_whole s Reg.TIME.UDC_COUNT.VALUE n.val rfl
  have top := fld_lt_whole s Reg.TIME.UDC_TOP.VALUE n.val rfl
  obtain ⟨u, next⟩ := counterStep_exec dirHigh logic runs rfl (by omega)
  obtain ⟨value, wraps⟩ := udcStep_down way (s.fld Reg.TIME.UDC_COUNT.VALUE n.val) (s.fld Reg.TIME.UDC_TOP.VALUE n.val)
    (s.bit Reg.TIME.UDC_CTRL.DIR n.val)
  refine ⟨_, next, (udcShown_count u hn _).trans ?_, fun none => udcShown_wrap u hn (wraps none)⟩
  rw [value]
  exact Nat.mod_eq_of_lt (by split <;> omega)

section
variable (triangle : s.fld Reg.TIME.UDC_CTRL.MODE n.val = 3) (rising : s.bit Reg.TIME.UDC_CTRL.DIR n.val = false)
include triangle rising

theorem counterStep_triangle_up (below : s.fld Reg.TIME.UDC_COUNT.VALUE n.val < s.fld Reg.TIME.UDC_TOP.VALUE n.val) :
    Ends (.counterStep n dirHigh) s fun t => t.fld Reg.TIME.UDC_COUNT.VALUE n.val = s.fld Reg.TIME.UDC_COUNT.VALUE n.val + 1 := by
  have hn : n.val ≤ 15 := by omega
  have top := fld_lt_whole s Reg.TIME.UDC_TOP.VALUE n.val rfl
  obtain ⟨u, next⟩ := counterStep_exec dirHigh logic runs triangle (by decide)
  rw [rising, udcStep_triangle_up below] at next
  exact ⟨_, next, (udcShown_count u hn _).trans (Nat.mod_eq_of_lt (by dsimp only; omega))⟩

theorem counterStep_triangle_turn (last : s.fld Reg.TIME.UDC_COUNT.VALUE n.val = s.fld Reg.TIME.UDC_TOP.VALUE n.val) :
    Ends (.counterStep n dirHigh) s fun t => t.fld Reg.TIME.UDC_COUNT.VALUE n.val = s.fld Reg.TIME.UDC_COUNT.VALUE n.val - 1 ∧
      t.bit Reg.TIME.UDC_CTRL.TURN n.val = true ∧ t.bit Reg.TIME.UDC_CTRL.DIR n.val = true := by
  have hn : n.val ≤ 15 := by omega
  have top := fld_lt_whole s Reg.TIME.UDC_TOP.VALUE n.val rfl
  obtain ⟨u, next⟩ := counterStep_exec dirHigh logic runs triangle (by decide)
  rw [rising, last, udcStep_triangle_turn] at next
  exact ⟨_, next, (udcShown_count u hn _).trans (last ▸ Nat.mod_eq_of_lt (by dsimp only; omega)), udcShown_turn u hn rfl,
    udcShown_direction u hn _⟩

end
end

/-! UDCSTART (R298) -/

/-- One counter of UDCSTART: a named counter that stands is started. -/
def udcStart1 (mask : Nat) (s : State) (n : Nat) : State :=
  if mask.testBit n && !s.bit Reg.TIME.UDC_CTRL.RUN n then
    (s.tm fun t => { t with udc := smapSet (fun _ => 0) t.udc n s.now }).setBit Reg.TIME.UDC_CTRL.RUN n true
  else s

theorem udcStart1_run (mask : Nat) (s : State) (n m : Nat) : (udcStart1 mask s n).bit Reg.TIME.UDC_CTRL.RUN m =
    (s.bit Reg.TIME.UDC_CTRL.RUN m || (decide (m = n) && mask.testBit n)) := by
  have unit : Reg.TIME.UDC_CTRL.RUN.off m = Reg.TIME.UDC_CTRL.RUN.off n ↔ m = n := by
    simp only [Field.off, Reg.TIME.UDC_CTRL.RUN]
    omega
  unfold udcStart1
  split
  · next starts =>
    have named : mask.testBit n = true := (Bool.and_eq_true_iff.1 starts).1
    rw [bit_setBit_unit _ _ n true m (by decide) rfl]
    simp only [unit, named, Bool.and_true]
    split
    · next same => simp [same]
    · next other => simp [other]; rfl
  · next idle =>
    by_cases same : m = n
    · subst same
      cases named : mask.testBit m with
      | false => simp
      | true =>
        have run : s.bit Reg.TIME.UDC_CTRL.RUN m = true := by simpa [named] using idle
        simp [run]
    · simp [same]

theorem udcStart_run (mask : Nat) (l : List Nat) (s : State) (m : Nat) : (l.foldl (udcStart1 mask) s).bit Reg.TIME.UDC_CTRL.RUN m =
    (s.bit Reg.TIME.UDC_CTRL.RUN m || (decide (m ∈ l) && mask.testBit m)) := by
  induction l generalizing s with
  | nil => simp
  | cons n l ih =>
    rw [List.foldl_cons, ih, udcStart1_run]
    by_cases same : m = n
    · subst same
      cases mask.testBit m <;> simp
    · simp [same]

theorem udcstart_ends (s : State) (b : By) (mask : BitVec 16) : Ends (.udcstart b mask) s fun t =>
    ∀ n, n < 16 → t.bit Reg.TIME.UDC_CTRL.RUN n = (s.bit Reg.TIME.UDC_CTRL.RUN n || mask.getLsbD n) := by
  have next : exec (.udcstart b mask) s = .next ((upTo 16).foldl (udcStart1 mask.toNat) s) := rfl
  refine ⟨_, next, fun n hn => ?_⟩
  have listed : n ∈ upTo 16 := List.mem_range.2 hn
  rw [udcStart_run, decide_eq_true listed, Bool.true_and]
  rfl

end Sys2Proof.Machine
end

section
namespace Sys2Proof.Machine

/-! ### Capture units (R300, R301) -/

/-- The fields in which a unit shows one kind of edge: the edge's count, the time since the last rising edge, its validity and its
overflow. -/
structure EdgeFields where
  stamp : Field
  span : Field
  valid : Field
  ovf : Field

def risingFields : EdgeFields :=
  ⟨Reg.TIME.CAP_RISE.VALUE, Reg.TIME.CAP_PERIOD.VALUE, Reg.TIME.CAP_STAT.PVALID, Reg.TIME.CAP_STAT.P_OVF⟩

def fallingFields : EdgeFields :=
  ⟨Reg.TIME.CAP_FALL.VALUE, Reg.TIME.CAP_HIGH.VALUE, Reg.TIME.CAP_STAT.HVALID, Reg.TIME.CAP_STAT.H_OVF⟩

/-- The fields that move as an edge of either kind is counted. -/
def countedFields : List Field :=
  [Reg.TIME.CAP_STAT.E_OVF, Reg.TIME.CAP_EDGES.VALUE, Reg.TIME.CAP_STAT.LEVEL, Reg.TIME.CAPEV.EV]

/-- The time from the last rising edge, if there was one. -/
def capSpan (s : State) (n : Nat) (rise : Option Nat) (count : Nat) (K : EdgeFields) : State :=
  match rise with
  | some r =>
    let t := s.setFlds [(K.span, n, count - r), (K.valid, n, 1)]
    if 2 ^ 32 ≤ count - r then t.setBit K.ovf n true else t
  | none => s

/-- An edge's count, and the time from the last rising edge. -/
def capStamped (s : State) (n count : Nat) (K : EdgeFields) : State :=
  capSpan (s.setFld K.stamp n count) n (smapGet (fun _ => CapCh.init) s.timers.cap n).rise count K

/-- A rising edge is kept as the last. -/
def capRose (s : State) (n count : Nat) : State :=
  (capStamped s n count risingFields).tm fun t => { t with cap := smapSet (fun _ => CapCh.init) t.cap n { rise := some count } }

/-- An edge is counted and its level shown, with its event where EV asks for it. -/
def capCounted (s : State) (n : Nat) (level : Bool) : State :=
  let t : State := if s.fld Reg.TIME.CAP_EDGES.VALUE n = 0xFFFFFFFF then s.setBit Reg.TIME.CAP_STAT.E_OVF n true else s
  let u := (t.incFld Reg.TIME.CAP_EDGES.VALUE n).setBit Reg.TIME.CAP_STAT.LEVEL n level
  if u.bit Reg.TIME.CAP_CFG.EV n then u.setFld Reg.TIME.CAPEV.EV 0 (u.fld Reg.TIME.CAPEV.EV 0 ||| 2 ^ n) else u

/-- An edge of an enabled unit with a source that exists is stamped and counted. -/
theorem captureEdge_exec {s : State} {n : Fin 32} (count : Nat) (level : Bool) (logic : s.dom.logic = true)
    (enabled : s.bit Reg.TIME.CAP_CFG.EN n.val = true) (source : s.fld Reg.TIME.CAP_CFG.SRC n.val < 112) :
    exec (.captureEdge n count level) s = .next (capCounted
      (if level then capRose (s.reach (count + s.fld Reg.TIME.CAP_CFG.FILT n.val)) n.val count
        else capStamped (s.reach (count + s.fld Reg.TIME.CAP_CFG.FILT n.val)) n.val count fallingFields) n.val level) := by
  have on : ¬(!s.dom.logic || !s.bit Reg.TIME.CAP_CFG.EN n.val || decide (112 ≤ s.fld Reg.TIME.CAP_CFG.SRC n.val)) = true := by
    simp [logic, enabled, source]
  exact (if_neg on).trans rfl

/-- The fields of an edge share no bit with one another or with those that count it. -/
structure EdgeFields.Sound (K : EdgeFields) : Prop where
  whole : (K.stamp.lo = 0 ∧ K.stamp.len = 32) ∧ K.span.lo = 0 ∧ K.span.len = 32
  one : K.valid.lo + K.valid.len ≤ 32 ∧ K.valid.len = 1
  stamp : ([K.span, K.valid, K.ovf] ++ countedFields).all (fun F => unitsApart 31 F K.stamp) = true
  span : ([K.valid, K.ovf] ++ countedFields).all (fun F => unitsApart 31 F K.span) = true
  valid : (K.ovf :: countedFields).all (fun F => unitsApart 31 F K.valid) = true
  edges : [K.stamp, K.span, K.valid, K.ovf].all (fun F => unitsApart 31 F Reg.TIME.CAP_EDGES.VALUE) = true

theorem risingFields_sound : risingFields.Sound :=
  ⟨by decide, by decide, by decide, by decide, by decide, by decide⟩

theorem fallingFields_sound : fallingFields.Sound :=
  ⟨by decide, by decide, by decide, by decide, by decide, by decide⟩

section
variable (s : State) {n : Nat} (hn : n ≤ 31)
include hn

theorem capSpan_fld (rise : Option Nat) (count : Nat) {K : EdgeFields} {G : Field}
    (clear : [K.span, K.valid, K.ovf].all (fun F => unitsApart 31 F G) = true) : (capSpan s n rise count K).fld G n = s.fld G n := by
  have apart (F : Field) (hF : F ∈ [K.span, K.valid, K.ovf]) := List.all_eq_true.1 clear F hF
  cases rise with
  | none => rfl
  | some r =>
    have shown : (s.setFlds [(K.span, n, count - r), (K.valid, n, 1)]).fld G n = s.fld G n :=
      (fld_setFld_of_unitsApart _ hn hn _ (apart _ (by simp))).trans (fld_setFld_of_unitsApart s hn hn _ (apart _ (by simp)))
    rw [capSpan]
    split
    · exact (fld_setFld_of_unitsApart _ hn hn _ (apart _ (by simp))).trans shown
    · exact shown

/-- With a rising edge before it, the time is shown and valid. -/
theorem capSpan_shows (r count : Nat) {K : EdgeFields} (sound : K.Sound) : (capSpan s n (some r) count K).fld K.span n = (count - r) % 2 ^ 32 ∧
    (capSpan s n (some r) count K).bit K.valid n = true := by
  obtain ⟨⟨-, lo, len⟩, ⟨fits, one⟩, -, span, valid, -⟩ := sound
  have apartSpan (F : Field) (hF : F ∈ [K.valid, K.ovf] ++ countedFields) := List.all_eq_true.1 span F hF
  have apartValid := List.all_eq_true.1 valid K.ovf (by simp)
  have first : (s.setFlds [(K.span, n, count - r), (K.valid, n, 1)]).fld K.span n = (count - r) % 2 ^ 32 := by
    rw [State.setFlds, State.setFlds, State.setFlds, fld_setFld_of_unitsApart _ hn hn _ (apartSpan _ (by simp)),
      fld_setFld_same _ _ _ _ (by omega), len]
  have second : (s.setFlds [(K.span, n, count - r), (K.valid, n, 1)]).bit K.valid n = true := bit_setFld_one _ n fits one
  rw [capSpan]
  split
  · exact ⟨(fld_setFld_of_unitsApart _ hn hn _ (apartSpan _ (by simp))).trans first,
      (bit_setFld_of_unitsApart _ hn hn _ apartValid).trans second⟩
  · exact ⟨first, second⟩

theorem capCounted_fld (level : Bool) {G : Field} (clear : countedFields.all (fun F => unitsApart 31 F G) = true) :
    (capCounted s n level).fld G n = s.fld G n := by
  have apart (F : Field) (hF : F ∈ countedFields) := List.all_eq_true.1 clear F hF
  unfold capCounted
  extract_lets t u
  have first : t.fld G n = s.fld G n := by
    unfold t
    split
    · exact fld_setFld_of_unitsApart s hn hn _ (apart _ (by simp [countedFields]))
    · rfl
  have second : u.fld G n = s.fld G n := (fld_setFld_of_unitsApart _ hn hn _ (apart _ (by simp [countedFields]))).trans
    ((fld_setFld_of_unitsApart t hn hn _ (apart _ (by simp [countedFields]))).trans first)
  split
  · exact (fld_setFld_of_unitsApart u (Nat.zero_le _) hn _ (apart _ (by simp [countedFields]))).trans second
  · exact second

theorem capCounted_edges (level : Bool) : (capCounted s n level).fld Reg.TIME.CAP_EDGES.VALUE n =
    (s.fld Reg.TIME.CAP_EDGES.VALUE n + 1) % 2 ^ 32 := by
  unfold capCounted
  extract_lets t u
  have first : t.fld Reg.TIME.CAP_EDGES.VALUE n = s.fld Reg.TIME.CAP_EDGES.VALUE n := by
    unfold t
    split
    · exact fld_setFld_of_unitsApart s hn hn _ (by decide)
    · rfl
  have second : u.fld Reg.TIME.CAP_EDGES.VALUE n = (s.fld Reg.TIME.CAP_EDGES.VALUE n + 1) % 2 ^ 32 := by
    refine (fld_setFld_of_unitsApart _ hn hn _ (by decide)).trans ((fld_setFld_same t _ n _ (by decide)).trans ?_)
    rw [first]
    rfl
  split
  · exact (fld_setFld_of_unitsApart u (Nat.zero_le _) hn _ (by decide)).trans second
  · exact second

theorem capCounted_level (level : Bool) : (capCounted s n level).bit Reg.TIME.CAP_STAT.LEVEL n = level := by
  unfold capCounted
  extract_lets t u
  have shown : u.bit Reg.TIME.CAP_STAT.LEVEL n = level := bit_setBit_value _ n level (by decide) rfl
  split
  · exact (bit_setFld_of_unitsApart u (Nat.zero_le _) hn _ (by decide)).trans shown
  · exact shown

/-- What an edge that is stamped and counted shows, whatever its kind. -/
theorem capCounted_shows {u : State} (count : Nat) (level : Bool) {K : EdgeFields} (sound : K.Sound)
    (stamped : u.regs = (capStamped s n count K).regs) : (capCounted u n level).fld K.stamp n = count % 2 ^ 32 ∧
      (∀ r, (smapGet (fun _ => CapCh.init) s.timers.cap n).rise = some r →
        (capCounted u n level).fld K.span n = (count - r) % 2 ^ 32 ∧ (capCounted u n level).bit K.valid n = true) ∧
      (capCounted u n level).fld Reg.TIME.CAP_EDGES.VALUE n = (s.fld Reg.TIME.CAP_EDGES.VALUE n + 1) % 2 ^ 32 := by
  have same (F : Field) : u.fld F n = (capStamped s n count K).fld F n := fld_of_regs stamped F n
  have shows := capSpan_shows (s.setFld K.stamp n count) hn (count := count) (sound := sound)
  obtain ⟨⟨⟨lo, len⟩, -⟩, -, stamp, span, valid, edges⟩ := sound
  rw [List.all_append, Bool.and_eq_true] at stamp span
  obtain ⟨stampSpan, stampCounted⟩ := stamp
  rw [List.all_cons, Bool.and_eq_true] at valid edges
  refine ⟨?_, fun r before => ?_, ?_⟩
  · rw [capCounted_fld u hn level stampCounted, same, capStamped, capSpan_fld _ hn _ _ stampSpan, fld_setFld_same _ _ _ _ (by omega), len]
  · obtain ⟨time, marked⟩ := shows r
    rw [State.bit, capCounted_fld u hn level span.2, capCounted_fld u hn level valid.2, same, same, capStamped, before]
    exact ⟨time, marked⟩
  · rw [capCounted_edges u hn level, same, capStamped, capSpan_fld _ hn _ _ edges.2, fld_setFld_of_unitsApart s hn hn _ edges.1]

end

theorem capCounted_timers (s : State) (n : Nat) (level : Bool) : (capCounted s n level).timers = s.timers := by
  unfold capCounted
  extract_lets t u
  have first : t.timers = s.timers := by
    unfold t
    split
    · exact State.setBit_timers ..
    · rfl
  have second : u.timers = s.timers := by
    unfold u
    rw [State.setBit_timers, State.incFld, State.setFld_timers, first]
  split
  · exact (State.setFld_timers ..).trans second
  · exact second

theorem capRose_rise (s : State) (n count : Nat) : (smapGet (fun _ => CapCh.init) (capRose s n count).timers.cap n).rise = some count :=
  congrArg CapCh.rise (smapGet_set_same (fun _ => CapCh.init) _ n { rise := some count })

section
variable {s : State} {n : Fin 32} (count : Nat) (logic : s.dom.logic = true) (enabled : s.bit Reg.TIME.CAP_CFG.EN n.val = true)
  (source : s.fld Reg.TIME.CAP_CFG.SRC n.val < 112)
include logic enabled source

/-- A rising edge keeps its count, and shows the period since the one before. -/
theorem captureEdge_rises : Ends (.captureEdge n count true) s fun t =>
    t.fld Reg.TIME.CAP_RISE.VALUE n.val = count % 2 ^ 32 ∧ (smapGet (fun _ => CapCh.init) t.timers.cap n.val).rise = some count ∧
      (∀ r, (smapGet (fun _ => CapCh.init) s.timers.cap n.val).rise = some r →
        t.fld Reg.TIME.CAP_PERIOD.VALUE n.val = (count - r) % 2 ^ 32 ∧ t.bit Reg.TIME.CAP_STAT.PVALID n.val = true) ∧
      t.fld Reg.TIME.CAP_EDGES.VALUE n.val = (s.fld Reg.TIME.CAP_EDGES.VALUE n.val + 1) % 2 ^ 32 ∧
      t.bit Reg.TIME.CAP_STAT.LEVEL n.val = true := by
  have hn : n.val ≤ 31 := by omega
  let u := capRose (s.reach (count + s.fld Reg.TIME.CAP_CFG.FILT n.val)) n.val count
  obtain ⟨stamp, span, edges⟩ := capCounted_shows (s.reach (count + s.fld Reg.TIME.CAP_CFG.FILT n.val)) hn (u := u) count true
    risingFields_sound rfl
  exact ⟨capCounted u n.val true, captureEdge_exec count true logic enabled source, stamp,
    (congrArg (fun t : Timers => (smapGet (fun _ => CapCh.init) t.cap n.val).rise) (capCounted_timers ..)).trans (capRose_rise ..),
    span, edges, capCounted_level _ hn true⟩

/-- A falling edge keeps its count, and shows the time high since the last rising edge. -/
theorem captureEdge_falls : Ends (.captureEdge n count false) s fun t =>
    t.fld Reg.TIME.CAP_FALL.VALUE n.val = count % 2 ^ 32 ∧
      (∀ r, (smapGet (fun _ => CapCh.init) s.timers.cap n.val).rise = some r →
        t.fld Reg.TIME.CAP_HIGH.VALUE n.val = (count - r) % 2 ^ 32 ∧ t.bit Reg.TIME.CAP_STAT.HVALID n.val = true) ∧
      t.fld Reg.TIME.CAP_EDGES.VALUE n.val = (s.fld Reg.TIME.CAP_EDGES.VALUE n.val + 1) % 2 ^ 32 ∧
      t.bit Reg.TIME.CAP_STAT.LEVEL n.val = false := by
  have hn : n.val ≤ 31 := by omega
  obtain ⟨stamp, span, edges⟩ := capCounted_shows (s.reach (count + s.fld Reg.TIME.CAP_CFG.FILT n.val)) hn count false
    fallingFields_sound rfl
  exact ⟨_, captureEdge_exec count false logic enabled source, stamp, span, edges, capCounted_level _ hn false⟩

end

/-- Settles O32: each command by what it shows, and what else its step touches shares no bit with it (`unitsApart`); of a wake event
only registers of the POWER block (`PowerOnly`). Where a counter wraps and turns is the model's logs 94 and 95. -/
theorem timeBaseAndTimersCount : Obligations.TimeBaseAndTimersCount := by
  unfold Obligations.TimeBaseAndTimersCount
  refine ⟨⟨fun s runs => timeBaseCarry_ends runs,
      fun s ratio runs => ⟨slowratio_taken runs, slowratio_raises runs⟩,
      fun s port pdelay ns enabled onPort near net logic => ?_⟩,
    fun s n awake logic armed => compareFire_ends awake logic armed,
    fun s n dirHigh logic runs => ⟨counterStep_up dirHigh logic runs, counterStep_down dirHigh logic runs,
      counterStep_triangle_up dirHigh logic runs,
      fun triangle rising last _ => counterStep_triangle_turn dirHigh logic runs triangle rising last⟩,
    udcstart_ends,
    fun s n count logic enabled source => ⟨captureEdge_rises count logic enabled source, captureEdge_falls count logic enabled source⟩⟩
  have taken : SyncTaken s port.val pdelay := ⟨enabled, onPort, near, net, logic⟩
  refine ⟨fun runs above below => syncMessage_locks taken ns runs ?_, syncMessage_lost taken ns,
    syncMessage_steps taken ns, syncMessage_behind taken ns⟩
  unfold syncOffset
  omega

end Sys2Proof.Machine
end

section
namespace Sys2Proof.Machine

/-! ### Switch inputs (R302 to R304) -/

/-- The new level of a switch input is shown, and that it has changed. -/
def siShown (s : State) (n : Nat) : State :=
  s.setFlds [(Reg.INPUT.SILVL.LEVEL, n / 32, s.fld Reg.INPUT.SILVL.LEVEL (n / 32) ^^^ 2 ^ (n % 32)),
    (Reg.INPUT.SICHG.CHG, n / 32, s.fld Reg.INPUT.SICHG.CHG (n / 32) ||| 2 ^ (n % 32))]

theorem siShown_word (s : State) {n m : Nat} (hn : n < 64) (hm : m < 64) : (siShown s n).fld Reg.INPUT.SILVL.LEVEL (m / 32) =
    if m / 32 = n / 32 then (s.fld Reg.INPUT.SILVL.LEVEL (n / 32) ^^^ 2 ^ (n % 32)) % 2 ^ 32
    else s.fld Reg.INPUT.SILVL.LEVEL (m / 32) := by
  rw [siShown, State.setFlds, State.setFlds, State.setFlds, fld_setFld_of_unitsApart (u := 1) _ (by omega) (by omega) _ (by decide)]
  split
  · next same => rw [same]; exact fld_setFld_same _ _ _ _ (by decide)
  · next other => exact fld_setFld_elsewhere _ _ (by simp only [Field.off, Reg.INPUT.SILVL.LEVEL]; omega)

theorem siShown_level (s : State) {n m : Nat} (hn : n < 64) (hm : m < 64) :
    siLevel (siShown s n) m = if m = n then !siLevel s n else siLevel s m := by
  rw [siLevel, siShown_word s hn hm]
  by_cases word : m / 32 = n / 32
  · have inWord : m % 32 < 32 := Nat.mod_lt _ (by decide)
    rw [if_pos word, Nat.testBit_mod_two_pow, decide_eq_true inWord, Bool.true_and, Nat.testBit_xor, Nat.testBit_two_pow]
    by_cases same : m = n
    · subst same
      simp [siLevel]
    · have place : n % 32 ≠ m % 32 := by omega
      simp [same, place, siLevel, word]
  · have other : m ≠ n := fun same => word (same ▸ rfl)
    rw [if_neg word, if_neg other, siLevel]

theorem siShown_change (s : State) (n : Nat) : ((siShown s n).fld Reg.INPUT.SICHG.CHG (n / 32)).testBit (n % 32) = true := by
  rw [siShown, State.setFlds, State.setFlds, State.setFlds]
  exact testBit_setFld_or _ _ _ _ (by decide) (Nat.mod_lt _ (by decide))

theorem PowerOnly.siLevel {s t : State} (h : PowerOnly s t) {n : Nat} (hn : n < 64) : siLevel t n = siLevel s n := by
  rw [Machine.siLevel, h.fld _ (n / 32) (off_below_power (u := 1) (by omega) (by decide)), Machine.siLevel]

/-- A closure of an input with CLEAN starts a cleaning pulse. -/
def siPulsed (s : State) (n : Nat) (level : Bool) : State :=
  if s.bit Reg.INPUT.SICFG.CLEAN n && level == s.bit Reg.INPUT.SICFG.DIR n then
    s.tm fun t => { t with clean := smapSet (fun _ => 0) t.clean n (s.now + 1) }
  else s

theorem siPulsed_regs (s : State) (n : Nat) (level : Bool) : (siPulsed s n level).regs = s.regs := by
  unfold siPulsed
  split
  · rfl
  · rfl

/-- Outside a valley a change of level is shown, may start a cleaning pulse, and is a wake event where VWAKE asks for it. -/
theorem siLevelChange_exec {s : State} {n : Fin 64} {level : Bool} (awake : inValley s = false) (changes : siLevel s n.val = !level) :
    ∃ t, exec (.siLevelChange n level) s = .next t ∧ PowerOnly (siPulsed (siShown s n.val) n.val level) t := by
  have new : ¬(inValley s || siLevel s n.val == level) = true := by simp [awake, changes]
  exact ⟨if (siPulsed (siShown s n.val) n.val level).bit Reg.INPUT.SICFG.VWAKE n.val then _ else _, if_neg new,
    .ite (wakeEvent_powerOnly _ 6 n.val) (.refl _)⟩

theorem siLevelChange_ends {s : State} {n : Fin 64} {level : Bool} (awake : inValley s = false) (changes : siLevel s n.val = !level) :
    Ends (.siLevelChange n level) s fun t => siLevel t n.val = level ∧
      (t.fld Reg.INPUT.SICHG.CHG (n.val / 32)).testBit (n.val % 32) = true ∧ ∀ m, m < 64 → m ≠ n.val → siLevel t m = siLevel s m := by
  obtain ⟨t, next, power⟩ := siLevelChange_exec awake changes
  have levels (m : Nat) (hm : m < 64) : siLevel t m = if m = n.val then !siLevel s n.val else siLevel s m := by
    rw [power.siLevel hm, siLevel, fld_of_regs (siPulsed_regs ..)]
    exact siShown_level s n.isLt hm
  refine ⟨t, next, ?_, ?_, fun m hm other => ?_⟩
  · rw [levels n.val n.isLt, if_pos rfl, changes, Bool.not_not]
  · rw [power.fld _ (n.val / 32) (off_below_power (u := 1) (by omega) (by decide)), fld_of_regs (siPulsed_regs ..)]
    exact siShown_change s n.val
  · rw [levels m hm, if_neg other]

/-- A cleaning pulse ends 5 ms after the closure. -/
theorem cleaningPulseEnd_ends {s : State} {n : Fin 64} (cleans : smapGet (fun _ => 0) s.timers.clean n.val ≠ 0) :
    Ends (.cleaningPulseEnd n) s fun t => smapGet (fun _ => 0) t.timers.clean n.val = 0 ∧
      smapGet (fun _ => 0) s.timers.clean n.val - 1 + 500000 ≤ t.now ∧ t.regs = s.regs :=
  ⟨_, if_neg cleans, smapGet_set_same (fun _ => 0) s.timers.clean n.val 0, Nat.le_max_right .., rfl⟩

section
variable {s : State} {n : Fin 64} {level : Bool} (valley : inValley s = true) (wakes : s.bit Reg.INPUT.SICFG.VWAKE n.val = true)
  (differs : siLevel s n.val = !level)
include valley wakes differs

theorem siValleyPoll_exec : exec (.siValleyPoll n level) s =
    if n.val ∈ s.timers.polled then .next (wakeEvent (s.tm fun t => { t with polled := t.polled.filter (· != n.val) }) 6 n.val)
    else .next (s.tm fun t => { t with polled := t.polled ++ [n.val] }) := by
  have polls : ¬(!inValley s || !s.bit Reg.INPUT.SICFG.VWAKE n.val) = true := by simp [valley, wakes]
  have new : ¬(siLevel s n.val == level) = true := by simp [differs]
  exact (if_neg polls).trans (if_neg new)

/-- The first poll that differs is noted. -/
theorem siValleyPoll_notes (first : n.val ∉ s.timers.polled) : Ends (.siValleyPoll n level) s fun t =>
    n.val ∈ t.timers.polled ∧ t.power = s.power := by
  rw [Ends, siValleyPoll_exec valley wakes differs, if_neg first]
  exact ⟨_, rfl, List.mem_append_right _ (List.mem_singleton.2 rfl), rfl⟩

/-- The second that differs is a wake of source 6. -/
theorem siValleyPoll_wakes (second : n.val ∈ s.timers.polled) (enabled : (s.fld Reg.POWER.WAKEEN.EN 0).testBit 6 = true)
    (passed : sleepState s = sleepPassed) (stays : s.power.exitAt = none) : Ends (.siValleyPoll n level) s fun t =>
      n.val ∉ t.timers.polled ∧ t.power.exitAt = some s.now ∧ (t.fld Reg.POWER.WAKEREASON.REASON 0).testBit 6 = true := by
  let u := s.tm fun t => { t with polled := t.polled.filter (· != n.val) }
  have wake := wakeEvent_starts_exit (s := u) (b := 6) enabled passed valley stays n.val
  rw [Ends, siValleyPoll_exec valley wakes differs, if_pos second]
  refine ⟨_, rfl, ?_, ?_, ?_⟩
  · rw [(wakeEvent_powerOnly u 6 n.val).timers]
    simp [u, State.tm]
  · rw [wake]
    rfl
  · rw [wake]
    exact wakeNoted_shows u (by decide) n.val

end

/-! ### Analog inputs (R305, R306) -/

theorem setFlds_live {s : State} (live : Live s) (l : List (Field × Nat × Nat))
    (above : (l.all fun p => decide (0x30000 < p.1.base)) = true) : Live (s.setFlds l) := by
  induction l generalizing s with
  | nil => exact live
  | cons p l ih =>
    obtain ⟨first, later⟩ := Bool.and_eq_true_iff.1 above
    exact ih (setFld_live live p.2.1 p.2.2 (of_decide_eq_true first)) later

/-- A conversion that is due at `due` completes: it is off the list, and its code and millivolts are shown. -/
def aiShown (s : State) (n due code : Nat) : State :=
  let t := (s.reach due).tm fun t => { t with conv := t.conv.filter fun p => p.1 != n }
  t.setFlds [(Reg.INPUT.AIVAL.VALID, n, 1), (Reg.INPUT.AIVAL.SAT, n, if 4095 ≤ code then 1 else 0),
    (Reg.INPUT.AIVAL.MV, n, code * 5000 / 4096 * (if t.bit Reg.INPUT.AICFG.DIV n then 4 else 1)), (Reg.INPUT.AIVAL.CODE, n, code)]

section
variable (s : State) {n : Nat} (hn : n ≤ 23) (due code : Nat)

theorem aiShown_timers : (aiShown s n due code).timers.conv = s.timers.conv.filter fun p => p.1 != n :=
  setFlds_view (fun t => t.timers.conv) (fun _ _ _ _ => rfl) ..

theorem aiShown_code (small : code < 2 ^ 12) : (aiShown s n due code).fld Reg.INPUT.AIVAL.CODE n = code :=
  (fld_setFld_same _ Reg.INPUT.AIVAL.CODE n code (by decide)).trans (Nat.mod_eq_of_lt small)

theorem aiShown_live {s : State} (live : Live s) : Live (aiShown s n due code) := by
  have off : Live ((s.reach due).tm fun t => { t with conv := t.conv.filter fun p => p.1 != n }) := ⟨live.up, live.open', live.quiet⟩
  exact setFlds_live off _ rfl

include hn

theorem aiShown_valid : (aiShown s n due code).bit Reg.INPUT.AIVAL.VALID n = true := by
  rw [aiShown, State.setFlds, State.setFlds, State.setFlds, State.setFlds, State.setFlds, bit_setFld_of_unitsApart _ hn hn _ (by decide),
    bit_setFld_of_unitsApart _ hn hn _ (by decide), bit_setFld_of_unitsApart _ hn hn _ (by decide)]
  exact bit_setFld_one _ n (by decide) rfl

theorem aiShown_mode : (aiShown s n due code).fld Reg.INPUT.AICFG.MODE n = s.fld Reg.INPUT.AICFG.MODE n := by
  rw [aiShown, State.setFlds, State.setFlds, State.setFlds, State.setFlds, State.setFlds, fld_setFld_of_unitsApart _ hn hn _ (by decide),
    fld_setFld_of_unitsApart _ hn hn _ (by decide), fld_setFld_of_unitsApart _ hn hn _ (by decide),
    fld_setFld_of_unitsApart _ hn hn _ (by decide)]
  rfl

end

section
variable {s : State} {n : Fin 24} (code : BitVec 12) (converts : ∃ p ∈ s.timers.conv, p.1 = n.val)
include converts

theorem conversion_found : ∃ p, s.timers.conv.find? (fun p => p.1 == n.val) = some p := by
  obtain ⟨p, listed, input⟩ := converts
  exact Option.isSome_iff_exists.1 (List.find?_isSome.2 ⟨p, listed, beq_iff_eq.2 input⟩)

/-- A conversion of an input without an NTC shows its code. -/
theorem aiConversionDone_shows (plain : s.fld Reg.INPUT.AICFG.MODE n.val ≠ 1) : Ends (.aiConversionDone n code) s fun t =>
    t.fld Reg.INPUT.AIVAL.CODE n.val = code.toNat ∧ t.bit Reg.INPUT.AIVAL.VALID n.val = true ∧ ∀ p ∈ t.timers.conv, p.1 ≠ n.val := by
  have hn : n.val ≤ 23 := by omega
  obtain ⟨⟨input, due⟩, found⟩ := conversion_found converts
  have mode : (aiShown s n.val due code.toNat).fld Reg.INPUT.AICFG.MODE n.val ≠ 1 := by rwa [aiShown_mode s hn]
  have next : exec (.aiConversionDone n code) s = .next (aiShown s n.val due code.toNat) := by
    show execAiConversionDone n code s = _
    unfold execAiConversionDone
    dsimp only
    rw [found]
    exact if_pos mode
  refine ⟨_, next, aiShown_code s due _ code.isLt, aiShown_valid s hn due _, fun p listed => ?_⟩
  rw [aiShown_timers] at listed
  simpa using (List.mem_filter.1 listed).2

/-- An open or shorted NTC is raised. -/
theorem aiConversionDone_raises (ntc : s.fld Reg.INPUT.AICFG.MODE n.val = 1) (live : Live s) (out : code.toNat ≤ 15 ∨ 4080 ≤ code.toNat) :
    Raises (.aiConversionDone n code) s Flt.INPUT.NTC n.val 0 := by
  have hn : n.val ≤ 23 := by omega
  obtain ⟨⟨input, due⟩, found⟩ := conversion_found converts
  have mode : ¬(aiShown s n.val due code.toNat).fld Reg.INPUT.AICFG.MODE n.val ≠ 1 := by rw [aiShown_mode s hn, ntc]; decide
  let u := (aiShown s n.val due code.toNat).setFlds [(Reg.INPUT.AITEMP.OPEN, n.val, if 4080 ≤ code.toNat then 1 else 0),
    (Reg.INPUT.AITEMP.SHORT, n.val, if code.toNat ≤ 15 then 1 else 0)]
  have live' : Live u := setFlds_live (aiShown_live due _ live) _ rfl
  have next : exec (.aiConversionDone n code) s = .next (raiseFault u Flt.INPUT.NTC n.val 0) := by
    show execAiConversionDone n code s = _
    unfold execAiConversionDone
    dsimp only
    rw [found]
    exact (if_neg mode).trans (if_pos out.symm)
  exact ⟨_, next, raiseFault_flagged live' _ _ _⟩

end

/-- Settles O33: what each command shows (`siShown`, `aiShown`); of a wake event only registers of the POWER block have changed
(`PowerOnly`), and in a valley it starts the exit (`wakeEvent_starts_exit`). -/
theorem inputsAreShown : Obligations.InputsAreShown := by
  unfold Obligations.InputsAreShown
  exact ⟨fun s n level awake changes => siLevelChange_ends awake changes,
    fun s n cleans => cleaningPulseEnd_ends cleans,
    fun s n level valley wakes differs => ⟨siValleyPoll_notes valley wakes differs, siValleyPoll_wakes valley wakes differs⟩,
    fun s n code converts => ⟨aiConversionDone_shows code converts, aiConversionDone_raises code converts⟩⟩

end Sys2Proof.Machine
end

section
/-!
# Proofs of the family 11_dictionary_and_networks

Ports, their queues and their links; frames that come in; commands of the dictionary; the journal's outcomes, its drain and the
named cols.
-/
namespace Sys2Proof.Machine

/-! ### What a port sends (R332, R336) -/

theorem txQueue_setTxQueue_ne (s : State) {q r : Nat} (l : List TxItem) (other : r ≠ q) : txQueue (setTxQueue s q l) r = txQueue s r :=
  smapGet_set_ne _ s.net.tx l other

/-- The frame that a port sends last of several stands as sent. -/
theorem txSend_of_last {s : State} {q k : Nat} {x : TxItem} (last : ((txQueue s q).take k).getLast? = some x) : txSend s q k =
    (setTxQueue s q ((txQueue s q).drop k)).nt fun n => { n with sent := n.sent.filter (fun p => p.1 != q) ++ [(q, x)] } := by
  rw [txSend, last]

/-- With nothing to send the state stands. -/
theorem txSend_of_none {s : State} {q k : Nat} (none' : ((txQueue s q).take k).getLast? = none) : txSend s q k = s := by
  rw [txSend, none']

theorem txSend_queue (s : State) (q k : Nat) : txQueue (txSend s q k) q = (txQueue s q).drop k := by
  cases last : ((txQueue s q).take k).getLast? with
  | none =>
    rw [txSend_of_none last]
    rcases List.take_eq_nil_iff.1 (List.getLast?_eq_none_iff.1 last) with rfl | empty
    · rfl
    · rw [empty, List.drop_nil]
  | some x =>
    rw [txSend_of_last last]
    exact txQueue_setTxQueue s q _

theorem txSend_queue_ne (s : State) {q r : Nat} (k : Nat) (other : r ≠ q) : txQueue (txSend s q k) r = txQueue s r := by
  cases last : ((txQueue s q).take k).getLast? with
  | none => rw [txSend_of_none last]
  | some x =>
    rw [txSend_of_last last]
    exact txQueue_setTxQueue_ne s _ other

theorem txSend_regs (s : State) (q k : Nat) : (txSend s q k).regs = s.regs := by
  cases last : ((txQueue s q).take k).getLast? with
  | none => rw [txSend_of_none last]
  | some x =>
    rw [txSend_of_last last]
    rfl

theorem txSend_sent {s : State} {q k : Nat} {x : TxItem} (last : ((txQueue s q).take k).getLast? = some x) :
    (q, x) ∈ (txSend s q k).net.sent := by
  rw [txSend_of_last last]
  exact List.mem_append_right _ (List.mem_singleton.2 rfl)

theorem answerTransmit_sends {s : State} {port : Fin 11} {x : TxItem} {l : List TxItem} (up : portUp s port.val = true)
    (own : port.val = 2 → plcaRuns s = false) (queue : txQueue s port.val = x :: l) : Ends (.answerTransmit port) s fun t =>
      txQueue t port.val = l ∧ (port.val, x) ∈ t.net.sent ∧ t.regs = s.regs ∧ ∀ q, q ≠ port.val → txQueue t q = txQueue s q := by
  have free : (port.val == 2 && plcaRuns s) = false := by
    by_cases ts : port.val = 2
    · rw [own ts, Bool.and_false]
    · rw [beq_false_of_ne ts, Bool.false_and]
  have sends : (portUp s port.val && !(port.val == 2 && plcaRuns s)) = true := by rw [up, free]; rfl
  have last : ((txQueue s port.val).take 1).getLast? = some x := by rw [queue]; rfl
  refine ⟨txSend s port.val 1, congrArg _ (if_pos sends), ?_, txSend_sent last, txSend_regs .., fun q other => txSend_queue_ne s 1 other⟩
  rw [txSend_queue, queue]
  rfl

theorem transmitOpportunity_sends {s : State} (up : portUp s 2 = true) (plca : plcaRuns s = true) : Ends .transmitOpportunity s fun t =>
    txQueue t 2 = (txQueue s 2).drop (1 + s.effFld Reg.NET.TSCFG.BURST 0) ∧ t.regs = s.regs ∧ (∀ q, q ≠ 2 → txQueue t q = txQueue s q) ∧
    ∀ x, ((txQueue s 2).take (1 + s.effFld Reg.NET.TSCFG.BURST 0)).getLast? = some x → (2, x) ∈ t.net.sent := by
  have sends : (portUp s 2 && plcaRuns s) = true := by rw [up, plca]; rfl
  exact ⟨txSend s 2 _, congrArg _ (if_pos sends), txSend_queue .., txSend_regs .., fun q other => txSend_queue_ne s _ other, fun x last => txSend_sent last⟩

/-! ### Links (R335, R336, R345, R386) -/

/-- No source of the network block concerns an output. -/
theorem faultOutput_net {src : Nat} (unit : Nat) (net : src / 256 = 0x20) : faultOutput src unit = none := by
  simp [faultOutput, net]

theorem Recorded.fld_above {s t : State} (h : Recorded s t) (F : Field) (n : Nat) (above : 0x50000 ≤ F.base) : t.fld F n = s.fld F n := by
  rw [State.fld, h.lsw F n above, State.fld]

theorem Recorded.bit_above {s t : State} (h : Recorded s t) (F : Field) (n : Nat) (above : 0x50000 ≤ F.base) : t.bit F n = s.bit F n := by
  rw [State.bit, h.fld_above F n above, State.bit]

theorem Recorded.net {s t : State} (h : Recorded s t) : t.net = s.net := by rw [h.rest]

theorem setBit_live {s : State} (live : Live s) {F : Field} (n : Nat) (b : Bool) (above : 0x30000 < F.base) : Live (s.setBit F n b) :=
  setFld_live live n _ above

/-- What only the networks keep does not matter to the collector. -/
theorem setNet_live {s : State} (live : Live s) (x : Net) : Live { s with net := x } := ⟨live.up, live.open', live.quiet⟩

/-- The link of a T1 port that NET.STATUS shows. -/
def linkShown (e : Nat) : Field := if e = 0 then Reg.NET.STATUS.ETA_LINK else Reg.NET.STATUS.ETB_LINK

theorem linkShown_base (e : Nat) : (linkShown e).base = 0x200000 ∧ (linkShown e).stride = 0 := by
  unfold linkShown
  split
  · exact ⟨rfl, rfl⟩
  · exact ⟨rfl, rfl⟩

theorem linkBits_eq (s : State) (e : Nat) (up : Bool) :
    linkBits s e up = (s.setBit Reg.NET.ETSTAT.LINK e up).setBit (linkShown e) 0 up := (rfl)

theorem linkBits_link (s : State) (e : Nat) (up : Bool) : (linkBits s e up).bit Reg.NET.ETSTAT.LINK e = up := by
  obtain ⟨base, stride⟩ := linkShown_base e
  have elsewhere : Reg.NET.ETSTAT.LINK.off e ≠ (linkShown e).off 0 := by
    simp only [Field.off, base, stride, Reg.NET.ETSTAT.LINK]
    omega
  rw [linkBits_eq, State.setBit, bit_setFld_elsewhere _ _ elsewhere]
  exact bit_setBit_value _ _ _ (by decide) rfl

theorem linkBits_live {s : State} (live : Live s) (e : Nat) (up : Bool) : Live (linkBits s e up) := by
  rw [linkBits_eq]
  exact setBit_live (setBit_live live e up (by decide)) 0 up (by rw [(linkShown_base e).1]; decide)

theorem syncUnlock_flags (s : State) (e : Nat) : (syncUnlock s e).flags = s.flags := by
  unfold syncUnlock
  split
  · exact State.setBit_flags ..
  · rfl

theorem syncUnlock_live {s : State} (live : Live s) (e : Nat) : Live (syncUnlock s e) := by
  unfold syncUnlock
  split
  · exact setFld_live_below live _ 0 _ (by decide)
  · exact live

/-- The time base's lock stands in the TIME block. -/
theorem syncUnlock_bit (s : State) (e : Nat) {F : Field} (n : Nat) (net : 0x50000 ≤ F.base) : (syncUnlock s e).bit F n = s.bit F n := by
  have elsewhere : F.off n ≠ Reg.TIME.SYNC.LOCK.off 0 := by
    simp only [Field.off, Reg.TIME.SYNC.LOCK]
    omega
  unfold syncUnlock
  split
  · exact bit_setFld_elsewhere s _ elsewhere
  · rfl

theorem linkLoss_ends {s : State} {e : Fin 2} (on : s.dom.net = true) (link : s.bit Reg.NET.ETSTAT.LINK e.val = true) (live : Live s) :
    Ends (.linkLoss e) s fun t => t.bit Reg.NET.ETSTAT.LINK e.val = false ∧ Flagged t Flt.NET.LINK (9 + e.val) 0 := by
  have linked : ¬(!s.dom.net || !s.bit Reg.NET.ETSTAT.LINK e.val) = true := by simp [on, link]
  have live' : Live (syncUnlock (linkBits s e.val false) e.val) := syncUnlock_live (linkBits_live live _ _) _
  obtain ⟨recorded, flagged⟩ := raiseFault_recorded live' (faultOutput_net (src := Flt.NET.LINK) (9 + e.val) (by decide))
  refine ⟨_, if_neg linked, ?_, flagged⟩
  rw [recorded.bit_above _ _ (by decide), syncUnlock_bit _ _ _ (by decide)]
  exact linkBits_link ..

theorem bit_pw (s : State) (f : Power → Power) (F : Field) (n : Nat) : (s.pw f).bit F n = s.bit F n := (rfl)

theorem flags_pw (s : State) (f : Power → Power) : (s.pw f).flags = s.flags := (rfl)

theorem linkUp_ends {s : State} {e : Fin 2} (on : s.dom.net = true) (enabled : s.effBit Reg.NET.ETCFG.EN e.val = true) :
    Ends (.linkUp e) s fun t => t.bit Reg.NET.ETSTAT.LINK e.val = true ∧ e.val ∉ t.power.asleep ∧ t.flags = s.flags := by
  have takes : (s.dom.net && s.effBit Reg.NET.ETCFG.EN e.val) = true := by rw [on, enabled]; rfl
  refine ⟨(linkBits s e.val true).pw fun p => { p with asleep := p.asleep.filter (· != e.val) }, if_pos takes, ?_, ?_, ?_⟩
  · rw [bit_pw, linkBits_link]
  · simp [State.pw]
  · rw [flags_pw, linkBits_eq, State.setBit_flags, State.setBit_flags]

theorem timeAwareNeighbourLoss_ends {s : State} (enabled : s.effBit Reg.NET.GPTP.EN 0 = true) : Ends .timeAwareNeighbourLoss s fun t =>
    t.bit Reg.TIME.SYNC.LOCK 0 = false ∧ t.flags = s.flags := by
  have locked : (s.effBit Reg.NET.GPTP.EN 0 && s.effFld Reg.NET.GPTP.PORT 0 == s.effFld Reg.NET.GPTP.PORT 0) = true := by
    rw [enabled, beq_self_eq_true]
    rfl
  refine ⟨_, rfl, ?_, syncUnlock_flags ..⟩
  rw [syncUnlock, if_pos locked]
  exact bit_setBit_value _ _ _ (by decide) rfl

/-! PLCA (R336) -/

/-- A follower without beacon is out of step. -/
def plcaStopped (s : State) : State :=
  (s.nt fun n => { n with plcaLost := true }).setFlds [(Reg.NET.TSSTAT.PLCA_LOST, 0, 1), (Reg.NET.TSSTAT.BEACON, 0, 0)]

theorem plcaStopped_shows (s : State) : (plcaStopped s).bit Reg.NET.TSSTAT.PLCA_LOST 0 = true ∧
    (plcaStopped s).bit Reg.NET.TSSTAT.BEACON 0 = false := by
  simp only [plcaStopped, State.setFlds]
  refine ⟨?_, bit_setBit_value _ 0 false (by decide) rfl⟩
  rw [bit_setFld_of_fieldsApart _ _ _ _ (by decide)]
  exact bit_setBit_value _ 0 true (by decide) rfl

theorem plcaLost_ends {s : State} (up : portUp s 2 = true) (plca : plcaRuns s = true) (follows : s.effFld Reg.NET.TSCFG.NODEID 0 ≠ 0)
    (live : Live s) : Ends .plcaLost s fun t => Flagged t Flt.NET.PLCA 8 0 ∧ t.net.plcaLost = true ∧
      t.bit Reg.NET.TSSTAT.PLCA_LOST 0 = true ∧ t.bit Reg.NET.TSSTAT.BEACON 0 = false := by
  have stops : (portUp s 2 && plcaRuns s && s.effFld Reg.NET.TSCFG.NODEID 0 != 0) = true := by simp [up, plca, follows]
  have live' : Live (plcaStopped s) := setFlds_live (setNet_live live _) _ rfl
  obtain ⟨recorded, flagged⟩ := raiseFault_recorded live' (faultOutput_net (src := Flt.NET.PLCA) 8 (by decide))
  obtain ⟨lost, beacon⟩ := plcaStopped_shows s
  refine ⟨raiseFault (plcaStopped s) Flt.NET.PLCA 8 0, if_pos stops, flagged, ?_, ?_, ?_⟩
  · rw [recorded.net]
    rfl
  · rw [recorded.bit_above _ _ (by decide), lost]
  · rw [recorded.bit_above _ _ (by decide), beacon]

theorem plcaInStep_ends {s : State} (up : portUp s 2 = true) (plca : s.effBit Reg.NET.TSCFG.PLCA 0 = true) : Ends .plcaInStep s fun t =>
    t.net.plcaLost = false ∧ t.bit Reg.NET.TSSTAT.BEACON 0 = true := by
  have sees : (portUp s 2 && s.effBit Reg.NET.TSCFG.PLCA 0) = true := by rw [up, plca]; rfl
  exact ⟨_, if_pos sees, rfl, bit_setBit_value _ 0 true (by decide) rfl⟩

/-! ### CAN controllers (R337) -/

/-- A controller in bus-off: its queue is dropped and counted. -/
def busOffTaken (s : State) (c : Nat) : State :=
  ((setTxQueue s (c + 3) []).satAdd Reg.NET.CANSTAT.DROPPED c (txQueue s (c + 3)).length).setFld Reg.NET.CANSTAT.STATE c 2

theorem busOffTaken_queue (s : State) (c : Nat) : txQueue (busOffTaken s c) (c + 3) = [] := txQueue_setTxQueue s (c + 3) []

theorem canBusOff_ends {s : State} {c : Fin 8} (on : s.dom.net = true) (runs : s.fld Reg.NET.CANSTAT.STATE c.val < 2) (live : Live s) :
    Ends (.canBusOff c) s fun t => t.fld Reg.NET.CANSTAT.STATE c.val = 2 ∧ txQueue t (c.val + 3) = [] ∧ Flagged t Flt.NET.BUSOFF c.val 0 := by
  have live' : Live (busOffTaken s c.val) := setFld_live (setFld_live (setNet_live live _) _ _ (by decide)) _ _ (by decide)
  obtain ⟨recorded, flagged⟩ := raiseFault_recorded live' (faultOutput_net (src := Flt.NET.BUSOFF) c.val (by decide))
  refine ⟨raiseFault (busOffTaken s c.val) Flt.NET.BUSOFF c.val 0, if_pos ⟨runs, on⟩, ?_, ?_, flagged⟩
  · rw [recorded.fld_above _ _ (by decide)]
    exact fld_setFld_same _ _ _ _ (by decide)
  · rw [txQueue, recorded.net]
    exact busOffTaken_queue s c.val

/-- A controller that leaves bus-off is error-active with counters 0. -/
theorem canRejoin_shows {s : State} {c : Nat} (off : s.fld Reg.NET.CANSTAT.STATE c = 2) : (canRejoin s c).fld Reg.NET.CANSTAT.STATE c = 0 ∧
    (canRejoin s c).fld Reg.NET.CANSTAT.TEC c = 0 ∧ (canRejoin s c).fld Reg.NET.CANSTAT.REC c = 0 := by
  have zero (t : State) {F : Field} (fits : F.lo + F.len ≤ 32) : (t.setFld F c 0).fld F c = 0 :=
    (fld_setFld_same t F c 0 fits).trans (Nat.zero_mod _)
  rw [canRejoin, if_pos off]
  simp only [State.setFlds]
  refine ⟨?_, ?_, zero _ (by decide)⟩
  · rw [fld_setFld_of_fieldsApart _ _ _ _ (by decide), fld_setFld_of_fieldsApart _ _ _ _ (by decide)]
    exact zero _ (by decide)
  · rw [fld_setFld_of_fieldsApart _ _ _ _ (by decide)]
    exact zero _ (by decide)

theorem busOffRecovery_rejoins {s : State} {c : Fin 8} (auto : s.effBit Reg.NET.CANCFG.AUTOREC c.val = true) :
    exec (.busOffRecovery c) s = .next (canRejoin s c.val) := congrArg _ (if_pos auto)

theorem busOffRecovery_waits {s : State} {c : Fin 8} (manual : s.effBit Reg.NET.CANCFG.AUTOREC c.val = false) :
    exec (.busOffRecovery c) s = .next s := congrArg _ (if_neg (Bool.eq_false_iff.1 manual))

theorem canRecover_rejoins (s : State) {b : By} (c : Fin 8) (priv : b.priv = true) :
    exec (.canRecover b c) s = .next (canRejoin s c.val) := congrArg _ (if_pos priv)

/-- Settles O34: what a port sends is `txSend`; a lost link, a lost beacon and bus-off are recorded by a raise that concerns no output
(`raiseFault_recorded`), and what they show stands in the network block. -/
theorem portsFollowTheirBus : Obligations.PortsFollowTheirBus := by
  unfold Obligations.PortsFollowTheirBus
  exact ⟨⟨fun s port x l up own queue => answerTransmit_sends up own queue, fun s up plca => transmitOpportunity_sends up plca⟩,
    fun s e => ⟨linkLoss_ends, linkUp_ends⟩,
    fun s enabled => timeAwareNeighbourLoss_ends enabled,
    fun s up => ⟨plcaLost_ends up, plcaInStep_ends up⟩,
    fun s c => ⟨canBusOff_ends, fun auto off => ⟨_, busOffRecovery_rejoins auto, canRejoin_shows off⟩, busOffRecovery_waits,
      fun b priv off => ⟨_, canRecover_rejoins s c priv, canRejoin_shows off⟩⟩⟩

end Sys2Proof.Machine
end

section
namespace Sys2Proof.Machine

/-! ### Frames received (R334, R341, R343, R388) -/

/-- What the bus receive table says of a frame depends on the plan and its variant. -/
theorem rxEntry_congr {s t : State} (plan : t.plan = s.plan) (seq : t.seq = s.seq) (f : BusFrame) : rxEntry t f = rxEntry s f := by
  simp only [rxEntry, State.variant, plan, seq]

theorem rxRoute_discards {s : State} {f : BusFrame} (none' : rxEntry s f = none) : rxRoute s f = s := by
  rw [rxRoute, none']

/-- The mailbox frame of a bus frame that an entry takes. -/
def rxTaken (s : State) (f : BusFrame) (e : Nat) : Nat × MbFrame :=
  (s.plan.be (e + 12) 2,
    { ident := f.ident.toNat, data := f.data.take (s.plan.be (e + 2) 2), trunc := decide (s.plan.be (e + 2) 2 < f.data.length),
      noresp := false, cksum := false, eof := s.now })

theorem rxRoute_takes {s : State} {f : BusFrame} {e : Nat} (entry : rxEntry s f = some e) :
    rxRoute s f = ntStop (mbRoute s (rxTaken s f e).1 (rxTaken s f e).2) := by
  rw [rxRoute, entry]
  rfl

/-- A stop of the no-traffic timer touches only the power controller. -/
theorem ntStop_powerOnly (s : State) : PowerOnly s (ntStop s) :=
  (PowerOnly.setFld s 0 0 (F := Reg.POWER.STATUS.NT_RUN) (by decide)).trans (.setPower _ _)

theorem PowerOnly.net {s t : State} (h : PowerOnly s t) : t.net = s.net := by rw [h.rest]

theorem ntStop_stops (s : State) : (ntStop s).power.ntFrom = none := (rfl)

/-- A good frame is counted by a CAN controller. -/
def rxCounted (s : State) (n : Nat) : State := if n < 8 then canCount s n true else s

/-- A count of a frame is not seen where no register is seen. -/
theorem rxCounted_view {β : Type} (g : State → β) (fld : ∀ s F n v, g (State.setFld s F n v) = g s) (s : State) (n : Nat) :
    g (rxCounted s n) = g s := by
  unfold rxCounted canCount
  split
  · exact (fld ..).trans (fld ..)
  · rfl

theorem rxCounted_net (s : State) (n : Nat) : (rxCounted s n).net = s.net := rxCounted_view _ State.setFld_net s n

theorem rxCounted_entry (s : State) (n : Nat) (f : BusFrame) : rxEntry (rxCounted s n) f = rxEntry s f :=
  rxEntry_congr (rxCounted_view _ State.setFld_plan s n) (rxCounted_view _ State.setFld_seq s n) f

theorem rxCounted_taken (s : State) (n : Nat) (f : BusFrame) (e : Nat) : rxTaken (rxCounted s n) f e = rxTaken s f e := by
  rw [rxTaken, rxCounted_view _ State.setFld_plan s n, rxCounted_view _ State.setFld_now s n, rxTaken]

theorem rxCounted_ident (s : State) (n : Nat) (f : BusFrame) : dictIdent (rxCounted s n) f = dictIdent s f :=
  rxCounted_view (dictIdent · f) (fun s F n v => by simp only [dictIdent, effFld_setFld]) s n

section
variable {s : State} {f : BusFrame} (bus : f.port.val < 11) (up : portUp s (busPort f.port.val) = true) (known : f.supported = true)
  (whole : f.intact = true) (plain : dictIdent s f = false)
include bus up known whole plain

theorem exec_busFrameReceive : exec (.busFrameReceive f) s = .next (rxRoute (rxCounted s f.port.val) f) := by
  have nets : ¬11 ≤ f.port.val := by omega
  have up' : ¬(!portUp s (busPort f.port.val)) = true := by simp [up]
  have good : (f.supported && f.intact) = true := by rw [known, whole]; rfl
  have counted : (if f.port.val < 8 then canCount s f.port.val (f.supported && f.intact) else
      if 9 ≤ f.port.val ∧ !(f.supported && f.intact) then s.satAdd Reg.NET.ETSTAT.RXERR (f.port.val - 9) 1 else s) = rxCounted s f.port.val := by
    simp [good, rxCounted]
  have routes : (f.supported && f.intact && !dictIdent (rxCounted s f.port.val) f) = true := by rw [good, rxCounted_ident, plain]; rfl
  refine (if_neg nets).trans ((if_neg up').trans (congrArg _ ?_))
  rw [counted]
  exact if_pos routes

theorem busFrameReceive_routes {e : Nat} (entry : rxEntry s f = some e) : Ends (.busFrameReceive f) s fun t =>
    t.net.mbNew = s.net.mbNew ++ [rxTaken s f e] ∧ t.power.ntFrom = none := by
  refine ⟨_, exec_busFrameReceive bus up known whole plain, ?_⟩
  rw [rxRoute_takes ((rxCounted_entry ..).trans entry), rxCounted_taken]
  refine ⟨?_, ntStop_stops _⟩
  rw [(ntStop_powerOnly _).net]
  exact congrArg (fun n : Net => n.mbNew ++ [rxTaken s f e]) (rxCounted_net ..)

theorem busFrameReceive_discards (none' : rxEntry s f = none) : Ends (.busFrameReceive f) s fun t => t.net = s.net ∧ t.power = s.power := by
  refine ⟨_, exec_busFrameReceive bus up known whole plain, ?_⟩
  rw [rxRoute_discards ((rxCounted_entry ..).trans none')]
  exact ⟨rxCounted_net .., rxCounted_view _ State.setFld_power ..⟩

end

/-! ### LIN headers (R343, R345) -/

theorem linError_shows {s : State} (live : Live s) (l : Nat) {F : Field} (above : 0x30000 < F.base) :
    Flagged (linError s l F) Flt.NET.LINERR (11 + l) 0 ∧ (linError s l F).net = s.net := by
  have live' : Live (s.satAdd F l 1) := setFld_live live _ _ above
  obtain ⟨recorded, flagged⟩ := raiseFault_recorded live' (faultOutput_net (src := Flt.NET.LINERR) (11 + l) (by decide))
  exact ⟨flagged, recorded.net.trans (State.setFld_net ..)⟩

/-- A responder port is busy up to a count as it sends the frame of the one entry armed; no entry stays armed. -/
def linAnswered (s : State) (l busy : Nat) (x : TxItem) : State :=
  (setLinPort s l { linPort s l with armed := [], busyTo := busy }).nt fun m =>
    { m with sent := m.sent.filter (fun y => y.1 != 11 + l) ++ [(11 + l, x)] }

theorem linAnswered_armed (s : State) (l busy : Nat) (x : TxItem) : (linPort (linAnswered s l busy x) l).armed = [] :=
  congrArg LinPort.armed (linPort_setLinPort s l _)

theorem linAnswered_sent (s : State) (l busy : Nat) (x : TxItem) : (11 + l, x) ∈ (linAnswered s l busy x).net.sent :=
  List.mem_append_right _ (List.mem_singleton.2 rfl)

theorem linAnswered_regs (s : State) (l busy : Nat) (x : TxItem) : (linAnswered s l busy x).regs = s.regs := (rfl)

section
variable {s : State} {l : Fin 12} (fid : BitVec 6) (up : linUp s l.val = true) (responds : s.effBit Reg.NET.LINCFG.CMDR l.val = false)
include up responds

theorem linHeaderReceive_error (live : Live s) : Ends (.linHeaderReceive l fid false) s fun t =>
    Flagged t Flt.NET.LINERR (11 + l.val) 0 ∧ t.net = s.net := by
  have heard : ¬(!linUp s l.val || s.effBit Reg.NET.LINCFG.CMDR l.val) = true := by simp [up, responds]
  have wrong : (!false) = true := rfl
  have next : exec (.linHeaderReceive l fid false) s = .next (linError s l.val Reg.NET.LINSTAT.FRAMING) := by
    show execLinHeaderReceive l fid false s = _
    unfold execLinHeaderReceive
    exact (if_neg heard).trans (if_pos wrong)
  exact ⟨_, next, linError_shows live l.val (by decide)⟩

theorem linHeaderReceive_answers {k e : Nat} {data : List Byte} (armed : (linPort s l.val).armed = [(k, data)])
    (entry : s.tableEntry 3 k = some e) (frame : s.plan.be (e + 2) 1 = fid.toNat) (publishes : (s.plan.be (e + 1) 1).testBit 0 = true) :
    Ends (.linHeaderReceive l fid true) s fun t =>
      (11 + l.val, TxItem.bus k fid.toNat (s.plan.be (e + 1) 1) [] data) ∈ t.net.sent ∧ (linPort t l.val).armed = [] ∧ t.regs = s.regs := by
  have heard : ¬(!linUp s l.val || s.effBit Reg.NET.LINCFG.CMDR l.val) = true := by simp [up, responds]
  have found : (linPort s l.val).armed.find? (fun x => s.plan.be ((s.tableEntry 3 x.1).getD 0 + 2) 1 == fid.toNat) = some (k, data) := by
    simp [armed, entry, frame]
  have left : (linPort s l.val).armed.filter (fun x => x.1 != k) = [] := by simp [armed]
  let busy := s.now + linTime s l.val (10 * (s.effFld Reg.NET.LINCFG.RSPACE l.val + 1 + 10 * (s.plan.be (e + 3) 1 + 1)))
  let x := TxItem.bus k fid.toNat (s.plan.be (e + 1) 1) [] data
  have next : exec (.linHeaderReceive l fid true) s = .next (linAnswered s l.val busy x) := by
    show execLinHeaderReceive l fid true s = _
    unfold execLinHeaderReceive
    simp only [if_neg heard, Bool.not_true, Bool.false_eq_true, if_false, found, entry, Option.getD_some, publishes, if_true, left]
    rfl
  exact ⟨_, next, linAnswered_sent .., linAnswered_armed .., linAnswered_regs ..⟩

end

/-! ### IPv6 in hardware (R334, R345) -/

section
variable {s : State} {port : Fin 3} {target : BitVec 128} (source : BitVec 128) (up : portUp s port.val = true)
  (own : ownAddr s port.val target.toNat = true) (unique : dupKey port.val target.toNat ∉ s.net.dupAddr)
include up own unique

theorem neighbourSolicitation_heard : ¬(!portUp s port.val || !ownAddr s port.val target.toNat ||
    s.net.dupAddr.contains (dupKey port.val target.toNat)) = true := by
  simp [up, own, unique]

theorem neighbourSolicitation_answers : Ends (.neighbourSolicitation port target source false) s fun t =>
    txQueue t port.val = txInsert (.advert target.toNat source.toNat) (txQueue s port.val) ∧ t.regs = s.regs :=
  ⟨_, (if_neg (neighbourSolicitation_heard up own unique)).trans (if_neg nofun), txQueue_setTxQueue .., rfl⟩

/-- An address that another node claims is left unused. -/
theorem neighbourSolicitation_claimed (live : Live s) : Ends (.neighbourSolicitation port target source true) s fun t =>
    dupKey port.val target.toNat ∈ t.net.dupAddr ∧ Flagged t Flt.NET.ADDR (portUnit port.val) 0 ∧ t.net.tx = s.net.tx := by
  let claimed := s.nt fun n => { n with dupAddr := n.dupAddr ++ [dupKey port.val target.toNat] }
  have live' : Live claimed := setNet_live live _
  obtain ⟨recorded, flagged⟩ := raiseFault_recorded live' (faultOutput_net (src := Flt.NET.ADDR) (portUnit port.val) (by decide))
  refine ⟨raiseFault claimed Flt.NET.ADDR (portUnit port.val) 0,
    (if_neg (neighbourSolicitation_heard up own unique)).trans (if_pos rfl), ?_, flagged, ?_⟩
  · rw [recorded.net]
    exact List.mem_append_right _ (List.mem_singleton.2 rfl)
  · rw [recorded.net]
    rfl

theorem echoRequest_answers (data : List Byte) : Ends (.echoRequest port target source data) s fun t =>
    txQueue t port.val = txInsert (.echo source.toNat data) (txQueue s port.val) ∧ t.regs = s.regs := by
  have heard : (portUp s port.val && ownAddr s port.val target.toNat && !s.net.dupAddr.contains (dupKey port.val target.toNat)) = true := by
    simp [up, own, unique]
  exact ⟨_, if_pos heard, txQueue_setTxQueue .., rfl⟩

end

/-- Settles O35: a good frame goes through the receive table of the state in which its controller has counted it, which has the same
plan (`rxEntry_congr`); a header takes the entry armed for it, and a raise of the network block leaves queues and addresses
(`raiseFault_recorded`). -/
theorem framesReceivedAreRouted : Obligations.FramesReceivedAreRouted := by
  unfold Obligations.FramesReceivedAreRouted
  exact ⟨fun s f bus up known whole plain => ⟨fun e => busFrameReceive_routes bus up known whole plain,
      busFrameReceive_discards bus up known whole plain⟩,
    fun s l fid up responds => ⟨linHeaderReceive_error fid up responds,
      fun k e data => linHeaderReceive_answers fid up responds⟩,
    fun s port target source data up own unique => ⟨neighbourSolicitation_answers source up own unique,
      neighbourSolicitation_claimed source up own unique, echoRequest_answers source up own unique data⟩⟩

end Sys2Proof.Machine
end

section
namespace Sys2Proof.Machine

/-! ### Answers (R321, R322, R325, R332) -/

/-- An answer's status is counted (R346). -/
def answerCounted (s : State) (status : Nat) : State :=
  if status = stDenied ∨ status = stAccess then s.satAdd Reg.NET.DICTCNT0.DENIED 0 1
  else if status = stBusy then s.satAdd Reg.NET.DICTCNT1.BUSY 0 1 else s

/-- A count of an answer is not seen where no register of the network block is seen. -/
theorem answerCounted_view {β : Type} (g : State → β) (fld : ∀ s F n v, 0x200000 ≤ F.base → g (State.setFld s F n v) = g s) (s : State)
    (status : Nat) : g (answerCounted s status) = g s := by
  unfold answerCounted
  split
  · exact fld _ _ _ _ (by decide)
  · split
    · exact fld _ _ _ _ (by decide)
    · rfl

/-- An answer that its transport can carry joins the queue of its port. -/
theorem answer_eq (s : State) {w : Waiting} (status flags : Nat) {body : List Byte} (fits : body.length ≤ maxBody w.frame.form.val) :
    answer s w status flags body = txPut (answerCounted s status) w.frame.port.val
      (.answer (decide (flags / flPlains % 2 = 1)) (answerOf w.frame w.key status flags body)) := by
  have short : decide (maxBody w.frame.form.val < body.length) = false := decide_eq_false (Nat.not_lt.2 fits)
  unfold answer
  simp only [short, Bool.false_eq_true, if_false]
  rfl

section
variable (s : State) {w : Waiting} (status flags : Nat) {body : List Byte} (fits : body.length ≤ maxBody w.frame.form.val)
include fits

theorem answer_answered : Answered s (answer s w status flags body) w.frame w.key status flags body := by
  have queue : txQueue (answerCounted s status) w.frame.port.val = txQueue s w.frame.port.val :=
    answerCounted_view (txQueue · w.frame.port.val) (fun _ _ _ _ _ => rfl) s status
  rw [Answered, answer_eq s status flags fits, txPut, txQueue_setTxQueue, queue]
  rfl

theorem answer_journal : (answer s w status flags body).journal = s.journal := by
  rw [answer_eq s status flags fits]
  exact answerCounted_view State.journal (fun s F n v _ => State.setFld_journal s F n v) s status

theorem answer_waiting : (answer s w status flags body).net.waiting = s.net.waiting := by
  rw [answer_eq s status flags fits]
  exact answerCounted_view (·.net.waiting) (fun _ _ _ _ _ => rfl) s status

theorem answer_word {o : Nat} (below : o < 0x200000) : (answer s w status flags body).word o = s.word o := by
  rw [answer_eq s status flags fits]
  exact answerCounted_view (·.word o) (fun s F n v hF => word_setFld_above s n v below hF) s status

end

/-- Every transport carries 44 bytes of a body. -/
theorem le_maxBody (form : Nat) {n : Nat} (small : n ≤ 44) : n ≤ maxBody form := by
  unfold maxBody
  split
  · omega
  · split
    · omega
    · exact small

/-! ### Checks of a frame (R326) -/

/-- An authentic frame as its operation takes it. -/
def admitted (s : State) (g : DictFrame) (role : Nat) (key : List Byte) : Waiting :=
  { frame := g, key := key, role := role, vtype := g.vtype.toNat, value := g.body, verified := s.now }

theorem dictIn_authentic {s : State} {g : DictFrame} {role : Nat} {key : List Byte} (auth : Authentic s g role key)
    (act : State → Waiting → State) : dictIn s g act = act (ntStop s) (admitted s g role key) := by
  unfold dictIn
  simp only [auth.up, auth.whole, auth.client, auth.known, Bool.not_true, Bool.or_self, Bool.false_eq_true, if_false, if_true, admitted]

theorem PowerOnly.journal {s t : State} (h : PowerOnly s t) : t.journal = s.journal := by rw [h.rest]

theorem PowerOnly.plan {s t : State} (h : PowerOnly s t) : t.plan = s.plan := by rw [h.rest]

/-- An authentic frame whose operation answers at once gets that answer. -/
theorem answers_of_dictIn {i : Instr} {s : State} {g : DictFrame} {role : Nat} {key : List Byte} (auth : Authentic s g role key)
    {act : State → Waiting → State} (next : exec i s = .next (dictIn s g act)) {status flags : Nat} {body : List Byte}
    (acts : act (ntStop s) (admitted s g role key) = answer (ntStop s) (admitted s g role key) status flags body)
    (small : body.length ≤ 44) : Answers i s g key status flags body := by
  have fits : body.length ≤ maxBody (admitted s g role key).frame.form.val := le_maxBody _ small
  have power := ntStop_powerOnly s
  have queue : txQueue (ntStop s) g.port.val = txQueue s g.port.val := by rw [txQueue, power.net, txQueue]
  rw [dictIn_authentic auth, acts] at next
  refine ⟨_, next, ?_, ?_, fun o below => ?_⟩
  · exact (answer_answered (ntStop s) status flags fits).trans (by rw [← queue]; rfl)
  · rw [answer_journal _ _ _ fits, power.journal]
  · rw [answer_word _ _ _ fits below, power.words o (by omega)]

/-! ### Commands that wait or are turned away (R313, R326, R355) -/

theorem judgeSeq_congr {s t : State} (journal : t.journal = s.journal) (c cseq : Nat) : judgeSeq t c cseq = judgeSeq s c cseq := by
  rw [judgeSeq, journal, windowAt, journal]
  rfl

theorem entryAt_congr {s t : State} (plan : t.plan = s.plan) (index sub : Nat) : entryAt t index sub = entryAt s index sub := by
  simp only [entryAt, State.decl, plan]

theorem manifest_congr {s t : State} (plan : t.plan = s.plan) (index sub : Nat) : t.manifest index sub = s.manifest index sub := by
  simp only [State.manifest, plan]

theorem PowerOnly.journalBusy {s t : State} (h : PowerOnly s t) : journalBusy t = journalBusy s := by
  simp only [Machine.journalBusy, State.seqState, h.bit _ 0 (show Reg.JOURNAL.STATUS.BUSY.off 0 < 0x2E0000 by decide),
    h.bit _ 0 (show Reg.JOURNAL.STATUS.FULL.off 0 < 0x2E0000 by decide), h.fld _ 0 (show Reg.TICK.STATUS.STATE.off 0 < 0x2E0000 by decide)]

theorem commandAct_dup {isWrite : Bool} {s : State} {w : Waiting} {q : Nat}
    (dup : judgeSeq s w.frame.client.toNat w.frame.cseq.toNat = .dup q) : commandAct isWrite s w = answer s w stOk flDup (beBytes q 8) := by
  unfold commandAct
  simp only [dup]

theorem commandAct_stale {isWrite : Bool} {s : State} {w : Waiting}
    (stale : judgeSeq s w.frame.client.toNat w.frame.cseq.toNat = .stale) : commandAct isWrite s w = answer s w stStale 0 [] := by
  unfold commandAct
  simp only [stale]

/-- A command passes checks 5 to 10 for an entry. -/
structure CommandOk (isWrite : Bool) (s : State) (w : Waiting) (e : Entry) : Prop where
  new : judgeSeq s w.frame.client.toNat w.frame.cseq.toNat = .new
  entry : frameEntry s w = some e
  right : rightOf e.rights w.role / 2 % 2 = 1
  typed : w.vtype = e.type
  noBlob : e.type ≠ 0x0D
  length : w.value.length = e.len
  writes : isWrite = true → e.type ≠ 0x0C ∧ valueBad e w.value = false ∧ (writeMask e w.role w.value).any (· != 0) = true
  invokes : isWrite = false → e.type = 0x0C
  served : (s.manifest w.frame.index.toNat w.frame.sub.toNat).isSome = true

/-- The value that waits: a write holds the bits that its role can write. -/
def commandValue (isWrite : Bool) (e : Entry) (w : Waiting) : List Byte := if isWrite then writeMask e w.role w.value else w.value

/-- The type of the entry suits the operation, and the value its range. -/
theorem CommandOk.suits {isWrite : Bool} {s : State} {w : Waiting} {e : Entry} (ok : CommandOk isWrite s w e) :
    ¬(w.vtype ≠ e.type ∨ (isWrite == (e.type == 0x0C)) = true ∨ e.type = 0x0D ∨ w.value.length ≠ e.len ∨
      (isWrite && valueBad e w.value) = true) := by
  cases isWrite with
  | false => simp [ok.typed, ok.length, ok.invokes rfl]
  | true =>
    obtain ⟨type, good, -⟩ := ok.writes rfl
    simp [ok.typed, ok.noBlob, ok.length, type, good]

/-- A write can change a bit. -/
theorem CommandOk.reaches {isWrite : Bool} {s : State} {w : Waiting} {e : Entry} (ok : CommandOk isWrite s w e) :
    ¬(isWrite && w.value.any (· != 0) && (commandValue isWrite e w).all (· == 0)) = true := by
  cases isWrite with
  | false => simp
  | true =>
    obtain ⟨-, -, some'⟩ := ok.writes rfl
    have left : (writeMask e w.role w.value).all (· == 0) = false := by
      rw [List.all_eq_not_any_not]
      exact congrArg not some'
    rw [commandValue, if_pos rfl, left, Bool.and_false]
    decide

theorem commandAct_checked {isWrite : Bool} {s : State} {w : Waiting} {e : Entry} (ok : CommandOk isWrite s w e) :
    commandAct isWrite s w = if journalBusy s then answer s w stBusy 0 [] else
      s.nt fun n => { n with waiting := waitInsert { w with value := commandValue isWrite e w } n.waiting } := by
  have right : ¬rightOf e.rights w.role / 2 % 2 = 0 := by rw [ok.right]; decide
  have served : ¬(s.manifest w.frame.index.toNat w.frame.sub.toNat).isNone = true := by
    rw [← Option.not_isSome, ok.served]
    decide
  unfold commandAct
  simp only [ok.new, ok.entry]
  exact (if_neg right).trans ((if_neg ok.suits).trans ((if_neg ok.reaches).trans (if_neg served)))

theorem exec_command (w : Bool) (f : DictFrame) (s : State) : exec (if w then .dictWrite f else .dictInvoke f) s =
    .next (dictIn s { f with op := if w then 2 else 3 } (commandAct w)) := by
  cases w with
  | false => rfl
  | true => rfl

section
variable {s : State} {f : DictFrame} {role : Nat} {key : List Byte} {w : Bool}
  (auth : Authentic s { f with op := if w then 2 else 3 } role key)
include auth

theorem command_dup {q : Nat} (dup : judgeSeq s f.client.toNat f.cseq.toNat = .dup q) :
    Answers (if w then .dictWrite f else .dictInvoke f) s { f with op := if w then 2 else 3 } key stOk flDup (beBytes q 8) :=
  answers_of_dictIn auth (exec_command w f s)
    (commandAct_dup ((judgeSeq_congr (ntStop_powerOnly s).journal _ _).trans dup)) (by rw [beBytes_length]; decide)

theorem command_stale (stale : judgeSeq s f.client.toNat f.cseq.toNat = .stale) :
    Answers (if w then .dictWrite f else .dictInvoke f) s { f with op := if w then 2 else 3 } key stStale 0 [] :=
  answers_of_dictIn auth (exec_command w f s)
    (commandAct_stale ((judgeSeq_congr (ntStop_powerOnly s).journal _ _).trans stale)) (Nat.zero_le _)

section
variable {e : Entry} (ok : CommandOk w (ntStop s) (admitted s { f with op := if w then 2 else 3 } role key) e)
include ok

theorem command_busy (busy : journalBusy s = true) :
    Answers (if w then .dictWrite f else .dictInvoke f) s { f with op := if w then 2 else 3 } key stBusy 0 [] :=
  answers_of_dictIn auth (exec_command w f s)
    ((commandAct_checked ok).trans (if_pos ((ntStop_powerOnly s).journalBusy.trans busy))) (Nat.zero_le _)

theorem command_waits (free : journalBusy s = false) : Ends (if w then .dictWrite f else .dictInvoke f) s fun t =>
    t.net.waiting = waitInsert { admitted s { f with op := if w then 2 else 3 } role key with
      value := if w then writeMask e role f.body else f.body } s.net.waiting ∧ t.net.tx = s.net.tx ∧ t.journal = s.journal := by
  have power := ntStop_powerOnly s
  have takes : ¬journalBusy (ntStop s) = true := by rw [power.journalBusy, free]; decide
  have next := exec_command w f s
  rw [dictIn_authentic auth, commandAct_checked ok, if_neg takes] at next
  have waiting : (ntStop s).net.waiting = s.net.waiting := congrArg Net.waiting power.net
  have tx : (ntStop s).net.tx = s.net.tx := congrArg Net.tx power.net
  exact ⟨_, next, congrArg (waitInsert _) waiting, tx, power.journal⟩

end
end

/-! ### A record that is written (R352, R353, R362) -/

/-- What no register shows stays as the journal's numbers are shown. -/
theorem jShow_unshown {β : Type} (g : State → β) (fld : ∀ s F n v, g (State.setFld s F n v) = g s) (s : State) : g (jShow s) = g s := by
  unfold jShow
  extract_lets f a b c d e k
  have filled : g b = g a := by simp only [b, apply_ite g, State.setBit, fld, ite_self]
  simp only [k, e, d, c, State.setPair, fld, filled]
  exact fld s _ 0 f

theorem jShow_journal (s : State) : (jShow s).journal = s.journal := jShow_unshown _ State.setFld_journal s

theorem jShow_net (s : State) : (jShow s).net = s.net := jShow_unshown _ State.setFld_net s

/-- A record stands at the write pointer; the ring is not full, and no failure of a bank is armed any more. -/
def ringWritten (s : State) (r : JRec) : State :=
  State.setBit { s with journal := { s.journal with
    failNext := 0, ring := s.journal.ring ++ [(s.journal.wr, r)], wr := (s.journal.wr + r.units) % bankUnits } }
      Reg.JOURNAL.STATUS.FULL 0 false

theorem ringWritten_journal (s : State) (r : JRec) : (ringWritten s r).journal = { s.journal with
    failNext := 0, ring := s.journal.ring ++ [(s.journal.wr, r)], wr := (s.journal.wr + r.units) % bankUnits } := (rfl)

/-- A bank is in service, no failure is armed, and the ring has room for `u` units before its end. -/
structure RingReady (s : State) (u : Nat) : Prop where
  unarmed : s.journal.failNext = 0
  bank : s.bit Reg.JOURNAL.STATUS.BANK0_OK 0 = true
  ends : s.journal.wr + u ≤ bankUnits
  room : ringUsed s + u ≤ bankUnits

/-- A record that no bank fails to hold is written. -/
theorem jWrite_written {s : State} {r : JRec} (ready : RingReady s r.units) : jWrite s r 0 = (jShow (ringWritten s r), .written) := by
  have noPad : ¬bankUnits < s.journal.wr + r.units := Nat.not_lt.2 ready.ends
  have notFull : ¬bankUnits < ringUsed s + 0 + r.units := Nat.not_lt.2 ready.room
  have noneBad : (banksOk s).filter (fun b => (0 : BitVec 2).getLsbD b || s.journal.failNext.getLsbD b) = [] := by
    simp [ready.unarmed]
  have someOk : ¬[] = banksOk s := by simp [banksOk, ready.bank]
  unfold jWrite
  simp only [noPad, notFull, noneBad, someOk, if_false, if_true, List.append_nil, List.foldl_nil]
  rfl

/-! ### Acceptance (R21, R353 to R355, R375, R389) -/

theorem maRestart_powerOnly (s : State) : PowerOnly s (maRestart s) := .ite (.setPower _ _) (.refl s)

/-- The entry that acceptance writes for a command. -/
def acceptedEntry (s : State) (w : Waiting) : JEntry :=
  { op := w.frame.op.toNat, port := w.frame.port.val, client := w.frame.client.toNat, seq := s.journal.nextSeq, accept := s.now,
    cseq := w.frame.cseq.toNat, index := w.frame.index.toNat, sub := w.frame.sub.toNat, vtype := w.vtype, role := w.role, value := w.value }

/-- A SEQ is given to a client's sequence. -/
def seqGiven (s : State) (c cseq q : Nat) : State := windowTake { s with journal := { s.journal with nextSeq := q + 1 } } c cseq q

theorem seqGiven_ring (s : State) (c cseq q : Nat) : (seqGiven s c cseq q).journal.ring = s.journal.ring := (rfl)

theorem seqGiven_nextSeq (s : State) (c cseq q : Nat) : (seqGiven s c cseq q).journal.nextSeq = q + 1 := (rfl)

theorem seqGiven_net (s : State) (c cseq q : Nat) : (seqGiven s c cseq q).net = s.net := (rfl)

theorem seqGiven_window (s : State) (c cseq q : Nat) : windowAt (seqGiven s c cseq q) c cseq = q :=
  smapGet_set_same (fun _ => 0) _ _ q

/-- A command that has its SEQ is a wake event and restarts the awake timer. -/
def commandTaken (s : State) (w : Waiting) (q : Nat) : State :=
  maRestart (wakeEvent (jShow (seqGiven s w.frame.client.toNat w.frame.cseq.toNat q)) 10 0xFF)

theorem commandTaken_powerOnly (s : State) (w : Waiting) (q : Nat) :
    PowerOnly (jShow (seqGiven s w.frame.client.toNat w.frame.cseq.toNat q)) (commandTaken s w q) :=
  (wakeEvent_powerOnly _ 10 0xFF).trans (maRestart_powerOnly _)

theorem commandTaken_journal (s : State) (w : Waiting) (q : Nat) :
    (commandTaken s w q).journal = (seqGiven s w.frame.client.toNat w.frame.cseq.toNat q).journal :=
  (commandTaken_powerOnly s w q).journal.trans (jShow_journal _)

theorem commandTaken_net (s : State) (w : Waiting) (q : Nat) : (commandTaken s w q).net = s.net :=
  (commandTaken_powerOnly s w q).net.trans ((jShow_net _).trans (seqGiven_net ..))

/-- The command that waits first is taken off. -/
def waitTaken (s : State) (rest : List Waiting) : State := s.nt fun n => { n with waiting := rest }

section
variable {s : State} {w : Waiting} {rest : List Waiting} (waits : s.net.waiting = w :: rest)
include waits

/-- A command whose sequence was taken meanwhile is answered with the SEQ that it has. -/
theorem commandAcceptance_dup {q : Nat} (dup : judgeSeq s w.frame.client.toNat w.frame.cseq.toNat = .dup q) :
    Ends (.commandAcceptance 0) s fun t => t.journal = s.journal ∧ t.net.waiting = rest ∧ Answered s t w.frame w.key stOk flDup (beBytes q 8) := by
  have fits : (beBytes q 8).length ≤ maxBody w.frame.form.val := le_maxBody _ (by rw [beBytes_length]; decide)
  have judged : judgeSeq (waitTaken s rest) w.frame.client.toNat w.frame.cseq.toNat = .dup q := (judgeSeq_congr rfl _ _).trans dup
  have next : exec (.commandAcceptance 0) s = .next (answer (waitTaken s rest) w stOk flDup (beBytes q 8)) := by
    show execCommandAcceptance 0 s = _
    unfold execCommandAcceptance
    rw [waits]
    dsimp only
    rw [← waitTaken, judged]
  exact ⟨_, next, answer_journal _ _ _ fits, answer_waiting _ _ _ fits, answer_answered _ _ _ fits⟩

/-- How acceptance goes on when the record of a command has been written or not. -/
def accepted (w : Waiting) (q : Nat) (r : State × JWrite) : Result :=
  if r.2 ≠ .written then .next (answer r.1 w stBusy 0 [])
  else .next (answer (if w.frame.index = 0x1001 then namedAccept (commandTaken r.1 w q) q w.frame.sub.toNat (beNat w.value)
    else commandTaken r.1 w q) w stOk 0 (beBytes q 8))

/-- A new command of an entry that names no col is written, given the next SEQ, and answered with it. -/
theorem exec_commandAcceptance (new : judgeSeq s w.frame.client.toNat w.frame.cseq.toNat = .new) (plain : w.frame.index.toNat ≠ 0x1001)
    (ready : RingReady s ((48 + w.value.length + 63) / 64)) : exec (.commandAcceptance 0) s =
      .next (answer (commandTaken (jShow (ringWritten (waitTaken s rest) (.entry (acceptedEntry s w)))) w s.journal.nextSeq) w stOk 0
        (beBytes s.journal.nextSeq 8)) := by
  have judged : judgeSeq (waitTaken s rest) w.frame.client.toNat w.frame.cseq.toNat = .new := (judgeSeq_congr rfl _ _).trans new
  have ready' : RingReady (waitTaken s rest) (JRec.entry (acceptedEntry s w)).units := ⟨ready.unarmed, ready.bank, ready.ends, ready.room⟩
  have plain' : ¬w.frame.index = 0x1001 := fun same => plain (by rw [same]; rfl)
  have writes : exec (.commandAcceptance 0) s =
      accepted w s.journal.nextSeq (jWrite (waitTaken s rest) (.entry (acceptedEntry s w)) 0) := by
    show execCommandAcceptance 0 s = _
    unfold execCommandAcceptance
    rw [waits]
    dsimp only
    rw [← waitTaken, judged]
    rfl
  rw [writes, jWrite_written ready', accepted, if_neg (not_not_intro rfl), if_neg plain']

theorem commandAcceptance_new (new : judgeSeq s w.frame.client.toNat w.frame.cseq.toNat = .new) (plain : w.frame.index.toNat ≠ 0x1001)
    (ready : RingReady s ((48 + w.value.length + 63) / 64)) : Ends (.commandAcceptance 0) s fun t =>
      (∃ e, t.journal.ring = s.journal.ring ++ [(s.journal.wr, .entry e)] ∧ e.seq = s.journal.nextSeq ∧ e.accept = s.now ∧
        e.client = w.frame.client.toNat ∧ e.cseq = w.frame.cseq.toNat ∧ e.index = w.frame.index.toNat ∧ e.sub = w.frame.sub.toNat ∧
        e.value = w.value) ∧
      t.journal.nextSeq = s.journal.nextSeq + 1 ∧ t.net.waiting = rest ∧
      windowAt t w.frame.client.toNat w.frame.cseq.toNat = s.journal.nextSeq ∧
      Answered s t w.frame w.key stOk 0 (beBytes s.journal.nextSeq 8) := by
  have fits : (beBytes s.journal.nextSeq 8).length ≤ maxBody w.frame.form.val := le_maxBody _ (by rw [beBytes_length]; decide)
  let u := jShow (ringWritten (waitTaken s rest) (.entry (acceptedEntry s w)))
  have ring : u.journal.ring = s.journal.ring ++ [(s.journal.wr, .entry (acceptedEntry s w))] :=
    congrArg Journal.ring (jShow_journal (ringWritten (waitTaken s rest) (.entry (acceptedEntry s w))))
  have net : u.net = (waitTaken s rest).net := jShow_net _
  have journal := (answer_journal (commandTaken u w s.journal.nextSeq) stOk 0 fits).trans (commandTaken_journal u w _)
  have queue : txQueue (commandTaken u w s.journal.nextSeq) w.frame.port.val = txQueue s w.frame.port.val := by
    rw [txQueue, commandTaken_net, net, txQueue]
    rfl
  refine ⟨_, exec_commandAcceptance waits new plain ready, ⟨acceptedEntry s w, ?_, rfl, rfl, rfl, rfl, rfl, rfl, rfl⟩, ?_, ?_, ?_, ?_⟩
  · rw [journal, seqGiven_ring, ring]
  · rw [journal, seqGiven_nextSeq]
  · rw [answer_waiting _ _ _ fits, commandTaken_net, net]
    rfl
  · rw [windowAt, journal]
    exact seqGiven_window ..
  · rw [Answered, ← queue]
    exact answer_answered _ _ _ fits

end

/-- Settles O37: a frame that is authentic reaches `commandAct`, whose checks are judged behind the stop of the no-traffic timer, which
touches none of what they read (`ntStop_powerOnly`); acceptance is one record written to the ring (`jWrite_written`), the SEQ given to
the client's window (`seqGiven`) and an answer. -/
theorem commandsAreAccepted : Obligations.CommandsAreAccepted := by
  unfold Obligations.CommandsAreAccepted
  refine ⟨fun s f role key w auth => ⟨fun e new entry right typed noBlob length writes invokes served => ?_,
      fun q dup => command_dup auth dup, fun stale => command_stale auth stale⟩,
    fun s w rest waits => ⟨fun new plain unarmed bank ends room => commandAcceptance_new waits new plain ⟨unarmed, bank, ends, room⟩,
      fun q dup => commandAcceptance_dup waits dup⟩⟩
  have power := ntStop_powerOnly s
  have ok : CommandOk w (ntStop s) (admitted s { f with op := if w then 2 else 3 } role key) e :=
    ⟨(judgeSeq_congr power.journal _ _).trans new, (entryAt_congr power.plan _ _).trans entry, right, typed, noBlob, length, writes, invokes,
      (congrArg Option.isSome (manifest_congr power.plan _ _)).trans served⟩
  exact ⟨command_waits auth ok, command_busy auth ok⟩

end Sys2Proof.Machine
end

section
namespace Sys2Proof.Machine

/-! ### What raises leave of the journal (R366, R367) -/

theorem Raised.journal {s t : State} (h : Raised s t) : t.journal = s.journal :=
  congrArg (fun st : Stores => st.2.2.2.2.2.2.1) h.stores

theorem jShow_flags (s : State) : (jShow s).flags = s.flags := jShow_unshown _ State.setFld_flags s

theorem isSettled_congr {s t : State} (journal : t.journal = s.journal) (q : Nat) : isSettled t q = isSettled s q := by
  simp only [isSettled, settledBy, outcomesOf, jRecords, journal]

/-! ### Outcomes that a lane posts (R358) -/

/-- The SEQ that a lane's post names. -/
def postSeq (s : State) (b : By) : Nat := s.pair Reg.JOURNAL.OUT_SEQ_LO.SEQ Reg.JOURNAL.OUT_SEQ_HI.SEQ b.lane.val

/-- A post takes the lane's grant. -/
def grantTaken (s : State) (b : By) : State := s.setFld Reg.JOURNAL.OUT_GRANT.GRANT b.lane.val 0

theorem grantTaken_journal (s : State) (b : By) : (grantTaken s b).journal = s.journal := State.setFld_journal ..

theorem grantTaken_colNum (s : State) (b : By) : (grantTaken s b).colNum = s.colNum := by
  have low (F : Field) (below : F.off 0 < 0x50000) : (grantTaken s b).fld F 0 = s.fld F 0 := by
    rw [State.fld, grantTaken, word_setFld_above s _ _ below (by decide), State.fld]
  rw [State.colNum, State.pair, low _ (by decide), low _ (by decide), State.colNum, State.pair]

/-- A post is rejected: by plains code, of an outcome that firmware does not post, of a SEQ outside the snapshot, settled, or posted
in this tick. -/
def postRejected (s : State) (b : By) (q outcome : Nat) : Bool :=
  b.plain || !(outcome == 1 || outcome == 2 || outcome == 3 || outcome == 6) || !s.journal.snap.contains q || isSettled s q || postedNow s q

theorem postRejected_congr {s t : State} (journal : t.journal = s.journal) (b : By) (q outcome : Nat) :
    postRejected t b q outcome = postRejected s b q outcome := by
  rw [postRejected, postRejected, postedNow, postedNow, isSettled_congr journal, journal]

theorem mem_outcomes (outcome : Nat) :
    (outcome == 1 || outcome == 2 || outcome == 3 || outcome == 6) = true ↔ outcome ∈ [1, 2, 3, 6] := by
  simp [or_assoc]

/-- The post that joins the queue. -/
def laneOutcome (s : State) (b : By) (outcome reason bind : Nat) : JPost :=
  { seq := postSeq s b, outcome := outcome, reason := reason, bind := if outcome == 2 || outcome == 3 then bind else 0xFFFF,
    grant := if outcome == 2 then s.fld Reg.JOURNAL.OUT_GRANT.GRANT b.lane.val else 0, col := (grantTaken s b).colNum + 1, data := [],
    own := false }

/-- A post has joined the queue. -/
def postJoined (s : State) (q : Nat) (p : JPost) : State :=
  { s with journal := { s.journal with posts := s.journal.posts ++ [p], postedNow := q :: s.journal.postedNow } }

theorem outPost_rejects {s : State} {b : By} {outcome : Nat} (rejected : postRejected s b (postSeq s b) outcome = true) (reason bind : Nat) :
    outPost s b outcome reason bind = raiseWith ((grantTaken s b).setBit Reg.JOURNAL.OUTSTAT.REJECT 0 true) Flt.JOURNAL.OUTPORT noUnit 0
      (BitVec.ofNat 48 (postSeq s b)) false :=
  if_pos ((postRejected_congr (grantTaken_journal s b) b _ _).trans rejected)

theorem outPost_queues {s : State} {b : By} {outcome : Nat} (taken : postRejected s b (postSeq s b) outcome = false)
    (room : (s.journal.posts.filter fun p => !p.own).length < 256) (reason bind : Nat) : outPost s b outcome reason bind =
      jShow (postJoined (grantTaken s b) (postSeq s b) (laneOutcome s b outcome reason bind)) := by
  rw [← grantTaken_journal s b] at room
  rw [← postRejected_congr (grantTaken_journal s b)] at taken
  exact (if_neg (Bool.eq_false_iff.1 taken)).trans (if_neg (Nat.not_le.2 room))

theorem exec_outPost (s : State) {b : By} (outcome reason : Byte) (bind : BitVec 16) (priv : b.priv = true) :
    exec (.outPost b outcome reason bind) s = .next (outPost s b outcome.toNat reason.toNat bind.toNat) :=
  if_neg (by rw [priv]; decide)

section
variable {s : State} {b : By} {outcome : Byte} (reason : Byte) (bind : BitVec 16) (priv : b.priv = true)
include priv

theorem outPost_joins (firmware : b.plain = false) (known : outcome.toNat ∈ [1, 2, 3, 6]) (snap : postSeq s b ∈ s.journal.snap)
    (unsettled : isSettled s (postSeq s b) = false) (first : postSeq s b ∉ s.journal.postedNow)
    (room : (s.journal.posts.filter fun p => !p.own).length < 256) : Ends (.outPost b outcome reason bind) s fun t =>
      (∃ p, t.journal.posts = s.journal.posts ++ [p] ∧ p.seq = postSeq s b ∧ p.outcome = outcome.toNat ∧ p.reason = reason.toNat ∧
        p.bind = (if outcome.toNat = 2 ∨ outcome.toNat = 3 then bind.toNat else 0xFFFF) ∧ p.col = s.colNum + 1 ∧ p.own = false) ∧
      postSeq s b ∈ t.journal.postedNow ∧ t.journal.ring = s.journal.ring := by
  have taken : postRejected s b (postSeq s b) outcome.toNat = false := by
    rw [postRejected, (mem_outcomes _).2 known, firmware, unsettled, postedNow]
    simp [snap, first]
  have next := (exec_outPost s outcome reason bind priv).trans (congrArg _ (outPost_queues taken room reason.toNat bind.toNat))
  refine ⟨_, next, ⟨laneOutcome s b outcome.toNat reason.toNat bind.toNat, ?_, rfl, rfl, rfl, ?_, ?_, rfl⟩, ?_, ?_⟩
  · rw [jShow_journal, postJoined, grantTaken_journal]
  · simp [laneOutcome]
  · rw [laneOutcome, grantTaken_colNum]
  · rw [jShow_journal]
    exact List.mem_cons_self
  · rw [jShow_journal, postJoined, grantTaken_journal]

theorem outPost_rejected (live : Live s) (wrong : b.plain = true ∨ outcome.toNat ∉ [1, 2, 3, 6] ∨ postSeq s b ∉ s.journal.snap) :
    Ends (.outPost b outcome reason bind) s fun t => Flagged t Flt.JOURNAL.OUTPORT noUnit 0 ∧ t.journal = s.journal := by
  have rejected : postRejected s b (postSeq s b) outcome.toNat = true := by
    rw [postRejected]
    rcases wrong with plain | unknown | outside
    · simp [plain]
    · rw [Bool.eq_false_iff.2 (mt (mem_outcomes _).1 unknown)]
      simp
    · simp [outside]
  have live' : Live ((grantTaken s b).setBit Reg.JOURNAL.OUTSTAT.REJECT 0 true) :=
    setBit_live (setFld_live live _ _ (by decide)) 0 true (by decide)
  refine ⟨_, (exec_outPost s outcome reason bind priv).trans (congrArg _ (outPost_rejects rejected _ _)),
    raiseWith_flagged live' _ _ _ _ _, ?_⟩
  rw [(raiseWith_raised _ _ _ _ _ _).journal, State.setBit_journal, grantTaken_journal]

end

/-! ### Posts that are written (R352, R357, R358, R362, R366, R367) -/

/-- The outcome record of a post. -/
def postRecord (s : State) (p : JPost) : JOutcome :=
  { outcome := p.outcome, reason := p.reason, bind := p.bind, seq := p.seq, col := p.col, when' := s.now, grant := p.grant,
    client := ((entryOf s p.seq).map JEntry.client).getD 0, data := p.data, void := false }

/-- The oldest post is taken off. -/
def postTaken (s : State) (rest : List JPost) : State := jShow { s with journal := { s.journal with posts := rest } }

theorem postTaken_journal (s : State) (rest : List JPost) : (postTaken s rest).journal = { s.journal with posts := rest } := jShow_journal _

theorem postTaken_flags (s : State) (rest : List JPost) : (postTaken s rest).flags = s.flags := jShow_flags _

/-- From `s` to `t` nothing of the journal has changed but the windows of the clients. -/
def WindowsOnly (s t : State) : Prop := ∃ h w, t.journal = { s.journal with highest := h, window := w }

theorem WindowsOnly.of_journal {s t : State} (journal : t.journal = s.journal) : WindowsOnly s t := ⟨_, _, journal⟩

/-- An applied write of a client's row can empty its window. -/
theorem deviceApply_windowsOnly (s : State) (e : JEntry) : WindowsOnly s (deviceApply s e) := by
  unfold deviceApply
  extract_lets v c old new a
  split
  · exact .of_journal rfl
  · split
    · split
      · exact .of_journal rfl
      · exact ⟨_, _, rfl⟩
    · exact .of_journal rfl

section
variable {s : State} {fail : BitVec 2} {p : JPost} {rest : List JPost} (posts : s.journal.posts = p :: rest)
  (unsettled : isSettled s p.seq = false)
include posts unsettled

theorem outcomeJournaled_full {u : State} (full : jWrite s (.outcome (postRecord s p)) fail = (u, .full)) :
    exec (.outcomeJournaled fail) s = .next u := by
  unfold postRecord at full
  show execOutcomeJournaled fail s = _
  unfold execOutcomeJournaled
  rw [posts]
  dsimp only
  rw [if_neg (Bool.eq_false_iff.1 unsettled), full]

theorem outcomeJournaled_failed {u : State} (failed : jWrite s (.outcome (postRecord s p)) fail = (u, .failed)) :
    exec (.outcomeJournaled fail) s = .next (if p.own then
      postTaken { u with journal := { u.journal with again := u.journal.again ++ [p] } } rest else postTaken u rest) := by
  unfold postRecord at failed
  show execOutcomeJournaled fail s = _
  unfold execOutcomeJournaled
  rw [posts]
  dsimp only
  rw [if_neg (Bool.eq_false_iff.1 unsettled), failed]
  rfl

theorem outcomeJournaled_written {u : State} (written : jWrite s (.outcome (postRecord s p)) fail = (u, .written)) :
    ∃ t, exec (.outcomeJournaled fail) s = .next t ∧ WindowsOnly (postTaken u rest) t := by
  have next : exec (.outcomeJournaled fail) s = match entryOf s p.seq with
      | some e => .next (if (p.outcome = 1 ∨ p.outcome = 2) ∧ e.op = 2 then deviceApply (postTaken u rest) e else postTaken u rest)
      | none => .next (postTaken u rest) := by
    unfold postRecord at written
    show execOutcomeJournaled fail s = _
    unfold execOutcomeJournaled
    rw [posts]
    dsimp only
    rw [if_neg (Bool.eq_false_iff.1 unsettled), written]
    rfl
  rw [next]
  split
  · next e _ =>
    refine ⟨_, rfl, ?_⟩
    split
    · exact deviceApply_windowsOnly _ e
    · exact .of_journal rfl
  · exact ⟨_, rfl, .of_journal rfl⟩

end

/-- The armed failure of a bank is spent. -/
def disarmed (s : State) : State := { s with journal := { s.journal with failNext := 0 } }

theorem disarmed_live {s : State} (live : Live s) : Live (disarmed s) := ⟨live.up, live.open', live.quiet⟩

/-- No bank holds the record. -/
def writeFailed (s : State) (forced : Bool) : State := raiseWith (disarmed s) Flt.JOURNAL.WRITE noUnit 2 0 forced

theorem writeFailed_journal (s : State) (forced : Bool) : (writeFailed s forced).journal = { s.journal with failNext := 0 } :=
  (raiseWith_raised ..).journal

/-- Both banks are named as failing. -/
theorem banksOk_bad (s : State) : (banksOk s).filter (fun b => (3 : BitVec 2).getLsbD b || s.journal.failNext.getLsbD b) = banksOk s := by
  refine List.filter_eq_self.2 fun b ok => ?_
  have two : b = 0 ∨ b = 1 := by
    simp only [banksOk, List.mem_append, List.mem_ite_nil_right, List.mem_singleton] at ok
    exact ok.imp And.right And.right
  rcases two with rfl | rfl
  · rfl
  · rfl

section
variable {s : State} {r : JRec} (ends : s.journal.wr + r.units ≤ bankUnits)
include ends

theorem jWrite_failed (room : ringUsed s + r.units ≤ bankUnits) : ∃ forced, jWrite s r 3 = (writeFailed s forced, .failed) := by
  have noPad : ¬bankUnits < s.journal.wr + r.units := Nat.not_lt.2 ends
  have notFull : ¬bankUnits < ringUsed s + 0 + r.units := Nat.not_lt.2 room
  unfold jWrite
  simp only [noPad, notFull, banksOk_bad, if_false, if_true]
  exact ⟨_, rfl⟩

theorem jWrite_full (notFull : s.bit Reg.JOURNAL.STATUS.FULL 0 = false) (used : bankUnits < ringUsed s + r.units) (fail : BitVec 2) :
    jWrite s r fail = (raiseFault (s.setBit Reg.JOURNAL.STATUS.FULL 0 true) Flt.JOURNAL.FULL noUnit 2, .full) := by
  have noPad : ¬bankUnits < s.journal.wr + r.units := Nat.not_lt.2 ends
  have full : bankUnits < ringUsed s + 0 + r.units := used
  unfold jWrite
  simp only [noPad, full, notFull, Bool.false_eq_true, if_false, if_true]

end

section
variable {s : State} {p : JPost} {rest : List JPost} (posts : s.journal.posts = p :: rest) (unsettled : isSettled s p.seq = false)
include posts unsettled

theorem outcomeJournaled_writes (ready : RingReady s ((48 + p.data.length + 63) / 64)) : Ends (.outcomeJournaled 0) s fun t =>
    ∃ o, t.journal.ring = s.journal.ring ++ [(s.journal.wr, .outcome o)] ∧ o.seq = p.seq ∧ o.outcome = p.outcome ∧ o.col = p.col ∧
      o.data = p.data ∧ o.void = false ∧ t.journal.posts = rest ∧
      t.journal.wr = (s.journal.wr + (48 + p.data.length + 63) / 64) % bankUnits := by
  obtain ⟨t, next, h, w, journal⟩ := outcomeJournaled_written posts unsettled (jWrite_written (r := .outcome (postRecord s p)) ready)
  rw [postTaken_journal, jShow_journal, ringWritten_journal] at journal
  exact ⟨t, next, postRecord s p, congrArg Journal.ring journal, rfl, rfl, rfl, rfl, rfl, congrArg Journal.posts journal,
    congrArg Journal.wr journal⟩

/-- Both banks fail: the post is taken off, the ring stands. -/
theorem outcomeJournaled_fails (live : Live s) (ends : s.journal.wr + (48 + p.data.length + 63) / 64 ≤ bankUnits)
    (room : ringUsed s + (48 + p.data.length + 63) / 64 ≤ bankUnits) : Ends (.outcomeJournaled 3) s fun t =>
      Flagged t Flt.JOURNAL.WRITE noUnit 2 ∧ t.journal.ring = s.journal.ring := by
  obtain ⟨forced, failed⟩ := jWrite_failed (r := .outcome (postRecord s p)) ends room
  have flagged : Flagged (writeFailed s forced) Flt.JOURNAL.WRITE noUnit 2 := raiseWith_flagged (disarmed_live live) _ _ _ _ _
  have ring : (writeFailed s forced).journal.ring = s.journal.ring := by rw [writeFailed_journal]
  refine ⟨_, outcomeJournaled_failed posts unsettled failed, ?_⟩
  split
  · rw [Flagged, postTaken_flags, postTaken_journal]
    exact ⟨flagged, ring⟩
  · rw [Flagged, postTaken_flags, postTaken_journal]
    exact ⟨flagged, ring⟩

theorem outcomeJournaled_full_raises (fail : BitVec 2) (live : Live s) (notFull : s.bit Reg.JOURNAL.STATUS.FULL 0 = false)
    (ends : s.journal.wr + (48 + p.data.length + 63) / 64 ≤ bankUnits) (used : bankUnits < ringUsed s + (48 + p.data.length + 63) / 64) :
    Ends (.outcomeJournaled fail) s fun t => Flagged t Flt.JOURNAL.FULL noUnit 2 ∧ t.journal.ring = s.journal.ring := by
  have live' : Live (s.setBit Reg.JOURNAL.STATUS.FULL 0 true) := setBit_live live 0 true (by decide)
  refine ⟨_, outcomeJournaled_full posts unsettled (jWrite_full (r := .outcome (postRecord s p)) ends notFull used fail),
    raiseFault_flagged live' _ _ _, ?_⟩
  rw [(raiseFault_raised ..).journal, State.setBit_journal]

end

/-! ### Drain (R361) -/

/-- An archive that fits is not trimmed. -/
theorem trimArchive_of_fits {used : Nat} (fits : used ≤ archiveUnits) (l : List JRec) : trimArchive l used = l := by
  cases l with
  | nil => rfl
  | cons r l => exact if_pos fits

theorem foldl_units (l : List JRec) : l.foldl (fun a r => a + r.units) 0 = (l.map JRec.units).sum := by
  rw [List.sum_eq_foldl, List.foldl_map]

/-- The records of a chunk fit in what is left of it. -/
theorem chunkCount_units (left : Nat) (l : List (Nat × JRec)) : ((l.take (chunkCount left l)).map fun p => p.2.units).sum ≤ left := by
  induction l generalizing left with
  | nil => exact Nat.zero_le _
  | cons p l ih =>
    unfold chunkCount
    split
    · next fits =>
      have rest := ih (left - p.2.units)
      rw [List.take_succ_cons, List.map_cons, List.sum_cons]
      omega
    · exact Nat.zero_le _

theorem jFree_journal (s : State) : ∃ ring k, (jFree s).journal = { s.journal with ring := ring, archived := k } := ⟨_, _, jShow_journal _⟩

theorem jFree_archive (s : State) : (jFree s).journal.archive = s.journal.archive := by
  obtain ⟨ring, k, journal⟩ := jFree_journal s
  rw [journal]

theorem jFree_stored (s : State) : (jFree s).journal.stored = s.journal.stored := by
  obtain ⟨ring, k, journal⟩ := jFree_journal s
  rw [journal]

theorem jFree_flags (s : State) : (jFree s).flags = s.flags := jShow_flags _

theorem jFree_net (s : State) : (jFree s).net = s.net := jShow_net _

/-- The run of the ring that a chunk takes. -/
def drainedRun (s : State) : List (Nat × JRec) :=
  (s.journal.ring.drop s.journal.archived).take (chunkCount 1024 (s.journal.ring.drop s.journal.archived))

/-- The records that a chunk takes. -/
def drainedChunk (s : State) : List JRec := (drainedRun s).map Prod.snd

/-- The archive and what of the ring is archived move on. -/
def chunkArchived (s : State) (archive : List JRec) (n : Nat) : State :=
  { s with journal := { s.journal with archive := archive, archived := s.journal.archived + n } }

/-- The archive does not answer any more, and nothing is drained. -/
def archiveLost (s : State) : State := s.setFlds [(Reg.JOURNAL.STATUS.ARCH_DOWN, 0, 1), (Reg.JOURNAL.STATUS.DRAIN, 0, 0)]

section
variable {s : State} (up : s.bit Reg.JOURNAL.STATUS.ARCH_DOWN 0 = false) (live : Live s)
include up live

theorem drainChunk_runs : ¬(s.bit Reg.JOURNAL.STATUS.ARCH_DOWN 0 || !s.collectorUp || s.bit Reg.FAULT.STATUS.TERMINAL 0) = true := by
  simp [up, live.up, live.open']

theorem drainChunk_archives (fits : ((s.journal.archive ++ drainedChunk s).map JRec.units).sum ≤ archiveUnits) :
    Ends (.drainChunk 0) s fun t => t.journal.archive = s.journal.archive ++ drainedChunk s ∧
      ((drainedRun s).map fun p => p.2.units).sum ≤ 1024 ∧ t.flags = s.flags := by
  have kept : trimArchive (s.journal.archive ++ drainedChunk s) ((s.journal.archive ++ drainedChunk s).foldl (fun a r => a + r.units) 0) =
      s.journal.archive ++ drainedChunk s := trimArchive_of_fits (by rw [foldl_units]; exact fits) _
  have next : exec (.drainChunk 0) s =
      .next (jFree (chunkArchived s (s.journal.archive ++ drainedChunk s) (chunkCount 1024 (s.journal.ring.drop s.journal.archived)))) := by
    show execDrainChunk 0 s = _
    unfold execDrainChunk
    rw [if_neg (drainChunk_runs up live), if_neg (by decide)]
    simp only [decide_true, Bool.true_or, if_true]
    rw [← drainedRun, ← drainedChunk, kept]
    rfl
  exact ⟨_, next, jFree_archive _, chunkCount_units _ _, jFree_flags _⟩

theorem drainChunk_loses : Ends (.drainChunk 3) s fun t =>
    Flagged t Flt.JOURNAL.ARCHIVE noUnit 0 ∧ t.journal.archive = s.journal.archive := by
  have live' : Live (archiveLost s) := setFlds_live live _ rfl
  have journal : (archiveLost s).journal = s.journal := setFlds_view _ State.setFld_journal ..
  refine ⟨raiseFault (archiveLost s) Flt.JOURNAL.ARCHIVE noUnit 0, (if_neg (drainChunk_runs up live)).trans (if_pos rfl),
    raiseFault_flagged live' _ _ _, ?_⟩
  rw [(raiseFault_raised ..).journal, journal]

end

/-! ### Persistent values (R316) -/

/-- The value of an entry is stored with the SEQ of its write. -/
def valueStored (s : State) (e : JEntry) (q : Nat) : State :=
  { s with
    net := { s.net with values := smapSet (fun _ => (0, [])) s.net.values (e.index * 256 + e.sub) (e.seq, e.value) },
    journal := { s.journal with stored := q :: s.journal.stored } }

theorem persistentStore_ends {s : State} {o : JOutcome} {e : JEntry} (cool : s.storeHot = false) (up : s.collectorUp = true)
    (oldest : (s.journal.ring.findSome? fun p => p.2.outcome?.filter fun o => !jPasses s (.outcome o)) = some o)
    (entry : entryOf s o.seq = some e) : Ends .persistentStore s fun t =>
      smapGet (fun _ => (0, [])) t.net.values (e.index * 256 + e.sub) = (e.seq, e.value) ∧ o.seq ∈ t.journal.stored ∧
        t.net.clients = s.net.clients := by
  have next : exec .persistentStore s = .next (jFree (valueStored s e o.seq)) := by
    show execPersistentStore s = _
    unfold execPersistentStore
    rw [if_neg (by simp [cool, up]), oldest]
    dsimp only
    rw [entry]
    rfl
  refine ⟨_, next, ?_, ?_, ?_⟩
  · rw [jFree_net]
    exact smapGet_set_same (fun _ => (0, [])) s.net.values _ _
  · rw [jFree_stored]
    exact List.mem_cons_self
  · rw [jFree_net]
    rfl

/-! ### Forces (R367) -/

/-- The next write's verify is forced in the named banks too. -/
def armed (s : State) (banks : BitVec 2) : State := { s with journal := { s.journal with failNext := s.journal.failNext ||| banks } }

theorem armed_bank (s : State) {banks : BitVec 2} {k : Nat} (named : banks.getLsbD k = true) :
    (armed s banks).journal.failNext.getLsbD k = true := by
  show (s.journal.failNext ||| banks).getLsbD k = true
  rw [BitVec.getLsbD_or, named, Bool.or_true]

theorem journalForce_arms {s : State} {b : By} (forced : Forced s b) :
    (Ends (.journalForceBank0 b) s fun t => t.journal.failNext.getLsbD 0 = true ∧ t.journal.ring = s.journal.ring) ∧
    (Ends (.journalForceBank1 b) s fun t => t.journal.failNext.getLsbD 1 = true ∧ t.journal.ring = s.journal.ring) := by
  have bank0 : exec (.journalForceBank0 b) s = .next (armed s 1) := congrArg Host.Outcome.next (gated_enabled forced (armed · 1))
  have bank1 : exec (.journalForceBank1 b) s = .next (armed s 2) := congrArg Host.Outcome.next (gated_enabled forced (armed · 2))
  exact ⟨⟨_, bank0, armed_bank s rfl, rfl⟩, ⟨_, bank1, armed_bank s rfl, rfl⟩⟩

/-! ### Named cols (R75, R359) -/

/-- A settlement of the sequencer's own. -/
def ownOutcome (q outcome col : Nat) (data : List Byte) : JPost :=
  { seq := q, outcome := outcome, reason := 0, bind := 0xFFFF, grant := 0, col := col, data := data, own := true }

/-- An unsettled SEQ without a post gets one of the sequencer's own. -/
theorem ownPost_posts {s : State} {q : Nat} (unsettled : isSettled s q = false) (free : ∀ p ∈ s.journal.posts, p.seq ≠ q)
    (outcome col : Nat) (data : List Byte) :
    (ownPost s q outcome col data).journal.posts = s.journal.posts ++ [ownOutcome q outcome col data] := by
  have posts : ¬(isSettled s q || s.journal.posts.any fun p => p.seq == q) = true := by simpa [unsettled] using free
  rw [ownPost, if_neg posts]
  rfl

section
variable {s : State} {e : JEntry} (runs : s.planRuns = true) (unsettled : isSettled s e.seq = false)
  (free : ∀ p ∈ s.journal.posts, p.seq ≠ e.seq)
include unsettled free

/-- The post of a command of the col that settles APPLIED with its data. -/
theorem ownPost_settles (data : List Byte) : ∃ p, (jShow (ownPost s e.seq 1 s.colNum data)).journal.posts = s.journal.posts ++ [p] ∧
    p.seq = e.seq ∧ p.outcome = 1 ∧ p.col = s.colNum ∧ p.data = data :=
  ⟨ownOutcome e.seq 1 s.colNum data, by rw [jShow_journal, ownPost_posts unsettled free], rfl, rfl, rfl, rfl⟩

include runs

theorem namedColSnapshot_settles (named : namedFor s 0 s.colNum = [e]) : Ends .namedColSnapshot s fun t =>
    ∃ p, t.journal.posts = s.journal.posts ++ [p] ∧ p.seq = e.seq ∧ p.outcome = 1 ∧ p.col = s.colNum ∧ p.data = snapshotData s := by
  have next : exec .namedColSnapshot s = .next (jShow (ownPost s e.seq 1 s.colNum (snapshotData s))) := by
    show execNamedColSnapshot s = _
    rw [execNamedColSnapshot, if_neg (by simp [runs]), named]
    rfl
  exact ⟨_, next, ownPost_settles unsettled free _⟩

theorem barrierReport_settles (named : namedFor s 1 s.colNum = [e]) : Ends .barrierReport s fun t =>
    ∃ p, t.journal.posts = s.journal.posts ++ [p] ∧ p.seq = e.seq ∧ p.outcome = 1 ∧ p.col = s.colNum ∧ p.data = barrierData s := by
  have next : exec .barrierReport s = .next (jShow (ownPost s e.seq 1 s.colNum (barrierData s))) := by
    show execBarrierReport s = _
    rw [execBarrierReport, if_neg (by simp [runs]), named]
    rfl
  exact ⟨_, next, ownPost_settles unsettled free _⟩

end

/-! ### The staged reset (R37, R75, R359) -/

theorem hbResetBrake_stands (s : State) (n : Nat) : (hbResetBrake s n).stands = s.stands := by simp [hbResetBrake, hbSet]

theorem vdResetBegin_stands (s : State) (n : Nat) : (vdResetBegin s n).stands = s.stands := by simp [vdResetBegin, vdSetD, State.setPair]

theorem lswHold_stands (s : State) (n at' : Nat) : (lswHold s n at').stands = s.stands := by simp [lswHold]

theorem sinkHold_stands (s : State) (n at' : Nat) : (sinkHold s n at').stands = s.stands := by simp [sinkHold]

theorem matrixHold_stands (s : State) (at' : Nat) : (matrixHold s at').stands = s.stands :=
  setBit_stands s Reg.LIGHT.MXSTAT.HOLDOVER 0 true

/-- A hold-over that begins touches no store. -/
theorem holdDies_stands (s : State) (die : Nat → Bool) (at' : Nat) : (holdDies s die at').stands = s.stands := by
  simp [holdDies, lswHold_stands, sinkHold_stands, matrixHold_stands, hbResetBrake_stands, vdResetBegin_stands]

theorem logicReset_journal (s : State) : (logicReset s).journal = s.journal := by simp [logicReset, linkBits]

theorem beforeReset_journal (s : State) : (beforeReset s).journal = s.journal := by
  have down (u : State) : State.stands { u with collectorUp := false } = u.stands := rfl
  have held : Raised s { holdDies s (fun _ => true) s.now with collectorUp := false } := .of_stands ((down _).trans (holdDies_stands s _ _))
  rw [beforeReset, (settleRaises_raised _).journal, (Raised.of_stands (roundStop_stands _)).journal, (settleRaises_raised _).journal,
    held.journal]

/-- A controller reset leaves the journal. -/
theorem controllerReset_journal {s : State} (on : s.dom.logic = true) : (controllerReset s).journal = s.journal := by
  have before := beforeReset_journal s
  rw [controllerReset_eq on]
  generalize beforeReset s = u at before ⊢
  exact (logicReset_journal u).trans before

/-- The outcome record of a staged reset. -/
def resetRecord (s : State) (e : JEntry) : JOutcome :=
  { outcome := 1, reason := 0, bind := 0xFFFF, seq := e.seq, col := s.colNum, when' := s.now, grant := 0, client := e.client,
    data := [], void := false }

theorem settleNow_written {s : State} (e : JEntry) (ready : RingReady s 1) :
    settleNow s e = jShow (ringWritten s (.outcome (resetRecord s e))) := by
  have units : (JRec.outcome (resetRecord s e)).units = 1 := by simp [JRec.units, resetRecord]
  exact congrArg Prod.fst (jWrite_written (units ▸ ready))

theorem stagedControllerReset_resets {s : State} {e : JEntry} (runs : s.planRuns = true) (named : namedFor s 2 s.colNum = [e])
    (on : s.dom.logic = true) (ready : RingReady s 1) : Ends .stagedControllerReset s fun t => t.boot = 2 ∧
      ∃ o, t.journal.ring = s.journal.ring ++ [(s.journal.wr, .outcome o)] ∧ o.seq = e.seq ∧ o.outcome = 1 ∧ o.col = s.colNum := by
  have next : exec .stagedControllerReset s = .next (controllerReset (settleNow s e)) := by
    show execStagedControllerReset s = _
    unfold execStagedControllerReset
    rw [if_neg (by simp [runs]), named]
    rfl
  have on' : (settleNow s e).dom.logic = true := by
    rw [settleNow_written e ready, jShow_unshown (fun t => t.dom) State.setFld_dom, ringWritten, State.setBit_dom]
    exact on
  refine ⟨_, next, (controllerReset_stopped on').1, resetRecord s e, ?_, rfl, rfl, rfl⟩
  rw [controllerReset_journal on', settleNow_written e ready, jShow_journal, ringWritten_journal]

/-- Settles O39: a post joins the queue or is rejected; the oldest is written, fails, or finds the ring full; drained chunks and
persistent values are stored; the commands of a named col settle, the staged reset before its reset begins. -/
theorem journalSettlesAndDrains : Obligations.JournalSettlesAndDrains := by
  unfold Obligations.JournalSettlesAndDrains
  refine ⟨?post, ?write, ?drain, ?persist, ?force, ?named⟩
  case post =>
    intro s b outcome reason bind priv q
    exact ⟨outPost_joins reason bind priv, outPost_rejected reason bind priv⟩
  case write =>
    intro s fail p rest posts unsettled u
    refine ⟨?_, ?_, outcomeJournaled_full_raises posts unsettled fail⟩
    · rintro rfl unarmed bank ends room
      exact outcomeJournaled_writes posts unsettled ⟨unarmed, bank, ends, room⟩
    · rintro live rfl ends room
      exact outcomeJournaled_fails posts unsettled live ends room
  case drain =>
    intro s up live
    exact ⟨drainChunk_archives up live, drainChunk_loses up live⟩
  case persist =>
    intro s o e cool up oldest entry
    exact persistentStore_ends cool up oldest entry
  case force =>
    intro s b forced
    exact journalForce_arms forced
  case named =>
    intro s e runs unsettled free
    refine ⟨namedColSnapshot_settles runs unsettled free, barrierReport_settles runs unsettled free, ?_⟩
    intro named on unarmed bank ends room
    exact stagedControllerReset_resets runs named on ⟨unarmed, bank, ends, room⟩

end Sys2Proof.Machine
end
